-- ==== Sys2Proof/Word.lean ====
section
/-!
DEFINITION. Words, fields, bytes, CRCs and sparse tables: the plain data of the DL6400 model.
A word is 32 bits, bit 0 the least significant (spec/00_scope.md R11).
-/

set_option Elab.async false

namespace Sys2Proof

/-- A word of a packet, a reply, an event record or the BAR0 window (R11). -/
abbrev Word := BitVec 32

/-- One byte (R11: words are stored little-endian). -/
abbrev Byte := BitVec 8

/-- The field of bits `hi` down to `lo` of a word, as a number (R11). -/
def Word.fld (w : Word) (hi lo : Nat) : Nat := (w.toNat >>> lo) % 2 ^ (hi + 1 - lo)

/-- The field of bits `hi` down to `lo` read as a two's-complement number. -/
def Word.sfld (w : Word) (hi lo : Nat) : Int :=
  let v := w.fld hi lo
  if v < 2 ^ (hi - lo) then (v : Int) else (v : Int) - (2 ^ (hi + 1 - lo) : Nat)

/-- One bit of a word as a Boolean. -/
def Word.bit (w : Word) (i : Nat) : Bool := w.fld i i == 1

/-- A Boolean as a one-bit number. -/
def b2n (b : Bool) : Nat := if b then 1 else 0

/-- The low `n` bits of an integer's two's complement, as a number. -/
def Int.bits (n : Nat) (x : Int) : Nat := (x % (2 ^ n : Nat)).toNat

/-- A word made of fields, each given as (high bit, low bit, value); a value is cut to its field. -/
def mkw (fs : List (Nat × Nat × Nat)) : Word :=
  BitVec.ofNat 32 (fs.foldl (fun a f => a + (f.2.2 % 2 ^ (f.1 + 1 - f.2.1)) <<< f.2.1) 0)

/-- A word holding a number. -/
def w32 (n : Nat) : Word := BitVec.ofNat 32 n

/-- A 64-bit (or 48-bit) value as two words, low half first (R11). -/
def words64 (n : Nat) : List Word := [w32 n, w32 (n >>> 32)]

/-- A number brought down to a greatest value. -/
def sat (m n : Nat) : Nat := if n < m then n else m

/-- The four bytes of a word in storage order, least significant first (R11, R43). -/
def Word.bytes (w : Word) : List Byte :=
  [BitVec.ofNat 8 w.toNat, BitVec.ofNat 8 (w.toNat >>> 8), BitVec.ofNat 8 (w.toNat >>> 16),
   BitVec.ofNat 8 (w.toNat >>> 24)]

/-- The bytes of a list of words in storage order. -/
def bytesOf (ws : List Word) : List Byte := ws.flatMap Word.bytes

/-- Words gathered from bytes in storage order; a last partial word is filled with zero bytes. -/
def wordsOf : List Byte → List Word
  | a :: b :: c :: d :: r =>
      BitVec.ofNat 32 (a.toNat + b.toNat * 256 + c.toNat * 65536 + d.toNat * 16777216) :: wordsOf r
  | [] => []
  | [a] => [BitVec.ofNat 32 a.toNat]
  | [a, b] => [BitVec.ofNat 32 (a.toNat + b.toNat * 256)]
  | [a, b, c] => [BitVec.ofNat 32 (a.toNat + b.toNat * 256 + c.toNat * 65536)]

/-- A number read from bytes, least significant first. -/
def leNat : List Byte → Nat
  | [] => 0
  | b :: r => b.toNat + 256 * leNat r

/-- `n` bytes of a number, least significant first. -/
def leBytes : Nat → Nat → List Byte
  | 0, _ => []
  | n + 1, v => BitVec.ofNat 8 v :: leBytes n (v / 256)

/-- One bit of the reflected CRC-32 register (R43: IEEE 802.3 polynomial, reflected). -/
def crc32Bit (c : Nat) : Nat := if c % 2 = 1 then (c / 2) ^^^ 0xEDB88320 else c / 2

/-- One byte into the CRC-32 register. -/
def crc32Byte (c : Nat) (b : Byte) : Nat :=
  crc32Bit (crc32Bit (crc32Bit (crc32Bit (crc32Bit (crc32Bit (crc32Bit (crc32Bit (c ^^^ b.toNat))))))))

/-- The CRC-32 of R43: initial value and final XOR 0xFFFF_FFFF. -/
def crc32 (bs : List Byte) : Nat := bs.foldl crc32Byte 0xFFFFFFFF ^^^ 0xFFFFFFFF

/-! ### Sparse tables: rising keys, no entry equal to what an unlisted key reads as -/

/-- A table of entries by number: rising keys, the default entry never listed. -/
abbrev Tab (α : Type) := List (Nat × α)

/-- The entry of a key, `d` where the table lists none. -/
def Tab.get {α : Type} (d : α) : Tab α → Nat → α
  | [], _ => d
  | (k, v) :: r, i => if i = k then v else Tab.get d r i

/-- A table without the entry of a key. -/
def Tab.drop {α : Type} (t : Tab α) (i : Nat) : Tab α := t.filter fun e => e.1 != i

/-- Put an entry, keeping the canonical form: an entry equal to the default is left out. -/
def Tab.set {α : Type} [DecidableEq α] (d : α) : Tab α → Nat → α → Tab α
  | [], i, x => if x = d then [] else [(i, x)]
  | (k, v) :: r, i, x =>
    if i < k then (if x = d then (k, v) :: Tab.drop r i else (i, x) :: (k, v) :: r)
    else if i = k then (if x = d then Tab.drop r i else (i, x) :: r)
    else (k, v) :: Tab.set d r i x

/-- Change an entry by a function. -/
def Tab.upd {α : Type} [DecidableEq α] (d : α) (t : Tab α) (i : Nat) (f : α → α) : Tab α :=
  Tab.set d t i (f (Tab.get d t i))

/-- The keys of a table are all above `n` and rise, and no entry is the default. -/
def Tab.wfFrom {α : Type} [DecidableEq α] (d : α) : Nat → Tab α → Bool
  | _, [] => true
  | n, (k, v) :: r => decide (n ≤ k) && decide (v ≠ d) && Tab.wfFrom d (k + 1) r

/-- The canonical form of a table. -/
def Tab.wf {α : Type} [DecidableEq α] (d : α) (t : Tab α) : Bool := Tab.wfFrom d 0 t

/-- Two like things, numbered 0 and 1: the line ports, the interfaces. -/
structure P2 (α : Type) where
  a : α
  b : α
  deriving DecidableEq, Repr

/-- One of the two. -/
def P2.get {α : Type} (x : P2 α) (p : Fin 2) : α := if p = 0 then x.a else x.b

/-- Replace one of the two. -/
def P2.set {α : Type} (x : P2 α) (p : Fin 2) (v : α) : P2 α :=
  if p = 0 then { x with a := v } else { x with b := v }

/-- Change one of the two. -/
def P2.upd {α : Type} (x : P2 α) (p : Fin 2) (f : α → α) : P2 α := x.set p (f (x.get p))

/-- A line port: 0 is LINE0 (region 0x12), 1 is LINE1 (region 0x13) (spec/01 Table 1-2). -/
abbrev Port := Fin 2

/-- An interface: 0 is PCI Express, 1 is SPI (spec/02 R51). -/
abbrev Iface := Fin 2

/-- A queue: 0 URGENT, 1 ROUTINE, 2 BULK, 3 LONG (spec/02 Table 2-6). -/
abbrev Queue := Fin 4

/-- A command packet that has passed checks 1 and 2 of Table 2-4, on the interface and queue it arrived on
(spec/02 R42, Table 2-1; the opcode is the constructor of `Instr` that carries it). -/
structure Cmd where
  /-- the interface it was taken from -/
  iface : Iface
  /-- the queue it arrived on -/
  queue : Queue
  /-- SEQ, word 0 [15:8] -/
  seq : Byte
  /-- FLAGS, word 0 [7:0]: bit 1 FENCE, bit 0 DRY_RUN -/
  flags : Byte
  /-- TARGET, word 1 [19:0] -/
  target : BitVec 20
  /-- the parameter words; LENGTH is their number -/
  params : List Word
  deriving DecidableEq, Repr

/-- Parameter word `i`, zero where there is none. -/
def Cmd.p (c : Cmd) (i : Nat) : Word := c.params.getD i 0

/-- DRY_RUN, FLAGS bit 0. -/
def Cmd.dry (c : Cmd) : Bool := c.flags.toNat % 2 == 1

/-- FENCE, FLAGS bit 1. -/
def Cmd.fence (c : Cmd) : Bool := c.flags.toNat / 2 % 2 == 1

/-- The region, block and cell of a TARGET (spec/00 R13). -/
def haOf (region block cell : Nat) : Nat := region * 4096 + block * 64 + cell
def haRegion (ha : Nat) : Nat := ha / 4096 % 256
def haBlock (ha : Nat) : Nat := ha / 64 % 64
def haCell (ha : Nat) : Nat := ha % 64

/-- The line port a TARGET names: LINE1 for region 0x13, else LINE0. -/
def Cmd.port (c : Cmd) : Port := if haRegion c.target.toNat = 0x13 then 1 else 0

end Sys2Proof
end

