-- ==== Sys2Proof/Syntax.lean ====
section
/-!
DEFINITION. The commands of the DL6400 as syntax: one constructor per row of spec/opcode_table.json.
-/

set_option Elab.async false

namespace Sys2Proof

/-- A direction of a boundary FIFO (spec/01 R31): inbound is from the island to the fabric. -/
inductive Dir where
  | inbound
  | outbound
  deriving DecidableEq, Repr

/-- The estimates of Table 3-17. -/
structure RxEst where
  dgd : Nat := 0
  residual : Int := 0
  freq : Int := 0
  snr : Nat := 0
  pdl : Nat := 0
  polRate : Nat := 0
  clock : Int := 0
  deriving DecidableEq, Repr

/-- What an SRAM word holds: the rows of spec/17 Table 17-2, with the unit concerned. Directions: 0 receive, 1 transmit. -/
inductive Content where
  | rewind
  | fecMessage (p : Port) (span : Nat)
  | llr
  | payload
  /-- a cached flow record; `changed` since its fill, and so mirrored; `mirror` reads clean (Table 17-9) -/
  | record (f : Nat) (changed mirror : Bool)
  | tail (f : Nat)
  | ingress (i : Fin 256)
  | egress (i : Fin 256)
  | cls (key : Nat)
  | eq (key : Nat)
  | bolt (d : Fin 2) (b : Nat)
  | thread (d : Fin 2) (t : Nat)
  | guard (d : Fin 2) (t : Nat)
  | priority (d : Fin 4) (c : Nat)
  | sequence (src : Nat)
  | dpll (d : Fin 4)
  | crierQueue (k : Fin 4)
  | crierObject (k : Fin 4)
  | control
  deriving DecidableEq, Repr

/-- The commands of the block: one constructor per row of spec/opcode_table.json, in the table's order. The first 149
are packets of the command protocol that have passed checks 1 and 2 of Table 2-4 (the constructor is the opcode); the
rest are happenings, whose operands carry what the outside world or the analogue circuits decide. -/
inductive Instr where
  /-- CLERK_NOP (spec/02 R72): Echoes its parameter words unchanged on any queue. -/
  | clerkNop (c : Cmd)
  /-- CLERK_JOB_RESULT (spec/02 R72): Returns the state, final status and results of a LONG job by job number. -/
  | clerkJobResult (c : Cmd)
  /-- CLERK_JOB_CANCEL (spec/02 R72): Asks a running job to stop at its next consistent step and end ABORTED. -/
  | clerkJobCancel (c : Cmd)
  /-- CLERK_PROTO_COUNTERS (spec/02 R72): Returns the nine protocol counters of one interface. -/
  | clerkProtoCounters (c : Cmd)
  /-- CLERK_EVENT_FILTER_SET (spec/02 R63): Sets the least severity delivered per opcode group on one interface. -/
  | clerkEventFilterSet (c : Cmd)
  /-- CLERK_BOOT_STATUS (spec/20 R524): Reports the cause, slot, fallback, timing and retirements of the last boot. -/
  | clerkBootStatus (c : Cmd)
  /-- CLERK_MAP_READ (spec/01 R24): Returns one snapshot of a region's pool role and the state of each physical block. -/
  | clerkMapRead (c : Cmd)
  /-- CLERK_FIFO_IDLE_SET (spec/01 R31): Sets the idle limit of the boundary FIFOs named by the target. -/
  | clerkFifoIdleSet (c : Cmd)
  /-- TIMING_CONFIG (spec/13 R368): Sets crystal preference and backup, holdover master, SSM option and tick source. -/
  | timingConfig (c : Cmd)
  /-- TIMING_REF_SET (spec/13 R387): Configures one reference candidate and returns it to INACTIVE to qualify afresh. -/
  | timingRefSet (c : Cmd)
  /-- TIMING_DPLL_SET (spec/13 R388): Sets bandwidth, holdover, drift, disagreement and frame-phase settings of one DPLL. -/
  | timingDpllSet (c : Cmd)
  /-- TIMING_PRIO_SET (spec/13 R388): Sets the candidate priorities and REVERT of one DPLL. -/
  | timingPrioSet (c : Cmd)
  /-- TIMING_OUT_SET (spec/13 R389): Configures one clock or frame-pulse output. -/
  | timingOutSet (c : Cmd)
  /-- TIMING_FP_ALIGN (spec/13 R383): Steps or slews a frame-pulse output to its DPLL's frame phase. -/
  | timingFpAlign (c : Cmd)
  /-- TIMING_FORCE (spec/13 R390): Forces a DPLL to a reference or to holdover, or clears the force. -/
  | timingForce (c : Cmd)
  /-- TIMING_TOD_SET (spec/13 R385): Sets the TAI seconds count to take effect at the next tick. -/
  | timingTodSet (c : Cmd)
  /-- TIMING_STATUS (spec/13 R385): Returns crystal state, latest tick time, time of day and frame-pulse errors. -/
  | timingStatus (c : Cmd)
  /-- TIMING_REF_STATUS (spec/13 R386): Returns state, QL, users and offset of every candidate. -/
  | timingRefStatus (c : Cmd)
  /-- TIMING_DPLL_STATUS (spec/13 R386): Returns one snapshot of a DPLL's state, bandwidth, phase and estimate. -/
  | timingDpllStatus (c : Cmd)
  /-- TIMING_COUNTERS (spec/13 R391): Returns the twelve timing counters. -/
  | timingCounters (c : Cmd)
  /-- ASSAY_TIMER_SET (spec/15 R430): Enables and sets the period of one telemetry timer. -/
  | assayTimerSet (c : Cmd)
  /-- ASSAY_SEQ_SET (spec/15 R430): Sets the channel sequence and delay of one trigger source. -/
  | assaySeqSet (c : Cmd)
  /-- ASSAY_CHAN_SET (spec/15 R434): Sets the decimation preset and window comparator of one channel. -/
  | assayChanSet (c : Cmd)
  /-- ASSAY_TELEM_READ (spec/15 R429): Returns the latest result of a range of telemetry channels. -/
  | assayTelemRead (c : Cmd)
  /-- ASSAY_PWM_SET (spec/15 R444): Configures one PWM output's enable, period and duty. -/
  | assayPwmSet (c : Cmd)
  /-- ASSAY_BIAS_SET (spec/15 R444): Configures and enables or disables one bias loop. -/
  | assayBiasSet (c : Cmd)
  /-- ASSAY_BIAS_STATUS (spec/15 R436): Returns state, duty, margin, error and sweep extremes of one loop. -/
  | assayBiasStatus (c : Cmd)
  /-- ASSAY_CAL_RUN (spec/15 R437): Starts a calibration job of one kind and subject. -/
  | assayCalRun (c : Cmd)
  /-- ASSAY_CAL_SET (spec/15 R437): Sets the background period of one calibration kind. -/
  | assayCalSet (c : Cmd)
  /-- ASSAY_QUALITY_READ (spec/15 R439): Returns quality records of one measure. -/
  | assayQualityRead (c : Cmd)
  /-- ASSAY_PACE_STATUS (spec/15 R441): Returns the VDD_CORE command, read-back, worst region and margin. -/
  | assayPaceStatus (c : Cmd)
  /-- ASSAY_COUNTERS (spec/15 R445): Returns the twelve Assay counters. -/
  | assayCounters (c : Cmd)
  /-- CRIER_PORT_SET (spec/14 R419): Configures one Crier transmitter or listener. -/
  | crierPortSet (c : Cmd)
  /-- CRIER_UNIT_SET (spec/14 R420): Sets the unit's domain role, domain, time port and rejoin address. -/
  | crierUnitSet (c : Cmd)
  /-- CRIER_SEND (spec/14 R421): Queues a host packet on a link or into the domain. -/
  | crierSend (c : Cmd)
  /-- CRIER_RECEIVE (spec/14 R422): Removes and returns the oldest entry of the Crier receive buffer. -/
  | crierReceive (c : Cmd)
  /-- CRIER_ADMIT (spec/14 R423): Admits or refuses a join request, or removes a member, at the registrar. -/
  | crierAdmit (c : Cmd)
  /-- CRIER_MEMBER_READ (spec/14 R423): Returns member records of the registrar's table. -/
  | crierMemberRead (c : Cmd)
  /-- CRIER_STATUS (spec/14 R418): Returns one snapshot of a listener, its transmitter and the domain state. -/
  | crierStatus (c : Cmd)
  /-- CRIER_COUNTERS (spec/14 R424): Returns the twelve counters of one Crier port. -/
  | crierCounters (c : Cmd)
  /-- STORE_PART_CREATE (spec/09 R288): Creates a partition in the lowest free bays and returns its epoch. -/
  | storePartCreate (c : Cmd)
  /-- STORE_PART_RESIZE (spec/09 R278): Starts a job growing or shrinking a SKEW or QUEUE partition. -/
  | storePartResize (c : Cmd)
  /-- STORE_PART_DELETE (spec/09 R289): Releases every bay of a partition at once. -/
  | storePartDelete (c : Cmd)
  /-- STORE_PART_SET (spec/09 R288): Sets OVERFLOW and HOLD_LIMIT of a partition. -/
  | storePartSet (c : Cmd)
  /-- STORE_PART_STATUS (spec/09 R287): Returns one snapshot of a partition. -/
  | storePartStatus (c : Cmd)
  /-- STORE_STATUS (spec/09 R286): Returns stack states, protection, free bays, demand and epoch. -/
  | storeStatus (c : Cmd)
  /-- STORE_COUNTERS (spec/09 R292): Returns the twelve Storehouse counters. -/
  | storeCounters (c : Cmd)
  /-- STORE_STACK_RETIRE (spec/09 R290): Moves a WORKING stack to LOST. -/
  | storeStackRetire (c : Cmd)
  /-- STORE_STACK_RESTORE (spec/09 R273): Starts a job that retrains, tests and rebuilds a LOST stack. -/
  | storeStackRestore (c : Cmd)
  /-- STORE_INJECT (spec/09 R291): Arms a CRC failure for the next stripe read of a partition. -/
  | storeInject (c : Cmd)
  /-- LOOM_PORT_CONFIG (spec/08 R251): Sets MATCH_ERR and LABEL_DOWN of one port. -/
  | loomPortConfig (c : Cmd)
  /-- LOOM_BOLT_SET (spec/08 R252): Replaces or deletes the nominal members of one bolt. -/
  | loomBoltSet (c : Cmd)
  /-- LOOM_THREAD_SET (spec/08 R253): Defines, moves or deletes up to 1,022 threads at one commit. -/
  | loomThreadSet (c : Cmd)
  /-- LOOM_PROT_SET (spec/08 R254): Forms or dissolves a protection pair. -/
  | loomProtSet (c : Cmd)
  /-- LOOM_PROT_SWITCH (spec/08 R247): Sets or clears a protection request on a receive pair. -/
  | loomProtSwitch (c : Cmd)
  /-- LOOM_PORT_STATUS (spec/08 R251): Returns one snapshot of a port's framing state. -/
  | loomPortStatus (c : Cmd)
  /-- LOOM_BOLT_STATUS (spec/08 R251): Returns one snapshot of a bolt's state, pair and skew. -/
  | loomBoltStatus (c : Cmd)
  /-- LOOM_THREAD_STATUS (spec/08 R255): Returns one word per thread of a range. -/
  | loomThreadStatus (c : Cmd)
  /-- LOOM_PM_READ (spec/08 R256): Returns per-second counts of one latched second. -/
  | loomPmRead (c : Cmd)
  /-- LOOM_MAP_READ (spec/08 R257): Returns the slot placement in force for one port and direction. -/
  | loomMapRead (c : Cmd)
  /-- LOOM_COUNTERS (spec/08 R258): Returns the twelve Loom counters of one port. -/
  | loomCounters (c : Cmd)
  /-- FLOW_IFACE_SET (spec/10 R297): Sets the classification mode of one client interface. -/
  | flowIfaceSet (c : Cmd)
  /-- FLOW_SET (spec/10 R319): Defines, moves or deletes up to 511 flows at one commit. -/
  | flowSet (c : Cmd)
  /-- FLOW_CLASS_MAP (spec/10 R297): Adds or removes up to 1,022 classification keys. -/
  | flowClassMap (c : Cmd)
  /-- FLOW_THREAD_SET (spec/10 R320): Sets kind, egress, replacement and LEN_ADJ of a thread. -/
  | flowThreadSet (c : Cmd)
  /-- FLOW_STATUS (spec/10 R321): Returns two words per flow of a range. -/
  | flowStatus (c : Cmd)
  /-- FLOW_COUNTERS (spec/10 R322): Returns four counters of one flow in one direction. -/
  | flowCounters (c : Cmd)
  /-- FLOW_REGION_COUNTERS (spec/10 R322): Returns the twelve FLOW region counters. -/
  | flowRegionCounters (c : Cmd)
  /-- CIPH_KEY_LOAD (spec/10 R315): Unwraps a key under the KEK into a slot of one cipher context. -/
  | ciphKeyLoad (c : Cmd)
  /-- CIPH_ROLLOVER (spec/10 R316): Schedules a transmit context to roll to its next key at a multiframe. -/
  | ciphRollover (c : Cmd)
  /-- CIPH_CTX_STATUS (spec/10 R325): Returns key slot state and counters of one context. -/
  | ciphCtxStatus (c : Cmd)
  /-- CIPH_POOL_STATUS (spec/10 R325): Returns one snapshot of the cipher pool. -/
  | ciphPoolStatus (c : Cmd)
  /-- CIPH_COUNTERS (spec/10 R326): Returns the twelve cipher counters. -/
  | ciphCounters (c : Cmd)
  /-- FEC_PORT_CONFIG (spec/06 R184): Sets early stop, MAX_ITER and FEC overhead of a receive port at a span boundary. -/
  | fecPortConfig (c : Cmd)
  /-- FEC_PORT_STATUS (spec/06 R187): Returns one snapshot of a port's decoding. -/
  | fecPortStatus (c : Cmd)
  /-- FEC_PORT_COUNTERS (spec/06 R188): Returns the ten decoding counters of a port. -/
  | fecPortCounters (c : Cmd)
  /-- FEC_POOL_STATUS (spec/06 R175): Returns one snapshot of the decoder pool. -/
  | fecPoolStatus (c : Cmd)
  /-- FEC_REGION_COUNTERS (spec/06 R188): Returns the six counters of one FEC region. -/
  | fecRegionCounters (c : Cmd)
  /-- FEC_CODE_READ (spec/06 R185): Returns one part of the edge list of an overhead's code. -/
  | fecCodeRead (c : Cmd)
  /-- FEC_INJECT (spec/06 R186): Arms a fault for the next decode of the port. -/
  | fecInject (c : Cmd)
  /-- LINE_RX_CONFIG (spec/03 R104): Sets symbol rate, modulation, entropy, swap and inversion of a receive port in OFF. -/
  | lineRxConfig (c : Cmd)
  /-- LINE_RX_ENABLE (spec/03 R101): Enables a receive port to SIGNAL_WAIT or disables it to OFF. -/
  | lineRxEnable (c : Cmd)
  /-- LINE_RX_CD_SET (spec/03 R102): Sets dispersion value, mode, centre frequency and alternative. -/
  | lineRxCdSet (c : Cmd)
  /-- LINE_RX_CD_SCAN (spec/03 R103): Starts a job scanning a dispersion range with the estimator. -/
  | lineRxCdScan (c : Cmd)
  /-- LINE_RX_EQ_SET (spec/03 R104): Sets equaliser taps, step size and adaptation. -/
  | lineRxEqSet (c : Cmd)
  /-- LINE_RX_LOOP_SET (spec/03 R104): Sets timing bandwidth and phase averaging. -/
  | lineRxLoopSet (c : Cmd)
  /-- LINE_RX_FRONT_SET (spec/03 R104): Sets converter deskew and LOS thresholds. -/
  | lineRxFrontSet (c : Cmd)
  /-- LINE_RX_STATUS (spec/03 R98): Returns one snapshot of the receive port. -/
  | lineRxStatus (c : Cmd)
  /-- LINE_RX_COUNTERS (spec/03 R105): Returns the twelve receive counters. -/
  | lineRxCounters (c : Cmd)
  /-- LINE_TX_CONFIG (spec/05 R157): Sets rate, modulation, entropy, swap, inversion, overhead and roll-off in OFF. -/
  | lineTxConfig (c : Cmd)
  /-- LINE_TX_ENABLE (spec/05 R157): Moves a transmit port between OFF and MUTED. -/
  | lineTxEnable (c : Cmd)
  /-- LINE_TX_MUTE (spec/05 R158): Soft mutes, hard mutes or unmutes a transmit port. -/
  | lineTxMute (c : Cmd)
  /-- LINE_TX_RAMP_SET (spec/05 R151): Sets the ramp time of drive changes. -/
  | lineTxRampSet (c : Cmd)
  /-- LINE_TX_PRECOMP_SET (spec/05 R145): Sets dispersion pre-compensation, at once or by cross-fade. -/
  | lineTxPrecompSet (c : Cmd)
  /-- LINE_TX_BACK_SET (spec/05 R147): Sets DAC deskew and drive RMS. -/
  | lineTxBackSet (c : Cmd)
  /-- LINE_TX_EMPH_LOAD (spec/05 R159): Loads pre-emphasis taps of one DAC into its idle bank. -/
  | lineTxEmphLoad (c : Cmd)
  /-- LINE_TX_STATUS (spec/05 R156): Returns one snapshot of the transmit port. -/
  | lineTxStatus (c : Cmd)
  /-- LINE_TX_COUNTERS (spec/05 R160): Returns the ten transmit counters. -/
  | lineTxCounters (c : Cmd)
  /-- LINE_RA_CONFIG (spec/07 R211): Sets rate adaptation enables, bounds, margins and timing. -/
  | lineRaConfig (c : Cmd)
  /-- LINE_RA_STEP (spec/07 R212): Starts a manual rate step job on the receive direction. -/
  | lineRaStep (c : Cmd)
  /-- LINE_RA_GUARD_SET (spec/07 R213): Loads guard entries of threads for one direction at one commit. -/
  | lineRaGuardSet (c : Cmd)
  /-- LINE_RA_PLAN_READ (spec/07 R214): Computes and returns the plan at a given code without change. -/
  | lineRaPlanRead (c : Cmd)
  /-- LINE_RA_STATUS (spec/07 R210): Returns one snapshot of rate adaptation on the port. -/
  | lineRaStatus (c : Cmd)
  /-- LINE_RA_COUNTERS (spec/07 R215): Returns the twelve rate adaptation counters. -/
  | lineRaCounters (c : Cmd)
  /-- LINE_RW_CONFIG (spec/04 R131): Sets speculation and contradiction limit at the next span boundary. -/
  | lineRwConfig (c : Cmd)
  /-- LINE_RW_STATUS (spec/04 R130): Returns one snapshot of run-ahead and replay state. -/
  | lineRwStatus (c : Cmd)
  /-- LINE_RW_COUNTERS (spec/04 R133): Returns the twelve rewind counters. -/
  | lineRwCounters (c : Cmd)
  /-- LINE_RW_INJECT (spec/04 R132): Arms a contradiction, residue or parity failure in TRACKING. -/
  | lineRwInject (c : Cmd)
  /-- CLIENT_GROUP_CONFIG (spec/11 R344): Sets the group's lane rate and eye limit. -/
  | clientGroupConfig (c : Cmd)
  /-- CLIENT_IFACE_SET (spec/11 R344): Defines, redefines or deletes a client interface. -/
  | clientIfaceSet (c : Cmd)
  /-- CLIENT_LANE_ENABLE (spec/11 R345): Enables or disables client lanes by mask and direction. -/
  | clientLaneEnable (c : Cmd)
  /-- CLIENT_LANE_MUTE (spec/11 R345): Mutes or unmutes client lane transmitters. -/
  | clientLaneMute (c : Cmd)
  /-- CLIENT_EQ_SET (spec/11 R346): Sets the receive equaliser of one lane. -/
  | clientEqSet (c : Cmd)
  /-- CLIENT_TX_SET (spec/11 R346): Sets transmit precoding, swing, level ratio and taps of one lane. -/
  | clientTxSet (c : Cmd)
  /-- CLIENT_PATTERN_SET (spec/11 R347): Turns a lane's pattern generator or checker on or off. -/
  | clientPatternSet (c : Cmd)
  /-- CLIENT_LANE_STATUS (spec/11 R347): Returns one snapshot of a client lane. -/
  | clientLaneStatus (c : Cmd)
  /-- CLIENT_COUNTERS (spec/11 R348): Returns the twelve counters of a client lane. -/
  | clientCounters (c : Cmd)
  /-- HOST_EQ_LOAD (spec/12 R356): Loads up to 681 equalisation entries at one commit. -/
  | hostEqLoad (c : Cmd)
  /-- HOST_IFACE_SET (spec/12 R363): Defines or deletes a host interface. -/
  | hostIfaceSet (c : Cmd)
  /-- HOST_LANE_ENABLE (spec/12 R363): Enables or disables host lanes by mask, rate and direction. -/
  | hostLaneEnable (c : Cmd)
  /-- HOST_LANE_SQUELCH (spec/12 R357): Squelches or unsquelches host lane transmitters. -/
  | hostLaneSquelch (c : Cmd)
  /-- HOST_PATTERN_SET (spec/12 R360): Turns a host lane's pattern generator or checker on or off. -/
  | hostPatternSet (c : Cmd)
  /-- HOST_INJECT (spec/12 R361): Starts, stops or makes single or rate error injection on a lane. -/
  | hostInject (c : Cmd)
  /-- HOST_LANE_STATUS (spec/12 R363): Returns one snapshot of a host lane. -/
  | hostLaneStatus (c : Cmd)
  /-- HOST_COUNTERS (spec/12 R364): Returns the twelve counters of a host lane. -/
  | hostCounters (c : Cmd)
  /-- TALLY_TAG_SET (spec/19 R507): Turns span tagging on or off for a port and direction. -/
  | tallyTagSet (c : Cmd)
  /-- TALLY_TAG_READ (spec/19 R511): Returns tag records of the ring. -/
  | tallyTagRead (c : Cmd)
  /-- TALLY_SLOT_READ (spec/19 R510): Returns the four slot-accounting counters of a region. -/
  | tallySlotRead (c : Cmd)
  /-- TALLY_FIFO_READ (spec/19 R511): Returns a FIFO's counters and clears its high-water mark. -/
  | tallyFifoRead (c : Cmd)
  /-- TALLY_FREEZE (spec/19 R504): Captures or releases BAR2 groups by mask. -/
  | tallyFreeze (c : Cmd)
  /-- HALLMARK_CERT_READ (spec/16 R449): Returns one of the unit's certificates. -/
  | hallmarkCertRead (c : Cmd)
  /-- HALLMARK_MEASURE_READ (spec/16 R450): Returns the eight measurement registers. -/
  | hallmarkMeasureRead (c : Cmd)
  /-- HALLMARK_ATTEST (spec/16 R451): Signs a nonce with the registers and device time. -/
  | hallmarkAttest (c : Cmd)
  /-- HALLMARK_KEK_OFFER (spec/16 R457): Generates and returns signed ephemeral public keys for a KEK agreement. -/
  | hallmarkKekOffer (c : Cmd)
  /-- HALLMARK_KEK_ACCEPT (spec/16 R457): Completes a KEK agreement and replaces the KEK if confirmed. -/
  | hallmarkKekAccept (c : Cmd)
  /-- HALLMARK_FUSE_ADVANCE (spec/16 R453): Starts a job blowing anti-rollback fuses up to a target SVN. -/
  | hallmarkFuseAdvance (c : Cmd)
  /-- HALLMARK_TALLY_MASK (spec/16 R458): Sets which groups of the BAR2 window are open. -/
  | hallmarkTallyMask (c : Cmd)
  /-- HALLMARK_STATUS (spec/16 R459): Returns KEK, offer, fuse and image SVN state. -/
  | hallmarkStatus (c : Cmd)
  /-- SERVICE_IMAGE_LOAD (spec/18 R480): Writes a chunk of an image into the standby slot. -/
  | serviceImageLoad (c : Cmd)
  /-- SERVICE_IMAGE_VERIFY (spec/18 R494): Starts a job checking the standby image under the image checks. -/
  | serviceImageVerify (c : Cmd)
  /-- SERVICE_HANDOVER (spec/18 R491): Starts a job passing control to the standby pair on the verified image. -/
  | serviceHandover (c : Cmd)
  /-- SERVICE_CHANGE (spec/18 R481): Starts a rolling, migration or core-swap change of a region, block or DPLL. -/
  | serviceChange (c : Cmd)
  /-- SERVICE_STATUS (spec/18 R493): Returns one snapshot of the change state of a region. -/
  | serviceStatus (c : Cmd)
  /-- SERVICE_AGEING_READ (spec/18 R496): Returns the ageing records and projection. -/
  | serviceAgeingRead (c : Cmd)
  /-- DIAG_FAULT_STATUS (spec/17 R471): Returns health, spares and fault-log position. -/
  | diagFaultStatus (c : Cmd)
  /-- DIAG_FAULT_LOG_READ (spec/17 R472): Returns up to 64 fault log records. -/
  | diagFaultLogRead (c : Cmd)
  /-- DIAG_SRAM_COUNTERS (spec/17 R475): Returns the SRAM counters of each cell of a block. -/
  | diagSramCounters (c : Cmd)
  /-- DIAG_SWEEP_RUN (spec/17 R473): Starts a Sweep job over an HA or stripe range. -/
  | diagSweepRun (c : Cmd)
  /-- DIAG_INJECT (spec/17 R476): Arms an SRAM, stall or lockstep injection in a cell. -/
  | diagInject (c : Cmd)
  /-- DOORBELL_WRITE (spec/02 R58): The host writes PROD of a command ring. -/
  | doorbellWrite (q : Queue) (value : Word)
  /-- COMMAND_TAKE (spec/02 R58): The device takes the next packet of a queue once available and its reply ring has room, and checks it. -/
  | commandTake (iface : Iface) (q : Queue) (packet : List Word)
  /-- EVENT_DELIVER (spec/02 R62): A buffered event record is written to the event ring once it has room. -/
  | eventDeliver
  /-- CONS_WRITE (spec/02 R64): The host advances CONS of a reply or event ring and re-arms its vector. -/
  | consWrite (ring : Fin 9) (value : Word)
  /-- RING_ENABLE (spec/02 R59): Writing ENABLE 0 to 1 resets a ring's indexes and enables it. -/
  | ringEnable (ring : Fin 9) (value : Word)
  /-- RING_DISABLE (spec/02 R59): Writing ENABLE 1 to 0 disables a ring. -/
  | ringDisable (ring : Fin 9) (value : Word)
  /-- RING_STOP (spec/02 R60): A failed transfer or bad index stops a ring. -/
  | ringStop (ring : Fin 9)
  /-- STOPPED_CLEAR (spec/02 R60): Writing 1 clears a ring's STOPPED bit. -/
  | stoppedClear (ring : Fin 9) (value : Word)
  /-- TEMP_EXCURSION_CLEAR (spec/02 R68): Writing 1 clears TEMP_EXCURSION. -/
  | tempExcursionClear (value : Word)
  /-- PACE_SHORT_CLEAR (spec/02 R68): Writing 1 clears PACE_SHORT. -/
  | paceShortClear (value : Word)
  /-- TIME_LO_READ (spec/02 R70): Reading TIME_LO latches TIME_HI and TIME_WRAP of the interface. -/
  | timeLoRead (iface : Iface) (wide : Bool)
  /-- REGISTER_WRITE (spec/02 R68): A write to a BAR0 field without behaviour of its own. -/
  | registerWrite (offset : BitVec 12) (value : Word)
  /-- BOUND_EXPIRY (spec/02 R53): A queue bound expires with the reply unwritten. -/
  | boundExpiry (iface : Iface) (q : Queue) (seq : Byte)
  /-- SPI_WRITE_CMD (spec/02 R65): An SPI transaction writes a packet into a queue's mailbox. -/
  | spiWriteCmd (index : Byte) (packet : List Word)
  /-- SPI_READ_REPLY (spec/02 R65): An SPI transaction reads the oldest reply of a queue. -/
  | spiReadReply (index : Byte) (count : Nat)
  /-- SPI_READ_EVENT (spec/02 R65): An SPI transaction reads pending event records. -/
  | spiReadEvent (count : Nat)
  /-- SPI_READ_WINDOW (spec/02 R65): An SPI transaction reads BAR0 words. -/
  | spiReadWindow (offset : BitVec 16) (count : Nat)
  /-- SPI_WRITE_WINDOW (spec/02 R65): An SPI transaction writes BAR0 words. -/
  | spiWriteWindow (offset : BitVec 16) (data : List Word)
  /-- SPI_BAD_INSTRUCTION (spec/02 R65): An unlisted instruction byte voids the transaction. -/
  | spiBadInstruction (code : Byte)
  /-- FAULT_DETECTED (spec/01 R17): A cell reports a detected fault in a unit of work, and the recurrence rule may mark it suspect. -/
  | faultDetected (ha : BitVec 20) (unit : Nat)
  /-- HANDSHAKE_STALL (spec/01 R26): A request sees neither acknowledge nor HOLD for 1 µs. -/
  | handshakeStall (requester : BitVec 20) (stalled : BitVec 20) (span : Nat) (bad : List Nat) (badSample : Bool)
  /-- PACKET_COMMIT (spec/01 R30): A packet's last word commits and it becomes visible to the reader. -/
  | packetCommit (cell : BitVec 20) (dir : Dir) (words : Nat)
  /-- PACKET_ABORT (spec/01 R30): A writer aborts a bad packet before commit. -/
  | packetAbort (cell : BitVec 20) (dir : Dir)
  /-- FIFO_READ (spec/01 R31): A reader completes a read of a boundary FIFO. -/
  | fifoRead (cell : BitVec 20) (dir : Dir)
  /-- WRITER_RELEASE (spec/01 R28): A writer held at a full FIFO continues once space is freed. -/
  | writerRelease (cell : BitVec 20) (dir : Dir)
  /-- FIFO_IDLE_EXPIRY (spec/01 R31): A FIFO's idle timer reaches IDLE_LIMIT. -/
  | fifoIdleExpiry (cell : BitVec 20) (dir : Dir)
  /-- RX_SPAN_FORMED (spec/01 R34): A receive span forms at the ADC boundary FIFOs and its checkpoint is stored. -/
  | rxSpanFormed (p : Port) (rms : List Nat) (clipped : List Nat)
  /-- LOS_DECLARE (spec/03 R77): The mean RMS stays below LOS_SET for 1 µs and LOS is declared. -/
  | losDeclare (p : Port)
  /-- LOS_CLEAR (spec/03 R77): The mean RMS stays at or above LOS_CLEAR for 100 µs and LOS clears. -/
  | losClear (p : Port)
  /-- LANE_FAULT_DECLARE (spec/03 R78): One converter's RMS stays low for 100 µs while the others are not. -/
  | laneFaultDeclare (p : Port) (conv : Fin 4)
  /-- LANE_FAULT_END (spec/03 R78): A converter's RMS recovers for 100 µs and the lane fault ends. -/
  | laneFaultEnd (p : Port) (conv : Fin 4)
  /-- ACQ_STEP_DONE (spec/03 R96): An acquisition step completes and the next begins. -/
  | acqStepDone (p : Port) (cd : Int)
  /-- ACQ_BOUND_EXPIRY (spec/03 R96): An acquisition step misses its bound and acquisition restarts. -/
  | acqBoundExpiry (p : Port)
  /-- CD_SCAN_DONE (spec/03 R83): The estimator completes a host scan and the job ends. -/
  | cdScanDone (p : Port) (best : Int) (quality : Nat) (second : Int)
  /-- RX_XFADE_END (spec/03 R80): A receive cross-fade completes after 64 spans. -/
  | rxXfadeEnd (p : Port)
  /-- CD_SET_DEFERRED_COMMIT (spec/03 R102): A waiting LINE_RX_CD_SET commits at the start of its own cross-fade. -/
  | cdSetDeferredCommit (p : Port)
  /-- TRACK_RESIDUAL (spec/03 R82): After 65,536 spans the residual dispersion is measured and may start a cross-fade. -/
  | trackResidual (p : Port) (residual : Int)
  /-- LOL_DECLARE (spec/03 R95): A loss-of-lock count completes and the port returns to ACQUIRE. -/
  | lolDeclare (p : Port) (cause : Fin 4)
  /-- TOLERANCE_HOLD (spec/03 R93): An estimate stays beyond 90 % of its tolerance for one second. -/
  | toleranceHold (p : Port) (estimate : Fin 5) (beyond : Bool)
  /-- PROVISIONAL_ARRIVE (spec/04 R113): Provisional decisions of a span arrive from the pool. -/
  | provisionalArrive (p : Port) (span : Nat)
  /-- FINAL_DECISIONS_ARRIVE (spec/04 R114): Final decisions of a span arrive and the contradiction check is made. -/
  | finalDecisionsArrive (p : Port) (span : Nat) (differing : Nat) (pilotErrors : Nat) (bad : List Nat) (badSample : Bool)
  /-- CYCLE_SLIP (spec/03 R88): A confirmed pilot phase jump triggers a rollback. -/
  | cycleSlip (p : Port) (first : Nat) (bad : List Nat) (badSample : Bool)
  /-- RESIDUE_FAILURE (spec/04 R116): A mod-3 residue check fails in a datapath stage. -/
  | residueFailure (ha : BitVec 20) (span : Nat) (bad : List Nat) (badSample : Bool)
  /-- PARITY_FAILURE (spec/01 R25): A receiver finds a bus parity failure. -/
  | parityFailure (ha : BitVec 20) (span : Nat) (bad : List Nat) (badSample : Bool)
  /-- REPLAY_END (spec/04 R117): A replay reaches E and ends. -/
  | replayEnd (p : Port)
  /-- CATCHUP_END (spec/04 R126): The backlog from a replay is closed. -/
  | catchupEnd (p : Port)
  /-- REPLAY_OVERRUN (spec/04 R121): The replay front falls more than 475 spans behind N and the replay is given up. -/
  | replayOverrun (p : Port)
  /-- RW_RATE_REPEAT (spec/04 R127): Each second above the budget the rate event is raised again. -/
  | rwRateRepeat (p : Port)
  /-- SPAN_FINAL (spec/04 R108): A span becomes final and its payload is released to the LOOM. -/
  | spanFinal (p : Port)
  /-- TX_SPAN_FORMED (spec/05 R149): A transmit span forms and its samples are committed at the DAC FIFOs. -/
  | txSpanFormed (p : Port) (clipped : Nat)
  /-- RAMP_END (spec/05 R150): A ramp reaches φ 1 or 0 and the port enters ON or MUTED. -/
  | rampEnd (p : Port)
  /-- TX_SPAN_LATE (spec/05 R152): A span not committed when the DAC needs it is sent with fill. -/
  | txSpanLate (p : Port) (span : Nat)
  /-- TX_UNDERRUN (spec/05 R153): A span whose payload the LOOM did not supply in time is sent with fill. -/
  | txUnderrun (p : Port)
  /-- TX_XFADE_END (spec/05 R144): A pre-compensation or pre-emphasis cross-fade completes. -/
  | txXfadeEnd (p : Port) (dac : Option (Fin 4))
  /-- TX_DEFERRED_COMMIT (spec/05 R145): A waiting pre-compensation or pre-emphasis load commits when the running cross-fade ends. -/
  | txDeferredCommit (p : Port) (dac : Option (Fin 4))
  /-- DEAL_TIMEOUT (spec/06 R168): 100 ns after a span's last LLR it becomes ready with a zero forward guard. -/
  | dealTimeout (p : Port) (span : Nat)
  /-- SPAN_DEAL (spec/06 R176): The chip arbiter deals a ready span to a slot of a working region. -/
  | spanDeal
  /-- DECODE_ITERATION_END (spec/06 R169): A decode iteration ends and convergence is checked. -/
  | decodeIterationEnd (p : Port) (span : Nat) (fault : Bool) (converged : Bool)
  /-- DECODE_END (spec/06 R170): A decode ends and final decisions are returned. -/
  | decodeEnd (p : Port) (span : Nat) (corrected : Nat) (zrBits : Nat) (zrOk : Bool)
  /-- MESSAGE_WORD_UNCORRECTABLE (spec/06 R181): An uncorrectable message word ends a decode and it is dealt again elsewhere. -/
  | messageWordUncorrectable (p : Port) (span : Nat)
  /-- MARGIN_UPDATE (spec/07 R193): ASSAY delivers a multiframe's margin estimates and the requester decides on a step. -/
  | marginUpdate (p : Port) (margin up down : Int)
  /-- STEP_SEEK (spec/07 R196): The requester's plan is ready and it sends RATE_PROPOSE or refuses locally. -/
  | stepSeek (p : Port)
  /-- UP_HOLD_EXPIRY (spec/07 R194): The predicted margin held above MARGIN_HIGH for UP_HOLD. -/
  | upHoldExpiry (p : Port)
  /-- HELD_EXPIRY (spec/07 R207): 60 s in HELD pass and step downs may be sought again. -/
  | heldExpiry (p : Port)
  /-- RATE_PROPOSE (spec/07 R197): The responder takes a proposal, checks it and answers. -/
  | ratePropose (p : Port)
  /-- RATE_ANSWER (spec/07 R196): The requester takes an answer to its proposal. -/
  | rateAnswer (p : Port)
  /-- ANSWER_WAIT_EXPIRY (spec/07 R196): 128 multiframes pass without answer or announcement; the proposal is resent or abandoned. -/
  | answerWaitExpiry (p : Port)
  /-- ANNOUNCEMENT_VALID (spec/07 R198): Three consistent announcements make a rate announcement valid. -/
  | announcementValid (p : Port)
  /-- RATE_SWITCH (spec/07 R200): At the first symbol of SWITCH_MF the new code and plan take effect. -/
  | rateSwitch (p : Port) (d : Fin 2)
  /-- FALLBACK_START (spec/07 R208): A direction out of TRACKING for FALLBACK_TIME proposes RX_ENT_MIN. -/
  | fallbackStart (p : Port)
  /-- CANDIDATE_SWITCH (spec/07 R209): 256 uncorrected decodes move the demapper to the other candidate code. -/
  | candidateSwitch (p : Port)
  /-- FRAME_ARRIVE (spec/08 R228): A receive frame arrives as its last bit is final and is judged and demapped. -/
  | frameArrive (p : Port) (words : List Word) (clean : Bool) (parity : Nat) (boltPar : List (Nat × Nat))
  /-- ALIGN_DECLARE (spec/08 R225): A candidate reaches three matches and the framer is ALIGNED. -/
  | alignDeclare (p : Port) (found : List Nat) (heads : List (Nat × Nat × Nat))
  /-- LOCK_DECLARE (spec/08 R226): Three consistent frames make the framer LOCKED. -/
  | lockDeclare (p : Port)
  /-- LOF_DECLARE (spec/08 R226): Five frames without a match return the framer to SEARCH. -/
  | lofDeclare (p : Port)
  /-- LOM_DECLARE (spec/08 R226): Five inconsistent frames return the framer to ALIGNED. -/
  | lomDeclare (p : Port)
  /-- MAP_MISMATCH (spec/08 R234): A slot differs or matches in two consecutive multiframes. -/
  | mapMismatch (p : Port) (slot : Nat)
  /-- LABEL_ACCEPT (spec/08 R241): Three equal receptions accept a thread label. -/
  | labelAccept (p : Port) (thread : Nat)
  /-- TICK_READ (spec/08 R235): A tick reader reads a bolt's tick once its frames are in and hands on its threads. -/
  | tickRead (bolt tick : Nat) (lostW lostP : List Nat) (segs : List (Nat × List Byte))
  /-- SKEW_MAX_EXPIRY (spec/08 R236): A tick held longer than SKEW_MAX is freed as not delivered. -/
  | skewMaxExpiry (bolt tick : Nat)
  /-- TX_FRAME_SEND (spec/08 R222): The transmit framer builds and sends a frame. -/
  | txFrameSend (p : Port) (parity : Nat) (boltPar : List (Nat × Nat)) (under : List Nat)
  /-- STRIPE_READ (spec/09 R265): A granted stripe read is judged and delivers data or a mark. -/
  | stripeRead (kind : Fin 5) (n : Nat) (bad : List Nat)
  /-- STRIPE_WRITE (spec/09 R264): A granted whole-stripe write commits. -/
  | stripeWrite (kind : Fin 5) (n : Nat) (p : Port) (tick : Nat) (data : List Byte)
  /-- READ_MERGE_WRITE (spec/09 R264): A partial write reads, merges and writes a whole stripe. -/
  | readMergeWrite (kind : Fin 5) (n : Nat) (cell : Fin 3) (data : List Byte) (bad : List Nat)
  /-- CELL_WRITE_BACK (spec/09 R266): A rebuilt cell is written back to its stack. -/
  | cellWriteBack
  /-- HOLD_LIMIT_EXPIRY (spec/09 R277): A writer held at a full DISCARD partition for HOLD_LIMIT has its units discarded. -/
  | holdLimitExpiry (kind : Fin 5)
  /-- STRIPE_FREE (spec/09 R277): A stripe is freed and a held writer continues. -/
  | stripeFree (kind : Fin 5) (n : Nat)
  /-- STACK_INTERFACE_FAULT (spec/09 R269): A stack channel reports an interface fault and the stack retrains. -/
  | stackInterfaceFault (k : Fin 4)
  /-- TRAINING_DONE (spec/09 R271): Retraining succeeds, the log is replayed and the stack returns to WORKING. -/
  | trainingDone (k : Fin 4)
  /-- TRAINING_TIMEOUT (spec/09 R270): Training does not succeed within 100 µs and the stack is LOST. -/
  | trainingTimeout (k : Fin 4)
  /-- CRC_RATE_LOSS (spec/09 R270): 256 distinct cells of one stack fail in 1 ms and it is LOST. -/
  | crcRateLoss (k : Fin 4)
  /-- RESTORE_TRAIN_DONE (spec/09 R273): A restore's interface training ends. -/
  | restoreTrainDone (ok : Bool)
  /-- RESTORE_TEST_DONE (spec/09 R273): A restore's pattern test ends. -/
  | restoreTestDone (failures : Nat)
  /-- RESTORE_REBUILD_DONE (spec/09 R273): A restore's rebuild ends and the stack is WORKING. -/
  | restoreRebuildDone
  /-- SHRINK_DRAIN_DONE (spec/09 R278): Draining bays hold no live stripe and are released. -/
  | shrinkDrainDone (kind : Fin 5)
  /-- CLIENT_FRAME_ARRIVE (spec/10 R296): A client frame arrives on an interface and is checked and classified. -/
  | clientFrameArrive (index : Fin 256) (bytes : List Byte)
  /-- RECORD_FILL (spec/10 R300): A flow record miss is filled from FLOW_CONTEXT. -/
  | recordFill (f : Nat) (bad : List Nat)
  /-- CIPHER_MESSAGE_DONE (spec/10 R317): A cipher engine completes a message and it is packed. -/
  | cipherMessageDone (n : Nat)
  /-- TAIL_WRITE (spec/10 R306): A tail stripe is written to QUEUE when full, flushed or evicted. -/
  | tailWrite (f : Nat) (why : Fin 3)
  /-- THREAD_BYTES_NEEDED (spec/10 R310): A thread's scheduler serves its flows by deficit round robin. -/
  | threadBytesNeeded (t tick : Nat) (bad : List (Nat × List Nat))
  /-- RX_PARCEL (spec/10 R303): A received parcel header is judged for delineation and flow. -/
  | rxParcel (t pos : Nat) (hdr : BitVec 64) (body : List Byte)
  /-- CIPHER_DECRYPT (spec/10 R313): A received message is authenticated and decrypted. -/
  | cipherDecrypt (n : Nat)
  /-- EGRESS_DELIVER (spec/10 R311): A received frame is delivered to its egress interface. -/
  | egressDeliver (index : Fin 256)
  /-- KEY_ROLLOVER (spec/10 R316): The port starts sending MF and the context's next key becomes current. -/
  | keyRollover (p : Port)
  /-- CLIENT_LOS_DECLARE (spec/11 R336): A client lane declares LOS. -/
  | clientLosDeclare (g : Fin 2) (l : Fin 8)
  /-- CLIENT_LOS_CLEAR (spec/11 R336): A client lane clears LOS and bring-up starts. -/
  | clientLosClear (g : Fin 2) (l : Fin 8)
  /-- CLIENT_BRINGUP_STEP_DONE (spec/11 R337): A client lane bring-up step completes. -/
  | clientBringupStepDone (g : Fin 2) (l peer : Fin 8) (late : Bool)
  /-- CLIENT_BRINGUP_EXPIRY (spec/11 R337): A bring-up step misses its bound and restarts at TRAIN. -/
  | clientBringupExpiry (g : Fin 2) (l : Fin 8)
  /-- CLIENT_LOL (spec/11 R338): A client lane in UP loses lock and returns to TRAIN. -/
  | clientLol (g : Fin 2) (l : Fin 8)
  /-- CLIENT_ANALOGUE_FAULT (spec/11 R339): A client lane's converter fails plausibility or its range monitor. -/
  | clientAnalogueFault (g : Fin 2) (l : Fin 8) (adc : Bool)
  /-- CLIENT_EYE_HOLD (spec/11 R349): Eye width stays below or above EYE_MIN for 1 s. -/
  | clientEyeHold (g : Fin 2) (l : Fin 8) (below : Bool)
  /-- HOST_LOS_DECLARE (spec/12 R358): A host lane declares LOS. -/
  | hostLosDeclare (l : Fin 128)
  /-- HOST_LOS_CLEAR (spec/12 R358): A host lane clears LOS and enters LOCK. -/
  | hostLosClear (l : Fin 128)
  /-- HOST_LOCK_UP (spec/12 R358): Clock recovery holds lock 10 µs and the lane is UP. -/
  | hostLockUp (l : Fin 128)
  /-- HOST_LOL (spec/12 R358): A host lane loses lock and returns to LOCK. -/
  | hostLol (l : Fin 128)
  /-- HOST_LOCK_RESTART (spec/12 R358): A lane not UP within 200 µs is restarted in LOCK. -/
  | hostLockRestart (l : Fin 128)
  /-- HOST_IFACE_ALIGN (spec/12 R354): A host interface's Ethernet alignment locks or is lost. -/
  | hostIfaceAlign (f : Fin 128) (locked skewed : Bool)
  /-- HOST_ANALOGUE_FAULT (spec/12 R359): A host lane fails plausibility or reports one slicer decision for 1 ms. -/
  | hostAnalogueFault (l : Fin 128) (rx : Bool)
  /-- CHECKER_SYNC (spec/12 R360): A pattern checker declares sync after 128 correct bits. -/
  | checkerSync (l : Fin 128)
  /-- CHECKER_SYNC_LOSS (spec/12 R360): A pattern checker loses sync. -/
  | checkerSyncLoss (l : Fin 128)
  /-- XTAL_ACTIVITY_LOSS (spec/13 R367): A crystal shows no edge for 1 µs and enters FAULT. -/
  | xtalActivityLoss (x : Fin 2)
  /-- GATE_END (spec/13 R371): A frequency gate ends and offsets, states and drift are judged. -/
  | gateEnd (offsets : List (Nat × Int)) (freqs : List Int) (xdiff : Int)
  /-- REF_FIRST_EDGE (spec/13 R372): An INACTIVE candidate shows its first edge and starts QUALIFYING. -/
  | refFirstEdge (c : Fin 17)
  /-- QUALIFY_COMPLETE (spec/13 R372): QUAL_TIME of gates within ACCEPT passes and the candidate is QUALIFIED. -/
  | qualifyComplete (c : Fin 17)
  /-- REF_ACTIVITY_LOSS (spec/13 R370): A candidate loses activity and goes INACTIVE. -/
  | refActivityLoss (c : Fin 17)
  /-- SELECTION_EVAL (spec/13 R374): Every 1 ms selection is re-evaluated and a DPLL may switch reference. -/
  | selectionEval
  /-- DPLL_LOCK (spec/13 R377): Phase error stays within LOCK_WINDOW for 20 ms and the DPLL is LOCKED. -/
  | dpllLock (d : Fin 4)
  /-- BW_STEP (spec/13 R378): A dwell ends and the bandwidth steps down. -/
  | bwStep (d : Fin 4)
  /-- CORE_FAULT (spec/13 R380): The DPLL cores differ by over 1 ns for 10 µs and the DPLL enters HOLDOVER. -/
  | coreFault (d : Fin 4) (diff : Int)
  /-- ONE_SECOND_TICK (spec/13 R384): The one-second tick falls and every per-second latch is taken. -/
  | oneSecondTick (crierSec : Nat) (counts : List (Nat × Nat))
  /-- ESMC_PDU_RECEIVE (spec/13 R373): An ESMC PDU is taken and sets a candidate's QL. -/
  | esmcPduReceive (iface : Fin 256) (ql : Fin 16)
  /-- QL_TIMEOUT (spec/13 R373): No QL source message arrives in time and the QL becomes 0xF. -/
  | qlTimeout (c : Fin 17)
  /-- FP_SLEW_END (spec/13 R383): A frame-pulse slew reaches zero error and stops. -/
  | fpSlewEnd (o : Fin 4)
  /-- HELLO_TIMER (spec/14 R409): HELLO_INTERVAL passes and a HELLO is queued. -/
  | helloTimer (k : Fin 4)
  /-- QUALITY_TIMER (spec/14 R410): A second passes and a QUALITY packet is queued. -/
  | qualityTimer (k : Fin 4)
  /-- TIME_REQ_TIMER (spec/14 R411): TIME_INTERVAL passes and a TIME_REQ is sent. -/
  | timeReqTimer (k : Fin 4)
  /-- PACKET_SEND_START (spec/14 R401): A Crier transmitter starts the next queued packet after the gap. -/
  | packetSendStart (k : Fin 4)
  /-- PACKET_CUT (spec/14 R402): A queued RATE packet cuts a lower class at the next symbol boundary. -/
  | packetCut (k : Fin 4)
  /-- PACKET_SEND_END (spec/14 R399): A Crier packet's tail ends. -/
  | packetSendEnd (k : Fin 4)
  /-- LISTENER_TRIGGER (spec/14 R404): Despread energy exceeds the noise floor by DETECT. -/
  | listenerTrigger (k : Fin 4)
  /-- SYNC_QUALIFY (spec/14 R405): A window matches the sync word and the packet is qualified or captures. -/
  | syncQualify (k : Fin 4) (second : Bool) (strength : Nat) (sync : Nat)
  /-- QUALIFY_TIMEOUT (spec/14 R405): No sync match within 48 symbols; the candidate is a false start. -/
  | qualifyTimeout (k : Fin 4) (second : Bool)
  /-- PACKET_RECEIVE_END (spec/14 R408): A received packet ends and is checked. -/
  | packetReceiveEnd (k : Fin 4) (length : Byte) (type : Byte) (payload : List Byte) (crc : BitVec 16) (chip : Int)
  /-- HELLO (spec/14 R409): An accepted HELLO is handled. -/
  | hello (k : Fin 4)
  /-- QUALITY (spec/14 R410): An accepted QUALITY packet sets Crier QLs. -/
  | quality (k : Fin 4)
  /-- TIME_REQ (spec/14 R411): An accepted TIME_REQ is answered with TIME_RESP. -/
  | timeReq (k : Fin 4) (depart : Nat)
  /-- TIME_RESP (spec/14 R411): An accepted TIME_RESP completes an exchange. -/
  | timeResp (k : Fin 4)
  /-- SEGMENT (spec/14 R412): A segment is reassembled and a complete object handed to Hallmark. -/
  | segment (k : Fin 4)
  /-- HOST_LINK (spec/14 R417): A host link packet is buffered. -/
  | hostLink (k : Fin 4)
  /-- DOMAIN (spec/14 R414): A DOMAIN packet is deduplicated, delivered and relayed. -/
  | domain (k : Fin 4)
  /-- JOIN_REQ (spec/14 R416): The registrar takes a join request and starts its identity proof. -/
  | joinReq (k : Fin 4)
  /-- JOIN_ANSWER (spec/14 R416): A member takes the registrar's answer. -/
  | joinAnswer (k : Fin 4)
  /-- REPORT (spec/14 R415): The registrar records a member's report. -/
  | report (k : Fin 4)
  /-- BEACON (spec/14 R416): A unit takes a registrar beacon. -/
  | beacon (k : Fin 4)
  /-- PEER_LOST (spec/14 R409): Three advertised intervals pass without HELLO. -/
  | peerLost (k : Fin 4)
  /-- EXCHANGE_MISSED (spec/14 R411): No answer within 500 ms makes the exchange missed. -/
  | exchangeMissed (k : Fin 4)
  /-- OBJECT_TIMEOUT (spec/14 R412): An object is incomplete 10 s after its first segment. -/
  | objectTimeout (k : Fin 4)
  /-- BEACON_TIMER (spec/14 R414): The registrar sends a BEACON every 10 s. -/
  | beaconTimer
  /-- REPORT_TIMER (spec/14 R414): A member sends a REPORT every REPORT_INTERVAL. -/
  | reportTimer
  /-- JOIN_REQ_TIMER (spec/14 R416): An unanswered JOIN_REQ is repeated after 30 s. -/
  | joinReqTimer
  /-- ADMIT_TIMEOUT (spec/14 R416): No decision on admission within 60 s refuses the request. -/
  | admitTimeout
  /-- REJOIN_WAIT_EXPIRY (spec/14 R416): 60 s after a refusal a member may try again. -/
  | rejoinWaitExpiry
  /-- PROOF_TIMEOUT (spec/16 R456): The answer objects miss their 20 s limit. -/
  | proofTimeout
  /-- FUSE_BLOWN (spec/16 R453): A fuse is blown and read back. -/
  | fuseBlown (ok : Bool)
  /-- ASSAY_TIMER_FIRE (spec/15 R430): A telemetry timer fires and its trigger is held. -/
  | assayTimerFire (t : Fin 8)
  /-- PWM_PERIOD_START (spec/15 R430): A PWM period starts and fires its source. -/
  | pwmPeriodStart (l : Fin 24)
  /-- INTERNAL_SCAN (spec/15 R430): Every 1 ms the internal scan fires. -/
  | internalScan
  /-- TRIGGER_DELAY_END (spec/15 R431): A trigger's delay ends; its sequence starts or is pending. -/
  | triggerDelayEnd (src : Fin 33)
  /-- SEQUENCE_END (spec/15 R431): A sequence's last result arrives and the next pending starts or the converter powers down. -/
  | sequenceEnd
  /-- CONVERSION_RESULT (spec/15 R434): A conversion result or filter output is stored and compared to its window. -/
  | conversionResult (ch : Fin 96) (code : BitVec 14) (filterOut : Option (BitVec 16 × BitVec 16))
  /-- BIAS_LOOP_UPDATE (spec/15 R436): A dither cycle ends and the loop updates its duty. -/
  | biasLoopUpdate (l : Fin 24) (plus : Nat) (minus : Nat)
  /-- BIAS_ALARM_HOLD (spec/15 R436): A loop condition holds for 1 s. -/
  | biasAlarmHold (l : Fin 24) (cause : Fin 5)
  /-- CAL_BACKGROUND (spec/15 R437): A background calibration period expires and a run starts. -/
  | calBackground (kind : Fin 16)
  /-- CAL_RUN_DONE (spec/15 R437): A calibration run ends and passing values are committed. -/
  | calRunDone (n : Nat) (results : List (Nat × Nat × List Int)) (qualityNew : Nat) (qualityOld : Nat)
  /-- QUALITY_UPDATE (spec/15 R439): A quality record is updated and compared to its bound. -/
  | qualityUpdate (m : Fin 16) (index : Nat) (value : Option Int) (reference : Int) (measured : Bool)
  /-- PACE_SAMPLE (spec/15 R441): Every 10 µs the pace sensors are compared and VDD_CORE may be raised. -/
  | paceSample (readings : List (Nat × Nat × Nat)) (predicted : Nat) (ok : Bool) (readBack : Nat)
  /-- PACE_LOWER_STEP (spec/15 R441): After 100 ms of ample margin VDD_CORE is lowered 5 mV. -/
  | paceLowerStep (ok : Bool)
  /-- PACE_HOLD_RELEASE (spec/15 R441): A commit held for a pace raise proceeds once the margin suffices. -/
  | paceHoldRelease
  /-- PACE_RESTORED (spec/15 R442): Margin at or above 1.120 for 1 s restores pace. -/
  | paceRestored
  /-- AVSBUS_RETRY (spec/15 R442): A failed AVSBus transaction is retried every 1 ms. -/
  | avsbusRetry (ok : Bool)
  /-- AVS_MISMATCH_HOLD (spec/15 R442): Read-back differs from the command by over 15 mV for 1 ms. -/
  | avsMismatchHold (readBack : Nat)
  /-- AGEING_DAILY (spec/18 R496): Once a day the end-of-life voltage is recorded and projected. -/
  | ageingDaily (mv years : Nat) (growth : List (Nat × Nat))
  /-- SRAM_READ (spec/17 R463): An SRAM word is read and its SECDED check applied. -/
  | sramRead (cell : BitVec 20) (addr : Nat) (written : Bool) (errors : Fin 3) (again : Bool) (what : Content) (sweep : Bool)
  /-- CONFIG_RESTORE (spec/17 R465): An entry or state is restored from CLERK's copy after an uncorrectable word. -/
  | configRestore
  /-- DECISION_MISMATCH (spec/17 R467): Duplicate supervisor or arbiter decisions mismatch and are redone. -/
  | decisionMismatch (ha : BitVec 20) (unit : Nat)
  /-- CHIP_PAIR_MISMATCH (spec/17 R468): The active chip arbiter or supervisor pair mismatches and hands over. -/
  | chipPairMismatch (supervisor : Bool)
  /-- CHIP_PAIR_TEST_DONE (spec/17 R468): A failed chip pair's self-test ends. -/
  | chipPairTestDone (supervisor : Bool) (ok : Bool)
  /-- CONTROL_PAIR_SWAP (spec/17 R469): The active control pair mismatches and the standby takes over. -/
  | controlPairSwap (standby : Bool)
  /-- PAIR_TEST_DONE (spec/17 R469): A control pair's self-test ends. -/
  | pairTestDone (ok : Bool)
  /-- LONE_PAIR_RESTART (spec/17 R470): A lone control pair mismatches and restarts from committed state. -/
  | lonePairRestart
  /-- SWEEP_END (spec/17 R474): A Sweep reaches LAST and its job ends. -/
  | sweepEnd (store : Bool)
  /-- PREPARE_DONE (spec/18 R482): The incoming block has its configuration and COPY starts. -/
  | prepareDone (r : Fin 30) (fault lost : Bool)
  /-- COPY_DONE (spec/18 R482): COPY ends and SWITCH waits for a unit boundary. -/
  | copyDone (r : Fin 30) (fault lost : Bool)
  /-- SWITCH (spec/18 R482): At a unit boundary the incoming block takes the position. -/
  | switch (r : Fin 30)
  /-- RETEST_DONE (spec/18 R485): A freed block's retest ends and it becomes spare or is retired. -/
  | retestDone (r : Fin 30) (bad : List Nat)
  /-- MIGRATION_LOAD_DONE (spec/18 R487): The Journeyman is loaded and becomes working. -/
  | migrationLoadDone (r : Fin 30) (ok : Bool)
  /-- DECODES_DRAINED (spec/18 R487): The outgoing region's work completes and it is isolated. -/
  | decodesDrained (r : Fin 30)
  /-- MIGRATION_RETEST_DONE (spec/18 R487): The outgoing region is retested and becomes the Journeyman. -/
  | migrationRetestDone (r : Fin 30) (bad : List (Nat × Nat))
  /-- CORE_LOAD_DONE (spec/18 R489): A DPLL core is loaded and returns to shadow. -/
  | coreLoadDone (d : Fin 4) (ok : Bool)
  /-- CORE_FOLLOW_DONE (spec/18 R489): A core follows for 1 s and the roles swap. -/
  | coreFollowDone (d : Fin 4) (ok : Bool)
  /-- HANDOVER_LOAD_DONE (spec/18 R491): The standby pair has loaded and self-tested the image. -/
  | handoverLoadDone (ok : Bool)
  /-- HANDOVER_TAKEOVER (spec/18 R491): The standby pair takes control on the new image. -/
  | handoverTakeover
  /-- FORMER_PAIR_READY (spec/18 R491): The former pair has loaded and tested and becomes standby. -/
  | formerPairReady (ok : Bool)
  /-- VERIFY_DONE (spec/18 R494): An image verification job ends. -/
  | verifyDone (readError : Bool) (outside : List Word)
  /-- BAR2_LOW_READ (spec/19 R503): A 4-byte low-half read of a BAR2 slot latches its high half. -/
  | bar2LowRead (offset : BitVec 20) (wide : Bool)
  /-- POWER_ON (spec/20 R513): Supplies come up in sequence. -/
  | powerOn
  /-- RST_N_ASSERT (spec/20 R516): RST_N low for 10 µs causes a cold reset. -/
  | rstNAssert
  /-- PERST_ASSERT (spec/20 R516): PERST# low for 10 µs causes a cold reset. -/
  | perstAssert
  /-- BROWN_OUT (spec/20 R515): A monitored rail below band for 10 µs causes a cold reset. -/
  | brownOut
  /-- BOOT_BEGIN (spec/20 R516): Reset pins high, rails in band and a crystal active start boot. -/
  | bootBegin (x0 x1 : Bool)
  /-- ROM_START_DONE (spec/20 R519): The boot ROM phase ends and the image read begins. -/
  | romStartDone
  /-- IMAGE_READ_DONE (spec/20 R519): A slot's image read and checks end, falling back or entering recovery. -/
  | imageReadDone (readError : Bool) (outside : List Word)
  /-- SELF_TEST_DONE (spec/20 R521): Self-test ends and BOOT_STATE becomes ready. -/
  | selfTestDone (bad : List (Nat × Nat × Nat)) (lost : List (Fin 4)) (pair0 pair1 : Bool)
  /-- ENDPOINT_READY (spec/20 R519): 100 ms after boot begins the endpoint answers configuration requests. -/
  | endpointReady
  /-- TAP_INSTRUCTION_UPDATE (spec/21 R540): A TAP instruction is loaded; one taking the pins holds the device in reset. -/
  | tapInstructionUpdate (code : Byte)
  /-- TAP_RESET (spec/21 R540): TRST_N or TMS high resets the TAP and releases the pins. -/
  | tapReset
  /-- SPAN_HANDOFF (spec/03 R89): The receive chain finishes a span and hands its last LLR, with index, port, codes and noise variances, to the chip arbiter. -/
  | spanHandoff (p : Port) (est : RxEst)
  /-- XTAL_ACTIVITY_RETURN (spec/13 R367): A crystal in FAULT for lack of edges shows activity again and may return to GOOD. -/
  | xtalActivityReturn (x : Fin 2)
  /-- ENDPOINT_CONFIGURATION (spec/20 R519): The host configures the PCI Express endpoint, assigning BAR0 and setting Memory Space Enable, after which BAR0 accesses take effect. -/
  | endpointConfiguration
  /-- ERASURE_SECOND_EXPIRY (spec/17 R471): One second passes since the last erased span or given-up decode, so that HEALTH condition lapses and HEALTH is re-evaluated, raising DIAG_HEALTH. -/
  | erasureSecondExpiry
  /-- CLIENT_LANE_FAULT_END (spec/11 R339): A client lane's analogue fault stops standing, letting the receive direction leave SIGNAL_WAIT. -/
  | clientLaneFaultEnd (g : Fin 2) (l : Fin 8) (adc : Bool)
  /-- HOST_LANE_FAULT_END (spec/12 R359): A host lane's analogue fault stops standing, letting the lane leave SIGNAL_WAIT. -/
  | hostLaneFaultEnd (l : Fin 128) (rx : Bool)
  deriving DecidableEq, Repr

end Sys2Proof
end

