-- ==== Sys2Proof/Decode.lean ====
section
/-!
DEFINITION. The decoder of table words: no row of spec/opcode_table.json gives its command any bits, so no word spells a
command. Packets of the command protocol are read by COMMAND_TAKE (Machine/Take.lean).
-/

namespace Sys2Proof

/-- The command that a word spells by the table's bits: none, since the table gives none. -/
def decodeTableWord (_nbits _w : Nat) : Option Instr := none

end Sys2Proof
end

