-- ==== Sys2Proof/Config.lean ====
section
/-!
DEFINITION. What an implementation fixes and the values the spec leaves open: constants without a body, so that
nothing can be proved about their values.
-/

namespace Sys2Proof.Config

/-- The `n`-th value the spec leaves open (notes/assumptions/3). -/
opaque freeValue : Nat → Nat

/-- The unit's ordering code is DL6400-B1-X, not -S (spec/00 Table 0-1). -/
opaque orderX : Bool

/-- Parts of the edge list of an overhead, less one (spec/06 Table 6-6). -/
opaque fecParts : Nat → Nat
/-- Edge entries of a part, less one. -/
opaque fecEntries : Nat → Nat → Nat
/-- The fields of an edge entry: overhead, part, entry, then 0 OFFSET, 1 PARITY, 2 ROW, 3 SHIFT, 4 COLUMN. -/
opaque fecEdge : Nat → Nat → Nat → Nat → Nat

/-! Cryptographic functions that the spec names by an outside standard (spec/16; notes/assumptions/4). -/

/-- The content of the boot ROM, the item of measurement register 0 (R450). -/
opaque bootRom : List Byte
/-- SHA-384 (48 bytes; a use takes 48 bytes of the answer). -/
opaque sha384 : List Byte → List Byte
/-- The unit's ECDSA P-384 signature over SHA-384 of a message: r then s, 96 bytes. -/
opaque signEc : List Byte → List Byte
/-- The unit's ML-DSA-65 signature of a message under a context string, 3,309 bytes. -/
opaque signMl : List Byte → List Byte → List Byte
/-- The unit's certificates in DER: 0 ECDSA, 1 ML-DSA (R449). -/
opaque cert : Nat → List Byte
/-- An ephemeral ECDH P-384 public key, by the number of the draw (R457). -/
opaque ephemeralEc : Nat → List Byte
/-- An ephemeral ML-KEM-768 encapsulation key, by the number of the draw (R457). -/
opaque ephemeralKem : Nat → List Byte
/-- The 48 bytes OKM of R457, from the offer's message, Q and C. -/
opaque kekOkm : List Byte → List Byte → List Byte → List Byte
/-- AES key unwrap (RFC 3394) of a wrapped key under a key-encryption key; none where it fails (spec/10 R315). -/
opaque aesUnwrap : List Byte → List Byte → Option (List Byte)
/-- AES-256-GCM of key, IV, additional data, plaintext: ciphertext and tag (spec/10 R312). -/
opaque gcmSeal : List Byte → List Byte → List Byte → List Byte → List Byte
/-- The plaintext of ciphertext and tag where the tag holds (spec/10 R312, R313). -/
opaque gcmOpen : List Byte → List Byte → List Byte → List Byte → Option (List Byte)
/-- HMAC-SHA-384 of a key and a message. -/
opaque hmacSha384 : List Byte → List Byte → List Byte
/-- The firmware authority's ECDSA key verifies a signature of a message (R452 check 2). -/
opaque fwVerifyEc : List Byte → List Byte → Bool
/-- The firmware authority's ML-DSA key verifies a signature of a message under a context string (R452 check 3). -/
opaque fwVerifyMl : List Byte → List Byte → List Byte → Bool

/-- A certificate, 0 ECDSA or 1 ML-DSA, verifies under the production authority's key (R456). -/
opaque certChain : Nat → List Byte → Bool
/-- The subject of a certificate (R449, R456). -/
opaque certSubject : List Byte → List Byte
/-- The key of an ECDSA certificate verifies a signature of a message: certificate, message, signature (R456). -/
opaque certVerifyEc : List Byte → List Byte → List Byte → Bool
/-- The key of an ML-DSA certificate verifies a signature: certificate, context string, message, signature (R456). -/
opaque certVerifyMl : List Byte → List Byte → List Byte → List Byte → Bool

end Sys2Proof.Config
end

