-- ==== Sys2Proof/Machine/State.lean ====
section
/-!
DEFINITION. The state of the DL6400: every register, buffer, counter, mode and pin the spec names, as plain data,
by chapter; the queue of commands that wait; the two ways a step can stop; the state after reset.
The docstring of a field names the rule of spec/ it holds. A table (`Tab`) lists only entries that differ from what
an unlisted one reads as, and each default value of a record's field is its reset value.
-/

set_option Elab.async false

namespace Sys2Proof.Machine

/-- Why the machine stops. Safe: a stop can only make a claim unprovable. -/
inductive Fault where
  /-- A happening names a unit, an address or a number that the spec says does not exist (a stripe outside the
  Storehouse, a region above 0x1D, a line of a table past its end). Raised by the meanings that take such an
  operand; safe. -/
  | noSuchUnit
  deriving DecidableEq, Repr

/-- Why the machine answers nothing for a command. Safe. -/
inductive Refusal where
  /-- The command of this mnemonic has no meaning yet. Raised by `exec` only; safe. -/
  | notModelled (mnemonic : String)
  deriving DecidableEq, Repr

/-- What leaves the device, as the outside world sees it; `State.out` lists it oldest first (the model's own
record, not a register of the spec; see the assumption log). -/
inductive Out where
  /-- a reply written to slot `slot` of reply ring `q` (spec/02 R57) -/
  | reply (q : Queue) (slot : Nat) (words : List Word)
  /-- an event record written to slot `slot` of the event ring (spec/02 R61) -/
  | event (slot : Nat) (words : List Word)
  /-- an MSI-X message (spec/02 R64) -/
  | msix (vector : Nat)
  /-- words returned to a read on an interface: SPI reads, BAR0 reads, BAR2 reads -/
  | data (words : List Word)
  /-- a Crier packet put on the air by transmitter `k` (spec/14 R399) -/
  | crier (k : Nat) (kind : Nat) (payload : List Byte)
  /-- a line frame handed to the transmitter of port `p` (spec/08 R219): multiframe, frame number, overhead words -/
  | frame (p : Nat) (mfn : Nat) (fn : Nat) (overhead : List Nat)
  /-- a client frame delivered to an interface (spec/10 R311): interface, flow, bytes -/
  | client (iface : Nat) (flow : Nat) (bytes : List Byte)
  /-- bytes of a thread that its scheduler hands to the transmit mapper (spec/10 R310): thread, bytes -/
  | thread (thread : Nat) (bytes : List Byte)
  /-- a VDD_CORE command on AVSBus, in mV (spec/15 R442) -/
  | avs (millivolt : Nat)
  /-- the boot record written to flash, naming a slot (spec/20 R520) -/
  | bootRecord (slot : Nat)
  deriving DecidableEq, Repr

/-! ### Rings, registers and the command protocol (spec/02) -/

/-- A ring block of BAR0 (R57 to R60, Table 2-10). -/
structure Ring where
  base : Nat := 0
  enable : Bool := false
  stopped : Bool := false
  sizeLog2 : Nat := 0
  prod : Nat := 0
  cons : Nat := 0
  deriving DecidableEq, Repr

/-- The BAR0 window (Table 2-10) and the MSI-X state of function 0 (R64). Rings 0 to 3 are the command rings by
queue, 4 to 7 the reply rings by queue, 8 the event ring. -/
structure Bar0 where
  rings : Tab Ring
  /-- PHASE of the next event record (R61) -/
  phase : Bool
  /-- VECTOR map by opcode group; unlisted groups read 4 -/
  vector : Tab Nat
  /-- vectors that have sent a message and are not re-armed (R64); unlisted: armed -/
  disarmed : Tab Bool
  /-- the 128 words of the MSI-X table; an unlisted word reads as `msixReset` says -/
  msixTable : Tab (Option Word)
  /-- MSI-X pending bits, unlisted 0 -/
  msixPending : Tab Bool
  tempExcursion : Bool
  paceShort : Bool
  /-- TIME_HI and TIME_WRAP as latched by the last TIME_LO read, per interface (R70) -/
  latchHi : P2 Nat
  latchWrap : P2 Nat
  deriving DecidableEq, Repr

/-- An event record before it has a PHASE (Table 2-7); `time` is the TIME word. -/
structure EvRec where
  code : Nat
  sev : Nat
  ha : Nat
  data : Nat
  time : Nat
  deriving DecidableEq, Repr

/-- The event buffer of one interface (R62) and its filter (R63). -/
structure EvBuf where
  buf : List EvRec
  dropped : Nat
  least : Tab Nat
  deriving DecidableEq, Repr

/-- A LONG job that runs (R55). `step` counts the steps its chapter names, `held` is a cancel waiting for one. -/
structure Job where
  num : Nat
  code : Nat
  target : Nat
  params : List Word
  step : Nat
  cancel : Bool
  deriving DecidableEq, Repr

/-- A LONG job that has ended (R55, R72). -/
structure JobEnd where
  num : Nat
  code : Nat
  status : Nat
  results : List Word
  deriving DecidableEq, Repr

/-- What a withheld reply waits for (spec/03 R102, spec/05 R145 R159, spec/04 R131, spec/06 R184). -/
inductive Await where
  | rxCd (p : Port)
  | txPrecomp (p : Port)
  | txEmph (p : Port) (dac : Nat)
  | rwConfig (p : Port)
  | fecConfig (p : Port)
  | paceHold
  deriving DecidableEq, Repr

/-- A command taken whose reply is not yet written: held in hand under FENCE (R44), or committed later. -/
structure Held where
  iface : Iface
  queue : Queue
  code : Nat
  cmd : Cmd
  /-- none: waiting under FENCE; some: committed when that happening comes -/
  await : Option Await
  deriving DecidableEq, Repr

/-- A reply written by CLERK that the reply ring has not yet taken (R58, R59). -/
structure Unwritten where
  queue : Queue
  words : List Word
  deriving DecidableEq, Repr

/-- CLERK's protocol state. -/
structure Clerk where
  ev : P2 EvBuf
  held : List Held
  unwritten : List Unwritten
  /-- SPI mailboxes by queue: the packet not yet taken, empty list for none (R65, R66) -/
  mail : Tab (List Word)
  /-- SPI replies not yet read, by queue, oldest first (R65) -/
  spiReply : Tab (List (List Word))
  nextJob : Nat
  jobs : List Job
  ended : List JobEnd
  /-- least device time of the next event of a rate-limited kind, by code and unit -/
  stamps : Tab Nat
  /-- happenings counted toward a rate-limited event since it was last raised -/
  tallied : Tab Nat
  deriving DecidableEq, Repr

def EvBuf.reset : EvBuf := { buf := [], dropped := 0, least := [] }

/-- BAR0 after a cold reset (Table 2-10, column Reset). -/
def Bar0.reset : Bar0 :=
  { rings := [], phase := true, vector := [], disarmed := [], msixTable := [], msixPending := [],
    tempExcursion := false, paceShort := false, latchHi := ⟨0, 0⟩, latchWrap := ⟨0, 0⟩ }

/-- CLERK after a cold reset: no command, no job, empty buffers. DESIGN CHOICE: the first job number is 0
(notes/assumptions/6). -/
def Clerk.reset : Clerk :=
  { ev := ⟨EvBuf.reset, EvBuf.reset⟩, held := [], unwritten := [], mail := [], spiReply := [], nextJob := 0,
    jobs := [], ended := [], stamps := [], tallied := [] }

/-! ### Cells, blocks, regions and boundary FIFOs (spec/01), fault coverage (spec/17) -/

/-- A physical block's map word (Table 1-4) and its cells. States: 0 working, 1 spare, 2 suspect, 3 retired,
4 under change. -/
structure Block where
  state : Nat
  serves : Nat
  cells : Nat
  /-- index of the current spare cell, 0x3F once it is used up -/
  spareCell : Nat
  suspect : List Nat
  retired : List Nat
  /-- FW_VERSION of the block image it runs, none for the one loaded at boot (spec/18 R479) -/
  image : Option Nat
  deriving DecidableEq, Repr

/-- A region: POOL_ROLE (Table 1-4), isolation (R20). -/
structure Region where
  poolRole : Nat
  isolated : Bool
  deriving DecidableEq, Repr

/-- A boundary FIFO (R28 to R33): committed packets' lengths in words, oldest first; words written and not
committed. -/
structure Fifo where
  packets : List Nat := []
  uncommitted : Nat := 0
  held : Bool := false
  /-- the reader has taken part of a packet -/
  reading : Bool := false
  /-- idle expiries since the last completed read or the FIFO's becoming non-empty -/
  expiries : Nat := 0
  idleLimit : Nat := 0x28
  committed : Nat := 0
  rewound : Nat := 0
  discarded : Nat := 0
  drains : Nat := 0
  idles : Nat := 0
  highWater : Nat := 0
  deriving DecidableEq, Repr

/-- The SRAM of one cell (spec/17 R463 to R465, R475, R476). -/
structure Sram where
  corrected : Nat := 0
  repeated : Nat := 0
  uncorrectable : Nat := 0
  neverWritten : Nat := 0
  /-- the last 16 corrected addresses, newest first -/
  last : List Nat := []
  deriving DecidableEq, Repr

/-- A pair of compared copies of the chip arbiter or supervisor (spec/17 R468). Standby: 0 ready, 1 testing,
2 retired. -/
structure ChipPair where
  active : Nat
  standby : Nat
  deriving DecidableEq, Repr

/-- One record of the fault log (spec/17 R472). -/
structure LogRec where
  seq : Nat
  code : Nat
  w1 : Word
  w2 : Word
  w3 : Word
  deriving DecidableEq, Repr

/-- A running sweep (spec/17 R473, R474). -/
structure Sweep where
  job : Nat
  first : Nat
  last : Nat
  /-- the five counters: read, corrected, uncorrectable, repeat-corrected, never-written -/
  counts : List Nat := [0, 0, 0, 0, 0]
  firstBad : Option Nat := none
  /-- the cell being read in HA mode; the last cell or stripe read in full -/
  at_ : Option Nat := none
  reached : Option Nat := none
  deriving DecidableEq, Repr

/-- The hierarchy and the fault state of the chip. -/
structure Hier where
  /-- blocks whose record differs from first boot, by region × 64 + block -/
  blocks : Tab (Option Block)
  regions : Tab (Option Region)
  /-- by cell HA × 2 + direction (0 inbound, 1 outbound) -/
  fifos : Tab Fifo
  /-- unit of work of each cell's latest counted fault, plus one (R17) -/
  faultUnit : Tab Nat
  sram : Tab Sram
  /-- pending injection by cell HA: 1 SRAM single, 2 SRAM double, 3 stall (spec/17 R476) -/
  inject : Tab Nat
  chip : P2 ChipPair
  /-- block of the active control pair, 0 or 1; standby pair: 0 ready, 1 in self-test, 2 retired (spec/17 R469) -/
  ctlActive : Nat
  ctlStandby : Nat
  /-- FW_VERSION of the block images loaded at boot -/
  baseImage : Nat
  health : Nat
  healthTime : Nat
  /-- a span was erased or a decode given up within the last second (Table 17-3) -/
  erasure : Bool
  logSeq : Nat
  log : List LogRec
  sweepHa : Option Sweep
  sweepStore : Option Sweep
  deriving DecidableEq, Repr

/-- The number of working blocks of each region at first boot (Table 1-2); the spare block follows them. -/
def workingBlocks (r : Nat) : Nat :=
  if r ≤ 1 then 6 else if r = 2 then 8 else if r = 3 then 4 else if r = 4 then 12 else if r = 5 then 24
  else if r = 6 then 16 else if r ≤ 0x0B then 8 else if r ≤ 0x11 then 20 else if r ≤ 0x13 then 40
  else if r ≤ 0x15 then 9 else if r ≤ 0x1D then 3 else 0

/-- A block at first boot (Table 1-2): working blocks serve their own position, the spare block none.
DESIGN CHOICE: every block is populated with nine cells, 0x00 to 0x07 and the spare cell 0x08
(notes/assumptions/7). -/
def Block.initial (r b : Nat) : Block :=
  { state := if b < workingBlocks r then 0 else 1, serves := if b < workingBlocks r then b else 0x3F,
    cells := 9, spareCell := 8, suspect := [], retired := [], image := none }

/-- A region at first boot: CIPH4 and FEC5 are the Journeymen of their pools (R21). -/
def Region.initial (r : Nat) : Region :=
  { poolRole := if r = 0x0B ∨ r = 0x11 then 1 else if 7 ≤ r ∧ r ≤ 0x11 then 0 else 15, isolated := false }

/-- The hierarchy at the end of boot with every spare in place (R523). -/
def Hier.reset : Hier :=
  { blocks := [], regions := [], fifos := [], faultUnit := [], sram := [], inject := [], chip := ⟨⟨0, 0⟩, ⟨0, 0⟩⟩,
    ctlActive := 0, ctlStandby := 0, baseImage := 0, health := 0, healthTime := 0, erasure := false, logSeq := 0, log := [],
    sweepHa := none, sweepStore := none }

/-! ### Line receiver (spec/03) and run-ahead (spec/04) -/

/-- Receive states (Table 3-5). -/
inductive RxSt where
  | off
  | signalWait
  | acquire
  | tracking
  deriving DecidableEq, Repr

/-- Who uses the CD estimator (R83, R103). -/
inductive Estimator where
  | free
  | acquisition
  | scan (job : Nat)
  deriving DecidableEq, Repr

/-- A running cross-fade of the dispersion filter (R80, R81). -/
structure RxFade where
  start : Nat
  old : Int
  new : Int
  byTrack : Bool
  deriving DecidableEq, Repr

/-- A receive port (Tables 3-10 to 3-17). -/
structure RxPort where
  st : RxSt := .off
  acqStep : Nat := 0
  /-- the acquisition is a restarted one: step 1 goes straight to a full scan (R96) -/
  fullScan : Bool := false
  symRate : Nat := 0
  mod : Nat := 0
  entropy : Nat := 0
  swap : Bool := false
  invert : Nat := 0
  cdMode : Nat := 1
  /-- the applied value, during a cross-fade the new bank's -/
  cd : Int := 0
  centre : Nat := 1935000
  altValid : Bool := false
  altCd : Int := 0
  fade : Option RxFade := none
  /-- TRACK mode: the last residual of magnitude 100 or more (R82) -/
  residual : Option Int := none
  taps : Nat := 1
  mu : Nat := 10
  adapt : Bool := true
  timingBw : Nat := 2000
  phaseAvg : Nat := 6
  skewXI : Int := 0
  skewXQ : Int := 0
  skewYI : Int := 0
  skewYQ : Int := 0
  losClear : Nat := 6
  losSet : Nat := 4
  los : Bool := false
  lol : Bool := false
  /-- converters in lane fault: XI 0, XQ 1, YI 2, YQ 3 (R78) -/
  laneFault : List Nat := []
  /-- tolerance conditions standing, by estimate code 1 to 4 (R93) -/
  tolerance : List Nat := []
  estimator : Estimator := .free
  est : RxEst := {}
  rms : List Nat := [0, 0, 0, 0]
  /-- clipped samples of the converters in recent spans (R76) -/
  clips : List (Nat × List Nat) := []
  /-- index of the next span to form (R35) -/
  next : Nat := 0
  deriving DecidableEq, Repr

/-- A span of a tracking port that is not yet final (R108, R113, R114, R118, R125). -/
structure SpanRec where
  idx : Nat
  /-- provisional decisions have arrived -/
  provisional : Bool := false
  /-- first span whose consumption record names this one -/
  consumer : Option Nat := none
  /-- final decisions: none yet, some true from a decode that passed its own check -/
  decided : Option Bool := none
  /-- its final decisions have arrived and the contradiction check is made or waived -/
  checked : Bool := false
  /-- handed off before -/
  handed : Bool := false
  erased : Bool := false
  /-- failed recomputes, by block -/
  failures : Tab Nat := []
  deriving DecidableEq, Repr

/-- A running replay: first span, last span, next span to replay (R117). -/
structure Replay where
  start : Nat
  stop : Nat
  front : Nat
  deriving DecidableEq, Repr

/-- Run-ahead and rewind of a port (spec/04). -/
structure RwPort where
  spec : Bool := true
  contra : Nat := 32
  /-- E + 1, the next span to track -/
  track : Nat := 0
  /-- F, the oldest span not yet final -/
  fin : Nat := 0
  replay : Option Replay := none
  catchUp : Bool := false
  backlog : Nat := 0
  peak : Nat := 0
  spans : List SpanRec := []
  /-- pending injection: kind 0 contradiction, 1 residue, 2 parity; position (R132) -/
  inject : Option (Nat × Nat) := none
  /-- spans recomputed lately: newest span formed then, number (R126) -/
  recomp : List (Nat × Nat) := []
  rateHigh : Bool := false
  deriving DecidableEq, Repr

/-! ### Line transmitter (spec/05) -/

/-- Transmit states (Table 5-3). -/
inductive TxSt where
  | off
  | muted
  | rampUp
  | on
  | rampDown
  deriving DecidableEq, Repr

/-- A running cross-fade of the pre-compensator (R144): its first span. -/
structure TxFade where
  start : Nat
  old : Int
  new : Int
  deriving DecidableEq, Repr

/-- A running cross-fade of a pre-emphasis filter (R146): its first span, the taps that go out. -/
structure EmphFade where
  start : Nat
  old : List Int
  deriving DecidableEq, Repr

/-- Taps at reset: tap 7 is 0x4000, the others 0 (Table 5-12). -/
def emphReset : List Int := [0, 0, 0, 0, 0, 0, 0, 0x4000, 0, 0, 0, 0, 0, 0, 0]

/-- A transmit port (Tables 5-7 to 5-13). -/
structure TxPort where
  st : TxSt := .off
  symRate : Nat := 0
  mod : Nat := 0
  entropy : Nat := 0
  swap : Bool := false
  invert : Nat := 0
  oh : Nat := 1
  rolloff : Nat := 10
  rampTime : Nat := 100
  /-- the phase φ of R150 as a fraction, at device time `phiAt` -/
  phiNum : Nat := 0
  phiDen : Nat := 1
  phiAt : Nat := 0
  /-- a hard mute came since the last unmute -/
  hard : Bool := false
  /-- span index at the last hard mute (R162) -/
  hardSpan : Option Nat := none
  /-- the applied value, during a cross-fade the new bank's -/
  cdPre : Int := 0
  centre : Nat := 1935000
  fade : Option TxFade := none
  skewXI : Int := 0
  skewXQ : Int := 0
  skewYI : Int := 0
  skewYQ : Int := 0
  driveRms : Nat := 28
  /-- changes of DRIVE_RMS still reached along the profile of R150: the value before, the time of the change (R151) -/
  driveFrom : List (Nat × Nat) := []
  /-- taps in force by DAC, during a cross-fade the new bank's; unlisted at reset -/
  emph : Tab (List Int) := []
  emphFade : Tab (Option EmphFade) := []
  /-- entropy change agreed: the entropy and the multiframe at which it applies (R142) -/
  agreed : Option (Nat × Nat) := none
  /-- index of the next span to form -/
  next : Nat := 0
  /-- failures of spans in the chain, by block; 64 the original pass (R152) -/
  fails : List (Nat × Tab Nat) := []
  deriving DecidableEq, Repr

/-! ### Decoder pool (spec/06) -/

/-- FEC_PORT_CONFIG (Table 6-5) and the figures of R187 of a port. -/
structure FecPort where
  early : Bool := true
  maxIter : Nat := 12
  oh : Nat := 1
  /-- pending injection: 0 residue failure, 1 message word (R186) -/
  inject : Option Nat := none
  /-- counting in the present second: coded bits, corrected bits, iterations, decodes, most iterations, uncorrected, faults -/
  acc : List Nat := [0, 0, 0, 0, 0, 0, 0]
  /-- latched: BITS_SEC, CORR_SEC, ITER_MEAN, ITER_MAX, UNCORR_SEC, FAULTS_SEC -/
  sec : List Nat := [0, 0, 0, 0, 0, 0]
  /-- 400ZR: the region all spans are dealt to, and spans still taken as uncorrected after a change (R179) -/
  zrRegion : Option Nat := none
  zrBad : Nat := 0
  deriving DecidableEq, Repr

/-- A span held at the pool input: handed off, not yet dealt (R167, R168). -/
structure HeldSpan where
  port : Port
  span : Nat
  /-- when it became ready to be dealt -/
  ready : Option Nat := none
  /-- the forward guard is taken as LLR 0 -/
  noGuard : Bool := false
  erased : Bool := false
  /-- dealt before: a replay, or moved under R181 -/
  again : Bool := false
  /-- moved under R181 from a region and block: dealt ahead of all others, to another block -/
  moved : Option (Nat × Nat) := none
  faults : Nat := 0
  faultBlocks : Tab Nat := []
  deriving DecidableEq, Repr

/-- A running decode (R169, R172, R181, R182). -/
structure Decode where
  port : Port
  span : Nat
  region : Nat
  block : Nat
  early : Bool
  maxIter : Nat
  iter : Nat
  converged : Bool
  provisional : Bool
  erased : Bool
  inject : Option Nat
  faults : Nat
  faultBlocks : Tab Nat
  start : Nat
  deriving DecidableEq, Repr

/-- The pool. -/
structure Fec where
  ports : P2 FecPort
  short : Bool
  held : List HeldSpan
  running : List Decode
  /-- regions in order of their last deal, least recent first -/
  dealt : List Nat
  /-- next port where two spans became ready together -/
  turn : Port
  /-- slot occupancy not yet counted, by region, units of 2^-16 ns (R188) -/
  occupied : Tab Nat
  deriving DecidableEq, Repr

def Fec.reset : Fec :=
  { ports := ⟨{}, {}⟩, short := false, held := [], running := [], dealt := [0xC, 0xD, 0xE, 0xF, 0x10, 0x11], turn := 0,
    occupied := [] }

/-! ### Loom (spec/08) -/

/-- A bolt's nominal definition in one direction (R229): its members as (port, slot) in sequence order. -/
structure Bolt where
  members : List (Nat × Nat)
  skewMax : Nat
  deriving DecidableEq, Repr

/-- The receive side of a bolt (R235, R236). States: 1 DOWN, 2 SKEW, 3 UP. -/
structure BoltRx where
  st : Nat := 1
  /-- the newest tick read or freed -/
  last : Option Nat := none
  skew : Int := 0
  peak : Nat := 0
  /-- ticks read within SKEW_MAX since the last expiry, up to 64 -/
  run : Nat := 0
  deriving DecidableEq, Repr

/-- A thread in one direction (Table 8-11, R241, R242). At receive `label` is the expected label. -/
structure Thread where
  bolt : Nat
  size : Nat
  label : Nat
  regen : Bool
  deriving DecidableEq, Repr

/-- The labels a receive thread has taken (R241): the accepted label plus one, or zero; the last label received and how
often in a row; mismatch as last reported. -/
structure LabelRx where
  accepted : Nat := 0
  value : Nat := 0
  count : Nat := 0
  mism : Bool := false
  deriving DecidableEq, Repr

/-- A protection pair of one direction (R245 to R248). -/
structure Pair where
  working : Nat
  protect : Nat
  revert : Bool
  request : Nat := 0
  /-- copy read for the newest tick: false working -/
  sel : Bool := false
  suspended : Bool := false
  last : Option Nat := none
  deriving DecidableEq, Repr

/-- Framer states (Table 8-3). -/
inductive FrSt where
  | off
  | search
  | aligned
  | locked
  deriving DecidableEq, Repr

/-- A frame that arrived in LOCKED and whose tick some bolt has yet to read (R228, R235). -/
structure FrameRec where
  tick : Nat
  at_ : Nat
  clean : Bool
  deriving DecidableEq, Repr

/-- What the member map said of a slot (R234): multiframes in a row that differ or match, mismatch as reported. -/
structure SlotRec where
  differ : Nat := 0
  agree : Nat := 0
  mism : Bool := false
  deriving DecidableEq, Repr

/-- The Loom's side of a line port. -/
structure LoomPort where
  matchErr : Nat := 2
  labelDown : Bool := true
  st : FrSt := .off
  /-- candidates of SEARCH: expected position, matches (R225) -/
  cands : List (Nat × Nat) := []
  misses : Nat := 0
  /-- consistent frames in a row, and inconsistent ones (R226) -/
  good : Nat := 0
  bad : Nat := 0
  fn : Nat := 0
  mfn : Nat := 0
  tick : Nat := 0
  /-- parity of the newest frame's slot area; none before one arrived (R243) -/
  parity : Option Nat := none
  sbei : Nat := 0
  sbdi : Bool := false
  /-- the section count to return in the next frame sent -/
  sbeiDue : Nat := 0
  slots : Tab SlotRec := []
  /-- bolt parity of the multiframe in hand and of the one before, by bolt (R244); none before a whole multiframe is in -/
  boltPar : Option (Tab Nat) := none
  boltParPrev : Option (Tab Nat) := none
  /-- bolt counts to return in the next entry sent -/
  bbeiDue : Tab Nat := []
  /-- the newest three rate announcements: bits, multiframe, clean (R198) -/
  anns : List (Nat × Nat × Bool) := []
  frames : List FrameRec := []
  /-- device time from which the periods not LOCKED count (Table 8-6) -/
  lostFrom : Nat := 0
  /-- transmit framer: numbers of the newest frame sent; none before the first after an enable -/
  txSent : Bool := false
  txEver : Bool := false
  txFn : Nat := 0
  txMfn : Nat := 0
  txTick : Nat := 0
  txParity : Option Nat := none
  txBoltPar : Option (Tab Nat) := none
  txBoltParPrev : Option (Tab Nat) := none
  /-- the next thread of the label channel (R240) -/
  txLabel : Nat := 0
  deriving DecidableEq, Repr

/-- A latched second (R249): LATCH_SEQ, its device time, its counts. -/
structure Latch where
  seq : Nat := 0
  time : Nat := 0
  counts : Tab Nat := []
  deriving DecidableEq, Repr

/-- The Loom. Directions: `a` receive, `b` transmit. -/
structure Loom where
  ports : P2 LoomPort := ⟨{}, {}⟩
  bolts : P2 (Tab (Option Bolt)) := ⟨[], []⟩
  boltRx : Tab (Option BoltRx) := []
  threads : P2 (Tab (Option Thread)) := ⟨[], []⟩
  labels : Tab LabelRx := []
  pairs : P2 (List Pair) := ⟨[], []⟩
  /-- counts of the second in hand, by kind × 2^32 + index × 8 + word (Table 8-6) -/
  counts : Tab Nat := []
  latest : Latch := {}
  previous : Latch := {}
  deriving DecidableEq, Repr

/-! ### Hitless rate adaptation (spec/07) -/

/-- A guard entry (R203). Classes: 0 COMMITTED, 1 AUTHORISED, 2 SHEDDABLE, 3 BEST_EFFORT. -/
structure Guard where
  cls : Nat
  rank : Nat
  floor : Nat
  deriving DecidableEq, Repr

/-- An attempt of the requester (R196): sends made, and the last proposal's number, multiframe and digest. -/
structure Attempt where
  code : Nat
  job : Option Nat
  fallback : Bool
  cancel : Bool := false
  sends : Nat := 0
  id : Nat := 0
  mf : Nat := 0
  digest : Nat := 0
  deriving DecidableEq, Repr

/-- A step that binds a direction (R197, R199): the code, the multiframe, the announced or agreed digest. -/
structure Agreement where
  id : Nat
  code : Nat
  mf : Nat
  digest : Nat
  fallback : Bool
  job : Option Nat
  /-- receive: seen in a valid announcement -/
  announced : Bool
  /-- receive: followed without an own proposal -/
  foreign : Bool
  deriving DecidableEq, Repr

/-- Rate adaptation of a port (Table 7-7, R193 to R209). -/
structure RaPort where
  rxAuto : Bool := false
  txAccept : Bool := false
  fallback : Bool := false
  rxMax : Nat := 0
  rxMin : Nat := 0
  txMax : Nat := 0
  txMin : Nat := 0
  high : Nat := 25
  low : Nat := 10
  avgLog2 : Nat := 6
  lead : Nat := 256
  upHold : Nat := 600
  fbTime : Nat := 50
  /-- the averaging window, newest first: margin, predicted at the code above, at the code below (R193) -/
  window : List (Int × Int × Int) := []
  /-- the averaged predicted margin above has stayed at or above MARGIN_HIGH (R194) -/
  upStands : Bool := false
  /-- since when the margin has been below MARGIN_LOW with no step to take, and LINE_RA_MARGIN stands raised (R207) -/
  lowSince : Option Nat := none
  lowRaised : Bool := false
  held : Bool := false
  lastCause : Nat := 0
  nextId : Nat := 0
  /-- no automatic step before this device time (R196) -/
  seekFrom : Nat := 0
  attempt : Option Attempt := none
  rxAgreed : Option Agreement := none
  txAgreed : Option Agreement := none
  /-- candidate code; uncorrected and converged decodes in a row (R209) -/
  candidate : Option Nat := none
  candBad : Nat := 0
  candGood : Nat := 0
  candFallback : Bool := false
  /-- the port has moved to the candidate since (R209) -/
  candMoved : Bool := false
  /-- the plan in force was reached by a fallback (R208) -/
  rxFb : Bool := false
  txFb : Bool := false
  deriving DecidableEq, Repr

/-- Rate adaptation: the ports, and one guard table per direction (R203, R213). -/
structure Ra where
  ports : P2 RaPort := ⟨{}, {}⟩
  guards : P2 (Tab (Option Guard)) := ⟨[], []⟩
  deriving DecidableEq, Repr

/-! ### Storehouse (spec/09) -/

/-- A bay: its partition kind (0 free), its epoch, draining (R267, R274, R278). -/
structure Bay where
  kind : Nat := 0
  epoch : Nat := 0
  draining : Bool := false
  deriving DecidableEq, Repr

/-- Stack states (Table 9-3). -/
inductive StackSt where
  | working
  | lost
  | restoring
  | retraining
  deriving DecidableEq, Repr

/-- A stack (R266, R270, R271): the stripes written while RETRAINING, the stripes of the newest 1,024 cells rebuilt, the
cells that failed their CRC as (device time, stripe), newest first. -/
structure Stack where
  st : StackSt := .working
  log : List Nat := []
  rebuilt : List Nat := []
  failed : List (Nat × Nat) := []
  deriving DecidableEq, Repr

/-- A restore in hand (R273): phase 0 training, 1 test, 2 rebuild; cells that failed the test. -/
structure Restore where
  stack : Nat
  job : Nat
  phase : Nat := 0
  failures : Nat := 0
  deriving DecidableEq, Repr

/-- A stripe's worth of a unit that waits at a full partition (R277): SKEW by port and tick, QUEUE by flow. -/
structure HeldUnit where
  port : Nat
  tick : Nat
  flow : Nat
  data : List Byte
  deriving DecidableEq, Repr

/-- A partition (R274 to R278, Tables 9-9 and 9-12). Its bays stand in the bay table. -/
structure Part where
  discard : Bool := true
  limit : Nat := 10
  epochLast : Nat := 0
  highWater : Nat := 0
  /-- live stripes, rising (SKEW and QUEUE) -/
  live : List Nat := []
  /-- units held, the writer's first; the OVERFLOW that the writer found (R288) -/
  held : List HeldUnit := []
  heldDiscard : Bool := false
  /-- HOLD_LIMIT has passed and no stripe was freed since -/
  dropping : Bool := false
  /-- STORE_FULL stands raised -/
  saidFull : Bool := false
  /-- the job of a running shrink -/
  shrink : Option Nat := none
  deriving DecidableEq, Repr

/-- What a stripe read hands its requester (Table 9-2, R265, R268): mark 0 data, 1 never-written, 2 uncorrectable. -/
structure Delivery where
  kind : Nat
  stripe : Nat
  mark : Nat
  data : List Byte
  deriving DecidableEq, Repr

/-- The Storehouse. -/
structure Store where
  /-- cell payloads in canonical form: byte b of stripe n on stack k at n × 1,024 + k × 256 + b; unlisted bytes read 0
  (R262, R267) -/
  mem : List Host.Cell := []
  /-- epochs of cells by stripe × 4 + stack (R263); unlisted 0 -/
  epochs : Tab Nat := []
  bays : Tab Bay := []
  /-- partitions by kind -/
  parts : Tab (Option Part) := []
  epochNext : Nat := 1
  /-- stacks 0 to 3 -/
  dram : Tab Stack := []
  restore : Option Restore := none
  /-- an injection that has not struck: KIND, PART, STACK (R291) -/
  inject : Option (Nat × Nat × Nat) := none
  /-- stripe accesses of the last 1 ms as (device time, number), newest first (Table 9-11 DEMAND) -/
  demand : List (Nat × Nat) := []
  /-- rebuilt cells to be written back, as (stripe, stack), oldest first (R266) -/
  writeBacks : List (Nat × Nat) := []
  /-- frames of SKEW that were discarded before they were whole, as (port, TICK) (R277) -/
  lostFrames : List (Nat × Nat) := []
  /-- what the newest read delivered -/
  delivered : Option Delivery := none
  deriving DecidableEq, Repr

/-! ### Flows, scheduling and cipher (spec/10) -/

/-- A client frame that waits in an ingress buffer for flow records (R298, R300). -/
structure InFrame where
  flow : Nat
  bytes : List Byte
  deriving DecidableEq, Repr

/-- A client interface as FLOW sees it (Table 10-6, R298, R311). CLASS_MODE: 0 PORT, 1 VLAN, 2 VLAN_PCP. -/
structure FlowIface where
  classMode : Nat := 0
  missDiscard : Bool := true
  defaultFlow : Nat := 0
  ingress : List InFrame := []
  /-- egress buffer: bits held × 65,536,000,000,000 at device time `since`, and the thread last served (R311) -/
  level : Nat := 0
  since : Nat := 0
  lastThread : Nat := 0
  /-- stream bytes not yet in a segment (R304) -/
  stream : List Byte := []
  deriving DecidableEq, Repr

/-- Where a stripe of a flow's queue stands (R306): an open tail, closed and yet to be written, held at a full partition,
written, discarded. -/
inductive SegSt where
  | open_
  | closed
  | issued
  | written (stripe : Nat)
  | gone
  deriving DecidableEq, Repr

/-- A stripe of a flow's queue; an open tail's bytes, its CIPH region and the time it was last packed (R306). -/
structure Seg where
  st : SegSt
  data : List Byte
  region : Nat
  stamp : Nat
  deriving DecidableEq, Repr

/-- A parcel of a queue: its place in the flow's packed bytes, its parcel bytes, its frame's bytes (R302, R306). -/
structure Parcel where
  pos : Nat
  len : Nat
  frame : Nat
  deriving DecidableEq, Repr

/-- A flow at transmit (Tables 10-2 and 10-7): binding, scheduler, queue. `base` is the place of the first stripe listed. -/
structure TxFlow where
  thread : Nat
  ciph : Bool
  ctx : Nat
  pin : Bool
  quantum : Nat
  deficit : Nat := 0
  base : Nat := 0
  segs : List Seg := []
  parcels : List Parcel := []
  /-- the scheduler has reached parcels that lie only in the tail (R306) -/
  flush : Bool := false
  /-- the stripe read last: its place, its data -/
  buf : Option (Nat × List Byte) := none
  deriving DecidableEq, Repr

/-- A flow at receive. -/
structure RxFlow where
  thread : Nat
  ciph : Bool
  ctx : Nat
  pin : Bool
  deriving DecidableEq, Repr

/-- A transmit key (R312, R315, R316). -/
structure TxKey where
  id : Nat
  salt : Word
  key : List Byte
  /-- counter of the next message, 1 when loaded -/
  counter : Nat := 1
  deriving DecidableEq, Repr

/-- A transmit cipher context (R312, R316): a rollover waits for a multiframe of a port. -/
structure TxCtx where
  cur : Option TxKey := none
  next : Option TxKey := none
  roll : Option (Port × Nat) := none
  /-- CIPH_COUNTER_EXHAUSTED has been raised for the current key -/
  exhausted : Bool := false
  deriving DecidableEq, Repr

/-- A receive key (R313, R315): highest counter accepted, replay bitmap, the order of its last authentication. -/
structure RxKey where
  id : Nat
  salt : Word
  key : List Byte
  highest : Nat := 0
  bitmap : Nat := 0
  used : Nat := 0
  deriving DecidableEq, Repr

/-- A receive cipher context: slots 0 and 1. -/
structure RxCtx where
  a : Option RxKey := none
  b : Option RxKey := none
  deriving DecidableEq, Repr

/-- A thread at transmit (R301, R307, R310): KIND, LEN_ADJ, active list, padding credit in bytes × 671,088,640 at device
time `since`, the size in force since then. -/
structure TxThread where
  stream : Bool := false
  lenAdj : Int := 0
  active : List Nat := []
  credit : Nat := 0
  since : Nat := 0
  size : Nat := 0
  deriving DecidableEq, Repr

/-- A thread at receive (R301, R303, R305): KIND, REPLACE, EGRESS; the place of the next header while in SYNC, the places at
which candidates of HUNT expect one; the replacement runs. -/
structure RxThread where
  stream : Bool := false
  replace : Nat := 0
  egress : Option Nat := none
  sync : Option Nat := none
  cands : List Nat := []
  replacing : Bool := false
  deriving DecidableEq, Repr

/-- A transmit message dealt to a CIPH region (R312, R317); it carries its key and counter from the deal. -/
structure TxMsg where
  region : Nat
  flow : Nat
  /-- key, and counter, of a ciphered message -/
  key : Option TxKey
  bytes : List Byte
  done : Bool
  deriving DecidableEq, Repr

/-- A received message in order of its thread's parcels (R311, R313): what is known of it. -/
inductive RxEnd where
  /-- waits for its flow's record (R300) -/
  | record
  /-- with a CIPH region, to be decrypted -/
  | cipher (region : Nat)
  /-- a frame to be delivered -/
  | frame (bytes : List Byte)
  /-- nothing to deliver -/
  | nothing
  deriving DecidableEq, Repr

/-- A received parcel, or a segment of a STREAM thread by the TICK of its first tick. -/
structure RxMsg where
  thread : Nat
  flow : Nat
  segment : Option Nat
  header : List Byte
  keyId : Nat
  body : List Byte
  state : RxEnd
  deriving DecidableEq, Repr

/-- FLOW and CIPH. -/
structure Flow where
  ifaces : Tab FlowIface := []
  /-- classification: interface × 32,768 + VID × 8 + PCP to flow + 1 (R297) -/
  classes : Tab Nat := []
  tx : Tab (Option TxFlow) := []
  rx : Tab (Option RxFlow) := []
  txCtx : Tab TxCtx := []
  rxCtx : Tab RxCtx := []
  /-- records held on die, most recently used first (R300) -/
  cache : List Nat := []
  txThreads : Tab TxThread := []
  rxThreads : Tab RxThread := []
  txMsgs : List TxMsg := []
  rxMsgs : List RxMsg := []
  /-- CIPH regions by their last deal, least recent first (R317) -/
  dealt : List Nat := [7, 8, 9, 10, 11]
  shortTx : Bool := false
  shortRx : Bool := false
  /-- a running number, for the order of `Seg.stamp` and `RxKey.used` -/
  order : Nat := 0
  deriving DecidableEq, Repr

/-! ### Optical client lanes and host lanes (spec/11, spec/12) -/

/-- Receive states of a client lane (R336); LOCK of a host lane (R357) is `train`, and it has no ALIGN. -/
inductive LaneRx where
  | off
  | signalWait
  | train
  | align
  | up
  deriving DecidableEq, Repr

/-- Transmit states of a lane (R336, R357): `muted` is SQUELCHED on a host lane. -/
inductive LaneTx where
  | off
  | muted
  | on
  deriving DecidableEq, Repr

/-- A client lane (Tables 11-10 to 11-13). -/
structure ClientLane where
  rx : LaneRx := .off
  tx : LaneTx := .off
  /-- step in hand of Table 11-4 within TRAIN or ALIGN -/
  step : Nat := 0
  los : Bool := false
  adcFault : Bool := false
  dacFault : Bool := false
  adapt : Bool := true
  mu : Nat := 10
  main : Nat := 6
  dfe : Bool := true
  rxPrecode : Bool := true
  txPrecode : Bool := true
  swing : Nat := 56
  rlm : Nat := 1000
  taps : List Int := [0, 0, 64, 0, 0, 0, 0]
  gen : Bool := false
  check : Bool := false
  pattern : Nat := 0
  peer : Nat := 0xFF
  /-- the eye stands reported below EYE_MIN -/
  eyeLow : Bool := false
  /-- the lane arrives more than 180 ns from the others of its interface (R340) -/
  late : Bool := false
  /-- latched at the one-second tick: SPC_FAIL_SEC, CORR_SEC, UNCORR_SEC; the counters they were taken from -/
  second : List Nat := [0, 0, 0]
  base : List Nat := [0, 0, 0]
  deriving DecidableEq, Repr

/-- An interface of client or host lanes (R340, R354). Modes of a client interface: 1 FRAME, 2 STREAM; of a host interface:
1 FRAME, 2 CODEWORD, 3 CBR. `rate` is the RATE of a host interface's lanes when it was defined. -/
structure LaneIface where
  mode : Nat
  width : Nat
  rate : Nat := 0
  up : Bool := false
  /-- Ethernet alignment has locked (host), V0 is distinct (client) -/
  aligned : Bool := false
  deriving DecidableEq, Repr

/-- A client group's settings (Table 11-7) and lanes. -/
structure ClientGroup where
  eyeMin : Nat := 64
  rate : Nat := 0
  lanes : Tab ClientLane := []
  deriving DecidableEq, Repr

/-- A host lane (R357 to R363, Table 12-7). -/
structure HostLane where
  rx : LaneRx := .off
  tx : LaneTx := .off
  rate : Nat := 0
  los : Bool := false
  rxFault : Bool := false
  txFault : Bool := false
  gen : Bool := false
  check : Bool := false
  pattern : Nat := 0
  checkSync : Bool := false
  /-- RATE_LOG2 of a running RATE injection -/
  inject : Option Nat := none
  /-- latched at the one-second tick: CORR_SEC, UNCORR_SEC; the counters they were taken from -/
  second : List Nat := [0, 0]
  base : List Nat := [0, 0]
  deriving DecidableEq, Repr

/-- Client and host lanes: groups, host lanes, the equalisation table by lane × 8 + rate (R356), interfaces by number. -/
structure Lanes where
  groups : P2 ClientGroup := ⟨{}, {}⟩
  host : Tab HostLane := []
  eq : Tab (List Word) := []
  ifaces : Tab (Option LaneIface) := []
  deriving DecidableEq, Repr

/-! ### Timing (spec/13) -/

/-- A crystal (R367): it shows no edge; it differs by more than 50 ppm from the holdover master. Either is FAULT. -/
structure Xtal where
  still : Bool := false
  off : Bool := false
  deriving DecidableEq, Repr

/-- Candidate states (Table 13-2). -/
inductive RefSt where
  | inactive
  | qualifying
  | qualified
  | drift
  deriving DecidableEq, Repr

/-- A reference candidate (Tables 13-1, 13-2, 13-8). -/
structure RefCand where
  st : RefSt := .inactive
  /-- QL_SRC: 0 host, 1 Crier, 2 ESMC; the QL last received -/
  qlSrc : Nat := 0
  hostQl : Nat := 0xF
  rxQl : Nat := 0xF
  lane : Nat := 0
  qualTime : Nat := 10
  accept : Nat := 460
  reject : Nat := 920
  freqHz : Nat := 0
  freqFrac : Nat := 0
  /-- offset of the latest gate, units of 0.01 ppb; seconds of gates within ACCEPT -/
  offset : Int := 0
  good : Nat := 0
  deriving DecidableEq, Repr

/-- A candidate as it stands after a cold reset: QL_SRC is Crier for 8, 9 and 16 (Table 13-8). -/
def RefCand.initial (i : Nat) : RefCand := { qlSrc := if i = 8 ∨ i = 9 ∨ i = 16 then 1 else 0 }

/-- DPLL states (Table 13-4). -/
inductive DpllSt where
  | freeRun
  | acquire
  | locked
  | holdover
  deriving DecidableEq, Repr

/-- A DPLL (Tables 13-4, 13-9, 13-13). -/
structure Dpll where
  pbo : Bool := true
  bw : Nat := 10000
  holdAvg : Nat := 300
  holdDelay : Nat := 4
  holdQl : Nat := 0xB
  window : Nat := 10
  driftLimit : Nat := 200
  driftRate : Nat := 20
  disagree : Nat := 100
  fpOffset : Int := 0
  revert : Bool := true
  /-- priorities by candidate, unlisted 0xF -/
  prio : Tab Nat := []
  st : DpllSt := .freeRun
  ref : Option Nat := none
  /-- the candidate used last, and the cause of the change that waits for a selection (Table 13-14) -/
  last : Option Nat := none
  cause : Nat := 0
  /-- an entry into HOLDOVER that the next selection reports -/
  pend : Bool := false
  /-- driving core: false A, true B -/
  core : Bool := false
  coreFault : Bool := false
  /-- one core is retired: no compare (spec/18 R490) -/
  coreRetired : Bool := false
  /-- FORCE MODE and the candidate forced -/
  forced : Nat := 0
  forcedRef : Nat := 0
  bwNow : Nat := 1000000
  /-- output offset of the latest gate, units of 0.001 ppb -/
  freq : Int := 0
  /-- output offsets by gate since LOCKED at the final bandwidth, newest first -/
  gates : List Int := []
  /-- output offset of the latest whole gate in LOCKED -/
  lockGate : Option Int := none
  /-- at the latest gate's end: 0 not LOCKED, 1 LOCKED, 2 LOCKED at the final bandwidth -/
  atGate : Nat := 0
  /-- offsets of the reference in use, and of the holdover master, since the reference came into use, newest first, up to
  32 gates, units of 0.01 ppb -/
  seen : List (Int × Int) := []
  /-- the other candidate of a disagreement that stands -/
  other : Option Nat := none
  deriving DecidableEq, Repr

/-- An output (Table 13-10): 0 to 7 CLKOUT, 8 to 11 FPOUT. -/
structure ClkOut where
  enable : Bool := false
  dpll : Nat := 0
  period : Nat := 0
  width : Nat := 10
  freqHz : Nat := 10000000
  /-- FPOUT: its phase has been placed; FP_ERROR where it is known; SLEW of a running alignment, 0 none -/
  placed : Bool := false
  err : Option Int := none
  slew : Nat := 0
  deriving DecidableEq, Repr

/-- TIMING. -/
structure Timing where
  xtals : P2 Xtal := ⟨{}, {}⟩
  /-- the active crystal: false XTAL0 -/
  xtal : Bool := false
  /-- XTAL1 less XTAL0, units of 0.01 ppm; a disagreement without a master has been reported -/
  xtalDiff : Int := 0
  xtalApart : Bool := false
  /-- the active crystal stands still and no other may take its place: nothing runs (R368) -/
  clockLost : Bool := false
  xtalPref : Bool := false
  xtalBackup : Bool := false
  master : Nat := 0xF
  option2 : Bool := false
  /-- TICK_SRC as set, and the source in force -/
  tickSrc : Bool := false
  tickNow : Bool := false
  cands : Tab (Option RefCand) := []
  dplls : Tab Dpll := []
  outs : Tab ClkOut := []
  tickSeq : Nat := 0
  tickTime : Nat := 0
  /-- TAI seconds at the latest tick; a time of day has been set (R385, spec/14 R410) -/
  tod : Nat := 0
  todSet : Bool := false
  todNext : Option Nat := none
  deriving DecidableEq, Repr

/-! ### Crier (spec/14) -/

/-- A packet: its TYPE (Table 14-2), its payload, and whether it is a DOMAIN packet being relayed (R401). -/
structure CrPkt where
  type : Nat
  payload : List Byte
  relayed : Bool := false
  deriving DecidableEq, Repr

/-- A packet that a listener has accepted and whose handler has not yet run (R408); an inner DOMAIN packet for this unit has
type 0x100 + INNER (R414). -/
structure CrIn where
  listener : Nat
  type : Nat
  payload : List Byte
  strength : Nat
  /-- device time at which the first chip of the sync word reached the pins (R411) -/
  sync : Nat
  /-- SRC of a DOMAIN packet, none with SRC_VALID clear -/
  src : Option Nat
  deriving DecidableEq, Repr

/-- An object being reassembled (R412). -/
structure CrObject where
  /-- SRC of the DOMAIN packets that carry it, none on a link; the prefix of R400 -/
  src : Option Nat
  fpShort : List Byte
  id : Nat
  kind : Nat
  count : Nat
  parts : Tab (Option (List Byte))
  at_ : Nat
  deriving DecidableEq, Repr

/-- The far end heard on a line port (R409, R456). -/
structure CrPeer where
  interval : Nat
  code : Nat
  port : Nat
  domain : Nat
  address : Option Nat
  fpShort : List Byte
  txAccept : Bool
  auth : Bool
  deriving DecidableEq, Repr

/-- A Crier port: listeners 0 LINE0, 1 LINE1, 2 CRIER_MON0, 3 CRIER_MON1 (Table 14-7, R398, R401, R404). -/
structure CrPort where
  txEnable : Bool := true
  rxEnable : Bool := true
  auth : Bool := false
  qlDpll : Nat := 0
  hostQl : Nat := 0xF
  attach : Nat := 0
  txCode : Nat := 2
  listenCode : Nat := 2
  depth : Nat := 20
  detect : Nat := 12
  capture : Nat := 12
  hello : Nat := 5
  timeInt : Nat := 4
  asym : Int := 0
  /-- packets queued, oldest first; segments of objects that have yet to enter the queue; the packet on air -/
  queue : List CrPkt := []
  feed : List CrPkt := []
  air : Option CrPkt := none
  /-- listener: 1 IDLE, 2 LOCKING, 3 RECEIVING (OFF follows from what it hears); strength and sync time of the packet being
  received; the second correlator holds a candidate (R404 to R407) -/
  rx : Nat := 1
  strength : Nat := 0
  syncAt : Nat := 0
  second : Bool := false
  /-- strength of the latest accepted packet, far-end chip offset (Table 14-9) -/
  lastStrength : Nat := 0
  chip : Int := 0
  peer : Option CrPeer := none
  objects : List CrObject := []
  /-- TX_CODE and DEPTH of the packet on air (R419) -/
  airCode : Nat := 2
  airDepth : Nat := 20
  deriving DecidableEq, Repr

/-- A join request at the registrar (R416). `stage`: false its proof runs, true it waits for CRIER_ADMIT under `id`. -/
structure CrJoin where
  listener : Nat
  fpShort : List Byte
  fingerprint : List Byte
  rejoin : Option Nat
  decide_ : Bool
  id : Nat
  deriving DecidableEq, Repr

/-- An entry of the receive buffer (R417, R422). Kinds: 0 link host, 1 domain host, 2 join request. -/
structure CrEntry where
  kind : Nat
  listener : Nat
  src : Nat
  strength : Nat
  bytes : List Byte
  deriving DecidableEq, Repr

/-- The Crier (R409 to R420). -/
structure Crier where
  ports : Tab CrPort := []
  /-- accepted packets whose handlers have yet to run, oldest first -/
  inbox : List CrIn := []
  role : Nat := 0
  admitAuto : Bool := false
  timePort : Port := 0
  hops : Nat := 15
  report : Nat := 1440
  domainId : Nat := 0
  rejoin : Option Nat := none
  /-- 0 NONE, 1 JOINING, 2 JOINED -/
  state : Nat := 0
  address : Nat := 0
  domain : Nat := 0
  /-- a refusal was answered; no JOIN_REQ until 60 s have passed (R416) -/
  waiting : Bool := false
  nextMsg : Nat := 0
  /-- keys seen, newest first, with their times (R414) -/
  seen : List (List Byte × Nat) := []
  joins : List CrJoin := []
  nextReq : Nat := 0
  /-- OBJECT_ID of the next object sent -/
  nextObject : Nat := 0
  /-- addresses of the joined records of the table, rising (R415) -/
  members : List Nat := []
  buffer : List CrEntry := []
  /-- the two-way exchange: SEQ of the next TIME_REQ; SEQ, T1 in ns of the time of day and device time of the one that
  waits; missed in a row; θ (R411) -/
  seq : Nat := 0
  asked : Option (Nat × Int × Nat) := none
  missed : Nat := 0
  theta : Int := 0
  deriving DecidableEq, Repr

/-! ### Assay (spec/15) -/

/-- A telemetry timer (Table 15-9). -/
structure AsTimer where
  enable : Bool := false
  period : Nat := 8000
  deriving DecidableEq, Repr

/-- A trigger source: 0 to 7 timers, 8 to 31 PWMs, 32 the internal scan (R430, R431). -/
structure AsSource where
  seq : List Nat := []
  delay : Nat := 0
  /-- a trigger is in hand; its delay runs -/
  hand : Bool := false
  delaying : Bool := false
  /-- firings -/
  fired : Nat := 0
  deriving DecidableEq, Repr

/-- A telemetry channel (Tables 15-10 and 15-11, R433, R434). -/
structure AsChan where
  /-- FILTER as set; the filter in force; the outgoing filter and the outputs given in a cross-fade -/
  filter : Nat := 0
  filterNow : Nat := 0
  fade : Option (Nat × Nat) := none
  window : Bool := false
  hyst : Nat := 16
  low : Nat := 0
  high : Nat := 16383
  /-- latest value in quarter codes, none before the first; it is a decimator output -/
  value : Option Nat := none
  filtered : Bool := false
  out : Bool := false
  deriving DecidableEq, Repr

/-- A PWM output (Table 15-10); `periodNow` is the period in force. -/
structure AsPwm where
  enable : Bool := false
  period : Nat := 6500
  periodNow : Nat := 6500
  duty : Nat := 0
  deriving DecidableEq, Repr

/-- A bias loop (Table 15-10, R436). KIND, PORT and MONITOR have no reset value in the spec (notes/assumptions/23). -/
structure AsBias where
  enable : Bool := false
  kind : Nat := 0
  port : Nat := 0
  sign : Bool := false
  dither : Nat := 256
  ditherPeriods : Nat := 5
  monitor : Nat := 0
  dutyMin : Nat := 0
  dutyMax : Nat := 0xFFFF
  gain : Nat := 8
  target : Nat := 0
  /-- the loop's duty while it is enabled, and whether the last update clamped it; last e or setpoint error -/
  d : Rat := 0
  clamped : Bool := false
  err : Rat := 0
  /-- the monitor's minimum and maximum of the latest sweep -/
  sweep : Option (Nat × Nat) := none
  /-- causes of ASSAY_BIAS that stand -/
  alarms : List Nat := []
  deriving DecidableEq, Repr

/-- A calibration that runs (R437); `job` none in the background. -/
structure AsCal where
  kind : Nat
  subject : Nat
  apply : Bool
  job : Option Nat
  deriving DecidableEq, Repr

/-- A quality record (R439). -/
structure AsQual where
  valid : Bool := false
  measured : Bool := false
  value : Int := 0
  ref : Int := 0
  gap : Int := 0
  bound : Int := 0
  time : Nat := 0
  /-- ASSAY_QUALITY stands -/
  above : Bool := false
  deriving DecidableEq, Repr

/-- ASSAY. -/
structure Assay where
  timers : Tab AsTimer := []
  sources : Tab AsSource := []
  chans : Tab AsChan := []
  /-- the source whose sequence runs, none in power-down; sources pending, oldest first, with their converter clock -/
  running : Option Nat := none
  pending : List (Nat × Nat) := []
  pwms : Tab AsPwm := []
  biases : Tab AsBias := []
  /-- background period in minutes by kind, unlisted the reset value -/
  periods : Tab (Option Nat) := []
  cals : List AsCal := []
  /-- values committed by calibration, by kind × 2^20 + subject -/
  values : Tab (List Int) := []
  /-- quality records by measure × 256 + index -/
  quality : Tab AsQual := []
  /-- ASSAY_TEMP stands -/
  tempOut : Bool := false
  /-- VDD_CMD and VDD_READ in mV (spec/20 R513, R514) -/
  vddCmd : Nat := 800
  vddRead : Nat := 800
  /-- by region: worst-case pace and required pace of the latest sample -/
  pace : Tab (Option (Nat × Nat)) := []
  busFault : Bool := false
  mismatch : Bool := false
  /-- ASSAY_PACE stands with cause shortfall -/
  shortfall : Bool := false
  deriving DecidableEq, Repr

/-! ### Hallmark (spec/16) -/

/-- A pending KEK offer (R457): its number and its signed message, result words 0 to 321. -/
structure Offer where
  id : Nat
  message : List Word
  deriving DecidableEq, Repr

/-- A challenge this unit has sent and whose proof is outstanding (R456). `join` is the join request it belongs to,
none on a link. -/
structure Challenge where
  listener : Nat
  join : Option Nat
  fpShort : List Byte
  nonce : List Byte
  certEc : Option (List Byte)
  certMl : Option (List Byte)
  proof : Option (List Byte)
  deriving DecidableEq, Repr

/-- Hallmark's state. -/
structure Hall where
  /-- measurement registers 0 to 7, 48 bytes each, unlisted zero (R450) -/
  regs : Tab (List Byte)
  /-- the fuse count F (R453); a one-time array, kept over cold resets -/
  fuses : Nat
  /-- KEK_VALID and the key (R457) -/
  kek : Option (List Byte)
  offer : Option Offer
  nextOffer : Nat
  /-- PROOFS_FAILED (Table 16-6) -/
  proofsFailed : Nat
  tallyMask : Nat
  challenges : List Challenge
  deriving DecidableEq, Repr

/-- Hallmark after a cold reset with `f` fuses blown: registers zero, no KEK, no offer (R450, R457, R458).
DESIGN CHOICE: the first OFFER_ID is 0 (notes/assumptions/6). -/
def Hall.cold (f : Nat) : Hall :=
  { regs := [], fuses := f, kek := none, offer := none, nextOffer := 0, proofsFailed := 0, tallyMask := 0,
    challenges := [] }

/-! ### Host-loaded tables found uncorrectable (spec/17) -/

/-- An entry of a host-loaded table, or other control state, that read uncorrectable and is not yet restored from CLERK's copy
(R465, Table 17-2); directions: 0 receive, 1 transmit. -/
inductive Damage where
  | cls (key flow : Nat)
  | eq (key : Nat) (words : List Word)
  | bolt (d : Fin 2) (b : Nat) (v : Bolt)
  | thread (d : Fin 2) (t : Nat) (v : Thread)
  | guard (d : Fin 2) (t : Nat) (v : Guard)
  | priority (d c v : Nat)
  | sequence (src : Nat) (v : List Nat)
  | control (ha addr : Nat)
  deriving DecidableEq, Repr

/-! ### In-service change, image slots and ageing (spec/18) -/

/-- What Hallmark knows of an image it has accepted (Table 16-2). -/
structure ImageInfo where
  svn : Nat
  version : Nat
  digest : List Byte
  deriving DecidableEq, Repr

/-- A change that runs (R481 to R490). Method 1 rolling, 2 migration, 3 DPLL core swap; phase 0 first retest,
1 PREPARE, 2 COPY, 3 SWITCH, 4 RETEST (Table 18-7), in a migration 3 also the drain of the outgoing region. `job` none:
begun by R17. In a core swap `incoming` is the core under change and `outgoing` how many of the two were changed. -/
structure Change where
  region : Nat
  job : Option Nat
  method : Nat
  update : Bool
  phase : Nat
  done : Nat
  total : Nat
  /-- positions still to be stepped, the one in hand first -/
  positions : List Nat
  /-- block (rolling), region (migration) or core (swap) that comes in, and the one that goes out -/
  incoming : Nat
  outgoing : Nat
  lastFreed : Nat
  cancelled : Bool
  /-- a DPLL's change after a core fault (R490); a core has failed in it -/
  faulted : Bool := false
  failed : Bool := false
  deriving DecidableEq, Repr

/-- A running handover (R491): stage 1 load, 2 waiting for the takeover, 3 former pair loading. -/
structure Handover where
  job : Nat
  slot : Nat
  stage : Nat
  deriving DecidableEq, Repr

/-- Service state. -/
structure Serv where
  /-- flash slots A and B: the words the device has written there, none while as the outside left them (R480) -/
  slotA : Option (List Word)
  slotB : Option (List Word)
  running : ImageInfo
  /-- the verified standby image (R480) -/
  verified : Option ImageInfo
  changes : List Change
  handover : Option Handover
  /-- daily records: days held, first and latest voltage, projected years in tenths, growth by region in 0.01 %
  (R496); in flash, kept over cold resets -/
  days : Nat
  vddFirst : Nat
  vddNow : Nat
  yearsLeft : Nat
  growth : Tab Nat
  deriving DecidableEq, Repr

/-- No image written, none verified, no change running. DESIGN CHOICE: the running image's SVN, version and digest
are 0 (notes/assumptions/5); YEARS_LEFT reads 0xFFFF with no record (Table 18-8). -/
def Serv.reset : Serv :=
  { slotA := none, slotB := none, running := ⟨0, 0, List.replicate 48 0⟩, verified := none, changes := [],
    handover := none, days := 0, vddFirst := 0, vddNow := 0, yearsLeft := 0xFFFF, growth := [] }

/-! ### Tally (spec/19) -/

/-- Tagging of one port and direction (R507, Table 19-5). `lfsr` is the selector. -/
structure Tag where
  enable : Bool := false
  k : Nat := 16
  seed : Nat := 0x7FFFFFFF
  lfsr : Nat := 0x7FFFFFFF
  deriving DecidableEq, Repr

/-- A tag record (Table 19-3) or a tagged span still open. Stamps are device times, by stage; entries 0 to 5, exits
0 to 5. -/
structure TagRec where
  seq : Nat
  dir : Nat
  port : Nat
  erased : Bool
  late : Bool
  replays : Nat
  span : Nat
  base : Nat
  entry : Tab Nat
  exit : Tab Nat
  deriving DecidableEq, Repr

/-- Tally: every 48-bit counter of BAR2 by its offset divided by 8 (R501, R502), the latch of function 1 (R503),
captures (R504) and tagging. -/
structure Tally where
  counters : Tab Nat
  /-- slot address and high half of the latch; none when empty -/
  latch : Option (Nat × Nat)
  /-- captured groups -/
  frozen : List Nat
  /-- captured counters of the captured groups -/
  capture : Tab Nat
  /-- by 2 × port + direction -/
  tags : Tab Tag
  openTags : List TagRec
  ring : List TagRec
  tagSeq : Nat
  deriving DecidableEq, Repr

def Tally.reset : Tally :=
  { counters := [], latch := none, frozen := [], capture := [], tags := [], openTags := [], ring := [], tagSeq := 0 }

/-! ### Power-up, boot and the test access port (spec/20, spec/21) -/

/-- Where boot stands. -/
inductive Phase where
  /-- a cold reset is being held, or no crystal runs: boot has not begun -/
  | reset
  | romStart
  | image
  | selfTest
  | ready
  /-- both slots failed: the ROM serves SPI alone (R522) -/
  | recovery
  /-- boot has stopped in self-test: both control pairs failed (R521) -/
  | stopped
  deriving DecidableEq, Repr

/-- Boot state (R513 to R525) and the TAP (R539, R540). -/
structure Boot where
  phase : Phase
  bootState : Nat
  rstN : Bool
  perst : Bool
  railsGood : Bool
  cause : Nat
  slot : Nat
  fallback : Bool
  causeA : Nat
  causeB : Nat
  bootTime : Nat
  regionsFailed : List Nat
  blocksRetired : Nat
  cellsRetired : Nat
  /-- the slot the Image phase tries now -/
  trying : Nat
  /-- slot the boot record in flash names (R520) -/
  record : Nat
  fwVersion : Nat
  fwImage : Nat
  endpointUp : Bool
  endpointConfigured : Bool
  /-- TAP instruction (R539), and whether one has taken the pins since the TAP was last reset (R540) -/
  tap : Nat
  pinsTaken : Bool
  deriving DecidableEq, Repr

/-- The end of a boot from slot A after power-on, everything passed (R523, R524). DESIGN CHOICE: FW_VERSION
and the boot time are 0 (notes/assumptions/5). -/
def Boot.reset : Boot :=
  { phase := .ready, bootState := 3, rstN := true, perst := true, railsGood := true, cause := 1, slot := 0,
    fallback := false, causeA := 0, causeB := 0, bootTime := 0, regionsFailed := [], blocksRetired := 0,
    cellsRetired := 0, trying := 0, record := 0, fwVersion := 0,
    fwImage := 0, endpointUp := true, endpointConfigured := true, tap := 1, pinsTaken := false }

/-- `n` bytes of a value, cut or filled with zero bytes. -/
def fixBytes (n : Nat) (bs : List Byte) : List Byte := (bs ++ List.replicate n 0).take n

/-- SHA-384, 48 bytes. -/
def sha384 (bs : List Byte) : List Byte := fixBytes 48 (Config.sha384 bs)

/-- A measurement register (R450). -/
def Hall.measure (h : Hall) (k : Nat) : List Byte := Tab.get (List.replicate 48 0) h.regs k

/-- A register is extended by an item: register = SHA-384(register ‖ SHA-384(item)) (R450). -/
def Hall.extend (k : Nat) (item : List Byte) (h : Hall) : Hall :=
  { h with regs := Tab.set (List.replicate 48 0) h.regs k (sha384 (h.measure k ++ sha384 item)) }

/-- The item of register 3: STEPPING, fuse count, SVN of the running and of the standby image, zero bytes; 0xFF for no
verified standby image (Table 16-1, Table 16-6). -/
def svnItem (fuses running : Nat) (standby : Option Nat) : List Byte :=
  fixBytes 16 [0xB1, BitVec.ofNat 8 fuses, BitVec.ofNat 8 running, BitVec.ofNat 8 (standby.getD 0xFF)]

/-- Hallmark at the end of a boot: register 0 extended by the boot ROM, 1 by the running image's digest, 3 by its SVN
(R450, R519). -/
def Hall.booted : Hall :=
  (((Hall.cold 0).extend 0 Config.bootRom).extend 1 Serv.reset.running.digest).extend 3 (svnItem 0 0 none)

/-! ### The whole -/

/-- The state of the block. `time` is extended device time in units of 2^-16 ns (R69, R71); `free` counts the
free values used (the model's own field, see the assumption log); `out` records what has left the device. -/
structure State where
  /-- the commands that wait, first in first out -/
  pending : List Instr
  /-- extended device time in units of 2^-16 ns (R69, R71) -/
  time : Nat
  /-- how many free values have been used -/
  free : Nat
  /-- what has left the device, oldest first -/
  out : List Out
  /-- the BAR0 window and the rings (spec/02) -/
  bar0 : Bar0
  /-- the command protocol (spec/02) -/
  clerk : Clerk
  /-- regions, blocks, cells, FIFOs, faults (spec/01, spec/17) -/
  hier : Hier
  /-- the counters and the tags (spec/19) -/
  tally : Tally
  /-- power-up, boot and the test port (spec/20, spec/21) -/
  boot : Boot
  /-- Hallmark (spec/16) -/
  hall : Hall
  /-- in-service change and ageing (spec/18) -/
  serv : Serv
  /-- the receive ports (spec/03) -/
  rx : P2 RxPort
  /-- run-ahead and rewind of the ports (spec/04) -/
  rw : P2 RwPort
  /-- the decoder pool (spec/06) -/
  fec : Fec
  /-- the transmit ports (spec/05) -/
  tx : P2 TxPort
  /-- the Loom (spec/08) -/
  loom : Loom
  /-- rate adaptation (spec/07) -/
  ra : Ra
  /-- the Crier side channel (spec/14) -/
  crier : Crier
  /-- the Storehouse (spec/09) -/
  store : Store
  /-- flows, scheduling and cipher (spec/10) -/
  flow : Flow
  /-- client and host lanes (spec/11, spec/12) -/
  lanes : Lanes
  /-- references, DPLLs, outputs, the tick (spec/13) -/
  timing : Timing
  /-- telemetry, bias, calibration, pace (spec/15) -/
  assay : Assay
  /-- host-loaded entries to be restored (spec/17) -/
  damage : List Damage
  deriving DecidableEq, Repr

/-- The machine as it stands when it first offers traffic (spec/00 R14, spec/20 R523): BOOT_STATE 0x3, every port
and lane OFF, every table empty, nothing waiting. -/
def State.reset : State :=
  { pending := [],
    time := 0,
    free := 0,
    out := [],
    bar0 := Bar0.reset,
    clerk := Clerk.reset,
    hier := Hier.reset,
    tally := Tally.reset,
    boot := Boot.reset,
    hall := Hall.booted,
    serv := Serv.reset,
    rx := ⟨{}, {}⟩,
    rw := ⟨{}, {}⟩,
    fec := Fec.reset,
    tx := ⟨{}, {}⟩,
    loom := {},
    ra := {},
    crier := {},
    store := {},
    flow := {},
    lanes := {},
    timing := {},
    assay := {},
    damage := [] }

/-- Replace `time`. -/
def State.withTime (s : State) (v : Nat) : State := { s with time := v }
/-- Replace `free`. -/
def State.withFree (s : State) (v : Nat) : State := { s with free := v }
/-- Replace `out`. -/
def State.withOut (s : State) (v : List Out) : State := { s with out := v }
/-- Replace `bar0`. -/
def State.withBar0 (s : State) (v : Bar0) : State := { s with bar0 := v }
/-- Replace `clerk`. -/
def State.withClerk (s : State) (v : Clerk) : State := { s with clerk := v }
/-- Replace `hier`. -/
def State.withHier (s : State) (v : Hier) : State := { s with hier := v }
/-- Replace `tally`. -/
def State.withTally (s : State) (v : Tally) : State := { s with tally := v }
/-- Replace `boot`. -/
def State.withBoot (s : State) (v : Boot) : State := { s with boot := v }
/-- Replace `hall`. -/
def State.withHall (s : State) (v : Hall) : State := { s with hall := v }
/-- Replace `serv`. -/
def State.withServ (s : State) (v : Serv) : State := { s with serv := v }
/-- Replace `rx`. -/
def State.withRx (s : State) (v : P2 RxPort) : State := { s with rx := v }
/-- Replace `rw`. -/
def State.withRw (s : State) (v : P2 RwPort) : State := { s with rw := v }
/-- Replace `fec`. -/
def State.withFec (s : State) (v : Fec) : State := { s with fec := v }
/-- Replace `tx`. -/
def State.withTx (s : State) (v : P2 TxPort) : State := { s with tx := v }
/-- Replace `loom`. -/
def State.withLoom (s : State) (v : Loom) : State := { s with loom := v }
/-- Replace `ra`. -/
def State.withRa (s : State) (v : Ra) : State := { s with ra := v }
/-- Replace `crier`. -/
def State.withCrier (s : State) (v : Crier) : State := { s with crier := v }
/-- Replace `store`. -/
def State.withStore (s : State) (v : Store) : State := { s with store := v }
/-- Replace `flow`. -/
def State.withFlow (s : State) (v : Flow) : State := { s with flow := v }
/-- Replace `lanes`. -/
def State.withLanes (s : State) (v : Lanes) : State := { s with lanes := v }
/-- Replace `timing`. -/
def State.withTiming (s : State) (v : Timing) : State := { s with timing := v }
/-- Replace `assay`. -/
def State.withAssay (s : State) (v : Assay) : State := { s with assay := v }
/-- Replace `damage`. -/
def State.withDamage (s : State) (v : List Damage) : State := { s with damage := v }
/-- Replace the queue of commands that wait. -/
def State.withPending (s : State) (v : List Instr) : State := { s with pending := v }

end Sys2Proof.Machine
end

