-- ==== Sys2Proof/Machine/Ops.lean ====
section
/-!
DEFINITION. The named operations the meanings share: device time, counters, events and the fault log, MSI-X vectors,
jobs, replies, and the serving of a command packet in the order of checks of Table 2-4 (spec/02).
-/

set_option Elab.async false

namespace Sys2Proof.Machine

/-- How a meaning answers. -/
abbrev Ans := Host.Outcome State Fault Refusal

/-- A happening that can come about only where `g` holds; elsewhere it changes nothing. -/
def happen (g : Bool) (s t : State) : Ans := .next (if g then t else s)

/-! ### Device time (R69, R71) -/

/-- One second, one millisecond, one microsecond, one nanosecond of device time. -/
def second : Nat := 1000000000 * 65536
def milli : Nat := 1000000 * 65536
def micro : Nat := 1000 * 65536
def nano : Nat := 65536

/-- The TIME word: device time bits [57:26] (Table 2-7). -/
def State.timeWord (s : State) : Nat := s.time / 2 ^ 26 % 2 ^ 32

/-- The 64 bits of device time (R69). -/
def State.time64 (s : State) : Nat := s.time % 2 ^ 64

/-! ### Counters (spec/19 R499, R501, R502) -/

/-- Slot number of counter `j` of unit `i` of a set of `n` at `off` in group `g` (R502). -/
def ctr (g off n i j : Nat) : Nat := (g * 0x10000 + off) / 8 + n * i + j

/-- Slot number of the counter of event `code` (R502). -/
def evCtr (code : Nat) : Nat := (code / 256 * 0x10000 + 0xF800) / 8 + code % 256

/-- Advance a Tally counter by `n`; 48 bits, wrapping (R499). -/
def State.bump (k n : Nat) (s : State) : State :=
  s.withTally { s.tally with counters := Tab.upd 0 s.tally.counters k fun v => (v + n) % 2 ^ 48 }

/-- The value of a Tally counter. -/
def State.counter (s : State) (k : Nat) : Nat := Tab.get 0 s.tally.counters k

/-- `n` counters from slot `k` on, each as two words, low half first (R133). -/
def State.counterWords (s : State) (k n : Nat) : List Word :=
  (List.range n).flatMap fun j => words64 (s.counter (k + j))

/-- CLERK_PROTO_COUNTERS of an interface (R72): 0 CRC failures, 1 LENGTH_OVER replies, 2 other refusals, 3 to 6 bound
misses, 7 events dropped, 8 events filtered. -/
def protoCtr (i : Iface) (j : Nat) : Nat := ctr 0 0 9 i.val j

/-! ### Events and the fault log (R61 to R63, R472) -/

/-- Words 1 to 3 of an event record (Table 2-7). -/
def EvRec.w1 (r : EvRec) : Word := mkw [(31, 28, r.sev), (19, 0, r.ha)]
def EvRec.w2 (r : EvRec) : Word := w32 r.data
def EvRec.w3 (r : EvRec) : Word := w32 r.time

/-- The four words of an event record with its PHASE (Table 2-7). -/
def EvRec.words (r : EvRec) (phase : Bool) : List Word :=
  [mkw [(31, 16, r.code), (0, 0, b2n phase)], r.w1, r.w2, r.w3]

/-- The number after `n` in a count of 32 bits that starts at 1 and wraps to 1 (R472, R509). -/
def nextSeq (n : Nat) : Nat := if n ≥ 0xFFFFFFFF then 1 else n + 1

/-- Write a record to the fault log if R472 keeps it: group 0x0F, or severity error or critical. -/
def State.logFault (r : EvRec) (s : State) : State :=
  if r.code / 256 = 15 ∨ r.sev ≥ 3 then
    let q := nextSeq s.hier.logSeq
    s.withHier { s.hier with logSeq := q, log := (⟨q, r.code, r.w1, r.w2, r.w3⟩ :: s.hier.log).take 1024 }
  else s

/-- Offer a record to one interface: filtered (R63), or buffered, or dropped when the buffer is full (R62). -/
def State.offerEvent (i : Iface) (r : EvRec) (s : State) : State :=
  let b := s.clerk.ev.get i
  if r.sev < Tab.get 0 b.least (r.code / 256) then s.bump (protoCtr i 8) 1
  else if b.buf.length < 1024 then
    s.withClerk { s.clerk with ev := s.clerk.ev.set i { b with buf := b.buf ++ [r] } }
  else
    (s.withClerk { s.clerk with ev := s.clerk.ev.set i { b with dropped := sat 0xFFFFFFFF (b.dropped + 1) } }).bump
      (protoCtr i 7) 1

/-- Raise an event: its counter advances (R502), the fault log keeps it under R472, both interfaces are offered
it (R62). -/
def State.raise (code sev ha data : Nat) (s : State) : State :=
  let r : EvRec := ⟨code, sev, ha, data % 2 ^ 32, s.timeWord⟩
  (((s.bump (evCtr code) 1).logFault r).offerEvent 0 r).offerEvent 1 r

/-- The whole CLERK region as a unit address. -/
def clerkHa : Nat := 0x00FFF

/-- A whole region as a unit address. -/
def regionHa (r : Nat) : Nat := haOf r 0x3F 0x3F

/-- A line port's region, LINE0 or LINE1. -/
def portHa (p : Port) : Nat := regionHa (0x12 + p.val)

/-- An event at most once in `period` for each `key`: happenings in between are counted, and the event that is
raised carries the count in the past period. `mk n` makes DATA from the count. -/
def State.raiseLimited (key period code sev ha : Nat) (mk : Nat → Nat) (s : State) : State :=
  let n := Tab.get 0 s.clerk.tallied key + 1
  if s.time < Tab.get 0 s.clerk.stamps key then
    s.withClerk { s.clerk with tallied := Tab.set 0 s.clerk.tallied key n }
  else
    (s.withClerk { s.clerk with tallied := Tab.set 0 s.clerk.tallied key 0,
                                stamps := Tab.set 0 s.clerk.stamps key (s.time + period) }).raise code sev ha (mk n)

/-- An event at most `most` times in each second counted from the first of them, for each `key`. -/
def State.raiseAtMost (most key code sev ha data : Nat) (s : State) : State :=
  if s.time < Tab.get 0 s.clerk.stamps key then
    if Tab.get 0 s.clerk.tallied key < most then
      (s.withClerk { s.clerk with tallied := Tab.upd 0 s.clerk.tallied key (· + 1) }).raise code sev ha data
    else s
  else
    (s.withClerk { s.clerk with tallied := Tab.set 0 s.clerk.tallied key 1,
                                stamps := Tab.set 0 s.clerk.stamps key (s.time + second) }).raise code sev ha data

/-! ### What leaves the device; MSI-X (R64) -/

/-- Record something that leaves the device. -/
def State.emit (o : Out) (s : State) : State := s.withOut (s.out ++ [o])

/-- What an unwritten word of the MSI-X table reads as. PRESUMED from PCI Express: each entry masked
(notes/assumptions/8). -/
def msixReset (k : Nat) : Word := if k % 4 = 3 then 1 else 0

/-- A word of the MSI-X table. -/
def Bar0.msixWord (b : Bar0) (k : Nat) : Word := (Tab.get none b.msixTable k).getD (msixReset k)

/-- Signal a vector: one message, then none until it is re-armed; a masked entry sets its pending bit instead. -/
def State.signal (v : Nat) (s : State) : State :=
  if Tab.get false s.bar0.disarmed v then s
  else
    let t := s.withBar0 { s.bar0 with disarmed := Tab.set false s.bar0.disarmed v true }
    if (s.bar0.msixWord (4 * v + 3)).bit 0 then
      t.withBar0 { t.bar0 with msixPending := Tab.set false t.bar0.msixPending v true }
    else t.emit (.msix v)

/-- Re-arm a vector (R64). -/
def State.rearm (v : Nat) (s : State) : State :=
  s.withBar0 { s.bar0 with disarmed := Tab.set false s.bar0.disarmed v false }

/-- A ring block, all zero where nothing was written (Table 2-10). -/
def Bar0.ring (b : Bar0) (k : Nat) : Ring := Tab.get {} b.rings k
def State.ring (s : State) (k : Nat) : Ring := s.bar0.ring k
def State.setRing (k : Nat) (r : Ring) (s : State) : State :=
  s.withBar0 { s.bar0 with rings := Tab.set {} s.bar0.rings k r }

/-- Slots of a ring. -/
def Ring.size (r : Ring) : Nat := 2 ^ r.sizeLog2
/-- R58: empty when PROD equals CONS, full when PROD + 1 equals CONS modulo the ring size. -/
def Ring.empty (r : Ring) : Bool := r.prod == r.cons
def Ring.full (r : Ring) : Bool := (r.prod + 1) % r.size == r.cons
/-- SIZE_LOG2 inside its range: 4 to 12, and 8 to 16 on the event ring (R57). -/
def Ring.sizeOk (k : Nat) (r : Ring) : Bool :=
  if k = 8 then decide (8 ≤ r.sizeLog2 ∧ r.sizeLog2 ≤ 16) else decide (4 ≤ r.sizeLog2 ∧ r.sizeLog2 ≤ 12)

/-- Stop a ring: STOPPED set, ENABLE cleared, RING_STOPPED raised (R60, Table 2-8). -/
def State.stopRing (k : Nat) (s : State) : State :=
  (s.setRing k { s.ring k with enable := false, stopped := true }).raise 0x0004 3 clerkHa (k * 2 ^ 28)

/-! ### Replies (R45, R46, R58) -/

/-- A packet with its CRC of R43. -/
def withCrc (ws : List Word) : List Word := ws ++ [w32 (crc32 (bytesOf ws))]

/-- The words of a reply (Table 2-3). -/
def replyWords (code status : Nat) (c : Cmd) (results : List Word) : List Word :=
  withCrc ([mkw [(31, 16, code), (15, 8, c.seq.toNat), (7, 0, status)],
            mkw [(31, 20, results.length), (19, 0, c.target.toNat)]] ++ results)

/-- Put one reply into reply ring `q`: slot PROD, PROD advances, vector `q` signals (R57, R58, R64). -/
def State.postReply (q : Queue) (ws : List Word) (s : State) : State :=
  let r := s.ring (4 + q.val)
  ((s.setRing (4 + q.val) { r with prod := (r.prod + 1) % r.size }).emit (.reply q r.prod ws)).signal q.val

/-- Whether reply ring `q` can take a reply. -/
def State.replyRoom (s : State) (q : Queue) : Bool :=
  let r := s.ring (4 + q.val)
  r.enable && !r.full

/-- Write a reply: on SPI to the queue's unread replies, on PCI Express to the reply ring, or held until the ring can
take it (R59, R65). -/
def State.writeReply (i : Iface) (q : Queue) (ws : List Word) (s : State) : State :=
  if i = 1 then
    s.withClerk { s.clerk with spiReply := Tab.upd [] s.clerk.spiReply q.val (· ++ [ws]) }
  else if s.replyRoom q && !(s.clerk.unwritten.any fun u => u.queue == q) then s.postReply q ws
  else s.withClerk { s.clerk with unwritten := s.clerk.unwritten ++ [⟨q, ws⟩] }

/-- Put replies that wait into reply ring `q` for as long as it has room. -/
def flushList (q : Queue) : List Unwritten → State → State
  | [], s => s
  | u :: r, s =>
    if u.queue = q ∧ s.replyRoom q = true then flushList q r (s.postReply q u.words)
    else flushList q r (s.withClerk { s.clerk with unwritten := s.clerk.unwritten ++ [u] })

/-- Every reply of queue `q` that waits and now has room is written (R58, R59). -/
def State.flushReplies (q : Queue) (s : State) : State :=
  flushList q s.clerk.unwritten (s.withClerk { s.clerk with unwritten := [] })

/-! ### Jobs (R55, R72) -/

/-- The number of the job a start would make, and the state with it started. -/
def State.startJob (code : Nat) (c : Cmd) (s : State) : State :=
  s.withClerk { s.clerk with
    nextJob := (s.clerk.nextJob + 1) % 65536,
    jobs := s.clerk.jobs ++ [⟨s.clerk.nextJob, code, c.target.toNat, c.params, 0, false⟩] }

/-- A job ends with a status and results, and JOB_DONE is raised (R55, Table 2-8). The newest 256 stay readable. -/
def State.endJob (num status : Nat) (results : List Word) (s : State) : State :=
  match s.clerk.jobs.find? (fun j => j.num == num) with
  | none => s
  | some j =>
    (s.withClerk { s.clerk with
        jobs := s.clerk.jobs.filter (fun k => k.num != num),
        ended := (⟨num, j.code, status, results⟩ :: s.clerk.ended).take 256 }).raise
      0x0003 (if status = 0 then 0 else 3) j.target (status * 2 ^ 24 + num)

/-- The running job of an opcode that a test accepts. -/
def State.findJob (s : State) (code : Nat) (f : Job → Bool) : Option Job :=
  s.clerk.jobs.find? fun j => j.code == code && f j

/-- Replace a running job's record. -/
def State.setJob (j : Job) (s : State) : State :=
  s.withClerk { s.clerk with jobs := s.clerk.jobs.map fun k => if k.num = j.num then j else k }

/-! ### Serving a command (R44 to R48) -/

/-- Status codes (Table 2-5). -/
def stOk : Nat := 0
def stAccepted : Nat := 1
def stLengthOver : Nat := 0x10
def stLengthShort : Nat := 0x11
def stBadOpcode : Nat := 0x12
def stWrongQueue : Nat := 0x13
def stTarget : Nat := 0x14
def stParam : Nat := 0x15
def stState : Nat := 0x16
def stBusy : Nat := 0x17
def stDenied : Nat := 0x18
def stRefused : Nat := 0x19
def stFault : Nat := 0x20
def stAborted : Nat := 0x21

/-- A refusal: its status and the two fields of its DETAIL word (R46). -/
structure Rej where
  status : Nat
  idx : Nat := 0xFFFF
  reason : Nat := 0
  deriving DecidableEq, Repr

/-- The first of several checks that fails, in their order. -/
def firstRej : List (Option Rej) → Option Rej
  | [] => none
  | some r :: _ => some r
  | none :: l => firstRej l

/-- A check: the refusal where the condition does not hold. -/
def need (ok : Bool) (r : Rej) : Option Rej := if ok then none else some r

/-- PARAM_ERROR at a parameter word. -/
def param (ok : Bool) (idx : Nat) (reason : Nat := 0) : Option Rej := need ok ⟨stParam, idx, reason⟩

/-- STATE_ERROR with a reason. -/
def stateErr (ok : Bool) (reason : Nat) : Option Rej := need ok ⟨stState, 0xFFFF, reason⟩

/-- BUSY with a reason. -/
def busy (ok : Bool) (reason : Nat) : Option Rej := need ok ⟨stBusy, 0xFFFF, reason⟩

/-- Reserved bits `hi` to `lo` of parameter word `i` are zero (R12). -/
def resv (c : Cmd) (i hi lo : Nat) : Option Rej := param ((c.p i).fld hi lo == 0) i

/-- What executing a command answers. -/
inductive Reply where
  /-- OK with result words -/
  | ok (results : List Word)
  /-- ACCEPTED: a job was started; the reply carries its number -/
  | accepted (job : Nat)
  /-- the command commits, and is answered, when a happening comes -/
  | wait (a : Await)
  /-- declined or failed in execution, step 10 of Table 2-4 -/
  | refused (r : Rej)

/-- An opcode: its row of Table 22-1 (code, queue, limits of LENGTH), its TARGET rule, its checks of steps 7 to 9
and of device policy, its effect. -/
structure OpDef where
  code : Nat
  /-- none: accepted on every queue (R51) -/
  queue : Option Queue := some 1
  lo : Nat
  hi : Nat
  long : Bool := false
  /-- executed by the boot ROM in recovery (R522) -/
  recovery : Bool := false
  targetOk : State → Nat → Bool
  /-- what TARGET must be beside that, where a parameter decides it -/
  targetMore : Cmd → State → Bool := fun _ _ => true
  check : Cmd → State → Option Rej := fun _ _ => none
  effect : Cmd → State → Reply × State

/-- The device runs firmware, BOOT_STATE 0x3 or 0x4, and has its clock (spec/13 R368). -/
def State.live (s : State) : Bool := decide (s.boot.phase = .ready) && !s.timing.clockLost

/-- The boot ROM serves SPI: boot under way, recovery, or self-test stopped (R519, R521, R522). -/
def State.rom (s : State) : Bool :=
  match s.boot.phase with
  | .romStart | .image | .selfTest | .recovery | .stopped => true
  | _ => false

/-- Whether commands of an interface are served (R519, R522). -/
def State.serves (s : State) (i : Iface) : Bool := s.live || (s.rom && !s.timing.clockLost && decide (i = 1))

/-- The checks of Table 2-4 from step 3 on; `none` when every one passes. -/
def OpDef.judge (op : OpDef) (c : Cmd) (s : State) : Option Rej :=
  firstRej [
    need (s.live || op.recovery) ⟨stState, 0xFFFF, 0x45⟩,
    need (decide (op.queue = none ∨ op.queue = some c.queue)) ⟨stWrongQueue, 0xFFFF, 0⟩,
    need (decide (c.params.length ≤ op.hi)) ⟨stLengthOver, 0xFFFF, 0⟩,
    need (decide (op.lo ≤ c.params.length)) ⟨stLengthShort, 0xFFFF, 0⟩,
    need (op.targetOk s c.target.toNat && op.targetMore c s) ⟨stTarget, 0xFFFF, 0⟩,
    param (decide (c.flags.toNat < 4)) 0xFFFF,
    op.check c s,
    need (!op.long || decide (s.clerk.jobs.length < 64)) ⟨stBusy, 0xFFFF, 0⟩,
    need (!(s.boot.regionsFailed.contains (haRegion c.target.toNat))) ⟨stFault, 0xFFFF, 0⟩]

/-- Answer a refused command: one DETAIL word (R46); the refusal counters advance (R72). -/
def refuse (code : Nat) (r : Rej) (c : Cmd) (s : State) : State :=
  let t := if r.status = stLengthOver then s.bump (protoCtr c.iface 1) 1
    else if r.status = stFault then s else s.bump (protoCtr c.iface 2) 1
  t.writeReply c.iface c.queue (replyWords code r.status c [mkw [(31, 16, r.idx), (15, 0, r.reason)]])

/-- A command taken earlier still has no reply written (R44). -/
def State.unanswered (s : State) : Bool := !s.clerk.held.isEmpty || !s.clerk.unwritten.isEmpty

/-- A command of the same queue of the same interface is in hand (R51). -/
def State.queueHeld (s : State) (i : Iface) (q : Queue) : Bool :=
  s.clerk.held.any fun h => h.iface == i && h.queue == q

/-- Split a list at the first element a test accepts. -/
def pick {α : Type} (f : α → Bool) : List α → Option (α × List α)
  | [] => none
  | x :: r => if f x then some (x, r) else (pick f r).map fun y => (y.1, x :: y.2)

/-- A withheld reply is written: the first command that waits for `a` is answered OK (R102, R145, R159). -/
def State.answerAwait (a : Await) (ws : List Word) (s : State) : State :=
  match pick (fun h : Held => h.await == some a) s.clerk.held with
  | none => s
  | some (h, r) => (s.withClerk { s.clerk with held := r }).writeReply h.iface h.queue (replyWords h.code stOk h.cmd ws)

/-- TARGET is the whole CLERK region, 0x00.3F.3F (R72). -/
def targetClerk (_ : State) (t : Nat) : Bool := t == 0x00FFF

/-- TARGET is the whole of one of some regions. -/
def targetRegions (lo hi : Nat) (_ : State) (t : Nat) : Bool :=
  decide (lo ≤ haRegion t ∧ haRegion t ≤ hi) && t % 4096 == 0xFFF

/-- Results without change of state. -/
def reads (f : Cmd → State → List Word) (c : Cmd) (s : State) : Reply × State := (.ok (f c s), s)

/-- A change of state without results. -/
def sets (f : Cmd → State → State) (c : Cmd) (s : State) : Reply × State := (.ok [], f c s)

/-- A free value: a number nothing constrains, and the state with the count of used values advanced. -/
def State.take (s : State) : Nat × State := (Config.freeValue s.free, s.withFree (s.free + 1))

end Sys2Proof.Machine
end

