-- ==== Sys2Proof/Machine/Operands.lean ====
section
/-!
DEFINITION. The operand forms the families share: hierarchical addresses and the units they name (spec/00 R13,
spec/01 R23), blocks and regions, boundary FIFOs, counter results.
-/

set_option Elab.async false

namespace Sys2Proof.Machine

/-! ### Blocks and regions -/

/-- Physical block `b` of region `r`. -/
def State.block (s : State) (r b : Nat) : Block := (Tab.get none s.hier.blocks (r * 64 + b)).getD (Block.initial r b)

def State.setBlock (r b : Nat) (v : Block) (s : State) : State :=
  s.withHier { s.hier with blocks := Tab.set none s.hier.blocks (r * 64 + b) (some v) }

def State.region (s : State) (r : Nat) : Region := (Tab.get none s.hier.regions r).getD (Region.initial r)

def State.setRegion (r : Nat) (v : Region) (s : State) : State :=
  s.withHier { s.hier with regions := Tab.set none s.hier.regions r (some v) }

/-- Populated blocks of a region: the working blocks and the spare block (Table 1-2). -/
def blocksOf (r : Nat) : Nat := if r ≤ 0x1D then workingBlocks r + 1 else 0

/-- Region IDs exist up to 0x1D (R13). -/
def regionExists (r : Nat) : Bool := decide (r ≤ 0x1D)

def blockExists (r b : Nat) : Bool := decide (b < blocksOf r)

def State.cellExists (s : State) (r b c : Nat) : Bool := blockExists r b && decide (c < (s.block r b).cells)

/-- TARGET names an existing region, block or cell under the wildcards of R23. -/
def State.haValid (s : State) (ha : Nat) : Bool :=
  let r := haRegion ha; let b := haBlock ha; let c := haCell ha
  regionExists r &&
    (if b = 0x3F then c == 0x3F else if c = 0x3F then blockExists r b else s.cellExists r b c)

/-- TARGET is one whole block (R23). -/
def targetBlock (_ : State) (ha : Nat) : Bool :=
  regionExists (haRegion ha) && blockExists (haRegion ha) (haBlock ha) && haCell ha == 0x3F

/-- TARGET is one populated cell. -/
def targetCell (s : State) (ha : Nat) : Bool :=
  regionExists (haRegion ha) && haCell ha != 0x3F && s.cellExists (haRegion ha) (haBlock ha) (haCell ha)

/-- TARGET is any whole region (R24). -/
def targetAnyRegion (_ : State) (ha : Nat) : Bool := regionExists (haRegion ha) && ha % 4096 == 0xFFF

/-- TARGET is a whole line region, LINE0 or LINE1. -/
def targetLine : State → Nat → Bool := targetRegions 0x12 0x13

/-- The physical block that serves position `pos` of region `r`; the position's own block where none says so. -/
def State.server (s : State) (r pos : Nat) : Nat :=
  ((List.range (blocksOf r)).find? fun b => (s.block r b).serves == pos).getD pos

/-! ### Boundary FIFOs (R28 to R33) -/

/-- The key of a FIFO: its cell's address and its direction. -/
def fifoKey (ha : Nat) (d : Dir) : Nat := 2 * ha + (match d with | .inbound => 0 | .outbound => 1)

def State.fifo (s : State) (k : Nat) : Fifo := Tab.get {} s.hier.fifos k

def State.setFifo (k : Nat) (f : Fifo) (s : State) : State :=
  s.withHier { s.hier with fifos := Tab.set {} s.hier.fifos k f }

/-- Regions that hold a synchronous island (Table 1-6). DESIGN CHOICE: each of their cells owns one FIFO in each
direction, and no other cell owns any (notes/assumptions/7). -/
def ownsFifo (r : Nat) : Bool := r == 0 || r == 1 || r == 2 || r == 4 || decide (0x12 ≤ r ∧ r ≤ 0x1D)

/-- Words a FIFO can hold. DESIGN CHOICE: 4,096 (notes/assumptions/7). -/
def fifoDepth : Nat := 4096

/-- Words a FIFO holds. -/
def Fifo.occupancy (f : Fifo) : Nat := f.packets.sum + f.uncommitted

/-- The cells of the FIFOs that an address names (R23, R24). -/
def State.cellsNamed (s : State) (ha : Nat) : List Nat :=
  let r := haRegion ha
  let inBlock (b : Nat) := (List.range (s.block r b).cells).map fun c => haOf r b c
  if haBlock ha = 0x3F then (List.range (blocksOf r)).flatMap inBlock
  else if haCell ha = 0x3F then inBlock (haBlock ha)
  else [ha]

/-- Direction code of R31 and Table 1-5: 0b01 inbound, 0b10 outbound. -/
def dirCode (d : Dir) : Nat := match d with | .inbound => 1 | .outbound => 2

/-- The windows of the endpoint are reached once the host has configured it (spec/20 R519). -/
def State.pcie (s : State) : Bool :=
  s.boot.endpointConfigured && decide (s.boot.phase ≠ .reset) && !s.timing.clockLost

end Sys2Proof.Machine
end

