-- ==== Sys2Proof/Machine/Channel.lean ====
section
/-!
DEFINITION. The Crier's queues and accepted packets, as the other families use them (spec/14 R398, R401, R408).
-/

set_option Elab.async false

namespace Sys2Proof.Machine

def State.cr (s : State) (k : Nat) : CrPort := Tab.get {} s.crier.ports k
def State.setCr (k : Nat) (v : CrPort) (s : State) : State :=
  s.withCrier { s.crier with ports := Tab.set {} s.crier.ports k v }
def State.updCr (k : Nat) (f : CrPort → CrPort) (s : State) : State := s.setCr k (f (s.cr k))

/-- Counter `j` of CRIER_COUNTERS (R424). -/
def crCtr (k j : Nat) : Nat := ctr 3 0 12 k j

/-- INNER of a DOMAIN packet (Table 14-3). -/
def innerOf (payload : List Byte) : Nat := (payload.getD 11 0).toNat

/-- The class of a packet, 1 first (R401). The unit's own DOMAIN packets other than segments and host packets go with the
relayed ones (DEDUCED, notes/assumptions/17). -/
def CrPkt.cls (x : CrPkt) : Nat :=
  if x.type = 5 ∨ x.type = 6 then 1
  else if x.type = 3 ∨ x.type = 4 then 2
  else if x.type = 1 ∨ x.type = 2 then 3
  else if x.type = 7 then 4
  else if x.type = 8 then 6
  else if x.relayed then 5
  else if innerOf x.payload = 7 then 4
  else if innerOf x.payload = 5 then 6
  else 5

/-- Types whose queued packet a newer one replaces (R401). -/
def replaces (type : Nat) : Bool := decide (1 ≤ type ∧ type ≤ 6)

/-- Drop the first element a test accepts. -/
def dropFirst {α : Type} (f : α → Bool) (l : List α) : List α := match pick f l with | some (_, r) => r | none => l

/-- Queue a packet on a transmitter: it replaces a queued one of its type, or goes last; in a full queue the oldest DOMAIN
packet of class 5, failing that the oldest segment, is dropped and counted (R401). Nothing is queued with TX_ENABLE clear
(R419). -/
def State.queuePkt (k : Nat) (x : CrPkt) (s : State) : State :=
  let c := s.cr k
  if c.txEnable = false then s
  else if replaces x.type && c.queue.any (fun y => y.type == x.type) then
    s.setCr k { c with queue := c.queue.map fun y => if y.type = x.type then x else y }
  else if c.queue.length < 32 then s.setCr k { c with queue := c.queue ++ [x] }
  else
    let q := if c.queue.any (fun y => y.cls == 5) then dropFirst (fun y => y.cls == 5) c.queue
      else dropFirst (fun y => y.cls == 4) c.queue
    (s.setCr k { c with queue := q ++ [x] }).bump (crCtr k 2) 1

/-- A packet on air when its transmitter reaches MUTED or OFF is cut, counted, and returns to the head of its class unless a
newer packet has replaced it (R403). -/
def State.crCut (k : Nat) (s : State) : State :=
  let c := s.cr k
  match c.air with
  | none => s
  | some x =>
    let back := !(replaces x.type && c.queue.any fun y => y.type == x.type)
    (s.setCr k { c with air := none, queue := if back then x :: c.queue else c.queue }).bump (crCtr k 1) 1

/-- TX_ENABLE is cleared: the queue is emptied, the packet on air ends (R403, R419). -/
def State.crTxOff (k : Nat) (s : State) : State := s.updCr k fun c => { c with txEnable := false, queue := [], feed := [] }

/-- A listener abandons what it receives; nothing more is counted (R419, Table 14-11). -/
def State.crAbandon (k : Nat) (s : State) : State := s.updCr k fun c => { c with rx := 1, second := false }

/-- The line port that a listener's packets count as: its own, or the one a monitor is attached to (R398). -/
def State.listenerPort (s : State) (k : Nat) : Option Port :=
  if k = 0 then some 0 else if k = 1 then some 1
  else if (s.cr k).attach = 1 then some 0 else if (s.cr k).attach = 2 then some 1 else none

/-- Take the oldest accepted packet that a test accepts. -/
def State.takeIn (s : State) (f : CrIn → Bool) : Option (CrIn × State) :=
  (pick f s.crier.inbox).map fun r => (r.1, s.withCrier { s.crier with inbox := r.2 })

/-- The oldest accepted link packet of a type on a line port. -/
def State.takeLink (s : State) (p : Port) (type : Nat) : Option (CrIn × State) :=
  s.takeIn fun x => x.type == type && s.listenerPort x.listener == some p

end Sys2Proof.Machine
end

