-- ==== Sys2Proof/Machine/Plan.lean ====
section
/-!
DEFINITION. Capacity and slots of a line direction (spec/05 R139, R140), plan_for and the plan digest (spec/07 R203 to
R205), the placement of members and the units of threads (spec/08 R229 to R232). Directions: 0 receive, 1 transmit.
-/

set_option Elab.async false

namespace Sys2Proof.Machine

/-- The parity share OH/(1 + OH) of an overhead code as a fraction (R139). -/
def ohShare (oh : Nat) : Nat × Nat := if oh = 0 then (15, 115) else if oh = 1 then (21, 121) else (27, 127)

/-- B_F, the information capacity of a frame (R139), from symbol rate, modulation, entropy code and overhead; D is
SYM_RATE × 630. -/
def capacity (symRate mod entropy oh : Nat) : Nat :=
  let h := if mod = 0 then 64 else if mod = 1 then 128 else entropy
  let m := min mod 3 + 1
  let (a, b) := ohShare oh
  symRate * 630 * (h * b - 64 * m * a) / (32 * b)

/-- S, the number of slots of a port (R140); 80 in 400ZR mode (Table 5-4). -/
def slotsOf (symRate mod entropy oh : Nat) : Nat :=
  if mod = 4 then 80 else min 640 ((capacity symRate mod entropy oh - 16384) / 12800)

def TxPort.slots (t : TxPort) : Nat := slotsOf t.symRate t.mod t.entropy t.oh

/-- A direction: 0 receive, 1 transmit. -/
abbrev Way := Fin 2

/-- S at an entropy code on a direction of a port; none while the direction is not configured (Table 3-10). -/
def State.slotsAt (s : State) (d : Way) (p : Port) (code : Nat) : Option Nat :=
  let (sym, mod, oh) := if d = 0 then ((s.rx.get p).symRate, (s.rx.get p).mod, (s.fec.ports.get p).oh)
    else ((s.tx.get p).symRate, (s.tx.get p).mod, (s.tx.get p).oh)
  if sym = 0 ∧ mod ≠ 4 then none else some (slotsOf sym mod code oh)

/-- The code in force of a direction of a port, and its modulation. -/
def State.codeOf (s : State) (d : Way) (p : Port) : Nat := if d = 0 then (s.rx.get p).entropy else (s.tx.get p).entropy
def State.modOf (s : State) (d : Way) (p : Port) : Nat := if d = 0 then (s.rx.get p).mod else (s.tx.get p).mod

/-- S in force on a direction of a port. -/
def State.slotsNow (s : State) (d : Way) (p : Port) : Option Nat := s.slotsAt d p (s.codeOf d p)

/-! ### The tables of a direction -/

def State.bolts (s : State) (d : Way) : Tab (Option Bolt) := s.loom.bolts.get d
def State.threads (s : State) (d : Way) : Tab (Option Thread) := s.loom.threads.get d
def State.pairs (s : State) (d : Way) : List Pair := s.loom.pairs.get d
def State.bolt (s : State) (d : Way) (b : Nat) : Option Bolt := Tab.get none (s.bolts d) b
def State.thread (s : State) (d : Way) (t : Nat) : Option Thread := Tab.get none (s.threads d) t

/-- Threads of a bolt, by rising ID. -/
def State.threadsOf (s : State) (d : Way) (b : Nat) : List (Nat × Thread) :=
  (s.threads d).filterMap fun e => match e.2 with | some t => if t.bolt = b then some (e.1, t) else none | none => none

/-- The pair a bolt belongs to. -/
def State.pairOf (s : State) (d : Way) (b : Nat) : Option Pair :=
  (s.pairs d).find? fun q => q.working == b || q.protect == b

/-- Members of a bolt on a port. -/
def Bolt.on (b : Bolt) (p : Port) : Nat := (b.members.filter fun m => m.1 == p.val).length

/-! ### plan_for (R203, R204) -/

/-- A thread as plan_for sees it: its size, its floor, the severity of a cut of it, its class. -/
structure PlanThread where
  id : Nat
  size : Nat
  nominal : Nat
  floor : Nat
  key : Nat
  cls : Nat

/-- A bolt as plan_for sees it: members left on the port and in all, members on the port in the nominal plan, threads in
the order in which they are cut. -/
structure PlanBolt where
  bolt : Nat
  left : Nat
  total : Nat
  nominal : Nat
  pair : Bool
  threads : List PlanThread

/-- The guard entry of a thread; COMMITTED where there is none (R203). -/
def State.guard (s : State) (d : Way) (t : Nat) : Guard := (Tab.get none (s.ra.guards.get d) t).getD ⟨0, 0, 0⟩

/-- Severity of a cut, rising: BEST_EFFORT, SHEDDABLE by rank, AUTHORISED by rank, and COMMITTED last (R203). -/
def Guard.key (g : Guard) : Nat :=
  if g.cls = 3 then 1 else if g.cls = 2 then 2 + g.rank else if g.cls = 1 then 5000 + g.rank else 10000

/-- A thread for plan_for. A COMMITTED thread is never cut, except in a fallback that the host has authorised (R208;
DEDUCED, notes/assumptions/15). -/
def State.planThread (s : State) (d : Way) (fb : Bool) (e : Nat × Thread) : PlanThread :=
  let g := s.guard d e.1
  let floor := if g.cls = 0 then (if fb then 0 else e.2.size) else if g.cls = 3 then 0 else min g.floor e.2.size
  ⟨e.1, e.2.size, e.2.size, floor, g.key, g.cls⟩

/-- Insert a thread: least severe first, among equals the highest thread ID first (R204). -/
def planInsert (t : PlanThread) : List PlanThread → List PlanThread
  | [] => [t]
  | x :: r => if t.key < x.key ∨ (t.key = x.key ∧ x.id < t.id) then t :: x :: r else x :: planInsert t r

def planSort (l : List PlanThread) : List PlanThread := l.foldr planInsert []

/-- The bolts with members on a port, highest bolt number first. -/
def State.planBolts (s : State) (d : Way) (p : Port) (fb : Bool) : List PlanBolt :=
  ((s.bolts d).filterMap fun e => match e.2 with
    | some b =>
      if b.on p = 0 then none
      else some ⟨e.1, b.on p, b.members.length, b.on p, (s.pairOf d e.1).isSome,
        planSort ((s.threadsOf d e.1).map (s.planThread d fb))⟩
    | none => none).reverse

/-- Cut `excess` units from threads in order, each down to its floor before the next: the threads after it, the most severe
thread cut, the units not yet cut. -/
def cutUnits : Nat → Nat → List PlanThread → List PlanThread × Nat × Nat
  | excess, key, [] => ([], key, excess)
  | excess, key, t :: r =>
    let c := min excess (t.size - t.floor)
    let x := cutUnits (excess - c) (if c = 0 then key else t.key) r
    ({ t with size := t.size - c } :: x.1, x.2.1, x.2.2)

/-- The removal of one member of a bolt: its bolt after it, and the weight of its cut; none where no cut fits. The bolts of
a pair keep their members (R248); in a fallback all their units count as held by a COMMITTED thread. -/
def PlanBolt.removal (fb : Bool) (b : PlanBolt) : Option (PlanBolt × Nat × Nat) :=
  if b.left = 0 ∨ (b.pair = true ∧ fb = false) then none
  else
    let size := (b.threads.map (·.size)).sum
    let excess := size - 512 * (b.total - 1)
    let x := cutUnits excess 0 b.threads
    if x.2.2 ≠ 0 then none
    else some ({ b with left := b.left - 1, total := b.total - 1, threads := x.1 },
      if b.pair then 10000 else x.2.1, if b.pair then 512 else excess)

/-- One removal: the lightest, the highest bolt number first among equals; none where only COMMITTED units remain. -/
def planRemove (fb : Bool) (l : List PlanBolt) : Option (List PlanBolt) :=
  let pickOne (best : Option (PlanBolt × Nat × Nat)) (b : PlanBolt) : Option (PlanBolt × Nat × Nat) :=
    match b.removal fb, best with
    | none, _ => best
    | some r, none => some r
    | some r, some q => if r.2.1 < q.2.1 ∨ (r.2.1 = q.2.1 ∧ r.2.2 < q.2.2) then some r else some q
  (l.foldl pickOne none).map fun r => l.map fun b => if b.bolt = r.1.bolt then r.1 else b

/-- Remove members until none is needed; false where plan_for is infeasible, with the partial plan reached. -/
def planLoop (fb : Bool) : Nat → List PlanBolt → List PlanBolt × Bool
  | 0, l => (l, true)
  | n + 1, l => match planRemove fb l with
    | none => (l, false)
    | some r => planLoop fb n r

/-- A plan: what differs from the nominal plan on a port (R204, R205). -/
structure Plan where
  feasible : Bool
  /-- bolts whose members on the port differ from nominal: bolt and members left, by rising number -/
  bolts : List (Nat × Nat)
  /-- threads cut: thread and size, by rising ID -/
  threads : Tab (Option Nat)
  units : Nat
  worst : Nat

/-- WORST of Table LINE_RA_PLAN_READ for a class. -/
def worstOf (cls : Nat) : Nat := 4 - cls

/-- plan_for(S) of a direction of a port (R204). -/
def State.planFor (s : State) (d : Way) (p : Port) (fb : Bool) (slots : Nat) : Plan :=
  let l := s.planBolts d p fb
  let r := planLoop fb ((l.map (·.left)).sum - slots) l
  let cut := (r.1.flatMap (·.threads)).filter fun t => t.size != t.nominal
  { feasible := r.2,
    bolts := (r.1.filter fun b => b.left != b.nominal).reverse.map fun b => (b.bolt, b.left),
    threads := cut.foldl (fun a t => Tab.set none a t.id (some t.size)) [],
    units := (cut.map fun t => t.nominal - t.size).sum,
    worst := if r.2 then (cut.map fun t => worstOf t.cls).foldl max 0 else 4 }

/-- The plan digest: the CRC of R43 over the plan's differences (R205). -/
def Plan.digest (x : Plan) : Nat :=
  crc32 (bytesOf ((x.bolts.map fun e => mkw [(31, 16, e.1), (9, 0, e.2)]) ++
    x.threads.flatMap fun e => [w32 e.1, w32 (e.2.getD 0)]))

/-- The direction's plan in force was reached by a fallback. -/
def State.fbPlan (s : State) (d : Way) (p : Port) : Bool :=
  if d = 0 then (s.ra.ports.get p).rxFb else (s.ra.ports.get p).txFb

/-- The plan in force: plan_for at S in force; the nominal plan while the direction is not configured (R204, R233). -/
def State.planNow (s : State) (d : Way) (p : Port) : Plan :=
  match s.slotsNow d p with
  | none => ⟨true, [], [], 0, 0⟩
  | some n => s.planFor d p (s.fbPlan d p) n

/-! ### Placement (R230, R231) -/

/-- Members of a bolt left on a port under a plan. -/
def Plan.left (x : Plan) (b : Nat) (bolt : Bolt) (p : Port) : Nat :=
  match x.bolts.find? (fun e => e.1 == b) with | some e => e.2 | none => bolt.on p

/-- The members of a bolt that survive on a port under a plan, as (sequence, nominal slot): the highest sequences go. -/
def Plan.survivors (x : Plan) (b : Nat) (bolt : Bolt) (p : Port) : List (Nat × Nat) :=
  (((List.range bolt.members.length).zip bolt.members).filterMap fun m =>
    if m.2.1 = p.val then some (m.1, m.2.2) else none).take (x.left b bolt p)

/-- Insert into a list of (nominal slot, bolt, sequence) by rising slot. -/
def slotInsert (e : Nat × Nat × Nat) : List (Nat × Nat × Nat) → List (Nat × Nat × Nat)
  | [] => [e]
  | x :: r => if e.1 ≤ x.1 then e :: x :: r else x :: slotInsert e r

/-- Give the moved members the lowest free slots, in rising order of nominal slot. -/
def fillSlots (keep : List (Nat × Nat × Nat)) (free : List Nat) (moved : List (Nat × Nat × Nat)) : List (Nat × Nat × Nat) :=
  keep ++ (free.zip moved).map fun e => (e.1, e.2.2)

/-- The placement in force on a port: (slot, bolt, sequence), at most one per slot (R230). -/
def State.placement (s : State) (d : Way) (p : Port) : List (Nat × Nat × Nat) :=
  match s.slotsNow d p with
  | none => []
  | some n =>
    let x := s.planNow d p
    let all := (s.bolts d).flatMap fun e => match e.2 with
      | some b => (x.survivors e.1 b p).map fun m => (m.2, e.1, m.1)
      | none => []
    let keep := all.filter fun m => decide (m.1 < n)
    let moved := (all.filter fun m => decide (n ≤ m.1)).foldr slotInsert []
    fillSlots keep ((List.range n).filter fun k => !(keep.any fun m => m.1 == k)) moved

/-- The MEMBER_MAP entry of a slot under a placement (R234). -/
def mapEntry (pl : List (Nat × Nat × Nat)) (slot : Nat) : Word :=
  match pl.find? (fun m => m.1 == slot) with
  | some m => mkw [(31, 31, 1), (21, 11, m.2.1), (10, 0, m.2.2)]
  | none => 0

/-- The size in force of a thread: the smallest that the plans of its bolt's ports give. -/
def State.sizeNow (s : State) (d : Way) (t : Nat) : Nat :=
  match s.thread d t with
  | none => 0
  | some th => [(0 : Port), 1].foldl (fun n p => match Tab.get none (s.planNow d p).threads t with
      | some m => min n m
      | none => n) th.size

/-- The members of a bolt in the plans in force, as (port, sequence) by rising sequence. -/
def State.membersNow (s : State) (d : Way) (b : Nat) : List (Nat × Nat) :=
  match s.bolt d b with
  | none => []
  | some bolt =>
    let a := ((s.planNow d 0).survivors b bolt 0).map (·.1)
    let c := ((s.planNow d 1).survivors b bolt 1).map (·.1)
    ((List.range bolt.members.length).filterMap fun k =>
      if a.contains k then some (0, k) else if c.contains k then some (1, k) else none)

/-- The ports that hold members of a bolt in the plans in force. -/
def State.boltPorts (s : State) (d : Way) (b : Nat) : List Port :=
  let m := s.membersNow d b
  [(0 : Port), 1].filter fun p => m.any fun e => e.1 == p.val

/-- The threads of a bolt laid over its units: (thread, first unit, units), by rising ID (R232). A protecting bolt carries
its working bolt's threads (R245). -/
def State.layout (s : State) (d : Way) (b : Nat) : List (Nat × Nat × Nat) :=
  let src := match s.pairOf d b with | some q => q.working | none => b
  ((s.threadsOf d src).foldl (fun (a : List (Nat × Nat × Nat) × Nat) e =>
    let n := s.sizeNow d e.1
    (a.1 ++ [(e.1, a.2, n)], a.2 + n)) ([], 0)).1

/-- A thread at units `first` to `first + n − 1` has units in the member of rank `j` of `k` (R231). -/
def inMember (first n j k : Nat) : Bool :=
  decide (0 < n) && (decide (128 * k ≤ n) || decide (128 * j + 128 * k < first % (128 * k) + n) ||
    (decide (128 * j < first % (128 * k) + n) && decide (first % (128 * k) < 128 * j + 128)))

/-- The threads that have units on a port, by rising ID (R240). -/
def State.threadsOnPort (s : State) (d : Way) (p : Port) : List Nat :=
  let ids := (s.bolts d).flatMap fun e =>
    let m := s.membersNow d e.1
    let k := m.length
    (s.layout d e.1).filterMap fun t =>
      if (List.range k).any (fun j => (m.getD j (0, 0)).1 == p.val && inMember t.2.1 t.2.2 j k) then some t.1 else none
  (ids.foldl (fun (a : Tab (Option Nat)) t => Tab.set none a t (some 0)) []).map (·.1)

end Sys2Proof.Machine
end

