-- ==== Sys2Proof/Machine/Flags.lean ====
section
/-!
DEFINITION. Every status flag that is computed from the rest of the state: SPARE_EXHAUSTED, PAIR_STANDBY_READY and
HEALTH (spec/17 R471, Table 17-3), BOOT_STATE 0x3 and 0x4 (spec/20 R523), the pins READY and ATTN_N (spec/02 R66, R67).
-/

set_option Elab.async false

namespace Sys2Proof.Machine

/-- Some region has no spare block (R471). A block under change counts as its region's spare (DEDUCED from the example of
spec/18, notes/assumptions/24). -/
def noSpareBlock (s : State) : Bool :=
  (List.range 0x1E).any fun r => !((List.range (blocksOf r)).any fun b => (s.block r b).state == 1 || (s.block r b).state == 4)

/-- A pool has no Journeyman (R21). -/
def noJourneyman (s : State) : Bool :=
  !((List.range 5).any fun k => (s.region (7 + k)).poolRole == 1) ||
  !((List.range 6).any fun k => (s.region (12 + k)).poolRole == 1)

/-- Some block has no spare cell. -/
def noSpareCell (s : State) : Bool :=
  s.hier.blocks.any fun e => match e.2 with | none => false | some b => b.spareCell == 0x3F

/-- SPARE_EXHAUSTED (R471); also while a DPLL core is retired (spec/18 R490). -/
def State.spareExhausted (s : State) : Bool :=
  noSpareCell s || noSpareBlock s || noJourneyman s || s.hier.ctlStandby == 2 ||
  s.hier.chip.a.standby == 2 || s.hier.chip.b.standby == 2 || s.timing.dplls.any fun e => e.2.coreRetired

/-- PAIR_STANDBY_READY (Table 2-10). -/
def State.pairReady (s : State) : Bool := s.hier.ctlStandby == 0

/-- A DRAM stack (Table 9-3). -/
def State.stack (s : State) (k : Nat) : Stack := Tab.get {} s.store.dram k

/-- PROTECTION of the Storehouse (R272, Table 9-11): 0 parity, 1 detection only, 2 failed. -/
def State.protection (s : State) : Nat := sat 2 ((List.range 4).filter fun k => (s.stack k).st != .working).length

/-- A suspect or retired cell or block, or a spare cell used (Table 17-3). -/
def Block.degraded (b : Block) : Bool :=
  !b.suspect.isEmpty || !b.retired.isEmpty || b.state == 2 || b.state == 3 || b.spareCell == 0x3F

/-- The conditions of the row 0b01 of Table 17-3. -/
def State.masked (s : State) : Bool :=
  (s.hier.blocks.any fun e => match e.2 with | none => false | some b => b.degraded) ||
  ((List.range 11).any fun k => (s.region (7 + k)).poolRole == 3) ||
  noSpareBlock s || noJourneyman s ||
  s.protection != 0 ||
  !s.pairReady || s.hier.chip.a.standby == 2 || s.hier.chip.b.standby == 2 ||
  (s.hier.sram.any fun e => e.2.repeated != 0)

/-- Some lane is in analogue fault: line (spec/03 R97), client (R339), host (R359). -/
def State.laneFaulted (s : State) : Bool :=
  !s.rx.a.laneFault.isEmpty || !s.rx.b.laneFault.isEmpty ||
  [s.lanes.groups.a, s.lanes.groups.b].any (fun g => g.lanes.any fun e => e.2.adcFault || e.2.dacFault) ||
  s.lanes.host.any fun e => e.2.rxFault || e.2.txFault

/-- The six conditions of the row 0b10 of Table 17-3, in order. -/
def State.unmasked (s : State) : List Bool :=
  [s.laneFaulted,
   s.timing.clockLost,
   s.timing.dplls.any fun e => e.2.coreFault && e.2.st == .holdover,
   s.protection == 2, s.bar0.paceShort, s.hier.erasure]

/-- HEALTH as Table 17-3 decides it. -/
def State.healthNow (s : State) : Nat := if s.unmasked.any id then 2 else if s.masked then 1 else 0

/-- Re-evaluate HEALTH; a change is recorded and raises DIAG_HEALTH (R471, Table 17-8). -/
def State.refreshHealth (s : State) : State :=
  let h := s.healthNow
  if h = s.hier.health then s
  else
    (s.withHier { s.hier with health := h, healthTime := s.timeWord }).raise 0x0F08 (h + 1)
      clerkHa (s.hier.health * 16 + h)

/-! ### The decoder pool's pace (spec/06 R172 to R175) -/

/-- Required pace of the pool times 409,600: 1.12 times the span rates of the receive ports outside OFF (R174). A port's
span rate is SYM_RATE × 125,000,000 / 4,096, in 400ZR mode 14,610,291. -/
def State.fecRequired (s : State) : Nat :=
  let one (x : RxPort) : Nat :=
    if x.st = .off then 0 else if x.mod = 4 then 14610291 * 4096 * 112 else x.symRate * 125000000 * 112
  one s.rx.a + one s.rx.b

/-- Blocks of a FEC region that are dealt spans (R173). -/
def State.servingBlocks (s : State) (r : Nat) : List Nat :=
  (List.range (blocksOf r)).filter fun b => (s.block r b).state == 0 && (s.block r b).serves != 0x3F

/-- The FEC regions whose POOL_ROLE is working. -/
def State.fecWorking (s : State) : List Nat :=
  ((List.range 6).map (12 + ·)).filter fun r => (s.region r).poolRole == 0

/-- Guaranteed pace of the pool (R172, R174). -/
def State.fecGuaranteed (s : State) : Nat :=
  (s.fecWorking.map fun r => min 43750000 (2370000 * (s.servingBlocks r).length)).sum

/-- Re-evaluate the decoder pool; FEC_POOL_SHORT is raised at each change (R174, R175, Table 6-10). -/
def State.refreshFec (s : State) : State :=
  let short := decide (s.fecGuaranteed * 409600 < s.fecRequired)
  if short = s.fec.short then s
  else
    (s.withFec { s.fec with short := short }).raise 0x0802 3 (regionHa 0x0C)
      (b2n short * 2 ^ 31 + s.fecWorking.length * 2 ^ 24)

/-! ### The cipher pool (spec/10 R317) -/

/-- Threads that carry a ciphered flow, in a direction. -/
def State.cipheredThreads (s : State) (d : Way) : List Nat :=
  (if d = 0 then s.flow.rx.filterMap fun e => match e.2 with | some f => if f.ciph then some f.thread else none | none => none
   else s.flow.tx.filterMap fun e => match e.2 with | some f => if f.ciph then some f.thread else none | none => none).eraseDups

/-- Required pace of a direction times 3,276,800: 1.12 × the rates of its ciphered threads in force over 32,768 bits; a unit
of size is 9,765,625 bit/s. -/
def State.ciphRequired (s : State) (d : Way) : Nat := ((s.cipheredThreads d).map fun t => s.sizeNow d t * 9765625 * 112).sum

/-- The CIPH regions whose POOL_ROLE is working. -/
def State.ciphWorking (s : State) : List Nat := ((List.range 5).map (7 + ·)).filter fun r => (s.region r).poolRole == 0

def State.ciphGuaranteed (s : State) : Nat := 54687500 * s.ciphWorking.length

/-- One direction's shortage; CIPH_POOL_SHORT is raised at each change (Table 10-12). -/
def State.refreshCiphWay (d : Way) (s : State) : State :=
  let short := decide (s.ciphGuaranteed * 3276800 < s.ciphRequired d)
  if short = (if d = 0 then s.flow.shortRx else s.flow.shortTx) then s
  else
    (s.withFlow (if d = 0 then { s.flow with shortRx := short } else { s.flow with shortTx := short })).raise 0x0703 3
      (regionHa 0x07) (b2n short * 2 ^ 31 + d.val * 2 ^ 30 + s.ciphWorking.length * 2 ^ 24)

/-- Re-evaluate the pools: FEC and CIPH shortage (spec/06 R174, spec/10 R317). -/
def State.refreshPools (s : State) : State := ((s.refreshFec).refreshCiphWay 1).refreshCiphWay 0

/-- Some line port direction or lane direction is out of OFF (spec/20 R523). -/
def State.anyActive (s : State) : Bool :=
  decide (s.rx.a.st ≠ .off) || decide (s.rx.b.st ≠ .off) || decide (s.tx.a.st ≠ .off) || decide (s.tx.b.st ≠ .off) ||
  [s.lanes.groups.a, s.lanes.groups.b].any (fun g => g.lanes.any fun e => e.2.rx != .off || e.2.tx != .off) ||
  s.lanes.host.any fun e => e.2.rx != .off || e.2.tx != .off

/-- BOOT_STATE moves between 0x3 and 0x4 with the first direction out of OFF and the last back (R523). -/
def State.refreshBoot (s : State) : State :=
  if s.live then s.withBoot { s.boot with bootState := if s.anyActive then 4 else 3 } else s

end Sys2Proof.Machine
end

