-- ==== Sys2Proof/Machine/Serve.lean ====
section
/-!
DEFINITION. Serving a command packet: its effect and its reply, in the order of Table 2-4, a commit that raises a required
pace held while the margin does not suffice (spec/02 R44 to R48, spec/15 R441).
-/

set_option Elab.async false

namespace Sys2Proof.Machine

/-- Offered work of the regions whose pace a commit can raise, in units of 1/32,768 a second: line ports by direction, the
decoder pool, the cipher pool by direction (spec/01 R37, spec/06 R174, spec/10 R317). -/
def State.offered (s : State) : List (List Nat × Nat) :=
  let line (on : Bool) (mod rate : Nat) : Nat := if !on then 0 else if mod = 4 then 14610291 * 32768 else rate * 1000000000
  let rx (x : RxPort) : Nat := line (decide (x.st ≠ .off)) x.mod x.symRate
  let tx (x : TxPort) : Nat := line (decide (x.st ≠ .off)) x.mod x.symRate
  let ciph (d : Way) : Nat := ((s.cipheredThreads d).map fun t => s.sizeNow d t * 9765625).sum
  [([0x12], rx s.rx.a), ([0x13], rx s.rx.b), ([0x12], tx s.tx.a), ([0x13], tx s.tx.b), (s.fecWorking, rx s.rx.a + rx s.rx.b),
   (s.ciphWorking, ciph 0), (s.ciphWorking, ciph 1)]

/-- The latest sample shows some regions' pace together below 1.140 times an offered rate. -/
def State.paceLow (s : State) (g : List Nat × Nat) : Bool :=
  let known := g.1.map fun r => Tab.get none s.assay.pace r
  !known.isEmpty && known.all (·.isSome) &&
    decide ((known.map fun p => (p.getD (0, 0)).1).sum * 32768 * 1000 < 1140 * g.2)

/-- A commit that takes `s` to `t` raises a required pace beyond what the margin allows (R441). -/
def State.paceHolds (s t : State) : Bool :=
  (s.offered.zip t.offered).any fun e => decide (e.1.2 < e.2.2) && t.paceLow e.2

/-- A command's effect commits and its reply is written, or waits for a happening (R45, R47). -/
def commit (op : OpDef) (c : Cmd) (s : State) : State :=
  match op.effect c s with
  | (.refused r, t) => refuse op.code r c t
  | (.ok ws, t) => t.writeReply c.iface c.queue (replyWords op.code stOk c ws)
  | (.accepted j, t) => t.writeReply c.iface c.queue (replyWords op.code stAccepted c [w32 j])
  | (.wait a, t) => t.withClerk { t.clerk with held := t.clerk.held ++ [⟨c.iface, c.queue, op.code, c, some a⟩] }

/-- Execute and answer a command that starts now: checks, effect, reply (R45, R47, R48). `hold` says that a commit that raises
a required pace waits for the margin (spec/15 R441). -/
def answerWith (hold : Bool) (op : OpDef) (c : Cmd) (s : State) : State :=
  match op.judge c s with
  | some r => refuse op.code r c s
  | none =>
    if c.dry then
      match (op.effect c s).1 with
      | .refused r => refuse op.code r c s
      | _ => s.writeReply c.iface c.queue (replyWords op.code (if op.long then stAccepted else stOk) c [])
    else if hold && s.paceHolds (op.effect c s).2 then
      s.withClerk { s.clerk with held := s.clerk.held ++ [⟨c.iface, c.queue, op.code, c, some .paceHold⟩] }
    else commit op c s

def answer (op : OpDef) (c : Cmd) (s : State) : State := answerWith true op c s

/-- Serve a packet that has passed checks 1 and 2: under FENCE it waits for every earlier reply (R44), behind a
command in hand of its queue it waits its turn (R51), otherwise it starts. -/
def serve (op : OpDef) (c : Cmd) (s : State) : Ans :=
  .next <|
    if !s.serves c.iface then s
    else if s.queueHeld c.iface c.queue || (c.fence && s.unanswered) then
      s.withClerk { s.clerk with held := s.clerk.held ++ [⟨c.iface, c.queue, op.code, c, none⟩] }
    else answer op c s

end Sys2Proof.Machine
end

