-- ==== Sys2Proof/Machine/Hier.lean ====
section
/-!
DEFINITION. The ladder of replacement, the pairs of the chip level, and the boundary FIFOs: spec/01 R16 to R33,
spec/17 R466 to R470.
-/

set_option Elab.async false

namespace Sys2Proof.Machine

/-! ### The ladder (R17, R18) -/

def evSuspect (level cause ha : Nat) (s : State) : State := s.raise 0x0F01 2 ha (level * 2 ^ 28 + cause * 2 ^ 24)
def evReplaced (level ha by_ : Nat) (s : State) : State := s.raise 0x0F02 1 ha (level * 2 ^ 28 + by_)
def evExhausted (level ha : Nat) (s : State) : State := s.raise 0x0F03 3 ha (level * 2 ^ 28)

/-- Positions a region's spare block covers (Table 1-2). -/
def spareCovers (r pos : Nat) : Bool :=
  if r = 0 then decide (2 ≤ pos ∧ pos ≤ 5) else if r = 1 then decide (4 ≤ pos ∧ pos ≤ 5) else decide (pos < workingBlocks r)

/-- The lowest spare block of a region (R486). -/
def State.spareBlock (s : State) (r : Nat) : Option Nat :=
  (List.range (blocksOf r)).find? fun b => (s.block r b).state == 1

def isFec (r : Nat) : Bool := decide (0x0C ≤ r ∧ r ≤ 0x11)
def isCiph (r : Nat) : Bool := decide (0x07 ≤ r ∧ r ≤ 0x0B)
def isPooled (r : Nat) : Bool := isFec r || isCiph r

/-- The regions of a region's pool. -/
def poolOf (r : Nat) : List Nat :=
  if isFec r then (List.range 6).map (12 + ·) else if isCiph r then (List.range 5).map (7 + ·) else []

/-- The pool's Journeyman (R21). -/
def State.journeyman (s : State) (r : Nat) : Option Nat := (poolOf r).find? fun k => (s.region k).poolRole == 1

/-- A migration of region `o` to the Journeyman `j` begins (R487, R488): `job` none where R17 begins it. -/
def State.startMigration (o j : Nat) (job : Option Nat) (update : Bool) (s : State) : State :=
  s.withServ { s.serv with changes := s.serv.changes ++
    [{ region := o, job := job, method := 2, update := update, phase := 1, done := 0, total := 1, positions := [],
       incoming := j, outgoing := o, lastFreed := o, cancelled := false }] }

/-- A region that must replace a block has no spare block left: its pool's Journeyman takes its whole work, or it
keeps working (R17). -/
def State.regionFails (r cause : Nat) (s : State) : State :=
  match s.journeyman r with
  | none => s
  | some j =>
    if j = r ∨ (s.region r).poolRole ≠ 0 ∨ (s.serv.changes.any fun c => c.region == r) then s
    else
      (evExhausted 2 (regionHa r) (evReplaced 2 (regionHa r) (regionHa j) (evSuspect 2 cause (regionHa r) s))).startMigration
        r j none false

/-- Raise the exhaustion of a region's spare block where none is left. -/
def State.noteSpareBlock (r : Nat) (s : State) : State :=
  if (s.spareBlock r).isNone then evExhausted 1 (regionHa r) s else s

/-- A block is marked suspect and its work moves to the spare block, or the ladder goes on (R17). -/
def State.blockSuspect (r b cause : Nat) (s : State) : State :=
  let k := s.block r b
  if k.state = 2 ∨ k.state = 3 then s
  else
    let s1 := evSuspect 1 cause (haOf r b 0x3F) (s.setBlock r b { k with state := 2 })
    if k.state = 1 then s1.noteSpareBlock r
    else match s1.spareBlock r with
      | some sp =>
        if spareCovers r k.serves then
          let s2 := (s1.setBlock r b { s1.block r b with serves := 0x3F }).setBlock r sp
            { s1.block r sp with state := 0, serves := k.serves }
          (evReplaced 1 (haOf r b 0x3F) (haOf r sp 0x3F) s2).noteSpareBlock r
        else s1
      | none =>
        if isFec r then (s1.setBlock r b { s1.block r b with serves := 0x3F }).regionFails r cause
        else s1.regionFails r cause

/-- A cell is marked suspect and replaced by its block's spare cell, or the ladder goes on (R17, R18). -/
def State.cellSuspect (r b c cause : Nat) (s : State) : State :=
  let k := s.block r b
  if k.suspect.contains c ∨ k.retired.contains c then s
  else
    let s1 := evSuspect 0 cause (haOf r b c) (s.setBlock r b { k with suspect := c :: k.suspect })
    if k.spareCell = 0x3F then s1.blockSuspect r b cause
    else
      let s2 := s1.setBlock r b { s1.block r b with spareCell := 0x3F }
      let s3 := if c = k.spareCell then s2 else evReplaced 0 (haOf r b c) (haOf r b k.spareCell) s2
      evExhausted 0 (haOf r b 0x3F) s3

/-- A detected fault of a cell in one unit of work: suspect when it is the second within 1,024 consecutive units
(R17). -/
def State.cellFault (ha unit cause : Nat) (s : State) : State :=
  let last := Tab.get 0 s.hier.faultUnit ha
  if 0 < last ∧ unit ≠ last - 1 ∧ unit < last - 1 + 1024 then
    ((s.withHier { s.hier with faultUnit := Tab.set 0 s.hier.faultUnit ha 0 }).cellSuspect
      (haRegion ha) (haBlock ha) (haCell ha) cause)
  else s.withHier { s.hier with faultUnit := Tab.set 0 s.hier.faultUnit ha (unit + 1) }

/-- What follows a change of the ladder: pools and HEALTH are re-evaluated (R174, R471). -/
def State.afterFault (s : State) : State := s.refreshPools.refreshHealth

/-- FAULT_DETECTED: a cell reports a detected fault in unit of work `unit` (R17). -/
def execFaultDetected (ha : BitVec 20) (unit : Nat) (s : State) : Ans :=
  if targetCell s ha.toNat then happen s.live s (s.cellFault ha.toNat unit 1).afterFault else .fault .noSuchUnit

/-- DECISION_MISMATCH: the two copies of a supervisor, arbiter or crossbar differ; the decision is made again and
counts under R17 (R467). -/
def execDecisionMismatch (ha : BitVec 20) (unit : Nat) (s : State) : Ans :=
  if targetCell s ha.toNat then happen s.live s (s.cellFault ha.toNat unit 4).afterFault else .fault .noSuchUnit

/-- The struck cell of an injected stall becomes its block's spare cell (R476). -/
def State.injectedStall (ha : Nat) (s : State) : State :=
  let r := haRegion ha; let b := haBlock ha; let c := haCell ha
  let k := s.block r b
  if k.spareCell = 0x3F ∨ k.spareCell = c then s
  else evReplaced 0 ha (haOf r b k.spareCell) (s.setBlock r b { k with spareCell := c })

/-- The stall's own effect: DIAG_STALL, then replacement of the stalled cell (R466, R476). -/
def State.stall (requester stalled : Nat) (s : State) : State :=
  let s1 := s.raise 0x0F04 3 requester stalled
  if Tab.get 0 s1.hier.inject stalled = 3 then
    (s1.withHier { s1.hier with inject := Tab.set 0 s1.hier.inject stalled 0 }).injectedStall stalled
  else s1.cellSuspect (haRegion stalled) (haBlock stalled) (haCell stalled) 3

/-! ### Chip pairs and control pairs (R468 to R470) -/

def State.setChip (supervisor : Bool) (v : ChipPair) (s : State) : State :=
  s.withHier { s.hier with chip := if supervisor then { s.hier.chip with b := v } else { s.hier.chip with a := v } }

def State.chipPair (s : State) (supervisor : Bool) : ChipPair := if supervisor then s.hier.chip.b else s.hier.chip.a

/-- CHIP_PAIR_MISMATCH: the active pair of the chip arbiter or supervisor hands over to its standby and is tested
(R468). Without a ready standby the decision is made again by the same pair. -/
def execChipPairMismatch (supervisor : Bool) (s : State) : Ans :=
  let p := s.chipPair supervisor
  happen (s.live && p.standby == 0) s
    ((s.setChip supervisor { active := 1 - p.active, standby := 1 }).raise 0x0F07 3 clerkHa
      ((if supervisor then 3 else 2) * 2 ^ 28 + 2 ^ 24 + (1 - p.active))).refreshHealth

/-- CHIP_PAIR_TEST_DONE: the failed pair's self-test ends; it becomes the standby pair or is retired (R468). -/
def execChipPairTestDone (supervisor ok : Bool) (s : State) : Ans :=
  let p := s.chipPair supervisor
  let t := s.setChip supervisor { p with standby := if ok then 0 else 2 }
  happen (s.live && p.standby == 1) s (if ok then t else evExhausted 3 clerkHa t).refreshHealth

/-- DIAG_PAIR_SWAP of a control pair (Table 17-8); HA the pair now active (DEDUCED, notes/assumptions/10). -/
def evCtlSwap (cause active : Nat) (s : State) : State :=
  s.raise 0x0F07 3 (haOf 0 active 0x3F) (2 ^ 28 + cause * 2 ^ 24 + active)

/-- The standby control pair takes over and the stopped pair is tested (R469). -/
def State.swapPairs (cause : Nat) (s : State) : State :=
  evCtlSwap cause (1 - s.hier.ctlActive) (s.withHier { s.hier with ctlActive := 1 - s.hier.ctlActive, ctlStandby := 1 })

/-- CONTROL_PAIR_SWAP: a control pair mismatches; the active one hands over, a standby one is only tested (R469). -/
def execControlPairSwap (standby : Bool) (s : State) : Ans :=
  happen (s.live && s.pairReady) s
    (if standby then s.withHier { s.hier with ctlStandby := 1 } else s.swapPairs 1).refreshHealth

/-- PAIR_TEST_DONE: the stopped pair's self-test ends; it becomes the standby pair or is retired (R469). -/
def execPairTestDone (ok : Bool) (s : State) : Ans :=
  let t := s.withHier { s.hier with ctlStandby := if ok then 0 else 2 }
  happen (s.live && s.hier.ctlStandby == 1 && s.serv.handover.isNone) s
    (if ok then t else evExhausted 3 (haOf 0 (1 - s.hier.ctlActive) 0x3F) t).refreshHealth

/-- LONE_PAIR_RESTART: a pair without a ready standby mismatches and restarts from the committed state; the active
pair is unchanged (R470). -/
def execLonePairRestart (s : State) : Ans :=
  happen (s.live && !s.pairReady) s (evCtlSwap 4 s.hier.ctlActive s)

/-! ### Boundary FIFOs (R28 to R33) -/

/-- Words a FIFO's committed packets hold. -/
def Fifo.words (f : Fifo) : Nat := f.packets.sum

/-- A packet's last word commits, or the full FIFO holds its writer (R28, R30 to R33). -/
def Fifo.commit (f : Fifo) (words : Nat) : Fifo :=
  if f.words + words ≤ fifoDepth then
    { f with packets := f.packets ++ [words], uncommitted := 0, held := false,
             expiries := if f.packets.isEmpty then 0 else f.expiries,
             committed := (f.committed + 1) % 2 ^ 48, highWater := max f.highWater (f.words + words) }
  else { f with uncommitted := fifoDepth - f.words, held := true, highWater := max f.highWater fifoDepth }

/-- The writer rewinds its packet: its words are freed and it is not held (R30, R32). -/
def Fifo.abort (f : Fifo) : Fifo := { f with uncommitted := 0, held := false, rewound := (f.rewound + 1) % 2 ^ 48 }

/-- The oldest packet is read; the idle timer restarts (R31). -/
def Fifo.read (f : Fifo) : Fifo := { f with packets := f.packets.tail, expiries := 0, reading := false }

/-- A reset of the FIFO: every word is discarded and the packets lost are counted (R29). -/
def Fifo.resetFifo (f : Fifo) : Fifo :=
  { f with packets := [], uncommitted := 0, held := false, reading := false, expiries := 0,
           discarded := (f.discarded + f.packets.length) % 2 ^ 48 }

/-- A happening at one FIFO of one cell. -/
def atFifo (ha : BitVec 20) (d : Dir) (ok : Fifo → Bool) (f : Fifo → State → State) (s : State) : Ans :=
  let x := s.fifo (fifoKey ha.toNat d)
  if targetCell s ha.toNat && ownsFifo (haRegion ha.toNat) then
    happen (s.live && ok x) s (f x s)
  else .fault .noSuchUnit

/-- PACKET_COMMIT: the last word of a packet of `words` words is written (R28, R30, R32). -/
def execPacketCommit (cell : BitVec 20) (dir : Dir) (words : Nat) (s : State) : Ans :=
  atFifo cell dir (fun _ => decide (1 ≤ words ∧ words ≤ fifoDepth))
    (fun f s => s.setFifo (fifoKey cell.toNat dir) (f.commit words)) s

/-- PACKET_ABORT: the writer aborts its packet before commit (R30). -/
def execPacketAbort (cell : BitVec 20) (dir : Dir) (s : State) : Ans :=
  atFifo cell dir (fun _ => true) (fun f s => s.setFifo (fifoKey cell.toNat dir) f.abort) s

/-- FIFO_READ: the reader completes the read of the oldest packet (R31). -/
def execFifoRead (cell : BitVec 20) (dir : Dir) (s : State) : Ans :=
  atFifo cell dir (fun f => !f.packets.isEmpty) (fun f s => s.setFifo (fifoKey cell.toNat dir) f.read) s

/-- WRITER_RELEASE: space is free again and the held writer continues (R28). -/
def execWriterRelease (cell : BitVec 20) (dir : Dir) (s : State) : Ans :=
  atFifo cell dir (fun f => f.held && decide (f.words + f.uncommitted < fifoDepth))
    (fun f s => s.setFifo (fifoKey cell.toNat dir) { f with held := false }) s

/-- FIFO_IDLE_EXPIRY: the idle timer reaches IDLE_LIMIT: a drain request, and FIFO_IDLE the second time without a
completed read (R31, Table 17-8). -/
def execFifoIdleExpiry (cell : BitVec 20) (dir : Dir) (s : State) : Ans :=
  atFifo cell dir (fun f => !f.packets.isEmpty)
    (fun f s =>
      let k := fifoKey cell.toNat dir
      let g := { f with expiries := f.expiries + 1 }
      if f.expiries = 0 then s.setFifo k { g with drains := (g.drains + 1) % 2 ^ 48 }
      else if f.expiries = 1 then
        (s.setFifo k { g with idles := (g.idles + 1) % 2 ^ 48 }).raise 0x0F09 1 cell.toNat
          (dirCode dir * 2 ^ 30 + sat 0xFFFF f.words)
      else s.setFifo k g) s

end Sys2Proof.Machine
end

