-- ==== Sys2Proof/Machine/Changes.lean ====
section
/-!
DEFINITION. What changes in service share: the record of a running change, its events and its end, the retest of a block
(spec/18 R482 to R492).
-/

set_option Elab.async false

namespace Sys2Proof.Machine

/-- The running change of a region. -/
def State.change (s : State) (r : Nat) : Option Change := s.serv.changes.find? fun c => c.region == r

def State.setChange (c : Change) (s : State) : State :=
  s.withServ { s.serv with changes := s.serv.changes.map fun k => if k.region = c.region then c else k }

def State.dropChange (r : Nat) (s : State) : State :=
  s.withServ { s.serv with changes := s.serv.changes.filter fun k => k.region != r }

/-- Result word 0 of SERVICE_CHANGE (Table 18-6). -/
def Change.result (c : Change) : Word := mkw [(31, 24, c.done), (23, 16, c.total), (5, 0, c.lastFreed)]

/-- A change ends, and its job with it. -/
def State.endChange (c : Change) (status : Nat) (s : State) : State :=
  let s1 := s.dropChange c.region
  match c.job with
  | none => s1
  | some j => s1.endJob j status [c.result]

/-- A change has done all its steps: ABORTED after a cancel, FAULT where a core failed, else OK (R474, R490, R492). -/
def State.finishChange (c : Change) (s : State) : State :=
  s.endChange c (if c.cancelled then stAborted else if c.failed then stFault else stOk)

/-- SERVICE_STEP (Table 18-9). -/
def evStep (kind pos incoming freed ha : Nat) (s : State) : State :=
  s.raise 0x0E01 0 ha (kind * 2 ^ 28 + pos * 2 ^ 22 + incoming * 2 ^ 16 + freed)

/-- SERVICE_STEP_FAILED (Table 18-9). -/
def evStepFailed (cause pos block ha : Nat) (s : State) : State :=
  s.raise 0x0E02 3 ha (cause * 2 ^ 28 + pos * 2 ^ 22 + block)

/-- The position in hand. -/
def Change.pos (c : Change) : Nat := c.positions.headD 0x3F

/-! ### Retest (R485) -/

/-- The FIFOs of a block's cells, by key. -/
def State.fifosOf (s : State) (r b : Nat) : List Nat :=
  if ownsFifo r then (List.range (s.block r b).cells).flatMap fun c =>
    [fifoKey (haOf r b c) .inbound, fifoKey (haOf r b c) .outbound] else []

/-- A block at the end of its retest: cells that fail are retired, the others return to service; whether its eight working
cells can be served (R485). -/
def Block.retested (bad : List Nat) (k : Block) : Block × Bool :=
  let failed := ((List.range k.cells).filter bad.contains)
  let spare := if !failed.isEmpty then 0x3F else if k.spareCell ≠ 0x3F then k.spareCell
    else ((k.suspect ++ k.retired).head?).getD 8
  ({ k with suspect := [], retired := failed, spareCell := spare }, decide (failed.length ≤ 1))

/-- A block has gone through RETEST (R476, R482, R485): its FIFOs are reset, pending injections into it dropped, and it is
loaded with block image `image`. A block that cannot serve all its work is retired. -/
def State.retest (r b : Nat) (bad : List Nat) (image : Option Nat) (s : State) : Bool × State :=
  let k := s.block r b
  let t := k.retested bad
  let s1 := (s.fifosOf r b).foldl (fun s f => s.setFifo f (s.fifo f).resetFifo) s
  let s2 := s1.withHier { s1.hier with
    inject := (List.range k.cells).foldl (fun t c => Tab.set 0 t (haOf r b c) 0) s1.hier.inject }
  let note (s : State) : State := if t.1.spareCell = 0x3F ∧ k.spareCell ≠ 0x3F then evExhausted 0 (haOf r b 0x3F) s else s
  if t.2 then (true, note (s2.setBlock r b { t.1 with state := 1, serves := 0x3F, image := image }))
  else (false, (s2.setBlock r b { t.1 with state := 3, serves := 0x3F, image := image }).noteSpareBlock r)

/-- The block image that a change loads into a block: UPDATE that of the running firmware, RETEST its own (R481). -/
def State.imageFor (s : State) (update : Bool) (r b : Nat) : Option Nat :=
  if update then some s.serv.running.version else (s.block r b).image

/-- A core fault of a DPLL ends a core swap of it with FAULT (R492). -/
def State.swapFaulted (d : Nat) (s : State) : State :=
  match s.change 1 with
  | none => s
  | some c =>
    if c.method = 3 ∧ c.pos = d ∧ c.faulted = false then (evStepFailed 5 d d (haOf 1 d 0x3F) s).endChange c stFault else s

end Sys2Proof.Machine
end

