-- ==== Sys2Proof/Machine/Threads.lean ====
section
/-!
DEFINITION. What threads share between Loom and FLOW: whether a receive thread delivers, its delineation, the padding
credit of a transmit thread (spec/08 R241, spec/10 R303, R305, R307).
-/

set_option Elab.async false

namespace Sys2Proof.Machine

def State.lp (s : State) (p : Port) : LoomPort := s.loom.ports.get p

def State.boltRx (s : State) (b : Nat) : BoltRx := (Tab.get none s.loom.boltRx b).getD {}
def State.setBoltRx (b : Nat) (v : BoltRx) (s : State) : State :=
  s.withLoom { s.loom with boltRx := Tab.set none s.loom.boltRx b (some v) }

/-- A thread's label mismatch: its accepted label differs from its expected one, unless that is 0xFF (R241). -/
def State.labelMism (s : State) (t : Nat) : Bool :=
  match s.thread 0 t with
  | none => false
  | some th => let l := Tab.get {} s.loom.labels t
    l.accepted != 0 && l.accepted != th.label + 1 && th.label != 0xFF

/-- A thread in mismatch is down where LABEL_DOWN is set on a port of its bolt (R241). -/
def State.threadDown (s : State) (t : Nat) : Bool :=
  s.labelMism t && (match s.thread 0 t with
    | some th => match s.bolt 0 th.bolt with
      | some b => [(0 : Port), 1].any fun p => decide (0 < b.on p) && (s.lp p).labelDown
      | none => false
    | none => false)

/-- The bolt of a receive thread is UP; of a protected bolt one of the pair's copies is (R245, R305). -/
def State.boltServes (s : State) (b : Nat) : Bool :=
  match s.pairOf 0 b with
  | some q =>
    if q.suspended then (s.boltRx q.working).st == 3 else (s.boltRx q.working).st == 3 || (s.boltRx q.protect).st == 3
  | none => (s.bolt 0 b).isSome && (s.boltRx b).st == 3

/-- A receive thread delivers (R305). -/
def State.threadServes (s : State) (t : Nat) : Bool :=
  match s.thread 0 t with
  | none => false
  | some th => s.boltServes th.bolt && !s.threadDown t

def State.rxThread (s : State) (t : Nat) : RxThread := Tab.get {} s.flow.rxThreads t
def State.updRxThread (t : Nat) (f : RxThread → RxThread) (s : State) : State :=
  s.withFlow { s.flow with rxThreads := Tab.upd {} s.flow.rxThreads t f }

def State.txThread (s : State) (t : Nat) : TxThread := Tab.get {} s.flow.txThreads t
def State.updTxThread (t : Nat) (f : TxThread → TxThread) (s : State) : State :=
  s.withFlow { s.flow with txThreads := Tab.upd {} s.flow.txThreads t f }

/-- FLOW_DELINEATION, at most 256 a second (Table 10-12). -/
def evDelin (t : Nat) (hunt : Bool) (s : State) : State :=
  s.raiseAtMost 256 0x060300 0x0603 1 (regionHa 0x06) (b2n hunt * 2 ^ 31 + t)

/-- A receive thread goes from SYNC to HUNT (R303). -/
def State.hunt (t : Nat) (s : State) : State :=
  let was := (s.rxThread t).sync.isSome
  let s1 := s.updRxThread t fun r => { r with sync := none, cands := [] }
  if was then evDelin t true s1 else s1

/-- Every thread that no longer delivers is in HUNT (R303). -/
def State.refreshDelin (s : State) : State :=
  s.flow.rxThreads.foldl (fun s e =>
    if (e.2.sync.isSome || !e.2.cands.isEmpty) && !s.threadServes e.1 then s.hunt e.1 else s) s

/-- A byte of padding credit, and its greatest amount (R307: 97,656.25 bytes a second for each unit, up to 1,536). -/
def creditByte : Nat := 671088640
def creditMax : Nat := 1536 * creditByte

/-- Bring every transmit thread's credit up to now, and take its size in force from here on (R307). -/
def State.settleCredits (s : State) : State :=
  (((s.threads 1).map fun e => e.1) ++ (s.flow.txThreads.map fun e => e.1)).eraseDups.foldl (fun s t =>
    s.updTxThread t fun r =>
      { r with credit := sat creditMax (r.credit + (s.time - r.since) * r.size), since := s.time, size := s.sizeNow 1 t }) s

/-- Threads of either direction changed. -/
def State.refreshThreads (s : State) : State := (s.settleCredits).refreshDelin

end Sys2Proof.Machine
end

