-- ==== Sys2Proof/Machine/Framer.lean ====
section
/-!
DEFINITION. What the Loom's happenings and the line ports share: framer states, bolt states, per-second counts
(spec/08 R223, R226, R236, R249, R259).
-/

set_option Elab.async false

namespace Sys2Proof.Machine

/-- The whole LOOM region. -/
def loomHa : Nat := regionHa 0x05

def State.setLp (p : Port) (v : LoomPort) (s : State) : State := s.withLoom { s.loom with ports := s.loom.ports.set p v }
def State.updLp (p : Port) (f : LoomPort → LoomPort) (s : State) : State := s.setLp p (f (s.lp p))

/-- Counter `j` of LOOM_COUNTERS (R258). -/
def loomCtr (p : Port) (j : Nat) : Nat := ctr 5 0 12 p.val j

/-- The key of a per-second count: kind 0 section, 1 bolt, 2 thread; index; word (Table 8-6). -/
def pmKey (kind idx word : Nat) : Nat := kind * 2 ^ 32 + idx * 8 + word

/-- Advance a per-second count; 32 bits, saturating (R249). -/
def State.pm (kind idx word n : Nat) (s : State) : State :=
  s.withLoom { s.loom with counts := Tab.upd 0 s.loom.counts (pmKey kind idx word) fun v => sat 0xFFFFFFFF (v + n) }

/-- The code of a framer state (Table 8-3). -/
def FrSt.code : FrSt → Nat
  | .off => 0
  | .search => 1
  | .aligned => 2
  | .locked => 3

/-- Periods of 2.56 µs that began since the count was last brought up (Table 8-6). -/
def State.countLost (p : Port) (s : State) : State :=
  let period := 2560 * nano
  ((s.pm 0 p.val 4 (s.time / period - (s.lp p).lostFrom / period))).updLp p fun l => { l with lostFrom := s.time }

/-! ### Bolt states (R236) -/

/-- A receive bolt's state changes and LOOM_BOLT_STATE is raised (Table 8-16). -/
def State.moveBolt (b new cause : Nat) (s : State) : State :=
  let r := s.boltRx b
  if r.st = new then s
  else ((s.setBoltRx b { r with st := new, run := 0 }).raise 0x0502 2 loomHa
    (new * 2 ^ 28 + r.st * 2 ^ 24 + cause * 2 ^ 20 + b)).refreshDelin

/-- A bolt with a member on a direction that runs 400ZR has all its members there (R250). -/
def State.zrBroken (s : State) (d : Way) (b : Nat) : Bool :=
  match s.bolt d b with
  | none => false
  | some bolt => [(0 : Port), 1].any fun p => s.modOf d p == 4 && decide (0 < bolt.on p) && decide (bolt.on p < bolt.members.length)

/-- Some member slot of a bolt is in map mismatch. -/
def State.boltMism (s : State) (b : Nat) : Bool :=
  [(0 : Port), 1].any fun p => (s.placement 0 p).any fun m => m.2.1 == b && (Tab.get {} (s.lp p).slots m.1).mism

/-- A port that holds members of the bolt is not LOCKED. -/
def State.boltUnlocked (s : State) (b : Nat) : Bool := (s.boltPorts 0 b).any fun p => (s.lp p).st != .locked

/-- Every defined receive bolt that R236 or R250 calls DOWN is DOWN. -/
def State.downBolts (s : State) : State :=
  (s.bolts 0).foldl (fun s e =>
    if (s.boltRx e.1).st = 1 then s
    else if s.boltUnlocked e.1 || s.zrBroken 0 e.1 then s.moveBolt e.1 1 1
    else if s.boltMism e.1 then s.moveBolt e.1 1 2
    else s) s

/-! ### Framer states (R223, R226) -/

/-- A framer's state changes: LOOM_ALIGN is raised, an error where SEARCH is entered from ALIGNED or LOCKED; the time not
LOCKED is counted; bolts of the port that is not LOCKED are DOWN. -/
def State.moveFramer (p : Port) (new : FrSt) (cause : Nat) (s : State) : State :=
  let l := s.lp p
  if l.st = new then s
  else
    let s1 := if new = .locked then s.countLost p else if l.st = .locked then s.updLp p fun l => { l with lostFrom := s.time } else s
    let s2 := s1.updLp p fun l => { l with
      st := new, misses := 0, bad := 0, good := if new = .aligned then l.good else 0,
      cands := if new = .search then [] else l.cands }
    let sev := if new = .search ∧ (l.st = .aligned ∨ l.st = .locked) then 3 else 1
    let s3 := s2.raise 0x0501 sev loomHa (new.code * 2 ^ 28 + l.st.code * 2 ^ 24 + cause * 2 ^ 20 + p.val * 2 ^ 16)
    if new = .locked then s3
    else (s3.updLp p fun l => { l with anns := [], slots := l.slots.foldl (fun t e => Tab.set {} t e.1 { e.2 with differ := 0, agree := 0 }) [] }).downBolts

/-! ### What rate adaptation keeps of a port (spec/07) -/

/-- A PCS format, and the range of its entropy codes (Table 3-10, R192). -/
def pcs (mod : Nat) : Bool := mod == 2 || mod == 3
def modRange (mod : Nat) : Nat × Nat := if mod = 2 then (64, 192) else if mod = 3 then (160, 224) else (1, 0)

def State.updRa (p : Port) (f : RaPort → RaPort) (s : State) : State := s.withRa { s.ra with ports := s.ra.ports.upd p f }

/-- A direction is configured anew: bounds outside the new MOD's range are 0, the nominal plan rule applies (R211). -/
def State.raConfigured (d : Way) (p : Port) (s : State) : State :=
  let m := modRange (s.modOf d p)
  let keep (b : Nat) : Nat := if m.1 ≤ b ∧ b ≤ m.2 then b else 0
  (if d = 0 then s else s.settleCredits).updRa p fun r =>
    if d = 0 then { r with rxMin := keep r.rxMin, rxMax := keep r.rxMax, rxFb := false }
    else { r with txMin := keep r.txMin, txMax := keep r.txMax, txFb := false }

/-- TRACKING is left: the averaging window is emptied, counts toward a candidate begin anew (R193, R209). -/
def State.raLeave (p : Port) (s : State) : State :=
  s.updRa p fun r => { r with window := [], upStands := false, lowSince := none, candBad := 0, candGood := 0 }

/-- A decode of a port with a candidate code ends corrected or not (R209): after a move the first that converges settles the
code, before one 64 in a row do. -/
def State.noteDecode (p : Port) (ok : Bool) (s : State) : State :=
  let r := s.ra.ports.get p
  if r.candidate.isNone then s
  else if ok then
    if r.candMoved || decide (63 ≤ r.candGood) then s.updRa p fun r => { r with candidate := none, candBad := 0, candGood := 0 }
    else s.updRa p fun r => { r with candGood := r.candGood + 1, candBad := 0 }
  else s.updRa p fun r => { r with candBad := r.candBad + 1, candGood := 0 }

/-- The receive port leaves TRACKING: the framer is OFF (Table 8-3). -/
def State.framerOff (p : Port) (s : State) : State :=
  (s.moveFramer p .off 0).updLp p fun l => { l with cands := [], good := 0, parity := none, boltPar := none, boltParPrev := none }

end Sys2Proof.Machine
end

