-- ==== Sys2Proof/Machine/Tally.lean ====
section
/-!
DEFINITION. Tally: the counter window, slot accounting, span tagging and their opcodes (spec/19).
-/

set_option Elab.async false

namespace Sys2Proof.Machine

/-! ### Slot accounting (R505, R506) -/

/-- Advance a slot-accounting counter of a region: 0 retired, 1 squashed, 2 front-starved, 3 back-starved. -/
def State.slot (region j n : Nat) (s : State) : State := s.bump (ctr 0xC 0 4 region j) n

/-! ### Span tagging (R507 to R509) -/

/-- The key of a port and direction (0 receive, 1 transmit). -/
def tagKey (p : Port) (d : Nat) : Nat := 2 * p.val + d

/-- Advance a tag counter: 0 spans tagged, 1 records written, 2 records overwritten, 3 tags lost. -/
def State.tagCount (p : Port) (d j n : Nat) (s : State) : State := s.bump (ctr 0xC 0x400 4 (tagKey p d) j) n

/-- One step of the generator x^31 + x^28 + 1. DESIGN CHOICE: the new bit enters at bit 0 (notes/assumptions/11). -/
def lfsrStep (x : Nat) : Nat := (2 * x) % 2 ^ 31 + (x / 2 ^ 30 + x / 2 ^ 27) % 2

/-- The selector steps 31 bits for each span formed (R507). -/
def lfsr31 (x : Nat) : Nat := (List.range 31).foldl (fun y _ => lfsrStep y) x

/-- A span forms: the selector steps and may tag it (R507). Receive tagging draws only in TRACKING (`draw`). -/
def State.tagForm (p : Port) (d span : Nat) (draw : Bool) (s : State) : State :=
  let t := Tab.get {} s.tally.tags (tagKey p d)
  if t.enable && draw then
    let x := lfsr31 t.lfsr
    let s1 := s.withTally { s.tally with tags := Tab.set {} s.tally.tags (tagKey p d) { t with lfsr := x } }
    if x % 2 ^ t.k = 0 then
      let r : TagRec := ⟨0, d, p.val, false, false, 0, span, s.time, [(0, s.time + 1)], []⟩
      (s1.withTally { s1.tally with openTags := s1.tally.openTags ++ [r] }).tagCount p d 0 1
    else s1
  else s

/-- Change the open tag of a span. -/
def State.tagUpd (p : Port) (d span : Nat) (f : TagRec → TagRec) (s : State) : State :=
  if s.tally.openTags.any (fun r => r.port == p.val && r.dir == d && r.span == span) then
    s.withTally { s.tally with openTags := s.tally.openTags.map fun r =>
      if r.port = p.val ∧ r.dir = d ∧ r.span = span then f r else r }
  else s

/-- A stage's entry keeps the earliest time, its exit the latest (R508); a stored stamp is the time plus one. -/
def State.tagEnter (p : Port) (d span stage : Nat) (s : State) : State :=
  s.tagUpd p d span fun r =>
    if Tab.get 0 r.entry stage = 0 then { r with entry := Tab.set 0 r.entry stage (s.time + 1) } else r
def State.tagExit (p : Port) (d span stage : Nat) (s : State) : State :=
  s.tagUpd p d span fun r => { r with exit := Tab.set 0 r.exit stage (s.time + 1) }

/-- The record of a tagged span is written into the ring of 1,024 (R509). -/
def State.tagClose (p : Port) (d span : Nat) (erased late : Bool) (s : State) : State :=
  match s.tally.openTags.find? (fun r => r.port == p.val && r.dir == d && r.span == span) with
  | none => s
  | some r =>
    let q := nextSeq s.tally.tagSeq
    let s1 := s.withTally { s.tally with
      openTags := s.tally.openTags.filter fun r => !(r.port == p.val && r.dir == d && r.span == span),
      ring := ({ r with seq := q, erased := erased, late := late } :: s.tally.ring).take 1024, tagSeq := q }
    (if 1024 ≤ s.tally.ring.length then s1.tagCount p d 2 1 else s1).tagCount p d 1 1

/-- Open tags of a port and direction are lost (R509). -/
def State.tagLose (p : Port) (d : Nat) (s : State) : State :=
  let n := (s.tally.openTags.filter fun r => r.port == p.val && r.dir == d).length
  if n = 0 then s
  else
    (s.withTally { s.tally with openTags := s.tally.openTags.filter fun r => !(r.port == p.val && r.dir == d) }).tagCount
      p d 3 n

/-- The 17 words of a tag record (Table 19-3). -/
def TagRec.words (r : TagRec) : List Word :=
  let stamp (t : Tab Nat) (k : Nat) : Word :=
    let v := Tab.get 0 t k
    if v = 0 then 0xFFFFFFFF else w32 ((v - 1 - r.base) / 65536)
  [mkw [(31, 31, 1), (30, 30, r.dir), (29, 29, r.port), (28, 28, b2n r.erased), (27, 27, b2n r.late),
        (23, 16, sat 255 r.replays), (15, 0, r.seq)]] ++ words64 r.span ++ words64 (r.base % 2 ^ 64) ++
    (List.range 6).flatMap fun k => [stamp r.entry k, stamp r.exit k]

/-! ### Opcodes (R510, R511) -/

/-- TALLY_TAG_SET (R507, Table 19-5). -/
def tallyTagSetOp : OpDef where
  code := 0x0C01
  lo := 2
  hi := 2
  targetOk := targetClerk
  check := fun c _ => firstRej [resv c 0 28 5, param (decide (8 ≤ (c.p 0).fld 4 0 ∧ (c.p 0).fld 4 0 ≤ 24)) 0,
    resv c 1 31 31, param ((c.p 1).fld 30 0 != 0) 1]
  effect := sets fun c s =>
    let seed := (c.p 1).fld 30 0
    let t : Tag := { enable := (c.p 0).bit 31, k := (c.p 0).fld 4 0, seed := seed, lfsr := seed }
    s.withTally { s.tally with tags := Tab.set {} s.tally.tags (2 * (c.p 0).fld 29 29 + (c.p 0).fld 30 30) t }

def execTallyTagSet (c : Cmd) (s : State) : Ans := serve tallyTagSetOp c s

/-- `count` tag records from the one numbered `first` (low 25 bits) on; records not held read as zero (R511). -/
def tagRead (first count : Nat) (s : State) : List Word :=
  w32 s.tally.tagSeq :: (List.range count).flatMap fun k =>
    match s.tally.ring.find? (fun r => r.seq % 2 ^ 25 == (first + k) % 2 ^ 25) with
    | some r => r.words
    | none => List.replicate 17 0

/-- TALLY_TAG_READ (R511). -/
def tallyTagReadOp : OpDef where
  code := 0x0C02
  queue := some 2
  lo := 1
  hi := 1
  targetOk := targetClerk
  check := fun c _ => param (decide (1 ≤ (c.p 0).fld 31 25 ∧ (c.p 0).fld 31 25 ≤ 120)) 0
  effect := reads fun c s => tagRead ((c.p 0).fld 24 0) ((c.p 0).fld 31 25) s

def execTallyTagRead (c : Cmd) (s : State) : Ans := serve tallyTagReadOp c s

/-- TALLY_SLOT_READ: the four slot-accounting counters of a region (R505, R510). -/
def tallySlotReadOp : OpDef where
  code := 0x0C03
  lo := 0
  hi := 0
  targetOk := targetAnyRegion
  effect := reads fun c s => s.counterWords (ctr 0xC 0 4 (haRegion c.target.toNat) 0) 4

def execTallySlotRead (c : Cmd) (s : State) : Ans := serve tallySlotReadOp c s

/-- TALLY_FIFO_READ: the counters of R33, then the high-water mark, which the reply clears (R511). -/
def tallyFifoReadOp : OpDef where
  code := 0x0C04
  lo := 1
  hi := 1
  targetOk := fun s t => targetCell s t && ownsFifo (haRegion t)
  check := fun c _ => firstRej [resv c 0 31 2, param (decide ((c.p 0).fld 1 0 = 1 ∨ (c.p 0).fld 1 0 = 2)) 0]
  effect := fun c s =>
    let k := fifoKey c.target.toNat (if (c.p 0).fld 1 0 = 1 then .inbound else .outbound)
    let f := s.fifo k
    (.ok ([f.committed, f.rewound, f.discarded, f.drains, f.idles].flatMap words64 ++ [w32 f.highWater]),
      s.setFifo k { f with highWater := 0 })

def execTallyFifoRead (c : Cmd) (s : State) : Ans := serve tallyFifoReadOp c s

/-- The opcode group whose window holds a slot (R501). -/
def slotGroup (k : Nat) : Nat := k * 8 / 0x10000

/-- TALLY_FREEZE: every group whose MASK bit is set is captured afresh, the others return to live reading (R504). -/
def tallyFreezeOp : OpDef where
  code := 0x0C05
  lo := 1
  hi := 1
  targetOk := targetClerk
  check := fun c _ => resv c 0 31 16
  effect := sets fun c s =>
    let gs := (List.range 16).filter fun g => (c.p 0).bit g
    s.withTally { s.tally with frozen := gs, capture := s.tally.counters.filter fun e => gs.contains (slotGroup e.1) }

def execTallyFreeze (c : Cmd) (s : State) : Ans := serve tallyFreezeOp c s

/-! ### The counter window (R501, R503, R504, spec/16 R458) -/

/-- The value of a slot as BAR2 returns it: zero in a closed group, captured in a frozen one, else live. -/
def State.slotValue (s : State) (k : Nat) : Nat :=
  if s.hall.tallyMask / 2 ^ slotGroup k % 2 = 0 then 0
  else if s.tally.frozen.contains (slotGroup k) then Tab.get 0 s.tally.capture k
  else s.counter k

/-- BAR2_LOW_READ: a read of function 1's window: 8 bytes, or 4 bytes of a low half (which latches the high half) or of
a high half (which returns the latch when it holds that slot). One not aligned to its size returns zero (R501, R503). -/
def execBar2LowRead (offset : BitVec 20) (wide : Bool) (s : State) : Ans :=
  let o := offset.toNat
  let k := o / 8
  let v := s.slotValue k
  happen s.pcie s
    (if wide then s.emit (.data (if o % 8 = 0 then words64 v else [0, 0]))
     else if o % 8 = 0 then (s.withTally { s.tally with latch := some (k, v / 2 ^ 32) }).emit (.data [w32 v])
     else if o % 8 = 4 then
       s.emit (.data [w32 (match s.tally.latch with
         | some (a, h) => if a = k then h else v / 2 ^ 32
         | none => v / 2 ^ 32)])
     else s.emit (.data [0]))

end Sys2Proof.Machine
end

