-- ==== Sys2Proof/Machine/Line.lean ====
section
/-!
DEFINITION. What the line chapters share: receive ports and their events, the change of a receive state, the pool's
held spans, erasure (spec/03, spec/04, spec/06).
-/

set_option Elab.async false

namespace Sys2Proof.Machine

/-- The code of a receive state (Table 3-5). -/
def RxSt.code : RxSt → Nat
  | .off => 0
  | .signalWait => 1
  | .acquire => 2
  | .tracking => 3

def State.rxp (s : State) (p : Port) : RxPort := s.rx.get p
def State.setRx (p : Port) (v : RxPort) (s : State) : State := s.withRx (s.rx.set p v)
def State.updRx (p : Port) (f : RxPort → RxPort) (s : State) : State := s.setRx p (f (s.rxp p))
def State.rwp (s : State) (p : Port) : RwPort := s.rw.get p
def State.setRw (p : Port) (v : RwPort) (s : State) : State := s.withRw (s.rw.set p v)
def State.fecp (s : State) (p : Port) : FecPort := s.fec.ports.get p
def State.setFecp (p : Port) (v : FecPort) (s : State) : State := s.withFec { s.fec with ports := s.fec.ports.set p v }

def State.tracking (s : State) (p : Port) : Bool := decide ((s.rxp p).st = .tracking)

/-- Counter `j` of LINE_RX_COUNTERS (R105), LINE_RW_COUNTERS (R133), FEC_PORT_COUNTERS (R188) and FEC_REGION_COUNTERS. -/
def rxCtr (p : Port) (j : Nat) : Nat := ctr 9 0 12 p.val j
def rwCtr (p : Port) (j : Nat) : Nat := ctr 9 0x220 12 p.val j
def fecCtr (p : Port) (j : Nat) : Nat := ctr 8 0 10 p.val j
def fecRegionCtr (r j : Nat) : Nat := ctr 8 0xA0 6 (r - 0x0C) j

/-- LINE_RX_STATE (Table 3-18); the span index is that of the next span to form (DEDUCED, notes/assumptions/12). -/
def evRxState (p : Port) (new old : RxSt) (cause : Nat) (s : State) : State :=
  s.raise 0x0901 1 (portHa p) (new.code * 2 ^ 28 + old.code * 2 ^ 24 + cause * 2 ^ 20 + (s.rxp p).next % 2 ^ 20)

/-- A receive port's state changes, and LINE_RX_STATE is raised. -/
def State.moveRx (p : Port) (new : RxSt) (cause : Nat) (s : State) : State :=
  evRxState p new (s.rxp p).st cause (s.updRx p fun r => { r with st := new })

/-! ### The CD estimator (R83, R103) -/

/-- A host scan that holds the estimator ends ABORTED without results (R103). -/
def State.abortScan (p : Port) (s : State) : State :=
  match (s.rxp p).estimator with
  | .scan j => (s.updRx p fun r => { r with estimator := .free }).endJob j stAborted []
  | _ => s

/-- Acquisition starts at a step: step 1 takes the estimator (R96, R103). -/
def State.startAcq (p : Port) (step : Nat) (full : Bool) (s : State) : State :=
  s.updRx p fun r => { r with acqStep := step, fullScan := full,
                              estimator := if step = 1 then .acquisition else .free }

/-! ### Cross-fades (R80, R107) -/

/-- The running cross-fade ends: only the new bank is used, LINE_RX_XFADE_DONE is raised (R80). -/
def State.endRxFade (p : Port) (s : State) : State :=
  match (s.rxp p).fade with
  | none => s
  | some f =>
    ((s.updRx p fun r => { r with fade := none }).bump (rxCtr p 10) 1).raise 0x0904 0 (portHa p)
      (Int.bits 20 f.new + b2n f.byTrack * 2 ^ 20)

/-! ### Lane faults (R78) -/

/-- The unit address of the front-end block that serves a converter. -/
def State.frontHa (s : State) (p : Port) (conv : Nat) : Nat :=
  haOf (0x12 + p.val) (s.server (0x12 + p.val) conv) 0x3F

/-- LINE_RX_LANE_FAULT, critical when declared and notice when cleared (Table 3-18). -/
def evLaneFault (p : Port) (conv : Nat) (on : Bool) (s : State) : State :=
  s.raise 0x0907 (if on then 4 else 1) (s.frontHa p conv) (b2n on * 2 ^ 31 + conv)

/-- Every lane fault of a port ends. -/
def State.endLaneFaults (p : Port) (s : State) : State :=
  (s.rxp p).laneFault.foldl (fun s k => evLaneFault p k false s) (s.updRx p fun r => { r with laneFault := [] })

/-! ### Commands that commit at a span boundary (R131, R184) -/

/-- The commit of a LINE_RW_CONFIG (Table 4-7). -/
def State.commitRw (c : Cmd) (s : State) : State :=
  s.setRw c.port { s.rwp c.port with spec := (c.p 0).bit 28, contra := (c.p 0).fld 12 0 }

/-- The commit of a FEC_PORT_CONFIG (Table 6-5). -/
def State.commitFec (c : Cmd) (s : State) : State :=
  s.setFecp c.port { s.fecp c.port with early := (c.p 0).bit 24, maxIter := (c.p 0).fld 19 16, oh := (c.p 0).fld 9 8 }

/-- Every LINE_RW_CONFIG and FEC_PORT_CONFIG of a port that waits for its span boundary commits and is answered. -/
def State.commitBoundary (p : Port) (s : State) : State :=
  s.clerk.held.foldl (fun s h =>
    if h.await = some (.rwConfig p) then (s.commitRw h.cmd).answerAwait (.rwConfig p) []
    else if h.await = some (.fecConfig p) then (s.commitFec h.cmd).answerAwait (.fecConfig p) []
    else s) s

/-! ### Leaving and entering TRACKING -/

/-- Spans of a port that wait at the pool input and are not dealt are discarded (R91, R135). -/
def State.dropHeld (p : Port) (s : State) : State :=
  let n := (s.fec.held.filter fun h => h.port == p).length
  (s.withFec { s.fec with held := s.fec.held.filter fun h => h.port != p }).bump (rxCtr p 2) n

/-- TRACKING is left: replay and catch-up end, the window and the ring are cleared, pending injections are dropped,
spans not dealt are discarded, the framer is OFF, the margins are forgotten, open receive tags are lost; E and F keep their
values (R101, R132, R135, R186, R193, R223, R509). -/
def State.leaveTracking (p : Port) (s : State) : State :=
  let w := s.rwp p
  let s1 := s.setRw p { w with replay := none, catchUp := false, backlog := 0, peak := 0, spans := [], inject := none,
                               recomp := [], rateHigh := false }
  let s2 := (s1.setFecp p { s1.fecp p with inject := none, zrRegion := none }).dropHeld p
  (((s2.framerOff p).raLeave p).updRx p fun r => { r with est := {}, tolerance := [], residual := none }).tagLose p 0

/-- The port changes state out of TRACKING if it is in it. -/
def State.leaveIfTracking (p : Port) (s : State) : State := if s.tracking p then s.leaveTracking p else s

/-- Loss of lock: the cross-fade ends at once, the scan is aborted, acquisition restarts (R95, R103, R107). -/
def State.loseLock (p : Port) (cause : Nat) (s : State) : State :=
  let s1 := (s.endRxFade p).abortScan p
  let s2 := ((s1.leaveTracking p).updRx p fun r => { r with lol := true }).bump (rxCtr p 9) 1
  ((s2.raise 0x0903 3 (portHa p) cause).moveRx p .acquire 4).startAcq p 1 false

/-- TRACKING is entered: the run-ahead machinery starts at the next span to form; a standing lane fault is a loss of
lock at once (R78, R94, R95). -/
def State.enterTracking (p : Port) (s : State) : State :=
  let n := (s.rxp p).next
  let w := s.rwp p
  let s1 := s.setRw p { w with track := n, fin := n, peak := 0, spans := [], replay := none, catchUp := false,
                               backlog := 0, recomp := [], rateHigh := false }
  let s2 := (s1.moveRx p .tracking 3).updRx p fun r => { r with acqStep := 0, lol := false, estimator := .free, residual := none }
  if (s2.rxp p).laneFault.isEmpty then s2 else s2.loseLock p 2

/-! ### Erasure (R122, R471) -/

/-- A span was erased or a decode given up: HEALTH shows it for a second (Table 17-3). -/
def State.noteErasure (s : State) : State := (s.withHier { s.hier with erasure := true }).refreshHealth

/-- Change the record of a span of a port. -/
def RwPort.updSpan (w : RwPort) (k : Nat) (f : SpanRec → SpanRec) : RwPort :=
  { w with spans := w.spans.map fun r => if r.idx = k then f r else r }

/-- The record of a span. -/
def RwPort.find (w : RwPort) (k : Nat) : Option SpanRec := w.spans.find? fun r => r.idx == k

/-- Erase spans: each is dealt with zero LLRs and skipped by tracking (R122); the erased counter advances. -/
def State.eraseSpans (p : Port) (ks : List Nat) (s : State) : State :=
  let w := s.rwp p
  let erase (r : SpanRec) : SpanRec :=
    if ks.contains r.idx then { r with erased := true, handed := true, provisional := false, consumer := none, decided := none }
    else r
  let w1 := { w with spans := w.spans.map erase }
  let held := ks.map fun k => ({ port := p, span := k, ready := some s.time, erased := true } : HeldSpan)
  let s1 := (s.setRw p w1).withFec { s.fec with
    running := s.fec.running.filter fun d => !(d.port == p && ks.contains d.span),
    held := (s.fec.held.filter fun h => !(h.port == p && ks.contains h.span)) ++ held }
  (s1.bump (rwCtr p 9) ks.length).noteErasure

/-- One span is erased for a cause, and LINE_RW_ERASED is raised (R122, Table 4-10). -/
def State.eraseSpan (p : Port) (k cause : Nat) (s : State) : State :=
  (s.eraseSpans p [k]).raise 0x0933 3 (portHa p) (cause * 2 ^ 20 + k % 2 ^ 20)

/-! ### The transmit port (spec/05) -/

/-- The code of a transmit state (Table 5-3). -/
def TxSt.code : TxSt → Nat
  | .off => 0
  | .muted => 1
  | .rampUp => 2
  | .on => 3
  | .rampDown => 4

def State.txp (s : State) (p : Port) : TxPort := s.tx.get p
def State.setTx (p : Port) (v : TxPort) (s : State) : State := s.withTx (s.tx.set p v)
def State.updTx (p : Port) (f : TxPort → TxPort) (s : State) : State := s.setTx p (f (s.txp p))

/-- Counter `j` of LINE_TX_COUNTERS (R160). -/
def txCtr (p : Port) (j : Nat) : Nat := ctr 9 0xC0 10 p.val j

/-- Drive is up or moving: neither OFF nor MUTED. -/
def TxSt.driving : TxSt → Bool
  | .off => false
  | .muted => false
  | _ => true

/-- A span is sent late (R152, R161). -/
def State.txLate (p : Port) (span : Nat) (s : State) : State :=
  ((s.bump (txCtr p 2) 1).tagUpd p 1 span fun r => { r with late := true }).raiseLimited (0x091100 + p.val) second
    0x0911 3 (portHa p) (sat 0xFFFF)

/-- Enter a failure in a span's record: the original pass under key 64, later ones by block. -/
def failIn (b : Nat) (t : Tab Nat) : Tab Nat := if t.isEmpty then [(64, 1)] else Tab.upd 0 t b (· + 1)

/-- A residue or parity failure in a transmit position: the span is recomputed from its staged payload; a block is suspect
at the second failed recompute of one span there, the span is late at its fourth (R152). -/
def State.txFailure (p : Port) (b span : Nat) (s : State) : State :=
  let t := s.txp p
  let old := ((t.fails.find? fun e => e.1 == span).map (·.2)).getD []
  let f := failIn b old
  let s1 := s.setTx p { t with fails := t.fails.filter (fun e => e.1 != span) ++ [(span, f)] }
  let s2 := ((s1.bump (txCtr p 1) 1).slot (0x12 + p.val) 1 1)
  let s3 := if Tab.get 0 f b = 2 then s2.blockSuspect (0x12 + p.val) b 2 else s2
  if (f.map (·.2)).sum = 5 then s3.txLate p span else s3

end Sys2Proof.Machine
end

