-- ==== Sys2Proof/Machine/Fec.lean ====
section
/-!
DEFINITION. The decoder pool: dealing, decodes, faults, opcodes (spec/06).
-/

set_option Elab.async false

namespace Sys2Proof.Machine

/-- FEC_PORT_CONFIG (Table 6-5, R184). -/
def fecPortConfigOp : OpDef where
  code := 0x0801
  lo := 1
  hi := 1
  targetOk := targetLine
  check := fun c s => firstRej [resv c 0 31 25, resv c 0 23 20, param (decide (3 ≤ (c.p 0).fld 19 16 ∧ (c.p 0).fld 19 16 ≤ 12)) 0,
    resv c 0 15 10, param ((c.p 0).fld 9 8 != 3) 0, resv c 0 7 0,
    stateErr (decide ((s.rxp c.port).st = .off) || (c.p 0).fld 9 8 == (s.fecp c.port).oh) 2]
  effect := fun c s =>
    if (s.rxp c.port).st = .off then (.ok [], s.commitFec c) else (.wait (.fecConfig c.port), s)

def execFecPortConfig (c : Cmd) (s : State) : Ans := serve fecPortConfigOp c s

/-- The eight words of FEC_PORT_STATUS (Table 6-8). -/
def fecStatus (p : Port) (s : State) : List Word :=
  let f := s.fecp p
  let g (k : Nat) := f.sec.getD k 0
  [mkw [(31, 30, f.oh), (27, 24, f.maxIter), (23, 23, b2n f.early), (22, 22, b2n ((s.rxp p).mod == 4)),
        (9, 0, (s.fec.running.filter fun d => d.port == p).length)]] ++
  words64 (g 0 % 2 ^ 48) ++ words64 (g 1 % 2 ^ 48) ++
  [mkw [(31, 16, g 2), (15, 12, g 3)], w32 (g 4), mkw [(15, 0, sat 0xFFFF (g 5))]]

/-- FEC_PORT_STATUS. -/
def fecPortStatusOp : OpDef where
  code := 0x0802
  lo := 0
  hi := 0
  targetOk := targetLine
  effect := reads fun c s => fecStatus c.port s

def execFecPortStatus (c : Cmd) (s : State) : Ans := serve fecPortStatusOp c s

/-- FEC_PORT_COUNTERS (R188). -/
def fecPortCountersOp : OpDef where
  code := 0x0803
  lo := 0
  hi := 0
  targetOk := targetLine
  effect := reads fun c s => s.counterWords (fecCtr c.port 0) 10

def execFecPortCounters (c : Cmd) (s : State) : Ans := serve fecPortCountersOp c s

/-- Slots of a region that are occupied, and of one of its blocks. -/
def State.regionBusy (s : State) (r : Nat) : Nat := (s.fec.running.filter fun d => d.region == r).length
def State.blockBusy (s : State) (r b : Nat) : Nat := (s.fec.running.filter fun d => d.region == r && d.block == b).length

/-- The nine words of FEC_POOL_STATUS (Table 6-9). -/
def fecPoolStatus (s : State) : List Word :=
  [mkw [(31, 28, s.fecWorking.length), (27, 20, (s.journeyman 0x0C).getD 0xFF),
        (1, 1, b2n (s.serv.changes.any fun c => c.method == 2 && isFec c.region)), (0, 0, b2n s.fec.short)],
   w32 ((s.fecRequired + 409599) / 409600), w32 s.fecGuaranteed] ++
  (List.range 6).map fun k =>
    mkw [(31, 28, (s.region (12 + k)).poolRole), (27, 22, (s.servingBlocks (12 + k)).length), (21, 14, s.regionBusy (12 + k))]

/-- FEC_POOL_STATUS: any whole FEC region is a TARGET (R183). -/
def fecPoolStatusOp : OpDef where
  code := 0x0804
  lo := 0
  hi := 0
  targetOk := targetRegions 0x0C 0x11
  effect := reads fun _ s => fecPoolStatus s

def execFecPoolStatus (c : Cmd) (s : State) : Ans := serve fecPoolStatusOp c s

/-- FEC_REGION_COUNTERS (R188). -/
def fecRegionCountersOp : OpDef where
  code := 0x0805
  lo := 0
  hi := 0
  targetOk := targetRegions 0x0C 0x11
  effect := reads fun c s => s.counterWords (fecRegionCtr (haRegion c.target.toNat) 0) 6

def execFecRegionCounters (c : Cmd) (s : State) : Ans := serve fecRegionCountersOp c s

/-- Parts and entries of the edge list, within their fields (Table 6-6). -/
def fecParts (oh : Nat) : Nat := Config.fecParts oh % 255 + 1
def fecEntries (oh part : Nat) : Nat := Config.fecEntries oh part % 2040 + 1

/-- P, the rows per position of an overhead (Table 6-2). -/
def fecRows (oh : Nat) : Nat := if oh = 0 then 131 else if oh = 1 then 174 else 214

/-- One edge entry of FEC_CODE_READ (Table 6-6); the list itself is not in the spec (notes/assumptions/13). -/
def fecEdgeWord (oh part e : Nat) : Word :=
  let f := Config.fecEdge oh part e
  mkw [(31, 30, f 0 % 3), (28, 28, f 1), (27, 20, f 2 % fecRows oh), (17, 16, f 3), (9, 0, f 4 % 1008)]

/-- FEC_CODE_READ (R185). -/
def fecCodeReadOp : OpDef where
  code := 0x0806
  queue := some 2
  lo := 1
  hi := 1
  targetOk := targetRegions 0x0C 0x11
  check := fun c _ => firstRej [resv c 0 31 10, param ((c.p 0).fld 9 8 != 3) 0,
    param (decide ((c.p 0).fld 7 0 < fecParts ((c.p 0).fld 9 8))) 0]
  effect := reads fun c _ =>
    let oh := (c.p 0).fld 9 8; let part := (c.p 0).fld 7 0
    mkw [(31, 24, fecParts oh), (23, 16, part), (10, 0, fecEntries oh part)] ::
      (List.range (fecEntries oh part)).map (fecEdgeWord oh part)

def execFecCodeRead (c : Cmd) (s : State) : Ans := serve fecCodeReadOp c s

/-- FEC_INJECT (R186). -/
def fecInjectOp : OpDef where
  code := 0x0807
  lo := 1
  hi := 1
  targetOk := targetLine
  check := fun c s => firstRej [param (decide ((c.p 0).fld 31 30 ≤ 1)) 0, resv c 0 29 0, stateErr (s.tracking c.port) 7,
    busy (s.fecp c.port).inject.isNone 8]
  effect := sets fun c s => s.setFecp c.port { s.fecp c.port with inject := some ((c.p 0).fld 31 30) }

def execFecInject (c : Cmd) (s : State) : Ans := serve fecInjectOp c s

/-! ### Dealing (R168, R176, R179) -/

/-- A held span is ready to be dealt (R168). -/
def State.makeReady (p : Port) (span : Nat) (noGuard : Bool) (s : State) : State :=
  if s.fec.held.any (fun h => h.port == p && h.span == span && h.ready.isNone) then
    let ready (h : HeldSpan) : HeldSpan :=
      if h.port = p ∧ h.span = span ∧ h.ready = none then { h with ready := some s.time, noGuard := noGuard } else h
    (s.withFec { s.fec with held := s.fec.held.map ready }).tagEnter p 0 span 2
  else s

/-- DEAL_TIMEOUT: 100 ns passed since a span's own last LLR; it is ready with its forward guard taken as zero (R168). -/
def execDealTimeout (p : Port) (span : Nat) (s : State) : Ans := happen s.live s (s.makeReady p span true)

/-- The next span to deal: a moved decode first, else the one ready longest, and of two ready at one instant the one of
the port whose turn it is (R176). -/
def State.nextToDeal (s : State) : Option HeldSpan :=
  let rs := s.fec.held.filter fun h => h.ready.isSome
  match rs.find? (fun h => h.moved.isSome) with
  | some h => some h
  | none =>
    match rs with
    | [] => none
    | x :: _ =>
      let t := rs.foldl (fun m h => min m (h.ready.getD 0)) (x.ready.getD 0)
      let first := rs.filter fun h => h.ready == some t
      (first.find? fun h => h.port == s.fec.turn).orElse fun _ => first.head?

/-- Free slots of a region (R176). -/
def State.freeSlots (s : State) (r : Nat) : Nat := 8 * (s.servingBlocks r).length - s.regionBusy r

/-- The best of a list under a measure, the first among equals. -/
def bestBy (f : Nat → Nat) : List Nat → Option Nat
  | [] => none
  | x :: r => match bestBy f r with
    | none => some x
    | some y => if f x < f y then some y else some x

/-- Working regions with a free slot, least recently dealt first. -/
def State.dealOrder (s : State) : List Nat :=
  s.fec.dealt.filter fun r => (s.region r).poolRole == 0 && decide (0 < s.freeSlots r)

/-- The region a span goes to: the most free slots, among equals the least recently dealt (R176); a moved span goes to
another region where one has a free slot (R181). -/
def State.dealRegion (s : State) (from_ : Option (Nat × Nat)) : Option Nat :=
  (bestBy s.freeSlots (s.dealOrder.filter fun r => (from_.map (·.1)) != some r)).orElse fun _ => bestBy s.freeSlots s.dealOrder

/-- The block: the most free slots, among equals the lowest number (R176); a moved span goes to another block (R181). -/
def State.dealBlock (s : State) (from_ : Option (Nat × Nat)) (r : Nat) : Option Nat :=
  bestBy (fun b => 8 - s.blockBusy r b)
    ((s.servingBlocks r).filter fun b => decide (s.blockBusy r b < 8) && from_ != some (r, b))

/-- In 400ZR mode the port's region, newly chosen where it no longer works (R179). -/
def State.zrRegion (p : Port) (from_ : Option (Nat × Nat)) (s : State) : Option Nat × State :=
  let f := s.fecp p
  match f.zrRegion with
  | some r =>
    if (s.region r).poolRole = 0 then (some r, s)
    else match s.dealRegion from_ with
      | some r' => (some r', s.setFecp p { f with zrRegion := some r', zrBad := 2 })
      | none => (none, s)
  | none =>
    match s.dealRegion from_ with
    | some r' => (some r', s.setFecp p { f with zrRegion := some r' })
    | none => (none, s)

/-- Start the decode of a held span in a block (R167, R184, R186). -/
def State.startDecode (h : HeldSpan) (r b : Nat) (s : State) : State :=
  let f := s.fecp h.port
  let d : Decode := ⟨h.port, h.span, r, b, f.early, f.maxIter, 0, false, false, h.erased, f.inject, h.faults, h.faultBlocks, s.time⟩
  let s1 := (s.setFecp h.port { f with inject := none }).withFec { (s.setFecp h.port { f with inject := none }).fec with
    held := s.fec.held.filter fun g => !(g.port == h.port && g.span == h.span),
    running := s.fec.running ++ [d],
    dealt := (s.fec.dealt.filter (· != r)) ++ [r],
    turn := if h.port = 0 then 1 else 0 }
  let s2 := ((s1.bump (fecRegionCtr r 0) 1).tagExit h.port 0 h.span 2).tagEnter h.port 0 h.span 3
  if h.again then s2.bump (rwCtr h.port 7) 1 else s2

/-- SPAN_DEAL: the chip arbiter deals the next span that is ready to a slot (R173, R176). -/
def execSpanDeal (s : State) : Ans :=
  .next <|
    if !s.live then s
    else match s.nextToDeal with
      | none => s
      | some h =>
        let rs := if (s.rxp h.port).mod = 4 then s.zrRegion h.port h.moved else (s.dealRegion h.moved, s)
        match rs.1 with
        | none => s
        | some r =>
          match rs.2.dealBlock h.moved r with
          | none => s
          | some b => rs.2.startDecode h r b

/-! ### Decodes (R169, R170, R181, R182) -/

def State.findDecode (s : State) (p : Port) (span : Nat) : Option Decode :=
  s.fec.running.find? fun d => d.port == p && d.span == span

def State.setDecode (d : Decode) (s : State) : State :=
  s.withFec { s.fec with running := s.fec.running.map fun e => if e.port = d.port ∧ e.span = d.span then d else e }

def State.dropDecode (p : Port) (span : Nat) (s : State) : State :=
  s.withFec { s.fec with running := s.fec.running.filter fun e => !(e.port == p && e.span == span) }

/-- Add to a port's figures of the present second. -/
def State.fecAcc (p : Port) (k n : Nat) (s : State) : State :=
  let f := s.fecp p
  s.setFecp p { f with acc := f.acc.set k (f.acc.getD k 0 + n) }

/-- A slot is freed: its occupancy is counted in whole microseconds (R188). -/
def State.freeSlot (d : Decode) (s : State) : State :=
  let o := Tab.get 0 s.fec.occupied d.region + (s.time - d.start)
  (s.withFec { s.fec with occupied := Tab.set 0 s.fec.occupied d.region (o % micro) }).bump (fecRegionCtr d.region 5) (o / micro)

/-- Coded bits of one span: 16 positions of 1,008 × m bits (Table 6-1). -/
def codedBits (mod : Nat) : Nat := 16 * 1008 * (mod + 1)

/-- A decode completes: counters, figures of the second, the port's record of the span, candidate codes (R170, R187, R188,
R209). -/
def State.completeDecode (d : Decode) (passed : Bool) (corrected bits : Nat) (s : State) : State :=
  let s1 := ((s.dropDecode d.port d.span).freeSlot d).bump (fecCtr d.port 0) 1
  let s2 := if passed then ((s1.bump (fecCtr d.port 1) 1).bump (fecCtr d.port 3) bits).bump (fecCtr d.port 4) corrected
    else s1.bump (fecCtr d.port 2) 1
  let s3 := (((s2.bump (fecRegionCtr d.region 1) 1).slot d.region 0 1).fecAcc d.port 2 d.iter).fecAcc d.port 3 1
  let f := s3.fecp d.port
  let s4 := s3.setFecp d.port { f with acc := f.acc.set 4 (max (f.acc.getD 4 0) d.iter), zrBad := f.zrBad - 1 }
  let s5 := if passed then (s4.fecAcc d.port 0 bits).fecAcc d.port 1 corrected else s4.fecAcc d.port 5 1
  let w := s5.rwp d.port
  (((s5.setRw d.port (w.updSpan d.span fun r => { r with decided := some passed })).tagExit d.port 0 d.span 3).tagEnter
    d.port 0 d.span 4).noteDecode d.port passed

/-- Given up after four faults: the final decisions are the signs of the LLRs (R182). -/
def State.giveUp (d : Decode) (s : State) : State :=
  ((s.completeDecode d false 0 0).raise 0x0803 3 (portHa d.port) (d.span % 2 ^ 20)).noteErasure

/-- Deal a span again from its held LLRs, ahead of all others (R176, R181). -/
def State.moveDecode (d : Decode) (s : State) : State :=
  let h : HeldSpan := { port := d.port, span := d.span, ready := some s.time, erased := d.erased, moved := some (d.region, d.block), faults := d.faults,
                        faultBlocks := d.faultBlocks }
  let s1 := (s.dropDecode d.port d.span).freeSlot d
  (s1.withFec { s1.fec with held := h :: s1.fec.held }).bump (fecCtr d.port 9) 1

/-- A pool fault on a decode is counted; injected ones count toward no escalation (R181, R182, R186). -/
def State.decodeFault (d : Decode) (injected : Bool) (s : State) : Decode × State :=
  let s1 := (s.bump (fecRegionCtr d.region 3) 1).fecAcc d.port 6 1
  if injected then (d, s1)
  else
    let n := Tab.get 0 d.faultBlocks d.block + 1
    let d1 := { d with faults := d.faults + 1, faultBlocks := Tab.set 0 d.faultBlocks d.block n }
    let s2 := if n = 2 then (s1.blockSuspect d.region d.block 2).afterFault else s1
    (d1, s2)

/-- An uncorrectable message word ends the decode; it is dealt again, or given up at the fourth fault (R181, R182). -/
def State.messageWord (d : Decode) (injected : Bool) (s : State) : State :=
  let (d1, s1) := s.decodeFault { d with inject := none } injected
  if 4 ≤ d1.faults then s1.giveUp d1 else s1.moveDecode d1

/-- DECODE_ITERATION_END: an iteration of a span's decode ends: redone on a fault, else checked for convergence; the
provisional decisions go to the port after iteration 2 or at convergence (R169, R170, R181). -/
def execDecodeIterationEnd (p : Port) (span : Nat) (fault converged : Bool) (s : State) : Ans :=
  match s.findDecode p span with
  | none => .next s
  | some d =>
    happen s.live s
      (if d.inject = some 1 then s.messageWord d true
       else if fault || d.inject == some 0 then
        let (d1, s1) := s.decodeFault { d with inject := if fault then d.inject else none } (!fault)
        let s2 := (s1.bump (fecCtr p 8) 1).bump (fecRegionCtr d.region 4) 1
        if 4 ≤ d1.faults then s2.giveUp d1
        else if Tab.get 0 d1.faultBlocks d1.block = 2 ∧ d1.faults ≠ d.faults then s2.moveDecode d1
        else s2.setDecode d1
       else
        let give := !d.provisional && (converged || d.iter + 1 == 2)
        let s1 := (s.setDecode { d with iter := d.iter + 1, converged := converged, provisional := d.provisional || give }).bump
          (fecCtr p 5) 1
        if give then s1.bump (fecCtr p 6) 1 else s1)

/-- The decode of a span may end: converged under EARLY_STOP, or after MAX_ITER iterations (R169); in 400ZR mode those
settings are not used (R166). -/
def Decode.mayEnd (d : Decode) (zr : Bool) : Bool := zr || (d.converged && d.early) || decide (d.maxIter ≤ d.iter)

/-- DECODE_END: a decode returns its final decisions; `corrected` bits differ from their LLR signs. In 400ZR mode
`zrBits` and `zrOk` are the coded bits and the outcome of the outer decode (R170, R187). -/
def execDecodeEnd (p : Port) (span corrected zrBits : Nat) (zrOk : Bool) (s : State) : Ans :=
  match s.findDecode p span with
  | none => .next s
  | some d =>
    let zr := (s.rxp p).mod == 4
    let passed := if zr then zrOk && (s.fecp p).zrBad == 0 else d.converged
    let bits := if zr then zrBits else codedBits (s.rxp p).mod
    happen (s.live && d.mayEnd zr && d.inject.isNone) s (s.completeDecode d passed (min corrected bits) bits)

/-- MESSAGE_WORD_UNCORRECTABLE: a message-memory word of a decode cannot be corrected (R181, R182). -/
def execMessageWordUncorrectable (p : Port) (span : Nat) (s : State) : Ans :=
  match s.findDecode p span with
  | none => .next s
  | some d => happen s.live s (s.messageWord d (d.inject == some 1))

/-- The figures of a port are latched at the one-second tick; FEC_UNCORRECTED when any decode was uncorrected (R187,
R189). -/
def State.latchFec (p : Port) (s : State) : State :=
  let f := s.fecp p
  let g (k : Nat) := f.acc.getD k 0
  let mean := if g 3 = 0 then 0 else g 2 * 256 / g 3
  let s1 := s.setFecp p { f with acc := [0, 0, 0, 0, 0, 0, 0], sec := [g 0, g 1, mean, g 4, g 5, g 6] }
  if g 5 = 0 then s1 else s1.raise 0x0801 2 (portHa p) (sat 0xFFFF (g 5))

end Sys2Proof.Machine
end

