-- ==== Sys2Proof/Machine/Stripe.lean ====
section
/-!
DEFINITION. The operations of the Storehouse that its requesters share: cells, stripes, epochs, stacks, bays,
partitions, stripe reads and writes (spec/09).
-/

set_option Elab.async false

namespace Sys2Proof.Machine

/-- The STORE region, the unit address of its events (R293). -/
def storeHa : Nat := regionHa 0x04

/-- Counter `j` of STORE_COUNTERS, from 0 in the order of R292. -/
def storeCtr (j : Nat) : Nat := ctr 4 0 12 0 j

/-- Stripes of the Storehouse, stripes of a bay, bays (R262, R274). -/
def stripes : Nat := 33554432
def bayStripes : Nat := 4096
def bayCount : Nat := 8192

def State.updStack (k : Nat) (f : Stack → Stack) (s : State) : State :=
  s.withStore { s.store with dram := Tab.upd {} s.store.dram k f }

def State.part (s : State) (kind : Nat) : Option Part := Tab.get none s.store.parts kind

def State.setPart (kind : Nat) (p : Part) (s : State) : State :=
  s.withStore { s.store with parts := Tab.set none s.store.parts kind (some p) }

def State.bay (s : State) (b : Nat) : Bay := Tab.get {} s.store.bays b

/-! ### Memory: payload bytes in canonical form -/

/-- A byte of the Storehouse; what nothing has written reads 0 (R267). -/
def Memory.read (m : List Host.Cell) (a : Nat) : Byte := Tab.get 0 m a

/-- Write one byte. -/
def Memory.write (m : List Host.Cell) (a : Nat) (b : Byte) : List Host.Cell := Tab.set 0 m a b

/-- Write bytes from an address on. -/
def Memory.writeAll : List Host.Cell → Nat → List Byte → List Host.Cell
  | m, _, [] => m
  | m, a, b :: r => Memory.writeAll (Memory.write m a b) (a + 1) r

/-- Addresses rise strictly and no entry is 0. -/
def Memory.wf (m : List Host.Cell) : Bool := Tab.wf 0 m

/-- Where the cell of stripe `n` on stack `k` begins. -/
def cellAddr (n k : Nat) : Nat := n * 1024 + k * 256

/-- The payload of a cell. -/
def Store.cell (st : Store) (n k : Nat) : List Byte := (List.range 256).map fun b => Memory.read st.mem (cellAddr n k + b)

/-- The stacks of the data cells of a stripe, rising: the parity cell lies in stack n mod 4 (R262). -/
def dataStacks (n : Nat) : List Nat := (List.range 4).filter fun k => k != n % 4

/-- Bytewise XOR. -/
def xorBytes (a b : List Byte) : List Byte := List.zipWith (· ^^^ ·) a b

/-- A cell as the XOR of the other three (R262, R265). -/
def Store.rebuilt (st : Store) (n k : Nat) : List Byte :=
  ((List.range 4).filter (· != k)).foldl (fun x j => xorBytes x (st.cell n j)) (List.replicate 256 0)

/-- A stripe's data: 768 bytes, cut or filled with zeros. -/
def fixData (bs : List Byte) : List Byte := (bs ++ List.replicate 768 0).take 768

/-- The payload that stack `k` holds of a stripe with some data (R262). -/
def stripeCell (n k : Nat) (data : List Byte) : List Byte :=
  let d (i : Nat) : List Byte := ((fixData data).drop (256 * i)).take 256
  match (dataStacks n).findIdx? (· == k) with
  | some i => d i
  | none => xorBytes (xorBytes (d 0) (d 1)) (d 2)

def Store.epoch (st : Store) (n k : Nat) : Nat := Tab.get 0 st.epochs (4 * n + k)

/-- Write one cell, payload and epoch. -/
def Store.setCell (n k epoch : Nat) (bs : List Byte) (st : Store) : Store :=
  { st with mem := Memory.writeAll st.mem (cellAddr n k) bs, epochs := Tab.set 0 st.epochs (4 * n + k) epoch }

/-- The epoch of three of the cells of a stripe, taken from the first that two others share. -/
def commonEpoch (es : List Nat) : Option Nat := es.find? fun e => decide (3 ≤ (es.filter (· == e)).length)

/-- A cell of a stripe is made anew from the other three, with their epoch (R271, R273). -/
def Store.remake (k n : Nat) (st : Store) : Store :=
  st.setCell n k (st.epoch n (if k = 0 then 1 else 0)) (st.rebuilt n k)

/-- Stripes of which some cell was written. -/
def Store.touched (st : Store) : List Nat := ((st.epochs.map fun (e : Nat × Nat) => e.1 / 4) ++ (st.mem.map fun (e : Host.Cell) => e.1 / 1024)).eraseDups

/-! ### Stacks (R269 to R273) -/

def StackSt.code : StackSt → Nat
  | .working => 0
  | .lost => 1
  | .restoring => 2
  | .retraining => 3

/-- A stack changes state; STORE_STACK is raised (Table 9-13). -/
def State.moveStack (k : Nat) (new : StackSt) (cause : Nat) (s : State) : State :=
  let old := (s.stack k).st
  if old = new then s
  else
    let s1 := s.updStack k fun x => { x with st := new, log := [] }
    let sev := if s1.protection = 2 ∧ s.protection ≠ 2 then 4 else if old = .working then 3 else 1
    (s1.raise 0x0401 sev storeHa (new.code * 2 ^ 28 + old.code * 2 ^ 24 + cause * 2 ^ 20 + s1.protection * 2 ^ 4 + k)).refreshHealth

/-- A restore ends (R273): the stack is WORKING or LOST, the job ends. How far an unfinished rebuild came is not stated. -/
def State.endRestore (status : Nat) (s : State) : State :=
  match s.store.restore with
  | none => s
  | some r =>
    let done := if status = 0 then stripes else if r.phase = 2 then s.take.1 % (stripes + 1) else 0
    let s1 := if status ≠ 0 ∧ r.phase = 2 then s.take.2 else s
    let s2 := (s1.withStore { s1.store with restore := none }).bump (storeCtr 11) done
    let s3 := s2.moveStack r.stack (if status = 0 then .working else .lost) (if status = 0 then 4 else 5)
    s3.endJob r.job status [w32 (sat 0xFFFFFFFF r.failures), w32 done]

/-- A stack is lost (R270); the loss ends a restore of another stack with FAULT (R273). -/
def State.loseStack (k cause : Nat) (s : State) : State :=
  let s1 := (s.bump (storeCtr 10) 1).moveStack k .lost cause
  match s.store.restore with
  | some r => if r.stack = k then s1 else s1.endRestore stFault
  | none => s1

/-- A stack whose cells are not read (R265, R273): LOST, RETRAINING, or not yet in the rebuild of its restore. -/
def State.away (s : State) (k : Nat) : Bool :=
  match (s.stack k).st with
  | .working => false
  | .lost | .retraining => true
  | .restoring => match s.store.restore with | some r => r.phase != 2 | none => true

/-! ### Whole-stripe writes (R264, R271, R272) -/

/-- Note stripe accesses granted (Table 9-11): those of the past 1 ms are kept. -/
def State.granted (n : Nat) (s : State) : State :=
  s.withStore { s.store with demand := (s.time, n) :: s.store.demand.filter fun e => decide (s.time < e.1 + milli) }

/-- A stripe written while a stack is RETRAINING goes into its log; beyond 262,144 the stack is lost (R270, R271). -/
def State.logStripe (n : Nat) (s : State) : State :=
  (List.range 4).foldl (fun s k =>
    if (s.stack k).st = .retraining ∧ (s.stack k).log.contains n = false then
      let s1 := s.updStack k fun x => { x with log := x.log ++ [n] }
      if 262144 < (s1.stack k).log.length then s1.loseStack k 6 else s1
    else s) s

/-- Commit a whole stripe: every cell on a stack that takes writes; with two stacks away the write is discarded. -/
def State.writeStripe (n epoch : Nat) (data : List Byte) (s : State) : State :=
  if s.protection = 2 then s
  else
    let takes (k : Nat) : Bool := (s.stack k).st == .working || (s.stack k).st == .restoring
    let st := ((List.range 4).filter takes).foldl (fun st k => st.setCell n k epoch (stripeCell n k data)) s.store
    (s.withStore { st with writeBacks := st.writeBacks.filter fun e => e.1 != n }).logStripe n

/-! ### Stripe reads (R265, R266, R268, R291) -/

/-- How a stripe read is judged: its mark, its data, the data cells that a merge takes as zeros (R264). -/
structure Judged where
  mark : Nat
  data : List Byte
  zeroed : List Nat
  deriving DecidableEq, Repr

/-- STORE_UNCORRECTABLE, at most 16 a second (Table 9-13). -/
def State.uncorrectable (kind n : Nat) (s : State) : State :=
  (s.bump (storeCtr 5) 1).raiseAtMost 16 0x040200 0x0402 3 storeHa (kind * 2 ^ 28 + n)

/-- A cell is rebuilt because its CRC failed: the repeat list and the write-back (R266). -/
def State.noteRebuild (k n : Nat) (s : State) : State :=
  let again := (s.stack k).rebuilt.contains n
  let s1 := s.updStack k fun x => { x with rebuilt := (n :: x.rebuilt).take 1024 }
  let s2 := s1.withStore { s1.store with writeBacks := s1.store.writeBacks ++ [(n, k)] }
  if again then (s2.bump (storeCtr 4) 1).raiseAtMost 1 (0x040400 + k) 0x0404 2 storeHa (k * 2 ^ 27 + n) else s2

/-- Judge a read of stripe `n`, whose bay has epoch `epoch`, for partition kind `kind`; `bad` names stacks whose cell fails
its CRC (R265, Table 9-2). -/
def State.judgeStripe (kind n epoch : Nat) (bad : List Nat) (s : State) : Judged × State :=
  let struck := match s.store.inject with
    | some (ik, part, k) => if part = kind then (if ik = 0 then [k] else [k, (k + 1) % 4]) else []
    | none => []
  let s1 := if struck.isEmpty then s else s.withStore { s.store with inject := none }
  let fetched := (List.range 4).filter fun k => !s1.away k
  let real := fetched.filter fun k => bad.contains k && !struck.contains k
  let good := fetched.filter fun k => !bad.contains k && !struck.contains k
  let s2 := real.foldl (fun s k => s.updStack k fun x =>
    { x with failed := (s.time, n) :: x.failed.filter fun e => decide (s.time < e.1 + milli) }) s1
  let common := commonEpoch (good.map (s.store.epoch n))
  let odd := match common with | some e => good.filter fun k => s.store.epoch n k != e | none => []
  let wrong := (List.range 4).filter fun k => !good.contains k || odd.contains k
  let s3 := s2.bump (storeCtr 9) odd.length
  if common.isNone || decide (2 ≤ wrong.length) then
    let keep (k : Nat) : Bool := good.contains k && s.store.epoch n k == epoch
    (⟨2, (dataStacks n).flatMap fun k => if keep k then s.store.cell n k else List.replicate 256 0,
      (List.range 3).filter fun i => !keep ((dataStacks n).getD i 0)⟩, s3.uncorrectable kind n)
  else
    let s4 := match wrong with
      | [] => s3
      | k :: _ =>
        if s.away k && k == n % 4 then s3
        else
          let s' := s3.bump (storeCtr 3) 1
          if real.contains k then s'.noteRebuild k n else s'
    if common = some epoch then
      (⟨0, (dataStacks n).flatMap fun k => if wrong.contains k then s.store.rebuilt n k else s.store.cell n k, []⟩, s4)
    else (⟨1, List.replicate 768 0, []⟩, s4.bump (storeCtr 6) 1)

/-- A stripe belongs to a bay of a partition kind. -/
def State.ofKind (s : State) (kind n : Nat) : Bool := (s.bay (n / bayStripes)).kind == kind

/-- A read for a requester: counted, judged, delivered (R265, R276). -/
def State.readStripe (kind n : Nat) (bad : List Nat) (s : State) : Judged × State :=
  match s.part kind with
  | none =>
    let j : Judged := ⟨1, List.replicate 768 0, []⟩
    (j, ((s.bump (storeCtr 0) 1).bump (storeCtr 6) 1).withStore { s.store with delivered := some ⟨kind, n, 1, j.data⟩ })
  | some _ =>
    let r := ((s.bump (storeCtr 0) 1).granted 1).judgeStripe kind n (s.bay (n / bayStripes)).epoch bad
    (r.1, r.2.withStore { r.2.store with delivered := some ⟨kind, n, r.1.mark, if r.1.mark = 2 then [] else r.1.data⟩ })

/-- A read-merge-write (R264): `f` merges the new data into the data read, zeros where the read was never-written. -/
def State.mergeStripe (kind n : Nat) (bad : List Nat) (f : List Byte → List Byte) (s : State) : Judged × State :=
  match s.part kind with
  | none => (⟨1, List.replicate 768 0, []⟩, (s.bump (storeCtr 6) 1).bump (storeCtr 8) 1)
  | some _ =>
    let e := (s.bay (n / bayStripes)).epoch
    let r := ((s.bump (storeCtr 2) 1).granted 2).judgeStripe kind n e bad
    (r.1, r.2.writeStripe n e (f r.1.data))

/-! ### Bays and partitions (R274 to R278) -/

/-- Kinds of a fixed size (Table 9-4). -/
def fixedBays (kind : Nat) : Option Nat := if kind = 3 then some 86 else if kind = 4 then some 22 else none

/-- The bays of a partition, rising. -/
def State.baysOf (s : State) (kind : Nat) : List Nat := (s.store.bays.filter fun e => e.2.kind == kind).map (·.1)

/-- Bays of a partition that take new stripes. -/
def State.usable (s : State) (kind : Nat) : List Nat :=
  (s.store.bays.filter fun e => e.2.kind == kind && !e.2.draining).map (·.1)

def State.freeBays (s : State) : Nat := bayCount - (s.store.bays.filter fun e => e.2.kind != 0).length

/-- The first number from `n` on that a rising list lacks. -/
def firstGap : Nat → List Nat → Nat
  | n, [] => n
  | n, x :: r => if x = n then firstGap (n + 1) r else n

/-- The lowest free stripe of a bay. -/
def freeIn (live : List Nat) (b : Nat) : Option Nat :=
  let g := firstGap (bayStripes * b) (live.filter fun n => n / bayStripes == b)
  if g < bayStripes * (b + 1) then some g else none

/-- The stripe that a write allocates: the lowest free one outside draining bays (R274, R278). -/
def State.allocate (s : State) (kind : Nat) : Option Nat :=
  match s.part kind with
  | none => none
  | some p => (s.usable kind).findSome? (freeIn p.live)

/-- Free stripes of a partition. -/
def State.freeStripes (s : State) (kind : Nat) : Nat :=
  match s.part kind with
  | none => 0
  | some p =>
    let u := s.usable kind
    bayStripes * u.length - (p.live.filter fun n => u.contains (n / bayStripes)).length

/-- Insert into a rising list. -/
def insertNat (n : Nat) : List Nat → List Nat
  | [] => [n]
  | x :: r => if n < x then n :: x :: r else if n = x then x :: r else x :: insertNat n r

/-- STORE_FULL follows the partition (R277, Table 9-13). -/
def State.refreshFull (kind : Nat) (s : State) : State :=
  match s.part kind with
  | none => s
  | some p =>
    if (fixedBays kind).isSome then s
    else
      let free := s.freeStripes kind
      let say (b : Bool) : State :=
        (s.setPart kind { p with saidFull := b }).raiseAtMost 1 (0x040300 + kind) 0x0403 2 storeHa (b2n b * 2 ^ 31 + kind * 2 ^ 24)
      if free = 0 ∧ p.saidFull = false then say true
      else if p.saidFull = true ∧ bayStripes * (s.usable kind).length ≤ 64 * free ∧ free ≠ 0 then say false
      else s

/-- A whole stripe is committed into a newly allocated stripe. -/
def State.commitStripe (kind n : Nat) (data : List Byte) (s : State) : State :=
  match s.part kind with
  | none => s
  | some p =>
    let live := insertNat n p.live
    let s1 := s.setPart kind { p with live := live, highWater := max p.highWater live.length }
    ((s1.bump (storeCtr 1) 1).granted 1).writeStripe n (s.bay (n / bayStripes)).epoch data

/-- A frame of SKEW is discarded: its tick is not delivered on its port (R277). -/
def State.dropSkew (port tick : Nat) (s : State) : State :=
  let p : Port := if port = 1 then 1 else 0
  if (s.lp p).frames.any (fun f => f.tick == tick) then
    s.updLp p fun l => { l with frames := l.frames.filter fun f => f.tick != tick }
  else if s.store.lostFrames.contains (port, tick) then s
  else s.withStore { s.store with lostFrames := s.store.lostFrames ++ [(port, tick)] }

/-- What becomes of a unit's stripe at a write. -/
inductive Written where
  | stripe (n : Nat)
  | held
  | dropped
  deriving DecidableEq, Repr

/-- A stripe of a unit reaches the write to SKEW or QUEUE (R276, R277). -/
def State.unitIn (kind : Nat) (u : HeldUnit) (s : State) : Written × State :=
  match s.part kind with
  | none => (.dropped, s.bump (storeCtr 8) 1)
  | some p =>
    if !p.held.isEmpty then (.held, s.setPart kind { p with held := p.held ++ [u] })
    else match s.allocate kind with
      | some n => (.stripe n, (s.commitStripe kind n u.data).refreshFull kind)
      | none =>
        if p.dropping && p.discard then (.dropped, s.bump (storeCtr 8) 1)
        else (.held, (s.setPart kind { p with held := [u], heldDiscard := p.discard }).bump (storeCtr 7) 1)

/-- Units that wait are written while there are free stripes; the next one is held afresh. Answers what was written. -/
def serveHeld (kind : Nat) : List HeldUnit → State → List (HeldUnit × Nat) × State
  | [], s => ([], s)
  | u :: r, s =>
    match s.allocate kind, s.part kind with
    | some n, some p =>
      let x := serveHeld kind r ((s.setPart kind { p with held := r }).commitStripe kind n u.data)
      ((u, n) :: x.1, x.2)
    | none, some p => ([], (s.setPart kind { p with held := u :: r, heldDiscard := p.discard }).bump (storeCtr 7) 1)
    | _, none => ([], s)

/-- A held writer continues where stripes are free (R277, R294). -/
def State.serveWriter (kind : Nat) (s : State) : List (HeldUnit × Nat) × State :=
  match s.part kind with
  | none => ([], s)
  | some p =>
    if (s.allocate kind).isNone then ([], s)
    else
      let x := serveHeld kind p.held (s.setPart kind { p with dropping := false })
      (x.1, x.2.refreshFull kind)

/-- A stripe is freed (R277). -/
def State.freeStripe (kind n : Nat) (s : State) : List (HeldUnit × Nat) × State :=
  match s.part kind with
  | none => ([], s)
  | some p => (s.setPart kind { p with live := p.live.filter (· != n) }).serveWriter kind

/-- The stripe and the data cell of a record of FLOW_CONTEXT or CRIER_TABLE (R275). -/
def State.recordAt (s : State) (kind i : Nat) : Nat × Nat :=
  ((s.baysOf kind).getD (i / 3 / bayStripes) 0 * bayStripes + i / 3 % bayStripes, i % 3)

/-- Put a record's 256 bytes into a stripe's data. -/
def putRecord (cell : Nat) (bs data : List Byte) : List Byte :=
  data.take (256 * cell) ++ (bs ++ List.replicate 256 0).take 256 ++ data.drop (256 * cell + 256)

end Sys2Proof.Machine
end

