-- ==== Sys2Proof/Machine/Flows.lean ====
section
/-!
DEFINITION. The operations of FLOW and CIPH: records and their cache, classification, dealing, packing, queues,
delivery (spec/10).
-/

set_option Elab.async false

namespace Sys2Proof.Machine

/-- The FLOW and the CIPH group's unit addresses (R327). -/
def flowHa : Nat := regionHa 0x06
def ciphHa : Nat := regionHa 0x07

/-- Counter `j` of FLOW_REGION_COUNTERS and of CIPH_COUNTERS, from 0 (R322, R326). -/
def flowCtr (j : Nat) : Nat := ctr 6 0 12 0 j
def ciphCtr (j : Nat) : Nat := ctr 7 0 12 0 j

/-- Counter `j` of FLOW_COUNTERS of a flow, direction 0 receive, 1 transmit; outside the counter window (spec/19 R503). -/
def oneFlowCtr (d : Way) (f j : Nat) : Nat := 2 ^ 40 + (d.val * 2 ^ 20 + f) * 4 + j

def State.fi (s : State) (i : Nat) : FlowIface := Tab.get {} s.flow.ifaces i
def State.updFi (i : Nat) (f : FlowIface → FlowIface) (s : State) : State :=
  s.withFlow { s.flow with ifaces := Tab.upd {} s.flow.ifaces i f }

def State.txFlow (s : State) (f : Nat) : Option TxFlow := Tab.get none s.flow.tx f
def State.setTxFlow (f : Nat) (v : TxFlow) (s : State) : State :=
  s.withFlow { s.flow with tx := Tab.set none s.flow.tx f (some v) }
def State.rxFlow (s : State) (f : Nat) : Option RxFlow := Tab.get none s.flow.rx f

def State.txCtx (s : State) (c : Nat) : TxCtx := Tab.get {} s.flow.txCtx c
def State.setTxCtx (c : Nat) (v : TxCtx) (s : State) : State := s.withFlow { s.flow with txCtx := Tab.set {} s.flow.txCtx c v }
def State.rxCtx (s : State) (c : Nat) : RxCtx := Tab.get {} s.flow.rxCtx c
def State.setRxCtx (c : Nat) (v : RxCtx) (s : State) : State := s.withFlow { s.flow with rxCtx := Tab.set {} s.flow.rxCtx c v }

/-- The next running number. -/
def State.nextOrder (s : State) : State := s.withFlow { s.flow with order := s.flow.order + 1 }

/-! ### Interfaces (spec/11 R340, R341, spec/12 R354) -/

def State.laneIface (s : State) (i : Nat) : Option LaneIface := Tab.get none s.lanes.ifaces i

/-- Numbers that host and client lanes assign: 0 to 127 and 240 to 255. -/
def assignable (i : Nat) : Bool := decide (i < 128) || decide (240 ≤ i ∧ i ≤ 255)

/-- Payload rate of a client lane in Mb/s (Table 11-2). -/
def clientLaneRate (rate : Nat) : Nat := if rate = 0 then 400000 else 200000

/-- Line rate of a host lane in kb/s (Table 12-1). -/
def hostLaneKbps (rate : Nat) : Nat :=
  if rate = 0 then 10312500 else if rate = 1 then 25781250 else if rate = 2 then 26562500 else if rate = 3 then 53125000
  else if rate = 4 then 106250000 else 212500000

/-- The MAC rate in Gb/s of a signal over some lanes at a RATE; none where the pair forms no row of Table 12-2. -/
def signalRate (width rate : Nat) : Option Nat :=
  match rate, width with
  | 0, 1 => some 10
  | 1, 1 => some 25
  | 1, 4 => some 100
  | 2, 2 => some 50
  | 2, 4 => some 100
  | 3, 1 => some 50
  | 3, 2 => some 100
  | 3, 4 => some 200
  | 3, 8 => some 400
  | 3, 16 => some 800
  | 4, 1 => some 100
  | 4, 2 => some 200
  | 4, 4 => some 400
  | 4, 8 => some 800
  | 4, 16 => some 1600
  | 5, 1 => some 200
  | 5, 2 => some 400
  | 5, 4 => some 800
  | 5, 8 => some 1600
  | _, _ => none

/-- The rate of an interface in kb/s, as it counts toward the client aggregate and in R311: a client interface its lanes'
payload, an Ethernet interface its MAC rate, a CBR interface its lane rate. -/
def State.ifaceKbps (s : State) (i : Nat) : Nat :=
  match s.laneIface i with
  | none => 0
  | some x =>
    if 240 ≤ i then x.width * clientLaneRate (s.lanes.groups.get (if i < 248 then 0 else 1)).rate * 1000
    else if x.mode = 3 then hostLaneKbps x.rate
    else ((signalRate x.width x.rate).getD 0) * 1000000

/-- A frame interface is terminated at frames, another carries a stream (R296, R341, R354). -/
def State.streams (s : State) (i : Nat) : Bool :=
  match s.laneIface i with
  | none => false
  | some x => x.mode != 1

/-- What an egress buffer still holds, in its units: it drains at the interface's rate while the interface is up (R311). -/
def State.egressLevel (s : State) (i : Nat) : Nat :=
  let x := s.fi i
  let rate := match s.laneIface i with | some y => if y.up then s.ifaceKbps i * 1000 else 0 | none => 0
  x.level - (s.time - x.since) * rate

/-! ### Discards and their events (Table 10-12) -/

/-- FLOW_INGRESS_DISCARD: causes 1 unmatched, 2 length or FCS, 3 ingress full. -/
def State.ingressDrop (i cause : Nat) (s : State) : State :=
  (s.bump (flowCtr cause) 1).raiseLimited (0x06010000 + i) second 0x0601 2 flowHa fun n =>
    cause * 2 ^ 28 + i * 2 ^ 16 + sat 65535 n

/-- A frame is discarded at egress or as misdirected: FLOW_EGRESS_DISCARD of the thread's EGRESS. -/
def State.egressDrop (i : Option Nat) (s : State) : State :=
  let s1 := s.bump (flowCtr 10) 1
  match i with
  | none => s1
  | some i => s1.raiseLimited (0x06020000 + i) second 0x0602 2 flowHa fun n => i * 2 ^ 16 + sat 65535 n

/-! ### Queues: parcels in stripes (R306, R309) -/

/-- Counts `n` discarded frames of a transmit flow. -/
def State.txDropped (f n : Nat) (s : State) : State := s.bump (oneFlowCtr 1 f 2) n

/-- The place after a flow's last packed byte. -/
def TxFlow.end_ (x : TxFlow) : Nat :=
  match x.segs.getLast? with
  | some g => x.base + 768 * x.segs.length - (match g.st with | .open_ => 768 - g.data.length | _ => 0)
  | none => x.base

/-- The stripe of a flow's queue at a place. -/
def TxFlow.segAt (x : TxFlow) (pos : Nat) : Option Seg := x.segs[(pos - x.base) / 768]?

/-- A parcel has bytes in the stripe that begins at a place. -/
def Parcel.touches (p : Parcel) (at_ : Nat) : Bool := decide (p.pos < at_ + 768 ∧ at_ < p.pos + p.len)

/-- The first stripe of a flow that a test accepts is changed. -/
def updSeg (f : Seg → Bool) (g : Seg → Seg) : List Seg → List Seg
  | [] => []
  | x :: r => if f x then g x :: r else x :: updSeg f g r

/-- Written stripes at the head of a queue that no parcel needs any more: how many, and their numbers. -/
def spent (base : Nat) (first : Option Nat) : List Seg → Nat × List Nat
  | [] => (0, [])
  | g :: r =>
    let unused := match first with | some p => decide (base + 768 ≤ p) | none => true
    if unused then
      match g.st with
      | .written n => let x := spent (base + 768) first r; (x.1 + 1, n :: x.2)
      | .gone => let x := spent (base + 768) first r; (x.1 + 1, x.2)
      | _ => (0, [])
    else (0, [])

/-- A held stripe of a flow has been written (R277, R308). -/
def State.commitSeg (u : HeldUnit) (n : Nat) (s : State) : State :=
  match s.txFlow u.flow with
  | none => s
  | some x => s.setTxFlow u.flow { x with segs := updSeg (·.st == .issued) (fun g => { g with st := .written n, data := [] }) x.segs }

/-- Stripes of QUEUE are freed; units held behind them are written. -/
def freeQueue : List Nat → State → State
  | [], s => s
  | n :: r, s =>
    let x := s.freeStripe 2 n
    freeQueue r (x.1.foldl (fun s w => s.commitSeg w.1 w.2) x.2)

/-- Free the stripes at the head of a queue that its parcels no longer need. -/
def State.trim (f : Nat) (s : State) : State :=
  match s.txFlow f with
  | none => s
  | some x =>
    let d := spent x.base ((x.parcels.head?).map (·.pos)) x.segs
    freeQueue d.2 (s.setTxFlow f { x with base := x.base + 768 * d.1, segs := x.segs.drop d.1 })

/-- A flow leaves its thread's active list; unused credit is lost (R310). -/
def State.idle (f : Nat) (s : State) : State :=
  match s.txFlow f with
  | none => s
  | some x =>
    (s.setTxFlow f { x with deficit := 0 }).updTxThread x.thread fun t => { t with active := t.active.filter (· != f) }

/-- Every parcel of a flow is discarded and counted, its stripes freed, units of it that wait at QUEUE taken away. -/
def State.dropQueue (f : Nat) (s : State) : State :=
  match s.txFlow f with
  | none => s
  | some x =>
    let ns := x.segs.filterMap fun g => match g.st with | .written n => some n | _ => none
    let s1 := ((s.txDropped f x.parcels.length).setTxFlow f
      { x with base := x.base + 768 * x.segs.length, segs := [], parcels := [], flush := false, buf := none }).idle f
    let s2 := match s1.part 2 with
      | none => s1
      | some p => s1.setPart 2 { p with held := p.held.filter fun u => u.flow != f }
    freeQueue ns s2

/-- A unit of QUEUE is discarded (R277): the parcels with bytes in the first stripe of the flow that `which` names. -/
def State.dropSeg (f : Nat) (which : SegSt) (s : State) : State :=
  match s.txFlow f with
  | none => s
  | some x =>
    match x.segs.findIdx? (·.st == which) with
    | none => s
    | some k =>
      let hit := x.parcels.filter fun p => p.touches (x.base + 768 * k)
      let rest := x.parcels.filter fun p => !p.touches (x.base + 768 * k)
      let s1 := ((s.txDropped f hit.length).setTxFlow f
        { x with segs := updSeg (·.st == which) (fun g => { g with st := .gone, data := [] }) x.segs, parcels := rest }).trim f
      if rest.isEmpty then s1.idle f else s1

/-! ### Records (R299, R300, R309) -/

/-- A flow's record is pinned. -/
def State.pinned (s : State) (f : Nat) : Bool :=
  (match s.txFlow f with | some x => x.pin | none => false) || (match s.rxFlow f with | some x => x.pin | none => false)

/-- A flow's record is lost: the flow is undefined in both directions, its queued stripes are freed, the keys in the record
are lost (R309). -/
def State.loseRecord (f : Nat) (s : State) : State :=
  let s1 := s.dropQueue f
  s1.withFlow { s1.flow with
    tx := Tab.set none s1.flow.tx f none, rx := Tab.set none s1.flow.rx f none,
    txCtx := Tab.set {} s1.flow.txCtx f {}, rxCtx := Tab.set {} s1.flow.rxCtx f {} }

/-- The records of a FLOW_CONTEXT stripe's data cells that are not cached are lost; `own` is the record being written. -/
def State.loseZeroed (own : Nat) (zeroed : List Nat) (s : State) : State :=
  (zeroed.map (own / 3 * 3 + ·)).foldl (fun s f => if f = own ∨ s.flow.cache.contains f = true then s else s.loseRecord f) s

/-- A record is written back with one read-merge-write (R300). How a record is laid out in its 256 bytes the spec does not
say; the content stands in the flow tables. -/
def State.writeBack (f : Nat) (s : State) : State :=
  let at_ := s.recordAt 3 f
  let bs := (List.range 256).map fun b => BitVec.ofNat 8 (Config.freeValue (s.free + b))
  let r := (s.withFree (s.free + 256)).mergeStripe 3 at_.1 [] (putRecord at_.2 bs)
  let s1 := if (s.part 3).isNone then r.2.loseRecord f else r.2
  s1.loseZeroed f r.1.zeroed

/-- A record is used: it is the most recent in the cache; beyond 65,536 the least recently used one that is not pinned is
evicted (R300). -/
def State.useRecord (f : Nat) (s : State) : State :=
  let s1 := s.withFlow { s.flow with cache := f :: s.flow.cache.filter (· != f) }
  if s1.flow.cache.length ≤ 65536 then s1
  else match (s1.flow.cache.filter fun g => !s1.pinned g).getLast? with
    | none => s1
    | some g => (s1.withFlow { s1.flow with cache := s1.flow.cache.filter (· != g) }).writeBack g

def State.cached (s : State) (f : Nat) : Bool := s.flow.cache.contains f

/-! ### Parcels (R302, R312) -/

/-- One bit of the CRC-16 of Table 10-3. -/
def crc16Bit (c : Nat) : Nat := if 2 ^ 15 ≤ c then (2 * c % 2 ^ 16) ^^^ 0x1021 else 2 * c
def crc16Byte (c : Nat) (b : Byte) : Nat :=
  crc16Bit (crc16Bit (crc16Bit (crc16Bit (crc16Bit (crc16Bit (crc16Bit (crc16Bit (c ^^^ (b.toNat * 256)))))))))
def crc16 (bs : List Byte) : Nat := bs.foldl crc16Byte 0xFFFF

/-- `n` bytes of a number, most significant first. -/
def beBytes (n v : Nat) : List Byte := (leBytes n v).reverse

/-- A parcel header in the order it is sent, from bit 63 (Table 10-3). -/
def parcelHeader (len flow : Nat) (c : Bool) (keyId : Nat) : List Byte :=
  let top := beBytes 6 ((len * 2 ^ 50 + flow * 2 ^ 30 + b2n c * 2 ^ 29 + keyId * 2 ^ 21) / 2 ^ 16)
  top ++ beBytes 2 (crc16 top)

/-- An idle header. -/
def idleHeader : List Byte := parcelHeader 0 0 false 0

/-- The initialisation vector (R312). -/
def gcmIv (salt : Word) (counter : Nat) : List Byte := salt.bytes ++ beBytes 8 counter

/-- The additional data of a segment (R312). -/
def segmentAad (flow tick : Nat) : List Byte := beBytes 4 flow ++ [0, 0] ++ beBytes 2 tick

/-- The counter, ciphertext and tag of a message. -/
def sealed (k : TxKey) (aad bytes : List Byte) : List Byte :=
  beBytes 8 k.counter ++ fixBytesN (bytes.length + 16) (Config.gcmSeal k.key (gcmIv k.salt k.counter) aad bytes)
where
  fixBytesN (n : Nat) (bs : List Byte) : List Byte := (bs ++ List.replicate n 0).take n

/-- The bytes of a parcel (R302). -/
def TxMsg.parcel (m : TxMsg) : List Byte :=
  match m.key with
  | none => parcelHeader m.bytes.length m.flow false 0 ++ m.bytes
  | some k => let h := parcelHeader m.bytes.length m.flow true k.id; h ++ sealed k h m.bytes

/-! ### Tails and packing (R306, R307, R310) -/

/-- Open tails of a CIPH region. -/
def State.openTails (s : State) (r : Nat) : Nat :=
  (s.flow.tx.map fun e => match e.2 with
    | some x => (x.segs.filter fun g => g.st == .open_ && g.region == r).length
    | none => 0).sum

/-- The least of some things by a measure, the first among equals. -/
def leastBy {α : Type} (f : α → Nat) : List α → Option α
  | [] => none
  | x :: r => match leastBy f r with
    | none => some x
    | some y => if f y < f x then some y else some x

/-- The region a new tail opens in: the working one with the fewest open tails; none where it has 4,096. -/
def State.tailRegion (s : State) : Option Nat :=
  match leastBy s.openTails s.ciphWorking with
  | some r => if s.openTails r < 4096 then some r else none
  | none => none

/-- Append packed bytes to a flow's stripes; a full tail is closed and the next opened in `region`. -/
def packInto (region stamp : Nat) : Nat → List Byte → List Seg → List Seg
  | 0, _, segs => segs
  | _, [], segs => segs
  | n + 1, bs, segs =>
    let old : Option Seg := match segs.getLast? with | some g => if g.st = SegSt.open_ then some g else none | none => none
    let have_ := match old with | some g => g.data | none => []
    let reg := match old with | some g => g.region | none => region
    let room := 768 - have_.length
    let data := have_ ++ bs.take room
    let front := match old with | some _ => segs.dropLast | none => segs
    let g : Seg := ⟨if data.length = 768 then .closed else .open_, data, reg, stamp⟩
    packInto region stamp n (bs.drop room) (front ++ [g])

/-- The quantum of a flow in force (R201). -/
def State.quantumNow (s : State) (x : TxFlow) : Nat :=
  match s.thread 1 x.thread with
  | none => x.quantum
  | some th =>
    let n := s.sizeNow 1 x.thread
    if n < th.size then max 64 (x.quantum * n / th.size) else x.quantum

/-- A parcel arrives in its flow's queue; an inactive flow joins its thread's active list (R310, R319). -/
def State.pack (m : TxMsg) (region : Nat) (x : TxFlow) (s : State) : State :=
  let bs := m.parcel
  let s0 := s.nextOrder
  let inactive := !((s.txThread x.thread).active.contains m.flow)
  let x1 := { x with
    segs := packInto region s0.flow.order (bs.length / 768 + 2) bs x.segs,
    parcels := x.parcels ++ [⟨x.end_, bs.length, m.bytes.length⟩],
    deficit := if inactive && x.parcels.isEmpty then s.quantumNow x else x.deficit }
  let s1 := s0.setTxFlow m.flow x1
  let s2 := if inactive then s1.updTxThread x.thread fun t => { t with active := t.active ++ [m.flow] } else s1
  ((s2.bump (flowCtr 4) 1).bump (oneFlowCtr 1 m.flow 0) 1).bump (oneFlowCtr 1 m.flow 1) m.bytes.length

/-- Pack one message that is done: none where it must wait for a tail. A message of a flow deleted since is freed. -/
def State.packOne (m : TxMsg) (s : State) : Option State :=
  match s.txFlow m.flow with
  | none => some (s.txDropped m.flow 1)
  | some x =>
    match s.tailRegion, x.segs.getLast? with
    | some r, _ => some (s.pack m r x)
    | none, some g => if g.st = .open_ then some (s.pack m g.region x) else none
    | none, none => none

/-- Messages that are done are packed, each flow's in order (R306, R317); `kept` are those that stay. -/
def packList : List TxMsg → List TxMsg → State → State
  | [], kept, s => s.withFlow { s.flow with txMsgs := kept }
  | m :: r, kept, s =>
    if m.done && !(kept.any fun k => k.flow == m.flow) then
      match s.packOne m with
      | some t => packList r kept t
      | none => packList r (kept ++ [m]) s
    else packList r (kept ++ [m]) s

def State.packDone (s : State) : State := packList s.flow.txMsgs [] s

/-! ### Dealing to the cipher pool (R317) -/

/-- Bytes outstanding in a region and direction. -/
def State.outstanding (s : State) (d : Way) (r : Nat) : Nat :=
  if d = 1 then ((s.flow.txMsgs.filter fun m => m.region == r && !m.done).map fun m => m.bytes.length).sum
  else ((s.flow.rxMsgs.filter fun m => m.state == .cipher r).map fun m => m.body.length).sum

/-- The region that the next message goes to: fewest bytes outstanding, among equals least recently dealt to. -/
def State.ciphDeal (s : State) (d : Way) : Option Nat :=
  leastBy (s.outstanding d) (s.flow.dealt.filter fun r => s.ciphWorking.contains r)

def State.dealTo (r : Nat) (s : State) : State :=
  s.withFlow { s.flow with dealt := s.flow.dealt.filter (· != r) ++ [r] }

/-! ### Classification (R297, R298, R300) -/

/-- The outer tag's VID and PCP; 0 and 0 untagged (R297). -/
def vlanOf (bs : List Byte) : Nat × Nat :=
  let b (i : Nat) : Nat := (bs.getD i 0).toNat
  let tpid := b 12 * 256 + b 13
  if tpid = 0x8100 ∨ tpid = 0x88A8 then ((b 14 * 256 + b 15) % 4096, b 14 / 32) else (0, 0)

/-- The flow of a frame; none where it is discarded as unmatched (R297). -/
def State.classify (s : State) (i : Nat) (bs : List Byte) : Option Nat :=
  let x := s.fi i
  if x.classMode = 0 then some x.defaultFlow
  else
    let v := vlanOf bs
    let f := Tab.get 0 s.flow.classes (i * 32768 + v.1 * 8 + (if x.classMode = 1 then 0 else v.2))
    if f = 0 then (if x.missDiscard then none else some x.defaultFlow) else some (f - 1)

/-- CIPH_COUNTER_EXHAUSTED, once (R312). -/
def State.exhaust (c : Nat) (s : State) : State :=
  let x := s.txCtx c
  if x.exhausted then s
  else ((s.setTxCtx c { x with exhausted := true }).bump (ciphCtr 9) 1).raise 0x0704 3 ciphHa c

/-- The key of a context's next message, and the state with its counter advanced; none without a key that can count on. -/
def State.takeKey (c : Nat) (s : State) : Option TxKey × State :=
  let x := s.txCtx c
  match x.cur with
  | none => (none, s)
  | some k => if 2 ^ 64 ≤ k.counter then (none, s.exhaust c) else (some k, s.setTxCtx c { x with cur := some { k with counter := k.counter + 1 } })

/-- A message that is done and first of its flow waits for a tail (R307). -/
def firstDone : List Nat → List TxMsg → Bool
  | _, [] => false
  | seen, m :: r => (m.done && !seen.contains m.flow) || firstDone (m.flow :: seen) r
def State.tailBlocked (s : State) : Bool := firstDone [] s.flow.txMsgs

/-- The frame at the head of an ingress buffer is classified and dealt; none where it waits for a record, for the pool or for
a tail (R298, R300, R307, R317). -/
def State.takeFrame (i : Nat) (fr : InFrame) (s : State) : Option State :=
  if !s.cached fr.flow then none
  else match s.txFlow fr.flow with
    | none => some ((s.useRecord fr.flow).ingressDrop i 1)
    | some x =>
      if x.ciph && !s.cached x.ctx then none
      else if s.tailBlocked then none
      else
        let s1 := (s.useRecord fr.flow).bump (flowCtr 0) 1
        if !x.ciph then
          some ((s1.withFlow { s1.flow with txMsgs := s1.flow.txMsgs ++ [⟨0, fr.flow, none, fr.bytes, true⟩] }).packDone)
        else match s.ciphDeal 1 with
          | none => none
          | some r =>
            if s.flow.shortTx && decide (0 < s.outstanding 1 r) then none
            else
              let k := (s1.useRecord x.ctx).takeKey x.ctx
              match k.1 with
              | none => some (k.2.txDropped fr.flow 1)
              | some key =>
                some ((k.2.withFlow { k.2.flow with txMsgs := k.2.flow.txMsgs ++ [⟨r, fr.flow, some key, fr.bytes, false⟩] }).dealTo r)

/-- Frames leave an ingress buffer in order for as long as they can. -/
def runIngress (i : Nat) : List InFrame → State → State
  | [], s => s.updFi i fun x => { x with ingress := [] }
  | fr :: r, s =>
    match s.takeFrame i fr with
    | some t => runIngress i r t
    | none => s.updFi i fun x => { x with ingress := fr :: r }

/-- Every ingress buffer moves on. -/
def State.runAll (s : State) : State := s.flow.ifaces.foldl (fun s e => runIngress e.1 e.2.ingress s) s

/-! ### The receive side (R303, R311, R313) -/

/-- What becomes of a received message once its records are at hand (R311): misdirected, plain, or dealt to the pool. -/
def State.resolve (m : RxMsg) (s : State) : RxMsg × State :=
  let lost (x : Option RxFlow) : Bool := match x with | some f => f.thread != m.thread | none => true
  let c := match s.rxFlow m.flow with | some f => f.ctx | none => 0
  if !s.cached m.flow then (m, s)
  else if lost (s.rxFlow m.flow) || (s.rxThread m.thread).egress.isNone then
    ({ m with state := .nothing }, (s.useRecord m.flow).egressDrop (s.rxThread m.thread).egress)
  else if m.keyId = 256 then
    ({ m with state := .frame m.body }, if m.segment.isSome then s.useRecord m.flow else (s.useRecord m.flow).bump (ciphCtr 10) 1)
  else if !s.cached c then (m, s)
  else match s.ciphDeal 0 with
    | none => (m, s)
    | some r => ({ m with state := .cipher r }, ((s.useRecord m.flow).useRecord c).dealTo r)

/-- Received messages that wait for a record are looked at again, in order. -/
def resolveList : List RxMsg → List RxMsg → State → State
  | [], kept, s => s.withFlow { s.flow with rxMsgs := kept }
  | m :: r, kept, s =>
    if m.state = .record then
      let x := (s.withFlow { s.flow with rxMsgs := kept ++ m :: r }).resolve m
      resolveList r (kept ++ [x.1]) x.2
    else resolveList r (kept ++ [m]) s

def State.resolveAll (s : State) : State := resolveList s.flow.rxMsgs [] s

/-- A received message joins its thread's order. KEY_ID 256 stands for a plain one, 257 for a ciphered segment, which names
no key. -/
def State.takeRx (m : RxMsg) (s : State) : State :=
  (s.withFlow { s.flow with rxMsgs := s.flow.rxMsgs ++ [m] }).resolveAll

/-- The segment of a STREAM thread that ended with a tick (R304); the thread's one flow carries it. -/
def State.takeSegment (t tick : Nat) (bytes : List Byte) (s : State) : State :=
  match s.flow.rx.find? (fun e => match e.2 with | some f => f.thread == t | none => false) with
  | some (f, some x) =>
    if x.ciph then
      let n := bytes.length - 24
      s.takeRx ⟨t, f, some tick, segmentAad f tick, 257, (bytes.drop n).take 8 ++ bytes.take n ++ bytes.drop (n + 8), .record⟩
    else (s.updRxThread t fun r => { r with replacing := false }).takeRx ⟨t, f, some tick, [], 256, bytes, .record⟩
  | _ => s

/-- TICK_READ ends segments: `segs` are the bytes of threads of kind STREAM whose segment ends with this tick; a thread that
does not deliver sends its replacement (R304, R305). -/
def State.takeSegments (b tick : Nat) (segs : List (Nat × List Byte)) (s : State) : State :=
  (s.threadsOf 0 b).foldl (fun s e =>
    if !(s.rxThread e.1).stream then s
    else if !s.threadServes e.1 then s.updRxThread e.1 fun r => { r with replacing := true }
    else if tick % 256 = 255 then
      match segs.find? (fun x => x.1 == e.1) with
      | some x => s.takeSegment e.1 (tick - 255) x.2
      | none => s
    else s) s

end Sys2Proof.Machine
end

