-- ==== Sys2Proof/Machine/Lanes.lean ====
section
/-!
DEFINITION. Client and host lanes: the operations their opcodes and happenings share (spec/11, spec/12).
-/

set_option Elab.async false

namespace Sys2Proof.Machine

/-! ### Client lanes (spec/11) -/

def State.cl (s : State) (g : Fin 2) (l : Nat) : ClientLane := Tab.get {} (s.lanes.groups.get g).lanes l
def State.updCl (g : Fin 2) (l : Nat) (f : ClientLane → ClientLane) (s : State) : State :=
  s.withLanes { s.lanes with groups := s.lanes.groups.upd g fun x => { x with lanes := Tab.upd {} x.lanes l f } }

/-- Counter `j` of CLIENT_COUNTERS and HOST_COUNTERS, from 0 (R348, R364). -/
def clientCtr (g : Fin 2) (l j : Nat) : Nat := ctr 0xA 0 12 (8 * g.val + l) j
def hostCtr (l j : Nat) : Nat := ctr 0xB 0 12 l j

def clientHa (g : Fin 2) : Nat := regionHa (0x14 + g.val)
def hostHa (l : Nat) : Nat := regionHa (0x16 + l / 16)

/-- Codes of a receive direction: client lanes (R336), host lanes (R357). -/
def LaneRx.clientCode : LaneRx → Nat
  | .off => 0
  | .signalWait => 1
  | .train => 2
  | .align => 3
  | .up => 4
def LaneRx.hostCode : LaneRx → Nat
  | .off => 0
  | .signalWait => 1
  | .train => 2
  | .align => 2
  | .up => 3
def LaneTx.code : LaneTx → Nat
  | .off => 0
  | .muted => 1
  | .on => 2

/-- The lanes of an interface: FIRST from its number, WIDTH. -/
def ifaceLanes (i : Nat) (x : LaneIface) : List Nat :=
  (List.range x.width).map ((if 240 ≤ i then (i - 240) % 8 else i) + ·)

/-- An interface is up or down from here on; its egress buffer is brought up to date first. -/
def State.setIfaceUp (i : Nat) (x : LaneIface) (up : Bool) (s : State) : State :=
  let level := s.egressLevel i
  let s1 := s.updFi i fun y => if y.level = 0 then { y with since := 0 } else { y with level := level, since := s.time }
  s1.withLanes { s1.lanes with ifaces := Tab.set none s1.lanes.ifaces i (some { x with up := up }) }

/-- CLIENT_IFACE_STATE and HOST_IFACE_STATE (Tables 11-14 and 12-8). -/
def evIface (i : Nat) (up : Bool) (cause : Nat) (s : State) : State :=
  let data := b2n up * 2 ^ 31 + (if up then 0 else cause * 2 ^ 28) + i
  if 240 ≤ i then s.raise 0x0A04 1 (clientHa (if i < 248 then 0 else 1)) data else s.raise 0x0B02 1 (hostHa i) data

/-- No element twice. -/
def distinct : List Nat → Bool
  | [] => true
  | x :: r => !r.contains x && distinct r

/-- Why a client interface is down: 1 a lane is not UP or carries a pattern, 3 V0 repeated, 2 skew; 0 it is up (R340, R347). -/
def State.clientIfaceCause (s : State) (i : Nat) (x : LaneIface) : Nat :=
  let g : Fin 2 := if i < 248 then 0 else 1
  let ls := (ifaceLanes i x).map (s.cl g)
  if ls.any fun l => l.rx != .up || l.gen || l.check then 1
  else if !distinct (ls.map (·.peer)) then 3
  else if ls.any (·.late) then 2
  else 0

def State.hl (s : State) (l : Nat) : HostLane := Tab.get {} s.lanes.host l
def State.updHl (l : Nat) (f : HostLane → HostLane) (s : State) : State :=
  s.withLanes { s.lanes with host := Tab.upd {} s.lanes.host l f }

/-- Why a host interface is down: 5 a pattern is on, 1 a lane is not UP, 3 alignment is lost; 0 it is up (R354, R360). -/
def State.hostIfaceCause (s : State) (i : Nat) (x : LaneIface) : Nat :=
  let ls := (ifaceLanes i x).map s.hl
  if ls.any fun l => l.gen || l.check then 5
  else if ls.any fun l => l.rx != .up then 1
  else if x.mode != 3 && !x.aligned then 3
  else 0

/-- An interface follows its lanes; a change is reported. `cause` takes the place of a cause 3 where it is not 0. -/
def State.refreshIface (i cause : Nat) (s : State) : State :=
  match s.laneIface i with
  | none => s
  | some x =>
    let why := if 240 ≤ i then s.clientIfaceCause i x else s.hostIfaceCause i x
    let up := why == 0
    let keep : LaneIface := { x with aligned := x.aligned && (up || why == 3 || why == 5 || decide (240 ≤ i)) }
    if up = x.up then s.withLanes { s.lanes with ifaces := Tab.set none s.lanes.ifaces i (some keep) }
    else evIface i up (if why = 3 ∧ cause ≠ 0 then cause else why) (s.setIfaceUp i keep up)

/-- The interfaces that a lane of a client group, or a host lane, belongs to follow it. -/
def State.refreshLane (client : Bool) (n : Nat) (s : State) : State :=
  s.lanes.ifaces.foldl (fun s e =>
    match e.2 with
    | some x =>
      let mine := if client then decide (240 ≤ e.1) && (ifaceLanes e.1 x).any fun l => (e.1 - 240) / 8 * 8 + l == n
        else decide (e.1 < 240) && (ifaceLanes e.1 x).contains n
      if mine then s.refreshIface e.1 0 else s
    | none => s) s

/-- CLIENT_LANE_STATE (Table 11-14). -/
def evClientLane (g : Fin 2) (l : Nat) (old new : LaneRx) (cause : Nat) (s : State) : State :=
  s.raise 0x0A01 1 (clientHa g) (new.clientCode * 2 ^ 28 + old.clientCode * 2 ^ 24 + cause * 2 ^ 20 + l)

/-- The receive direction of a client lane changes state (R336 to R339). -/
def State.moveClient (g : Fin 2) (l : Nat) (new : LaneRx) (cause : Nat) (s : State) : State :=
  let old := (s.cl g l).rx
  if old = new then s
  else
    (evClientLane g l old new cause (s.updCl g l fun x =>
      { x with rx := new, step := if new = .align then 2 else 0, peer := if new = .up then x.peer else 0xFF,
               late := x.late && decide (new = .up) })).refreshLane true (8 * g.val + l)

/-- HOST_LANE_STATE (Table 12-8). -/
def evHostLane (l : Nat) (old new : LaneRx) (cause : Nat) (s : State) : State :=
  s.raise 0x0B01 1 (hostHa l) (new.hostCode * 2 ^ 28 + old.hostCode * 2 ^ 24 + cause * 2 ^ 20 + l % 16)

/-- The receive direction of a host lane changes state (R357 to R359). -/
def State.moveHost (l : Nat) (new : LaneRx) (cause : Nat) (s : State) : State :=
  let old := (s.hl l).rx
  if old = new then s
  else
    (evHostLane l old new cause (s.updHl l fun x =>
      { x with rx := new, checkSync := x.checkSync && decide (new = .up) })).refreshLane false l

/-- A change of state that Tables 11-14 and 12-8 give no cause: its cause field is a free value. -/
def State.freeCause (s : State) : Nat × State := (s.take.1 % 16, s.take.2)

/-- The sum of the rates of every interface but one, in kb/s: the client aggregate of R354. -/
def State.aggregateBut (s : State) (i : Nat) : Nat :=
  (s.lanes.ifaces.map fun e => if e.1 = i then 0 else s.ifaceKbps e.1).sum

/-- 6,400 Gb/s. -/
def aggregateMax : Nat := 6400000000

/-- A flow, a classification key or an EGRESS names an interface: IFACE_IN_USE (Table 11-6). A flow names the stream interface
that maps whole to it (R296). -/
def State.ifaceUsed (s : State) (i : Nat) : Bool :=
  (s.flow.classes.any fun e => e.1 / 32768 == i) || (s.flow.rxThreads.any fun e => e.2.egress == some i) ||
  (s.streams i && (s.txFlow (s.fi i).defaultFlow).isSome)

/-- Another interface has one of some lanes. -/
def State.lanesTaken (s : State) (i : Nat) (x : LaneIface) : Bool :=
  s.lanes.ifaces.any fun e => match e.2 with
    | some y => e.1 != i && (decide (240 ≤ e.1) == decide (240 ≤ i)) && (decide (240 ≤ i) → (e.1 - 240) / 8 = (i - 240) / 8) &&
        (ifaceLanes e.1 y).any fun l => (ifaceLanes i x).contains l
    | none => false

/-- An interface is defined or redefined. -/
def State.defineIface (i : Nat) (x : LaneIface) (s : State) : State :=
  match s.laneIface i with
  | some y =>
    if y.width = x.width ∧ y.rate = x.rate ∧ (240 ≤ i ∨ (y.mode = 3 ↔ x.mode = 3)) then
      s.withLanes { s.lanes with ifaces := Tab.set none s.lanes.ifaces i (some { y with mode := x.mode }) }
    else
      let s1 := s.setIfaceUp i x false
      (if y.up then evIface i false 4 s1 else s1).refreshIface i 0
  | none => (s.setIfaceUp i x false).refreshIface i 0

/-- An interface is deleted. -/
def State.deleteIface (i : Nat) (s : State) : State :=
  match s.laneIface i with
  | none => s
  | some y =>
    let s1 := s.setIfaceUp i y false
    let s2 := s1.withLanes { s1.lanes with ifaces := Tab.set none s1.lanes.ifaces i none }
    if y.up then evIface i false 4 s2 else s2

end Sys2Proof.Machine
end

