-- ==== Sys2Proof/Machine/Timing.lean ====
section
/-!
DEFINITION. Timing: crystals, candidates, selection, DPLLs, outputs, the one-second tick (spec/13). Offsets of candidates are
in units of 0.01 ppb, of DPLLs in units of 0.001 ppb. The choices are in notes/assumptions/20 and 21.
-/

set_option Elab.async false

namespace Sys2Proof.Machine

def timingHa : Nat := regionHa 1

/-- Counter `j` of TIMING_COUNTERS, from 0 (R391). -/
def timingCtr (j : Nat) : Nat := ctr 1 0 12 0 j

def State.cand (s : State) (c : Nat) : RefCand := (Tab.get none s.timing.cands c).getD (RefCand.initial c)
def State.setCand (c : Nat) (x : RefCand) (s : State) : State :=
  s.withTiming { s.timing with
    cands := Tab.set none s.timing.cands c (if x = RefCand.initial c then none else some x) }
def State.updCand (c : Nat) (f : RefCand → RefCand) (s : State) : State := s.setCand c (f (s.cand c))

def State.dpll (s : State) (d : Nat) : Dpll := Tab.get {} s.timing.dplls d
def State.updDpll (d : Nat) (f : Dpll → Dpll) (s : State) : State :=
  s.withTiming { s.timing with dplls := Tab.upd {} s.timing.dplls d f }

def State.clkOut (s : State) (o : Nat) : ClkOut := Tab.get {} s.timing.outs o
def State.updOut (o : Nat) (f : ClkOut → ClkOut) (s : State) : State :=
  s.withTiming { s.timing with outs := Tab.upd {} s.timing.outs o f }

/-- Every DPLL by a function of its number. -/
def State.eachDpll (f : Nat → State → State) (s : State) : State := [0, 1, 2, 3].foldl (fun s d => f d s) s

/-- A mean in whole units: where the sum does not divide, which of the two units beside it is a free value. -/
def meanOf (sum : Int) (n free : Nat) : Int :=
  if sum % (n : Int) = 0 then sum / n else sum / n + ((free % 2 : Nat) : Int)

/-- The number a two's-complement field shows: cut to its range. -/
def satInt (bits : Nat) (v : Int) : Nat :=
  Int.bits bits (max (-(2 ^ (bits - 1) : Nat)) (min ((2 ^ (bits - 1) : Nat) - 1) v))

/-! ### Codes, quality levels (Tables 13-2 to 13-4) -/

def RefSt.code : RefSt → Nat
  | .inactive => 0
  | .qualifying => 1
  | .qualified => 2
  | .drift => 3

def DpllSt.code : DpllSt → Nat
  | .freeRun => 0
  | .acquire => 1
  | .locked => 2
  | .holdover => 3

/-- The QL in force (R373). -/
def RefCand.ql (x : RefCand) : Nat := if x.qlSrc = 0 then x.hostQl else x.rxQl

/-- The rank of a quality level, none where it is never selected (Table 13-3). -/
def qlRank (option2 : Bool) (ql : Nat) : Option Nat :=
  let codes := if option2 then [0x1, 0x0, 0x7, 0x4, 0xD, 0xA, 0xC, 0xE] else [0x2, 0x4, 0x8, 0xB]
  codes.findIdx? (· == ql)

/-- The holdover master is named and qualified (R369). -/
def State.masterOk (s : State) : Bool := s.timing.master != 0xF && (s.cand s.timing.master).st == .qualified

/-- The measured offset of the holdover master against the active crystal, 0 where the crystal takes its place. -/
def State.masterOffset (s : State) : Int := if s.masterOk then (s.cand s.timing.master).offset else 0

/-! ### Events (Table 13-14) -/

/-- TIMING_SELECT. -/
def evSelect (d : Nat) (old : Option Nat) (cause : Nat) (s : State) : State :=
  let x := s.dpll d
  s.raise 0x0102 (if x.st = .holdover then 2 else 1) timingHa
    (x.st.code * 2 ^ 28 + x.ref.getD 0x1F * 2 ^ 23 + old.getD 0x1F * 2 ^ 18 + d * 2 ^ 16 + cause * 2 ^ 12)

/-- A candidate's state changes; TIMING_REF. -/
def State.moveRef (c : Nat) (new : RefSt) (s : State) : State :=
  let old := (s.cand c).st
  if old = new then s
  else (s.updCand c fun x => { x with st := new, good := 0 }).raise 0x0101 1 timingHa
    (new.code * 2 ^ 28 + old.code * 2 ^ 24 + c)

/-! ### Holdover (R377, R379, R380) -/

/-- The gates of the holdover estimate: HOLD_AVG of them, ending HOLD_DELAY before the present; empty where the estimate is
not valid. -/
def Dpll.estGates (x : Dpll) : List Int :=
  if x.holdAvg + x.holdDelay ≤ x.gates.length then (x.gates.drop x.holdDelay).take x.holdAvg else []

def Dpll.estValid (x : Dpll) : Bool := !x.estGates.isEmpty

/-- The holdover estimate, 0 when not valid. -/
def Dpll.estimate (x : Dpll) (free : Nat) : Int :=
  if x.estValid then meanOf x.estGates.sum x.estGates.length free else 0

/-- A DPLL enters HOLDOVER. The selection that follows reports it with its cause, unless it is reported `now`. -/
def State.enterHoldover (d cause : Nat) (now : Bool) (s : State) : State :=
  let x := s.dpll d
  if x.st = .holdover then s
  else
    let held := if x.estValid then x.estimate s.take.1
      else x.lockGate.getD (s.masterOffset * 10)
    let s1 := ((s.take.2).updDpll d fun x =>
      { x with st := .holdover, last := x.ref, ref := none, cause := cause, pend := !now, freq := held, atGate := 0, seen := [] }).bump
        (timingCtr 1) 1
    if now then evSelect d x.ref cause s1 else s1

/-- A candidate stops being QUALIFIED: DPLLs that use it enter HOLDOVER; a force stays (R379, R390). -/
def State.dropRef (c cause : Nat) (s : State) : State :=
  s.eachDpll (fun d s => if (s.dpll d).ref = some c then s.enterHoldover d cause (decide ((s.dpll d).forced ≠ 0)) else s)

/-- The QL in force of a candidate has changed: the selection that follows names it as its cause (Table 13-14). -/
def State.noteQl (s : State) : State :=
  s.eachDpll (fun d s => s.updDpll d fun x => if x.cause = 0 ∧ x.pend = false then { x with cause := 5 } else x)

/-! ### Selection (R374, R376, R381) -/

/-- The rank of an eligible candidate for a DPLL, QL rank × 16 + priority. -/
def State.rankFor (s : State) (x : Dpll) (c : Nat) : Option Nat :=
  let k := s.cand c
  let prio := Tab.get 0xF x.prio c
  if k.st = .qualified ∧ prio ≠ 0xF ∧ c ≠ s.timing.master then (qlRank s.timing.option2 k.ql).map (· * 16 + prio) else none

/-- Insert by rank, behind those of the same rank. -/
def insertRank (e : Nat × Nat) : List (Nat × Nat) → List (Nat × Nat)
  | [] => [e]
  | x :: r => if e.1 < x.1 then e :: x :: r else x :: insertRank e r

/-- The eligible candidates in rank order, as (rank, index). -/
def State.ranked (s : State) (x : Dpll) : List (Nat × Nat) :=
  (List.range 17).foldl (fun l c => match s.rankFor x c with
    | some r => insertRank (r, c) l
    | none => l) []

/-- Offsets of two candidates lie further apart than DISAGREE. -/
def State.apart (s : State) (x : Dpll) (a b : Nat) : Bool :=
  decide (x.disagree * 100 < ((s.cand a).offset - (s.cand b).offset).natAbs)

/-- What selection finds for a DPLL: the candidate to use, and the two that disagree (R374, R376). -/
def State.choose (s : State) (x : Dpll) : Option Nat × Option (Nat × Nat) :=
  let use (c : Nat) : Nat :=
    match x.ref with
    | some u =>
      match s.rankFor x u, s.rankFor x c with
      | some ru, some rc => if x.revert = false ∧ ru / 16 ≤ rc / 16 then u else c
      | _, _ => c
    | none => c
  match s.ranked x with
  | [] => (none, none)
  | [(_, a)] => (some (use a), none)
  | (ra, a) :: (rb, b) :: more =>
    if ra = rb ∧ s.apart x a b then
      let third := match more with
        | (_, t) :: _ => some t
        | [] => if s.masterOk then some s.timing.master else none
      let stay := if x.ref = some a then a else if x.ref = some b then b else use a
      let pickOne := match third with
        | some t => if s.apart x t a ≠ s.apart x t b then
            (let g := if s.apart x t a then b else a
             if x.ref = some a ∨ x.ref = some b then g else use g)
          else stay
        | none => stay
      (some pickOne, some (a, b))
    else (some (use a), none)

/-- A pulse input aligns the frame phase, and so does candidate 16 (R381). -/
def RefCand.pulses (x : RefCand) (c : Nat) : Bool :=
  c == 16 || (decide (c < 8) && x.freqFrac == 0 && [1, 100, 2000, 8000].contains x.freqHz)

/-- The frame phase of a DPLL realigns; no output moves, and FP_ERROR of its outputs is no longer known (R381). -/
def State.realign (d : Nat) (s : State) : State :=
  [8, 9, 10, 11].foldl (fun s o => s.updOut o fun x => if x.dpll = d then { x with err := none } else x) s

/-- A DPLL uses a candidate from here on: ACQUIRE from FREE_RUN, LOCKED at the bandwidth in force otherwise (R377, R378). -/
def State.useRef (d c cause : Nat) (s : State) : State :=
  let x := s.dpll d
  let old := if x.pend then x.last else x.ref
  let was := if x.st = .holdover then x.last else x.ref
  let s1 := s.updDpll d fun x =>
    let y : Dpll := { x with ref := some c, seen := [], cause := 0, pend := false }
    match x.st with
    | .freeRun => { y with st := .acquire, bwNow := 1000000 }
    | .holdover => { y with st := .locked, gates := [], atGate := 0 }
    | _ => y
  let s2 := if was = some c ∨ was = none then s1 else s1.bump (timingCtr 0) 1
  evSelect d old cause (if (s.cand c).pulses c then s2.realign d else s2)

/-- TIMING_DISAGREE follows what selection found; `now` is the other candidate of a disagreement that stands. -/
def State.noteDisagree (d : Nat) (now : Option Nat) (s : State) : State :=
  let x := s.dpll d
  if x.other = now then s
  else
    let used := x.ref.getD 0x1F
    let s1 := match x.other with
      | some o => s.raise 0x0103 2 timingHa (d * 2 ^ 16 + o * 32 + used)
      | none => s
    let s2 := s1.updDpll d fun x => { x with other := now }
    match now with
    | some o => (s2.raise 0x0103 2 timingHa (2 ^ 31 + d * 2 ^ 16 + o * 32 + used)).bump (timingCtr 5) 1
    | none => s2

/-- Selection is re-evaluated for one DPLL (R374). -/
def State.select (d : Nat) (s : State) : State :=
  let x := s.dpll d
  if x.forced ≠ 0 then s
  else
    let ch := s.choose x
    let cause := if x.cause ≠ 0 ∨ x.pend then x.cause
      else match ch.2 with
        | some (a, _) => if ch.1 ≠ some a ∧ x.ref.isSome then 4 else 0
        | none => 0
    let settled (s : State) : State := s.updDpll d fun x => { x with cause := 0, pend := false }
    let s1 := match ch.1 with
      | some c =>
        if x.st = DpllSt.holdover ∧ x.coreFault = true then s
        else if x.ref = some c then settled s
        else s.useRef d c cause
      | none =>
        match x.st with
        | .freeRun => settled s
        | .holdover => if x.pend then evSelect d x.last cause (settled s) else if x.coreFault then s else settled s
        | _ => settled (s.enterHoldover d cause true)
    s1.noteDisagree d (ch.2.map fun (p : Nat × Nat) => if (s1.dpll d).ref = some p.1 then p.2 else p.1)

/-! ### Happenings -/

/-- Every offset held is carried over to the other crystal: `by` in units of 0.01 ppm (R368). -/
def State.carryOver (diff : Int) (s : State) : State :=
  let s1 := (List.range 17).foldl (fun s c => if (s.cand c).st = .qualifying ∨ (s.cand c).st = .qualified then
    s.updCand c fun x => { x with offset := x.offset - diff * 1000 } else s) s
  s1.eachDpll (fun d s => s.updDpll d fun x =>
    let f (v : Int) : Int := v - diff * 10000
    { x with freq := f x.freq, gates := x.gates.map f, lockGate := x.lockGate.map f,
             seen := x.seen.map fun e => (e.1 - diff * 1000, e.2 - diff * 1000) })

def Xtal.fault (x : Xtal) : Bool := x.still || x.off

/-- A crystal of the two. -/
def State.xtal (s : State) (i : Bool) : Xtal := if i then s.timing.xtals.b else s.timing.xtals.a

/-- TIMING_XTAL. -/
def evXtal (sev cause x : Nat) (s : State) : State :=
  s.raise 0x0104 sev timingHa (b2n s.timing.xtal * 2 ^ 31 + cause * 2 ^ 28 + x)

/-- The active crystal is changed (R368). -/
def State.changeXtal (s : State) : State :=
  let diff := if s.timing.xtal then -s.timing.xtalDiff else s.timing.xtalDiff
  (s.withTiming { s.timing with xtal := !s.timing.xtal }).carryOver diff

/-- A crystal has entered FAULT: the other takes its place, or the device has lost its clock (R368). -/
def State.xtalFaulted (i : Bool) (s : State) : State :=
  if i ≠ s.timing.xtal then evXtal 4 0 (b2n i) s
  else if s.timing.xtalBackup && !(s.xtal (!i)).fault then
    let s1 := s.changeXtal
    (evXtal 2 1 (b2n (!i)) (evXtal 2 0 (b2n i) s1)).bump (timingCtr 6) 1
  else ((evXtal 4 0 (b2n i) s).withTiming { s.timing with clockLost := true }).refreshHealth

/-- XTAL_ACTIVITY_LOSS (R367). While a cold reset is held nothing follows but the crystal's own state. -/
def execXtalActivityLoss (x : Fin 2) (s : State) : Ans :=
  let was := s.timing.xtals.get x
  let s1 := s.withTiming { s.timing with xtals := s.timing.xtals.set x { was with still := true } }
  happen (!was.still && !s.timing.clockLost) s
    (if was.off ∨ s.boot.phase = .reset then s1 else s1.xtalFaulted (x == 1))

/-- XTAL_ACTIVITY_RETURN (R367). -/
def execXtalActivityReturn (x : Fin 2) (s : State) : Ans :=
  happen (s.timing.xtals.get x).still s
    (s.withTiming { s.timing with xtals := s.timing.xtals.upd x fun y => { y with still := false } })

/-- The crystals are judged at a gate's end, XTAL1 less XTAL0 being `diff` in 0.01 ppm: against a qualified holdover master,
or against each other where none is named (R367). -/
def State.judgeXtals (diff : Int) (s : State) : State :=
  let s0 := s.withTiming { s.timing with xtalDiff := diff }
  let limit := 5000000
  let m := s0.masterOffset
  let against (i : Bool) : Int := if i = s0.timing.xtal then m else (if i then diff * 1000 else -(diff * 1000)) - m
  let one (i : Bool) (s : State) : State :=
    let was := s.xtal i
    let off := s0.masterOk && decide (limit < (against i).natAbs)
    let x : Xtal := { was with off := off }
    let s1 := s.withTiming { s.timing with
      xtals := if i then { s.timing.xtals with b := x } else { s.timing.xtals with a := x } }
    if off && !was.fault then s1.xtalFaulted i else s1
  let s1 := one (!s0.timing.xtal) (one s0.timing.xtal s0)
  let far := s1.timing.master == 0xF && decide (limit < (diff * 1000).natAbs)
  let s2 := s1.withTiming { s1.timing with xtalApart := far }
  if far && !s0.timing.xtalApart then evXtal 2 2 (s2.take.1 % 2) s2.take.2 else s2

/-- A DPLL's frequency over a whole gate (R377). `v` is its output offset while it follows a reference; a DPLL in FREE_RUN or
HOLDOVER follows what it rests on, which moved from `m0` to `m1`. -/
def Dpll.gateEnd (m0 m1 v : Int) (x : Dpll) : Dpll :=
  match x.st with
  | .freeRun => { x with freq := m1 * 10, atGate := 0 }
  | .holdover => { x with freq := x.freq + (m1 - m0) * 10, atGate := 0 }
  | .acquire => { x with freq := v, atGate := 0 }
  | .locked =>
    { x with
      freq := v
      lockGate := if x.atGate ≠ 0 then some v else x.lockGate
      gates := if x.bwNow ≠ x.bw then [] else if x.atGate = 2 then (v :: x.gates).take 65790 else x.gates
      atGate := if x.bwNow = x.bw then 2 else 1 }

/-- The drift monitor drops the reference in use (R375), `master` saying that rates are measured against the holdover
master. -/
def Dpll.drifts (x : Dpll) (master : Bool) : Bool :=
  match x.seen with
  | [] => false
  | (o, _) :: _ =>
    let rel (e : Int × Int) : Int := if master then e.1 - e.2 else e.1
    let first := (x.seen.getLast?.map rel).getD 0
    let hist := x.seen.map rel ++ List.replicate (32 - x.seen.length) first
    let est := x.estGates
    x.st == .locked && x.estValid &&
      (decide (x.driftLimit * 1000 * est.length < (o * 10 * est.length - est.sum).natAbs) ||
       decide (x.driftRate * 256 < ((hist.take 16).sum - ((hist.drop 16).take 16).sum).natAbs))

/-- A candidate's gate ends with offset `o` (R372, R375, R393). -/
def State.refGate (master : Bool) (m : Int) (c : Nat) (o : Int) (s : State) : State :=
  let x := s.cand c
  match x.st with
  | .qualifying =>
    s.updCand c fun x =>
      { x with offset := o, good := if o.natAbs ≤ x.accept * 1000 then x.good + (if c = 16 then 16 else 1) else 0 }
  | .qualified =>
    let s1 := s.updCand c fun x => { x with offset := o }
    let s2 := s1.eachDpll (fun d s => s.updDpll d fun y =>
      if y.ref = some c then { y with seen := ((o, m) :: y.seen).take 32 } else y)
    let drift := [0, 1, 2, 3].any fun d => (s2.dpll d).ref == some c && (s2.dpll d).drifts master
    let reject := decide (x.reject * 1000 < o.natAbs)
    let s3 := if reject then s2.bump (timingCtr 3) 1 else s2
    if drift then ((s3.bump (timingCtr 4) 1).moveRef c .drift).dropRef c 3
    else if reject then (s3.moveRef c .qualifying).dropRef c 2
    else s3
  | _ => s

/-- GATE_END: a frequency gate ends with the offsets of the candidates in `offsets`; each DPLL that follows a reference ran at its
offset in `freqs`; XTAL1 less XTAL0 is `xdiff` in 0.01 ppm (R367, R371 to R375). -/
def execGateEnd (offsets : List (Nat × Int)) (freqs : List Int) (xdiff : Int) (s : State) : Ans :=
  let offs := offsets.filter fun e => decide (e.1 ≤ 16)
  let m0 := s.masterOffset
  let m1 := if s.masterOk then Tab.get m0 offs s.timing.master else 0
  let s1 := s.eachDpll (fun d s => s.updDpll d (Dpll.gateEnd m0 m1 (freqs.getD d 0)))
  let s2 := offs.foldl (fun t e => t.refGate s.masterOk m1 e.1 e.2) s1
  happen s.live s (s2.judgeXtals xdiff)

/-- A candidate is configured and what it needs to show edges is there (R370, Table 13-1). -/
def State.refReady (s : State) (c : Nat) : Bool :=
  let x := s.cand c
  if c < 8 then x.freqHz != 0
  else if c = 8 then s.rx.a.st == .tracking
  else if c = 9 then s.rx.b.st == .tracking
  else if c = 10 then (s.cl 0 x.lane).rx == .up
  else if c = 11 then (s.cl 1 x.lane).rx == .up
  else if c < 16 then (s.hl x.lane).rx == .up
  else true

/-- REF_FIRST_EDGE (R372). -/
def execRefFirstEdge (c : Fin 17) (s : State) : Ans :=
  happen (s.live && (s.cand c.val).st == .inactive && s.refReady c.val) s (s.moveRef c.val .qualifying)

/-- QUALIFY_COMPLETE (R372). -/
def execQualifyComplete (c : Fin 17) (s : State) : Ans :=
  let x := s.cand c.val
  happen (s.live && x.st == .qualifying && decide (x.qualTime ≤ x.good)) s (s.moveRef c.val .qualified)

/-- A candidate loses activity (R370, R372). -/
def State.loseRef (c : Nat) (s : State) : State :=
  let st := (s.cand c).st
  if st = .qualifying ∨ st = .qualified then (((s.moveRef c .inactive).bump (timingCtr 2) 1).updCand c fun x => { x with offset := 0 }).dropRef c 2
  else s

/-- REF_ACTIVITY_LOSS (R370). -/
def execRefActivityLoss (c : Fin 17) (s : State) : Ans := happen s.live s (s.loseRef c.val)

/-- SELECTION_EVAL (R374). -/
def execSelectionEval (s : State) : Ans := happen s.live s (s.eachDpll State.select)

/-- DPLL_LOCK: the phase error stayed within LOCK_WINDOW for 20 ms (R377, R378). -/
def execDpllLock (d : Fin 4) (s : State) : Ans :=
  happen (s.live && (s.dpll d.val).st == .acquire) s
    (s.updDpll d.val fun x => { x with st := .locked, gates := [], atGate := 0 })

/-- The bandwidth after `b` on the way down to `bw`: each decade value above BW, then BW (R378). -/
def nextBw (b bw : Nat) : Nat :=
  (([100000, 10000, 1000, 100, 10].find? fun p => decide (p < b) && decide (bw < p))).getD bw

/-- BW_STEP: a dwell ends (R378). -/
def execBwStep (d : Fin 4) (s : State) : Ans :=
  let x := s.dpll d.val
  happen (s.live && x.st == .locked && x.bwNow != x.bw) s (s.updDpll d.val fun x => { x with bwNow := nextBw x.bwNow x.bw, atGate := 0 })

/-- A core fault of a DPLL, the cores differing by `diff` ns (R380). It ends a core swap of that DPLL (spec/18 R492). -/
def State.coreFaulted (d : Nat) (diff : Int) (s : State) : State :=
  let s1 := (s.updDpll d fun x => { x with coreFault := true }).bump (timingCtr 7) 1
  let s2 := s1.raise 0x0105 4 (haOf 1 (s.server 1 d) 0x3F) (d * 2 ^ 16 + satInt 16 diff)
  let s3 := s2.enterHoldover d 6 true
  ((s3.updDpll d fun x => { x with pend := false, cause := 6 }).swapFaulted d).refreshHealth

/-- CORE_FAULT: the cores of a DPLL differ by `diff` ns (R380). -/
def execCoreFault (d : Fin 4) (diff : Int) (s : State) : Ans :=
  happen (s.live && !(s.dpll d.val).coreFault) s (s.coreFaulted d.val diff)

/-- A candidate's source gives it a QL; a change of the QL in force leads the next selection. -/
def State.setQl (c ql : Nat) (s : State) : State :=
  let s1 := s.updCand c fun x => { x with rxQl := ql }
  if (s.cand c).ql = (s1.cand c).ql then s1 else s1.noteQl

/-- An interface holds the LANE of a candidate (R373). -/
def State.holdsLane (s : State) (i c : Nat) : Bool :=
  match s.laneIface i with
  | none => false
  | some x =>
    let on := (ifaceLanes i x).contains (s.cand c).lane
    if 240 ≤ i then on && (c == 10 + (i - 240) / 8) else on && decide (12 ≤ c ∧ c ≤ 15)

/-- The candidates whose QL comes from the ESMC PDUs of an interface. -/
def State.esmcOf (s : State) (i : Nat) : List Nat :=
  [10, 11, 12, 13, 14, 15].filter fun c => (s.cand c).qlSrc == 2 && s.holdsLane i c

/-- ESMC_PDU_RECEIVE (R373). -/
def execEsmcPduReceive (i : Fin 256) (ql : Fin 16) (s : State) : Ans :=
  happen (s.live && !(s.esmcOf i.val).isEmpty) s
    ((s.esmcOf i.val).foldl (fun s c => s.setQl c ql.val) (s.bump (timingCtr 9) 1))

/-- QL_TIMEOUT (R373). -/
def execQlTimeout (c : Fin 17) (s : State) : Ans :=
  let x := s.cand c.val
  happen (s.live && decide (8 ≤ c.val) && x.rxQl != 0xF) s ((s.bump (timingCtr 10) 1).setQl c.val 0xF)

/-- FP_SLEW_END (R383). -/
def execFpSlewEnd (o : Fin 4) (s : State) : Ans :=
  let x := s.clkOut (8 + o.val)
  happen (s.live && x.slew != 0) s (s.updOut (8 + o.val) fun x => { x with slew := 0, err := some 0 })

/-! ### The one-second tick (R249, R348, R364, R384, R385) -/

/-- The Loom latches the second just ended (R249). -/
def State.latchLoom (s : State) : State :=
  let s1 := [(0 : Port), 1].foldl (fun s p => if (s.lp p).st = .locked then s else s.countLost p) s
  s1.withLoom { s1.loom with
    counts := []
    previous := s1.loom.latest
    latest := ⟨s1.timing.tickSeq, s1.timeWord, s1.loom.counts⟩ }

/-- What a list of always-running counters gained since `base`, and where they stand. -/
def sinceTick (ks : List Nat) (base : List Nat) (s : State) : List Nat × List Nat :=
  let now := ks.map s.counter
  ((now.zip base).map fun e => sat 0xFFFFFFFF ((e.1 + 2 ^ 48 - e.2) % 2 ^ 48), now)

/-- Per-second figures of the client and host lanes (R348, R364). -/
def State.latchLanes (s : State) : State :=
  let grp (g : Fin 2) (s : State) : State := (List.range 8).foldl (fun s l =>
    let v := sinceTick [clientCtr g l 1, clientCtr g l 3, clientCtr g l 4] (s.cl g l).base s
    s.updCl g l fun x => { x with second := v.1, base := v.2 }) s
  (List.range 128).foldl (fun s l =>
    let v := sinceTick [hostCtr l 4, hostCtr l 5] (s.hl l).base s
    s.updHl l fun x => { x with second := v.1, base := v.2 }) (grp 1 (grp 0 s))

/-- A slot of a lane's traffic counter, which arriving traffic alone advances (R348, R364). -/
def trafficSlot (k : Nat) : Bool :=
  let a := ctr 0xA 0 12 0 0; let b := ctr 0xB 0 12 0 0
  (decide (a ≤ k ∧ k < a + 192) && [0, 1, 2, 3, 4, 8, 9, 11].contains ((k - a) % 12)) ||
  (decide (b ≤ k ∧ k < b + 1536) && [3, 4, 5, 6, 7, 8, 10].contains ((k - b) % 12))

/-- ONE_SECOND_TICK: `counts` is what the lanes' traffic counters gained in the second; the Crier's second is `crierSec`. -/
def execOneSecondTick (crierSec : Nat) (counts : List (Nat × Nat)) (s : State) : Ans :=
  let s0 := (counts.filter fun e => trafficSlot e.1).foldl (fun s e => s.bump e.1 e.2) s
  let t := s0.timing
  let tod := match t.todNext with
    | some v => v
    | none => if (s.dpll 0).ref = some 16 then crierSec % 2 ^ 48 else (t.tod + 1) % 2 ^ 48
  let set := t.todSet || t.todNext.isSome || (s.dpll 0).ref == some 16
  let s1 := (s0.withTiming { t with
    tickSeq := (t.tickSeq + 1) % 2 ^ 32, tickTime := s0.time64, tod := tod, todSet := set, todNext := none }).bump (timingCtr 11) 1
  happen s.live s (((s1.latchLoom).latchFec 0).latchFec 1).latchLanes

/-! ### Opcodes (R386) -/

def targetTiming (_ : State) (t : Nat) : Bool := t == 0x01FFF

/-- TIMING_CONFIG (Table 13-7, R368, R369, R384). -/
def timingConfigOp : OpDef where
  code := 0x0101
  lo := 1
  hi := 1
  targetOk := targetTiming
  check := fun c s =>
    let m := (c.p 0).fld 27 24
    let fp := s.clkOut 8
    firstRej [resv c 0 31 30, param (decide (m ≤ 7) || m == 0xF) 0, resv c 0 21 0,
      stateErr (!(s.xtal ((c.p 0).bit 29)).fault) 0x31,
      stateErr (!(c.p 0).bit 22 || (fp.enable && fp.period == 0)) 0x30]
  effect := sets fun c s =>
    let pref := (c.p 0).bit 29
    let s1 := s.withTiming { s.timing with
      xtalPref := pref, xtalBackup := (c.p 0).bit 28, master := (c.p 0).fld 27 24, option2 := (c.p 0).bit 23,
      tickSrc := (c.p 0).bit 22, tickNow := (c.p 0).bit 22 }
    if pref ≠ s.timing.xtal ∧ (s.xtal s.timing.xtal).fault = false then
      (evXtal 2 1 (b2n pref) s1.changeXtal).bump (timingCtr 6) 1
    else s1

def execTimingConfig (c : Cmd) (s : State) : Ans := serve timingConfigOp c s

/-- QL sources that Table 13-1 permits. -/
def qlPermitted (c src : Nat) : Bool :=
  if c < 8 then src == 0
  else if c < 10 then src == 0 || src == 1
  else if c < 16 then src == 0 || src == 2
  else src == 1

/-- TIMING_REF_SET (Table 13-8, R387). -/
def timingRefSetOp : OpDef where
  code := 0x0102
  lo := 4
  hi := 4
  targetOk := targetTiming
  check := fun c _ =>
    let r := (c.p 0).fld 31 27; let lane := (c.p 0).fld 20 14; let q := (c.p 0).fld 11 0
    let hz := (c.p 2).fld 29 0
    firstRej [param (decide (r ≤ 16)) 0, param ((c.p 0).fld 26 25 != 3) 0,
      param (if r = 10 ∨ r = 11 then decide (lane ≤ 7) else decide (12 ≤ r ∧ r ≤ 15) || lane == 0) 0,
      resv c 0 13 12, param (decide (1 ≤ q ∧ q ≤ 3600)) 0, param (qlPermitted r ((c.p 0).fld 26 25)) 0 0x2F,
      param ((c.p 1).fld 31 16 != 0) 1, param (decide ((c.p 1).fld 31 16 < (c.p 1).fld 15 0)) 1 5,
      resv c 2 31 30, param (decide (hz ≤ 800000000) && (decide (r < 8) || hz == 0)) 2]
  effect := sets fun c s =>
    let r := (c.p 0).fld 31 27
    let x := s.cand r
    let src := (c.p 0).fld 26 25; let lane := (c.p 0).fld 20 14
    let s1 := (s.moveRef r .inactive).updCand r fun y =>
      { y with
        qlSrc := src, hostQl := (c.p 0).fld 24 21, lane := lane
        rxQl := if r < 10 ∨ r = 16 ∨ (src = x.qlSrc ∧ lane = x.lane) then x.rxQl else 0xF
        qualTime := (c.p 0).fld 11 0, accept := (c.p 1).fld 31 16, reject := (c.p 1).fld 15 0
        freqHz := (c.p 2).fld 29 0, freqFrac := (c.p 3).toNat, offset := 0, good := 0 }
    s1.dropRef r 0

def execTimingRefSet (c : Cmd) (s : State) : Ans := serve timingRefSetOp c s

/-- A new BW applies at once at or above the bandwidth in force, otherwise it joins the stepping (R388). -/
def Dpll.setBw (bw : Nat) (x : Dpll) : Dpll :=
  if (x.st = .locked ∨ x.st = .holdover) ∧ x.bwNow ≤ bw then { x with bw := bw, bwNow := bw } else { x with bw := bw }

/-- TIMING_DPLL_SET (Table 13-9, R388). -/
def timingDpllSetOp : OpDef where
  code := 0x0103
  lo := 4
  hi := 4
  targetOk := targetTiming
  check := fun c _ =>
    let o := (c.p 3).sfld 29 0
    firstRej [resv c 0 28 20, param (decide (1 ≤ (c.p 0).fld 19 0 ∧ (c.p 0).fld 19 0 ≤ 1000000)) 0,
      param ((c.p 1).fld 31 16 != 0) 1, param ((c.p 1).fld 15 8 != 0) 1, param ((c.p 1).fld 3 0 != 0) 1,
      param ((c.p 2).fld 31 20 != 0) 2, param ((c.p 2).fld 19 10 != 0) 2, param ((c.p 2).fld 9 0 != 0) 2,
      resv c 3 31 30, param (decide (-500000000 ≤ o ∧ o ≤ 499999999)) 3]
  effect := sets fun c s =>
    let d := (c.p 0).fld 31 30
    let x := s.dpll d
    let s1 := s.updDpll d fun x => { Dpll.setBw ((c.p 0).fld 19 0) x with
      pbo := (c.p 0).bit 29, holdAvg := (c.p 1).fld 31 16, holdDelay := (c.p 1).fld 15 8, holdQl := (c.p 1).fld 7 4,
      window := (c.p 1).fld 3 0, driftLimit := (c.p 2).fld 31 20, driftRate := (c.p 2).fld 19 10,
      disagree := (c.p 2).fld 9 0, fpOffset := (c.p 3).sfld 29 0 }
    match x.ref with
    | some r => if (c.p 3).sfld 29 0 ≠ x.fpOffset ∧ r < 8 ∧ (s.cand r).pulses r = true then s1.realign d else s1
    | none => s1

def execTimingDpllSet (c : Cmd) (s : State) : Ans := serve timingDpllSetOp c s

/-- The priorities of a TIMING_PRIO_SET (R388). -/
def prioTab (c : Cmd) : Tab Nat :=
  (List.range 17).foldl (fun t k => Tab.set 0xF t k
    (if k = 16 then (c.p 0).fld 3 0 else if k < 8 then (c.p 1).fld (4 * k + 3) (4 * k)
     else (c.p 2).fld (4 * (k - 8) + 3) (4 * (k - 8)))) []

/-- TIMING_PRIO_SET (R388). -/
def timingPrioSetOp : OpDef where
  code := 0x0104
  lo := 3
  hi := 3
  targetOk := targetTiming
  check := fun c _ => resv c 0 28 4
  effect := sets fun c s => s.updDpll ((c.p 0).fld 31 30) fun x => { x with revert := (c.p 0).bit 29, prio := prioTab c }

def execTimingPrioSet (c : Cmd) (s : State) : Ans := serve timingPrioSetOp c s

/-- Half the period of a frame-pulse output, in units of 10 ns (Table 13-10). -/
def halfPeriod (p : Nat) : Nat := if p = 0 then 50000000 else if p = 1 then 500000 else if p = 2 then 25000 else 6250

/-- A frame-pulse output is set: its first enabling, and a change of its DPLL or PERIOD, place its phase (R389). -/
def ClkOut.setFp (en : Bool) (dpll period width : Nat) (x : ClkOut) : ClkOut :=
  let y : ClkOut := { x with enable := en, dpll := dpll, period := period, width := width }
  if (en && !x.placed) || (x.placed && (dpll != x.dpll || period != x.period)) then { y with placed := true, err := some 0, slew := 0 } else y

/-- TIMING_OUT_SET (Table 13-10, R382, R389). -/
def timingOutSetOp : OpDef where
  code := 0x0105
  lo := 2
  hi := 2
  targetOk := targetTiming
  check := fun c _ =>
    let o := (c.p 0).fld 31 28; let w := (c.p 0).fld 15 0; let p := (c.p 0).fld 17 16; let hz := (c.p 1).fld 29 0
    let fp := decide (8 ≤ o)
    firstRej [param (decide (o ≤ 11)) 0, resv c 0 24 18, param (fp || p == 0) 0,
      param (if fp then w != 0 && decide (w < halfPeriod p) else w == 0) 0, resv c 1 31 30,
      param (if fp then hz == 0 else hz != 0 && decide (hz ≤ 800000000)) 1]
  effect := sets fun c s =>
    let o := (c.p 0).fld 31 28; let en := (c.p 0).bit 27; let d := (c.p 0).fld 26 25
    let x := s.clkOut o
    if o < 8 then s.updOut o fun x => { x with enable := en, dpll := d, freqHz := (c.p 1).fld 29 0 }
    else
      let s1 := s.updOut o (ClkOut.setFp en d ((c.p 0).fld 17 16) ((c.p 0).fld 15 0))
      if o = 8 ∧ (en = false ∨ d ≠ x.dpll ∨ (c.p 0).fld 17 16 ≠ x.period) then
        s1.withTiming { s1.timing with tickNow := false }
      else s1

def execTimingOutSet (c : Cmd) (s : State) : Ans := serve timingOutSetOp c s

/-- TIMING_FP_ALIGN (Table 13-11, R383). -/
def timingFpAlignOp : OpDef where
  code := 0x0106
  lo := 1
  hi := 1
  targetOk := targetTiming
  check := fun c s =>
    let o := (c.p 0).fld 31 28
    firstRej [param (decide (8 ≤ o ∧ o ≤ 11)) 0, resv c 0 26 16, param ((c.p 0).bit 27 == ((c.p 0).fld 15 0 != 0)) 0,
      stateErr (s.clkOut o).enable 0x30]
  effect := sets fun c s =>
    (s.updOut ((c.p 0).fld 31 28) fun x =>
      if (c.p 0).bit 27 then
        (if x.err = some 0 then { x with slew := 0 } else { x with slew := (c.p 0).fld 15 0, err := none })
      else { x with err := some 0, slew := 0 }).bump (timingCtr 8) 1

def execTimingFpAlign (c : Cmd) (s : State) : Ans := serve timingFpAlignOp c s

/-- TIMING_FORCE (Table 13-11, R390). -/
def timingForceOp : OpDef where
  code := 0x0107
  queue := some 0
  lo := 1
  hi := 1
  targetOk := targetTiming
  check := fun c s =>
    let m := (c.p 0).fld 29 28; let r := (c.p 0).fld 4 0
    firstRej [param (m != 3) 0, resv c 0 27 5, param (if m = 1 then decide (r ≤ 16) else r == 0) 0,
      stateErr (m != 1 || (s.cand r).st == .qualified) 0x2E]
  effect := sets fun c s =>
    let d := (c.p 0).fld 31 30; let m := (c.p 0).fld 29 28; let r := (c.p 0).fld 4 0
    let s1 := (s.updDpll d fun x => { x with forced := m, forcedRef := r })
    let x := s.dpll d
    if m = 2 then s1.enterHoldover d 1 true
    else if m = 1 ∧ x.ref ≠ some r ∧ !(x.st = .holdover ∧ x.coreFault) then s1.useRef d r 1
    else s1

def execTimingForce (c : Cmd) (s : State) : Ans := serve timingForceOp c s

/-- TIMING_TOD_SET (Table 13-11, R385). -/
def timingTodSetOp : OpDef where
  code := 0x0108
  lo := 2
  hi := 2
  targetOk := targetTiming
  check := fun c _ => resv c 1 31 16
  effect := sets fun c s =>
    s.withTiming { s.timing with todNext := some ((c.p 0).toNat + (c.p 1).fld 15 0 * 2 ^ 32) }

def execTimingTodSet (c : Cmd) (s : State) : Ans := serve timingTodSetOp c s

/-- TIMING_STATUS (Table 13-12). An FP_ERROR that no rule gives is a free value. -/
def timingStatusOp : OpDef where
  code := 0x0109
  lo := 0
  hi := 0
  targetOk := targetTiming
  effect := fun _ s =>
    let t := s.timing
    let err (k : Nat) : Word :=
      let o := s.clkOut (8 + k)
      if o.enable then (match o.err with | some e => w32 (Int.bits 32 e) | none => w32 (Config.freeValue (s.free + k))) else 0
    (.ok ([mkw [(31, 31, b2n t.xtal), (30, 30, b2n t.xtals.a.fault), (29, 29, b2n t.xtals.b.fault), (28, 28, b2n s.masterOk),
                (27, 27, b2n t.tickNow), (15, 0, satInt 16 t.xtalDiff)]] ++ words64 t.tickTime ++ words64 t.tod ++
          [w32 t.tickSeq] ++ (List.range 4).map err), s.withFree (s.free + 4))

def execTimingStatus (c : Cmd) (s : State) : Ans := serve timingStatusOp c s

/-- A word of TIMING_REF_STATUS. -/
def State.refWord (s : State) (c free : Nat) : Word :=
  let x := s.cand c
  let shown := if x.st = .qualifying ∨ x.st = .qualified then meanOf x.offset 1000 free else 0
  mkw [(31, 29, x.st.code), (28, 25, x.ql),
       (24, 21, (([0, 1, 2, 3].filter fun d => (s.dpll d).ref == some c).map fun d => 2 ^ d).sum), (19, 0, satInt 20 shown)]

/-- TIMING_REF_STATUS (R386). -/
def timingRefStatusOp : OpDef where
  code := 0x010A
  lo := 0
  hi := 0
  targetOk := targetTiming
  effect := fun _ s =>
    (.ok ((List.range 17).map fun c => s.refWord c (Config.freeValue (s.free + c))), s.withFree (s.free + 17))

def execTimingRefStatus (c : Cmd) (s : State) : Ans := serve timingRefStatusOp c s

/-- The words of TIMING_DPLL_STATUS (Table 13-13). PHASE_ERR and CORE_DIFF are free values. -/
def State.dpllWords (s : State) (d : Nat) (free : Nat → Nat) : List Word :=
  let x := s.dpll d
  let ql := match x.ref with | some c => (s.cand c).ql | none => x.holdQl
  [mkw [(31, 28, x.st.code), (27, 23, x.ref.getD 0x1F), (22, 22, b2n x.core), (21, 20, x.forced), (19, 19, b2n (x.bwNow == x.bw)),
        (18, 18, b2n x.estValid), (17, 17, b2n x.other.isSome), (3, 0, ql)],
   mkw [(19, 0, x.bwNow)], w32 (free 0), w32 (Int.bits 32 x.freq), w32 (Int.bits 32 (x.estimate (free 1))), w32 (free 2)]

/-- TIMING_DPLL_STATUS (R386). -/
def timingDpllStatusOp : OpDef where
  code := 0x010B
  lo := 1
  hi := 1
  targetOk := targetTiming
  check := fun c _ => resv c 0 31 2
  effect := fun c s =>
    (.ok (s.dpllWords ((c.p 0).fld 1 0) fun k => Config.freeValue (s.free + k)), s.withFree (s.free + 3))

def execTimingDpllStatus (c : Cmd) (s : State) : Ans := serve timingDpllStatusOp c s

/-- TIMING_COUNTERS (R391). -/
def timingCountersOp : OpDef where
  code := 0x010C
  lo := 0
  hi := 0
  targetOk := targetTiming
  effect := reads fun _ s => s.counterWords (timingCtr 0) 12

def execTimingCounters (c : Cmd) (s : State) : Ans := serve timingCountersOp c s

end Sys2Proof.Machine
end

