-- ==== Sys2Proof/Machine/Assay.lean ====
section
/-!
DEFINITION. Assay: telemetry converter, decimators, windows, PWM outputs and bias loops (spec/15 R427 to R436). The choices are
in notes/assumptions/23.
-/

set_option Elab.async false

namespace Sys2Proof.Machine

def assayHa : Nat := regionHa 2

/-- Counter `j` of ASSAY_COUNTERS, from 0 (R445). -/
def assayCtr (j : Nat) : Nat := ctr 2 0 12 0 j

def targetAssay (_ : State) (t : Nat) : Bool := t == 0x02FFF

def State.timer (s : State) (t : Nat) : AsTimer := Tab.get {} s.assay.timers t
def State.source (s : State) (k : Nat) : AsSource := Tab.get {} s.assay.sources k
def State.updSource (k : Nat) (f : AsSource → AsSource) (s : State) : State :=
  s.withAssay { s.assay with sources := Tab.upd {} s.assay.sources k f }
def State.chan (s : State) (c : Nat) : AsChan := Tab.get {} s.assay.chans c
def State.updChan (c : Nat) (f : AsChan → AsChan) (s : State) : State :=
  s.withAssay { s.assay with chans := Tab.upd {} s.assay.chans c f }
def State.pwm (s : State) (l : Nat) : AsPwm := Tab.get {} s.assay.pwms l
def State.updPwm (l : Nat) (f : AsPwm → AsPwm) (s : State) : State := s.withAssay { s.assay with pwms := Tab.upd {} s.assay.pwms l f }
def State.bias (s : State) (l : Nat) : AsBias := Tab.get {} s.assay.biases l
def State.updBias (l : Nat) (f : AsBias → AsBias) (s : State) : State :=
  s.withAssay { s.assay with biases := Tab.upd {} s.assay.biases l f }

/-- A rational in whole units: where it is no whole number, which of the two beside it is a free value. -/
def roundFree (x : Rat) (free : Nat) : Int := if (x.floor : Rat) = x then x.floor else x.floor + ((free % 2 : Nat) : Int)

/-! ### Triggers and sequences (R430, R431) -/

/-- The channels of a source's sequence; the internal scan converts 48 to 90. -/
def State.seqOf (s : State) (k : Nat) : List Nat := if k = 32 then (List.range 43).map (48 + ·) else (s.source k).seq

/-- The converter clock at device time (65 MHz). -/
def State.converterClock (s : State) : Nat := s.time * 65 / (1000 * 65536)

/-- A source fires: a trigger is in hand, or it is an overrun. -/
def State.fire (k : Nat) (s : State) : State :=
  let x := s.source k
  let s1 := s.updSource k fun x => { x with fired := x.fired + 1 }
  if (s.seqOf k).isEmpty then s1
  else if x.hand then
    let gaps := if k < 8 then (x.seq.filter fun c => (s.chan c).filterNow != 0).length else 0
    ((s1.bump (assayCtr 4) 1).bump (assayCtr 5) gaps).raiseLimited (0x020200 + k) second 0x0202 2 assayHa fun n =>
      k * 2 ^ 16 + sat 65535 n
  else s1.updSource k fun x => { x with hand := true, delaying := true }

/-- ASSAY_TIMER_FIRE (R430). -/
def execAssayTimerFire (t : Fin 8) (s : State) : Ans := happen (s.live && (s.timer t.val).enable) s (s.fire t.val)

/-- PWM_PERIOD_START: a new PERIOD applies, and the PWM's source fires (R430). -/
def execPwmPeriodStart (l : Fin 24) (s : State) : Ans :=
  happen (s.live && (s.pwm l.val).enable) s ((s.updPwm l.val fun x => { x with periodNow := x.period }).fire (8 + l.val))

/-- INTERNAL_SCAN: the scan fires; its results are compared as its sequence ends (R430, R435). -/
def execInternalScan (s : State) : Ans := happen s.live s (s.fire 32)

/-- A sequence starts. -/
def State.startSeq (k : Nat) (s : State) : State :=
  let s1 := s.updSource k fun x => { x with hand := false, delaying := false }
  (s1.withAssay { s1.assay with running := some k }).bump (assayCtr 1) 1

/-- TRIGGER_DELAY_END: the sequence starts, from power-down, or the trigger is pending (R431). -/
def execTriggerDelayEnd (src : Fin 33) (s : State) : Ans :=
  let k := src.val
  happen (s.live && (s.source k).delaying) s
    (match s.assay.running with
     | none => (s.startSeq k).bump (assayCtr 2) 1
     | some _ =>
       let s1 := s.updSource k fun x => { x with delaying := false }
       s1.withAssay { s1.assay with pending := s1.assay.pending ++ [(s.converterClock, k)] })

/-- The pending trigger that starts next: the oldest, of one clock the lowest source. -/
def nextPending : List (Nat × Nat) → Option (Nat × Nat)
  | [] => none
  | e :: r =>
    match nextPending r with
    | none => some e
    | some f => some (if f.1 < e.1 ∨ (f.1 = e.1 ∧ f.2 < e.2) then f else e)

/-- The junction range of the unit, as codes of channels 48 to 77 (Tables 0-1 and 15-2). -/
def junctionLow : Nat := if Config.orderX then 1536 else 3776
def junctionHigh : Nat := if Config.orderX then 11456 else 10816

/-- Junction readings by region, in quarter codes. -/
def State.junctions (s : State) : List (Nat × Nat) :=
  (List.range 30).filterMap fun r => (s.chan (48 + r)).value.map fun v => (r, v)

/-- How far a reading lies beyond the range, negative inside it. -/
def beyond (v : Nat) : Int := max ((4 * junctionLow : Nat) - (v : Int)) ((v : Int) - (4 * junctionHigh : Nat))

/-- The reading that lies furthest out. -/
def extreme : List (Nat × Nat) → Option (Nat × Nat)
  | [] => none
  | e :: r => match extreme r with
    | none => some e
    | some f => some (if beyond e.2 < beyond f.2 then f else e)

/-- A reading in 0.1 °C: code/64 − 64. -/
def tenths (v free : Nat) : Int := meanOf (10 * (v : Int) - 640 * 256) 256 free

/-- The internal scan compares the junction channels (R435). -/
def State.judgeJunctions (s : State) : State :=
  match extreme s.junctions with
  | none => s
  | some (r, v) =>
    let outside := decide (0 < beyond v)
    if outside = s.assay.tempOut then s
    else
      let s1 := s.take.2.withAssay { s.assay with tempOut := outside }
      let s2 := if outside then s1.withBar0 { s1.bar0 with tempExcursion := true } else s1
      s2.raise 0x0206 (if outside then 4 else 1) assayHa (b2n outside * 2 ^ 31 + r * 2 ^ 20 + satInt 16 (tenths v s.take.1))

/-- SEQUENCE_END: the next pending sequence starts at once, or the converter powers down (R431). -/
def execSequenceEnd (s : State) : Ans :=
  match s.assay.running with
  | none => .next s
  | some k =>
    let s1 := if k = 32 then s.judgeJunctions else s
    happen s.live s
      (match nextPending s1.assay.pending with
       | none => s1.withAssay { s1.assay with running := none }
       | some e => ((s1.withAssay { s1.assay with pending := dropFirst (· == e) s1.assay.pending }).startSeq e.2).bump (assayCtr 3) 1)

/-! ### Results, decimation, windows (R432 to R434) -/

/-- A channel's new value is compared to its window (R434). -/
def State.compare (c : Nat) (s : State) : State :=
  let x := s.chan c
  match x.value with
  | none => s
  | some v =>
    if !x.window then s
    else if !x.out && (decide (v < 4 * x.low) || decide (4 * x.high < v)) then
      ((s.updChan c fun x => { x with out := true }).bump (assayCtr 6) 1).raise 0x0201 2 assayHa (c * 2 ^ 16 + v)
    else if x.out && decide (4 * x.low + 4 * x.hyst ≤ v) && decide (v + 4 * x.hyst ≤ 4 * x.high) then
      s.updChan c fun x => { x with out := false }
    else s

/-- A preset takes over: with a cross-fade between two filters, else at the next output (R433). -/
def AsChan.take (x : AsChan) : AsChan :=
  if x.fade.isSome ∨ x.filter = x.filterNow then x
  else { x with filterNow := x.filter, fade := if x.filter ≠ 0 ∧ x.filterNow ≠ 0 then some (x.filterNow, 0) else none }

/-- CONVERSION_RESULT: channel `ch` of the running sequence gives `code`. Where the channel has a filter, `filterOut` is the
output due at this input, of the filter in force and of the one that goes out (R432 to R434). -/
def execConversionResult (ch : Fin 96) (code : BitVec 14) (filterOut : Option (BitVec 16 × BitVec 16)) (s : State) : Ans :=
  let c := ch.val
  let x := s.chan c
  let s1 := s.bump (assayCtr 0) 1
  let on := match s.assay.running with | some k => (s.seqOf k).contains c | none => false
  happen (s.live && on) s
    (if x.filterNow = 0 then
       (s1.updChan c fun x => { x with value := some (4 * code.toNat), filtered := false }).compare c
     else match filterOut with
       | none => s1
       | some (new, old) =>
         match x.fade with
         | none => (s1.updChan c fun x => { x with value := some new.toNat, filtered := true }).compare c
         | some (f, k) =>
           let v := (meanOf ((255 - k) * old.toNat + (k + 1) * new.toNat : Nat) 256 s1.take.1).toNat
           let next : AsChan := { x with value := some v, filtered := true, fade := if k = 255 then none else some (f, k + 1) }
           ((s1.take.2).updChan c fun _ => next.take).compare c)

/-! ### Bias loops (R436) -/

/-- The loop can run: a QUADRATURE loop needs a sweep. -/
def AsBias.able (x : AsBias) : Bool := x.enable && !(x.kind == 2 && x.sweep.isNone)

/-- A sweep of the loop runs. -/
def State.sweeping (s : State) (l : Nat) : Bool := s.assay.cals.any fun c => c.kind == 7 && c.subject == l

/-- The duty at the pin, in units of 1/65,536. -/
def State.dutyNow (s : State) (l : Nat) : Rat := if (s.bias l).enable then (s.bias l).d else ((s.pwm l).duty : Rat)

/-- q: the midpoint of the latest sweep's extremes. -/
def AsBias.q (x : AsBias) : Rat := match x.sweep with | some (a, b) => ((a : Rat) + (b : Rat)) / 2 | none => 0

/-- 2^(8 − GAIN). -/
def gainOf (g : Nat) : Rat := (256 : Rat) / ((2 ^ g : Nat) : Rat)

/-- The loop's duty after a dither cycle with monitor means `p` and `m`, before clamping, and the error (R436). -/
def AsBias.update (x : AsBias) (p m : Rat) : Rat × Rat :=
  let s : Rat := if x.sign then -1 else 1
  let mid := (p + m) / 2
  if x.kind = 0 then (x.d - (p - m) * gainOf x.gain, p - m)
  else if x.kind = 1 then (x.d + (p - m) * gainOf x.gain, p - m)
  else if x.kind = 2 then (x.d + s * (x.q - mid) * gainOf x.gain, p - m)
  else (x.d + s * ((x.target : Rat) - mid) * gainOf x.gain, (x.target : Rat) - mid)

/-- The bounds of the clamp. -/
def AsBias.lo (x : AsBias) : Rat := ((x.dutyMin + x.dither : Nat) : Rat)
def AsBias.hi (x : AsBias) : Rat := ((x.dutyMax : Nat) : Rat) - ((x.dither : Nat) : Rat)

/-- BIAS_LOOP_UPDATE: `plus` and `minus` are the sums of the DITHER_PERIODS monitor samples of each half. -/
def execBiasLoopUpdate (l : Fin 24) (plus minus : Nat) (s : State) : Ans :=
  let x := s.bias l.val
  let n : Rat := (x.ditherPeriods : Rat)
  let v := x.update ((plus : Rat) / n) ((minus : Rat) / n)
  let d := if v.1 < x.lo then x.lo else if x.hi < v.1 then x.hi else v.1
  happen (s.live && x.able && (s.pwm l.val).enable && !s.sweeping l.val) s
    ((s.updBias l.val fun x => { x with d := d, clamped := v.1 < x.lo || x.hi < v.1, err := v.2 }).bump (assayCtr 9) 1)

/-- The loop margin (R436). -/
def State.loopMargin (s : State) (l : Nat) : Rat :=
  let x := s.bias l
  let d := s.dutyNow l
  let a := d - (x.dutyMin : Rat); let b := (x.dutyMax : Rat) - d
  (if a < b then a else b) / ((x.dutyMax - x.dutyMin : Nat) : Rat)

/-- The condition of a cause of ASSAY_BIAS: 1 margin, 2 clamped, 3 monitor out of band. -/
def State.biasWrong (s : State) (l cause : Nat) : Bool :=
  if cause = 1 then decide (s.loopMargin l < 1 / 20) else if cause = 2 then (s.bias l).clamped else (s.chan (s.bias l).monitor).out

/-- BIAS_ALARM_HOLD: a cause has held for 1 s, or, with cause 4, none has (R436). -/
def execBiasAlarmHold (l : Fin 24) (cause : Fin 5) (s : State) : Ans :=
  let x := s.bias l.val
  let say (n : Nat) (s : State) : State := s.raise 0x0204 2 assayHa (n * 2 ^ 28 + l.val)
  if cause.val = 0 then .next s
  else if cause.val = 4 then
    happen (s.live && !x.alarms.isEmpty && !([1, 2, 3].any (s.biasWrong l.val))) s
      (say 4 (s.updBias l.val fun x => { x with alarms := [] }))
  else
    happen (s.live && x.able && s.biasWrong l.val cause.val && !x.alarms.contains cause.val) s
      (say cause.val (s.updBias l.val fun x => { x with alarms := x.alarms ++ [cause.val] }))

/-! ### Opcodes (R443, R444) -/

/-- Every channel with a preset stands once, in the sequence of one timer of 2.5 µs (R432). -/
def State.filtersOk (s : State) : Bool :=
  s.assay.chans.all fun e =>
    e.2.filter == 0 ||
    (((List.range 33).map fun k => ((s.seqOf k).filter (· == e.1)).length).sum == 1 &&
      (List.range 8).any fun t => (s.seqOf t).contains e.1 && (s.timer t).period == 20)

/-- A timer's setting. -/
def setTimer (c : Cmd) (s : State) : State :=
  s.withAssay { s.assay with timers := Tab.set {} s.assay.timers ((c.p 0).fld 31 29) ⟨(c.p 0).bit 28, (c.p 0).fld 23 0⟩ }

/-- ASSAY_TIMER_SET (Table 15-9). -/
def assayTimerSetOp : OpDef where
  code := 0x0201
  lo := 1
  hi := 1
  targetOk := targetAssay
  check := fun c s => firstRej [resv c 0 27 24, param (!(c.p 0).bit 28 || (c.p 0).fld 23 0 != 0) 0, param (setTimer c s).filtersOk 0 0x39]
  effect := sets setTimer

def execAssayTimerSet (c : Cmd) (s : State) : Ans := serve assayTimerSetOp c s

/-- The channels an ASSAY_SEQ_SET lists, all its bytes in order. -/
def seqBytes (c : Cmd) : List Nat := (bytesOf c.params.tail).map BitVec.toNat

def setSeq (c : Cmd) (s : State) : State :=
  s.updSource ((c.p 0).fld 31 27) fun x => { x with seq := (seqBytes c).take ((c.p 0).fld 20 16), delay := (c.p 0).fld 15 0 }

/-- ASSAY_SEQ_SET (Table 15-9). -/
def assaySeqSetOp : OpDef where
  code := 0x0202
  lo := 1
  hi := 5
  targetOk := targetAssay
  check := fun c s =>
    let n := (c.p 0).fld 20 16
    firstRej [resv c 0 26 21, param (decide (n ≤ 16)) 0, param (c.params.length == 1 + (n + 3) / 4) 0 5,
      param (((seqBytes c).take n).all fun x => decide (x ≤ 90)) 1, param (((seqBytes c).drop n).all (· == 0)) (1 + n / 4),
      param (setSeq c s).filtersOk 0 0x39]
  effect := sets setSeq

def execAssaySeqSet (c : Cmd) (s : State) : Ans := serve assaySeqSetOp c s

/-- A channel's setting (R433, R434). -/
def setChan (c : Cmd) (s : State) : State :=
  s.updChan ((c.p 0).fld 31 25) fun x =>
    let low := (c.p 1).fld 29 16; let high := (c.p 1).fld 13 0; let hyst := (c.p 0).fld 13 0
    AsChan.take { x with
      filter := (c.p 0).fld 24 23, window := (c.p 0).bit 22, hyst := hyst, low := low, high := high,
      out := x.out && decide (low = x.low ∧ high = x.high ∧ hyst = x.hyst) }

/-- ASSAY_CHAN_SET (Table 15-10). -/
def assayChanSetOp : OpDef where
  code := 0x0203
  lo := 2
  hi := 2
  targetOk := targetAssay
  check := fun c s =>
    firstRej [param (decide ((c.p 0).fld 31 25 ≤ 90)) 0, resv c 0 21 14, resv c 1 31 30, resv c 1 15 14,
      param (decide ((c.p 1).fld 29 16 ≤ (c.p 1).fld 13 0)) 1 5, param (setChan c s).filtersOk 0 0x39]
  effect := sets setChan

def execAssayChanSet (c : Cmd) (s : State) : Ans := serve assayChanSetOp c s

/-- A word of ASSAY_TELEM_READ (Table 15-11). -/
def AsChan.word (x : AsChan) : Word :=
  mkw [(31, 31, b2n x.value.isSome), (30, 30, b2n x.filtered), (29, 29, b2n x.out), (15, 0, x.value.getD 0)]

/-- ASSAY_TELEM_READ (R429). -/
def assayTelemReadOp : OpDef where
  code := 0x0204
  lo := 1
  hi := 1
  targetOk := targetAssay
  check := fun c _ =>
    let n := (c.p 0).fld 24 18
    firstRej [param (decide (1 ≤ n ∧ n ≤ 96)) 0, param (decide ((c.p 0).fld 31 25 + n ≤ 96)) 0, resv c 0 17 0]
  effect := reads fun c s => (List.range ((c.p 0).fld 24 18)).map fun k => (s.chan ((c.p 0).fld 31 25 + k)).word

def execAssayTelemRead (c : Cmd) (s : State) : Ans := serve assayTelemReadOp c s

/-- ASSAY_PWM_SET (Table 15-10, R444). -/
def assayPwmSetOp : OpDef where
  code := 0x0205
  lo := 2
  hi := 2
  targetOk := targetAssay
  check := fun c s =>
    let l := (c.p 0).fld 31 27
    firstRej [param (decide (l ≤ 23)) 0, resv c 0 25 16, param (decide (256 ≤ (c.p 0).fld 15 0)) 0, resv c 1 31 16,
      stateErr (!((c.p 0).bit 26 && (s.bias l).enable && (c.p 1).fld 15 0 != (s.pwm l).duty)) 0x36]
  effect := sets fun c s =>
    s.updPwm ((c.p 0).fld 31 27) fun x => { x with enable := (c.p 0).bit 26, period := (c.p 0).fld 15 0, duty := (c.p 1).fld 15 0 }

def execAssayPwmSet (c : Cmd) (s : State) : Ans := serve assayPwmSetOp c s

/-- ASSAY_BIAS_SET (Table 15-10, R444). -/
def assayBiasSetOp : OpDef where
  code := 0x0206
  lo := 3
  hi := 3
  targetOk := targetAssay
  check := fun c s =>
    let l := (c.p 0).fld 31 27; let m := (c.p 0).fld 6 0; let port := (c.p 0).fld 23 21; let di := (c.p 2).fld 27 16
    firstRej [param (decide (l ≤ 23)) 0, param (decide (port ≤ 3) || port == 7) 0, resv c 0 19 16, param ((c.p 0).fld 15 8 != 0) 0,
      resv c 0 7 7, param (decide (m ≤ 47) && (s.seqOf (8 + l)).contains m) 0 5,
      param (decide ((c.p 1).fld 31 16 + 2 * di < (c.p 1).fld 15 0)) 1 5, param (di != 0) 2, resv c 2 15 14]
  effect := sets fun c s =>
    let l := (c.p 0).fld 31 27
    let on := (c.p 0).bit 26
    let d : Rat := if on then s.dutyNow l else 0
    s.updBias l fun x => { x with
      enable := on, kind := (c.p 0).fld 25 24, port := (c.p 0).fld 23 21, sign := (c.p 0).bit 20,
      ditherPeriods := (c.p 0).fld 15 8, monitor := (c.p 0).fld 6 0, dutyMin := (c.p 1).fld 31 16, dutyMax := (c.p 1).fld 15 0,
      gain := (c.p 2).fld 31 28, dither := (c.p 2).fld 27 16, target := (c.p 2).fld 13 0, d := d, clamped := x.clamped && on }

def execAssayBiasSet (c : Cmd) (s : State) : Ans := serve assayBiasSetOp c s

/-- The words of ASSAY_BIAS_STATUS (Table 15-11). -/
def State.biasWords (s : State) (l : Nat) (free : Nat → Nat) : List Word :=
  let x := s.bias l
  let st := if s.sweeping l then 3 else if !x.able then 0 else if x.clamped then 2 else 1
  let sw := x.sweep.getD (0, 0)
  [mkw [(31, 28, st), (15, 0, Int.bits 16 (roundFree (s.dutyNow l) (free 0)))],
   mkw [(31, 16, satInt 16 (roundFree (s.loopMargin l * 1000) (free 1))), (15, 0, satInt 16 (roundFree x.err (free 2)))],
   mkw [(31, 16, sw.1), (15, 0, sw.2)]]

/-- ASSAY_BIAS_STATUS (R436). -/
def assayBiasStatusOp : OpDef where
  code := 0x0207
  lo := 1
  hi := 1
  targetOk := targetAssay
  check := fun c _ => firstRej [resv c 0 31 5, param (decide ((c.p 0).fld 4 0 ≤ 23)) 0]
  effect := fun c s => (.ok (s.biasWords ((c.p 0).fld 4 0) fun k => Config.freeValue (s.free + k)), s.withFree (s.free + 3))

def execAssayBiasStatus (c : Cmd) (s : State) : Ans := serve assayBiasStatusOp c s

/-- ASSAY_COUNTERS (R445). -/
def assayCountersOp : OpDef where
  code := 0x020C
  lo := 0
  hi := 0
  targetOk := targetAssay
  effect := reads fun _ s => s.counterWords (assayCtr 0) 12

def execAssayCounters (c : Cmd) (s : State) : Ans := serve assayCountersOp c s

end Sys2Proof.Machine
end

