-- ==== Sys2Proof/Machine/Bar0.lean ====
section
/-!
DEFINITION. The BAR0 window, the rings, the delivery of events, and the SPI transactions (spec/02 R57 to R71, R546).
-/

set_option Elab.async false

namespace Sys2Proof.Machine

/-! ### Pins and reach -/

/-- SPI takes transactions unless a cold reset is held (spec/20 R517). -/
def State.spiUp (s : State) : Bool := decide (s.boot.phase ≠ .reset) && !s.timing.clockLost

/-- READY is low while the queue's mailbox holds a packet not yet taken (R66). -/
def State.readyPin (s : State) (q : Nat) : Bool := s.spiUp && (Tab.get [] s.clerk.mail q).isEmpty

/-- ATTN_N is low while a reply or an event record is pending on SPI (R67). -/
def State.attnLow (s : State) : Bool :=
  s.spiUp && (!s.clerk.spiReply.isEmpty || !s.clerk.ev.b.buf.isEmpty || decide (0 < s.clerk.ev.b.dropped))

/-! ### Reading the window (R68, R70) -/

/-- The ring a ring-block offset belongs to, and the register inside its block. -/
def ringAt (off : Nat) : Option (Nat × Nat) :=
  if 0x100 ≤ off ∧ off < 0x220 then
    if (off - 0x100) % 0x20 ≤ 0x10 then some ((off - 0x100) / 0x20, (off - 0x100) % 0x20) else none
  else none

/-- A register of a ring block (Table 2-10). -/
def Ring.read (r : Ring) (reg : Nat) : Word :=
  if reg = 0 then w32 r.base else if reg = 4 then w32 (r.base / 2 ^ 32)
  else if reg = 8 then mkw [(31, 31, b2n r.enable), (30, 30, b2n r.stopped), (4, 0, r.sizeLog2)]
  else if reg = 12 then w32 r.prod else w32 r.cons

/-- The value of a word of the BAR0 window for an interface (Table 2-10); unlisted offsets read as zero. -/
def State.bar0Word (s : State) (i : Iface) (off : Nat) : Word :=
  if off % 4 ≠ 0 ∨ off ≥ 0x1000 then 0
  else if off = 0 then 0x64001F6B
  else if off = 4 then 0xB1
  else if off = 8 then w32 s.boot.fwVersion
  else if off = 0xC then w32 s.boot.fwImage
  else if off = 0x10 then w32 s.boot.bootState
  else if off = 0x14 then
    mkw [(5, 5, b2n s.pairReady), (4, 4, b2n s.bar0.tempExcursion), (3, 3, b2n s.bar0.paceShort),
         (2, 2, b2n s.spareExhausted), (1, 0, s.hier.health)]
  else if off = 0x40 then w32 s.time
  else if off = 0x44 then w32 (s.bar0.latchHi.get i)
  else if off = 0x48 then w32 (s.bar0.latchWrap.get i)
  else if 0x220 ≤ off ∧ off < 0x260 then w32 (Tab.get 4 s.bar0.vector ((off - 0x220) / 4))
  else if 0x800 ≤ off ∧ off < 0xA00 then s.bar0.msixWord ((off - 0x800) / 4)
  else if off = 0xC00 then
    w32 (((List.range 32).map fun v => if Tab.get false s.bar0.msixPending v then 2 ^ v else 0).sum)
  else match ringAt off with
    | some (k, reg) => (s.ring k).read reg
    | none => 0

/-- Latch TIME_HI and TIME_WRAP for an interface (R70, R71). -/
def State.latchTime (i : Iface) (s : State) : State :=
  s.withBar0 { s.bar0 with latchHi := s.bar0.latchHi.set i (s.time / 2 ^ 32 % 2 ^ 32),
                           latchWrap := s.bar0.latchWrap.set i (s.time / 2 ^ 64 % 2 ^ 32) }

/-- Read one word: TIME_LO latches its companions. -/
def State.readBar0 (i : Iface) (off : Nat) (s : State) : Word × State :=
  (s.bar0Word i off, if off = 0x40 then s.latchTime i else s)

/-- Read `n` consecutive words. -/
def readWords (i : Iface) : Nat → Nat → State → List Word × State
  | 0, _, s => ([], s)
  | n + 1, off, s =>
    let (w, t) := s.readBar0 i off
    let (ws, u) := readWords i n (off + 4) t
    (w :: ws, u)

/-! ### Writing the window (R57 to R60, R64, R68) -/

/-- Vectors of the event ring are 4 to 31 (R64). -/
def State.rearmEvents (s : State) : State := (List.range 28).foldl (fun s k => s.rearm (k + 4)) s

/-- Re-arm what ring `k` serves: a reply ring its queue's vector, the event ring the event vectors (R64). -/
def State.rearmRing (k : Nat) (s : State) : State :=
  if k = 8 then s.rearmEvents else if 4 ≤ k then s.rearm (k - 4) else s

/-- Replies that wait for reply ring `k` are written (R58, R59). -/
def State.flushRing (k : Nat) (s : State) : State :=
  if 4 ≤ k ∧ k < 8 then s.flushReplies (Fin.ofNat 4 (k - 4)) else s

/-- Enabling a ring: indexes to zero, PHASE to 1 on the event ring, vectors re-armed; a size outside its range stops
the ring (R59 to R61, R64). -/
def State.enableRing (k : Nat) (r : Ring) (s : State) : State :=
  if r.sizeOk k then
    let t := s.setRing k { r with enable := true, prod := 0, cons := 0 }
    ((if k = 8 then t.withBar0 { t.bar0 with phase := true } else t).rearmRing k).flushRing k
  else (s.setRing k { r with prod := 0, cons := 0 }).stopRing k

/-- A write of ring + 0x08: STOPPED is cleared by a one; SIZE_LOG2 changes only while ENABLE is 0; ENABLE from 0 to 1
enables the ring (R59, R60). -/
def State.writeRingCtl (k : Nat) (v : Word) (s : State) : State :=
  let r := s.ring k
  let r1 := { r with stopped := r.stopped && !v.bit 30 }
  if r.enable then s.setRing k { r1 with enable := v.bit 31 }
  else if v.bit 31 then s.enableRing k { r1 with sizeLog2 := v.fld 4 0 }
  else s.setRing k { r1 with sizeLog2 := v.fld 4 0 }

/-- Alignment of a ring's base: 4 KiB on the event ring, 8 KiB on the others (R57). -/
def baseAlign (k : Nat) : Nat := if k = 8 then 4096 else 8192

/-- A write of BASE_LO or BASE_HI: no effect while ENABLE is 1; bits below the alignment are reserved (R57, R59). -/
def State.writeBase (k : Nat) (high : Bool) (v : Word) (s : State) : State :=
  let r := s.ring k
  if r.enable then s
  else
    let b := if high then r.base % 2 ^ 32 + v.toNat * 2 ^ 32
      else r.base / 2 ^ 32 * 2 ^ 32 + v.toNat / baseAlign k * baseAlign k
    s.setRing k { r with base := b }

/-- A write of PROD on a command ring, the doorbell; an index outside an enabled ring stops it (R58, R60). -/
def State.writeProd (k : Nat) (v : Word) (s : State) : State :=
  let r := s.ring k
  let n := v.fld 15 0
  if 4 ≤ k then s
  else if r.enable = true ∧ r.size ≤ n then s.stopRing k
  else s.setRing k { r with prod := n }

/-- A write of CONS on a reply or event ring; an index outside an enabled ring stops it; an advance re-arms the
vectors the ring serves and makes room (R58, R60, R64). -/
def State.writeCons (k : Nat) (v : Word) (s : State) : State :=
  let r := s.ring k
  let n := v.fld 15 0
  if k < 4 then s
  else if r.enable = true ∧ r.size ≤ n then s.stopRing k
  else if r.enable = true ∧ n ≠ r.cons then ((s.setRing k { r with cons := n }).rearmRing k).flushRing k
  else s.setRing k { r with cons := n }

/-- A write of VECTOR: values 0 to 3 leave the field unchanged (Table 2-10). -/
def State.writeVector (g : Nat) (v : Word) (s : State) : State :=
  if v.fld 4 0 < 4 then s else s.withBar0 { s.bar0 with vector := Tab.set 4 s.bar0.vector g (v.fld 4 0) }

/-- A write of the MSI-X table; clearing an entry's mask bit sends a message that was pending. -/
def State.writeMsix (k : Nat) (v : Word) (s : State) : State :=
  let t := s.withBar0 { s.bar0 with msixTable := Tab.set none s.bar0.msixTable k (some v) }
  if k % 4 = 3 ∧ v.bit 0 = false ∧ Tab.get false s.bar0.msixPending (k / 4) = true then
    (t.withBar0 { t.bar0 with msixPending := Tab.set false t.bar0.msixPending (k / 4) false }).emit (.msix (k / 4))
  else t

/-- A write of 0x014: ones clear TEMP_EXCURSION and PACE_SHORT (W1C). -/
def State.writeStatus (v : Word) (s : State) : State :=
  (s.withBar0 { s.bar0 with tempExcursion := s.bar0.tempExcursion && !v.bit 4,
                            paceShort := s.bar0.paceShort && !v.bit 3 }).refreshHealth

/-- A write of one word of the BAR0 window; read-only and unlisted offsets ignore it (R68). -/
def State.writeBar0 (off : Nat) (v : Word) (s : State) : State :=
  if off % 4 ≠ 0 ∨ off ≥ 0x1000 then s
  else if off = 0x14 then s.writeStatus v
  else if 0x220 ≤ off ∧ off < 0x260 then s.writeVector ((off - 0x220) / 4) v
  else if 0x800 ≤ off ∧ off < 0xA00 then s.writeMsix ((off - 0x800) / 4) v
  else match ringAt off with
    | some (k, reg) =>
      if reg = 0 then s.writeBase k false v
      else if reg = 4 then s.writeBase k true v
      else if reg = 8 then s.writeRingCtl k v
      else if reg = 12 then s.writeProd k v
      else s.writeCons k v
    | none => s

/-- Write consecutive words. -/
def writeWords : Nat → List Word → State → State
  | _, [], s => s
  | off, w :: ws, s => writeWords (off + 4) ws (s.writeBar0 off w)

/-! ### The host's writes -/

/-- DOORBELL_WRITE: the host writes PROD of a command ring (R58, R60). -/
def execDoorbellWrite (q : Queue) (value : Word) (s : State) : Ans := happen s.pcie s (s.writeProd q.val value)

/-- CONS_WRITE: the host writes CONS of a reply or the event ring (R58, R64). -/
def execConsWrite (ring : Fin 9) (value : Word) (s : State) : Ans := happen s.pcie s (s.writeCons ring.val value)

/-- RING_ENABLE: ENABLE is written from 0 to 1 (R59, R60). -/
def execRingEnable (ring : Fin 9) (value : Word) (s : State) : Ans :=
  happen (s.pcie && value.bit 31 && !(s.ring ring.val).enable) s (s.writeRingCtl ring.val value)

/-- RING_DISABLE: ENABLE is written from 1 to 0 (R59). -/
def execRingDisable (ring : Fin 9) (value : Word) (s : State) : Ans :=
  happen (s.pcie && !value.bit 31 && (s.ring ring.val).enable) s (s.writeRingCtl ring.val value)

/-- RING_STOP: a PCI Express transfer to or from the ring fails (R60). -/
def execRingStop (ring : Fin 9) (s : State) : Ans :=
  happen (s.pcie && (s.ring ring.val).enable) s (s.stopRing ring.val)

/-- STOPPED_CLEAR: a one is written to STOPPED (R60). -/
def execStoppedClear (ring : Fin 9) (value : Word) (s : State) : Ans :=
  happen (s.pcie && value.bit 30) s (s.writeRingCtl ring.val value)

/-- TEMP_EXCURSION_CLEAR: a one is written to TEMP_EXCURSION (R68). -/
def execTempExcursionClear (value : Word) (s : State) : Ans :=
  happen (s.pcie && value.bit 4) s (s.writeStatus value)

/-- PACE_SHORT_CLEAR: a one is written to PACE_SHORT (R68). -/
def execPaceShortClear (value : Word) (s : State) : Ans :=
  happen (s.pcie && value.bit 3) s (s.writeStatus value)

/-- TIME_LO_READ: TIME_LO alone, or TIME_LO and TIME_HI in one read, by either interface (R70, R71). -/
def execTimeLoRead (i : Iface) (wide : Bool) (s : State) : Ans :=
  let t := s.latchTime i
  happen (if i = 0 then s.pcie else s.spiUp) s
    (t.emit (.data (if wide then [w32 s.time, w32 (s.time / 2 ^ 32)] else [w32 s.time])))

/-- REGISTER_WRITE: the host writes a word of the BAR0 window (R68). -/
def execRegisterWrite (offset : BitVec 12) (value : Word) (s : State) : Ans :=
  happen s.pcie s (s.writeBar0 offset.toNat value)

/-! ### Events to the host (R62, R64) -/

/-- The next record an interface delivers: EVENTS_LOST first after drops, else the oldest (R62). -/
def State.nextEvent (i : Iface) (s : State) : Option (EvRec × State) :=
  let b := s.clerk.ev.get i
  if 0 < b.dropped then
    let r : EvRec := ⟨0x0002, 3, clerkHa, b.dropped, s.timeWord⟩
    let t := (s.bump (evCtr 0x0002) 1).logFault r
    some (r, t.withClerk { t.clerk with ev := t.clerk.ev.upd i fun b => { b with dropped := 0 } })
  else match b.buf with
    | [] => none
    | r :: l => some (r, s.withClerk { s.clerk with ev := s.clerk.ev.set i { b with buf := l } })

/-- EVENT_DELIVER: a buffered record is written to the event ring once it has room (R61, R62, R64). -/
def execEventDeliver (s : State) : Ans :=
  let r := s.ring 8
  .next <|
    if s.pcie && r.enable && !r.full then
      match s.nextEvent 0 with
      | none => s
      | some (e, t) =>
        let p := (r.prod + 1) % r.size
        let u := (t.setRing 8 { r with prod := p }).emit (.event r.prod (e.words s.bar0.phase))
        let v := if p = 0 then u.withBar0 { u.bar0 with phase := !s.bar0.phase } else u
        v.signal (Tab.get 4 s.bar0.vector (e.code / 256))
    else s

/-- A queue waits for nothing that stops its bound: its reply ring has room and it does not wait under FENCE (R53). -/
def State.boundRuns (s : State) (i : Iface) (q : Queue) : Bool :=
  (i == 1 || s.replyRoom q) && !(s.clerk.held.any fun h => h.iface == i && h.queue == q && h.await == none)

/-- BOUND_EXPIRY: a queue's bound expires with the reply unwritten (R53, Table 2-8). -/
def execBoundExpiry (i : Iface) (q : Queue) (seq : Byte) (s : State) : Ans :=
  happen (s.serves i && s.boundRuns i q) s
    ((s.bump (protoCtr i (3 + q.val)) 1).raise 0x0005 2 clerkHa (i.val * 2 ^ 24 + q.val * 2 ^ 16 + seq.toNat * 2 ^ 8))

/-! ### SPI transactions (R65 to R67) -/

/-- A packet is lost: the interface's CRC-failure counter advances and CMD_LOST is posted (R50, Table 2-8). -/
def State.lose (i : Iface) (data : Nat) (s : State) : State :=
  (s.bump (protoCtr i 0) 1).raise 0x0001 2 clerkHa (i.val * 2 ^ 24 + data)

/-- DATA of CMD_LOST for a packet of a queue whose word 0 arrived or not. -/
def lostData (q : Nat) (w0 : Option Word) : Nat :=
  q * 2 ^ 16 + (match w0 with | none => 0 | some w => 2 ^ 31 + w.fld 15 8 * 2 ^ 8)

/-- Step 1 of Table 2-4 can be judged, and either it fails or the packet is whole. -/
def packetWhole (ws : List Word) : Bool :=
  match ws with
  | _ :: w1 :: _ => decide (2045 < w1.fld 31 20) || decide (w1.fld 31 20 + 3 ≤ ws.length)
  | _ => false

/-- SPI_WRITE_CMD: a packet is written to a queue's mailbox; one cut short by CS is lost; an index above 3 voids the
transaction (R65 to R67). While READY is low the controller holds SCK, so nothing is written. -/
def execSpiWriteCmd (index : Byte) (packet : List Word) (s : State) : Ans :=
  .next <|
    if !s.spiUp then s
    else if 3 < index.toNat then s.lose 1 (2 ^ 18)
    else if !(Tab.get [] s.clerk.mail index.toNat).isEmpty then s
    else if packetWhole packet then
      s.withClerk { s.clerk with mail := Tab.set [] s.clerk.mail index.toNat packet }
    else s.lose 1 (lostData index.toNat packet.head?)

/-- `n` words taken from a list, zeros past its end. -/
def padTake (n : Nat) (ws : List Word) : List Word := (ws ++ List.replicate n 0).take n

/-- SPI_READ_REPLY: the oldest unread reply of a queue; it leaves only when its last word has been clocked out; an index
above 3 returns zeros (R65, R67). -/
def execSpiReadReply (index : Byte) (count : Nat) (s : State) : Ans :=
  .next <|
    if !s.spiUp then s
    else if 3 < index.toNat then s.emit (.data (List.replicate count 0))
    else match Tab.get [] s.clerk.spiReply index.toNat with
      | [] => s.emit (.data (List.replicate count 0))
      | r :: l =>
        let t := if r.length ≤ count then
            s.withClerk { s.clerk with spiReply := Tab.set [] s.clerk.spiReply index.toNat l } else s
        t.emit (.data (padTake count r))

/-- Read `n` whole event records from SPI, then `part` words of the next. DESIGN CHOICE: PHASE reads 0 on SPI, which has
no ring (notes/assumptions/9). -/
def readEvents : Nat → Nat → State → List Word × State
  | 0, part, s =>
    match s.nextEvent 1 with
    | none => (List.replicate part 0, s)
    | some (e, _) => ((e.words false).take part, s)
  | n + 1, part, s =>
    match s.nextEvent 1 with
    | none => (List.replicate (4 * (n + 1) + part) 0, s)
    | some (e, t) =>
      let (ws, u) := readEvents n part t
      (e.words false ++ ws, u)

/-- SPI_READ_EVENT: pending records, oldest first; a record leaves only when its last word has been clocked out
(R62, R65, R67). -/
def execSpiReadEvent (count : Nat) (s : State) : Ans :=
  let r := readEvents (count / 4) (count % 4) s
  happen s.spiUp s (r.2.emit (.data r.1))

/-- SPI_READ_WINDOW: consecutive words of the BAR0 window (R65, R68). -/
def execSpiReadWindow (offset : BitVec 16) (count : Nat) (s : State) : Ans :=
  let r := readWords 1 count offset.toNat s
  happen s.spiUp s (r.2.emit (.data r.1))

/-- SPI_WRITE_WINDOW: consecutive words into the BAR0 window (R65, R68). -/
def execSpiWriteWindow (offset : BitVec 16) (data : List Word) (s : State) : Ans :=
  happen s.spiUp s (writeWords offset.toNat data s)

/-- SPI_BAD_INSTRUCTION: an instruction byte not listed in Table 2-9 voids its transaction (R65). -/
def execSpiBadInstruction (code : Byte) (s : State) : Ans :=
  happen (s.spiUp && (code.toNat == 0 || decide (5 < code.toNat))) s (s.lose 1 (2 ^ 19))

end Sys2Proof.Machine
end

