-- ==== Sys2Proof/Machine/Hallmark.lean ====
section
/-!
DEFINITION. Hallmark: measurement, attestation, image checks, fuses, the key-encryption key and the counter mask
(spec/16). Identity proofs on the Crier stand with the Crier.
-/

set_option Elab.async false

namespace Sys2Proof.Machine

/-- The vault, Hallmark's unit address in its events (Table 16-7). -/
def vaultHa : Nat := haOf 0 3 0x3F

/-- The bytes of a text in ASCII. -/
def ascii (t : String) : List Byte := t.toList.map fun c => BitVec.ofNat 8 c.toNat

/-- A measurement register (R450). -/
def State.measure (s : State) (k : Nat) : List Byte := s.hall.measure k

/-- A register is extended by an item (R450). -/
def State.extend (k : Nat) (item : List Byte) (s : State) : State := s.withHall (s.hall.extend k item)

/-- Registers 0 to 7 in order; 6 and 7 read as zero (Table 16-1). -/
def State.measures (s : State) : List Byte := (List.range 8).flatMap s.measure

/-- Register 3 is extended by what it measures, at each change of it (Table 16-1). -/
def State.measureSvn (s : State) : State :=
  s.extend 3 (svnItem s.hall.fuses s.serv.running.svn (s.serv.verified.map (·.svn)))

/-- Signature words: 24 words of ECDSA, 828 words of ML-DSA (Table 16-2). -/
def sigWords (ctx : String) (msg : List Byte) : List Word :=
  wordsOf (fixBytes 96 (Config.signEc msg)) ++ wordsOf (fixBytes 3312 (fixBytes 3309 (Config.signMl (ascii ctx) msg)))

/-! ### Image checks (R452) -/

/-- Header fields of an image (Table 16-2). -/
def imageWord (img : List Word) (k : Nat) : Word := img.getD k 0
def imageInfo (img : List Word) : ImageInfo :=
  ⟨(imageWord img 2).fld 6 0, (imageWord img 1).toNat, bytesOf ((img.drop 4).take 12)⟩

/-- The body bytes of an image. -/
def imageBody (img : List Word) : List Byte := (bytesOf (img.drop 868)).take (imageWord img 3).toNat

/-- MAGIC and LENGTH are valid, and the words are there (Table 16-2). -/
def imageShape (img : List Word) : Bool :=
  (imageWord img 0).toNat == 0x484D4931 && decide (1 ≤ (imageWord img 3).toNat ∧ (imageWord img 3).toNat ≤ 67108864) &&
  decide (868 + ((imageWord img 3).toNat + 3) / 4 ≤ img.length)

/-- The cause of the first failing check of R452, 0 when the image is accepted under `f` blown fuses: 7 MAGIC or LENGTH,
1 to 5 the five checks. -/
def imageCause (f : Nat) (img : List Word) : Nat :=
  let head := bytesOf (img.take 16)
  if !imageShape img then 7
  else if sha384 (imageBody img) ≠ (imageInfo img).digest then 1
  else if !Config.fwVerifyEc head (bytesOf ((img.drop 16).take 24)) then 2
  else if !Config.fwVerifyMl (ascii "HM-IMAGE") head ((bytesOf ((img.drop 40).take 828)).take 3309) then 3
  else if (imageWord img 2).fld 31 24 ≠ 0xB1 then 4
  else if (imageWord img 2).fld 6 0 < f then 5
  else 0

/-- HALLMARK_IMAGE_REJECTED (Table 16-7). -/
def State.imageRejected (cause slot : Nat) (s : State) : State :=
  s.raise 0x0D01 3 vaultHa (cause * 2 ^ 28 + slot)

/-! ### Opcodes (R459) -/

/-- The bytes of a certificate, 1 to 8,160 (Table 16-6). -/
def certBytes (which : Nat) : List Byte :=
  match (Config.cert which).take 8160 with
  | [] => [0]
  | bs => bs

/-- HALLMARK_CERT_READ (R449, Table 16-6). -/
def hallmarkCertReadOp : OpDef where
  code := 0x0D01
  queue := some 2
  lo := 1
  hi := 1
  recovery := true
  targetOk := targetClerk
  check := fun c _ => resv c 0 31 1
  effect := reads fun c _ =>
    let bs := certBytes ((c.p 0).fld 0 0)
    mkw [(15, 0, bs.length)] :: wordsOf bs

def execHallmarkCertRead (c : Cmd) (s : State) : Ans := serve hallmarkCertReadOp c s

/-- HALLMARK_MEASURE_READ: registers 0 to 7 in order (R450). -/
def hallmarkMeasureReadOp : OpDef where
  code := 0x0D02
  lo := 0
  hi := 0
  targetOk := targetClerk
  effect := reads fun _ s => wordsOf s.measures

def execHallmarkMeasureRead (c : Cmd) (s : State) : Ans := serve hallmarkMeasureReadOp c s

/-- Result words 0 to 98 of HALLMARK_ATTEST (Table 16-6). -/
def attestHead (s : State) : List Word :=
  mkw [(6, 0, s.hall.fuses)] :: (words64 s.time64 ++ wordsOf s.measures)

/-- HALLMARK_ATTEST (R451). -/
def hallmarkAttestOp : OpDef where
  code := 0x0D03
  queue := some 2
  lo := 9
  hi := 17
  targetOk := targetClerk
  check := fun c _ =>
    let n := (c.p 0).fld 4 0
    firstRej [resv c 0 31 5, param (decide (8 ≤ n ∧ n ≤ 16)) 0, param (c.params.length == 1 + n) 0 5]
  effect := reads fun c s =>
    attestHead s ++ sigWords "HM-ATTEST" (bytesOf (attestHead s) ++ bytesOf c.params.tail)

def execHallmarkAttest (c : Cmd) (s : State) : Ans := serve hallmarkAttestOp c s

/-- The signed message of an offer: result words 0 to 321 (R457, Table 16-6). -/
def offerMessage (id draw : Nat) : List Word :=
  mkw [(15, 0, id)] :: (wordsOf (fixBytes 100 (fixBytes 97 (Config.ephemeralEc draw))) ++
    wordsOf (fixBytes 1184 (Config.ephemeralKem draw)))

/-- HALLMARK_KEK_OFFER: fresh ephemeral keys; a pending offer is replaced (R457). -/
def hallmarkKekOfferOp : OpDef where
  code := 0x0D04
  queue := some 2
  lo := 0
  hi := 0
  targetOk := targetClerk
  effect := fun _ s =>
    let m := offerMessage s.hall.nextOffer s.free
    (.ok (m ++ sigWords "HM-KEK" (bytesOf m)),
      (s.withFree (s.free + 1)).withHall
        { s.hall with offer := some ⟨s.hall.nextOffer, m⟩, nextOffer := (s.hall.nextOffer + 1) % 65536 })

def execHallmarkKekOffer (c : Cmd) (s : State) : Ans := serve hallmarkKekOfferOp c s

/-- Q, C and CONFIRM of HALLMARK_KEK_ACCEPT (Table 16-6). -/
def acceptQ (c : Cmd) : List Byte := (bytesOf ((c.params.drop 1).take 25)).take 97
def acceptC (c : Cmd) : List Byte := bytesOf ((c.params.drop 26).take 272)
def acceptConfirm (c : Cmd) : List Byte := bytesOf ((c.params.drop 298).take 4)

/-- The pending offer a command's OFFER_ID names. -/
def State.offerNamed (s : State) (id : Nat) : Option Offer :=
  match s.hall.offer with
  | some o => if o.id = id then some o else none
  | none => none

/-- HALLMARK_KEK_ACCEPT: the KEK is replaced if CONFIRM matches; in either case the ephemeral keys are erased (R457). -/
def hallmarkKekAcceptOp : OpDef where
  code := 0x0D05
  queue := some 2
  lo := 302
  hi := 302
  targetOk := targetClerk
  check := fun c s => firstRej [resv c 0 31 16, stateErr (s.offerNamed ((c.p 0).fld 15 0)).isSome 0x3A]
  effect := fun c s =>
    match s.offerNamed ((c.p 0).fld 15 0) with
    | none => (.refused ⟨stState, 0xFFFF, 0x3A⟩, s)
    | some o =>
      let okm := fixBytes 48 (Config.kekOkm (bytesOf o.message) (acceptQ c) (acceptC c))
      let t := s.withHall { s.hall with offer := none }
      if (fixBytes 48 (Config.hmacSha384 (okm.drop 32) (acceptQ c ++ acceptC c))).take 16 = acceptConfirm c then
        (.ok [], (((t.withHall { t.hall with kek := some (okm.take 32) }).extend 5
          (bytesOf o.message ++ acceptQ c ++ acceptC c)).raise 0x0D04 1 vaultHa o.id))
      else (.refused ⟨stRefused, 0xFFFF, 0x3B⟩, t)

def execHallmarkKekAccept (c : Cmd) (s : State) : Ans := serve hallmarkKekAcceptOp c s

/-- A fuse job ends: HALLMARK_FUSE, then JOB_DONE (R453, Table 16-7). -/
def State.endFuse (num status : Nat) (s : State) : State :=
  (s.raise 0x0D02 (if status = stFault then 3 else 1) vaultHa (status * 2 ^ 24 + s.hall.fuses)).endJob num status
    (if status = stAborted then [] else [mkw [(6, 0, s.hall.fuses)]])

/-- HALLMARK_FUSE_ADVANCE (R453). -/
def hallmarkFuseAdvanceOp : OpDef where
  code := 0x0D06
  queue := some 3
  lo := 1
  hi := 1
  long := true
  targetOk := targetClerk
  check := fun c s =>
    let n := (c.p 0).fld 6 0
    firstRej [resv c 0 31 7, param (decide (n ≤ 64)) 0,
      need (decide (n ≤ s.hall.fuses) || (decide (n ≤ s.serv.running.svn) &&
        (match s.serv.verified with | some v => decide (n ≤ v.svn) | none => true))) ⟨stRefused, 0xFFFF, 0x3C⟩]
  effect := fun c s =>
    let t := s.startJob 0x0D06 c
    (.accepted s.clerk.nextJob, if (c.p 0).fld 6 0 ≤ s.hall.fuses then t.endFuse s.clerk.nextJob stOk else t)

def execHallmarkFuseAdvance (c : Cmd) (s : State) : Ans := serve hallmarkFuseAdvanceOp c s

/-- FUSE_BLOWN: the fuse in hand of the oldest fuse job is blown and read back; `ok` says that the read-back agrees
(R453). -/
def execFuseBlown (ok : Bool) (s : State) : Ans :=
  match s.findJob 0x0D06 (fun _ => true) with
  | none => .next s
  | some j =>
    let n := (j.params.getD 0 0).fld 6 0
    happen s.live s
      (if !ok then s.endFuse j.num stFault
       else if n ≤ s.hall.fuses then s.endFuse j.num stOk
       else
        let t := s.withHall { s.hall with fuses := s.hall.fuses + 1 }
        let u := t.measureSvn
        if u.hall.fuses = n then u.endFuse j.num stOk
        else if j.cancel then u.endFuse j.num stAborted
        else u)

/-- HALLMARK_TALLY_MASK (R458). -/
def hallmarkTallyMaskOp : OpDef where
  code := 0x0D07
  lo := 1
  hi := 1
  targetOk := targetClerk
  check := fun c _ => resv c 0 31 16
  effect := sets fun c s => s.withHall { s.hall with tallyMask := (c.p 0).fld 15 0 }

def execHallmarkTallyMask (c : Cmd) (s : State) : Ans := serve hallmarkTallyMaskOp c s

/-- The two words of HALLMARK_STATUS (Table 16-6). -/
def hallmarkStatus (s : State) : List Word :=
  [mkw [(31, 31, b2n s.hall.kek.isSome), (30, 30, b2n s.hall.offer.isSome), (22, 16, s.hall.fuses),
        (15, 8, if s.boot.bootState ≤ 1 then 0xFF else s.serv.running.svn),
        (7, 0, match s.serv.verified with | some v => v.svn | none => 0xFF)],
   mkw [(31, 16, s.hall.proofsFailed), (15, 0, s.hall.tallyMask)]]

/-- HALLMARK_STATUS (R459). -/
def hallmarkStatusOp : OpDef where
  code := 0x0D08
  lo := 0
  hi := 0
  recovery := true
  targetOk := targetClerk
  effect := reads fun _ s => hallmarkStatus s

def execHallmarkStatus (c : Cmd) (s : State) : Ans := serve hallmarkStatusOp c s

end Sys2Proof.Machine
end

