-- ==== Sys2Proof/Machine/Members.lean ====
section
/-!
DEFINITION. The registrar's table of members in the Storehouse (spec/14 R415).
-/

set_option Elab.async false

namespace Sys2Proof.Machine

def crierHa : Nat := regionHa 3

/-- CRIER_MEMBER: 1 joined, 2 removed (Table 14-10). -/
def evMember (how a : Nat) (s : State) : State := s.raise 0x0303 0 crierHa (how * 2 ^ 30 + a)

/-- A record is free from here on; if it was joined, it is reported removed (R415). -/
def State.dropMember (a : Nat) (s : State) : State :=
  if s.crier.members.contains a then
    evMember 2 a (s.withCrier { s.crier with members := s.crier.members.filter (· != a) })
  else s

def State.addMember (a : Nat) (s : State) : State := s.withCrier { s.crier with members := insertNat a s.crier.members }

/-- The address of the first record of a stripe of CRIER_TABLE (R275). -/
def State.tableFirst (s : State) (n : Nat) : Option Nat :=
  ((s.baysOf 4).findIdx? (· == n / bayStripes)).map fun k => 3 * (k * bayStripes + n % bayStripes)

/-- Records of a stripe that are lost: it reads uncorrectable, or a merge took them as zeros (R415). -/
def State.tableLost (n : Nat) (cells : List Nat) (s : State) : State :=
  if s.crier.role ≠ 2 then s
  else match s.tableFirst n with
    | some a => cells.foldl (fun s k => s.dropMember (a + k)) s
    | none => s

/-- A stripe of the table has been written with some data: its records say who has joined. -/
def State.tableWritten (n : Nat) (data : List Byte) (s : State) : State :=
  if s.crier.role ≠ 2 then s
  else match s.tableFirst n with
    | some a => [0, 1, 2].foldl (fun s k =>
        let joined := data[256 * k + 3]? == some 1
        if joined then s.addMember (a + k) else s.withCrier { s.crier with members := s.crier.members.filter (· != a + k) }) s
    | none => s

/-- The joined records of the table as it stands: STATE, byte 3 of a record, is 1, in a data cell of the bay's epoch. -/
def State.scanTable (s : State) : List Nat :=
  s.store.mem.foldl (fun l (e : Host.Cell) =>
    let n := e.1 / 1024; let k := e.1 / 256 % 4
    if e.1 % 256 = 3 ∧ e.2 = 1 ∧ s.store.epoch n k = (s.bay (n / bayStripes)).epoch then
      match s.tableFirst n, (dataStacks n).findIdx? (· == k) with
      | some a, some c => insertNat (a + c) l
      | _, _ => l
    else l) []

/-- Read a record: zeros where it was never written or reads uncorrectable (R415). -/
def State.readRecord (a : Nat) (s : State) : List Byte × State :=
  let at_ := s.recordAt 4 a
  let r := s.readStripe 4 at_.1 []
  if r.1.mark = 0 then ((r.1.data.drop (256 * at_.2)).take 256, r.2)
  else (List.replicate 256 0, if r.1.mark = 2 then r.2.tableLost at_.1 [0, 1, 2] else r.2)

/-- Change a record, other records of its stripe kept (R264, R415). -/
def State.updRecord (a : Nat) (f : List Byte → List Byte) (s : State) : State :=
  let at_ := s.recordAt 4 a
  let r := s.mergeStripe 4 at_.1 [] fun data => putRecord at_.2 (f ((data.drop (256 * at_.2)).take 256)) data
  r.2.tableLost at_.1 r.1.zeroed

/-- Bytes put at a place of a record. -/
def putAt (i : Nat) (bs l : List Byte) : List Byte := l.take i ++ bs ++ l.drop (i + bs.length)

end Sys2Proof.Machine
end

