-- ==== Sys2Proof/Machine/Rx.lean ====
section
/-!
DEFINITION. The line receiver's opcodes and happenings (spec/03).
-/

set_option Elab.async false

namespace Sys2Proof.Machine

/-! ### Configuration -/

/-- ENTROPY is in the range of MOD (Table 3-10, Table 5-8). -/
def entropyOk (mod e : Nat) : Bool :=
  if mod = 2 then decide (64 ≤ e ∧ e ≤ 192) else if mod = 3 then decide (160 ≤ e ∧ e ≤ 224) else e == 0

/-- SYM_RATE is 0 or 512 to 3,200 (Table 3-10). -/
def symRateOk (r : Nat) : Bool := r == 0 || decide (512 ≤ r ∧ r ≤ 3200)

/-- LINE_RX_CONFIG outside OFF: ENTROPY_ADAPTIVE when only ENTROPY differs, NOT_OFF otherwise (R104). -/
def rxConfigState (c : Cmd) (r : RxPort) : Option Rej :=
  if r.st = .off then none
  else
    let same := (c.p 0).fld 27 16 == r.symRate && (c.p 0).fld 15 12 == r.mod && (c.p 1).bit 4 == r.swap &&
      (c.p 1).fld 3 0 == r.invert
    some ⟨stState, 0xFFFF, if same && (c.p 0).fld 7 0 != r.entropy then 3 else 2⟩

/-- LINE_RX_CONFIG (Table 3-10, R75, R104, R174). -/
def lineRxConfigOp : OpDef where
  code := 0x0901
  lo := 2
  hi := 2
  targetOk := targetLine
  check := fun c s =>
    let sym := (c.p 0).fld 27 16; let mod := (c.p 0).fld 15 12
    firstRej [resv c 0 31 28, param (symRateOk sym) 0, param (decide (mod ≤ 4)) 0, resv c 0 11 8,
      param (mod != 4 || sym == 0) 0 5, param (entropyOk mod ((c.p 0).fld 7 0)) 0 6, resv c 1 31 5,
      rxConfigState c (s.rxp c.port)]
  effect := sets fun c s =>
    (s.updRx c.port fun r => { r with
      symRate := (c.p 0).fld 27 16, mod := (c.p 0).fld 15 12, entropy := (c.p 0).fld 7 0, swap := (c.p 1).bit 4,
      invert := (c.p 1).fld 3 0 }).raConfigured 0 c.port |>.refreshPools

def execLineRxConfig (c : Cmd) (s : State) : Ans := serve lineRxConfigOp c s

/-! ### CD values (R80 to R82, R102) -/

/-- A CD value lies within ±200,000 ps/nm. -/
def cdOk (x : Int) : Bool := decide (-200000 ≤ x ∧ x ≤ 200000)

/-- MODE, CENTRE_FREQ and the ALT fields take effect at the commit of a LINE_RX_CD_SET (R102). -/
def cdFields (c : Cmd) (r : RxPort) : RxPort :=
  { r with cdMode := (c.p 0).fld 21 20, centre := (c.p 1).fld 20 0, altValid := (c.p 2).bit 31,
           altCd := (c.p 2).sfld 19 0, residual := none }

/-- The value of a LINE_RX_CD_SET is loaded (R102): in TRACKING by a cross-fade from the next span, else at once; in
ACQUIRE acquisition restarts at step 2. -/
def State.commitCd (c : Cmd) (s : State) : State :=
  let p := c.port
  let r := s.rxp p
  let v := (c.p 0).sfld 19 0
  let s1 := s.setRx p (cdFields c r)
  match r.st with
  | .off => s1.updRx p fun r => { r with cd := v, fade := none }
  | .signalWait => s1.updRx p fun r => { r with cd := v, fade := none }
  | .acquire => evRxState p .acquire .acquire 0 ((s1.updRx p fun r => { r with cd := v, fade := none }).startAcq p 2 false)
  | .tracking =>
    if v = r.cd then s1
    else s1.updRx p fun r => { r with cd := v, fade := some ⟨r.next, r.cd, v, false⟩ }

/-- A LINE_RX_CD_SET of the port waits for the running cross-fade. -/
def State.cdWaits (s : State) (p : Port) : Bool := s.clerk.held.any fun h => h.await == some (.rxCd p)

/-- The first LINE_RX_CD_SET that waits commits and is answered (R102). -/
def State.commitWaitingCd (p : Port) (s : State) : State :=
  match s.clerk.held.find? (fun h => h.await == some (.rxCd p)) with
  | none => s
  | some h => (s.commitCd h.cmd).answerAwait (.rxCd p) []

/-- All of them, when the port is no longer in TRACKING: each value is applied at once. -/
def State.commitAllCd (p : Port) (s : State) : State :=
  s.clerk.held.foldl (fun s h => if h.await = some (.rxCd p) then s.commitWaitingCd p else s) s

/-- LINE_RX_CD_SET (Table 3-12, R102). -/
def lineRxCdSetOp : OpDef where
  code := 0x0903
  lo := 3
  hi := 3
  targetOk := targetLine
  check := fun c _ => firstRej [resv c 0 31 22, param (decide ((c.p 0).fld 21 20 ≤ 1)) 0, param (cdOk ((c.p 0).sfld 19 0)) 0,
    resv c 1 31 21, param (decide (1840000 ≤ (c.p 1).fld 20 0 ∧ (c.p 1).fld 20 0 ≤ 2000000)) 1,
    resv c 2 30 20, param (cdOk ((c.p 2).sfld 19 0)) 2]
  effect := fun c s =>
    let p := c.port
    if s.tracking p && ((s.rxp p).fade.isSome || s.cdWaits p) then (.wait (.rxCd p), s) else (.ok [], s.commitCd c)

def execLineRxCdSet (c : Cmd) (s : State) : Ans := serve lineRxCdSetOp c s

/-- CD_SET_DEFERRED_COMMIT: the cross-fade that a LINE_RX_CD_SET waited for has ended; it commits (R102). -/
def execCdSetDeferredCommit (p : Port) (s : State) : Ans :=
  happen (s.live && s.cdWaits p && (s.rxp p).fade.isNone) s (s.commitWaitingCd p)

/-! ### Enable and disable (R101) -/

/-- Disabling a port: to OFF from any state (R101, R107). -/
def State.disableRx (p : Port) (s : State) : State :=
  if (s.rxp p).st = .off then s
  else
    let s1 := ((s.abortScan p).leaveIfTracking p).endLaneFaults p
    let s2 := (s1.moveRx p .off 0).updRx p fun r => { r with
      acqStep := 0, fade := none, los := false, lol := false, estimator := .free, est := {}, tolerance := [],
      rms := [0, 0, 0, 0], clips := [] }
    (((s2.commitAllCd p).commitBoundary p).refreshPools.refreshBoot.crAbandon p.val).refreshHealth

/-- Enabling a port in OFF: to SIGNAL_WAIT with LOS standing; elsewhere nothing (R101). -/
def State.enableRx (p : Port) (s : State) : State :=
  if (s.rxp p).st = .off then
    (((s.updRx p fun r => { r with los := true }).moveRx p .signalWait 0).refreshPools).refreshBoot
  else s

/-- LINE_RX_ENABLE (Table 3-11, R101). -/
def lineRxEnableOp : OpDef where
  code := 0x0902
  lo := 1
  hi := 1
  targetOk := targetLine
  check := fun c s => firstRej [resv c 0 31 1,
    stateErr (!(c.p 0).bit 0 || (s.rxp c.port).symRate != 0 || (s.rxp c.port).mod == 4) 1]
  effect := sets fun c s => if (c.p 0).bit 0 then s.enableRx c.port else s.disableRx c.port

def execLineRxEnable (c : Cmd) (s : State) : Ans := serve lineRxEnableOp c s

/-! ### Scans (R83, R103) -/

/-- LINE_RX_CD_SCAN (Table 3-13, R103). -/
def lineRxCdScanOp : OpDef where
  code := 0x0904
  queue := some 3
  lo := 2
  hi := 2
  long := true
  targetOk := targetLine
  check := fun c s => firstRej [resv c 0 31 20, resv c 1 31 20,
    param (decide ((c.p 0).sfld 19 0 ≤ (c.p 1).sfld 19 0)) 1 5,
    stateErr (decide ((s.rxp c.port).st ≠ .off)) 0x46, busy (decide ((s.rxp c.port).estimator = .free)) 4]
  effect := fun c s =>
    (.accepted s.clerk.nextJob,
      (s.startJob 0x0904 c).updRx c.port fun r => { r with estimator := .scan s.clerk.nextJob })

def execLineRxCdScan (c : Cmd) (s : State) : Ans := serve lineRxCdScanOp c s

/-- Acquisition restarts at step 1 with a full scan; LINE_RX_STATE with cause RESTART (R96). -/
def State.restartAcq (p : Port) (s : State) : State := evRxState p .acquire .acquire 5 (s.startAcq p 1 true)

/-- CD_SCAN_DONE: a scan of the CD estimator ends with its best trial, its quality in 0.01 dB and its second-best trial:
the host scan's job ends OK, or acquisition step 1 ends (R83, R96, R103). -/
def execCdScanDone (p : Port) (best : Int) (quality : Nat) (second : Int) (s : State) : Ans :=
  let r := s.rxp p
  match r.estimator with
  | .free => .next s
  | .scan j =>
    happen s.live s ((s.updRx p fun r => { r with estimator := .free }).endJob j stOk
      [mkw [(19, 0, Int.bits 20 best)], mkw [(31, 31, b2n (decide (quality < 300))), (15, 0, sat 0xFFFF quality)],
       mkw [(19, 0, Int.bits 20 second)]])
  | .acquisition =>
    happen (s.live && decide (r.st = .acquire) && r.acqStep == 1) s
      (if 300 ≤ quality ∧ cdOk best = true then (s.updRx p fun r => { r with cd := best, fade := none }).startAcq p 2 r.fullScan
       else s.restartAcq p)

/-! ### Settings (R84, R86, R104) -/

/-- LINE_RX_EQ_SET (Table 3-14). -/
def lineRxEqSetOp : OpDef where
  code := 0x0905
  lo := 1
  hi := 1
  targetOk := targetLine
  check := fun c s => firstRej [resv c 0 31 10, param (decide (6 ≤ (c.p 0).fld 7 4 ∧ (c.p 0).fld 7 4 ≤ 14)) 0,
    resv c 0 3 1, stateErr (decide ((s.rxp c.port).st = .off) || (c.p 0).fld 9 8 == (s.rxp c.port).taps) 2]
  effect := sets fun c s => s.updRx c.port fun r =>
    { r with taps := (c.p 0).fld 9 8, mu := (c.p 0).fld 7 4, adapt := (c.p 0).bit 0 }

def execLineRxEqSet (c : Cmd) (s : State) : Ans := serve lineRxEqSetOp c s

/-- LINE_RX_LOOP_SET (Table 3-15). -/
def lineRxLoopSetOp : OpDef where
  code := 0x0906
  lo := 1
  hi := 1
  targetOk := targetLine
  check := fun c _ => firstRej [param (decide (100 ≤ (c.p 0).fld 31 16 ∧ (c.p 0).fld 31 16 ≤ 20000)) 0, resv c 0 15 12,
    param (decide (3 ≤ (c.p 0).fld 11 8 ∧ (c.p 0).fld 11 8 ≤ 9)) 0, resv c 0 7 0]
  effect := sets fun c s => s.updRx c.port fun r =>
    { r with timingBw := (c.p 0).fld 31 16, phaseAvg := (c.p 0).fld 11 8 }

def execLineRxLoopSet (c : Cmd) (s : State) : Ans := serve lineRxLoopSetOp c s

/-- A skew field lies within −2,048 to +2,047 (Table 3-16). -/
def skewOk (x : Int) : Bool := decide (-2048 ≤ x ∧ x ≤ 2047)

/-- LINE_RX_FRONT_SET (Table 3-16). -/
def lineRxFrontSetOp : OpDef where
  code := 0x0907
  lo := 3
  hi := 3
  targetOk := targetLine
  check := fun c _ =>
    let clear := (c.p 2).fld 15 8; let set_ := (c.p 2).fld 7 0
    firstRej [param (skewOk ((c.p 0).sfld 31 16)) 0, param (skewOk ((c.p 0).sfld 15 0)) 0,
      param (skewOk ((c.p 1).sfld 31 16)) 1, param (skewOk ((c.p 1).sfld 15 0)) 1, resv c 2 31 16,
      param (decide (1 ≤ clear ∧ clear ≤ 127)) 2, param (decide (1 ≤ set_ ∧ set_ ≤ 127)) 2,
      param (decide (set_ < clear)) 2 5]
  effect := sets fun c s => s.updRx c.port fun r => { r with
    skewXI := (c.p 0).sfld 31 16, skewXQ := (c.p 0).sfld 15 0, skewYI := (c.p 1).sfld 31 16, skewYQ := (c.p 1).sfld 15 0,
    losClear := (c.p 2).fld 15 8, losSet := (c.p 2).fld 7 0 }

def execLineRxFrontSet (c : Cmd) (s : State) : Ans := serve lineRxFrontSetOp c s

/-! ### Status and counters (Table 3-17, R105) -/

/-- A number brought within ±32,767. -/
def sat16 (x : Int) : Int := if x < -32767 then -32767 else if 32767 < x then 32767 else x

/-- The nine words of LINE_RX_STATUS (Table 3-17). -/
def rxStatus (r : RxPort) : List Word :=
  let rms (k : Nat) := r.rms.getD k 0
  [mkw [(31, 28, r.st.code), (27, 24, r.acqStep), (3, 3, b2n r.los), (2, 2, b2n r.lol), (1, 1, b2n r.fade.isSome),
        (0, 0, b2n !r.tolerance.isEmpty)],
   mkw [(19, 0, Int.bits 20 r.cd)],
   mkw [(31, 16, r.est.dgd), (15, 0, Int.bits 16 (sat16 r.est.residual))],
   w32 (Int.bits 32 r.est.freq),
   mkw [(31, 16, r.est.snr), (15, 0, r.est.pdl)],
   mkw [(31, 16, r.est.polRate), (15, 0, Int.bits 16 r.est.clock)],
   mkw [(31, 24, rms 0), (23, 16, rms 1), (15, 8, rms 2), (7, 0, rms 3)]] ++ words64 (r.next - 1)

/-- LINE_RX_STATUS. -/
def lineRxStatusOp : OpDef where
  code := 0x0908
  lo := 0
  hi := 0
  targetOk := targetLine
  effect := reads fun c s => rxStatus (s.rxp c.port)

def execLineRxStatus (c : Cmd) (s : State) : Ans := serve lineRxStatusOp c s

/-- LINE_RX_COUNTERS (R105). -/
def lineRxCountersOp : OpDef where
  code := 0x0909
  lo := 0
  hi := 0
  targetOk := targetLine
  effect := reads fun c s => s.counterWords (rxCtr c.port 0) 12

def execLineRxCounters (c : Cmd) (s : State) : Ans := serve lineRxCountersOp c s

/-! ### Loss of signal and lane faults (R77, R78) -/

/-- LOS_DECLARE: the mean RMS stayed below LOS_SET for 1 µs (R77, R94, R103, R107). -/
def execLosDeclare (p : Port) (s : State) : Ans :=
  let r := s.rxp p
  let s1 := ((s.updRx p fun r => { r with los := true }).bump (rxCtr p 8) 1).raise 0x0902 3 (portHa p) 1
  let s2 := ((s1.endLaneFaults p).abortScan p).leaveIfTracking p
  let s3 := ((s2.moveRx p .signalWait 1).updRx p fun r => { r with acqStep := 0, estimator := .free }).commitAllCd p
  happen (s.live && decide (r.st ≠ .off) && !r.los) s (s3.refreshPools.refreshHealth)

/-- LOS_CLEAR: the mean RMS stayed at or above LOS_CLEAR for 100 µs; a host scan gives way to acquisition (R77, R96,
R103). -/
def execLosClear (p : Port) (s : State) : Ans :=
  let r := s.rxp p
  let s1 := (s.updRx p fun r => { r with los := false }).raise 0x0902 3 (portHa p) 0
  happen (s.live && decide (r.st = .signalWait) && r.los) s
    (((s1.abortScan p).moveRx p .acquire 2).startAcq p 1 false).refreshPools

/-- LANE_FAULT_DECLARE: one converter's RMS stayed low for 100 µs while the others' did not; tracking loses lock (R78). -/
def execLaneFaultDeclare (p : Port) (conv : Fin 4) (s : State) : Ans :=
  let r := s.rxp p
  let s1 := evLaneFault p conv.val true (s.updRx p fun r => { r with laneFault := r.laneFault ++ [conv.val] })
  happen (s.live && decide (r.st ≠ .off) && !r.los && !r.laneFault.contains conv.val) s
    (if r.st = .tracking then s1.loseLock p 2 else s1).refreshHealth

/-- LANE_FAULT_END: the converter's RMS stayed at or above LOS_CLEAR for 100 µs (R78). -/
def execLaneFaultEnd (p : Port) (conv : Fin 4) (s : State) : Ans :=
  happen (s.live && (s.rxp p).laneFault.contains conv.val) s
    (evLaneFault p conv.val false
      (s.updRx p fun r => { r with laneFault := r.laneFault.filter (· != conv.val) })).refreshHealth

/-! ### Acquisition (R96) -/

/-- ACQ_STEP_DONE: the acquisition step in hand is done; in step 1 a trial of `cd` reached 6 dB and is applied at once.
After step 6 the port tracks (R94, R96). -/
def execAcqStepDone (p : Port) (cd : Int) (s : State) : Ans :=
  let r := s.rxp p
  happen (s.live && decide (r.st = .acquire) && (r.acqStep != 1 || (cdOk cd && !r.fullScan))) s
    (if r.acqStep = 1 then (s.updRx p fun r => { r with cd := cd, fade := none }).startAcq p 2 r.fullScan
     else if r.acqStep < 6 then s.updRx p fun r => { r with acqStep := r.acqStep + 1 }
     else (s.enterTracking p).refreshPools)

/-- ACQ_BOUND_EXPIRY: the acquisition step in hand misses its bound; acquisition restarts (R96). -/
def execAcqBoundExpiry (p : Port) (s : State) : Ans :=
  happen (s.live && decide ((s.rxp p).st = .acquire)) s (s.restartAcq p)

/-! ### Cross-fades and tracking (R80, R82, R93, R95) -/

/-- RX_XFADE_END: 64 spans after its start a cross-fade is complete (R80). -/
def execRxXfadeEnd (p : Port) (s : State) : Ans :=
  let r := s.rxp p
  happen (s.live && (match r.fade with | some f => decide (f.start + 64 ≤ r.next) | none => false)) s (s.endRxFade p)

/-- A new CD value of TRACK mode: the applied value plus the mean of two residuals, to the nearest 10 ps/nm, within
±200,000 (R82). -/
def trackCd (cd a b : Int) : Int :=
  let v := (2 * cd + a + b + 10) / 20 * 10
  if v < -200000 then -200000 else if 200000 < v then 200000 else v

/-- TRACK_RESIDUAL: a residual measured over 65,536 spans; the second of two of magnitude 100 ps/nm or more and of one
sign starts a cross-fade (R82). -/
def execTrackResidual (p : Port) (residual : Int) (s : State) : Ans :=
  let r := s.rxp p
  let big := decide (100 ≤ residual.natAbs)
  happen (s.tracking p && s.live && r.cdMode == 1) s
    (if r.fade.isSome || s.cdWaits p then s.updRx p fun r => { r with residual := none }
     else match r.residual with
      | some a =>
        if big && decide (0 < a * residual) then
          let v := trackCd r.cd a residual
          if v = r.cd then s.updRx p fun r => { r with residual := none }
          else s.updRx p fun r => { r with cd := v, residual := none, fade := some ⟨r.next, r.cd, v, true⟩ }
        else s.updRx p fun r => { r with residual := if big then some residual else none }
      | none => s.updRx p fun r => { r with residual := if big then some residual else none })

/-- LOL_DECLARE: a loss-of-lock count completes: cause 1 pilot errors, 3 output power (R95). -/
def execLolDeclare (p : Port) (cause : Fin 4) (s : State) : Ans :=
  happen (s.tracking p && s.live && (cause.val == 1 || cause.val == 3)) s (s.loseLock p cause.val).refreshPools

/-- TOLERANCE_HOLD: an estimate (1 DGD, 2 frequency, 3 polarisation rate, 4 residual CD) stayed beyond 90 % of its
tolerance for one second, or back below 80 % for one second (R93). -/
def execToleranceHold (p : Port) (estimate : Fin 5) (beyond : Bool) (s : State) : Ans :=
  let r := s.rxp p
  let e := estimate.val
  happen (s.live && decide (r.st ≠ .off) && e != 0 && (r.tolerance.contains e != beyond)) s
    (if beyond then
      (s.updRx p fun r => { r with tolerance := r.tolerance ++ [e] }).raise 0x0906 2 (portHa p) e
     else s.updRx p fun r => { r with tolerance := r.tolerance.filter (· != e) })

end Sys2Proof.Machine
end

