-- ==== Sys2Proof/Machine/Tx.lean ====
section
/-!
DEFINITION. The line transmitter's opcodes and happenings (spec/05).
-/

set_option Elab.async false

namespace Sys2Proof.Machine

/-! ### The ramp (R150, R151) -/

/-- φ now, as a fraction in lowest terms from 0 to 1: it moves by 1/RAMP_TIME per unit of device time, up in RAMP_UP and
down in RAMP_DOWN (R150). -/
def TxPort.phase (t : TxPort) (now : Nat) : Nat × Nat :=
  let full := t.rampTime * 100000 * nano
  let den := t.phiDen * full
  let move := t.phiDen * (now - t.phiAt)
  let num := match t.st with
    | .rampUp => min den (t.phiNum * full + move)
    | .rampDown => t.phiNum * full - move
    | _ => t.phiNum * full
  let g := Nat.gcd num den
  (num / g, den / g)

/-- Take φ at its present value, so that a change of direction or rate starts from there (R151). -/
def TxPort.rebase (t : TxPort) (now : Nat) : TxPort :=
  { t with phiNum := (t.phase now).1, phiDen := (t.phase now).2, phiAt := now }

/-- 512 × (1 − cos x) in units of 2^−80, x in units of 2^−80 and at most π/2, by the series of the cosine. -/
def versine (x : Nat) : Nat :=
  let one := 2 ^ 80
  let step (a : Nat × Nat × Nat) (k : Nat) : Nat × Nat × Nat :=
    let term := a.2.2 * x / one * x / one / ((2 * k + 1) * (2 * k + 2))
    if k % 2 = 1 then (a.1, a.2.1 + term, term) else (a.1 + term, a.2.1, term)
  let r := (List.range 14).foldl step (0, 0, one)
  512 * (r.1 - r.2.1)

/-- π in units of 2^−80. -/
def piFixed : Nat := 3797952473636338580787993

/-- 1,024 × p in units of 2^−80 for φ = num/den: p = (1 − cos(π × φ))/2 (R150). -/
def rampPower (num den : Nat) : Nat :=
  if 2 * num ≤ den then versine (piFixed * num / den) else 1024 * 2 ^ 80 - versine (piFixed * (den - num) / den)

/-- RAMP_LEVEL (Table 5-13): p in units of 1/1,024. The spec does not say how a value between two units is rounded: which
of the two it reads is a free value (notes/assumptions/14). -/
def State.rampLevel (s : State) (t : TxPort) : Nat × State :=
  match t.st with
  | .off => (0, s)
  | .muted => (0, s)
  | .on => (1024, s)
  | _ =>
    let v := rampPower (t.phase s.time).1 (t.phase s.time).2 + 2 ^ 30
    if v % 2 ^ 80 < 2 ^ 31 then (v / 2 ^ 80, s) else (v / 2 ^ 80 + s.take.1 % 2, s.take.2)

/-! ### Pre-compensation and pre-emphasis (R144 to R146, R159) -/

/-- A LINE_TX_PRECOMP_SET commits in OFF or MUTED: at once, a running cross-fade ends unreported (R145). -/
def TxPort.precompNow (c : Cmd) (t : TxPort) : TxPort :=
  { t with cdPre := (c.p 0).sfld 19 0, centre := (c.p 1).fld 20 0, fade := none }

/-- It commits elsewhere: a cross-fade of 64 spans starts at the next span (R144, R145). -/
def TxPort.precompFade (c : Cmd) (t : TxPort) : TxPort :=
  { t with cdPre := (c.p 0).sfld 19 0, centre := (c.p 1).fld 20 0, fade := some ⟨t.next, t.cdPre, (c.p 0).sfld 19 0⟩ }

/-- The check against PRECOMP_STEP, made at the commit (R145). -/
def precompStep (c : Cmd) (t : TxPort) : Option Rej :=
  stateErr (!t.st.driving || decide (((c.p 0).sfld 19 0 - t.cdPre).natAbs ≤ 500)) 0xA

/-- The 15 taps of a LINE_TX_EMPH_LOAD (Table 5-12). -/
def emphTaps (c : Cmd) : List Int :=
  (List.range 15).map fun k => if k % 2 = 0 then (c.p (1 + k / 2)).sfld 15 0 else (c.p (1 + k / 2)).sfld 31 16

def emphDac (c : Cmd) : Nat := (c.p 0).fld 1 0

def TxPort.taps (t : TxPort) (dac : Nat) : List Int := (Tab.get none (t.emph.map fun e => (e.1, some e.2)) dac).getD emphReset

/-- A LINE_TX_EMPH_LOAD commits: in OFF or MUTED the new bank takes over at once, else by a cross-fade (R146). -/
def TxPort.emphNow (c : Cmd) (t : TxPort) : TxPort :=
  { t with emph := Tab.set emphReset t.emph (emphDac c) (emphTaps c), emphFade := Tab.set none t.emphFade (emphDac c) none }
def TxPort.emphStart (c : Cmd) (t : TxPort) : TxPort :=
  { t with emph := Tab.set emphReset t.emph (emphDac c) (emphTaps c),
           emphFade := Tab.set none t.emphFade (emphDac c) (some ⟨t.next, t.taps (emphDac c)⟩) }

/-- A command waits for a cross-fade of the port. -/
def State.txWaits (s : State) (a : Await) : Bool := s.clerk.held.any fun h => h.await == some a

/-- The first command that waits for `a` commits and is answered, or is refused at its commit (R145, R159). -/
def State.commitTx (p : Port) (a : Await) (s : State) : State :=
  match pick (fun h : Held => h.await == some a) s.clerk.held with
  | none => s
  | some (h, r) =>
    let t := s.txp p
    match a with
    | .txPrecomp _ =>
      match precompStep h.cmd t with
      | some rej => refuse h.code rej h.cmd (s.withClerk { s.clerk with held := r })
      | none => (s.setTx p (if t.st.driving then t.precompFade h.cmd else t.precompNow h.cmd)).answerAwait a []
    | _ => ((s.setTx p (if t.st.driving then t.emphStart h.cmd else t.emphNow h.cmd)).extend 4 (bytesOf h.cmd.params)).answerAwait a []

/-- Every waiting load of the port commits at once, in the order taken: MUTED is reached (R145, R159). -/
def State.commitAllTx (p : Port) (s : State) : State :=
  s.clerk.held.foldl (fun s h => match h.await with
    | some (.txPrecomp q) => if q = p then s.commitTx p (.txPrecomp p) else s
    | some (.txEmph q d) => if q = p then s.commitTx p (.txEmph p d) else s
    | _ => s) s

/-! ### States (R149, R161) -/

/-- A transmit port's state changes and LINE_TX_STATE is raised; φ is taken at its present value first. A Crier packet on
air is cut in MUTED and OFF (R403). -/
def State.moveTx (p : Port) (new : TxSt) (cause : Nat) (s : State) : State :=
  let t := s.txp p
  let s1 := s.setTx p { t.rebase s.time with st := new }
  let s2 := s1.raise 0x0910 1 (portHa p) (new.code * 2 ^ 28 + t.st.code * 2 ^ 24 + cause * 2 ^ 20 + t.next % 2 ^ 20)
  let s3 := if new.driving then s2 else s2.crCut p.val
  if new = .muted then (s3.updTx p fun t => { t with driveFrom := [] }).commitAllTx p else s3

/-! ### Opcodes (Table 5-5) -/

/-- LINE_TX_CONFIG outside OFF (R157). -/
def txConfigState (c : Cmd) (t : TxPort) : Option Rej :=
  if t.st = .off then none
  else
    let same := (c.p 0).fld 27 16 == t.symRate && (c.p 0).fld 15 12 == t.mod && (c.p 1).bit 20 == t.swap &&
      (c.p 1).fld 19 16 == t.invert && (c.p 1).fld 9 8 == t.oh && (c.p 1).fld 4 0 == t.rolloff
    some ⟨stState, 0xFFFF, if same && (c.p 0).fld 7 0 != t.entropy then 3 else 2⟩

/-- LINE_TX_CONFIG (Table 5-7, R140, R155, R157); 400ZR clears TX_ENABLE of the port's Crier (R403). -/
def lineTxConfigOp : OpDef where
  code := 0x0910
  lo := 2
  hi := 2
  targetOk := targetLine
  check := fun c s =>
    let sym := (c.p 0).fld 27 16; let mod := (c.p 0).fld 15 12; let ent := (c.p 0).fld 7 0; let oh := (c.p 1).fld 9 8
    firstRej [resv c 0 31 28, param (symRateOk sym) 0, param (decide (mod ≤ 4)) 0, resv c 0 11 8,
      param (mod != 4 || sym == 0) 0 5, param (entropyOk mod ent) 0 6,
      resv c 1 31 21, resv c 1 15 10, param (oh != 3) 1, param (mod != 4 || oh == 0) 1 5, resv c 1 7 5,
      param (decide (1 ≤ (c.p 1).fld 4 0 ∧ (c.p 1).fld 4 0 ≤ 20)) 1,
      param (sym == 0 || decide (80 ≤ slotsOf sym mod ent oh)) 0xFFFF 9,
      txConfigState c (s.txp c.port)]
  effect := sets fun c s =>
    let s1 := (s.updTx c.port fun t => { t with
      symRate := (c.p 0).fld 27 16, mod := (c.p 0).fld 15 12, entropy := (c.p 0).fld 7 0, swap := (c.p 1).bit 20,
      invert := (c.p 1).fld 19 16, oh := (c.p 1).fld 9 8, rolloff := (c.p 1).fld 4 0 }).raConfigured 1 c.port
    if (c.p 0).fld 15 12 = 4 then s1.crTxOff c.port.val else s1

def execLineTxConfig (c : Cmd) (s : State) : Ans := serve lineTxConfigOp c s

/-- ENABLE 1 in OFF: to MUTED with φ 0, the first frame starts at the first span; elsewhere nothing (R137, R157). -/
def State.enableTx (p : Port) (s : State) : State :=
  if (s.txp p).st = .off then
    ((((s.updTx p fun t => { t with phiNum := 0, phiDen := 1, phiAt := s.time }).updLp p fun l => { l with txSent := false }).moveTx p
      .muted 0).refreshPools).refreshBoot
  else s

/-- ENABLE 0 in MUTED: to OFF; cross-fades end unreported, an agreement not yet switched is void, open transmit tags are lost
(R157, R209, R509). -/
def State.disableTx (p : Port) (s : State) : State :=
  if (s.txp p).st = .muted then
    (((((s.moveTx p .off 0).updTx p fun t => { t with fade := none, emphFade := [], fails := [], agreed := none }).updRa p
      fun r => { r with txAgreed := none }).updLp p fun l => { l with txSent := false }).tagLose p 1).refreshPools.refreshBoot
  else s

/-- LINE_TX_ENABLE (R157). -/
def lineTxEnableOp : OpDef where
  code := 0x0911
  lo := 1
  hi := 1
  targetOk := targetLine
  check := fun c s =>
    let t := s.txp c.port
    firstRej [resv c 0 31 1,
      stateErr (!(c.p 0).bit 0 || t.st != .off || t.symRate != 0 || t.mod == 4) 1,
      stateErr ((c.p 0).bit 0 || !t.st.driving) 0xB]
  effect := sets fun c s => if (c.p 0).bit 0 then s.enableTx c.port else s.disableTx c.port

def execLineTxEnable (c : Cmd) (s : State) : Ans := serve lineTxEnableOp c s

/-- A hard mute: every sample 0 and φ 0 at once (R151, R158). -/
def State.hardMute (p : Port) (s : State) : State :=
  if (s.txp p).st.driving then
    let s1 := (s.moveTx p .muted 2).updTx p fun t =>
      { t with phiNum := 0, phiDen := 1, hard := true, hardSpan := some t.next }
    s1.bump (txCtr p 5) 1
  else s

/-- A soft mute: from ON or RAMP_UP the ramp goes down from the present φ (R151, R158). -/
def State.softMute (p : Port) (s : State) : State :=
  match (s.txp p).st with
  | .on => s.moveTx p .rampDown 0
  | .rampUp => s.moveTx p .rampDown 0
  | _ => s

/-- An unmute: from MUTED or RAMP_DOWN the ramp goes up from the present φ; behind a hard mute of the same span the port
stays MUTED (R151, R158, R162). -/
def State.unmute (p : Port) (s : State) : State :=
  let t := s.txp p
  match t.st with
  | .muted =>
    if t.hardSpan = some t.next then s
    else (s.updTx p fun t => { t with hard := false, hardSpan := none }).moveTx p .rampUp 0
  | .rampDown => (s.updTx p fun t => { t with hard := false, hardSpan := none }).moveTx p .rampUp 0
  | _ => s

/-- LINE_TX_MUTE (Table 5-8, R158). -/
def lineTxMuteOp : OpDef where
  code := 0x0912
  queue := some 0
  lo := 1
  hi := 1
  targetOk := targetLine
  check := fun c s => firstRej [resv c 0 31 2, param (!(c.p 0).bit 1 || (c.p 0).bit 0) 0 5,
    stateErr ((c.p 0).bit 0 || (s.txp c.port).st != .off) 0xC]
  effect := sets fun c s =>
    if (c.p 0).bit 1 then s.hardMute c.port else if (c.p 0).bit 0 then s.softMute c.port else s.unmute c.port

def execLineTxMute (c : Cmd) (s : State) : Ans := serve lineTxMuteOp c s

/-- LINE_TX_RAMP_SET (Table 5-9): during a ramp only the rate at which φ moves changes (R151). -/
def lineTxRampSetOp : OpDef where
  code := 0x0913
  lo := 1
  hi := 1
  targetOk := targetLine
  check := fun c _ => firstRej [resv c 0 31 16, param ((c.p 0).fld 15 0 != 0) 0]
  effect := sets fun c s => s.updTx c.port fun t => { t.rebase s.time with rampTime := (c.p 0).fld 15 0 }

def execLineTxRampSet (c : Cmd) (s : State) : Ans := serve lineTxRampSetOp c s

/-- The value that the check of a further load behind those that wait starts from (R45, R145). -/
def State.precompBase (s : State) (p : Port) : Int :=
  s.clerk.held.foldl (fun base h =>
    if h.await = some (.txPrecomp p) ∧ ((h.cmd.p 0).sfld 19 0 - base).natAbs ≤ 500 then (h.cmd.p 0).sfld 19 0 else base)
    (s.txp p).cdPre

/-- LINE_TX_PRECOMP_SET (Table 5-10, R145). A dry run behind a cross-fade is judged as its own commit would be (R45). -/
def lineTxPrecompSetOp : OpDef where
  code := 0x0914
  lo := 2
  hi := 2
  targetOk := targetLine
  check := fun c s =>
    let p := c.port
    let waits := (s.txp p).st.driving && ((s.txp p).fade.isSome || s.txWaits (.txPrecomp p))
    firstRej [resv c 0 31 20, param (decide (-50000 ≤ (c.p 0).sfld 19 0 ∧ (c.p 0).sfld 19 0 ≤ 50000)) 0,
      resv c 1 31 21, param (decide (1840000 ≤ (c.p 1).fld 20 0 ∧ (c.p 1).fld 20 0 ≤ 2000000)) 1,
      if waits then
        (if c.dry then stateErr (decide (((c.p 0).sfld 19 0 - s.precompBase p).natAbs ≤ 500)) 0xA else none)
      else precompStep c (s.txp p)]
  effect := fun c s =>
    let p := c.port
    let t := s.txp p
    if t.st.driving && (t.fade.isSome || s.txWaits (.txPrecomp p)) then (.wait (.txPrecomp p), s)
    else (.ok [], s.setTx p (if t.st.driving then t.precompFade c else t.precompNow c))

def execLineTxPrecompSet (c : Cmd) (s : State) : Ans := serve lineTxPrecompSetOp c s

/-- LINE_TX_BACK_SET (Table 5-11): skew from the next span, DRIVE_RMS along the profile of R150 while driving (R151). -/
def lineTxBackSetOp : OpDef where
  code := 0x0915
  lo := 3
  hi := 3
  targetOk := targetLine
  check := fun c _ =>
    firstRej [param (skewOk ((c.p 0).sfld 31 16)) 0, param (skewOk ((c.p 0).sfld 15 0)) 0,
      param (skewOk ((c.p 1).sfld 31 16)) 1, param (skewOk ((c.p 1).sfld 15 0)) 1, resv c 2 31 8,
      param (decide (8 ≤ (c.p 2).fld 7 0 ∧ (c.p 2).fld 7 0 ≤ 64)) 2]
  effect := sets fun c s => s.updTx c.port fun t => { t with
    skewXI := (c.p 0).sfld 31 16, skewXQ := (c.p 0).sfld 15 0, skewYI := (c.p 1).sfld 31 16, skewYQ := (c.p 1).sfld 15 0,
    driveRms := (c.p 2).fld 7 0,
    driveFrom := if t.st.driving && t.driveRms != (c.p 2).fld 7 0 then t.driveFrom ++ [(t.driveRms, s.time)] else t.driveFrom }

def execLineTxBackSet (c : Cmd) (s : State) : Ans := serve lineTxBackSetOp c s

/-- LINE_TX_EMPH_LOAD (Table 5-12, R146, R159): the magnitudes of the taps sum to at most 4.0; its commit is measured
(R450). -/
def lineTxEmphLoadOp : OpDef where
  code := 0x0916
  queue := some 2
  lo := 9
  hi := 9
  targetOk := targetLine
  check := fun c _ => firstRej [resv c 0 31 2, resv c 8 31 16, param (decide (((emphTaps c).map Int.natAbs).sum ≤ 65536)) 0xFFFF]
  effect := fun c s =>
    let p := c.port
    let t := s.txp p
    let a : Await := .txEmph p (emphDac c)
    if t.st.driving && ((Tab.get none t.emphFade (emphDac c)).isSome || s.txWaits a) then (.wait a, s)
    else (.ok [], (s.setTx p (if t.st.driving then t.emphStart c else t.emphNow c)).extend 4 (bytesOf c.params))

def execLineTxEmphLoad (c : Cmd) (s : State) : Ans := serve lineTxEmphLoadOp c s

/-- The eight words of LINE_TX_STATUS (Table 5-13), given RAMP_LEVEL. -/
def txStatus (t : TxPort) (level : Nat) : List Word :=
  let off := decide (t.st = .off)
  [mkw [(31, 28, t.st.code), (23, 16, t.entropy), (15, 12, t.mod), (11, 10, t.oh), (3, 3, b2n t.fade.isSome),
        (2, 2, b2n !t.emphFade.isEmpty), (1, 1, b2n t.agreed.isSome), (0, 0, b2n t.hard)],
   mkw [(25, 16, if off then 0 else t.slots), (10, 0, level)],
   w32 (if off || t.mod == 4 then 0 else capacity t.symRate t.mod t.entropy t.oh),
   mkw [(31, 24, match t.agreed with | some (e, _) => e | none => 0)],
   w32 (match t.agreed with | some (_, m) => m | none => 0),
   mkw [(19, 0, Int.bits 20 t.cdPre)]] ++ words64 (t.next - 1)

/-- LINE_TX_STATUS. -/
def lineTxStatusOp : OpDef where
  code := 0x0917
  lo := 0
  hi := 0
  targetOk := targetLine
  effect := fun c s =>
    let r := s.rampLevel (s.txp c.port)
    (.ok (txStatus (s.txp c.port) r.1), r.2)

def execLineTxStatus (c : Cmd) (s : State) : Ans := serve lineTxStatusOp c s

/-- LINE_TX_COUNTERS (R160). -/
def lineTxCountersOp : OpDef where
  code := 0x0918
  lo := 0
  hi := 0
  targetOk := targetLine
  effect := reads fun c s => s.counterWords (txCtr c.port 0) 10

def execLineTxCounters (c : Cmd) (s : State) : Ans := serve lineTxCountersOp c s

/-! ### Happenings -/

/-- TX_SPAN_FORMED: a transmit span forms and its samples are committed at the DAC FIFOs, with the clipped DAC samples it
holds; the DAC has read the span before it, whose tag record is written (R149, R152, R160, R506 to R509). -/
def execTxSpanFormed (p : Port) (clipped : Nat) (s : State) : Ans :=
  let t := s.txp p
  let k := t.next
  let s1 := s.setTx p { t with next := k + 1, fails := t.fails.filter fun e => decide (k < e.1 + 64) }
  let s2 := ((s1.bump (txCtr p 0) 1).bump (txCtr p 4) clipped).slot (0x12 + p.val) 0 1
  let closing := s2.tally.openTags.filter fun r => r.port == p.val && r.dir == 1
  let s3 := closing.foldl (fun s r => (s.tagExit p 1 r.span 3).tagClose p 1 r.span false r.late) s2
  let s4 := ((((s3.tagForm p 1 k true).tagExit p 1 k 0).tagEnter p 1 k 1).tagExit p 1 k 1).tagEnter p 1 k 2
  happen (s.live && decide (t.st ≠ .off)) s ((s4.tagExit p 1 k 2).tagEnter p 1 k 3)

/-- RAMP_END: φ has reached 1 in RAMP_UP or 0 in RAMP_DOWN (R150). -/
def execRampEnd (p : Port) (s : State) : Ans :=
  let t := s.txp p
  match t.st with
  | .rampUp =>
    happen (s.live && decide ((t.phase s.time).1 = (t.phase s.time).2)) s ((s.moveTx p .on 1).bump (txCtr p 6) 1)
  | .rampDown =>
    happen (s.live && decide ((t.phase s.time).1 = 0)) s ((s.moveTx p .muted 1).bump (txCtr p 7) 1)
  | _ => .next s

/-- TX_SPAN_LATE: a formed span is not committed when the DAC needs it and is sent with fill (R152). -/
def execTxSpanLate (p : Port) (span : Nat) (s : State) : Ans :=
  happen (s.live && decide ((s.txp p).st ≠ .off) && decide (span < (s.txp p).next)) s (s.txLate p span)

/-- TX_UNDERRUN: the LOOM has not supplied a span's payload in time; it is sent with fill (R153). -/
def execTxUnderrun (p : Port) (s : State) : Ans :=
  happen (s.live && decide ((s.txp p).st ≠ .off)) s
    ((s.bump (txCtr p 3) 1).raiseLimited (0x091200 + p.val) second 0x0912 3 (portHa p) (sat 0xFFFF))

/-- LINE_TX_XFADE_DONE (Table 5-14). -/
def evXfadeDone (p : Port) (emph : Bool) (s : State) : State :=
  (s.bump (txCtr p 9) 1).raise 0x0914 0 (portHa p) (b2n emph * 2 ^ 20 + Int.bits 20 (s.txp p).cdPre)

/-- TX_XFADE_END: 64 spans after its start a cross-fade is complete: of the pre-compensator, or of a DAC's pre-emphasis
(R144, R146). -/
def execTxXfadeEnd (p : Port) (dac : Option (Fin 4)) (s : State) : Ans :=
  let t := s.txp p
  match dac with
  | none =>
    happen (s.live && (match t.fade with | some f => decide (f.start + 64 ≤ t.next) | none => false)) s
      (evXfadeDone p false (s.setTx p { t with fade := none }))
  | some d =>
    happen (s.live && (match Tab.get none t.emphFade d.val with | some f => decide (f.start + 64 ≤ t.next) | none => false)) s
      (evXfadeDone p true (s.setTx p { t with emphFade := Tab.set none t.emphFade d.val none }))

/-- TX_DEFERRED_COMMIT: the cross-fade that a load waited for has ended; the load commits (R145, R159). -/
def execTxDeferredCommit (p : Port) (dac : Option (Fin 4)) (s : State) : Ans :=
  let t := s.txp p
  match dac with
  | none => happen (s.live && t.fade.isNone && s.txWaits (.txPrecomp p)) s (s.commitTx p (.txPrecomp p))
  | some d =>
    happen (s.live && (Tab.get none t.emphFade d.val).isNone && s.txWaits (.txEmph p d.val)) s (s.commitTx p (.txEmph p d.val))

end Sys2Proof.Machine
end

