-- ==== Sys2Proof/Machine/Loom.lean ====
section
/-!
DEFINITION. The Loom's opcodes and happenings (spec/08).
-/

set_option Elab.async false

namespace Sys2Proof.Machine

/-! ### Shared forms -/

/-- The directions of a DIR code: 1 receive, 2 transmit, 3 both (Table 8-10). -/
def waysOf (code : Nat) : List Way := if code = 1 then [0] else if code = 2 then [1] else if code = 3 then [0, 1] else []

def targetLoom (_ : State) (t : Nat) : Bool := t == 0x05FFF

/-- An agreement on a direction is open on either port (R206): at the requester from its first RATE_PROPOSE to its switch,
a refusal or NO_ANSWER, at the responder from the commit to the switch. -/
def State.stepOpen (s : State) (d : Way) : Bool :=
  [(0 : Port), 1].any fun p =>
    let r := s.ra.ports.get p
    if d = 0 then r.rxAgreed.isSome || (match r.attempt with | some a => decide (0 < a.sends) | none => false)
    else r.txAgreed.isSome

/-- BUSY STEP_PENDING (R206). -/
def stepFree (ws : List Way) (s : State) : Option Rej := busy (!(ws.any fun d => s.stepOpen d)) 0xE

/-- A pair is suspended while a bolt of it lacks a nominal member; LOOM_PROT reports both changes (R248). -/
def State.refreshPairs (s : State) : State :=
  (s.pairs 0).foldl (fun s q =>
    let short (b : Nat) : Bool := match s.bolt 0 b with
      | some bolt => decide ((s.membersNow 0 b).length < bolt.members.length)
      | none => false
    let sus := short q.working || short q.protect
    if sus = q.suspended then s
    else
      let q1 := { q with suspended := sus, sel := if sus then false else q.sel }
      let s1 := s.withLoom { s.loom with pairs := s.loom.pairs.upd 0 fun l => l.map fun x => if x.working = q.working then q1 else x }
      s1.raiseLimited (0x05050000 + q.working) (10 * milli) 0x0505 1 loomHa fun n =>
        b2n q1.sel * 2 ^ 31 + (if sus then 4 else 5) * 2 ^ 28 + sat 4095 (n - 1) * 2 ^ 16 + q.working) s

/-- LOOM_LABEL: at most 256 a second, further changes counted (Table 8-16, R258). -/
def State.labelEvent (p : Port) (t : Nat) (on : Bool) (s : State) : State :=
  if s.time < Tab.get 0 s.clerk.stamps 0x050400 ∧ 256 ≤ Tab.get 0 s.clerk.tallied 0x050400 then s.bump (loomCtr p 11) 1
  else s.raiseAtMost 256 0x050400 0x0504 2 loomHa (b2n on * 2 ^ 31 + t)

/-- Take a thread's label mismatch afresh; a change is reported. -/
def State.refreshLabel (p : Port) (t : Nat) (s : State) : State :=
  let l := Tab.get {} s.loom.labels t
  let m := s.labelMism t
  if m = l.mism then s
  else ((s.withLoom { s.loom with labels := Tab.set {} s.loom.labels t { l with mism := m } }).labelEvent p t m).refreshDelin

/-- A change of a direction's nominal plan or guard entries: HELD ends, pairs and bolt states follow (R207, R233, R248). -/
def State.replan (ws : List Way) (s : State) : State :=
  let s1 := if ws.contains 0 then
      s.withRa { s.ra with ports := ⟨{ s.ra.ports.a with held := false }, { s.ra.ports.b with held := false }⟩ }
    else s
  ((s1.refreshPairs.downBolts).refreshPools).refreshThreads

/-! ### Opcodes that configure (R251 to R254) -/

/-- LOOM_PORT_CONFIG (Table 8-9). -/
def loomPortConfigOp : OpDef where
  code := 0x0501
  lo := 1
  hi := 1
  targetOk := targetLoom
  check := fun c _ => firstRej [resv c 0 30 11, param (decide ((c.p 0).fld 10 8 ≤ 4)) 0, resv c 0 7 1]
  effect := sets fun c s => s.updLp (if (c.p 0).bit 31 then 1 else 0) fun l =>
    { l with matchErr := (c.p 0).fld 10 8, labelDown := (c.p 0).bit 0 }

def execLoomPortConfig (c : Cmd) (s : State) : Ans := serve loomPortConfigOp c s

/-- Member `i` of a LOOM_BOLT_SET: its 16 bits and the word that holds them (Table 8-10). -/
def memberBits (c : Cmd) (i : Nat) : Nat :=
  if i % 2 = 0 then (c.p (1 + i / 2)).fld 15 0 else (c.p (1 + i / 2)).fld 31 16

def boltMembers (c : Cmd) : List (Nat × Nat) :=
  (List.range ((c.p 0).fld 18 8)).map fun i => (memberBits c i / 2 ^ 15, memberBits c i % 2 ^ 10)

/-- The checks of the member list, in order. -/
def memberChecks (c : Cmd) : List (Option Rej) :=
  let ms := boltMembers c
  (List.range ms.length).flatMap fun i =>
    [param (memberBits c i / 2 ^ 10 % 2 ^ 5 == 0) (1 + i / 2), param (decide (memberBits c i % 2 ^ 10 ≤ 639)) (1 + i / 2),
     param (!((ms.take i).contains (ms.getD i (0, 0)))) (1 + i / 2) 0x10]

/-- Units that the threads of a bolt need. -/
def State.unitsNeeded (s : State) (d : Way) (b : Nat) : Nat := ((s.threadsOf d b).map fun t => t.2.size).sum

/-- The checks of LOOM_BOLT_SET that a direction adds (R252). -/
def boltParamChecks (c : Cmd) (s : State) (d : Way) : List (Option Rej) :=
  let b := (c.p 0).fld 29 19
  let ms := boltMembers c
  let taken := (s.bolts d).flatMap fun e => if e.1 = b then [] else match e.2 with | some x => x.members | none => []
  ((List.range ms.length).map fun i => param (!(taken.contains (ms.getD i (0, 0)))) (1 + i / 2) 0x10) ++
    [param (ms.isEmpty || decide (s.unitsNeeded d b ≤ 512 * ms.length)) 0xFFFF 0xF]

def boltStateChecks (c : Cmd) (s : State) (d : Way) : List (Option Rej) :=
  let b := (c.p 0).fld 29 19
  let n := (c.p 0).fld 18 8
  let pair := (s.pairOf d b).isSome
  if n = 0 then [stateErr (s.bolt d b).isSome 0x11, stateErr ((s.threadsOf d b).isEmpty && !pair) 0x12]
  else [stateErr (!pair || (match s.bolt d b with | some x => x.members.length == n | none => true)) 0x13]

/-- The commit of LOOM_BOLT_SET in a direction: a bolt defined at receive is DOWN, a deleted one undefined (Table 8-16). -/
def State.setBolt (d : Way) (b : Nat) (v : Option Bolt) (s : State) : State :=
  let old := s.bolt d b
  let s1 := s.withLoom { s.loom with bolts := s.loom.bolts.upd d fun t => Tab.set none t b v }
  if d ≠ 0 then s1
  else match old, v with
    | none, some _ => (s1.setBoltRx b {}).raise 0x0502 2 loomHa (1 * 2 ^ 28 + 5 * 2 ^ 20 + b)
    | some _, none =>
      (s1.withLoom { s1.loom with boltRx := Tab.set none s1.loom.boltRx b none }).raise 0x0502 2 loomHa
        ((s.boltRx b).st * 2 ^ 24 + 5 * 2 ^ 20 + b)
    | _, _ => s1

/-- LOOM_BOLT_SET (Table 8-10, R252). -/
def loomBoltSetOp : OpDef where
  code := 0x0502
  queue := some 2
  lo := 1
  hi := 641
  targetOk := targetLoom
  check := fun c s =>
    let ws := waysOf ((c.p 0).fld 31 30)
    let n := (c.p 0).fld 18 8
    firstRej ([param (!ws.isEmpty) 0, param (decide (n ≤ 1280)) 0,
      param (decide ((c.p 0).fld 7 0 ≤ 250) && ((c.p 0).fld 7 0 != 0 || n == 0)) 0,
      param (c.params.length == 1 + (n + 1) / 2) 0xFFFF 5] ++ memberChecks c ++
      [param (n % 2 == 0 || (c.p (1 + n / 2)).fld 31 16 == 0) (1 + n / 2)] ++
      (ws.flatMap (boltParamChecks c s)) ++ (ws.flatMap (boltStateChecks c s)) ++ [stepFree ws s])
  effect := sets fun c s =>
    let ws := waysOf ((c.p 0).fld 31 30)
    let v : Option Bolt := if (c.p 0).fld 18 8 = 0 then none else some ⟨boltMembers c, (c.p 0).fld 7 0⟩
    (ws.foldl (fun s d => s.setBolt d ((c.p 0).fld 29 19) v) s).replan ws

def execLoomBoltSet (c : Cmd) (s : State) : Ans := serve loomBoltSetOp c s

/-- Entry `e` of a LOOM_THREAD_SET: the thread and its definition (Table 8-11). -/
def threadEntry (c : Cmd) (e : Nat) : Nat × Thread :=
  let a := c.p (1 + 2 * e); let z := c.p (2 + 2 * e)
  (a.fld 17 0, ⟨a.fld 28 18, z.fld 19 0, z.fld 31 24, a.bit 31⟩)

def threadEntries (c : Cmd) : List (Nat × Thread) := (List.range ((c.p 0).fld 10 0)).map (threadEntry c)

/-- The thread table of a direction after the commit: the last entry of a thread stands, SIZE 0 deletes (R253). -/
def threadsAfter (c : Cmd) (s : State) (d : Way) : Tab (Option Thread) :=
  (threadEntries c).foldl (fun t e =>
    Tab.set none t e.1 (if e.2.size = 0 then none else some { e.2 with regen := e.2.regen && d == 0 })) (s.threads d)

/-- Some bolt's threads need more units than its nominal members give. -/
def overbooked (s : State) (d : Way) (t : Tab (Option Thread)) : Bool :=
  (s.bolts d).any fun e => match e.2 with
    | none => false
    | some b => decide (512 * b.members.length <
        (t.map fun x => match x.2 with | some th => if th.bolt = e.1 then th.size else 0 | none => 0).sum)

def threadFieldChecks (c : Cmd) : List (Option Rej) :=
  (List.range ((c.p 0).fld 10 0)).flatMap fun e =>
    [resv c (1 + 2 * e) 30 29, param (!((c.p (1 + 2 * e)).bit 31) || (c.p 0).fld 31 30 != 2) (1 + 2 * e),
     resv c (2 + 2 * e) 23 20, param (decide ((c.p (2 + 2 * e)).fld 19 0 ≤ 655360)) (2 + 2 * e)]

/-- REGEN names a transmit thread of the same nominal size (R253). -/
def regenChecks (c : Cmd) (s : State) : List (Option Rej) :=
  let ws := waysOf ((c.p 0).fld 31 30)
  let tx := if ws.contains 1 then threadsAfter c s 1 else s.threads 1
  if !ws.contains 0 then []
  else (List.range ((c.p 0).fld 10 0)).map fun e =>
    let x := threadEntry c e
    param (!x.2.regen || x.2.size == 0 || (match Tab.get none tx x.1 with | some th => th.size == x.2.size | none => false))
      (1 + 2 * e) 5

def threadStateChecks (c : Cmd) (s : State) (d : Way) : List (Option Rej) :=
  (threadEntries c).flatMap fun x =>
    if x.2.size = 0 then []
    else [stateErr (s.bolt d x.2.bolt).isSome 0x11, stateErr (!((s.pairs d).any fun q => q.protect == x.2.bolt)) 0x13]

/-- LOOM_THREAD_SET (Table 8-11, R253). -/
def loomThreadSetOp : OpDef where
  code := 0x0503
  queue := some 2
  lo := 3
  hi := 2045
  targetOk := targetLoom
  check := fun c s =>
    let ws := waysOf ((c.p 0).fld 31 30)
    let n := (c.p 0).fld 10 0
    firstRej ([param (!ws.isEmpty) 0, resv c 0 29 11, param (decide (1 ≤ n ∧ n ≤ 1022)) 0,
      param (c.params.length == 1 + 2 * n) 0xFFFF 5] ++ threadFieldChecks c ++
      (ws.map fun d => param (!overbooked s d (threadsAfter c s d)) 0xFFFF 0xF) ++ regenChecks c s ++
      (ws.flatMap (threadStateChecks c s)) ++ [stepFree ws s])
  effect := sets fun c s =>
    let ws := waysOf ((c.p 0).fld 31 30)
    let put (s : State) (d : Way) : State :=
      s.withLoom { s.loom with threads := s.loom.threads.set d (threadsAfter c s d) }
    let s1 := ws.foldl put s
    let s2 := if ws.contains 0 then (threadEntries c).foldl (fun s x =>
        if (s.thread 0 x.1).isSome then s.refreshLabel 0 x.1
        else s.withLoom { s.loom with labels := Tab.set {} s.loom.labels x.1 {} }) s1
      else s1
    s2.replan ws

def execLoomThreadSet (c : Cmd) (s : State) : Ans := serve loomThreadSetOp c s

/-- The checks of LOOM_PROT_SET in a direction (R245, R254). -/
def protChecks (c : Cmd) (s : State) (d : Way) : List (Option Rej) :=
  let q := (c.p 0).fld 21 11; let w := (c.p 0).fld 10 0
  let len (b : Nat) : Nat := match s.bolt d b with | some x => x.members.length | none => 0
  if (c.p 0).bit 29 then
    [stateErr ((s.bolt d w).isSome && (s.bolt d q).isSome) 0x11,
     stateErr (len w == len q && (s.threadsOf d q).isEmpty && (s.pairOf d w).isNone && (s.pairOf d q).isNone) 0x13]
  else [stateErr ((s.pairs d).any fun x => x.working == w && x.protect == q) 0x14]

/-- LOOM_PROT_SET (Table 8-12, R254). -/
def loomProtSetOp : OpDef where
  code := 0x0504
  lo := 1
  hi := 1
  targetOk := targetLoom
  check := fun c s =>
    let ws := waysOf ((c.p 0).fld 31 30)
    firstRej ([param (!ws.isEmpty) 0, resv c 0 27 22, param ((c.p 0).fld 21 11 != (c.p 0).fld 10 0) 0 5] ++
      (ws.flatMap (protChecks c s)) ++ [stepFree ws s])
  effect := sets fun c s =>
    let ws := waysOf ((c.p 0).fld 31 30)
    let q := (c.p 0).fld 21 11; let w := (c.p 0).fld 10 0
    let new (l : List Pair) : List Pair :=
      if (c.p 0).bit 29 then l ++ [⟨w, q, (c.p 0).bit 28, 0, false, false, none⟩] else l.filter fun x => x.working != w
    let put (s : State) (d : Way) : State := s.withLoom { s.loom with pairs := s.loom.pairs.upd d new }
    (ws.foldl put s).replan ws

def execLoomProtSet (c : Cmd) (s : State) : Ans := serve loomProtSetOp c s

/-- LOOM_PROT_SWITCH (Table 8-13, R247). -/
def loomProtSwitchOp : OpDef where
  code := 0x0505
  queue := some 0
  lo := 1
  hi := 1
  targetOk := targetLoom
  check := fun c s => firstRej [param (decide ((c.p 0).fld 31 28 ≤ 4)) 0, resv c 0 27 11,
    stateErr ((s.pairs 0).any fun q => q.working == (c.p 0).fld 10 0) 0x14]
  effect := sets fun c s =>
    let one (q : Pair) : Pair := if q.working = (c.p 0).fld 10 0 then { q with request := (c.p 0).fld 31 28 } else q
    s.withLoom { s.loom with pairs := s.loom.pairs.upd 0 fun l => l.map one }

def execLoomProtSwitch (c : Cmd) (s : State) : Ans := serve loomProtSwitchOp c s

/-! ### Status (R255 to R258) -/

def cmdPort31 (c : Cmd) : Port := if (c.p 0).bit 31 then 1 else 0

/-- The five words of LOOM_PORT_STATUS (Table 8-14). -/
def loomPortStatus (p : Port) (s : State) : List Word :=
  let l := s.lp p
  [mkw [(31, 28, l.st.code), (27, 23, l.cands.length), (12, 10, min 5 l.misses), (9, 0, (s.placement 0 p).length)],
   w32 (if l.st = .locked then l.mfn else 0),
   mkw [(31, 16, l.tick), (15, 0, l.txTick)],
   w32 l.txMfn,
   mkw [(15, 12, l.sbei), (11, 11, b2n l.sbdi), (10, 10, b2n (l.st != .locked)), (9, 0, (s.placement 1 p).length)]]

/-- LOOM_PORT_STATUS. -/
def loomPortStatusOp : OpDef where
  code := 0x0506
  lo := 1
  hi := 1
  targetOk := targetLoom
  check := fun c _ => resv c 0 30 0
  effect := reads fun c s => loomPortStatus (cmdPort31 c) s

def execLoomPortStatus (c : Cmd) (s : State) : Ans := serve loomPortStatusOp c s

/-- The four words of LOOM_BOLT_STATUS (Table 8-15). -/
def loomBoltStatus (b : Nat) (s : State) : List Word :=
  match s.bolt 0 b with
  | none => [0, 0, 0, 0]
  | some _ =>
    let r := s.boltRx b
    let m := s.membersNow 0 b
    let (role, partner, sel, req) := match s.pairOf 0 b with
      | none => (0, 0, false, 0)
      | some q => (if q.suspended then 3 else if q.working = b then 1 else 2,
          if q.working = b then q.protect else q.working, q.sel, q.request)
    [mkw [(31, 28, r.st), (27, 26, role), (25, 25, b2n sel), (24, 22, req), (21, 11, partner)],
     mkw [(19, 10, (m.filter fun e => e.1 == 0).length), (9, 0, (m.filter fun e => e.1 == 1).length)],
     w32 (Int.bits 32 r.skew), w32 r.peak]

/-- LOOM_BOLT_STATUS: the reply takes SKEW_PEAK and starts it anew. -/
def loomBoltStatusOp : OpDef where
  code := 0x0507
  lo := 1
  hi := 1
  targetOk := targetLoom
  check := fun c _ => resv c 0 31 11
  effect := fun c s =>
    let b := (c.p 0).fld 10 0
    (.ok (loomBoltStatus b s), if (s.bolt 0 b).isSome then s.setBoltRx b { s.boltRx b with peak := 0 } else s)

def execLoomBoltStatus (c : Cmd) (s : State) : Ans := serve loomBoltStatusOp c s

/-- One word of LOOM_THREAD_STATUS (R255). Before a label is accepted ACCEPTED reads as `none0`, a free value. -/
def threadWord (t none0 : Nat) (s : State) : Word :=
  match s.thread 0 t with
  | none => 0
  | some _ =>
    let l := Tab.get {} s.loom.labels t
    mkw [(31, 24, if l.accepted = 0 then none0 else l.accepted - 1), (23, 23, b2n (s.labelMism t)),
         (22, 22, b2n (s.threadDown t)), (19, 0, s.sizeNow 0 t)]

/-- LOOM_THREAD_STATUS (R255). -/
def loomThreadStatusOp : OpDef where
  code := 0x0508
  queue := some 2
  lo := 1
  hi := 1
  targetOk := targetLoom
  check := fun c _ =>
    let n := (c.p 0).fld 28 18
    firstRej [resv c 0 31 29, param (decide (1 ≤ n ∧ n ≤ 2045)) 0, param (decide ((c.p 0).fld 17 0 + n ≤ 262144)) 0]
  effect := fun c s =>
    let n := (c.p 0).fld 28 18
    (.ok ((List.range n).map fun k => threadWord ((c.p 0).fld 17 0 + k) (Config.freeValue (s.free + k)) s),
      s.withFree (s.free + n))

def execLoomThreadStatus (c : Cmd) (s : State) : Ans := serve loomThreadStatusOp c s

/-- Words of an entry and entries of a set, by kind (Table 8-6). -/
def pmWords (kind : Nat) : Nat := if kind = 0 then 6 else if kind = 1 then 5 else 3
def pmEntries (kind : Nat) : Nat := if kind = 0 then 2 else if kind = 1 then 4096 else 262144

/-- LOOM_PM_READ (R256). -/
def loomPmReadOp : OpDef where
  code := 0x0509
  queue := some 2
  lo := 1
  hi := 1
  targetOk := targetLoom
  check := fun c _ =>
    let kind := (c.p 0).fld 31 30; let n := (c.p 0).fld 28 18
    firstRej [param (kind != 3) 0, param (decide (1 ≤ n ∧ (c.p 0).fld 17 0 + n ≤ pmEntries kind)) 0,
      param (decide (2 + n * pmWords kind ≤ 2045)) 0]
  effect := reads fun c s =>
    let kind := (c.p 0).fld 31 30
    let l := if (c.p 0).bit 29 then s.loom.previous else s.loom.latest
    [w32 l.seq, w32 l.time] ++ (List.range ((c.p 0).fld 28 18)).flatMap fun k =>
      (List.range (pmWords kind)).map fun w => w32 (Tab.get 0 l.counts (pmKey kind ((c.p 0).fld 17 0 + k) w))

def execLoomPmRead (c : Cmd) (s : State) : Ans := serve loomPmReadOp c s

/-- LOOM_MAP_READ (R257). -/
def loomMapReadOp : OpDef where
  code := 0x050A
  queue := some 2
  lo := 1
  hi := 1
  targetOk := targetLoom
  check := fun c _ => firstRej [param (decide ((c.p 0).fld 31 30 = 1 ∨ (c.p 0).fld 31 30 = 2)) 0, resv c 0 29 1]
  effect := reads fun c s =>
    let pl := s.placement (if (c.p 0).fld 31 30 = 1 then 0 else 1) (if (c.p 0).bit 0 then 1 else 0)
    (List.range 640).map (mapEntry pl)

def execLoomMapRead (c : Cmd) (s : State) : Ans := serve loomMapReadOp c s

/-- LOOM_COUNTERS (R258). -/
def loomCountersOp : OpDef where
  code := 0x050B
  lo := 1
  hi := 1
  targetOk := targetLoom
  check := fun c _ => resv c 0 31 1
  effect := reads fun c s => s.counterWords (loomCtr (if (c.p 0).bit 0 then 1 else 0) 0) 12

def execLoomCounters (c : Cmd) (s : State) : Ans := serve loomCountersOp c s

/-! ### Alignment (R224 to R226) -/

/-- The receive direction runs 400ZR: its frame is aligned by the agreement's rules (R250). -/
def State.zrRx (s : State) (p : Port) : Bool := (s.rxp p).mod == 4

/-- One matching position of the stream in SEARCH (R225): candidates whose expected position it has passed are dropped; at
an expected position a hit, elsewhere a new candidate or an overflow. `len` is B_F. -/
def searchMatch (p : Port) (len : Nat) (s : State) (x : Nat) : State :=
  let cs := (s.lp p).cands.filter fun c => decide (x ≤ c.1)
  if cs.any (fun c => c.1 == x) then
    s.updLp p fun l => { l with cands := cs.map fun c => if c.1 = x then (x + len, c.2 + 1) else c }
  else if 16 ≤ cs.length then (s.updLp p fun l => { l with cands := cs }).bump (loomCtr p 1) 1
  else (s.updLp p fun l => { l with cands := cs ++ [(x + len, 1)] }).bump (loomCtr p 0) 1

/-- A candidate has three matches (R225). -/
def aligned (l : LoomPort) : Bool := l.cands.any fun c => decide (3 ≤ c.2)

/-- FN, MFN and TICK of a frame follow those before it by one (R226). -/
def follows (a b : Nat × Nat × Nat) : Bool :=
  b.1 == (a.1 + 1) % 256 && b.2.1 == (if a.1 = 255 then a.2.1 + 1 else a.2.1) && b.2.2 == (a.2.2 + 1) % 65536

/-- Consistent frames in a row at the end of a list of frame numbers. -/
def goodRun : Nat → List (Nat × Nat × Nat) → Nat
  | n, a :: b :: r => goodRun (if follows a b then n + 1 else 1) (b :: r)
  | n, _ => n

/-- ALIGN_DECLARE: SEARCH goes on over the positions `found` of the stream that match, in order; a candidate that reaches
three matches makes the framer ALIGNED, `heads` being the numbers of its frames (R223, R225). -/
def execAlignDeclare (p : Port) (found : List Nat) (heads : List (Nat × Nat × Nat)) (s : State) : Ans :=
  let r := s.rxp p
  let len := capacity r.symRate r.mod r.entropy (s.fecp p).oh
  let one (s : State) (x : Nat) : State := if aligned (s.lp p) then s else searchMatch p len s x
  let s1 := found.foldl one s
  let last := heads.getLast?.getD (0, 0, 0)
  let s2 := (s1.updLp p fun l => { l with cands := [], good := goodRun 1 heads, fn := last.1, mfn := last.2.1, tick := last.2.2 }).bump (loomCtr p 2) 1
  happen (s.live && decide ((s.lp p).st = .search)) s (if s.zrRx p || aligned (s1.lp p) then s2.moveFramer p .aligned 1 else s1)

/-- LOCK_DECLARE: three consecutive frames were consistent (R226). -/
def execLockDeclare (p : Port) (s : State) : Ans :=
  happen (s.live && decide ((s.lp p).st = .aligned) && (s.zrRx p || decide (3 ≤ (s.lp p).good))) s (s.moveFramer p .locked 3)

/-- LOF_DECLARE: five consecutive frames without a match (R226). -/
def execLofDeclare (p : Port) (s : State) : Ans :=
  let st := (s.lp p).st
  happen (s.live && decide (st = .aligned ∨ st = .locked) && (s.zrRx p || decide (5 ≤ (s.lp p).misses))) s
    ((s.bump (loomCtr p 3) 1).moveFramer p .search 2)

/-- LOM_DECLARE: five consecutive matching frames were inconsistent in LOCKED (R226). -/
def execLomDeclare (p : Port) (s : State) : Ans :=
  happen (s.live && decide ((s.lp p).st = .locked) && (s.zrRx p || decide (5 ≤ (s.lp p).bad))) s
    ((s.bump (loomCtr p 4) 1).moveFramer p .aligned 4)

end Sys2Proof.Machine
end

