-- ==== Sys2Proof/Machine/LoomData.lean ====
section
/-!
DEFINITION. Frames, ticks and labels of the Loom (spec/08 R219 to R250).
-/

set_option Elab.async false

namespace Sys2Proof.Machine

/-- Set bits of a number of `n` bits. -/
def popCount (n v : Nat) : Nat := ((List.range n).map fun k => v / 2 ^ k % 2).sum

/-- FAS of Table 8-2. -/
def fas : Nat := 0xF6F6F6282828A53C

/-- A tick lies after another in the order of R235; TICK repeats every 2^16 (R236). -/
def tickAfter (a b : Nat) : Bool := decide (0 < (a + 65536 - b) % 65536 ∧ (a + 65536 - b) % 65536 < 32768)

/-! ### Frames arrive (R224, R226, R228, R234, R240, R243, R244) -/

/-- The numbers of a frame: FN, MFN, TICK (Table 8-2). -/
def frameHead (ws : List Word) : Nat × Nat × Nat :=
  ((ws.getD 2 0).fld 31 24, (ws.getD 3 0).toNat + (ws.getD 4 0).fld 31 16 * 2 ^ 32, (ws.getD 2 0).fld 23 8)

/-- The numbers after a frame's. -/
def nextHead (h : Nat × Nat × Nat) : Nat × Nat × Nat :=
  ((h.1 + 1) % 256, if h.1 = 255 then (h.2.1 + 1) % 2 ^ 48 else h.2.1, (h.2.2 + 1) % 65536)

/-- The framer judges a frame at its expected position (R226). In LOCKED it numbers frames by its own count and compares
it with what arrives; in ALIGNED it takes the numbers that arrive (DEDUCED, notes/assumptions/16). -/
def LoomPort.judge (l : LoomPort) (ws : List Word) : LoomPort :=
  let word := (ws.getD 0 0).toNat * 2 ^ 32 + (ws.getD 1 0).toNat
  let hit := decide (popCount 64 (word ^^^ fas) ≤ l.matchErr)
  let own := nextHead (l.fn, l.mfn, l.tick)
  let got := frameHead ws
  let ok := hit && got == own
  let h := if l.st = .locked ∨ hit = false then own else got
  { l with misses := if hit then 0 else l.misses + 1, good := if ok then l.good + 1 else if hit then 1 else 0,
           bad := if hit then (if ok then 0 else l.bad + 1) else l.bad,
           fn := h.1, mfn := h.2.1, tick := h.2.2 }

/-- Compare the four MEMBER_MAP entries of a frame with the placement in force (R234). -/
def State.checkMap (p : Port) (ws : List Word) (s : State) : State :=
  let l := s.lp p
  if 160 ≤ l.fn then s
  else
    let pl := s.placement 0 p
    (List.range 4).foldl (fun s i =>
      let k := 4 * l.fn + i
      let same := ws.getD (7 + i) 0 == mapEntry pl k
      let f (r : SlotRec) : SlotRec :=
        if same then { r with agree := min 2 (r.agree + 1), differ := 0 } else { r with differ := min 2 (r.differ + 1), agree := 0 }
      s.updLp p fun l => { l with slots := Tab.upd {} l.slots k f }) s

/-- Section parity and indications of a frame; `parity` is the parity of its own slot area as received (R243). -/
def State.checkSection (p : Port) (ws : List Word) (parity : Nat) (s : State) : State :=
  let l := s.lp p
  let n := match l.parity with | some v => popCount 8 (v ^^^ (ws.getD 2 0).fld 7 0) | none => 0
  let sbei := (ws.getD 4 0).fld 15 12
  let sbdi := (ws.getD 4 0).bit 11
  ((((s.updLp p fun l => { l with parity := some (parity % 256), sbeiDue := n, sbei := sbei, sbdi := sbdi }).pm 0 p.val 0 n).pm 0 p.val 1
    (min 1 n)).pm 0 p.val 2 sbei).pm 0 p.val 3 (b2n sbdi)

/-- Add the parity of a frame's member chunks by bolt to the multiframe in hand. -/
def xorPar (acc : Tab Nat) (l : List (Nat × Nat)) : Tab Nat :=
  l.foldl (fun a e => Tab.upd 0 a e.1 fun v => (v ^^^ e.2) % 256) acc

/-- The parity in hand after frame `fn`, and the parity of the last whole multiframe (R244). -/
def rollPar (fn : Nat) (acc : Option (Tab Nat)) (prev : Option (Tab Nat)) (l : List (Nat × Nat)) :
    Option (Tab Nat) × Option (Tab Nat) :=
  let a := if fn = 0 then some (xorPar [] l) else acc.map fun t => xorPar t l
  if fn = 255 then (none, a) else (a, prev)

/-- The eight BOLT_OH entries of a frame, and its member chunks' parity by bolt (R244). -/
def State.checkBolts (p : Port) (ws : List Word) (boltPar : List (Nat × Nat)) (s : State) : State :=
  let l := s.lp p
  let one (s : State) (i : Nat) : State :=
    let b := 8 * l.fn + i
    let e := ws.getD (11 + i) 0
    let idx := 2 * b + p.val
    let s1 := (s.pm 1 idx 2 (e.fld 22 19)).pm 1 idx 3 (b2n (e.bit 18))
    match l.boltParPrev, s.bolt 0 b with
    | some t, some _ =>
      if e.bit 31 then
        let n := popCount 8 (Tab.get 0 t b ^^^ e.fld 30 23)
        ((s1.pm 1 idx 0 n).pm 1 idx 1 (min 1 n)).updLp p fun l => { l with bbeiDue := Tab.set 0 l.bbeiDue b n }
      else s1
    | _, _ => s1
  ((List.range 8).foldl one s).updLp p fun l =>
    { l with boltPar := (rollPar l.fn l.boltPar l.boltParPrev boltPar).1,
             boltParPrev := (rollPar l.fn l.boltPar l.boltParPrev boltPar).2 }

/-- One entry of the label channel (R240, R241). -/
def State.takeLabel (p : Port) (s : State) (e : Word) : State :=
  if e.bit 31 then
    let t := e.fld 17 0
    let v := e.fld 25 18
    let s1 := s.bump (loomCtr p 9) 1
    if (s.thread 0 t).isNone then s1.bump (loomCtr p 10) 1
    else
      let f (l : LabelRx) : LabelRx :=
        if 0 < l.count ∧ l.value = v then { l with count := min 3 (l.count + 1) } else { l with value := v, count := 1 }
      s1.withLoom { s1.loom with labels := Tab.upd {} s1.loom.labels t f }
  else s

/-- FRAME_ARRIVE: a frame's last bit is final; `ws` is its overhead descrambled, `clean` that no span that holds its bits was
uncorrected, `parity` and `boltPar` the parities of its slot area and of its member chunks by bolt (R226, R228, R235,
R250). Only in LOCKED is it demapped. -/
def execFrameArrive (p : Port) (ws : List Word) (clean : Bool) (parity : Nat) (boltPar : List (Nat × Nat)) (s : State) : Ans :=
  let zr := s.zrRx p
  let l0 := s.lp p
  let locked := decide (l0.st = .locked)
  let s1 := if zr then s.updLp p fun l => { l with tick := s.time / (2560 * nano) % 65536 } else s.updLp p fun l => l.judge ws
  let l := s1.lp p
  let lost := s1.store.lostFrames.contains (p.val, l.tick)
  let s1' := s1.withStore { s1.store with lostFrames := s1.store.lostFrames.filter (· != (p.val, l.tick)) }
  let s2 := (s1'.updLp p fun l => if lost then l else { l with frames := l.frames ++ [⟨l.tick, s.time, clean⟩] }).bump (loomCtr p 5) 1
  let s3 := if clean then s2 else (s2.bump (loomCtr p 6) 1).pm 0 p.val 5 1
  let ann := (ws.getD 5 0).toNat * 2 ^ 32 + (ws.getD 6 0).toNat
  let s4 := (((s3.checkMap p ws).checkSection p ws parity).checkBolts p ws boltPar).updLp p fun l =>
    { l with anns := ((ann, l.mfn % 2 ^ 32, clean) :: l.anns).take 3 }
  let s5 := ((ws.drop 19).take 256).foldl (State.takeLabel p) s4
  let s6 := if l.fn = 255 ∧ l.slots.any (fun e => e.2.mism) = true then s5.bump (loomCtr p 7) 1 else s5
  happen (s.live && s.tracking p && decide (l0.st = .aligned ∨ l0.st = .locked)) s
    (if locked then (if zr then s3 else s6) else s1)

/-- MAP_MISMATCH: a slot has differed, or matched, in two consecutive multiframes; its mismatch is raised or cleared
(R234). -/
def execMapMismatch (p : Port) (slot : Nat) (s : State) : Ans :=
  let r := Tab.get {} (s.lp p).slots slot
  let s1 := (s.updLp p fun l => { l with slots := Tab.set {} l.slots slot { r with mism := !r.mism } }).raise 0x0503 3 loomHa
    (b2n (!r.mism) * 2 ^ 31 + p.val * 2 ^ 16 + slot)
  happen (s.live && (if r.mism then decide (2 ≤ r.agree) else decide (2 ≤ r.differ))) s (if r.mism then s1 else s1.downBolts)

/-- LABEL_ACCEPT: three consecutive receptions of a thread carried one value (R241). -/
def execLabelAccept (p : Port) (thread : Nat) (s : State) : Ans :=
  let l := Tab.get {} s.loom.labels thread
  happen (s.live && (s.thread 0 thread).isSome && decide (3 ≤ l.count) && l.accepted != l.value + 1) s
    ((s.withLoom { s.loom with labels := Tab.set {} s.loom.labels thread { l with accepted := l.value + 1 } }).refreshLabel p thread)

/-! ### Ticks (R235 to R237, R245, R246) -/

/-- The frame of a tick on a port. -/
def State.frameOf (s : State) (p : Port) (t : Nat) : Option FrameRec := (s.lp p).frames.find? fun f => f.tick == t

/-- A bolt has not yet read or skipped a tick. -/
def BoltRx.open_ (r : BoltRx) (t : Nat) : Bool := match r.last with | some x => tickAfter t x | none => true

/-- The copy of a tick that a bolt holds has a frame on a port. -/
def State.here (s : State) (b t : Nat) (p : Port) : Bool := (s.boltRx b).open_ t && (s.frameOf p t).isSome

/-- Frames of a tick are in from every port of a bolt. -/
def State.complete (s : State) (b t : Nat) : Bool := !(s.boltPorts 0 b).isEmpty && (s.boltPorts 0 b).all (s.here b t)

/-- A tick may be read: each port's frame of it has arrived, or the port has delivered a later tick (R235). -/
def State.ready (s : State) (b t : Nat) : Bool :=
  (s.boltPorts 0 b).all fun p => s.here b t p || (decide ((s.lp p).st = .locked) && tickAfter (s.lp p).tick t)

/-- Nothing holds a bolt DOWN (R236, R250). -/
def State.boltOk (s : State) (b : Nat) : Bool := !(s.boltUnlocked b || s.boltMism b || s.zrBroken 0 b)

/-- No earlier tick of a bolt waits: ticks are read in rising order (R235). -/
def State.isNext (s : State) (b t : Nat) : Bool :=
  (s.boltPorts 0 b).all fun p => (s.lp p).frames.all fun f => !((s.boltRx b).open_ f.tick) || !(tickAfter t f.tick)

/-- Frames that no bolt with members on their port has yet to read are dropped. -/
def State.dropFrames (s : State) : State :=
  [(0 : Port), 1].foldl (fun s p =>
    let bs := (s.bolts 0).filter fun e => (s.boltPorts 0 e.1).contains p
    s.updLp p fun l => { l with frames := l.frames.filter fun f => bs.any fun e => (s.boltRx e.1).open_ f.tick }) s

/-- Arrival on LINE1 less arrival on LINE0 in ns; 0 for a bolt on one port (Table 8-15). -/
def State.skewOf (s : State) (b t : Nat) : Int :=
  if (s.boltPorts 0 b).length < 2 then 0
  else match s.frameOf 0 t, s.frameOf 1 t with
    | some x, some y => ((y.at_ : Int) - x.at_) / 65536
    | _, _ => 0

/-- A bolt's own record of a tick that is read: DOWN ends where every port's frame is in, SKEW after 64 ticks in a row
(R236). -/
def State.readCopy (b t : Nat) (s : State) : State :=
  let full := s.complete b t && s.boltOk b
  let k := s.skewOf b t
  let r := s.boltRx b
  if full then
    let r1 := { r with last := some t, skew := k, peak := max r.peak k.natAbs, run := min 64 (r.run + 1) }
    let s1 := s.setBoltRx b r1
    if r.st = 1 then s1.moveBolt b 3 4 else if r.st = 2 ∧ 64 ≤ r1.run then s1.moveBolt b 3 4 else s1
  else s.setBoltRx b { r with last := some t }

/-- The threads of a bolt are handed on for a tick, or not (Table 8-6); `lost` have bits in a stripe that read
uncorrectable (R237); a thread that is down is not delivered (R241). -/
def State.handOn (b : Nat) (present : Bool) (lost : List Nat) (s : State) : State :=
  (s.layout 0 b).foldl (fun s t =>
    if t.2.2 = 0 then s
    else s.pm 2 t.1 (if present && !lost.contains t.1 && !s.threadDown t.1 then 0 else 1) 1) s

/-- A tick of a bolt is not delivered: counted in both entries of the bolt. -/
def State.notDelivered (b : Nat) (s : State) : State := (s.pm 1 (2 * b) 4 1).pm 1 (2 * b + 1) 4 1

/-- A copy of a tick is clean (R246). -/
def State.cleanCopy (s : State) (b t : Nat) (lost : List Nat) : Bool :=
  s.complete b t && !s.boltMism b && lost.isEmpty &&
  (s.boltPorts 0 b).all fun p => match s.frameOf p t with | some f => f.clean | none => false

/-- The copy that Table 8-5 names (true: protecting) and the cause of a change of selection (Table 8-16). -/
def selectCopy (q : Pair) (cleanW cleanP : Bool) : Bool × Nat :=
  if q.request = 1 then (false, 0) else if q.request = 2 then (true, 0)
  else if cleanW != cleanP then (cleanP, if cleanP then 1 else 3)
  else if q.request = 3 then (true, 0) else if q.request = 4 then (false, 0)
  else if q.revert then (false, 2) else (q.sel, 2)

/-- LOOM_PROT for a change of selection, at most once per 10 ms per pair (Table 8-16). -/
def evProt (q : Pair) (sel : Bool) (cause : Nat) (s : State) : State :=
  s.raiseLimited (0x05050000 + q.working) (10 * milli) 0x0505 1 loomHa fun n =>
    b2n sel * 2 ^ 31 + cause * 2 ^ 28 + sat 4095 n * 2 ^ 16 + q.working

/-- A protected tick may be read: it is in order, some copy has it, and each copy that is UP is ready (R245, R246). -/
def State.pairReads (s : State) (q : Pair) (t : Nat) : Bool :=
  let waits (b : Nat) : Bool := (s.boltRx b).st == 3
  (match q.last with | some x => tickAfter t x | none => true) &&
  ([q.working, q.protect].all fun b => !waits b || (s.ready b t && s.isNext b t)) &&
  ([q.working, q.protect].any fun b => if waits b then (s.boltPorts 0 b).any (s.here b t) else s.complete b t && s.boltOk b)

/-- A protected tick is read from the copy selected (R246). -/
def State.readPair (q : Pair) (t : Nat) (lostW lostP : List Nat) (s : State) : State :=
  let sel := selectCopy q (s.cleanCopy q.working t lostW) (s.cleanCopy q.protect t lostP)
  let b := if sel.1 then q.protect else q.working
  let present := s.complete b t
  let s1 := s.handOn q.working present (if sel.1 then lostP else lostW)
  let s2 := if present then s1 else (s1.notDelivered q.working).notDelivered q.protect
  let s3 := (s2.readCopy q.working t).readCopy q.protect t
  let one (x : Pair) : Pair := if x.working = q.working then { x with sel := sel.1, last := some t } else x
  let s4 := s3.withLoom { s3.loom with pairs := s3.loom.pairs.upd 0 fun l => l.map one }
  if sel.1 = q.sel then s4 else evProt q sel.1 sel.2 s4

/-- A bolt's tick is read alone (R235, R236). -/
def State.readAlone (b t : Nat) (lost : List Nat) (s : State) : State :=
  let present := s.complete b t
  let s1 := s.handOn b present lost
  (if present then s1 else s1.notDelivered b).readCopy b t

/-- TICK_READ: the tick reader reads tick `t` of a bolt, or of the pair it works in, and hands on its threads; `lostW` and
`lostP` are threads with bits in an uncorrectable stripe of the bolt and of its protecting bolt (R235 to R237, R246); `segs` are
the segments of STREAM threads that end with the tick (spec/10 R304). -/
def execTickRead (b t : Nat) (lostW lostP : List Nat) (segs : List (Nat × List Byte)) (s : State) : Ans :=
  match s.pairOf 0 b with
  | some q =>
    if q.suspended then
      happen (s.live && q.working == b && s.boltOk b && s.isNext b t && s.ready b t && (s.boltPorts 0 b).any (s.here b t)) s
        ((s.readAlone b t lostW).dropFrames.takeSegments b t segs)
    else happen (s.live && q.working == b && s.pairReads q t) s ((s.readPair q t lostW lostP).dropFrames.takeSegments b t segs)
  | none =>
    happen (s.live && (s.bolt 0 b).isSome && s.boltOk b && s.isNext b t && s.ready b t && (s.boltPorts 0 b).any (s.here b t)) s
      ((s.readAlone b t lostW).dropFrames.takeSegments b t segs)

/-- SKEW_MAX_EXPIRY: a tick that a bolt holds and cannot read has been held longer than SKEW_MAX; it is freed as not
delivered, unless the other bolt of its pair has it (R236, R246). -/
def execSkewMaxExpiry (b t : Nat) (s : State) : Ans :=
  let r := s.boltRx b
  let skew := r.st != 1 && (s.boltPorts 0 b).length == 2 && !s.boltUnlocked b
  let s1 := s.setBoltRx b { r with last := some t, run := 0 }
  let s2 := if skew then s1.moveBolt b 2 3 else s1
  let other := match s.pairOf 0 b with
    | some q => if q.suspended then none else some (if q.working = b then q.protect else q.working)
    | none => none
  let kept := match other with | some x => (s.boltPorts 0 x).any (s.here x t) | none => false
  happen (s.live && (s.bolt 0 b).isSome && s.isNext b t && (s.boltPorts 0 b).any (s.here b t) && !(s.boltOk b && s.ready b t)) s
    (if kept then s2 else (s2.handOn b false []).notDelivered b).dropFrames

/-! ### Frames are sent (R219 to R222, R198, R240, R243, R244) -/

/-- The numbers of the next frame of a port: multiframe and frame (R222). -/
def LoomPort.nextTx (l : LoomPort) : Nat × Nat :=
  if l.txSent then (if l.txFn = 255 then (l.txMfn + 1, 0) else (l.txMfn, l.txFn + 1))
  else (if l.txEver then l.txMfn + 1 else 0, 0)

/-- TICK of the next frame: the transmit period in which the first frame starts, then rising by one (R222). -/
def LoomPort.nextTxTick (l : LoomPort) (now : Nat) : Nat :=
  if l.txSent then (l.txTick + 1) % 65536 else now / (2560 * nano) % 65536

/-- The 64 bits of RATE_ANN in multiframe `mfn` (Table 7-3). Outside an announcement the spec fixes NEXT_ENTROPY and
COUNTDOWN alone; `open_` fills the rest. -/
def rateAnn (a : Option Agreement) (code mfn open_ : Nat) : Nat :=
  match a with
  | some a => a.code * 2 ^ 56 + (a.mf + 2 ^ 32 - mfn % 2 ^ 32) % 2 ^ 32 % 4096 * 2 ^ 44 + a.id * 2 ^ 32 + a.digest
  | none => code * 2 ^ 56 + open_ % 2 ^ 40

/-- The BOLT_OH entry of a bolt on a port (R244); BBIP8 before a whole multiframe was sent is `open_`. -/
def boltOh (p : Port) (b open_ : Nat) (s : State) : Word :=
  let l := s.lp p
  let has := (s.membersNow 1 b).any fun m => m.1 == p.val
  let par := match l.txBoltParPrev with | some t => Tab.get 0 t b | none => open_
  mkw [(31, 31, b2n has), (30, 23, if has then par else 0), (22, 19, if s.zrRx p then 0 else Tab.get 0 l.bbeiDue b),
       (18, 18, b2n ((s.bolt 0 b).isSome && (s.boltRx b).st != 3)), (10, 0, b)]

/-- The 256 entries of the label channel from thread `start` on, cycling over the threads with units on the port, and the
thread that follows them (R240). -/
def labelChannel (p : Port) (s : State) : List Word × Nat :=
  let ids := s.threadsOnPort 1 p
  if ids.isEmpty then (List.replicate 256 0, 0)
  else
    let from_ := (ids.filter fun t => decide (t < (s.lp p).txLabel)).length % ids.length
    let entry (k : Nat) : Word :=
      let t := ids.getD ((from_ + k) % ids.length) 0
      mkw [(31, 31, 1), (25, 18, match s.thread 1 t with | some th => th.label | none => 0), (17, 0, t)]
    ((List.range 256).map entry, ids.getD ((from_ + 256) % ids.length) 0)

/-- The 512 overhead words of a port's next frame (Table 8-2), `open_` for values the spec leaves open. -/
def frameWords (p : Port) (open_ : Nat → Nat) (s : State) : List Word :=
  let l := s.lp p
  let (mfn, fn) := l.nextTx
  let pl := s.placement 1 p
  let ann := rateAnn (s.ra.ports.get p).txAgreed (s.codeOf 1 p) mfn (open_ 0)
  [0xF6F6F628, 0x2828A53C,
   mkw [(31, 24, fn), (23, 8, l.nextTxTick s.time), (7, 0, l.txParity.getD (open_ 1))],
   w32 mfn,
   mkw [(31, 16, mfn / 2 ^ 32), (15, 12, if s.zrRx p then 0 else l.sbeiDue), (11, 11, b2n (l.st != .locked))],
   w32 (ann / 2 ^ 32), w32 ann] ++
  ((List.range 4).map fun i => if fn < 160 then mapEntry pl (4 * fn + i) else 0) ++
  ((List.range 8).map fun i => boltOh p (8 * fn + i) (open_ (2 + i)) s) ++
  (labelChannel p s).1 ++ List.replicate 237 0

/-- TX_FRAME_SEND: the transmit framer builds and sends a frame, whose slot area has the parities `parity` and, by bolt,
`boltPar`; threads in `under` lacked bits when their tick was read (R219 to R222, R242 to R245). A frame at which an
agreed switch is due waits for it (R200). 400ZR sends the agreement's frame (R250). -/
def execTxFrameSend (p : Port) (parity : Nat) (boltPar : List (Nat × Nat)) (under : List Nat) (s : State) : Ans :=
  let l := s.lp p
  let (mfn, fn) := l.nextTx
  let zr := (s.txp p).mod == 4
  let due := match (s.ra.ports.get p).txAgreed with | some a => a.mf == mfn % 2 ^ 32 && fn == 0 | none => false
  let par := rollPar fn l.txBoltPar l.txBoltParPrev boltPar
  let sent := (List.range 8).map (8 * fn + ·)
  let s1 := s.updLp p fun l => { l with
    txSent := true, txEver := true, txFn := fn, txMfn := mfn, txTick := l.nextTxTick s.time, txParity := some (parity % 256),
    txBoltPar := par.1, txBoltParPrev := par.2, sbeiDue := 0, bbeiDue := l.bbeiDue.filter (fun e => !sent.contains e.1),
    txLabel := (labelChannel p s).2 }
  let ws := if zr then [] else frameWords p (fun k => Config.freeValue (s.free + k)) s
  let s2 := ((s1.withFree (s.free + 10)).emit (.frame p.val mfn fn (ws.map (·.toNat)))).bump (loomCtr p 8) 1
  happen (s.live && decide ((s.txp p).st ≠ .off) && !due) s (under.foldl (fun s t => s.pm 2 t 2 1) s2)

end Sys2Proof.Machine
end

