-- ==== Sys2Proof/Machine/Rate.lean ====
section
/-!
DEFINITION. Hitless rate adaptation: opcodes and happenings (spec/07).
-/

set_option Elab.async false

namespace Sys2Proof.Machine

def State.rap (s : State) (p : Port) : RaPort := s.ra.ports.get p

/-- Counter `j` of LINE_RA_COUNTERS (R215). -/
def raCtr (p : Port) (j : Nat) : Nat := ctr 9 0x160 12 p.val j

/-! ### Bounds and codes (R192, R194, R211) -/

/-- The receive and the transmit bounds in effect: the configured ones, or the MOD's limits (Table 7-7). -/
def State.rxBounds (s : State) (p : Port) : Nat × Nat :=
  let r := s.rap p; let m := modRange (s.modOf 0 p)
  (if r.rxMin = 0 then m.1 else r.rxMin, if r.rxMax = 0 then m.2 else r.rxMax)
def State.txBounds (s : State) (p : Port) : Nat × Nat :=
  let r := s.rap p; let m := modRange (s.modOf 1 p)
  (if r.txMin = 0 then m.1 else r.txMin, if r.txMax = 0 then m.2 else r.txMax)

def within (b : Nat × Nat) (x : Nat) : Bool := decide (b.1 ≤ x ∧ x ≤ b.2)

/-- S at a code is at least 80. -/
def State.rateOk (s : State) (d : Way) (p : Port) (code : Nat) : Bool :=
  match s.slotsAt d p code with | some n => decide (80 ≤ n) | none => false

/-- A code the requester may seek (R194). -/
def State.seekable (s : State) (p : Port) (code : Nat) : Bool :=
  pcs (s.modOf 0 p) && within (s.rxBounds p) code && s.rateOk 0 p code

/-- The plan of a direction at a code (R204). -/
def State.planAt (s : State) (d : Way) (p : Port) (fb : Bool) (code : Nat) : Plan :=
  s.planFor d p fb ((s.slotsAt d p code).getD 0)

/-! ### Averages (R193) -/

/-- The window is full. -/
def RaPort.full (r : RaPort) : Bool := decide (r.window.length = 2 ^ r.avgLog2)

/-- Sums of the window's three estimates. -/
def RaPort.sumMargin (r : RaPort) : Int := (r.window.map fun e => e.1).sum
def RaPort.sumUp (r : RaPort) : Int := (r.window.map fun e => e.2.1).sum
def RaPort.sumDown (r : RaPort) : Int := (r.window.map fun e => e.2.2).sum

/-- An average in units of 0.001 and 16 bits. The spec does not say how it is rounded: between two units which one it reads
is a free value (notes/assumptions/14). 0x8000 without estimate. -/
def RaPort.average (r : RaPort) (sum : Int) (free : Nat) : Nat :=
  if r.full then
    let n : Int := (2 ^ r.avgLog2 : Nat)
    Int.bits 16 (sum / n + (if sum % n = 0 then 0 else (free % 2 : Nat)))
  else 0x8000

/-! ### Events (Table 7-10) -/

/-- LINE_RA_STEP. -/
def evRaStep (p : Port) (d : Way) (old new : Nat) (s : State) : State :=
  s.raise 0x0920 0 (portHa p) (d.val * 2 ^ 31 + ((s.slotsAt d p new).getD 0) * 2 ^ 16 + old * 2 ^ 8 + new)

/-- LINE_RA_REFUSED, at most once per second per direction (R207). -/
def evRaRefused (p : Port) (d : Way) (far : Bool) (cause code : Nat) (s : State) : State :=
  s.raiseAtMost 1 (0x092100 + 2 * p.val + d.val) 0x0921 2 (portHa p)
    (d.val * 2 ^ 31 + b2n far * 2 ^ 30 + cause * 2 ^ 24 + code)

/-! ### The requester (R194, R196, R207) -/

/-- A job of LINE_RA_STEP ends (R212). -/
def State.endStep (p : Port) (job : Option Nat) (status cause code mf : Nat) (s : State) : State :=
  match job with
  | none => s
  | some j => s.endJob j status [mkw [(27, 24, cause), (15, 8, s.codeOf 0 p), (7, 0, code)], w32 mf]

/-- The attempt ends refused: the direction is HELD where a step down would cut a COMMITTED thread (R207). -/
def State.refuseStep (p : Port) (a : Attempt) (far : Bool) (cause : Nat) (s : State) : State :=
  let held := cause == 1 && decide (a.code < s.codeOf 0 p)
  let s1 := s.updRa p fun r => { r with attempt := none, lastCause := cause, held := r.held || held }
  let s2 := s1.bump (raCtr p (if far then 2 else 3)) 1
  (evRaRefused p 0 far cause a.code s2).endStep p a.job stRefused cause a.code (if far then a.mf else 0)

/-- RATE_PROPOSE is sent with a new AGREEMENT_ID and SWITCH_MF (Table 7-1, R196). -/
def State.propose (p : Port) (a : Attempt) (s : State) : State :=
  let r := s.rap p
  let mf := if a.fallback then 0xFFFFFFFF else ((s.lp p).mfn + r.lead) % 2 ^ 32
  let digest := (s.planAt 0 p a.fallback a.code).digest
  let slots := (s.slotsAt 0 p a.code).getD 0
  let payload := [BitVec.ofNat 8 r.nextId, BitVec.ofNat 8 (b2n a.fallback + 2 * b2n a.job.isSome),
    BitVec.ofNat 8 (s.codeOf 0 p), BitVec.ofNat 8 a.code] ++ leBytes 4 mf ++ leBytes 4 digest ++ leBytes 2 slots ++ [0, 0]
  let a1 := { a with sends := a.sends + 1, id := r.nextId, mf := mf, digest := digest }
  ((s.updRa p fun r => { r with attempt := some a1, nextId := (r.nextId + 1) % 256 }).bump (raCtr p 0) 1).queuePkt p.val
    { type := 5, payload := payload }

/-- Automatic steps may be sought now (R194, R196). -/
def State.mayseek (s : State) (p : Port) : Bool :=
  let r := s.rap p
  r.rxAuto && r.attempt.isNone && r.rxAgreed.isNone && decide (r.seekFrom ≤ s.time) && r.full

/-- A step is sought. -/
def State.seek (p : Port) (code : Nat) (s : State) : State :=
  s.updRa p fun r => { r with attempt := some { code := code, job := none, fallback := false } }

/-- LINE_RA_MARGIN: raised after a second below MARGIN_LOW with no step to take, cleared when the margin returns (R207). -/
def State.marginAlarm (p : Port) (s : State) : State :=
  let r := s.rap p
  let low := r.full && decide (r.sumMargin < r.low * (2 ^ r.avgLog2 : Nat))
  let stuck := r.held || !r.rxAuto || !s.seekable p (s.codeOf 0 p - 1)
  let v := s.take
  let data := r.average r.sumMargin v.1
  if r.full && !low && r.lowRaised then
    (v.2.updRa p fun r => { r with lowRaised := false, lowSince := none }).raise 0x0922 2 (portHa p) data
  else if low && stuck then
    let since := r.lowSince.getD s.time
    if since + second ≤ s.time ∧ r.lowRaised = false then
      (v.2.updRa p fun r => { r with lowRaised := true, lowSince := some since }).raise 0x0922 2 (portHa p) (2 ^ 31 + data)
    else s.updRa p fun r => { r with lowSince := some since }
  else s.updRa p fun r => { r with lowSince := none }

/-- MARGIN_UPDATE: ASSAY delivers a multiframe's margin and the margins predicted at the codes above and below, in units of
0.001; with a full window the requester may seek a step down (R193, R194, R207). -/
def execMarginUpdate (p : Port) (margin up down : Int) (s : State) : Ans :=
  let w (r : RaPort) : RaPort :=
    let r1 := { r with window := ((margin, up, down) :: r.window).take (2 ^ r.avgLog2) }
    { r1 with upStands := r1.full && decide (r1.high * (2 ^ r1.avgLog2 : Nat) ≤ r1.sumUp) }
  let s1 := s.updRa p w
  let r := s1.rap p
  let down1 := s1.codeOf 0 p - 1
  let seeks := s1.mayseek p && !r.held && decide (r.sumMargin < r.low * (2 ^ r.avgLog2 : Nat)) && s1.seekable p down1
  happen (s.live && s.tracking p && pcs (s.modOf 0 p)) s ((if seeks then s1.seek p down1 else s1).marginAlarm p)

/-- UP_HOLD_EXPIRY: the predicted margin has stood at or above MARGIN_HIGH for UP_HOLD (R194). -/
def execUpHoldExpiry (p : Port) (s : State) : Ans :=
  let up1 := s.codeOf 0 p + 1
  happen (s.live && s.tracking p && s.mayseek p && (s.rap p).upStands && s.seekable p up1) s (s.seek p up1)

/-- STEP_SEEK: the requester's plan for the code it seeks is ready: it refuses locally or proposes (R196). -/
def execStepSeek (p : Port) (s : State) : Ans :=
  match (s.rap p).attempt with
  | none => .next s
  | some a =>
    happen (s.live && a.sends == 0) s
      (if !within (s.rxBounds p) a.code then s.refuseStep p a false 3
       else if !(s.planAt 0 p false a.code).feasible then s.refuseStep p a false 1
       else s.propose p a)

/-- RATE_ANSWER: the requester takes the oldest answer accepted on the port (R196, R207, R209, R212). -/
def execRateAnswer (p : Port) (s : State) : Ans :=
  match s.takeLink p 6 with
  | none => .next s
  | some (x, s1) =>
    match (s.rap p).attempt with
    | none => happen s.live s s1
    | some a =>
      let id := (x.payload.getD 0 0).toNat
      let result := (x.payload.getD 1 0).toNat
      let mf := leNat ((x.payload.drop 4).take 4)
      let digest := leNat ((x.payload.drop 8).take 4)
      let s2 := s1.bump (raCtr p 1) 1
      happen s.live s
        (if a.sends = 0 ∨ a.id ≠ id then s1
         else if result ≠ 0 then s1.refuseStep p a true result
         else if a.fallback then
           s2.updRa p fun r => { r with attempt := none, candidate := some a.code, candFallback := true, candMoved := false,
                                        candBad := 0, candGood := 0 }
         else s2.updRa p fun r => { r with attempt := none, rxAgreed := some ⟨id, a.code, mf, digest, false, a.job, false, false⟩ })

/-- ANSWER_WAIT_EXPIRY: 128 multiframes brought neither answer nor announcement: a cancelled step ends, else the proposal is
sent again, three times in all (R196, R212). -/
def execAnswerWaitExpiry (p : Port) (s : State) : Ans :=
  match (s.rap p).attempt with
  | none => .next s
  | some a =>
    let s1 := s.updRa p fun r => { r with attempt := none }
    let s2 := ((s1.updRa p fun r => { r with lastCause := 8, seekFrom := s.time + second }).bump (raCtr p 4) 1).raise 0x0923 3
      (portHa p) (8 * 2 ^ 24 + a.code)
    happen (s.live && decide (0 < a.sends)) s
      (if a.cancel then s1.endStep p a.job stAborted 0 a.code a.mf
       else if a.sends < 3 then s.propose p a
       else s2.endStep p a.job stRefused 8 a.code a.mf)

/-- HELD_EXPIRY: 60 s in HELD have passed (R207). -/
def execHeldExpiry (p : Port) (s : State) : Ans :=
  happen (s.live && (s.rap p).held) s (s.updRa p fun r => { r with held := false })

/-- FALLBACK_START: out of TRACKING with LOS clear for FALLBACK_TIME, the direction proposes RX_ENT_MIN (R208). -/
def execFallbackStart (p : Port) (s : State) : Ans :=
  let r := s.rap p
  let code := (s.rxBounds p).1
  happen (s.live && decide ((s.rxp p).st = .acquire) && pcs (s.modOf 0 p) && r.fallback && r.rxAuto && r.attempt.isNone &&
      r.rxAgreed.isNone && decide (code < s.codeOf 0 p)) s
    (s.propose p { code := code, job := none, fallback := true })

/-! ### The responder (R197) -/

/-- The first check of Table 7-2 that a proposal fails, in the responder's order. -/
def State.judgeProposal (s : State) (p : Port) (flags cur new mf digest : Nat) : Option Nat :=
  let r := s.rap p
  let fb := flags % 2 == 1
  let x := s.planAt 1 p (fb && r.fallback) new
  let ahead := (mf + 2 ^ 32 - (s.lp p).txMfn % 2 ^ 32) % 2 ^ 32
  if !(r.txAccept && (s.txp p).st != .off && pcs (s.modOf 1 p)) then some 7
  else if r.txAgreed.isSome then some 6
  else if cur ≠ s.codeOf 1 p then some 4
  else if !(within (modRange (s.modOf 1 p)) new && within (s.txBounds p) new && s.rateOk 1 p new) then some 3
  else if fb = false ∧ (ahead < 16 ∨ 2 ^ 31 ≤ ahead) then some 5
  else if x.feasible = false then some 1
  else if x.digest ≠ digest then some 2
  else none

/-- RATE_PROPOSE: the responder takes the oldest proposal accepted on the port, checks it and answers; the agreement commits
with an accepting answer (R197, R208). -/
def execRatePropose (p : Port) (s : State) : Ans :=
  match s.takeLink p 5 with
  | none => .next s
  | some (x, s0) =>
    let s1 := s0.bump (raCtr p 7) 1
    let b (k : Nat) : Nat := (x.payload.getD k 0).toNat
    let fb := b 1 % 2 == 1
    let asked := leNat ((x.payload.drop 4).take 4)
    let mf := if fb then ((s.lp p).txMfn + 32) % 2 ^ 32 else asked
    let digest := (s.planAt 1 p (fb && (s.rap p).fallback) (b 3)).digest
    let answer (result mf : Nat) : CrPkt := { type := 6, payload :=
      [BitVec.ofNat 8 (b 0), BitVec.ofNat 8 result, BitVec.ofNat 8 (b 3), 0] ++ leBytes 4 mf ++ leBytes 4 digest }
    let v := s1.take
    happen s.live s
      (match s.judgeProposal p (b 1) (b 2) (b 3) asked (leNat ((x.payload.drop 8).take 4)) with
       | some cause =>
         (evRaRefused p 1 false cause (b 3) (v.2.bump (raCtr p 8) 1)).queuePkt p.val (answer cause (v.1 % 2 ^ 32))
       | none =>
         ((s1.updRa p fun r => { r with txAgreed := some ⟨b 0, b 3, mf, digest, fb && r.fallback, none, true, false⟩ }).updTx p
           fun t => { t with agreed := some (b 3, mf) }).queuePkt p.val (answer 0 mf))

/-! ### Announcement and switch (R198 to R200, R209) -/

/-- What a valid announcement says: code, AGREEMENT_ID, digest and multiframe, from the newest three frames (R198). -/
def LoomPort.announced (l : LoomPort) : Option (Nat × Nat × Nat × Nat) :=
  match l.anns with
  | [a, b, c] =>
    let key (x : Nat × Nat × Bool) : Nat × Nat × Nat := (x.1 / 2 ^ 56, x.1 / 2 ^ 32 % 2 ^ 8, x.1 % 2 ^ 32)
    let down (x : Nat × Nat × Bool) : Nat := x.1 / 2 ^ 44 % 2 ^ 12
    let mf (x : Nat × Nat × Bool) : Nat := (x.2.1 + down x) % 2 ^ 32
    if a.2.2 && b.2.2 && c.2.2 && key a == key b && key b == key c && down a != 0 && down b != 0 && down c != 0 &&
       mf a == mf b && mf b == mf c then some ((key a).1, (key a).2.1, (key a).2.2, mf a)
    else none
  | _ => none

/-- ANNOUNCEMENT_VALID: three consecutive frames carry one announcement; the receiver is bound by it, whether or not it
proposed the step (R198, R199). -/
def execAnnouncementValid (p : Port) (s : State) : Ans :=
  let r := s.rap p
  match (s.lp p).announced with
  | none => .next s
  | some (code, id, digest, mf) =>
    let own := r.attempt.isSome || r.rxAgreed.isSome
    let job := match r.attempt, r.rxAgreed with
      | some a, _ => a.job
      | none, some g => g.job
      | none, none => none
    let g : Agreement := ⟨id, code, mf, digest, false, job, true, !own⟩
    let fresh := match r.rxAgreed with | some x => !(x.announced && x.mf == mf) | none => true
    happen (s.live && s.tracking p && fresh) s (s.updRa p fun r => { r with attempt := none, rxAgreed := some g })

/-- A receive direction moves to a code: demapper, plan and reports (R200, Table 7-4); the averaging window is emptied. -/
def State.moveCode (p : Port) (code : Nat) (fb : Bool) (s : State) : State :=
  let old := s.codeOf 0 p
  let s1 := (s.updRx p fun r => { r with entropy := code }).updRa p fun r =>
    { r with window := [], upStands := false, rxFb := fb }
  (((evRaStep p 0 old code (s1.bump (raCtr p (if code < old then 5 else 6)) 1)).refreshPairs).downBolts).refreshPools

/-- The receive side of a switch (R199, R200, R209): out of TRACKING the code becomes a candidate. -/
def State.switchRx (p : Port) (g : Agreement) (s : State) : State :=
  let s0 := s.updRa p fun r => { r with rxAgreed := none }
  let s1 := if s.tracking p then
      let s2 := if g.foreign then s0.bump (raCtr p 11) 1 else s0
      let s3 := if g.announced && g.digest != (s.planAt 0 p g.fallback g.code).digest then
          s2.raise 0x0924 3 (portHa p) (g.id * 2 ^ 8 + g.code) else s2
      s3.moveCode p g.code g.fallback
    else s0.updRa p fun r => { r with candidate := some g.code, candFallback := g.fallback, candMoved := false, candBad := 0, candGood := 0 }
  match g.job with
  | none => s1
  | some j => s1.endJob j stOk [mkw [(15, 8, s.codeOf 0 p), (7, 0, g.code)], w32 g.mf]

/-- The transmit side of a switch: matcher, mapper, B_F and S, mapping (R142, R200). -/
def State.switchTx (p : Port) (g : Agreement) (s : State) : State :=
  let old := s.codeOf 1 p
  let s1 := (s.updTx p fun t => { t with entropy := g.code, agreed := none }).updRa p fun r => { r with txAgreed := none, txFb := g.fallback }
  let s2 := (s1.bump (raCtr p (if g.code < old then 9 else 10)) 1).bump (txCtr p 8) 1
  (((evRaStep p 1 old g.code s2).raise 0x0913 0 (portHa p) (((s2.slotsNow 1 p).getD 0) * 2 ^ 16 + g.code)).settleCredits).refreshPools

/-- RATE_SWITCH: the first symbol of SWITCH_MF, as sent (`d` 1) or as received (`d` 0) (R200). -/
def execRateSwitch (p : Port) (d : Way) (s : State) : Ans :=
  let r := s.rap p
  if d = 1 then
    match r.txAgreed with
    | none => .next s
    | some g =>
      let n := (s.lp p).nextTx
      happen (s.live && decide ((s.txp p).st ≠ .off) && n.1 % 2 ^ 32 == g.mf && n.2 == 0) s (s.switchTx p g)
  else
    match r.rxAgreed with
    | none => .next s
    | some g =>
      let l := s.lp p
      happen (s.live && (l.st != .locked || (l.mfn + 1) % 2 ^ 32 == g.mf)) s (s.switchRx p g)

/-- CANDIDATE_SWITCH: 256 uncorrected decodes in a row move demapper and plan to the other of the two codes (R209). -/
def execCandidateSwitch (p : Port) (s : State) : Ans :=
  let r := s.rap p
  match r.candidate with
  | none => .next s
  | some c =>
    let s1 := s.updRa p fun r => { r with candidate := some (s.codeOf 0 p), candFallback := r.rxFb, candMoved := true, candBad := 0, candGood := 0 }
    happen (s.live && s.tracking p && decide (256 ≤ r.candBad)) s (s1.moveCode p c r.candFallback)

/-! ### Opcodes (Table 7-5) -/

/-- LINE_RA_CONFIG (Table 7-7, R211). -/
def lineRaConfigOp : OpDef where
  code := 0x0920
  lo := 4
  hi := 4
  targetOk := targetLine
  check := fun c s =>
    let p := c.port
    let bound (d : Way) (b : Nat) : Bool := b == 0 || within (modRange (s.modOf d p)) b
    let order (lo hi : Nat) : Bool := lo == 0 || hi == 0 || decide (lo ≤ hi)
    firstRej [resv c 0 28 16, param (bound 0 ((c.p 0).fld 15 8)) 0 6, param (bound 0 ((c.p 0).fld 7 0)) 0 6,
      param (order ((c.p 0).fld 7 0) ((c.p 0).fld 15 8)) 0 5, resv c 1 31 16, param (bound 1 ((c.p 1).fld 15 8)) 1 6,
      param (bound 1 ((c.p 1).fld 7 0)) 1 6, param (order ((c.p 1).fld 7 0) ((c.p 1).fld 15 8)) 1 5,
      param ((c.p 2).fld 31 24 != 0) 2, param ((c.p 2).fld 23 16 != 0) 2,
      param (decide ((c.p 2).fld 23 16 < (c.p 2).fld 31 24)) 2 5,
      param (decide (4 ≤ (c.p 2).fld 15 12 ∧ (c.p 2).fld 15 12 ≤ 10)) 2, param (decide (128 ≤ (c.p 2).fld 11 0)) 2,
      param ((c.p 3).fld 31 16 != 0) 3, param ((c.p 3).fld 15 0 != 0) 3,
      stateErr (!(c.p 0).bit 31 || pcs (s.modOf 0 p)) 0xD, stateErr (!(c.p 0).bit 30 || pcs (s.modOf 1 p)) 0xD]
  effect := sets fun c s => s.updRa c.port fun r => { r with
    rxAuto := (c.p 0).bit 31, txAccept := (c.p 0).bit 30, fallback := (c.p 0).bit 29, rxMax := (c.p 0).fld 15 8,
    rxMin := (c.p 0).fld 7 0, txMax := (c.p 1).fld 15 8, txMin := (c.p 1).fld 7 0, high := (c.p 2).fld 31 24,
    low := (c.p 2).fld 23 16, avgLog2 := (c.p 2).fld 15 12, lead := (c.p 2).fld 11 0, upHold := (c.p 3).fld 31 16,
    fbTime := (c.p 3).fld 15 0, window := if (c.p 2).fld 15 12 = r.avgLog2 then r.window else [],
    upStands := r.upStands && (c.p 2).fld 15 12 == r.avgLog2 }

def execLineRaConfig (c : Cmd) (s : State) : Ans := serve lineRaConfigOp c s

/-- LINE_RA_STEP (R212). -/
def lineRaStepOp : OpDef where
  code := 0x0921
  queue := some 3
  lo := 1
  hi := 1
  long := true
  targetOk := targetLine
  check := fun c s =>
    let p := c.port
    let code := (c.p 0).fld 7 0
    let pc := pcs (s.modOf 0 p)
    firstRej [resv c 0 31 8, param (!pc || within (s.rxBounds p) code) 0 6, param (!pc || s.rateOk 0 p code) 0 9,
      stateErr pc 0xD, stateErr (s.tracking p) 7,
      busy ((s.rap p).attempt.isNone && (s.rap p).rxAgreed.isNone) 0xE]
  effect := fun c s =>
    let p := c.port
    let code := (c.p 0).fld 7 0
    let j := s.clerk.nextJob
    let s1 := s.startJob 0x0921 c
    (.accepted j,
      if code = s.codeOf 0 p then s1.endStep p (some j) stOk 0 code 0
      else s1.updRa p fun r => { r with attempt := some { code := code, job := some j, fallback := false } })

def execLineRaStep (c : Cmd) (s : State) : Ans := serve lineRaStepOp c s

/-- LINE_RA_GUARD_SET (Table 7-8, R213). -/
def lineRaGuardSetOp : OpDef where
  code := 0x0922
  queue := some 2
  lo := 3
  hi := 2045
  targetOk := targetLine
  check := fun c s =>
    let n := (c.p 0).fld 10 0
    firstRej ([resv c 0 30 11, param (decide (1 ≤ n ∧ n ≤ 1022)) 0, param (c.params.length == 1 + 2 * n) 0xFFFF 5] ++
      ((List.range n).flatMap fun e => [resv c (1 + 2 * e) 29 18, param (decide ((c.p (2 + 2 * e)).fld 19 0 ≤ 655360)) (2 + 2 * e)]) ++
      [stepFree [if (c.p 0).bit 31 then 1 else 0] s])
  effect := sets fun c s =>
    let d : Way := if (c.p 0).bit 31 then 1 else 0
    let one (t : Tab (Option Guard)) (e : Nat) : Tab (Option Guard) :=
      let a := c.p (1 + 2 * e); let z := c.p (2 + 2 * e)
      Tab.set none t (a.fld 17 0) (if a.fld 31 30 = 0 then none else some ⟨a.fld 31 30, z.fld 31 20, z.fld 19 0⟩)
    (s.withRa { s.ra with guards := s.ra.guards.upd d fun t => (List.range ((c.p 0).fld 10 0)).foldl one t }).replan [d]

def execLineRaGuardSet (c : Cmd) (s : State) : Ans := serve lineRaGuardSetOp c s

/-- The four words of LINE_RA_PLAN_READ (R214). -/
def planWords (x : Plan) (slots : Nat) : List Word :=
  [mkw [(31, 31, b2n x.feasible), (30, 28, x.worst), (25, 16, slots), (15, 0, x.bolts.length)], w32 x.threads.length, w32 x.units,
   w32 (if x.feasible then x.digest else 0)]

/-- LINE_RA_PLAN_READ (R214). -/
def lineRaPlanReadOp : OpDef where
  code := 0x0923
  queue := some 2
  lo := 1
  hi := 1
  targetOk := targetLine
  check := fun c s =>
    let d : Way := if (c.p 0).bit 31 then 1 else 0
    firstRej [resv c 0 30 8, param (within (modRange (s.modOf d c.port)) ((c.p 0).fld 7 0)) 0 6,
      param (s.rateOk d c.port ((c.p 0).fld 7 0)) 0 9]
  effect := reads fun c s =>
    let d : Way := if (c.p 0).bit 31 then 1 else 0
    let n := (s.slotsAt d c.port ((c.p 0).fld 7 0)).getD 0
    planWords (s.planFor d c.port false n) n

def execLineRaPlanRead (c : Cmd) (s : State) : Ans := serve lineRaPlanReadOp c s

/-- RX_STATE of Table 7-9. -/
def State.rxRaState (s : State) (p : Port) : Nat :=
  let r := s.rap p
  if !(s.tracking p && pcs (s.modOf 0 p)) then 0
  else if r.rxAgreed.isSome then 3
  else if (match r.attempt with | some a => decide (0 < a.sends) | none => false) then 2
  else if r.held then 4 else 1

/-- The eight words of LINE_RA_STATUS (Table 7-9). -/
def raStatus (p : Port) (s : State) : List Word :=
  let r := s.rap p
  let avg (sum : Int) (k : Nat) : Nat := r.average sum (Config.freeValue (s.free + k))
  let pend := match r.rxAgreed with | some g => g.code | none => r.candidate.getD 0
  let mf := match r.rxAgreed, r.attempt with
    | some g, _ => g.mf
    | none, some a => if 0 < a.sends then a.mf else 0
    | none, none => 0
  let txState := if !((s.txp p).st != .off && pcs (s.modOf 1 p)) then 0 else if r.txAgreed.isSome then 2 else 1
  let txCode := match r.txAgreed with | some g => g.code | none => 0
  [mkw [(31, 28, s.rxRaState p), (27, 24, txState), (23, 16, s.codeOf 0 p), (15, 8, pend), (3, 0, r.lastCause)],
   mkw [(31, 16, avg r.sumMargin 0), (15, 0, avg r.sumUp 1)],
   mkw [(31, 16, avg r.sumDown 2), (9, 0, (s.slotsNow 0 p).getD 0)],
   w32 mf,
   mkw [(31, 24, txCode), (9, 0, if r.txAgreed.isSome then (s.slotsAt 1 p txCode).getD 0 else 0)],
   w32 (match r.txAgreed with | some g => g.mf | none => 0),
   w32 (s.planNow 0 p).digest, w32 (s.planNow 1 p).digest]

/-- LINE_RA_STATUS. -/
def lineRaStatusOp : OpDef where
  code := 0x0924
  lo := 0
  hi := 0
  targetOk := targetLine
  effect := fun c s => (.ok (raStatus c.port s), s.withFree (s.free + 3))

def execLineRaStatus (c : Cmd) (s : State) : Ans := serve lineRaStatusOp c s

/-- LINE_RA_COUNTERS (R215). -/
def lineRaCountersOp : OpDef where
  code := 0x0925
  lo := 0
  hi := 0
  targetOk := targetLine
  effect := reads fun c s => s.counterWords (raCtr c.port 0) 12

def execLineRaCounters (c : Cmd) (s : State) : Ans := serve lineRaCountersOp c s

end Sys2Proof.Machine
end

