-- ==== Sys2Proof/Machine/Crier.lean ====
section
/-!
DEFINITION. The Crier side channel and the identity proofs it carries (spec/14, spec/16 R454 to R456). The choices are in
notes/assumptions/17 and 22.
-/

set_option Elab.async false

namespace Sys2Proof.Machine

/-! ### Identity and payloads (Table 14-3, spec/16 R449) -/

/-- The unit's fingerprint and FP_SHORT. -/
def ownFp : List Byte := sha384 (certBytes 0)
def ownFpShort : List Byte := ownFp.take 8

def byteAt (bs : List Byte) (i : Nat) : Nat := (bs.getD i 0).toNat
def leAt (bs : List Byte) (i n : Nat) : Nat := leNat ((bs.drop i).take n)

/-- The unit has an address: it is JOINED, or the registrar. -/
def State.inDomain (s : State) : Bool := s.crier.role == 2 || s.crier.state == 2

/-- The time of day at an instant of device time, in ns (R411). -/
def State.todNs (s : State) (t : Nat) : Int :=
  let d : Nat := (t + 2 ^ 64 - s.timing.tickTime) % 2 ^ 64
  let e : Int := if d < 2 ^ 63 then (d : Int) else (d : Int) - (2 ^ 64 : Nat)
  s.timing.tod * 1000000000 + e / 65536

/-- A time of day as TAI seconds and nanoseconds, 6 and 4 bytes. -/
def stampBytes (v : Int) : List Byte := leBytes 6 (Int.bits 48 (v / 1000000000)) ++ leBytes 4 (v % 1000000000).toNat
def stampAt (bs : List Byte) (i : Nat) : Int := leAt bs i 6 * 1000000000 + leAt bs (i + 6) 4

/-- QL_OUT of a DPLL (Table 13-13). -/
def State.qlOut (s : State) (d : Nat) : Nat :=
  match (s.dpll d).ref with | some c => (s.cand c).ql | none => (s.dpll d).holdQl

/-- TIME_QL (R410). -/
def State.timeQl (s : State) : Nat := if s.timing.todSet then s.qlOut 0 else 0xF

/-- The payload of a HELLO of line port `p` (R409). -/
def State.helloBytes (s : State) (p : Port) : List Byte :=
  let c := s.cr p.val
  [BitVec.ofNat 8 (b2n s.inDomain + 2 * b2n (s.crier.role == 2) + 4 * b2n (s.rap p).txAccept),
   BitVec.ofNat 8 c.hello, BitVec.ofNat 8 c.txCode, BitVec.ofNat 8 p.val] ++
  leBytes 4 (if s.inDomain then s.crier.domain else 0) ++ leBytes 3 (if s.inDomain then s.crier.address else 0) ++ [0] ++ ownFpShort

/-- The payload of a QUALITY packet (R410). -/
def State.qualityBytes (s : State) (k : Nat) : List Byte :=
  let c := s.cr k
  [BitVec.ofNat 8 (if c.qlDpll = 7 then c.hostQl else s.qlOut c.qlDpll), BitVec.ofNat 8 s.timeQl, 0, 0]

/-! ### Segments and DOMAIN packets (R400, R412 to R414) -/

/-- Bytes in pieces of `n`; `fuel` bounds their number. -/
def chunks (n : Nat) : Nat → List Byte → List (List Byte)
  | 0, _ => []
  | fuel + 1, bs => if bs.length ≤ n then [bs] else bs.take n :: chunks n fuel (bs.drop n)

/-- Segments that wait enter the queue while fewer than 16 packets are queued (notes/assumptions/22). -/
def State.refill (k : Nat) (s : State) : State :=
  let c := s.cr k
  let n := 16 - c.queue.length
  if c.txEnable then s.setCr k { c with queue := c.queue ++ c.feed.take n, feed := c.feed.drop n } else s

def State.feedPkts (k : Nat) (xs : List CrPkt) (s : State) : State :=
  if (s.cr k).txEnable then (s.updCr k fun c => { c with feed := c.feed ++ xs }).refill k else s

/-- The segments of an object, each behind its segment header. -/
def segmentsOf (n id kind : Nat) (bs : List Byte) : List (List Byte) :=
  let parts := chunks n 128 bs
  parts.zipIdx.map fun e =>
    [BitVec.ofNat 8 id, BitVec.ofNat 8 kind] ++ leBytes 2 e.2 ++ leBytes 2 parts.length ++ [0, 0] ++ e.1

/-- The next OBJECT_ID. -/
def State.objectId (s : State) : Nat × State :=
  (s.crier.nextObject, s.withCrier { s.crier with nextObject := (s.crier.nextObject + 1) % 256 })

/-- An object is sent on a link. -/
def State.sendLinkObject (k kind : Nat) (bs : List Byte) (s : State) : State :=
  let i := s.objectId
  i.2.feedPkts k ((segmentsOf 232 i.1 kind bs).map fun x => { type := 7, payload := x })

/-- A unit remembers 1,024 keys of DOMAIN packets, its own among them (R414). -/
def State.seeKey (key : List Byte) (s : State) : State :=
  s.withCrier { s.crier with seen := ((key, s.time) :: s.crier.seen).take 1024 }

/-- The key of a DOMAIN payload (R414). -/
def domainKey (x : List Byte) : List Byte :=
  (if (byteAt x 10) / 32 % 2 = 1 then (x.drop 4).take 3 else (x.drop 14).take 8) ++ (x.drop 12).take 2

/-- A DOMAIN payload of this unit's, with its next MSG_ID; without an address SRC_VALID is clear and the prefix comes
first (R400). -/
def State.domainPkt (s : State) (dst : Option Nat) (inner : Nat) (bs : List Byte) : List Byte × State :=
  let a := s.inDomain
  let x := leBytes 4 s.crier.domain ++ leBytes 3 (if a then s.crier.address else 0) ++ leBytes 3 (dst.getD 0) ++
    [BitVec.ofNat 8 (s.crier.hops + 16 * b2n dst.isNone + 32 * b2n a), BitVec.ofNat 8 inner] ++ leBytes 2 s.crier.nextMsg ++
    (if a then bs else ownFpShort ++ bs)
  (x, (s.withCrier { s.crier with nextMsg := (s.crier.nextMsg + 1) % 65536 }).seeKey (domainKey x))

/-- A DOMAIN packet is queued on every line port with TX_ENABLE set; `dst` none is a broadcast. -/
def State.sendDomain (dst : Option Nat) (inner : Nat) (bs : List Byte) (s : State) : State :=
  let x := s.domainPkt dst inner bs
  (x.2.queuePkt 0 { type := 0x10, payload := x.1 }).queuePkt 1 { type := 0x10, payload := x.1 }

/-- An object is sent in DOMAIN packets. -/
def State.sendDomainObject (dst : Option Nat) (kind : Nat) (bs : List Byte) (s : State) : State :=
  let i := s.objectId
  (segmentsOf (if s.inDomain then 218 else 210) i.1 kind bs).foldl (fun s part =>
    let x := s.domainPkt dst 7 part
    (x.2.feedPkts 0 [{ type := 0x10, payload := x.1 }]).feedPkts 1 [{ type := 0x10, payload := x.1 }]) i.2

/-! ### Sending (R401 to R403, R409 to R411) -/

/-- The transmitter of a line port drives light. -/
def State.crDriving (s : State) (k : Nat) : Bool := if k = 0 then s.tx.a.st.driving else if k = 1 then s.tx.b.st.driving else false

def linePort (k : Fin 4) : Port := if k.val = 1 then 1 else 0

/-- HELLO_TIMER (R409). -/
def execHelloTimer (k : Fin 4) (s : State) : Ans :=
  happen (s.live && decide (k.val < 2)) s (s.queuePkt k.val { type := 1, payload := s.helloBytes (linePort k) })

/-- QUALITY_TIMER (R410). -/
def execQualityTimer (k : Fin 4) (s : State) : Ans :=
  happen (s.live && decide (k.val < 2)) s (s.queuePkt k.val { type := 2, payload := s.qualityBytes k.val })

/-- TIME_REQ_TIMER (R411). -/
def execTimeReqTimer (k : Fin 4) (s : State) : Ans :=
  let s1 := s.queuePkt k.val { type := 3, payload := [BitVec.ofNat 8 s.crier.seq, 0] }
  happen (s.live && decide (k.val = s.crier.timePort.val) && (s.cr k.val).timeInt != 0) s
    (s1.withCrier { s1.crier with seq := (s.crier.seq + 1) % 256 })

/-- The packet a transmitter sends next: the best class, the oldest of it (R401). -/
def nextPkt (q : List CrPkt) : Option (CrPkt × List CrPkt) :=
  [1, 2, 3, 4, 5, 6].findSome? fun c => pick (fun x => x.cls == c) q

/-- 16 symbols of 62.0117 µs, from a packet's start to its sync word. -/
def sixteenSymbols : Nat := 65024000000

/-- PACKET_SEND_START (R399, R401). T1 of a TIME_REQ is taken here (R411). -/
def execPacketSendStart (k : Fin 4) (s : State) : Ans :=
  let c := s.cr k.val
  match nextPkt c.queue with
  | none => .next s
  | some (x, r) =>
    let s1 := ((s.setCr k.val { c with queue := r, air := some x, airCode := c.txCode, airDepth := c.depth }).refill k.val).emit
      (.crier k.val x.type x.payload)
    let at_ := s.time + sixteenSymbols
    happen (s.live && c.air.isNone && s.crDriving k.val) s
      (if x.type = 3 then s1.withCrier { s1.crier with asked := some (byteAt x.payload 0, s.todNs at_, at_) } else s1)

/-- PACKET_CUT: a RATE packet cuts a lower class on air (R402). -/
def execPacketCut (k : Fin 4) (s : State) : Ans :=
  let c := s.cr k.val
  let lower := match c.air with | some x => decide (1 < x.cls) | none => false
  happen (s.live && lower && c.queue.any fun x => x.cls == 1) s (s.crCut k.val)

/-- PACKET_SEND_END (R399). -/
def execPacketSendEnd (k : Fin 4) (s : State) : Ans :=
  happen (s.live && (s.cr k.val).air.isSome) s ((s.updCr k.val fun c => { c with air := none }).bump (crCtr k.val 0) 1)

/-! ### Listening (R404 to R408) -/

/-- A listener that is not OFF. -/
def State.hears (s : State) (k : Nat) : Bool :=
  (s.cr k).rxEnable && (if k = 0 then s.rx.a.st != .off else if k = 1 then s.rx.b.st != .off else true)

/-- LISTENER_TRIGGER: of the primary in IDLE, else of the second correlator (R404, R407). -/
def execListenerTrigger (k : Fin 4) (s : State) : Ans :=
  let c := s.cr k.val
  happen (s.live && s.hears k.val && !(c.rx != 1 && c.second)) s
    ((s.setCr k.val (if c.rx = 1 then { c with rx := 2 } else { c with second := true })).bump (crCtr k.val 3) 1)

/-- The current packet or candidate ends: the second correlator's candidate becomes current, or the listener is IDLE. -/
def CrPort.ended (c : CrPort) : CrPort := { c with rx := if c.second then 2 else 1, second := false }

/-- SYNC_QUALIFY: a candidate qualifies with a strength, the first chip of its sync word having come at `sync` (R405, R407). -/
def execSyncQualify (k : Fin 4) (second : Bool) (strength sync : Nat) (s : State) : Ans :=
  let c := s.cr k.val
  let s1 := s.bump (crCtr k.val 4) 1
  let won : CrPort := { c with rx := 3, strength := sat 255 strength, syncAt := sync, second := c.second && !second }
  happen (s.live && (if second then c.second && c.rx != 1 else c.rx == 2)) s
    (if !second then s1.setCr k.val won
     else if c.rx = 2 then (s1.setCr k.val won).bump (crCtr k.val 5) 1
     else if c.strength + c.capture ≤ sat 255 strength then (s1.setCr k.val won).bump (crCtr k.val 6) 1
     else (s1.setCr k.val { c with second := false }).bump (crCtr k.val 7) 1)

/-- QUALIFY_TIMEOUT: a candidate is a false start (R405). -/
def execQualifyTimeout (k : Fin 4) (second : Bool) (s : State) : Ans :=
  let c := s.cr k.val
  happen (s.live && (if second then c.second else c.rx == 2)) s
    ((s.setCr k.val (if second then { c with second := false } else c.ended)).bump (crCtr k.val 5) 1)

/-- Types of Table 14-2. -/
def knownType (t : Nat) : Bool := decide (1 ≤ t ∧ t ≤ 8) || t == 0x10

/-- Bytes that a payload of a type has at least; those a shorter one lacks are free values. -/
def leastBytes (t : Nat) : Nat :=
  if t = 1 then 20 else if t = 2 then 4 else if t = 3 then 2 else if t = 4 then 24 else if t = 5 ∨ t = 6 then 12 else if t = 7 then 8
  else if t = 0x10 then 14 else 0

/-- Bring a payload to its least length with free bytes. -/
def State.padTo (n : Nat) (bs : List Byte) (s : State) : List Byte × State :=
  if n ≤ bs.length then (bs, s) else (bs ++ leBytes (n - bs.length) s.take.1, s.take.2)

/-- A packet is rejected: counter 12 (R424). -/
def State.crReject (k : Nat) (s : State) : State := s.bump (crCtr k 11) 1

/-- PACKET_RECEIVE_END: a packet being received ends with these header, payload and CRC, from a far end whose chip rate is
`chip` × 0.01 % off (R408). -/
def execPacketReceiveEnd (k : Fin 4) (length type : Byte) (payload : List Byte) (crc : BitVec 16) (chip : Int) (s : State) : Ans :=
  let c := s.cr k.val
  let s1 := s.setCr k.val c.ended
  let t := type.toNat
  let body := fixBytes length.toNat payload
  let p := s.listenerPort k.val
  let known := match p with
    | some q => !((s.cr q.val).auth && decide (2 ≤ t ∧ t ≤ 6) && !((s.cr q.val).peer.any (·.auth)))
    | none => t == 0x10
  let full := s1.padTo (leastBytes t) body
  let s2 := (full.2.updCr k.val fun c => { c with lastStrength := c.strength, chip := max (-30) (min 30 chip) }).bump (crCtr k.val 10) 1
  happen (s.live && c.rx == 3) s
    (if 241 ≤ length.toNat then s1.bump (crCtr k.val 9) 1
     else if crc16 (length :: type :: body) ≠ crc.toNat then s1.bump (crCtr k.val 8) 1
     else if !(knownType t && known) then s1.crReject k.val
     else s2.withCrier { s2.crier with inbox := s2.crier.inbox ++ [⟨k.val, t, full.1, c.strength, c.syncAt, none⟩] })

/-- The oldest accepted packet of a listener and type. -/
def State.takeOf (s : State) (k : Fin 4) (t : Nat) : Option (CrIn × State) := s.takeIn fun x => x.listener == k.val && x.type == t

/-- A handler runs on the oldest accepted packet of a listener and type; with none there is nothing to handle. -/
def handle (k : Fin 4) (t : Nat) (f : CrIn → State → State) (s : State) : Ans :=
  match s.takeOf k t with
  | none => .next s
  | some (x, r) => happen s.live s (f x r)

/-- A link packet's handler, with the line port that the packet counts as. -/
def handleLink (k : Fin 4) (t : Nat) (f : Port → CrIn → State → State) (s : State) : Ans :=
  handle k t (fun x s => match s.listenerPort x.listener with | some p => f p x s | none => s) s

/-! ### The receive buffer (R417) -/

/-- Put an entry into the receive buffer; `none` where it is full. -/
def State.pushEntry (e : CrEntry) (s : State) : Option State :=
  if 64 ≤ s.crier.buffer.length then none
  else
    let s1 := s.withCrier { s.crier with buffer := s.crier.buffer ++ [e] }
    some (if s.crier.buffer.isEmpty then s1.raise 0x0304 0 crierHa (e.kind * 2 ^ 29 + 1) else s1)

/-- A host packet goes to the buffer, or is dropped and counted as rejected. -/
def State.pushHost (e : CrEntry) (s : State) : State := (s.pushEntry e).getD (s.crReject e.listener)

/-- HOST_LINK (R417). -/
def execHostLink (k : Fin 4) (s : State) : Ans :=
  handle k 8 (fun x s => s.pushHost ⟨0, x.listener, 0, x.strength, x.payload⟩) s

/-! ### Peers (R409, R456) -/

/-- CRIER_PEER (Table 14-10). -/
def evPeer (heard : Bool) (k : Nat) (x : CrPeer) (s : State) : State :=
  s.raise 0x0301 1 crierHa (b2n heard * 2 ^ 31 + b2n x.auth * 2 ^ 30 + k * 2 ^ 28 + b2n x.address.isSome * 2 ^ 27 + x.address.getD 0)

/-- CRIER_CONFLICT, at most once a minute for each cause. -/
def evConflict (cause a : Nat) (s : State) : State :=
  s.raiseLimited (0x030500 + cause) (60 * second) 0x0305 2 crierHa fun _ => cause * 2 ^ 28 + a

/-- A challenge to a unit goes out, on a link or as a broadcast of the registrar (R455, R456). -/
def State.challenge (listener : Nat) (link : Option Port) (join : Option Nat) (fp : List Byte) (s : State) : State :=
  let nonce := leBytes 32 s.take.1
  let s1 := s.take.2.withHall { s.hall with challenges := s.hall.challenges ++ [⟨listener, join, fp, nonce, none, none, none⟩] }
  let obj := fixBytes 8 fp ++ ownFp ++ nonce
  match link with
  | some p => s1.sendLinkObject p.val 3 obj
  | none => s1.sendDomainObject none 3 obj

/-- What a HELLO says (Table 14-3). -/
def peerOf (x : List Byte) (auth : Bool) : CrPeer :=
  { interval := byteAt x 1, code := byteAt x 2, port := byteAt x 3, domain := leAt x 4 4,
    address := if byteAt x 0 % 2 = 1 then some (leAt x 8 3 % 2 ^ 18) else none,
    fpShort := (x.drop 12).take 8, txAccept := byteAt x 0 / 4 % 2 == 1, auth := auth }

/-- Addresses in HELLO that two units share, or a second registrar of the domain (Table 14-10). -/
def State.conflicts (p : Port) (x : CrPeer) (registrar : Bool) (s : State) : State :=
  match x.address with
  | none => s
  | some a =>
    let other := match (s.cr (1 - p.val)).peer with
      | some y => y.address == some a && y.domain == x.domain && y.fpShort != x.fpShort
      | none => false
    let own := s.inDomain && s.crier.address == a && s.crier.domain == x.domain && x.fpShort != ownFpShort
    let s1 := if registrar && s.crier.role == 2 && s.crier.domain == x.domain then evConflict 1 a s else s
    if other || own then evConflict 2 a s1 else s1

/-- HELLO (R409, R456): a peer heard for the first time, or with another FP_SHORT, is challenged. -/
def execHello (k : Fin 4) (s : State) : Ans :=
  handleLink k 1 (fun p x s =>
    let old := (s.cr p.val).peer
    let same := match old with | some y => y.fpShort == (peerOf x.payload false).fpShort | none => false
    let new := peerOf x.payload (same && old.any (·.auth))
    let s1 := s.updCr p.val fun c => { c with peer := some new }
    let told := match old with
      | some y => y.auth == new.auth && y.address == new.address && y.code == new.code
      | none => false
    let s2 := (if told then s1 else evPeer true x.listener new s1).conflicts p new (byteAt x.payload 0 / 2 % 2 == 1)
    if same then s2 else s2.challenge x.listener (some p) none new.fpShort) s

/-- PEER_LOST (R409). -/
def execPeerLost (k : Fin 4) (s : State) : Ans :=
  match (s.cr k.val).peer with
  | none => .next s
  | some x => happen (s.live && decide (k.val < 2)) s (evPeer false k.val x (s.updCr k.val fun c => { c with peer := none }))

/-- QUALITY (R410). -/
def execQuality (k : Fin 4) (s : State) : Ans :=
  handleLink k 2 (fun p x s =>
    let s1 := s.setQl (8 + p.val) (byteAt x.payload 0 % 16)
    if p = s.crier.timePort then s1.setQl 16 (byteAt x.payload 1 % 16) else s1) s

/-! ### The two-way exchange (R411) -/

/-- TIME_REQ: answered with T2 and the scheduled departure `depart`. -/
def execTimeReq (k : Fin 4) (depart : Nat) (s : State) : Ans :=
  handleLink k 3 (fun p x s =>
    let body := [BitVec.ofNat 8 (byteAt x.payload 0), BitVec.ofNat 8 s.timeQl, 0, 0] ++
      (stampBytes (s.todNs x.sync) ++ stampBytes (s.todNs depart))
    s.queuePkt p.val { type := 4, payload := body }) s

/-- TIME_RESP: completes the exchange that waits, within 500 ms of T1. -/
def execTimeResp (k : Fin 4) (s : State) : Ans :=
  handleLink k 4 (fun p x s =>
    match s.crier.asked with
    | none => s
    | some (q, t1, at_) =>
      if p ≠ s.crier.timePort ∨ q ≠ byteAt x.payload 0 ∨ at_ + 500 * milli < s.time then s
      else
        let v := (stampAt x.payload 4 - t1) - (s.todNs x.sync - stampAt x.payload 14) - (s.cr p.val).asym
        s.take.2.withCrier { s.crier with asked := none, missed := 0, theta := meanOf v 2 s.take.1 }) s

/-- EXCHANGE_MISSED: three in a row are the activity loss of candidate 16 (R370, R411). -/
def execExchangeMissed (k : Fin 4) (s : State) : Ans :=
  let s1 := s.withCrier { s.crier with asked := none, missed := s.crier.missed + 1 }
  happen (s.live && decide (k.val = s.crier.timePort.val) && s.crier.asked.isSome) s
    (if 3 ≤ s1.crier.missed then s1.loseRef 16 else s1)

/-! ### The registrar (R415, R416) -/

/-- JOIN_ANSWER is broadcast: 0 admitted, 1 refused, 2 full. -/
def State.answerJoin (fp : List Byte) (a result : Nat) (s : State) : State :=
  s.sendDomain none 2 (fixBytes 8 fp ++ leBytes 3 a ++ [BitVec.ofNat 8 result])

/-- A member record as admission writes it (Table 14-4). -/
def State.newRecord (s : State) (a : Nat) (fp : List Byte) : List Byte :=
  leBytes 3 a ++ [1] ++ fixBytes 48 fp ++ leBytes 8 s.timing.tod ++ leBytes 8 s.timing.tod ++ List.replicate 188 0

/-- A record is written for a unit that joins. -/
def State.enrol (a : Nat) (fp : List Byte) (s : State) : State := (s.updRecord a fun _ => s.newRecord a fp).addMember a

/-- A requester is admitted: REJOIN_ADDR where its record is free or its own, else the lowest free address (R416). -/
def State.admitJoin (j : CrJoin) (s : State) : State :=
  let own := match j.rejoin with
    | some a => if s.crier.members.contains a then (s.readRecord a).1.drop 4 |>.take 48 |> (· == fixBytes 48 j.fingerprint) else true
    | none => false
  let s0 := match j.rejoin with
    | some a => if s.crier.members.contains a then (s.readRecord a).2 else s
    | none => s
  let a := if own then j.rejoin.getD 0 else firstGap 0 s0.crier.members
  let s1 := s0.withCrier { s0.crier with joins := s0.crier.joins.filter fun x => x.id != j.id }
  if 262144 ≤ a then s1.answerJoin j.fpShort 0 2
  else (evMember 1 a (s1.enrol a j.fingerprint)).answerJoin j.fpShort a 0

/-- A join request is refused. -/
def State.refuseJoin (j : CrJoin) (s : State) : State :=
  (s.withCrier { s.crier with joins := s.crier.joins.filter fun x => x.id != j.id }).answerJoin j.fpShort 0 1

/-- The 52 bytes of a join request in the receive buffer (R422). -/
def joinBytes (j : CrJoin) : List Byte :=
  fixBytes 48 j.fingerprint ++ leBytes 3 (j.rejoin.getD 0) ++ [BitVec.ofNat 8 (b2n j.rejoin.isSome)]

/-- A requester has proved its identity (R416 step 3). -/
def State.joinProved (j : CrJoin) (s : State) : State :=
  if s.crier.admitAuto then s.admitJoin j
  else
    match s.pushEntry ⟨2, j.listener, j.id, 0, joinBytes j⟩ with
    | none => (s.refuseJoin j).crReject j.listener
    | some t => t.withCrier { t.crier with joins := t.crier.joins.map fun x => if x.id = j.id then { j with decide_ := true } else x }

/-! ### Proofs (spec/16 R454 to R456) -/

/-- A proof fails: counted, reported at most once a second, and a join request it belongs to ends silently. -/
def State.proofFailed (c : Challenge) (cause : Nat) (s : State) : State :=
  let s1 := (s.withHall { s.hall with
      challenges := dropFirst (· == c) s.hall.challenges, proofsFailed := sat 65535 (s.hall.proofsFailed + 1) }).crReject c.listener
  let s2 := match c.join with
    | some i => s1.withCrier { s1.crier with joins := s1.crier.joins.filter fun x => x.id != i }
    | none => s1
  s2.raiseAtMost 1 0x0D0300 0x0D03 2 vaultHa (c.listener * 2 ^ 28 + cause * 2 ^ 24)

/-- The message a proof signs (R455). -/
def proofMessage (nonce challenger prover : List Byte) (domain : Nat) : List Byte :=
  ascii "HM-PROOF" ++ nonce ++ challenger ++ prover ++ leBytes 4 domain

/-- The cause with which a complete proof fails, 0 where it is accepted (R456). -/
def judgeProof (c : Challenge) (ec ml proof : List Byte) (domain : Nat) : Nat :=
  let msg := proofMessage c.nonce ownFp (sha384 ec) domain
  if !(Config.certChain 0 ec && Config.certChain 1 ml && decide (Config.certSubject ec = Config.certSubject ml)) then 1
  else if (sha384 ec).take 8 ≠ c.fpShort then 2
  else if !(Config.certVerifyEc ec msg ((proof.drop 32).take 96) &&
    Config.certVerifyMl ml (ascii "HM-PROOF") msg ((proof.drop 128).take 3309)) then 3
  else 0

/-- All three objects of a challenge have arrived: the proof is judged. -/
def State.judgeChallenge (c : Challenge) (s : State) : State :=
  match c.certEc, c.certMl, c.proof with
  | some ec, some ml, some proof =>
    let cause := judgeProof c ec ml proof (if c.join.isSome then s.crier.domain else 0)
    if cause ≠ 0 then s.proofFailed c cause
    else
      let s1 := s.withHall { s.hall with challenges := dropFirst (· == c) s.hall.challenges }
      match c.join with
      | some i => match s1.crier.joins.find? (fun j => j.id == i) with
        | some j => s1.joinProved { j with fingerprint := sha384 ec }
        | none => s1
      | none => match s1.listenerPort c.listener with
        | some p => match (s1.cr p.val).peer with
          | some y => if y.fpShort = c.fpShort then
              evPeer true c.listener { y with auth := true } (s1.updCr p.val fun k => { k with peer := some { y with auth := true } })
            else s1
          | none => s1
        | none => s1
  | _, _, _ => s

/-- A certificate or a proof arrives for the challenge it answers. -/
def State.answerObject (kind : Nat) (bs : List Byte) (mine : Challenge → Bool) (s : State) : State :=
  match s.hall.challenges.find? mine with
  | none => s
  | some c =>
    let d : Challenge := if kind = 1 then { c with certEc := some bs } else if kind = 2 then { c with certMl := some bs }
      else { c with proof := some bs }
    (s.withHall { s.hall with challenges := s.hall.challenges.map fun x => if x = c then d else x }).judgeChallenge d

/-- This unit answers a challenge with its certificates and its proof (R455). -/
def State.prove (send : Nat → List Byte → State → State) (obj : List Byte) (domain : Nat) (s : State) : State :=
  let nonce := (obj.drop 56).take 32
  let msg := proofMessage nonce ((obj.drop 8).take 48) ownFp domain
  let proof := nonce ++ fixBytes 96 (Config.signEc msg) ++ fixBytes 3309 (Config.signMl (ascii "HM-PROOF") msg)
  send 4 proof (send 2 (certBytes 1) (send 1 (certBytes 0) s))

/-- A complete object is handed to Hallmark (R412, R454). -/
def State.objectDone (k : Nat) (o : CrObject) (s : State) : State :=
  let bs := (List.range o.count).flatMap fun i => (Tab.get none o.parts i).getD []
  let link := o.src.isNone && o.fpShort.isEmpty
  if o.kind = 3 then
    if bs.take 8 ≠ ownFpShort then s
    else if link then
      match s.listenerPort k with
      | some p => s.prove (State.sendLinkObject p.val) bs 0
      | none => s
    else s.prove (State.sendDomainObject (some 0)) bs s.crier.domain
  else if o.kind = 1 ∨ o.kind = 2 ∨ o.kind = 4 then
    s.answerObject o.kind bs fun c =>
      if link then c.join.isNone && s.listenerPort c.listener == s.listenerPort k else c.join.isSome && c.fpShort == o.fpShort
  else s

/-- Replace or drop an object of a listener. -/
def State.setObjects (k : Nat) (os : List CrObject) (s : State) : State := s.updCr k fun c => { c with objects := os }

/-- A segment is reassembled: `x` begins at the segment header (R412). -/
def State.takePart (k : Nat) (src : Option Nat) (fp x : List Byte) (s : State) : State :=
  let id := byteAt x 0
  let mine (o : CrObject) : Bool := o.src == src && o.fpShort == fp && o.id == id
  let os := (s.cr k).objects
  let had := os.find? mine
  let begun : State × List CrObject :=
    if had.isNone && decide (2 ≤ os.length) then (s.crReject k, os.drop 1) else (s, os)
  let o : CrObject := had.getD ⟨src, fp, id, byteAt x 1, leAt x 4 2, [], s.time⟩
  let o1 : CrObject := { o with parts := Tab.set none o.parts (leAt x 2 2) (some (x.drop 8)) }
  let size := (o1.parts.map fun (e : Nat × Option (List Byte)) => (e.2.getD []).length).sum
  let rest := begun.2.filter fun y => !mine y
  if 16384 < size then (begun.1.setObjects k rest).crReject k
  else if (List.range o1.count).all fun i => (Tab.get none o1.parts i).isSome then (begun.1.setObjects k rest).objectDone k o1
  else if had.isSome then begun.1.setObjects k (os.map fun y => if mine y then o1 else y)
  else begun.1.setObjects k (rest ++ [o1])

/-- SEGMENT: of a link, or of a DOMAIN packet for this unit (R412). -/
def execSegment (k : Fin 4) (s : State) : Ans :=
  match s.takeIn fun x => x.listener == k.val && (x.type == 7 || x.type == 0x107) with
  | none => .next s
  | some (x, r) =>
    happen s.live s
      (if x.type = 7 then r.takePart x.listener none [] x.payload
       else match x.src with
        | some a => r.takePart x.listener (some a) [] (x.payload.drop 14)
        | none => r.takePart x.listener none ((x.payload.drop 14).take 8) (x.payload.drop 22))

/-- OBJECT_TIMEOUT: the older incomplete object of a listener (R412). -/
def execObjectTimeout (k : Fin 4) (s : State) : Ans :=
  match (s.cr k.val).objects with
  | [] => .next s
  | _ :: r => happen s.live s ((s.setObjects k.val r).crReject k.val)

/-- PROOF_TIMEOUT: the oldest challenge that stands (R456). -/
def execProofTimeout (s : State) : Ans :=
  match s.hall.challenges with
  | [] => .next s
  | c :: _ => happen s.live s (s.proofFailed c 4)

/-! ### The domain (R413 to R416) -/

/-- Bytes of an inner payload at least, its prefix included. -/
def leastInner (valid : Bool) (inner : Nat) : Nat :=
  (if valid then 0 else 8) + (if inner = 1 then 4 else if inner = 2 then 12 else if inner = 3 then 8 else if inner = 4 then 10
    else if inner = 7 then 8 else 0)

/-- A unit accepts DOMAIN packets of its own domain; a member in NONE hears the BEACON of a domain it may join (R413). -/
def State.acceptsDomain (s : State) (x : List Byte) : Bool :=
  let id := leAt x 0 4
  (s.crier.domain != 0 && id == s.crier.domain) ||
  (s.crier.role == 1 && s.crier.state == 0 && innerOf x == 4 && id != 0 && (s.crier.domainId == 0 || s.crier.domainId == id))

/-- The registrar notes when it last heard a member (Table 14-4). -/
def State.noteSeen (src : Option Nat) (s : State) : State :=
  match src with
  | some a => if s.crier.role = 2 ∧ s.crier.members.contains a = true then s.updRecord a (putAt 60 (leBytes 8 s.timing.tod)) else s
  | none => s

/-- A DOMAIN packet is delivered to the unit itself (R414, R417). -/
def State.deliverDomain (c : CrIn) (x : List Byte) (src : Option Nat) (s : State) : State :=
  let inner := innerOf x
  if inner = 5 then s.pushHost ⟨1, c.listener, src.getD 0, c.strength, x.drop 14⟩
  else if [1, 2, 3, 4, 7].contains inner then
    let y := s.padTo (14 + leastInner src.isSome inner) x
    y.2.withCrier { y.2.crier with inbox := y.2.crier.inbox ++ [{ c with type := 0x100 + inner, payload := y.1, src := src }] }
  else s

/-- DOMAIN (R413, R414). -/
def execDomain (k : Fin 4) (s : State) : Ans :=
  handle k 0x10 (fun c s =>
    let x0 := s.padTo (14 + (if byteAt c.payload 10 / 32 % 2 = 1 then 0 else 8)) c.payload
    let x := x0.1
    let key := domainKey x
    let s := x0.2
    let seen := s.crier.seen.any fun e => e.1 == key && decide (s.time < e.2 + 60 * second)
    if !s.acceptsDomain x || seen then s
    else
      let flags := byteAt x 10
      let src := if flags / 32 % 2 = 1 then some (leAt x 4 3 % 2 ^ 18) else none
      let cast := flags / 16 % 2 == 1
      let mine := s.inDomain && leAt x 7 3 % 2 ^ 18 == s.crier.address
      let hops := flags % 16
      let s1 := (s.seeKey key).noteSeen src
      let s2 := if mine || cast then s1.deliverDomain c x src else s1
      if s.inDomain && !(mine && !cast) && decide (1 < hops) then
        let y : CrPkt := { type := 0x10, payload := x.set 10 (BitVec.ofNat 8 (flags - 1)), relayed := true }
        [0, 1].foldl (fun s q => if (s.listenerPort c.listener).map (·.val) = some q then s else s.queuePkt q y) s2
      else s2) s

/-- The domain state changes; CRIER_DOMAIN (Table 14-10). -/
def State.moveDomain (new a : Nat) (s : State) : State :=
  let old := s.crier.state
  let s1 := s.withCrier { s.crier with state := new, address := a }
  if old = new then s1 else s1.raise 0x0302 1 crierHa (new * 2 ^ 28 + old * 2 ^ 24 + a)

/-- JOIN_REQ is sent to the registrar (R400, R416). -/
def State.sendJoin (s : State) : State :=
  s.sendDomain (some 0) 1 (leBytes 3 (s.crier.rejoin.getD 0) ++ [BitVec.ofNat 8 (b2n s.crier.rejoin.isSome)])

/-- BEACON: a member in NONE enters JOINING; a registrar finds a second one (R413, R416, Table 14-10). -/
def execBeacon (k : Fin 4) (s : State) : Ans :=
  handle k 0x104 (fun x s =>
    if s.crier.role = 2 then evConflict 1 0 s
    else if s.crier.role = 1 ∧ s.crier.state = 0 ∧ s.crier.waiting = false then
      ((s.withCrier { s.crier with domain := leAt x.payload 0 4 }).moveDomain 1 0).sendJoin
    else s) s

/-- JOIN_REQ: the registrar starts the proof of a requester it is not already dealing with (R416). -/
def execJoinReq (k : Fin 4) (s : State) : Ans :=
  handle k 0x101 (fun x s =>
    let fp := (x.payload.drop 14).take 8
    if s.crier.role ≠ 2 ∨ x.src.isSome ∨ s.crier.joins.any (fun j => j.fpShort == fp) then s
    else
      let rejoin := if byteAt x.payload 25 % 2 = 1 then some (leAt x.payload 22 3 % 2 ^ 18) else none
      let j : CrJoin := ⟨x.listener, fp, [], rejoin, false, s.crier.nextReq⟩
      (s.withCrier { s.crier with joins := s.crier.joins ++ [j], nextReq := (s.crier.nextReq + 1) % 65536 }).challenge
        x.listener none (some j.id) fp) s

/-- JOIN_ANSWER (R416 step 5). -/
def execJoinAnswer (k : Fin 4) (s : State) : Ans :=
  handle k 0x102 (fun x s =>
    if s.crier.role ≠ 1 ∨ s.crier.state ≠ 1 ∨ (x.payload.drop 14).take 8 ≠ ownFpShort then s
    else if byteAt x.payload 25 = 0 then s.moveDomain 2 (leAt x.payload 22 3 % 2 ^ 18)
    else
      let s1 := s.moveDomain 0 0
      s1.withCrier { s1.crier with domain := 0, waiting := true }) s

/-- A REPORT's neighbour as a record holds it. -/
def neighbour (v : Nat) : Nat := v / 2 ^ 23 % 2 * 2 ^ 31 + v % 2 ^ 18

/-- REPORT: words 17 to 19 of the member's record (R415). -/
def execReport (k : Fin 4) (s : State) : Ans :=
  handle k 0x103 (fun x s =>
    match x.src with
    | some a =>
      if s.crier.role = 2 ∧ s.crier.members.contains a = true then
        let r := x.payload.drop 14
        s.updRecord a (putAt 68 (leBytes 4 (neighbour (leAt r 0 3)) ++ leBytes 4 (neighbour (leAt r 3 3)) ++
          leBytes 4 (byteAt r 6 * 256 + byteAt r 7)))
      else s
    | none => s) s

/-- BEACON_TIMER (R414). -/
def execBeaconTimer (s : State) : Ans :=
  happen (s.live && s.crier.role == 2) s
    (s.sendDomain none 4 (leBytes 6 (if s.timing.todSet then s.timing.tod else 0) ++ leBytes 3 s.crier.members.length ++
      [BitVec.ofNat 8 (b2n s.crier.admitAuto)]))

/-- NEIGHBOUR of a port in a REPORT. -/
def State.heardAddress (s : State) (k : Nat) : Nat :=
  match (s.cr k).peer with
  | some x => match x.address with | some a => 2 ^ 23 + a | none => 0
  | none => 0

/-- REPORT_TIMER (R414). -/
def execReportTimer (s : State) : Ans :=
  happen (s.live && s.crier.role == 1 && s.crier.state == 2) s
    (s.sendDomain (some 0) 3 (leBytes 3 (s.heardAddress 0) ++ leBytes 3 (s.heardAddress 1) ++
      [BitVec.ofNat 8 (s.cr 0).txCode, BitVec.ofNat 8 (s.cr 1).txCode]))

/-- JOIN_REQ_TIMER (R416). -/
def execJoinReqTimer (s : State) : Ans := happen (s.live && s.crier.role == 1 && s.crier.state == 1) s s.sendJoin

/-- ADMIT_TIMEOUT: the oldest request that waits for CRIER_ADMIT is refused (R416). -/
def execAdmitTimeout (s : State) : Ans :=
  match s.crier.joins.find? (·.decide_) with
  | none => .next s
  | some j => happen s.live s (s.refuseJoin j)

/-- REJOIN_WAIT_EXPIRY (R416). -/
def execRejoinWaitExpiry (s : State) : Ans := happen s.live s (s.withCrier { s.crier with waiting := false })

/-! ### Opcodes (R418 to R424) -/

def targetCrier (_ : State) (t : Nat) : Bool := t == 0x03FFF

/-- CRIER_PORT_SET (Table 14-7, R419). -/
def crierPortSetOp : OpDef where
  code := 0x0301
  lo := 3
  hi := 3
  targetOk := targetCrier
  check := fun c _ =>
    let k := (c.p 0).fld 31 30; let q := (c.p 0).fld 26 24; let a := (c.p 0).fld 19 16
    let between (lo hi v : Nat) : Bool := decide (lo ≤ v ∧ v ≤ hi)
    firstRej [param (decide (k < 2) || !(c.p 0).bit 29) 0, param (decide (q ≤ 3) || q == 7) 0,
      param (if k < 2 then a == 0 else decide (a ≤ 2)) 0, param (decide ((c.p 0).fld 15 8 ≤ 128)) 0,
      param (decide ((c.p 0).fld 7 0 ≤ 128)) 0, param (between 5 40 ((c.p 1).fld 31 26)) 1,
      param (between 2 40 ((c.p 1).fld 25 20)) 1, param (between 2 40 ((c.p 1).fld 19 14)) 1,
      param ((c.p 1).fld 13 8 != 0) 1]
  effect := sets fun c s =>
    let k := (c.p 0).fld 31 30
    let x := s.cr k
    let listen := (c.p 0).fld 7 0; let det := (c.p 1).fld 25 20; let cap := (c.p 1).fld 19 14
    let y : CrPort := { x with
      txEnable := (c.p 0).bit 29, rxEnable := (c.p 0).bit 28, auth := (c.p 0).bit 27, qlDpll := (c.p 0).fld 26 24,
      hostQl := (c.p 0).fld 23 20, attach := (c.p 0).fld 19 16, txCode := (c.p 0).fld 15 8, listenCode := listen,
      depth := (c.p 1).fld 31 26, detect := det, capture := cap, hello := (c.p 1).fld 13 8, timeInt := (c.p 1).fld 7 0,
      asym := (c.p 2).sfld 31 0 }
    let s1 := s.setCr k y
    let s2 := if !y.txEnable then s1.crTxOff k else s1
    if listen ≠ x.listenCode ∨ det ≠ x.detect ∨ cap ≠ x.capture ∨ y.rxEnable = false then s2.crAbandon k else s2

def execCrierPortSet (c : Cmd) (s : State) : Ans := serve crierPortSetOp c s

/-- The unit leaves its domain: requests are refused, proofs of requesters end (R420). -/
def State.leaveDomain (s : State) : State :=
  let s1 := s.crier.joins.foldl (fun s j => s.refuseJoin j) s
  let s2 := s1.withHall { s1.hall with challenges := s1.hall.challenges.filter fun c => c.join.isNone }
  let s3 := s2.moveDomain 0 0
  s3.withCrier { s3.crier with domain := 0, waiting := false, members := [] }

/-- CRIER_UNIT_SET (Table 14-8, R420). -/
def crierUnitSetOp : OpDef where
  code := 0x0302
  lo := 3
  hi := 3
  targetOk := targetCrier
  check := fun c s =>
    let r := (c.p 0).fld 31 30
    firstRej [param (r != 3) 0, param ((c.p 0).fld 27 24 != 0) 0, resv c 0 23 16, param ((c.p 0).fld 15 0 != 0) 0,
      param (r != 2 || (c.p 1).toNat != 0) 1, resv c 2 30 18, stateErr (r != 2 || (s.part 4).isSome) 0x16]
  effect := sets fun c s =>
    let r := (c.p 0).fld 31 30; let d := (c.p 1).toNat
    let new := r != s.crier.role || d != s.crier.domainId
    let s1 := if new then s.leaveDomain else s
    let s2 := s1.withCrier { s1.crier with
      role := r, admitAuto := (c.p 0).bit 29, timePort := if (c.p 0).bit 28 then 1 else 0, hops := (c.p 0).fld 27 24,
      report := (c.p 0).fld 15 0, domainId := d, rejoin := if (c.p 2).bit 31 then some ((c.p 2).fld 17 0) else none }
    if new && r == 2 then
      let s3 := s2.withCrier { s2.crier with domain := d, address := 0, members := s2.scanTable }
      s3.enrol 0 ownFp
    else s2

def execCrierUnitSet (c : Cmd) (s : State) : Ans := serve crierUnitSetOp c s

/-- Ports a host packet of a scope goes to. -/
def State.sendPorts (s : State) (scope port : Nat) : List Nat :=
  if scope = 0 then [port] else [0, 1].filter fun k => (s.cr k).txEnable

/-- CRIER_SEND (R421). -/
def crierSendOp : OpDef where
  code := 0x0303
  lo := 3
  hi := 62
  targetOk := targetCrier
  check := fun c s =>
    let scope := (c.p 0).fld 31 30; let n := (c.p 1).fld 7 0
    firstRej [param (scope != 3) 0, resv c 0 28 18, resv c 1 31 8,
      param (decide (1 ≤ n ∧ n ≤ (if scope = 0 then 240 else 226))) 1,
      param (c.params.length == 2 + (n + 3) / 4) 1 5,
      stateErr (scope == 0 || s.inDomain) 0x34,
      busy ((s.sendPorts scope ((c.p 0).fld 29 29)).all fun k => decide (((s.cr k).queue.filter fun x => x.cls == 6).length < 16)) 0x33]
  effect := sets fun c s =>
    let scope := (c.p 0).fld 31 30
    let bs := (bytesOf (c.params.drop 2)).take ((c.p 1).fld 7 0)
    if scope = 0 then s.queuePkt ((c.p 0).fld 29 29) { type := 8, payload := bs }
    else s.sendDomain (if scope = 1 then some ((c.p 0).fld 17 0) else none) 5 bs

def execCrierSend (c : Cmd) (s : State) : Ans := serve crierSendOp c s

/-- The words of a buffered entry (R422). -/
def CrEntry.words (e : CrEntry) : List Word :=
  [mkw [(30, 29, e.kind), (28, 27, e.listener), (17, 0, e.src)], mkw [(15, 8, e.strength), (7, 0, e.bytes.length)]] ++ wordsOf e.bytes

/-- CRIER_RECEIVE (R422). -/
def crierReceiveOp : OpDef where
  code := 0x0304
  lo := 0
  hi := 0
  targetOk := targetCrier
  effect := fun _ s =>
    match s.crier.buffer with
    | [] => (.ok [mkw [(31, 31, 1)], 0], s)
    | e :: r => (.ok e.words, s.withCrier { s.crier with buffer := r })

def execCrierReceive (c : Cmd) (s : State) : Ans := serve crierReceiveOp c s

/-- CRIER_ADMIT (R423). -/
def crierAdmitOp : OpDef where
  code := 0x0305
  lo := 2
  hi := 2
  targetOk := targetCrier
  check := fun c s =>
    let d := (c.p 0).fld 31 30
    firstRej [param (d != 0) 0, resv c 0 29 18, resv c 1 31 16, stateErr (s.crier.role == 2) 0x32,
      stateErr (if d = 3 then s.crier.members.contains ((c.p 0).fld 17 0)
        else s.crier.joins.any fun j => j.decide_ && j.id == (c.p 1).fld 15 0) 0x35]
  effect := sets fun c s =>
    let d := (c.p 0).fld 31 30
    if d = 3 then (s.updRecord ((c.p 0).fld 17 0) fun _ => List.replicate 256 0).dropMember ((c.p 0).fld 17 0)
    else match s.crier.joins.find? (fun j => j.decide_ && j.id == (c.p 1).fld 15 0) with
      | some j => if d = 1 then s.admitJoin j else s.refuseJoin j
      | none => s

def execCrierAdmit (c : Cmd) (s : State) : Ans := serve crierAdmitOp c s

/-- Records read one after another. -/
def readRecords : List Nat → State → List Word × State
  | [], s => ([], s)
  | a :: r, s =>
    let x := s.readRecord a
    let y := readRecords r x.2
    (wordsOf x.1 ++ y.1, y.2)

/-- CRIER_MEMBER_READ (R423). -/
def crierMemberReadOp : OpDef where
  code := 0x0306
  queue := some 2
  lo := 1
  hi := 1
  targetOk := targetCrier
  check := fun c s =>
    let n := (c.p 0).fld 31 27
    firstRej [param (n != 0) 0, resv c 0 26 18, param (decide ((c.p 0).fld 17 0 + n ≤ 262144)) 0, stateErr (s.crier.role == 2) 0x32]
  effect := fun c s =>
    let r := readRecords ((List.range ((c.p 0).fld 31 27)).map ((c.p 0).fld 17 0 + ·)) s
    (.ok r.1, r.2)

def execCrierMemberRead (c : Cmd) (s : State) : Ans := serve crierMemberReadOp c s

/-- The words of CRIER_STATUS (Table 14-9). -/
def State.crierWords (s : State) (k : Nat) : List Word :=
  let c := s.cr k
  let tx := if 2 ≤ k ∨ c.txEnable = false then 0 else if c.air.isSome then 2
    else if s.crDriving k = false ∧ c.queue ≠ [] then 3 else 1
  let heard := c.peer.isSome
  [mkw [(31, 28, if s.hears k then c.rx else 0), (27, 26, tx), (25, 20, c.queue.length), (19, 19, b2n heard),
        (18, 18, b2n (c.peer.any (·.auth))), (17, 0, (c.peer.bind (·.address)).getD 0)],
   mkw [(31, 24, match c.peer with | some x => x.code | none => 0), (23, 16, c.lastStrength), (15, 8, Int.bits 8 c.chip)],
   mkw [(31, 28, s.crier.state), (27, 26, s.crier.role), (17, 0, if s.inDomain then s.crier.address else 0)],
   w32 s.crier.domain, mkw [(18, 0, if s.crier.role = 2 then s.crier.members.length else 0)], w32 (satInt 32 s.crier.theta)]

/-- CRIER_STATUS (R418). -/
def crierStatusOp : OpDef where
  code := 0x0307
  lo := 1
  hi := 1
  targetOk := targetCrier
  check := fun c _ => resv c 0 31 2
  effect := reads fun c s => s.crierWords ((c.p 0).fld 1 0)

def execCrierStatus (c : Cmd) (s : State) : Ans := serve crierStatusOp c s

/-- CRIER_COUNTERS (R424). -/
def crierCountersOp : OpDef where
  code := 0x0308
  lo := 1
  hi := 1
  targetOk := targetCrier
  check := fun c _ => resv c 0 31 2
  effect := reads fun c s => s.counterWords (crCtr ((c.p 0).fld 1 0) 0) 12

def execCrierCounters (c : Cmd) (s : State) : Ans := serve crierCountersOp c s

end Sys2Proof.Machine
end

