-- ==== Sys2Proof/Machine/Flow.lean ====
section
/-!
DEFINITION. Opcodes and happenings of FLOW and CIPH (spec/10).
-/

set_option Elab.async false

namespace Sys2Proof.Machine

def targetFlow (_ : State) (t : Nat) : Bool := t == 0x06FFF
def targetCiph : State → Nat → Bool := targetRegions 0x07 0x0B

/-! ### Flow opcodes (R318 to R322) -/

/-- FLOW_IFACE_SET (Table 10-6). -/
def flowIfaceSetOp : OpDef where
  code := 0x0601
  lo := 1
  hi := 1
  targetOk := targetFlow
  check := fun c s =>
    let i := (c.p 0).fld 31 24; let m := (c.p 0).fld 23 22
    firstRej [param (s.laneIface i).isSome 0, param (m != 3) 0, resv c 0 20 20, param (!s.streams i || m == 0) 0]
  effect := sets fun c s => s.updFi ((c.p 0).fld 31 24) fun x =>
    { x with classMode := (c.p 0).fld 23 22, missDiscard := (c.p 0).bit 21, defaultFlow := (c.p 0).fld 19 0 }

def execFlowIfaceSet (c : Cmd) (s : State) : Ans := serve flowIfaceSetOp c s

/-- An entry of FLOW_SET: flow, CIPH, PIN, thread, context, quantum (Table 10-7). -/
structure FlowEntry where
  flow : Nat
  ciph : Bool
  pin : Bool
  thread : Nat
  ctx : Nat
  quantum : Nat
  deriving DecidableEq, Repr

def flowEntries (c : Cmd) : List FlowEntry :=
  (List.range ((c.p 0).fld 9 0)).map fun e =>
    ⟨(c.p (1 + 4 * e)).fld 19 0, (c.p (1 + 4 * e)).bit 31, (c.p (1 + 4 * e)).bit 30, (c.p (2 + 4 * e)).fld 31 14,
     (c.p (3 + 4 * e)).fld 31 12, (c.p (4 + 4 * e)).fld 31 16⟩

/-- The flows of a direction as (flow, thread, context of a ciphered flow, pin) after entries. -/
def State.bindings (s : State) (d : Way) : List (Nat × Nat × Option Nat × Bool) :=
  if d = 0 then s.flow.rx.filterMap fun e => e.2.map fun f => (e.1, f.thread, if f.ciph then some f.ctx else none, f.pin)
  else s.flow.tx.filterMap fun e => e.2.map fun f => (e.1, f.thread, if f.ciph then some f.ctx else none, f.pin)

def bindAfter (es : List FlowEntry) (l : List (Nat × Nat × Option Nat × Bool)) : List (Nat × Nat × Option Nat × Bool) :=
  es.foldl (fun l e =>
    let r := l.filter fun x => x.1 != e.flow
    if e.quantum = 0 then r else r ++ [(e.flow, e.thread, if e.ciph then some e.ctx else none, e.pin)]) l

/-- No context serves two flows (CTX_IN_USE). -/
def ctxClash : List (Nat × Nat × Option Nat × Bool) → Bool
  | [] => false
  | x :: r => (x.2.2.1.isSome && r.any fun y => y.2.2.1 == x.2.2.1) || ctxClash r

/-- A thread of kind STREAM would carry more than one flow (R320). -/
def State.streamShared (s : State) (d : Way) (l : List (Nat × Nat × Option Nat × Bool)) : Bool :=
  l.any fun x => (if d = 0 then (s.rxThread x.2.1).stream else (s.txThread x.2.1).stream) &&
    decide (1 < (l.filter fun y => y.2.1 == x.2.1).length)

def flowFieldChecks (c : Cmd) : List (Option Rej) :=
  (List.range ((c.p 0).fld 9 0)).flatMap fun e =>
    [resv c (1 + 4 * e) 29 20, resv c (2 + 4 * e) 13 0, resv c (3 + 4 * e) 11 0,
     param (let q := (c.p (4 + 4 * e)).fld 31 16; q == 0 || decide (64 ≤ q) || (c.p 0).fld 31 30 == 1) (4 + 4 * e),
     resv c (4 + 4 * e) 15 0]

/-- The commit of one entry in the transmit direction (R319). -/
def State.setFlowTx (e : FlowEntry) (s : State) : State :=
  match s.txFlow e.flow with
  | none =>
    if e.quantum = 0 then s else s.setTxFlow e.flow { thread := e.thread, ciph := e.ciph, ctx := e.ctx, pin := e.pin, quantum := e.quantum }
  | some x =>
    if e.quantum = 0 then
      let s1 := s.dropQueue e.flow
      let s2 := if x.ciph then s1.setTxCtx x.ctx {} else s1
      s2.withFlow { s2.flow with tx := Tab.set none s2.flow.tx e.flow none }
    else
      let s1 := if x.thread = e.thread then s else s.idle e.flow
      let y := { x with thread := e.thread, ciph := e.ciph, ctx := e.ctx, pin := e.pin, quantum := e.quantum,
                        deficit := if x.thread = e.thread then x.deficit else 0 }
      s1.setTxFlow e.flow y

/-- The commit of one entry in the receive direction. -/
def State.setFlowRx (e : FlowEntry) (s : State) : State :=
  let s1 := match s.rxFlow e.flow with
    | some x => if e.quantum = 0 && x.ciph then s.setRxCtx x.ctx {} else s
    | none => s
  s1.withFlow { s1.flow with
    rx := Tab.set none s1.flow.rx e.flow (if e.quantum = 0 then none else some ⟨e.thread, e.ciph, e.ctx, e.pin⟩) }

/-- FLOW_SET (Table 10-7, R319, R320). -/
def flowSetOp : OpDef where
  code := 0x0602
  queue := some 2
  lo := 5
  hi := 2045
  targetOk := targetFlow
  check := fun c s =>
    let ws := waysOf ((c.p 0).fld 31 30)
    let n := (c.p 0).fld 9 0
    let es := flowEntries c
    let after (d : Way) := bindAfter es (s.bindings d)
    let pins := (((if ws.contains 0 then after 0 else s.bindings 0) ++ (if ws.contains 1 then after 1 else s.bindings 1)).filterMap
      fun x => if x.2.2.2 then some x.1 else none).eraseDups
    firstRej ([param (!ws.isEmpty) 0, resv c 0 29 10, param (decide (1 ≤ n ∧ n ≤ 511)) 0,
      param (c.params.length == 1 + 4 * n) 0xFFFF 5] ++ flowFieldChecks c ++
      (ws.map fun d => param (!ctxClash (after d)) 0xFFFF 0x1F) ++
      (ws.flatMap fun d => es.map fun e => stateErr (e.quantum != 0 || (s.bindings d).any fun x => x.1 == e.flow) 0x1D) ++
      (ws.map fun d => stateErr (!s.streamShared d (after d)) 0x47) ++ [stateErr (decide (pins.length ≤ 16384)) 0x21])
  effect := sets fun c s =>
    let ws := waysOf ((c.p 0).fld 31 30)
    let es := flowEntries c
    let s1 := es.foldl (fun s e => s.useRecord e.flow) s
    let s2 := if ws.contains 1 then es.foldl (fun s e => s.setFlowTx e) s1 else s1
    let s3 := if ws.contains 0 then es.foldl (fun s e => s.setFlowRx e) s2 else s2
    (s3.refreshPools).runAll

def execFlowSet (c : Cmd) (s : State) : Ans := serve flowSetOp c s

/-- Entry `e` of FLOW_CLASS_MAP: its key, REMOVE, its flow (Table 10-8). -/
def classKey (c : Cmd) (e : Nat) : Nat :=
  let w := c.p (1 + 2 * e)
  w.fld 31 24 * 32768 + w.fld 23 12 * 8 + w.fld 11 9

def classChecks (c : Cmd) (s : State) : List (Option Rej) :=
  (List.range ((c.p 0).fld 9 0)).flatMap fun e =>
    let w := c.p (1 + 2 * e)
    let old := Tab.get 0 s.flow.classes (classKey c e)
    [param (s.laneIface (w.fld 31 24)).isSome (1 + 2 * e),
     param ((s.fi (w.fld 31 24)).classMode != 1 || w.fld 11 9 == 0) (1 + 2 * e), resv c (1 + 2 * e) 8 0,
     resv c (2 + 2 * e) 30 20,
     param (!((List.range e).any fun j => classKey c j == classKey c e)) (1 + 2 * e) 0x1E,
     param ((c.p (2 + 2 * e)).bit 31 || old == 0 || old == (c.p (2 + 2 * e)).fld 19 0 + 1) (1 + 2 * e) 0x1E]

def classesAfter (c : Cmd) (s : State) : Tab Nat :=
  (List.range ((c.p 0).fld 9 0)).foldl (fun t e =>
    Tab.set 0 t (classKey c e) (if (c.p (2 + 2 * e)).bit 31 then 0 else (c.p (2 + 2 * e)).fld 19 0 + 1)) s.flow.classes

/-- FLOW_CLASS_MAP (Table 10-8). A table past its 1,048,576 entries is BUSY NO_SPACE (a design choice). -/
def flowClassMapOp : OpDef where
  code := 0x0603
  queue := some 2
  lo := 3
  hi := 2045
  targetOk := targetFlow
  check := fun c s =>
    let n := (c.p 0).fld 9 0
    firstRej ([resv c 0 31 10, param (decide (1 ≤ n ∧ n ≤ 1022)) 0, param (c.params.length == 1 + 2 * n) 0xFFFF 5] ++
      classChecks c s ++ [busy (decide ((classesAfter c s).length ≤ 1048576)) 0x17])
  effect := sets fun c s => s.withFlow { s.flow with classes := classesAfter c s }

def execFlowClassMap (c : Cmd) (s : State) : Ans := serve flowClassMapOp c s

/-- The receive threads, with their nominal sizes, that deliver to an interface besides thread `t` (R311). -/
def State.egressSizes (s : State) (i t : Nat) : Nat :=
  (s.flow.rxThreads.map fun e =>
    if e.1 ≠ t ∧ e.2.egress = some i then (match s.thread 0 e.1 with | some x => x.size | none => 0) else 0).sum

/-- FLOW_THREAD_SET (Table 10-9, R311, R320). -/
def flowThreadSetOp : OpDef where
  code := 0x0604
  lo := 2
  hi := 2
  targetOk := targetFlow
  check := fun c s =>
    let ws := waysOf ((c.p 0).fld 31 30)
    let t := (c.p 0).fld 17 0
    let i := (c.p 0).fld 25 18
    let adj := (c.p 1).sfld 6 0
    let own := match s.thread 0 t with | some x => x.size | none => 0
    firstRej ([param (!ws.isEmpty) 0, param (decide ((c.p 0).fld 29 28 ≤ 1)) 0, param ((c.p 0).fld 27 26 != 3) 0,
      param (!ws.contains 0 || assignable i) 0, resv c 1 31 7, param (decide (-32 ≤ adj ∧ adj ≤ 63)) 1,
      param (!ws.contains 0 || decide ((s.egressSizes i t + own) * 9765625 ≤ s.ifaceKbps i * 1000)) 0 0x20] ++
      (ws.map fun d => stateErr ((c.p 0).fld 29 28 == 0 ||
        decide (((s.bindings d).filter fun x => x.2.1 == t).length ≤ 1)) 0x47))
  effect := sets fun c s =>
    let ws := waysOf ((c.p 0).fld 31 30)
    let t := (c.p 0).fld 17 0
    let stream := (c.p 0).fld 29 28 == 1
    let s1 := if ws.contains 1 then
        let change := stream != (s.txThread t).stream
        let s' := if change then (s.bindings 1).foldl (fun s x => if x.2.1 = t then s.dropQueue x.1 else s) s else s
        s'.updTxThread t fun r => { r with stream := stream, lenAdj := (c.p 1).sfld 6 0 }
      else s
    if ws.contains 0 then
      let change := stream != (s.rxThread t).stream
      let s' := if change then
          (s1.hunt t).withFlow { (s1.hunt t).flow with rxMsgs := (s1.hunt t).flow.rxMsgs.filter fun m => m.thread != t }
        else s1
      s'.updRxThread t fun r => { r with stream := stream, replace := (c.p 0).fld 27 26, egress := some ((c.p 0).fld 25 18) }
    else s1

def execFlowThreadSet (c : Cmd) (s : State) : Ans := serve flowThreadSetOp c s

/-- Stripes of QUEUE that a flow holds. -/
def TxFlow.backlog (x : TxFlow) : Nat :=
  (x.segs.filter fun g => match g.st with | .written _ => true | _ => false).length

/-- The two words of a flow of FLOW_STATUS (R321). -/
def flowStatus (d : Way) (f : Nat) (s : State) : List Word :=
  if d = 0 then
    match s.rxFlow f with
    | none => [0, 0]
    | some x => [mkw [(31, 31, 1), (30, 30, b2n x.ciph), (29, 29, b2n (s.cached f)), (17, 0, x.thread)], 0]
  else
    match s.txFlow f with
    | none => [0, 0]
    | some x =>
      [mkw [(31, 31, 1), (30, 30, b2n x.ciph), (29, 29, b2n (s.cached f)),
            (28, 28, b2n ((s.txThread x.thread).active.contains f)), (17, 0, x.thread)],
       mkw [(31, 15, x.deficit), (14, 0, sat 32767 x.backlog)]]

/-- FLOW_STATUS (R321). -/
def flowStatusOp : OpDef where
  code := 0x0605
  queue := some 2
  lo := 1
  hi := 1
  targetOk := targetFlow
  check := fun c _ =>
    let d := (c.p 0).fld 31 30; let n := (c.p 0).fld 29 20
    firstRej [param (d == 1 || d == 2) 0, param (decide (1 ≤ n ∧ n ≤ 1022)) 0,
      param (decide ((c.p 0).fld 19 0 + n ≤ 1048576)) 0]
  effect := reads fun c s => (List.range ((c.p 0).fld 29 20)).flatMap fun k =>
    flowStatus (if (c.p 0).fld 31 30 = 1 then 0 else 1) ((c.p 0).fld 19 0 + k) s

def execFlowStatus (c : Cmd) (s : State) : Ans := serve flowStatusOp c s

/-- FLOW_COUNTERS (R322). -/
def flowCountersOp : OpDef where
  code := 0x0606
  lo := 1
  hi := 1
  targetOk := targetFlow
  check := fun c _ => resv c 0 30 20
  effect := reads fun c s => s.counterWords (oneFlowCtr (if (c.p 0).bit 31 then 1 else 0) ((c.p 0).fld 19 0) 0) 4

def execFlowCounters (c : Cmd) (s : State) : Ans := serve flowCountersOp c s

/-- FLOW_REGION_COUNTERS (R322). -/
def flowRegionCountersOp : OpDef where
  code := 0x0607
  lo := 0
  hi := 0
  targetOk := targetFlow
  effect := reads fun _ s => s.counterWords (flowCtr 0) 12

def execFlowRegionCounters (c : Cmd) (s : State) : Ans := serve flowRegionCountersOp c s

/-! ### Cipher opcodes (R323 to R326) -/

/-- The receive slot a key goes into: an empty one, else the one that least recently authenticated (R315). -/
def RxCtx.slotFor (x : RxCtx) : Bool :=
  match x.a, x.b with
  | none, _ => true
  | some _, none => false
  | some a, some b => decide (a.used ≤ b.used)

/-- The ID of the key that a load leaves loaded beside the new one. -/
def State.otherKey (s : State) (rx : Bool) (c : Nat) : Option Nat :=
  if rx then (if (s.rxCtx c).slotFor then (s.rxCtx c).b else (s.rxCtx c).a).map (·.id)
  else (s.txCtx c).cur.map (·.id)

/-- CIPH_KEY_LOAD (Table 10-11, R315, R324). -/
def ciphKeyLoadOp : OpDef where
  code := 0x0701
  lo := 12
  hi := 12
  targetOk := targetCiph
  check := fun c s =>
    let d := (c.p 0).fld 31 30; let x := (c.p 0).fld 19 0
    firstRej [param (d == 1 || d == 2) 0, resv c 0 29 28,
      param (s.otherKey (d == 1) x != some ((c.p 0).fld 27 20)) 0 5,
      busy (d == 1 || (s.txCtx x).roll.isNone) 0x23]
  effect := fun c s =>
    let x := (c.p 0).fld 19 0; let id := (c.p 0).fld 27 20
    let un := match s.hall.kek with
      | some k => Config.aesUnwrap k (bytesOf ((c.params.drop 2).take 10))
      | none => none
    match un with
    | none => (.refused ⟨stRefused, 0xFFFF, 0x25⟩, s.bump (ciphCtr 8) 1)
    | some key =>
      let s1 := (s.useRecord x).bump (ciphCtr 7) 1
      (.ok [], if (c.p 0).fld 31 30 = 2 then s1.setTxCtx x { s1.txCtx x with next := some ⟨id, c.p 1, key, 1⟩ }
        else
          let k : RxKey := { id := id, salt := c.p 1, key := key }
          s1.setRxCtx x (if (s1.rxCtx x).slotFor then { s1.rxCtx x with a := some k } else { s1.rxCtx x with b := some k }))

def execCiphKeyLoad (c : Cmd) (s : State) : Ans := serve ciphKeyLoadOp c s

/-- A transmit framer is sending, or has sent, multiframe `mf` (low 32 bits). -/
def LoomPort.mfReached (l : LoomPort) (mf : Nat) : Bool :=
  l.txEver && decide ((l.txMfn % 2 ^ 32 + 2 ^ 32 - mf) % 2 ^ 32 < 2 ^ 31)

/-- CIPH_ROLLOVER (R316, R324). -/
def ciphRolloverOp : OpDef where
  code := 0x0702
  lo := 2
  hi := 2
  targetOk := targetCiph
  check := fun c s =>
    let x := s.txCtx ((c.p 0).fld 19 0)
    firstRej [resv c 0 30 20, stateErr x.next.isSome 0x22,
      stateErr (!(s.lp (if (c.p 0).bit 31 then 1 else 0)).mfReached (c.p 1).toNat) 0x24, busy x.roll.isNone 0x23]
  effect := sets fun c s =>
    let i := (c.p 0).fld 19 0
    (s.useRecord i).setTxCtx i { s.txCtx i with roll := some (if (c.p 0).bit 31 then 1 else 0, (c.p 1).toNat) }

def execCiphRollover (c : Cmd) (s : State) : Ans := serve ciphRolloverOp c s

/-- The words of CIPH_CTX_STATUS (R325). -/
def ciphCtxStatus (rx : Bool) (i : Nat) (s : State) : List Word :=
  if rx then
    let x := s.rxCtx i
    let id (k : Option RxKey) : Nat := match k with | some k => k.id | none => 0
    mkw [(31, 31, b2n x.a.isSome), (30, 30, b2n x.b.isSome), (23, 16, id x.a), (15, 8, id x.b)] :: 0 ::
      words64 (match x.a with | some k => k.highest | none => 0)
  else
    let x := s.txCtx i
    let id (k : Option TxKey) : Nat := match k with | some k => k.id | none => 0
    mkw [(31, 31, b2n x.cur.isSome), (30, 30, b2n x.next.isSome), (29, 29, b2n x.roll.isSome),
         (28, 28, match x.roll with | some r => r.1.val | none => 0), (23, 16, id x.cur), (15, 8, id x.next)] ::
      w32 (match x.roll with | some r => r.2 | none => 0) :: words64 (match x.cur with | some k => k.counter | none => 0)

/-- CIPH_CTX_STATUS (R325). -/
def ciphCtxStatusOp : OpDef where
  code := 0x0703
  lo := 1
  hi := 1
  targetOk := targetCiph
  check := fun c _ => firstRej [param ((c.p 0).fld 31 30 == 1 || (c.p 0).fld 31 30 == 2) 0, resv c 0 29 20]
  effect := reads fun c s => ciphCtxStatus ((c.p 0).fld 31 30 == 1) ((c.p 0).fld 19 0) s

def execCiphCtxStatus (c : Cmd) (s : State) : Ans := serve ciphCtxStatusOp c s

/-- Messages with a region. -/
def State.inFlight (s : State) (r : Nat) : Nat :=
  (s.flow.txMsgs.filter fun m => m.region == r && !m.done).length + (s.flow.rxMsgs.filter fun m => m.state == .cipher r).length

/-- The Journeyman of the CIPH regions, 0xFF where there is none (R21). -/
def State.ciphJourneyman (s : State) : Nat := (((List.range 5).map (7 + ·)).find? fun r => (s.region r).poolRole == 1).getD 0xFF

/-- CIPH_POOL_STATUS: Table 6-9 with the differences of R325. -/
def ciphPoolStatusOp : OpDef where
  code := 0x0704
  lo := 0
  hi := 0
  targetOk := targetCiph
  effect := reads fun _ s =>
    let up (n : Nat) : Word := w32 ((n + 3276799) / 3276800)
    [mkw [(31, 28, s.ciphWorking.length), (27, 20, s.ciphJourneyman), (1, 1, b2n s.flow.shortRx), (0, 0, b2n s.flow.shortTx)],
     up (s.ciphRequired 1), up (s.ciphRequired 0), w32 s.ciphGuaranteed] ++
    (List.range 5).map fun k =>
      mkw [(31, 28, (s.region (7 + k)).poolRole), (27, 22, (s.servingBlocks (7 + k)).length), (21, 14, sat 255 (s.inFlight (7 + k)))]

def execCiphPoolStatus (c : Cmd) (s : State) : Ans := serve ciphPoolStatusOp c s

/-- CIPH_COUNTERS (R326). -/
def ciphCountersOp : OpDef where
  code := 0x0705
  lo := 0
  hi := 0
  targetOk := targetCiph
  effect := reads fun _ s => s.counterWords (ciphCtr 0) 12

def execCiphCounters (c : Cmd) (s : State) : Ans := serve ciphCountersOp c s

/-! ### Ingress (R296 to R300, R304) -/

/-- A frame's FCS holds: the CRC-32 of IEEE 802.3 over what stands before its last four bytes (notes/assumptions/18). -/
def fcsOk (bs : List Byte) : Bool := leNat (bs.drop (bs.length - 4)) == crc32 (bs.take (bs.length - 4))

/-- A segment of a STREAM thread holds so many client bytes (R304). -/
def State.segmentRoom (s : State) (x : TxFlow) : Nat := s.sizeNow 1 x.thread * 800 - (if x.ciph then 24 else 0)

/-- Stream bytes arrive: those beyond one segment's worth are lost and counted as stream overruns (R304). -/
def State.takeStream (i : Nat) (bs : List Byte) (s : State) : State :=
  match s.txFlow (s.fi i).defaultFlow with
  | none => s.ingressDrop i 1
  | some x =>
    let all := (s.fi i).stream ++ bs
    let room := s.segmentRoom x
    (s.updFi i fun y => { y with stream := all.take room }).bump (flowCtr 11) (8 * (all.length - room))

/-- An ESMC PDU: a slow-protocol frame with subtype 0x0A (spec/13 R373). -/
def esmcFrame (bs : List Byte) : Bool := bs[12]? == some 0x88 && bs[13]? == some 0x09 && bs[14]? == some 0x0A

/-- CLIENT_FRAME_ARRIVE: a frame, or bytes of a stream, from client interface `i` (R296 to R298). An ESMC PDU that TIMING
takes from the interface does not come here (spec/13 R373). -/
def execClientFrameArrive (i : Fin 256) (bytes : List Byte) (s : State) : Ans :=
  let n := i.val
  let up := match s.laneIface n with | some x => x.up | none => false
  let used := ((s.fi n).ingress.map fun f => f.bytes.length).sum
  happen (s.live && up && !(!s.streams n && esmcFrame bytes && !(s.esmcOf n).isEmpty)) s
    (if s.streams n then s.takeStream n bytes
     else if bytes.length < 64 ∨ 16000 < bytes.length then s.ingressDrop n 2
     else if !fcsOk bytes then s.ingressDrop n 2
     else match s.classify n bytes with
       | none => s.ingressDrop n 1
       | some f =>
         if 65536 < used + bytes.length then s.ingressDrop n 3
         else
           let fr : List InFrame := (s.fi n).ingress ++ [⟨f, bytes⟩]
           let waits := s.flow.shortTx && (match s.txFlow f with | some x => x.ciph | none => false)
           let t := runIngress n fr s
           if waits && !(t.fi n).ingress.isEmpty then t.bump (ciphCtr 11) 1 else t)

/-- RECORD_FILL: a record that is missed is filled from FLOW_CONTEXT; `bad` names stacks whose cell fails its CRC (R299, R300,
R309). A record never written is an undefined flow's. -/
def execRecordFill (f : Nat) (bad : List Nat) (s : State) : Ans :=
  if 1048576 ≤ f then .fault .noSuchUnit
  else
    let r := (s.bump (flowCtr 8) 1).readStripe 3 (s.recordAt 3 f).1 bad
    let s1 := if r.1.mark = 0 then r.2 else r.2.loseRecord f
    happen (s.live && !s.cached f) s ((s1.useRecord f).runAll).resolveAll

/-! ### The cipher pool and the queues (R306 to R310, R316, R317) -/

/-- CIPHER_MESSAGE_DONE: a CIPH engine completes transmit message `n` of those dealt; it is packed in its flow's order. -/
def execCipherMessageDone (n : Nat) (s : State) : Ans :=
  match s.flow.txMsgs[n]? with
  | none => .next s
  | some m =>
    let s1 := (s.withFlow { s.flow with txMsgs := s.flow.txMsgs.set n { m with done := true } }).bump (ciphCtr 0) 1
    happen (s.live && !m.done) s (s1.packDone).runAll

/-- Idle headers to the end of a stripe (R306); the last is cut where it does not fit. -/
def idlePad (n : Nat) : List Byte := ((List.replicate (n / 8 + 1) idleHeader).flatten).take n

/-- A flow's open tail is closed with padding, and its thread pays for it (R307). -/
def State.closeTail (f : Nat) (x : TxFlow) (g : Seg) (s : State) : State :=
  let pad := 768 - g.data.length
  let s1 := s.setTxFlow f { x with
    flush := false,
    segs := updSeg (·.st == .open_) (fun g => { g with st := .closed, data := g.data ++ idlePad pad }) x.segs }
  (s1.settleCredits.updTxThread x.thread fun t => { t with credit := t.credit - pad * creditByte }).bump (flowCtr 6) pad

/-- The first closed stripe of a flow goes to QUEUE (R277, R308). -/
def State.issue (f : Nat) (s : State) : State :=
  match s.txFlow f with
  | none => s
  | some x =>
    match x.segs.find? (·.st == .closed) with
    | none => s
    | some g =>
      let r := s.unitIn 2 ⟨0, 0, f, g.data⟩
      let put (st : SegSt) : State := match r.2.txFlow f with
        | none => r.2
        | some y => r.2.setTxFlow f { y with segs := updSeg (·.st == .closed) (fun g => { g with st := st, data := [] }) y.segs }
      match r.1 with
      | .stripe n => put (.written n)
      | .held => put .issued
      | .dropped => r.2.dropSeg f .closed

/-- The open tail of a flow. -/
def TxFlow.tail (x : TxFlow) : Option Seg := x.segs.find? (·.st == .open_)

/-- The padding that closing a flow's tail writes is within its thread's credit (R307). -/
def State.affords (s : State) (x : TxFlow) (g : Seg) : Bool :=
  decide ((768 - g.data.length) * creditByte ≤ (s.settleCredits.txThread x.thread).credit)

/-- The tail that an eviction takes: the least recently packed whose thread holds credit, none of whose flows waits for a
flush (R307, Table 10-13). -/
def State.victim (s : State) : Option Nat :=
  let ok (e : Nat × TxFlow) : Bool := match e.2.tail with
    | some g => s.affords e.2 g && !(s.flow.tx.any fun y => match y.2 with
        | some z => z.thread == e.2.thread && z.flush
        | none => false)
    | none => false
  (leastBy (fun e : Nat × TxFlow => match e.2.tail with | some g => g.stamp | none => 0)
    ((s.flow.tx.filterMap fun e => e.2.map fun x => (e.1, x)).filter ok)).map (·.1)

/-- TAIL_WRITE: a tail of flow `f` is written to QUEUE because it is full (`why` 0), flushed (1) or evicted (2). -/
def execTailWrite (f : Nat) (why : Fin 3) (s : State) : Ans :=
  match s.txFlow f with
  | none => .next s
  | some x =>
    match why.val, x.tail with
    | 0, _ => happen (s.live && x.segs.any (·.st == .closed)) s ((s.issue f).packDone).runAll
    | 1, some g =>
      happen (s.live && x.flush && !(x.segs.any (·.st == .closed)) && s.affords x g) s
        (((((s.closeTail f x g).bump (flowCtr 5) 1).issue f).packDone).runAll)
    | 2, some g =>
      happen (s.live && s.tailBlocked && s.tailRegion.isNone && s.victim == some f && !(x.segs.any (·.st == .closed))) s
        (((((s.closeTail f x g).bump (flowCtr 7) 1).issue f).packDone).runAll)
    | _, _ => .next s

/-- Stripes at the places of a parcel, read for the scheduler: what was read before an uncorrectable one, and whether one
was. -/
def readParcel (bad : List (Nat × List Nat)) (f : Nat) (from_ to_ : Nat) : List (Nat × Seg) → State → List Byte × Bool × State
  | [], s => ([], true, s)
  | (at_, g) :: r, s =>
    let cut (d : List Byte) : List Byte := (d.take (min 768 (to_ - at_))).drop (from_ - at_)
    let buffered := match s.txFlow f with | some x => x.buf.bind (fun b => if b.1 = at_ then some b.2 else none) | none => none
    match buffered, g.st with
    | some d, _ => let z := readParcel bad f from_ to_ r s; (cut d ++ z.1, z.2)
    | none, .written n =>
      let j := s.readStripe 2 n (match bad.find? (fun b => b.1 == n) with | some b => b.2 | none => [])
      if j.1.mark = 2 then ([], false, j.2)
      else
        let s1 := match j.2.txFlow f with
          | some x => j.2.setTxFlow f { x with buf := some (at_, j.1.data) }
          | none => j.2
        let z := readParcel bad f from_ to_ r s1
        (cut j.1.data ++ z.1, z.2)
    | none, _ => ([], true, s)

/-- The stripes that hold a parcel's bytes, with their places. -/
def TxFlow.stripesOf (x : TxFlow) (p : Parcel) : List (Nat × Seg) :=
  ((List.range x.segs.length).map fun k => (x.base + 768 * k, x.segs.getD k ⟨.gone, [], 0, 0⟩)).filter fun e => p.touches e.1

/-- The counted length of a frame (R310). -/
def counted (frame : Nat) (adj : Int) : Nat := max 1 ((frame : Int) + adj).toNat

/-- The scheduler sends the next parcel of the flow at the head of a thread's list (R309, R310). -/
def State.sendParcel (t f : Nat) (x : TxFlow) (p : Parcel) (bad : List (Nat × List Nat)) (s : State) : State :=
  let r := readParcel bad f p.pos (p.pos + p.len) (x.stripesOf p) s
  if !r.2.1 then ((r.2.2.dropQueue f).emit (.thread t (r.1 ++ (if r.1.isEmpty then [] else idleHeader))))
  else
    let s1 := r.2.2
    match s1.txFlow f with
    | none => s1
    | some y =>
      let z := { y with parcels := y.parcels.drop 1, deficit := y.deficit - counted p.frame (s.txThread t).lenAdj }
      let s2 := (((s1.setTxFlow f z).bump (oneFlowCtr 1 f 3) 1).emit (.thread t r.1)).trim f
      if z.parcels.isEmpty then s2.idle f else s2

/-- A STREAM thread's next segment of 256 ticks from tick `tick` on: the client's bytes, the rest open, sealed for a ciphered
flow (R304). -/
def State.sendSegment (t tick : Nat) (s : State) : State :=
  match s.flow.tx.find? (fun e => match e.2 with | some f => f.thread == t | none => false) with
  | some (f, some x) =>
    let src := s.flow.ifaces.find? fun e => e.2.classMode == 0 && e.2.defaultFlow == f && s.streams e.1
    let have_ := match src with | some e => e.2.stream | none => []
    let n := s.segmentRoom x
    let bs := (have_ ++ (List.range (n - have_.length)).map fun k => BitVec.ofNat 8 (Config.freeValue (s.free + k))).take n
    let s1 := s.withFree (s.free + (n - have_.length))
    let s2 := match src with | some e => s1.updFi e.1 fun y => { y with stream := y.stream.drop n } | none => s1
    if !x.ciph then s2.emit (.thread t bs)
    else match s2.takeKey x.ctx with
      | (some k, s3) =>
        let m := sealed k (segmentAad f tick) bs
        (s3.bump (ciphCtr 0) 1).emit (.thread t ((m.drop 8).take n ++ m.take 8 ++ m.drop (8 + n)))
      | (none, s3) => s3.txDropped f 1
  | _ => s

/-- THREAD_BYTES_NEEDED: transmit thread `t` needs bytes, and its scheduler takes one step of R310; `bad` names, by stripe,
stacks whose cell fails its CRC. -/
def execThreadBytesNeeded (t tick : Nat) (bad : List (Nat × List Nat)) (s : State) : Ans :=
  let th := s.txThread t
  let back (f : Nat) (s : State) : State := s.updTxThread t fun r => { r with active := r.active.drop 1 ++ [f] }
  let run : State :=
    if th.stream then (if tick % 256 = 0 then s.sendSegment t tick else s)
    else if s.sizeNow 1 t = 0 then s
    else match th.active with
      | [] => s.emit (.thread t idleHeader)
      | f :: _ => match s.txFlow f with
        | none => s.updTxThread t fun r => { r with active := r.active.drop 1 }
        | some x => match x.parcels with
          | [] => s.idle f
          | p :: _ =>
            let segs := x.stripesOf p
            let ready := segs.all fun e => match e.2.st with | .written _ => true | _ => false
            if !ready then back f (s.setTxFlow f { x with flush := x.flush || segs.any fun e => e.2.st == .open_ })
            else if x.deficit < counted p.frame th.lenAdj then
              back f (s.setTxFlow f { x with deficit := x.deficit + s.quantumNow x })
            else s.sendParcel t f x p bad
  happen (s.live && (s.thread 1 t).isSome) s (run.runAll)

/-- KEY_ROLLOVER: port `p` starts sending the multiframe that a context's rollover names; the next key becomes current (R316,
R324). -/
def execKeyRollover (p : Port) (s : State) : Ans :=
  let due := s.flow.txCtx.filter fun e => match e.2.roll with | some r => r.1 == p && (s.lp p).mfReached r.2 | none => false
  happen (s.live && !due.isEmpty) s (due.foldl (fun s e =>
    let id := match e.2.next with | some k => k.id | none => 0
    ((s.setTxCtx e.1 { cur := e.2.next }).bump (ciphCtr 6) 1).raise 0x0702 0 ciphHa (id * 2 ^ 20 + e.1)) s)

/-! ### The receive side (R303, R311, R313) -/

/-- The fields of a parcel header (Table 10-3). -/
def hdrField (h : BitVec 64) (hi lo : Nat) : Nat := h.toNat / 2 ^ lo % 2 ^ (hi + 1 - lo)

/-- A header is taken: its HCS is correct and its LENGTH is 0 or from 64 to 16,000 (R303). -/
def hdrOk (h : BitVec 64) : Bool :=
  let len := hdrField h 63 50
  crc16 ((beBytes 8 h.toNat).take 6) == hdrField h 15 0 && (len == 0 || decide (64 ≤ len ∧ len ≤ 16000))

/-- Bytes of the parcel that a header begins (R302). -/
def parcelLen (h : BitVec 64) : Nat :=
  let len := hdrField h 63 50
  if len = 0 then 8 else len + 8 + (if hdrField h 29 29 = 1 then 24 else 0)

/-- A parcel received in SYNC is judged for its flow (R311). -/
def State.takeParcel (t : Nat) (h : BitVec 64) (body : List Byte) (s : State) : State :=
  if hdrField h 63 50 = 0 then s
  else
    let n := parcelLen h - 8
    s.takeRx ⟨t, hdrField h 49 30, none, beBytes 8 h.toNat, if hdrField h 29 29 = 1 then hdrField h 28 21 else 256,
      (body ++ List.replicate n 0).take n, .record⟩

/-- RX_PARCEL: the eight bytes at place `pos` of receive thread `t` are judged as a header, and what follows them is `body`
(R303, R311). -/
def execRxParcel (t pos : Nat) (hdr : BitVec 64) (body : List Byte) (s : State) : Ans :=
  let r := s.rxThread t
  let ok := hdrOk hdr
  let next := pos + parcelLen hdr
  let run : State := match r.sync with
    | some at_ =>
      if at_ ≠ pos then s
      else if ok then (s.updRxThread t fun r => { r with sync := some next }).takeParcel t hdr body
      else (s.hunt t).bump (flowCtr 11) 1
    | none =>
      if !ok then s.updRxThread t fun r => { r with cands := r.cands.filter (· != pos) }
      else if r.cands.contains pos then
        (evDelin t false (s.updRxThread t fun r => { r with sync := some next, cands := [] })).takeParcel t hdr body
      else s.updRxThread t fun r => { r with cands := r.cands ++ [next] }
  happen (s.live && s.threadServes t && !r.stream) s run

/-- CIPH_AUTH, at most once a second: causes 1 tag, 2 replay, 3 unknown key ID (Table 10-12). -/
def evAuth (cause ctx : Nat) (s : State) : State := s.raiseAtMost 1 0x070100 0x0701 2 ciphHa (cause * 2 ^ 28 + ctx)

/-- A message fails authentication: nothing is delivered, a STREAM thread sends its replacement (R305, R313). -/
def State.authFail (n cause ctx : Nat) (m : RxMsg) (s : State) : State :=
  let s1 := s.withFlow { s.flow with rxMsgs := s.flow.rxMsgs.set n { m with state := .nothing } }
  let s2 := if m.segment.isSome then s1.updRxThread m.thread fun r => { r with replacing := true } else s1
  evAuth cause ctx ((s2.bump (ciphCtr (if cause = 1 then 2 else if cause = 2 then 3 else 4)) 1).bump (oneFlowCtr 0 m.flow 2) 1)

/-- A counter is within the replay window of a key and was not accepted yet (R313). -/
def RxKey.fresh (k : RxKey) (c : Nat) : Bool :=
  decide (k.highest < c) || (decide (k.highest < c + 64) && (k.bitmap >>> (k.highest - c)) % 2 == 0)

/-- The replay window after a counter is accepted: bit j stands for highest − j. -/
def RxKey.accept (k : RxKey) (c used : Nat) : RxKey :=
  if k.highest < c then { k with highest := c, bitmap := (k.bitmap <<< (c - k.highest) + 1) % 2 ^ 64, used := used }
  else { k with bitmap := k.bitmap ||| 2 ^ (k.highest - c), used := used }

/-- A number from bytes, most significant first. -/
def beNat (bs : List Byte) : Nat := leNat bs.reverse

/-- What a message opens to under a key, and its counter (R312). -/
def RxMsg.open_ (m : RxMsg) (k : RxKey) : Option (List Byte) :=
  Config.gcmOpen k.key (gcmIv k.salt (beNat (m.body.take 8))) m.header (m.body.drop 8)

/-- CIPHER_DECRYPT: a CIPH engine finishes received message `n` of those in hand (R313). A segment names no key: the loaded
key under which its tag holds is taken, slot 0 before slot 1. -/
def execCipherDecrypt (n : Nat) (s : State) : Ans :=
  match s.flow.rxMsgs[n]? with
  | none => .next s
  | some m =>
    let ctx := match s.rxFlow m.flow with | some f => f.ctx | none => 0
    let x := if (s.rxFlow m.flow).isSome then s.rxCtx ctx else {}
    let holds (k : Option RxKey) : Bool := match k with
      | some k => if m.keyId = 257 then (m.open_ k).isSome else k.id == m.keyId
      | none => false
    let slot : Option (Bool × RxKey) :=
      if holds x.a then x.a.map fun k => (false, k) else if holds x.b then x.b.map fun k => (true, k) else none
    let t : State := match slot with
      | none => s.authFail n (if m.keyId = 257 ∧ (x.a.isSome ∨ x.b.isSome) then 1 else 3) ctx m
      | some (b, k) => match m.open_ k with
        | none => s.authFail n 1 ctx m
        | some plain =>
          let c := beNat (m.body.take 8)
          if !k.fresh c then s.authFail n 2 ctx m
          else
            let s1 := s.nextOrder
            let k1 := k.accept c s1.flow.order
            let s2 := (s1.setRxCtx ctx (if b then { x with b := some k1 } else { x with a := some k1 })).bump (ciphCtr 1) 1
            let s3 := s2.withFlow { s2.flow with rxMsgs := s2.flow.rxMsgs.set n { m with state := .frame plain } }
            if m.segment.isSome then s3.updRxThread m.thread fun r => { r with replacing := false } else s3
    happen (s.live && (match m.state with | .cipher _ => true | _ => false)) s t.resolveAll

/-- The first message of each thread, with its number, that has something to deliver or nothing; in threads' order. -/
def heads : List Nat → Nat → List RxMsg → List (Nat × RxMsg)
  | _, _, [] => []
  | seen, n, m :: r => (if seen.contains m.thread then [] else [(n, m)]) ++ heads (m.thread :: seen) (n + 1) r

/-- A bit in the units of `FlowIface.level`, and an egress buffer of 256 KiB. -/
def egressBit : Nat := 65536000000000
def egressMax : Nat := 8 * 262144 * egressBit

/-- EGRESS_DELIVER: interface `i` takes the next frame of the threads that deliver to it, one frame of each in turn; a frame
that finds the egress buffer full is discarded and counted (R311). -/
def execEgressDeliver (i : Fin 256) (s : State) : Ans :=
  let mine := (heads [] 0 s.flow.rxMsgs).filter fun e =>
    (s.rxThread e.2.thread).egress == some i.val && (match e.2.state with | .frame _ => true | .nothing => true | _ => false)
  let last := (s.fi i.val).lastThread
  let turn := match leastBy (fun e : Nat × RxMsg => e.2.thread) (mine.filter fun e => decide (last < e.2.thread)) with
    | some e => some e
    | none => leastBy (fun e : Nat × RxMsg => e.2.thread) mine
  match turn with
  | none => .next s
  | some (n, m) =>
    let s1 := s.withFlow { s.flow with rxMsgs := s.flow.rxMsgs.eraseIdx n }
    match m.state with
    | .frame bs =>
      let level := s.egressLevel i.val
      let s2 := s1.updFi i.val fun x => { x with lastThread := m.thread }
      happen s.live s
        (if egressMax < level + 8 * bs.length * egressBit then (s2.egressDrop (some i.val)).bump (oneFlowCtr 0 m.flow 3) 1
         else
           ((((s2.updFi i.val fun x => { x with level := level + 8 * bs.length * egressBit, since := s.time }).bump (flowCtr 9) 1).bump
              (oneFlowCtr 0 m.flow 0) 1).bump (oneFlowCtr 0 m.flow 1) bs.length).emit (.client i.val m.flow bs))
    | _ => happen s.live s s1

end Sys2Proof.Machine
end

