-- ==== Sys2Proof/Machine/Rewind.lean ====
section
/-!
DEFINITION. Spans of a receive port, run-ahead, checkpoints and rewind (spec/04; spec/03 R76, R89, R91; spec/17 R466).
-/

set_option Elab.async false

namespace Sys2Proof.Machine

/-! ### Opcodes (R130) -/

/-- LINE_RW_CONFIG (Table 4-7, R131). -/
def lineRwConfigOp : OpDef where
  code := 0x0930
  lo := 1
  hi := 1
  targetOk := targetLine
  check := fun c s => firstRej [resv c 0 31 29, resv c 0 27 13, param ((c.p 0).fld 12 0 != 0) 0,
    stateErr (decide ((s.rxp c.port).st = .off) || (c.p 0).bit 28 == (s.rwp c.port).spec) 2]
  effect := fun c s =>
    if (s.rxp c.port).st = .off then (.ok [], s.commitRw c) else (.wait (.rwConfig c.port), s)

def execLineRwConfig (c : Cmd) (s : State) : Ans := serve lineRwConfigOp c s

/-- RECOMP_WINDOW: spans recomputed in the last 2^20 spans (R126). -/
def RwPort.recompCount (w : RwPort) : Nat := (w.recomp.map (·.2)).sum

/-- The run-ahead distance E − F (R109). -/
def RwPort.runAhead (w : RwPort) : Nat := w.track - 1 - w.fin

/-- The seven words of LINE_RW_STATUS (Table 4-9). -/
def rwStatus (p : Port) (s : State) : List Word :=
  let w := s.rwp p
  (if s.tracking p then
    [mkw [(31, 31, b2n w.replay.isSome), (30, 30, b2n w.catchUp), (29, 29, b2n w.spec), (8, 0, w.runAhead)],
     mkw [(24, 16, w.peak), (9, 0, sat 512 ((s.rxp p).next - 1 + 37 - w.fin))],
     mkw [(31, 16, sat 0xFFFF w.recompCount), (15, 0, sat 0xFFFF w.backlog)]]
   else [0, 0, 0]) ++ words64 (w.fin - 1) ++ words64 (w.track - 1)

/-- LINE_RW_STATUS. -/
def lineRwStatusOp : OpDef where
  code := 0x0931
  lo := 0
  hi := 0
  targetOk := targetLine
  effect := reads fun c s => rwStatus c.port s

def execLineRwStatus (c : Cmd) (s : State) : Ans := serve lineRwStatusOp c s

/-- LINE_RW_COUNTERS (R133). -/
def lineRwCountersOp : OpDef where
  code := 0x0932
  lo := 0
  hi := 0
  targetOk := targetLine
  effect := reads fun c s => s.counterWords (rwCtr c.port 0) 12

def execLineRwCounters (c : Cmd) (s : State) : Ans := serve lineRwCountersOp c s

/-- LINE_RW_INJECT (Table 4-8, R132). -/
def lineRwInjectOp : OpDef where
  code := 0x0933
  lo := 1
  hi := 1
  targetOk := targetLine
  check := fun c s =>
    let k := (c.p 0).fld 31 30; let pos := (c.p 0).fld 21 16
    firstRej [param (k != 3) 0, resv c 0 29 22, param (if k = 0 then pos == 0 else decide (4 ≤ pos ∧ pos ≤ 0x15)) 0,
      resv c 0 15 0, stateErr (s.tracking c.port) 7, busy (s.rwp c.port).inject.isNone 8]
  effect := sets fun c s =>
    s.setRw c.port { s.rwp c.port with inject := some ((c.p 0).fld 31 30, (c.p 0).fld 21 16) }

def execLineRwInject (c : Cmd) (s : State) : Ans := serve lineRwInjectOp c s

/-! ### The recompute budget (R126, R127) -/

/-- Entries of the last 2^20 spans. -/
def recentRecomp (newest : Nat) (l : List (Nat × Nat)) : List (Nat × Nat) := l.filter fun e => decide (newest < e.1 + 2 ^ 20)

/-- `n` spans are recomputed: counter 6, squashed slots, RECOMP_WINDOW; LINE_RW_RATE as the count rises above 1,048. -/
def State.addRecomputed (p : Port) (n : Nat) (s : State) : State :=
  if n = 0 then s
  else
    let w := s.rwp p
    let now := (s.rxp p).next
    let w1 := { w with recomp := recentRecomp now w.recomp ++ [(now, n)] }
    let s1 := ((s.bump (rwCtr p 5) n).slot (0x12 + p.val) 1 n).setRw p { w1 with rateHigh := decide (1048 < w1.recompCount) }
    if 1048 < w1.recompCount ∧ w.rateHigh = false then s1.raise 0x0930 2 (portHa p) (sat 0xFFFF w1.recompCount) else s1

/-- RW_RATE_REPEAT: a second after the last LINE_RW_RATE the count still stays above 1,048 (R127). -/
def execRwRateRepeat (p : Port) (s : State) : Ans :=
  let w := s.rwp p
  happen (s.live && s.tracking p && w.rateHigh && decide (1048 < w.recompCount)) s
    (s.raise 0x0930 2 (portHa p) (sat 0xFFFF w.recompCount))

/-! ### Rollback (R117, R118, R120, R123) -/

/-- A late contradiction: the check is waived (R120); LINE_RW_LATE at most once a second (Table 4-10). -/
def State.lateContradiction (p : Port) (s : State) : State :=
  (s.bump (rwCtr p 8) 1).raiseLimited (0x093100 + p.val) second 0x0931 1 (portHa p) (sat 0xFFFF)

/-- A rollback that cannot be replayed (R120): a contradiction is waived, any other cause erases the span. -/
def State.unreplayable (p : Port) (contradiction : Bool) (target eraseCause : Nat) (s : State) : State :=
  if contradiction then s.lateContradiction p else s.eraseSpan p target eraseCause

/-- The checkpoint a rollback to `target` restores: the newest at or before it that reads clean and whose replay is
possible (R111, R123); `newest` is N. -/
def cleanCheckpoint (newest target : Nat) (bad : List Nat) : Option Nat :=
  ((List.range 476).map fun k => target - k).find? fun k => !bad.contains k && decide (newest ≤ k + 475)

/-- Squash the pool work of every span from `start` on but completed decodes that passed (R117, R177); returns how many
decodes were squashed. -/
def State.squash (p : Port) (start : Nat) (s : State) : State :=
  let w := s.rwp p
  let stands (k : Nat) : Bool := match w.find k with | some r => r.decided == some true | none => false
  let gone := s.fec.running.filter fun d => d.port == p && decide (start ≤ d.span)
  let wrong := w.spans.filter fun r => decide (start ≤ r.idx) && r.decided == some false && !r.erased
  let redo (r : SpanRec) : SpanRec :=
    if start ≤ r.idx ∧ r.erased = false then
      (if r.decided = some true then { r with consumer := if r.checked then r.consumer else none }
       else { r with provisional := false, consumer := none, decided := none, checked := false, handed := false })
    else match r.consumer with
      | some c => if start ≤ c ∧ r.checked = false then { r with consumer := none } else r
      | none => r
  let n := gone.length + wrong.length
  let s1 := s.setRw p { w with spans := w.spans.map redo }
  let s2 := gone.foldl (fun s d => (s.bump (fecRegionCtr d.region 2) 1).slot d.region 1 1) (gone.foldl (fun s d => s.freeSlot d) s1)
  let s3 := s2.withFec { s2.fec with
    running := s2.fec.running.filter fun d => !(d.port == p && decide (start ≤ d.span)),
    held := s2.fec.held.filter fun h => !(h.port == p && decide (start ≤ h.span) && !stands h.span && !h.erased) }
  (s3.bump (rwCtr p 6) n).bump (fecCtr p 7) n

/-- Replay from `start` to E (R117): open tags from there on count a replay (R508). -/
def State.beginReplay (p : Port) (start : Nat) (s : State) : State :=
  let w := s.rwp p
  let left := match w.replay with | some r => r.stop + 1 - r.front | none => 0
  let stop := w.track - 1
  let s1 := s.squash p start
  let s2 := s1.setRw p { s1.rwp p with replay := some ⟨start, stop, start⟩, catchUp := false, backlog := stop + 1 - start }
  let mark (r : TagRec) : TagRec :=
    if r.port = p.val ∧ r.dir = 0 ∧ start ≤ r.span then { r with replays := r.replays + 1 } else r
  (s2.withTally { s2.tally with openTags := s2.tally.openTags.map mark }).addRecomputed p (stop + 1 - start - left)

/-- A rollback is triggered (R117): counted under its cause (0 contradiction, 1 slip, 2 residue, 3 parity, none for a
stall); merged into an older replay, or made, or handled under R120. -/
def State.rollback (p : Port) (cause : Option Nat) (target : Nat) (bad : List Nat) (badSample : Bool) (s : State) : State :=
  let w := s.rwp p
  let newest := (s.rxp p).next - 1
  let s1 := match cause with | some k => s.bump (rwCtr p k) 1 | none => s
  let con := cause == some 0
  let merged := match w.replay with | some r => decide (r.start ≤ target) | none => false
  if merged then s1.bump (rwCtr p 4) 1
  else if badSample then s1.unreplayable p con target 3
  else if target + 475 < newest then s1.unreplayable p con target 2
  else match cleanCheckpoint newest target bad with
    | none => s1.unreplayable p con target 2
    | some k => (if k = target then s1 else s1.bump (rwCtr p 11) 1).beginReplay p k

/-! ### Spans form, are tracked, decided and released -/

/-- Samples per converter in the first `n` spans (R34). -/
def samplesUpTo (n : Nat) : Nat := 4587 * n + 13 * (n / 25) + min 13 (n % 25)

/-- Clipped samples of a converter over the spans listed. -/
def clipSum (l : List (Nat × List Nat)) (conv : Nat) : Nat := (l.map fun e => e.2.getD conv 0).sum

/-- LINE_RX_CLIP for each converter whose clipped samples exceed 2^−10 of its samples over the last 65,536 spans, at most
once a second each (R76). -/
def State.checkClips (p : Port) (k : Nat) (s : State) : State :=
  (List.range 4).foldl (fun s conv =>
    if samplesUpTo (k + 1) - samplesUpTo (k + 1 - 65536) < 1024 * clipSum (s.rxp p).clips conv then
      s.raiseLimited (0x090500 + 4 * p.val + conv) second 0x0905 2 (portHa p) fun _ => conv
    else s) s

/-- RX_SPAN_FORMED: a receive span forms, with the RMS and the clipped samples of each converter (R34, R35, R76, R91,
R105, R110, R131, R184, R507). -/
def execRxSpanFormed (p : Port) (rms clipped : List Nat) (s : State) : Ans :=
  let r := s.rxp p
  let k := r.next
  let tr := s.tracking p
  let clips := (r.clips.filter fun e => decide (k < e.1 + 65536)) ++ (if clipped.all (· == 0) then [] else [(k, clipped)])
  let s1 := (s.setRx p { r with next := k + 1, rms := (rms ++ [0, 0, 0, 0]).take 4, clips := clips }).bump (rxCtr p 0) 1
  let s2 := (List.range 4).foldl (fun s j => s.bump (rxCtr p (3 + j)) (clipped.getD j 0)) s1
  let w := s2.rwp p
  let recomp := recentRecomp (k + 1) w.recomp
  let w1 := { w with spans := w.spans ++ [{ idx := k }], recomp := recomp,
                     rateHigh := w.rateHigh && decide (1048 < (recomp.map (·.2)).sum) }
  let s3 := if tr then s2.setRw p w1 else (s2.bump (rxCtr p 2) 1).slot (0x12 + p.val) 1 1
  happen (s.live && decide (r.st ≠ .off)) s
    ((((s3.tagForm p 0 k tr).tagExit p 0 k 0).tagEnter p 0 k 1).checkClips p k |>.commitBoundary p)

/-- Provisional decisions are consumed by span `e`: every earlier span whose best decisions are provisional and not yet
consumed, while E − F is at most 448 and SPEC is set (R109, R113). -/
def RwPort.consume (w : RwPort) (e : Nat) : RwPort :=
  let use (r : SpanRec) : SpanRec :=
    if r.idx < e ∧ r.provisional = true ∧ r.checked = false ∧ r.consumer = none then { r with consumer := some e } else r
  if w.spec && decide (e - w.fin ≤ 448) then { w with spans := w.spans.map use } else w

/-- An injected residue or parity failure strikes the span being processed at its position (R132): before the equaliser it
is recomputed in place (R115), else it is a rollback. -/
def State.strikeInjection (p : Port) (k : Nat) (s : State) : State :=
  let w := s.rwp p
  match w.inject with
  | some (kind, pos) =>
    if kind = 0 then s
    else
      let s1 := s.setRw p { w with inject := none }
      if pos < 0x0C then s1.addRecomputed p 1 else s1.rollback p (some (kind + 1)) k [] false
  | none => s

/-- SPAN_HANDOFF: tracking reaches the next span (of a replay, or the newest untracked) and hands its LLRs to the pool; a
first-pass decode that passed stands and is not dealt again (R89, R113, R118, R168). -/
def execSpanHandoff (p : Port) (est : RxEst) (s : State) : Ans :=
  let w := s.rwp p
  let k := match w.replay with | some r => r.front | none => w.track
  let ok := match w.replay with | some r => decide (r.front ≤ r.stop) | none => decide (w.track < (s.rxp p).next)
  let rec_ := w.find k
  let stands := match rec_ with | some r => r.decided == some true || r.erased | none => true
  let w1 := match w.replay with
    | some r => { w with replay := some { r with front := r.front + 1 } }
    | none => { w with track := w.track + 1 }
  let w2 := (w1.consume k).updSpan k fun r => { r with handed := true }
  let s1 := (s.setRw p { w2 with peak := max w2.peak w2.runAhead }).updRx p fun r => { r with est := est }
  let h : HeldSpan := { port := p, span := k, again := w.replay.isSome }
  let s2 := if stands then s1 else (s1.withFec { s1.fec with held := s1.fec.held ++ [h] }).bump (rxCtr p 1) 1
  happen (s.live && s.tracking p && ok) s
    (((s2.tagExit p 0 k 1).makeReady p (k - 1) false).strikeInjection p k)

/-- PROVISIONAL_ARRIVE: a span's provisional decisions arrive from the pool (R113). -/
def execProvisionalArrive (p : Port) (span : Nat) (s : State) : Ans :=
  let w := s.rwp p
  happen (s.live && s.tracking p && (match w.find span with | some r => r.handed && r.decided.isNone | none => false)) s
    (s.setRw p (w.updSpan span fun r => { r with provisional := true }))

/-- FINAL_DECISIONS_ARRIVE: a span's final decisions arrive; `differing` symbols differ from the provisional ones. The
contradiction check is made where some span consumed them; a contradiction rolls tracking back to the first consumer
(R114, R115, R117, R131, R132). `bad` are checkpoints, `badSample` a sample word, that read uncorrectable (R123). -/
def execFinalDecisionsArrive (p : Port) (span differing pilotErrors : Nat) (bad : List Nat) (badSample : Bool) (s : State) : Ans :=
  let w := s.rwp p
  match w.find span with
  | none => .next s
  | some r =>
    let injected := match w.inject with | some (0, _) => true | _ => false
    let w1 := w.updSpan span fun r => { r with checked := true }
    let s1 := (s.setRw p w1).bump (rxCtr p 11) pilotErrors
    happen (s.live && s.tracking p && r.decided.isSome && !r.checked) s
      (match r.consumer with
       | none => s1
       | some c =>
         if r.erased then s1
         else if injected then (s1.setRw p { w1 with inject := none }).rollback p (some 0) c bad badSample
         else if w.contra < differing then s1.rollback p (some 0) c bad badSample
         else s1)

/-- CYCLE_SLIP: the confirming pilot group lies in the span being tracked; the slip is rolled back to the span that first
showed it (R88, R115). -/
def execCycleSlip (p : Port) (first : Nat) (bad : List Nat) (badSample : Bool) (s : State) : Ans :=
  let w := s.rwp p
  happen (s.live && s.tracking p && decide (first < w.track)) s
    ((s.bump (rxCtr p 7) 1).rollback p (some 1) first bad badSample)

/-! ### Residue and parity failures (R115, R116, R124, R125) -/

/-- A failure is entered in a span's record. -/
def SpanRec.fail (b : Nat) (r : SpanRec) : SpanRec := { r with failures := failIn b r.failures }

/-- Failed recomputes of a span in all. -/
def SpanRec.failed (r : SpanRec) : Nat := (r.failures.map (·.2)).sum - 1

/-- A failure on the receive chain of a tracking port (R115, R125): beyond E in place; else a rollback; the block is
suspect at a span's second failed recompute there, the span erased at its fourth. -/
def State.lineFailure (p : Port) (cause : Option Nat) (b span : Nat) (bad : List Nat) (badSample : Bool) (s : State) : State :=
  let w := s.rwp p
  if w.track ≤ span then s.addRecomputed p 1
  else match w.find span with
    | none => s
    | some r =>
      let r1 := r.fail b
      let s1 := s.setRw p (w.updSpan span fun _ => r1)
      let s2 := if Tab.get 0 r1.failures b = 2 then s1.blockSuspect (0x12 + p.val) b 2 else s1
      if 4 ≤ r1.failed then s2.eraseSpan p span 1 else s2.rollback p cause span bad badSample

/-- A residue or parity failure at a cell in a span or unit of work: on the receive chain under R115, on the transmit
chain under R152, elsewhere computed again from the kept input (R124), a squashed slot of the region; it counts under R17. -/
def State.datapathFailure (cause : Option Nat) (ha span : Nat) (bad : List Nat) (badSample : Bool) (s : State) : State :=
  let r := haRegion ha
  let b := haBlock ha
  let pos := (s.block r b).serves
  let p : Port := if r = 0x13 then 1 else 0
  if 0x12 ≤ r ∧ r ≤ 0x13 ∧ pos ≤ 0x15 then
    if s.tracking p then s.lineFailure p cause b span bad badSample else s
  else if 0x12 ≤ r ∧ r ≤ 0x13 ∧ 0x18 ≤ pos ∧ pos ≤ 0x27 then
    if (s.txp p).st = .off then s else s.txFailure p b span
  else
    let s1 := s.slot r 1 1
    if isFec r then s1.bump (fecRegionCtr r 3) 1
    else if 0x07 ≤ r ∧ r ≤ 0x0B then s1.bump (ctr 7 0 12 0 5) 1 else s1

/-- RESIDUE_FAILURE: a cell's mod-3 residue check fails in a span or unit of work (R116). -/
def execResidueFailure (ha : BitVec 20) (span : Nat) (bad : List Nat) (badSample : Bool) (s : State) : Ans :=
  if targetCell s ha.toNat then
    happen s.live s (((s.datapathFailure (some 2) ha.toNat span bad badSample).cellFault ha.toNat span 1).afterFault)
  else .fault .noSuchUnit

/-- PARITY_FAILURE: a receiver's parity check fails on a handshake bus (R25, R115). -/
def execParityFailure (ha : BitVec 20) (span : Nat) (bad : List Nat) (badSample : Bool) (s : State) : Ans :=
  if targetCell s ha.toNat then
    happen s.live s (((s.datapathFailure (some 3) ha.toNat span bad badSample).cellFault ha.toNat span 1).afterFault)
  else .fault .noSuchUnit

/-- HANDSHAKE_STALL: a request saw neither acknowledge nor HOLD for 1 µs: the stalled cell is replaced and the unit of work
`span` is recomputed (R26, R466, R476). -/
def execHandshakeStall (requester stalled : BitVec 20) (span : Nat) (bad : List Nat) (badSample : Bool) (s : State) : Ans :=
  if targetCell s requester.toNat && targetCell s stalled.toNat then
    happen s.live s (((s.datapathFailure none stalled.toNat span bad badSample).stall requester.toNat stalled.toNat).afterFault)
  else .fault .noSuchUnit

/-! ### The end of a replay (R117, R121, R126) -/

/-- REPLAY_END: the replay has reached E; a backlog remains (R117). -/
def execReplayEnd (p : Port) (s : State) : Ans :=
  let w := s.rwp p
  happen (s.live && (match w.replay with | some r => decide (r.stop < r.front) | none => false)) s
    (s.setRw p { w with replay := none, catchUp := true })

/-- CATCHUP_END: the backlog of a replay is closed (R126). -/
def execCatchupEnd (p : Port) (s : State) : Ans :=
  let w := s.rwp p
  happen (s.live && w.catchUp) s (s.setRw p { w with catchUp := false, backlog := 0 })

/-- REPLAY_OVERRUN: the replay front falls more than 475 spans behind N; the replay is given up, every span from the front
to N − 37 is erased, and tracking restarts at N − 36 (R121). -/
def execReplayOverrun (p : Port) (s : State) : Ans :=
  let w := s.rwp p
  let newest := (s.rxp p).next - 1
  match w.replay with
  | none => .next s
  | some r =>
    let ks := (List.range (newest - 36 - r.front)).map (r.front + ·)
    let s1 := s.setRw p { w with replay := none, catchUp := false, backlog := 0, track := newest - 36 }
    let s2 := (s1.eraseSpans p ks).bump (rwCtr p 10) 1
    happen (s.live && s.tracking p && decide (r.front + 475 < newest)) s
      (s2.raise 0x0932 3 (portHa p) (sat 0xFFFF ks.length * 2 ^ 16 + r.front % 2 ^ 16))

/-- SPAN_FINAL: the oldest span that is not final becomes final and its payload is released to the LOOM once, in order;
the first takes the framer to SEARCH (R108, R223, R506, R509). -/
def execSpanFinal (p : Port) (s : State) : Ans :=
  let w := s.rwp p
  match w.find w.fin with
  | none => .next s
  | some r =>
    let free := match w.replay with | some y => decide (w.fin < y.start) | none => true
    let s1 := (s.setRw p { w with fin := w.fin + 1, spans := w.spans.filter fun x => x.idx != w.fin }).slot (0x12 + p.val) 0 1
    let s2 := ((s1.tagExit p 0 r.idx 4).tagEnter p 0 r.idx 5).tagExit p 0 r.idx 5
    let s3 := s2.tagClose p 0 r.idx r.erased false
    happen (s.live && s.tracking p && r.decided.isSome && (r.checked || r.erased) && free) s
      (if (s3.lp p).st = .off then s3.moveFramer p .search 0 else s3)

/-- ERASURE_SECOND_EXPIRY: a second has passed since the last span was erased or decode given up (R471). -/
def execErasureSecondExpiry (s : State) : Ans :=
  happen (s.live && s.hier.erasure) s (s.withHier { s.hier with erasure := false }).refreshHealth

end Sys2Proof.Machine
end

