-- ==== Sys2Proof/Machine/Store.lean ====
section
/-!
DEFINITION. Opcodes and happenings of the Storehouse (spec/09).
-/

set_option Elab.async false

namespace Sys2Proof.Machine

def targetStore (_ : State) (t : Nat) : Bool := t == 0x04FFF

/-- KIND of a parameter, 1 to 4 (Table 9-4). -/
def kindOf (c : Cmd) : Nat := (c.p 0).fld 31 28
def kindOk (c : Cmd) : Option Rej := param (decide (1 ≤ kindOf c ∧ kindOf c ≤ 4)) 0
def kindFixed (c : Cmd) : Bool := (fixedBays (kindOf c)).isSome

/-- Some flow is defined. -/
def State.anyFlow (s : State) : Bool := !s.flow.tx.isEmpty || !s.flow.rx.isEmpty

/-- The units that FLOW waited for in QUEUE are written. -/
def tellQueue (x : List (HeldUnit × Nat) × State) : State := x.1.foldl (fun s w => s.commitSeg w.1 w.2) x.2

/-- Bays given to a partition: the lowest free ones, with the counter's epoch, which advances (R267, R274). -/
def State.assignBays (kind n : Nat) (s : State) : State :=
  let free := ((List.range bayCount).filter fun b => (s.bay b).kind == 0).take n
  s.withStore { s.store with
    bays := free.foldl (fun t b => Tab.set {} t b ⟨kind, s.store.epochNext, false⟩) s.store.bays,
    epochNext := s.store.epochNext + 1 }

/-- STORE_PART_CREATE (Table 9-9, R288). -/
def storePartCreateOp : OpDef where
  code := 0x0401
  lo := 1
  hi := 1
  targetOk := targetStore
  check := fun c s =>
    let n := (c.p 0).fld 13 0
    firstRej [kindOk c, resv c 0 27 25, param (!kindFixed c || (c.p 0).fld 24 0 == 0) 0 0x19,
      param (kindFixed c || (c.p 0).fld 23 14 != 0) 0, param (kindFixed c || decide (1 ≤ n ∧ n ≤ 8192)) 0,
      stateErr (s.part (kindOf c)).isNone 0x15, busy (decide ((fixedBays (kindOf c)).getD n ≤ s.freeBays)) 0x17]
  effect := fun c s =>
    if 0xFFFFFFFF < s.store.epochNext then (.refused ⟨stRefused, 0xFFFF, 0x1C⟩, s)
    else
      let e := s.store.epochNext
      let p : Part := { discard := (c.p 0).bit 24, limit := (c.p 0).fld 23 14, epochLast := e }
      (.ok [w32 e], (s.assignBays (kindOf c) ((fixedBays (kindOf c)).getD ((c.p 0).fld 13 0))).setPart (kindOf c) p)

def execStorePartCreate (c : Cmd) (s : State) : Ans := serve storePartCreateOp c s

/-- Stripes that a partition's draining bays still hold live. -/
def State.drained (s : State) (kind : Nat) : Bool :=
  match s.part kind with
  | none => false
  | some p => !(p.live.any fun n => (s.bay (n / bayStripes)).draining && (s.bay (n / bayStripes)).kind == kind)

/-- Change every bay of a kind that a test accepts. -/
def State.mapBays (kind : Nat) (f : Bay → Bay) (s : State) : State :=
  s.withStore { s.store with bays := (s.baysOf kind).foldl (fun t b => Tab.upd {} t b f) s.store.bays }

/-- STORE_PART_RESIZE (R278, R287, R288). -/
def storePartResizeOp : OpDef where
  code := 0x0402
  queue := some 3
  lo := 1
  hi := 1
  long := true
  targetOk := targetStore
  check := fun c s =>
    let n := (c.p 0).fld 13 0
    let have_ := (s.baysOf (kindOf c)).length
    firstRej [kindOk c, resv c 0 27 25, param (!kindFixed c) 0 0x19, param ((c.p 0).fld 24 14 == 0) 0,
      param (decide (1 ≤ n ∧ n ≤ 8192)) 0, stateErr (s.part (kindOf c)).isSome 0x16,
      busy (match s.part (kindOf c) with | some p => p.shrink.isNone | none => true) 0x1A,
      busy (decide (n ≤ have_ + s.freeBays)) 0x17]
  effect := fun c s =>
    let k := kindOf c
    let n := (c.p 0).fld 13 0
    let have_ := s.baysOf k
    let job := s.clerk.nextJob
    let s1 := s.startJob 0x0402 c
    match s.part k with
    | none => (.accepted job, s1)
    | some p =>
      if have_.length < n then
        if 0xFFFFFFFF < s.store.epochNext then (.refused ⟨stRefused, 0xFFFF, 0x1C⟩, s)
        else
          let s2 := (s1.assignBays k (n - have_.length)).setPart k { p with epochLast := s.store.epochNext }
          (.accepted job, (tellQueue (s2.serveWriter k)).endJob job stOk [w32 n])
      else if n = have_.length then (.accepted job, s1.endJob job stOk [w32 n])
      else
        let s2 := (have_.drop n).foldl (fun s b => s.withStore { s.store with bays := Tab.upd {} s.store.bays b fun x => { x with draining := true } }) s1
        (.accepted job, (s2.setPart k { p with shrink := some job }).refreshFull k)

def execStorePartResize (c : Cmd) (s : State) : Ans := serve storePartResizeOp c s

/-- A running shrink is cancelled: its bays return to use, the job ends ABORTED (R278). -/
def State.cancelShrink (kind : Nat) (s : State) : State :=
  match s.part kind with
  | none => s
  | some p => match p.shrink with
    | none => s
    | some job =>
      let s1 := (s.mapBays kind fun x => { x with draining := false }).setPart kind { p with shrink := none }
      (tellQueue (s1.serveWriter kind)).endJob job stAborted [w32 (s.baysOf kind).length]

/-- STORE_PART_DELETE (R289). -/
def storePartDeleteOp : OpDef where
  code := 0x0403
  lo := 1
  hi := 1
  targetOk := targetStore
  check := fun c s =>
    let k := kindOf c
    let used := if k = 1 then !(s.bolts 0).isEmpty else if k = 4 then (s.crier.role == 2) else s.anyFlow
    firstRej [kindOk c, resv c 0 27 0, stateErr (s.part k).isSome 0x16, stateErr (!used) 0x18,
      busy (match s.part k with | some p => p.shrink.isNone | none => true) 0x1A]
  effect := sets fun c s =>
    let k := kindOf c
    let n := match s.part k with | some p => p.held.length | none => 0
    let s1 := (s.mapBays k fun _ => {}).bump (storeCtr 8) n
    s1.withStore { s1.store with parts := Tab.set none s1.store.parts k none }

def execStorePartDelete (c : Cmd) (s : State) : Ans := serve storePartDeleteOp c s

/-- STORE_PART_SET (Table 9-9, R288): a held writer keeps the settings it found. -/
def storePartSetOp : OpDef where
  code := 0x0404
  lo := 1
  hi := 1
  targetOk := targetStore
  check := fun c s =>
    firstRej [kindOk c, resv c 0 27 25, param (!kindFixed c || (c.p 0).fld 24 14 == 0) 0 0x19,
      param (kindFixed c || (c.p 0).fld 23 14 != 0) 0, stateErr (s.part (kindOf c)).isSome 0x16]
  effect := sets fun c s =>
    match s.part (kindOf c) with
    | none => s
    | some p => if kindFixed c then s else s.setPart (kindOf c) { p with discard := (c.p 0).bit 24, limit := (c.p 0).fld 23 14 }

def execStorePartSet (c : Cmd) (s : State) : Ans := serve storePartSetOp c s

/-- Live stripes; all stripes of a fixed kind (Table 9-12). -/
def State.usedStripes (s : State) (kind : Nat) (p : Part) : Nat :=
  if (fixedBays kind).isSome then (s.baysOf kind).length * bayStripes else p.live.length

/-- STORE_PART_STATUS (Table 9-12). HIGH_WATER starts anew at each. -/
def storePartStatusOp : OpDef where
  code := 0x0405
  lo := 1
  hi := 1
  targetOk := targetStore
  check := fun c _ => firstRej [kindOk c, resv c 0 27 0]
  effect := fun c s =>
    let k := kindOf c
    match s.part k with
    | none => (.ok [mkw [(31, 28, k)], 0, 0, 0, 0], s)
    | some p =>
      let fixed := (fixedBays k).isSome
      let used := s.usedStripes k p
      let bays := (s.baysOf k).length
      let drain := (s.store.bays.filter fun e => e.2.kind == k && e.2.draining).length
      (.ok [mkw [(31, 28, k), (27, 27, 1), (24, 24, b2n (p.discard && !fixed)), (23, 14, if fixed then 0 else p.limit), (13, 0, bays)],
            mkw [(31, 31, b2n (!fixed && s.freeStripes k == 0)), (30, 30, b2n p.shrink.isSome), (13, 0, drain)],
            w32 used, w32 (if fixed then used else p.highWater), w32 p.epochLast],
       s.setPart k { p with highWater := p.live.length })

def execStorePartStatus (c : Cmd) (s : State) : Ans := serve storePartStatusOp c s

/-- STORE_STATUS (Table 9-11). How far a rebuild has come is not stated before it ends: RESTORE_PROGRESS is a free value
while it runs. The ports that hold a request are those of held writers. -/
def storeStatusOp : OpDef where
  code := 0x0406
  lo := 0
  hi := 0
  targetOk := targetStore
  effect := fun _ s =>
    let st (k : Nat) : Nat := (s.stack k).st.code
    let rate := ((s.store.demand.filter fun e => decide (s.time < e.1 + milli)).map (·.2)).sum
    let rebuilding := match s.store.restore with | some r => r.phase == 2 | none => false
    let f := s.take
    let holds := ([1, 2].filter fun k => match s.part k with | some p => !p.held.isEmpty | none => false).length
    (.ok [mkw [(31, 28, st 0), (27, 24, st 1), (23, 20, st 2), (19, 16, st 3), (1, 0, s.protection)],
          mkw [(13, 0, s.freeBays)], mkw [(31, 16, rate / 1000), (15, 0, 5000)],
          mkw [(31, 24, holds), (16, 0, if rebuilding then f.1 % 65537 else 0)], w32 s.store.epochNext],
     if rebuilding then f.2 else s)

def execStoreStatus (c : Cmd) (s : State) : Ans := serve storeStatusOp c s

/-- STORE_COUNTERS (R292). -/
def storeCountersOp : OpDef where
  code := 0x0407
  lo := 0
  hi := 0
  targetOk := targetStore
  effect := reads fun _ s => s.counterWords (storeCtr 0) 12

def execStoreCounters (c : Cmd) (s : State) : Ans := serve storeCountersOp c s

/-- Every other stack is WORKING (R290). -/
def State.othersWork (s : State) (k : Nat) : Bool := (List.range 4).all fun j => j == k || (s.stack j).st == .working

/-- STORE_STACK_RETIRE (R270, R290). -/
def storeStackRetireOp : OpDef where
  code := 0x0408
  lo := 1
  hi := 1
  targetOk := targetStore
  check := fun c s =>
    let k := (c.p 0).fld 1 0
    firstRej [resv c 0 31 2, stateErr ((s.stack k).st == .working && s.othersWork k) 0x1B]
  effect := sets fun c s => s.loseStack ((c.p 0).fld 1 0) 0

def execStoreStackRetire (c : Cmd) (s : State) : Ans := serve storeStackRetireOp c s

/-- STORE_STACK_RESTORE (R273, R290). -/
def storeStackRestoreOp : OpDef where
  code := 0x0409
  queue := some 3
  lo := 1
  hi := 1
  long := true
  targetOk := targetStore
  check := fun c s =>
    let k := (c.p 0).fld 1 0
    firstRej [resv c 0 31 2, stateErr ((s.stack k).st == .lost && s.othersWork k) 0x1B]
  effect := fun c s =>
    let k := (c.p 0).fld 1 0
    let s1 := s.startJob 0x0409 c
    (.accepted s.clerk.nextJob,
      (s1.withStore { s1.store with restore := some { stack := k, job := s.clerk.nextJob } }).moveStack k .restoring 0)

def execStoreStackRestore (c : Cmd) (s : State) : Ans := serve storeStackRestoreOp c s

/-- STORE_INJECT (Table 9-10, R291). -/
def storeInjectOp : OpDef where
  code := 0x040A
  lo := 1
  hi := 1
  targetOk := targetStore
  check := fun c s =>
    let ik := (c.p 0).fld 31 30; let part := (c.p 0).fld 27 24; let k := (c.p 0).fld 1 0
    firstRej [param (decide (ik ≤ 1)) 0, resv c 0 29 28, param (decide (1 ≤ part ∧ part ≤ 4)) 0, resv c 0 23 2,
      stateErr (s.part part).isSome 0x16,
      stateErr ((s.stack k).st == .working && (ik == 0 || (s.stack ((k + 1) % 4)).st == .working)) 0x1B,
      busy s.store.inject.isNone 0x8]
  effect := sets fun c s =>
    s.withStore { s.store with inject := some ((c.p 0).fld 31 30, (c.p 0).fld 27 24, (c.p 0).fld 1 0) }

def execStoreInject (c : Cmd) (s : State) : Ans := serve storeInjectOp c s

/-! ### Stripe accesses (R264 to R268, R275, R276) -/

/-- A QUEUE stripe that reads uncorrectable: its flow's queue is discarded (R309). -/
def State.queueLost (n : Nat) (s : State) : State :=
  match s.flow.tx.find? (fun e => match e.2 with | some x => x.segs.any (·.st == .written n) | none => false) with
  | some (f, _) => s.dropQueue f
  | none => s

/-- The records of an uncorrectable FLOW_CONTEXT stripe that are not held on die are lost (R309). -/
def State.recordsLost (n : Nat) (s : State) : State :=
  match (s.baysOf 3).findIdx? (· == n / bayStripes) with
  | none => s
  | some k =>
    let first := 3 * (k * bayStripes + n % bayStripes)
    [first, first + 1, first + 2].foldl (fun s f => if s.cached f then s else s.loseRecord f) s

/-- The next stripe of a Storehouse sweep: the first from its place on in an assigned bay (spec/17 R473). -/
def State.nextSwept (s : State) (w : Sweep) : Option Nat :=
  let from_ := match w.reached with | none => w.first | some r => r + 1
  match s.store.bays.find? (fun e => e.2.kind != 0 && decide (from_ < (e.1 + 1) * bayStripes)) with
  | none => none
  | some e => if max from_ (e.1 * bayStripes) ≤ w.last then some (max from_ (e.1 * bayStripes)) else none

/-- A Storehouse sweep reads a stripe; its counters are the advances of R292 (spec/17 R473, Table 17-7). -/
def State.sweepStripe (w : Sweep) (n : Nat) (bad : List Nat) (s : State) : State :=
  let b := s.bay (n / bayStripes)
  let r := ((s.bump (storeCtr 0) 1).granted 1).judgeStripe b.kind n b.epoch bad
  let add (k j : Nat) : Nat := w.counts.getD k 0 + (r.2.counter (storeCtr j) + 2 ^ 48 - s.counter (storeCtr j)) % 2 ^ 48
  let v : Sweep := { w with
    counts := [add 0 0, add 1 3, add 2 5, add 3 4, add 4 6]
    reached := some n
    firstBad := match w.firstBad with | some x => some x | none => if r.1.mark = 2 then some n else none }
  r.2.withHier { r.2.hier with sweepStore := some v }

/-- STRIPE_READ: a granted read of stripe `n` of a partition kind is judged; `bad` names stacks whose cell fails its CRC
(R265). What it delivers, or its mark, stands in `Store.delivered`. Kind 0 is a running Storehouse sweep's read of its next
stripe, through the CLERK port (spec/17 R473). -/
def execStripeRead (kind : Fin 5) (n : Nat) (bad : List Nat) (s : State) : Ans :=
  if stripes ≤ n then .fault .noSuchUnit
  else if kind.val = 0 then
    match s.hier.sweepStore with
    | none => .next s
    | some w => happen (s.live && s.nextSwept w == some n) s (s.sweepStripe w n bad)
  else
    let r := s.readStripe kind.val n bad
    let t := if r.1.mark = 2 then (if kind.val = 2 then r.2.queueLost n else if kind.val = 3 then r.2.recordsLost n
      else if kind.val = 4 then r.2.tableLost n [0, 1, 2] else r.2) else r.2
    happen (s.live && ((s.part kind.val).isNone || s.ofKind kind.val n)) s t

/-- STRIPE_WRITE: a granted whole-stripe write. SKEW takes 768 bytes of the frame with TICK `tick` of port `p`; a fixed kind
writes its stripe `n`; QUEUE is written by TAIL_WRITE alone (R264, R276, R277). -/
def execStripeWrite (kind : Fin 5) (n : Nat) (p : Port) (tick : Nat) (data : List Byte) (s : State) : Ans :=
  if kind.val = 0 ∨ stripes ≤ n then .fault .noSuchUnit
  else if kind.val = 2 then .next s
  else if kind.val = 1 then
    if s.store.lostFrames.contains (p.val, tick) then happen s.live s (s.bump (storeCtr 8) 1)
    else
      let r := s.unitIn 1 ⟨p.val, tick, 0, fixData data⟩
      happen s.live s (if r.1 = .dropped then r.2.dropSkew p.val tick else r.2)
  else match s.part kind.val with
    | none => happen s.live s (s.bump (storeCtr 8) 1)
    | some _ =>
      happen (s.live && s.ofKind kind.val n) s
        (let s1 := ((s.bump (storeCtr 1) 1).granted 1).writeStripe n (s.bay (n / bayStripes)).epoch (fixData data)
         if kind.val = 4 then s1.tableWritten n (fixData data) else s1)

/-- READ_MERGE_WRITE: a partial write of data cell `cell` of a stripe (R264, R268). -/
def execReadMergeWrite (kind : Fin 5) (n : Nat) (cell : Fin 3) (data : List Byte) (bad : List Nat) (s : State) : Ans :=
  if kind.val = 0 ∨ stripes ≤ n then .fault .noSuchUnit
  else
    let r := s.mergeStripe kind.val n bad (putRecord cell.val data)
    let lost := r.1.zeroed.filter (· != cell.val)
    let own := match (s.baysOf 3).findIdx? (· == n / bayStripes) with
      | some k => 3 * (k * bayStripes + n % bayStripes) + cell.val
      | none => 0
    happen (s.live && ((s.part kind.val).isNone || s.ofKind kind.val n)) s
      (if kind.val = 3 ∧ (s.part 3).isSome then r.2.loseZeroed own lost
       else if kind.val = 4 ∧ (s.part 4).isSome then (r.2.tableLost n lost).tableWritten n (putRecord cell.val data r.1.data)
       else r.2)

/-- CELL_WRITE_BACK: the oldest rebuilt cell that waits is written back, with the stripe's epoch (R266). -/
def execCellWriteBack (s : State) : Ans :=
  match s.store.writeBacks with
  | [] => .next s
  | (n, k) :: r =>
    let s1 := s.withStore { s.store with writeBacks := r }
    happen s.live s (if (s.stack k).st = .working then s1.withStore (s1.store.remake k n) else s1)

/-- HOLD_LIMIT_EXPIRY: a writer held at a full DISCARD partition for HOLD_LIMIT is discarded with all that waits behind it
(R277). -/
def execHoldLimitExpiry (kind : Fin 5) (s : State) : Ans :=
  match s.part kind.val with
  | none => .next s
  | some p =>
    let s1 := (s.setPart kind.val { p with held := [], dropping := true }).bump (storeCtr 8) p.held.length
    happen (s.live && p.heldDiscard && !p.held.isEmpty) s
      (p.held.foldl (fun s u => if kind.val = 1 then s.dropSkew u.port u.tick else s.dropSeg u.flow .issued) s1)

/-- STRIPE_FREE: a live stripe of SKEW that was read is freed; a held writer continues (R277). The stripes of QUEUE are freed
by its scheduler. -/
def execStripeFree (kind : Fin 5) (n : Nat) (s : State) : Ans :=
  if stripes ≤ n then .fault .noSuchUnit
  else
    happen (s.live && kind.val == 1 && (match s.part 1 with | some p => p.live.contains n | none => false)) s
      (s.freeStripe 1 n).2

/-! ### Stacks (R269 to R273) -/

/-- STACK_INTERFACE_FAULT: a WORKING stack retrains; during a restore the training is retried (R269, R294). -/
def execStackInterfaceFault (k : Fin 4) (s : State) : Ans :=
  happen s.live s (match (s.stack k.val).st, s.store.restore with
    | .working, _ => s.moveStack k.val .retraining 1
    | .restoring, some r => s.withStore { s.store with restore := some { r with phase := 0, failures := 0 } }
    | _, _ => s)

/-- TRAINING_DONE: retraining succeeds; each logged stripe's cell is rebuilt, then the stack is WORKING (R271). -/
def execTrainingDone (k : Fin 4) (s : State) : Ans :=
  let log := (s.stack k.val).log
  let s1 := (s.withStore (log.foldl (fun st n => st.remake k.val n) s.store)).bump (storeCtr 11) log.length
  happen (s.live && decide ((s.stack k.val).st = .retraining)) s (s1.moveStack k.val .working 3)

/-- TRAINING_TIMEOUT: training has not succeeded 100 µs after the fault (R270). -/
def execTrainingTimeout (k : Fin 4) (s : State) : Ans :=
  happen (s.live && decide ((s.stack k.val).st = .retraining)) s (s.loseStack k.val 1)

/-- Distinct cells of a stack that failed within the past 1 ms. -/
def State.failedCells (s : State) (k : Nat) : Nat :=
  (((s.stack k).failed.filter fun e => decide (s.time < e.1 + milli)).map (·.2)).eraseDups.length

/-- CRC_RATE_LOSS: 256 distinct cells of one stack failed in 1 ms, and fewer than 16 of each other (R270). -/
def execCrcRateLoss (k : Fin 4) (s : State) : Ans :=
  let past := decide (256 ≤ s.failedCells k.val) && (List.range 4).all fun j => j == k.val || decide (s.failedCells j < 16)
  let st := (s.stack k.val).st
  happen (s.live && past && st != .lost) s
    (if st = .restoring then s.endRestore stFault else s.loseStack k.val 2)

/-- RESTORE_TRAIN_DONE: the training of a restore ends (R273). -/
def execRestoreTrainDone (ok : Bool) (s : State) : Ans :=
  match s.store.restore with
  | none => .next s
  | some r =>
    happen (s.live && r.phase == 0) s
      (if ok then s.withStore { s.store with restore := some { r with phase := 1 } } else s.endRestore stFault)

/-- RESTORE_TEST_DONE: the pattern test of a restore ends with so many failing cells; with none the rebuild runs. The
content that the rebuild gives each cell stands from here on (R273). -/
def execRestoreTestDone (failures : Nat) (s : State) : Ans :=
  match s.store.restore with
  | none => .next s
  | some r =>
    let s1 := s.withStore { s.store with restore := some { r with phase := 2, failures := failures } }
    happen (s.live && r.phase == 1) s
      (if failures = 0 then s1.withStore (s1.store.touched.foldl (fun st n => st.remake r.stack n) s1.store)
       else (s.withStore { s.store with restore := some { r with failures := failures } }).endRestore stFault)

/-- RESTORE_REBUILD_DONE: every stripe is rebuilt; the stack is WORKING and the job ends OK (R273). -/
def execRestoreRebuildDone (s : State) : Ans :=
  match s.store.restore with
  | none => .next s
  | some r => happen (s.live && r.phase == 2) s (s.endRestore stOk)

/-- SHRINK_DRAIN_DONE: the draining bays of a partition hold no live stripe and are released; the job ends OK (R278). -/
def execShrinkDrainDone (kind : Fin 5) (s : State) : Ans :=
  match s.part kind.val with
  | none => .next s
  | some p => match p.shrink with
    | none => .next s
    | some job =>
      let s1 := (s.mapBays kind.val fun x => if x.draining then {} else x).setPart kind.val { p with shrink := none }
      happen (s.live && s.drained kind.val) s ((s1.refreshFull kind.val).endJob job stOk [w32 (s1.baysOf kind.val).length])

end Sys2Proof.Machine
end

