-- ==== Sys2Proof/Machine/Diag.lean ====
section
/-!
DEFINITION. Diagnostics: SRAM words and what follows a word that cannot be corrected, sweeps, injections, health and the
fault log (spec/17 R463 to R477).
-/

set_option Elab.async false

namespace Sys2Proof.Machine

/-- Whether a cell holds SRAM. DESIGN CHOICE: every cell but those of blocks 0x00 and 0x01 of the HOST regions
(notes/assumptions/7). -/
def holdsSram (ha : Nat) : Bool := decide (haRegion ha < 0x16) || decide (2 ≤ haBlock ha)

def State.sram (s : State) (ha : Nat) : Sram := Tab.get {} s.hier.sram ha

def State.updSram (ha : Nat) (f : Sram → Sram) (s : State) : State :=
  s.withHier { s.hier with sram := Tab.upd {} s.hier.sram ha f }

/-- SRAM totals of a region: 0 corrections, 1 repeat corrections, 2 uncorrectable words, 3 never-written reads (spec/19
R502). -/
def sramTotal (ha j : Nat) : Nat := ctr 0xF 0 4 (haRegion ha) j

/-! ### What follows an uncorrectable word (R465, Table 17-2) -/

/-- The row of Table 17-2. -/
def contentRow : Content → Nat
  | .rewind => 1
  | .fecMessage _ _ => 2
  | .llr => 3
  | .payload => 4
  | .record _ _ _ => 5
  | .tail _ => 6
  | .ingress _ | .egress _ => 7
  | .cls _ | .eq _ | .bolt _ _ | .thread _ _ | .guard _ _ | .priority _ _ | .sequence _ => 8
  | .dpll _ => 9
  | .crierQueue _ | .crierObject _ => 10
  | .control => 11

def State.addDamage (d : Damage) (s : State) : State := s.withDamage (s.damage ++ [d])

/-- An entry of a table goes out until it is restored. -/
def State.loseEntry (c : Content) (ha addr : Nat) (s : State) : State :=
  match c with
  | .cls key =>
    let v := Tab.get 0 s.flow.classes key
    if v = 0 then s else (s.withFlow { s.flow with classes := Tab.set 0 s.flow.classes key 0 }).addDamage (.cls key v)
  | .eq key =>
    let v := Tab.get [] s.lanes.eq key
    if v = [] then s else (s.withLanes { s.lanes with eq := Tab.set [] s.lanes.eq key [] }).addDamage (.eq key v)
  | .bolt d b =>
    match s.bolt d b with
    | none => s
    | some v => (s.withLoom { s.loom with bolts := s.loom.bolts.upd d fun t => Tab.set none t b none }).addDamage (.bolt d b v)
  | .thread d t =>
    match s.thread d t with
    | none => s
    | some v => (s.withLoom { s.loom with threads := s.loom.threads.upd d fun x => Tab.set none x t none }).addDamage (.thread d t v)
  | .guard d t =>
    match Tab.get none (s.ra.guards.get d) t with
    | none => s
    | some v => (s.withRa { s.ra with guards := s.ra.guards.upd d fun x => Tab.set none x t none }).addDamage (.guard d t v)
  | .priority d k =>
    let v := Tab.get 0xF (s.dpll d.val).prio k
    if v = 0xF then s
    else (s.updDpll d.val fun x => { x with prio := Tab.set 0xF x.prio k 0xF }).addDamage (.priority d.val k v)
  | .sequence src =>
    let v := (Tab.get {} s.assay.sources src : AsSource).seq
    if v = [] then s
    else
      (s.withAssay { s.assay with sources := Tab.upd {} s.assay.sources src fun x => { x with seq := [] } }).addDamage
        (.sequence src v)
  | _ => s.addDamage (.control ha addr)

/-- CLERK's copy of an entry goes back where nothing newer stands (R465). -/
def State.restore (d : Damage) (s : State) : State :=
  match d with
  | .cls key v =>
    if Tab.get 0 s.flow.classes key = 0 then s.withFlow { s.flow with classes := Tab.set 0 s.flow.classes key v } else s
  | .eq key v =>
    if Tab.get [] s.lanes.eq key = [] then s.withLanes { s.lanes with eq := Tab.set [] s.lanes.eq key v } else s
  | .bolt d b v =>
    if (s.bolt d b).isNone then s.withLoom { s.loom with bolts := s.loom.bolts.upd d fun t => Tab.set none t b (some v) } else s
  | .thread d t v =>
    if (s.thread d t).isNone then s.withLoom { s.loom with threads := s.loom.threads.upd d fun x => Tab.set none x t (some v) }
    else s
  | .guard d t v =>
    if (Tab.get none (s.ra.guards.get d) t).isNone then
      s.withRa { s.ra with guards := s.ra.guards.upd d fun x => Tab.set none x t (some v) }
    else s
  | .priority d k v =>
    if Tab.get 0xF (s.dpll d).prio k = 0xF then s.updDpll d fun x => { x with prio := Tab.set 0xF x.prio k v } else s
  | .sequence src v =>
    if (Tab.get {} s.assay.sources src : AsSource).seq = [] then
      s.withAssay { s.assay with sources := Tab.upd {} s.assay.sources src fun x => { x with seq := v } }
    else s
  | .control _ _ => s

/-- What follows for the word's user (Table 17-2). Rows 1 and 4 act where their span is replayed or mapped: `bad` and
`badSample` of the rollbacks (spec/04 R123), `clean` of FRAME_ARRIVE (spec/06 R170); row 3 only weakens a decode. -/
def State.loseContent (c : Content) (ha addr : Nat) (s : State) : State :=
  match c with
  | .rewind | .llr | .payload => s
  | .fecMessage p span =>
    match s.findDecode p span with
    | none => s
    | some d => s.messageWord d false
  | .record f changed mirror =>
    if changed && mirror then s
    else (s.withFlow { s.flow with cache := s.flow.cache.filter (· != f) })
  | .tail f => s.dropSeg f .open_
  | .ingress i =>
    match (s.fi i.val).ingress with
    | [] => s
    | fr :: r => (s.updFi i.val fun x => { x with ingress := r }).txDropped fr.flow 1
  | .egress i => s.egressDrop (some i.val)
  | .dpll d => if (s.dpll d.val).coreFault then s else s.take.2.coreFaulted d.val (s.take.1 : Int)
  | .crierQueue k => (s.updCr k.val fun x => { x with queue := x.queue.tail }).crReject k.val
  | .crierObject k => (s.updCr k.val fun x => { x with objects := x.objects.tail }).crReject k.val
  | _ => s.loseEntry c ha addr

/-! ### Reading a word (R463 to R465, R476) -/

/-- Add to the counters of a running HA sweep: index 1 corrected, 2 uncorrectable, 3 repeat-corrected, 4 never-written. -/
def Sweep.count (j : Nat) (w : Sweep) : Sweep := { w with counts := w.counts.set j (w.counts.getD j 0 + 1) }

/-- A sweep reads a word of a cell: a cell left behind has been read in full. -/
def Sweep.readAt (ha : Nat) (w : Sweep) : Sweep :=
  ({ w with at_ := some ha, reached := if w.at_ = some ha then w.reached else w.at_ } : Sweep).count 0

def State.updSweep (f : Sweep → Sweep) (s : State) : State := s.withHier { s.hier with sweepHa := s.hier.sweepHa.map f }

/-- A correction (R463): a repeat correction where the read after the write-back still shows the error, or where the address is
among the last 16 corrected. An injected error is no fault of the word: it counts as corrected alone (R476). -/
def State.corrected (ha addr : Nat) (injected again sweep : Bool) (s : State) : State :=
  let repeats := !injected && (again || (s.sram ha).last.contains addr)
  let s1 := (s.updSram ha fun x => { x with
    corrected := sat 0xFFFFFFFF (x.corrected + 1)
    repeated := if repeats then sat 0xFFFFFFFF (x.repeated + 1) else x.repeated
    last := if injected then x.last else (addr :: x.last).take 16 }).bump (sramTotal ha 0) 1
  let s2 := if sweep then s1.updSweep (Sweep.count 1) else s1
  if repeats then
    ((if sweep then s2.updSweep (Sweep.count 3) else s2).bump (sramTotal ha 1) 1).raiseLimited
      (0x0F06 * 2 ^ 20 + ha) second 0x0F06 2 ha fun n => sat 0xFFFF n
  else s2

/-- A word that SECDED cannot correct (R465): counted and reported; what follows is its user's, not a sweep's. -/
def State.uncorrected (ha addr : Nat) (c : Content) (sweep : Bool) (s : State) : State :=
  let s1 := (s.updSram ha fun x => { x with uncorrectable := sat 0x7FFFFFFF (x.uncorrectable + 1) }).bump (sramTotal ha 2) 1
  let s2 := s1.raiseAtMost 16 (0x0F05 * 2 ^ 20) 0x0F05 3 ha (contentRow c * 2 ^ 28 + addr % 2 ^ 24)
  if sweep then
    s2.updSweep fun w => ({ w with firstBad := match w.firstBad with | none => some ha | some x => some x } : Sweep).count 2
  else s2.loseContent c ha addr

/-- A running HA sweep reads a cell next: within its range, and not behind the cell it reads. -/
def State.sweepMayRead (s : State) (ha : Nat) : Bool :=
  match s.hier.sweepHa with
  | none => false
  | some w => decide (w.first ≤ ha ∧ ha ≤ w.last ∧ w.at_.getD 0 ≤ ha)

/-- SRAM_READ: word `addr` of a cell is read, by a running sweep or by its user; `written` is its bit of the written map, `errors`
how many bits of it are wrong as stored (2: two or more), `again` that the read after the write-back still shows an error
(R463 to R465, R473, R476). -/
def execSramRead (cell : BitVec 20) (addr : Nat) (written : Bool) (errors : Fin 3) (again : Bool) (what : Content)
    (sweep : Bool) (s : State) : Ans :=
  let ha := cell.toNat
  if targetCell s ha && holdsSram ha then
    let struck := Tab.get 0 s.hier.inject ha
    let hit := decide (struck = 1 ∨ struck = 2)
    let s1 := if hit then s.withHier { s.hier with inject := Tab.set 0 s.hier.inject ha 0 } else s
    let s2 := if sweep then s1.updSweep (Sweep.readAt ha) else s1
    let bits := errors.val + (if hit then struck else 0)
    happen (s.live && (!sweep || s.sweepMayRead ha)) s
      (if !written then
         ((if sweep then s2.updSweep (Sweep.count 4) else s2).updSram ha fun x =>
           { x with neverWritten := sat 0xFFFFFFFF (x.neverWritten + 1) }).bump (sramTotal ha 3) 1
       else if bits = 0 then s2
       else if bits = 1 then (s2.corrected ha addr hit again sweep).refreshHealth
       else (s2.uncorrected ha addr what sweep).refreshHealth)
  else .fault .noSuchUnit

/-- CONFIG_RESTORE: the oldest entry that read uncorrectable is restored from CLERK's copy (R465). -/
def execConfigRestore (s : State) : Ans :=
  match s.damage with
  | [] => .next s
  | d :: r => happen s.live s ((s.withDamage r).restore d)

/-! ### Sweeps (R473, R474) -/

/-- The twelve result words of a sweep (Table 17-7). What REACHED reads where nothing was read in full is not stated: `free`. -/
def Sweep.results (w : Sweep) (free : Nat) : List Word :=
  w.counts.flatMap words64 ++
    [mkw [(31, 31, b2n w.firstBad.isSome), (24, 0, w.firstBad.getD 0)], mkw [(24, 0, w.reached.getD free)]]

/-- A sweep ends. -/
def State.endSweep (store : Bool) (status : Nat) (s : State) : State :=
  match (if store then s.hier.sweepStore else s.hier.sweepHa) with
  | none => s
  | some w =>
    let s1 := s.take.2.withHier (if store then { s.hier with sweepStore := none } else { s.hier with sweepHa := none })
    s1.endJob w.job status (w.results s.take.1)

/-- SWEEP_END: a sweep has read everything up to LAST (R474). -/
def execSweepEnd (store : Bool) (s : State) : Ans :=
  if store then
    match s.hier.sweepStore with
    | none => .next s
    | some w => happen (s.live && (s.nextSwept w).isNone) s (s.endSweep true stOk)
  else
    happen s.live s ((s.updSweep fun w => { w with reached := w.at_ }).endSweep false stOk)

/-! ### Opcodes (R475 to R477) -/

/-- Cells that are suspect or retired, saturating. -/
def State.badCells (s : State) : Nat :=
  sat 0xFFFF ((s.hier.blocks.map fun e => match e.2 with | none => 0 | some b => b.suspect.length + b.retired.length).sum)

def State.badBlocks (s : State) : Nat :=
  (s.hier.blocks.filter fun e => match e.2 with | none => false | some b => b.state == 2 || b.state == 3).length

/-- Pairs of the chip arbiter or supervisor in service (Table 17-6). -/
def ChipPair.inService (p : ChipPair) : Nat := if p.standby = 2 then 1 else 2

/-- The results of DIAG_FAULT_STATUS (Table 17-6). -/
def faultStatus (s : State) : List Word :=
  let bits := (s.unmasked.zipIdx.map fun (e : Bool × Nat) => if e.1 then 2 ^ e.2 else 0).sum
  [mkw [(7, 4, s.hier.ctlActive), (3, 3, b2n s.pairReady), (2, 2, b2n s.spareExhausted), (1, 0, s.hier.health)],
   mkw [(31, 16, s.badCells), (15, 0, s.badBlocks)],
   mkw [(31, 24, ((List.range 11).filter fun k => (s.region (7 + k)).poolRole == 3).length),
        (23, 22, s.hier.chip.a.inService), (21, 20, s.hier.chip.b.inService),
        (15, 0, sat 0xFFFF (s.hier.sram.filter fun e => e.2.repeated != 0).length)],
   w32 s.hier.logSeq, w32 bits, w32 s.hier.healthTime]

/-- DIAG_FAULT_STATUS (R471, R475). -/
def diagFaultStatusOp : OpDef where
  code := 0x0F01
  lo := 0
  hi := 0
  targetOk := targetClerk
  effect := reads fun _ s => faultStatus s

def execDiagFaultStatus (c : Cmd) (s : State) : Ans := serve diagFaultStatusOp c s

/-- The four words of a fault log record (R472). -/
def LogRec.words (r : LogRec) : List Word := [mkw [(31, 16, r.code), (15, 0, r.seq)], r.w1, r.w2, r.w3]

/-- `count` records from the one numbered `first` (low 26 bits) on; records no longer held read as zero (Table 17-7). -/
def faultLog (first count : Nat) (s : State) : List Word :=
  w32 s.hier.logSeq :: (List.range count).flatMap fun k =>
    match s.hier.log.find? (fun r => r.seq % 2 ^ 26 == (first + k) % 2 ^ 26) with
    | some r => r.words
    | none => [0, 0, 0, 0]

/-- DIAG_FAULT_LOG_READ (R472). -/
def diagFaultLogReadOp : OpDef where
  code := 0x0F02
  lo := 1
  hi := 1
  targetOk := targetClerk
  check := fun c _ => param (decide (1 ≤ (c.p 0).fld 31 26 ∧ (c.p 0).fld 31 26 ≤ 64)) 0
  effect := reads fun c s => faultLog ((c.p 0).fld 25 0) ((c.p 0).fld 31 26) s

def execDiagFaultLogRead (c : Cmd) (s : State) : Ans := serve diagFaultLogReadOp c s

/-- The counters of a cell (Table 17-7). -/
def sramWords (s : State) (ha : Nat) : List Word :=
  if holdsSram ha then [w32 (s.sram ha).corrected, w32 (s.sram ha).repeated, mkw [(30, 0, (s.sram ha).uncorrectable)]]
  else [0, 0, mkw [(31, 31, 1)]]

/-- DIAG_SRAM_COUNTERS (R475). -/
def diagSramCountersOp : OpDef where
  code := 0x0F03
  lo := 0
  hi := 0
  targetOk := targetBlock
  effect := reads fun c s =>
    let r := haRegion c.target.toNat; let b := haBlock c.target.toNat
    mkw [(5, 0, (s.block r b).cells)] :: (List.range (s.block r b).cells).flatMap fun k => sramWords s (haOf r b k)

def execDiagSramCounters (c : Cmd) (s : State) : Ans := serve diagSramCountersOp c s

/-- DIAG_SWEEP_RUN (R473, R474). -/
def diagSweepRunOp : OpDef where
  code := 0x0F04
  queue := some 3
  lo := 2
  hi := 2
  long := true
  targetOk := targetClerk
  check := fun c s =>
    let store := (c.p 0).bit 31
    firstRej [resv c 0 30 25, param (store || (c.p 0).fld 24 20 == 0) 0, resv c 1 31 25,
      param (store || (c.p 1).fld 24 20 == 0) 1, param (decide ((c.p 0).fld 24 0 ≤ (c.p 1).fld 24 0)) 1 5,
      busy (if store then s.hier.sweepStore.isNone else s.hier.sweepHa.isNone) 0x3D]
  effect := fun c s =>
    let w : Sweep := { job := s.clerk.nextJob, first := (c.p 0).fld 24 0, last := (c.p 1).fld 24 0 }
    let s1 := s.startJob 0x0F04 c
    (.accepted s.clerk.nextJob,
      s1.withHier (if (c.p 0).bit 31 then { s1.hier with sweepStore := some w } else { s1.hier with sweepHa := some w }))

def execDiagSweepRun (c : Cmd) (s : State) : Ans := serve diagSweepRunOp c s

/-- TARGET names control pair `k` as R476 does, 0x00.0k.3F. -/
def pairHa (k : Nat) : Nat := haOf 0 k 0x3F

/-- DIAG_INJECT (R476). -/
def diagInjectOp : OpDef where
  code := 0x0F05
  lo := 1
  hi := 1
  targetOk := fun s t => targetCell s t || t == pairHa s.hier.ctlActive
  targetMore := fun c s => if (c.p 0).fld 31 30 = 3 then c.target.toNat == pairHa s.hier.ctlActive else targetCell s c.target.toNat
  check := fun c s =>
    let kind := (c.p 0).fld 31 30; let ha := c.target.toNat
    firstRej [resv c 0 29 0, stateErr (kind != 3 || s.pairReady) 0x3E, stateErr (decide (2 ≤ kind) || holdsSram ha) 0x3F,
      busy (kind == 3 || Tab.get 0 s.hier.inject ha == 0) 8]
  effect := sets fun c s =>
    if (c.p 0).fld 31 30 = 3 then (s.swapPairs 2).refreshHealth
    else s.withHier { s.hier with inject := Tab.set 0 s.hier.inject c.target.toNat ((c.p 0).fld 31 30 + 1) }

def execDiagInject (c : Cmd) (s : State) : Ans := serve diagInjectOp c s

end Sys2Proof.Machine
end

