-- ==== Sys2Proof/Machine/Service.lean ====
section
/-!
DEFINITION. In-service update and replacement: image slots, changes of regions, blocks and DPLLs, handover of the control
firmware, ageing (spec/18). The choices are in notes/assumptions/24.
-/

set_option Elab.async false

namespace Sys2Proof.Machine

/-! ### Image slots (R480) -/

/-- The standby slot, 0 A, 1 B: the slot not running; in recovery the one the boot record names (spec/20 R522). -/
def State.standbySlot (s : State) : Nat := if s.live then 1 - s.boot.fwImage else s.boot.record

/-- The words of a slot, none while as the outside left them. -/
def State.slotWords (s : State) (k : Nat) : Option (List Word) := if k = 0 then s.serv.slotA else s.serv.slotB

def State.setSlot (k : Nat) (ws : List Word) (s : State) : State :=
  s.withServ (if k = 0 then { s.serv with slotA := some ws } else { s.serv with slotB := some ws })

/-- An image verification runs. -/
def State.verifying (s : State) : Bool := s.clerk.jobs.any fun j => j.code == 0x0E02

/-- The verified standby image becomes `v`; register 3 follows a change (R450, R480). -/
def State.setVerified (v : Option ImageInfo) (s : State) : State :=
  if s.serv.verified = v then s else (s.withServ { s.serv with verified := v }).measureSvn

/-- An image job or a handover runs (Table 18-5). -/
def State.imageBusy (s : State) : Bool := s.verifying || s.serv.handover.isSome

/-- SERVICE_IMAGE_LOAD (R480, Table 18-6). -/
def serviceImageLoadOp : OpDef where
  code := 0x0E01
  queue := some 2
  lo := 2
  hi := 2045
  recovery := true
  targetOk := targetClerk
  check := fun c s =>
    let have_ := if (c.p 0).bit 31 then 0 else ((s.slotWords s.standbySlot).getD []).length
    firstRej [resv c 0 30 25, param ((c.p 0).fld 24 0 == have_) 0 0x44, busy (!s.imageBusy) 0x40]
  effect := sets fun c s =>
    let old := if (c.p 0).bit 31 then [] else (s.slotWords s.standbySlot).getD []
    (s.setSlot s.standbySlot (old ++ c.params.drop 1)).setVerified none

def execServiceImageLoad (c : Cmd) (s : State) : Ans := serve serviceImageLoadOp c s

/-- SERVICE_IMAGE_VERIFY (R480, R494). -/
def serviceImageVerifyOp : OpDef where
  code := 0x0E02
  queue := some 3
  lo := 0
  hi := 0
  long := true
  recovery := true
  targetOk := targetClerk
  check := fun _ s => busy (!s.imageBusy) 0x40
  effect := fun c s => (.accepted s.clerk.nextJob, s.startJob 0x0E02 c)

def execServiceImageVerify (c : Cmd) (s : State) : Ans := serve serviceImageVerifyOp c s

/-- VERIFY_DONE: the standby slot has been read and checked (R452, R494); `readError` is a flash read error, `outside` the words
of a slot that the device has not written. -/
def execVerifyDone (readError : Bool) (outside : List Word) (s : State) : Ans :=
  match s.findJob 0x0E02 fun _ => true with
  | none => .next s
  | some j =>
    let slot := s.standbySlot
    let img := (s.slotWords slot).getD outside
    let cause := if readError then 6 else imageCause s.hall.fuses img
    let i := imageInfo img
    let ok := ((s.extend 2 i.digest).setVerified (some i)).endJob j.num stOk [mkw [(6, 0, i.svn)], w32 i.version]
    happen (s.live || s.rom) s
      (if cause = 0 then ok else ((s.setVerified none).imageRejected cause slot).endJob j.num stRefused [])

/-! ### Changes (R481 to R490, R493) -/

/-- Positions of a region that a pass steps (Table 18-1): of CLERK and TIMING those its spare block covers. -/
def State.passPositions (s : State) (r : Nat) : List Nat :=
  (List.range (workingBlocks r)).filter fun p =>
    spareCovers r p && (List.range (blocksOf r)).any fun b => (s.block r b).serves == p

/-- A whole region is changed by migration: a pooled one with a Journeyman beside it, ROLLING clear (Table 18-1). -/
def State.migrates (s : State) (c : Cmd) : Option Nat :=
  let r := haRegion c.target.toNat
  if haBlock c.target.toNat = 0x3F ∧ isPooled r = true ∧ (c.p 0).bit 29 = false then
    match s.journeyman r with
    | some j => if j = r then none else some j
    | none => none
  else none

/-- The DPLLs that a change concerns (R489, R494). -/
def changedDplls (c : Cmd) : List Nat :=
  if haRegion c.target.toNat ≠ 1 then []
  else if haBlock c.target.toNat = 0x3F then [0, 1, 2, 3]
  else if haBlock c.target.toNat < 4 then [haBlock c.target.toNat] else []

/-- A change needs a spare block (Table 18-5): not a migration, not a single DPLL, not a block that serves no position. -/
def State.needsSpare (s : State) (c : Cmd) : Bool :=
  let r := haRegion c.target.toNat; let b := haBlock c.target.toNat
  if b = 0x3F then (s.migrates c).isNone else !(r == 1 && decide (b < 4)) && (s.block r b).serves != 0x3F

/-- The shadow core of a DPLL: 0 A, 1 B. -/
def Dpll.shadow (x : Dpll) : Nat := if x.core then 0 else 1

/-- A position's change begins: PREPARE of the incoming block, or the load of a DPLL's shadow core. -/
def State.beginStep (c : Change) (s : State) : State :=
  if c.method = 3 then
    let x := s.dpll c.pos
    s.setChange { c with phase := 1, incoming := x.shadow, outgoing := 0, faulted := x.coreFault }
  else s.setChange { c with phase := 1 }

/-- A pass over rolling positions begins with the retest of the spare (R484). -/
def State.beginPass (c : Change) (s : State) : State :=
  match s.spareBlock c.region with
  | none => (s.setChange { c with failed := true }).finishChange { c with failed := true }
  | some sp =>
    (s.setBlock c.region sp { s.block c.region sp with state := 4 }).setChange { c with method := 1, phase := 0, incoming := sp }

/-- The change that SERVICE_CHANGE starts (R481 to R490, R494). -/
def State.startChange (c : Cmd) (s : State) : State :=
  let r := haRegion c.target.toNat; let b := haBlock c.target.toNat
  let ds := changedDplls c
  let steps (d : Nat) : Nat := if (s.dpll d).coreFault then 1 else 2
  let base : Change := { region := r, job := some s.clerk.nextJob, method := 1, update := (c.p 0).fld 31 30 == 1, phase := 1,
                         done := 0, total := 1, positions := [], incoming := 0, outgoing := 0, lastFreed := 0, cancelled := false }
  let s1 := s.startJob 0x0E04 c
  let add (k : Change) (s : State) : State := s.withServ { s.serv with changes := s.serv.changes ++ [k] }
  match s.migrates c with
  | some j => add { base with method := 2, incoming := j, outgoing := r, lastFreed := r } s1
  | none =>
    if ds ≠ [] then
      let rest := if b = 0x3F then s.passPositions r else []
      let k : Change := { base with method := 3, positions := ds ++ rest, total := (ds.map steps).sum + rest.length }
      (add k s1).beginStep k
    else if b = 0x3F then
      let k : Change := { base with positions := s.passPositions r, total := (s.passPositions r).length }
      (add k s1).beginPass k
    else if (s.block r b).serves = 0x3F then
      (add { base with phase := 4, incoming := b, outgoing := b } s1).setBlock r b { s.block r b with state := 4 }
    else
      let sp := (s.spareBlock r).getD 0
      (add { base with positions := [(s.block r b).serves], incoming := sp } s1).setBlock r sp { s.block r sp with state := 4 }

/-- SERVICE_CHANGE (R481, R493, R494). -/
def serviceChangeOp : OpDef where
  code := 0x0E04
  queue := some 3
  lo := 1
  hi := 1
  long := true
  targetOk := fun s t => targetAnyRegion s t || (targetBlock s t && !(haRegion t == 0 && decide (haBlock t < 2)))
  check := fun c s =>
    let r := haRegion c.target.toNat
    firstRej [param (decide ((c.p 0).fld 31 30 = 1 ∨ (c.p 0).fld 31 30 = 2)) 0, resv c 0 28 0,
      stateErr (!s.needsSpare c || (s.spareBlock r).isSome) 0x41,
      stateErr ((changedDplls c).all fun d => (s.dpll d).st == .locked || (s.dpll d).coreFault) 0x43,
      busy ((s.change r).isNone && !s.imageBusy) 0x40]
  effect := fun c s => (.accepted s.clerk.nextJob, s.startChange c)

def execServiceChange (c : Cmd) (s : State) : Ans := serve serviceChangeOp c s

/-- The steps of a rolling change after `c.pos`: the block just freed is the next incoming block (R484). -/
def State.nextStep (c : Change) (freed : Nat) (s : State) : State :=
  let c1 := { c with positions := c.positions.tail }
  if c1.positions.isEmpty || c.cancelled then s.finishChange c1
  else (s.setBlock c.region freed { s.block c.region freed with state := 4 }).beginStep { c1 with incoming := freed }

/-- A fault in the incoming block or Journeyman during PREPARE or COPY (Table 18-3): the step is abandoned, the incoming one is
retested and retired if it fails (`lost`), the job ends FAULT. -/
def State.incomingFault (c : Change) (lost : Bool) (s : State) : State :=
  if c.method = 2 then
    let s1 := if lost then evExhausted 2 (regionHa c.incoming) (s.setRegion c.incoming { s.region c.incoming with poolRole := 3 }) else s
    ((evStepFailed 2 0 c.incoming (regionHa c.region) s1).endChange c stFault).afterFault
  else
    let k := s.block c.region c.incoming
    let s1 := s.setBlock c.region c.incoming { k with state := if lost then 3 else 1 }
    let s2 := if lost then s1.noteSpareBlock c.region else s1
    ((evStepFailed 2 c.pos c.incoming (haOf c.region c.incoming 0x3F) s2).endChange c stFault).afterFault

/-- The change of a region in a phase, for a happening of it. -/
def State.inPhase (s : State) (r phase : Nat) (ok : Change → Bool) : Option Change :=
  match s.change r with
  | some c => if c.phase = phase ∧ ok c = true then some c else none
  | none => none

/-- PREPARE_DONE: the incoming block, or a CIPH Journeyman, is configured and COPY starts (R482, R488); `fault` is a fault of it
meanwhile. -/
def execPrepareDone (r : Fin 30) (fault lost : Bool) (s : State) : Ans :=
  match s.inPhase r.val 1 fun c => c.method == 1 || (c.method == 2 && isCiph r.val) with
  | none => .next s
  | some c => happen s.live s (if fault then s.incomingFault c lost else s.setChange { c with phase := 2 })

/-- COPY_DONE: SWITCH waits for a unit boundary (R482). -/
def execCopyDone (r : Fin 30) (fault lost : Bool) (s : State) : Ans :=
  match s.inPhase r.val 2 fun _ => true with
  | none => .next s
  | some c => happen s.live s (if fault then s.incomingFault c lost else s.setChange { c with phase := 3 })

/-- The FIFOs of a block that has handed its position on drain to their readers (R482, R483). -/
def State.drainFifos (r b : Nat) (s : State) : State :=
  (s.fifosOf r b).foldl (fun s f => s.setFifo f { s.fifo f with packets := [], uncommitted := 0, held := false, reading := false, expiries := 0 }) s

/-- The roles of two pooled regions change: the Journeyman works, the outgoing region is isolated for change (R487). -/
def State.swapRoles (c : Change) (s : State) : State :=
  (s.setRegion c.incoming { s.region c.incoming with poolRole := 0 }).setRegion c.region { s.region c.region with poolRole := 2 }

/-- SWITCH: at a unit boundary the incoming block takes the position; the incoming CIPH region takes the open tails (R482, R483,
R488). On a line region it waits for the end of a replay (R498). -/
def execSwitch (r : Fin 30) (s : State) : Ans :=
  let replays := (r.val == 0x12 && s.rw.a.replay.isSome) || (r.val == 0x13 && s.rw.b.replay.isSome)
  match s.inPhase r.val 3 fun c => c.method == 1 || (c.method == 2 && isCiph r.val && (s.region r.val).poolRole == 0) with
  | none => .next s
  | some c =>
    if c.method = 2 then
      let move (x : Option TxFlow) : Option TxFlow := x.map fun f =>
        { f with segs := f.segs.map fun g => if g.st = .open_ ∧ g.region = r.val then { g with region := c.incoming } else g }
      let s1 := (s.swapRoles c).setChange { c with done := 1 }
      happen s.live s (s1.withFlow { s1.flow with tx := s1.flow.tx.map fun e => (e.1, move e.2) }).afterFault
    else
      let x := s.server r.val c.pos
      let s1 := (s.drainFifos r.val x).setBlock r.val x { s.block r.val x with state := 4, serves := 0x3F }
      let s2 := s1.setBlock r.val c.incoming { s1.block r.val c.incoming with state := 0, serves := c.pos }
      happen (s.live && !replays) s
        (s2.setChange { c with phase := 4, outgoing := x, done := c.done + 1, lastFreed := x }).afterFault

/-- RETEST_DONE: the retest of the spare before a pass, or of the block a step has freed, ends; `bad` are its failing cells
(R484 to R486). -/
def execRetestDone (r : Fin 30) (bad : List Nat) (s : State) : Ans :=
  match s.inPhase r.val 0 fun c => c.method == 1 with
  | some c =>
    let t := s.retest r.val c.incoming bad (s.imageFor c.update r.val c.incoming)
    happen s.live s
      (if t.1 then ((t.2.setBlock r.val c.incoming { t.2.block r.val c.incoming with state := 4 }).beginStep c).afterFault
       else ((evStepFailed 1 c.pos c.incoming (haOf r.val c.incoming 0x3F) t.2).endChange c stFault).afterFault)
  | none =>
    match s.inPhase r.val 4 fun c => c.method == 1 with
    | none => .next s
    | some c =>
      let b := c.outgoing
      let t := s.retest r.val b bad (s.imageFor c.update r.val b)
      happen (s.live && (!isFec r.val || s.blockBusy r.val b == 0)) s
        (if t.1 then ((evStep 1 c.pos c.incoming b (haOf r.val b 0x3F) t.2).nextStep c b).afterFault
         else ((evStepFailed 3 c.pos b (haOf r.val b 0x3F) t.2).endChange c stFault).afterFault)

/-! ### Migration in a pool (R487, R488) -/

/-- Load every block of a region with the image of a change. -/
def State.loadRegion (update : Bool) (r : Nat) (s : State) : State :=
  (List.range (blocksOf r)).foldl (fun s b => s.setBlock r b { s.block r b with image := s.imageFor update r b }) s

/-- MIGRATION_LOAD_DONE: the Journeyman is loaded and configured and becomes working (R487); where it fails it is retired
(Table 18-3). -/
def execMigrationLoadDone (r : Fin 30) (ok : Bool) (s : State) : Ans :=
  match s.inPhase r.val 1 fun c => c.method == 2 && isFec r.val with
  | none => .next s
  | some c =>
    let bad := evExhausted 2 (regionHa c.incoming) (s.setRegion c.incoming { s.region c.incoming with poolRole := 3 })
    happen s.live s
      (if ok then (((s.loadRegion c.update c.incoming).swapRoles c).setChange { c with phase := 3, done := 1 }).afterFault
       else ((evStepFailed 1 0 c.incoming (regionHa r.val) bad).endChange c stFault).afterFault)

/-- A pooled region has no work left in it. -/
def State.drainedRegion (s : State) (r : Nat) : Bool :=
  if isFec r then s.regionBusy r == 0 else s.outstanding 0 r == 0 && s.outstanding 1 r == 0 && s.openTails r == 0

/-- DECODES_DRAINED: the work of the outgoing region completes and it is isolated (R487, R488). -/
def execDecodesDrained (r : Fin 30) (s : State) : Ans :=
  match s.inPhase r.val 3 fun c => c.method == 2 && (s.region r.val).poolRole == 2 with
  | none => .next s
  | some c =>
    happen (s.live && s.drainedRegion r.val) s
      ((s.setRegion r.val { s.region r.val with isolated := true }).setChange { c with phase := 4 })

/-- The positions of a region are dealt to its good blocks: a good block keeps its own, the others take what is left (R485). -/
def State.reseat (r : Nat) (good : List (Nat × Nat)) (s : State) : State :=
  let kept := good.filter fun e => e.2 != 0x3F
  let open_ := (List.range (workingBlocks r)).filter fun p => !(kept.any fun e => e.2 == p)
  let idle := (good.filter fun e => e.2 == 0x3F).map (·.1)
  let seats := kept ++ idle.zip open_
  good.foldl (fun s e =>
    match seats.find? (fun x => x.1 == e.1) with
    | some x => s.setBlock r e.1 { s.block r e.1 with state := 0, serves := x.2 }
    | none => s.setBlock r e.1 { s.block r e.1 with state := 1, serves := 0x3F }) s

/-- Every block of a region is retested; the cells that fail are given as (block, cell). Whether all its positions can be served
(R485, R487). -/
def State.retestRegion (r : Nat) (update : Bool) (bad : List (Nat × Nat)) (s : State) : Bool × State :=
  let was := (List.range (blocksOf r)).map fun b => (b, (s.block r b).serves)
  let t := was.foldl (fun (x : List (Nat × Nat) × State) e =>
    let y := x.2.retest r e.1 ((bad.filter fun k => k.1 == e.1).map (·.2)) (x.2.imageFor update r e.1)
    (if y.1 then x.1 ++ [e] else x.1, y.2)) ([], s)
  (decide (workingBlocks r ≤ t.1.length), t.2.reseat r t.1)

/-- MIGRATION_RETEST_DONE: the outgoing region is retested and loaded and becomes the Journeyman (R487, R488). -/
def execMigrationRetestDone (r : Fin 30) (bad : List (Nat × Nat)) (s : State) : Ans :=
  match s.inPhase r.val 4 fun c => c.method == 2 with
  | none => .next s
  | some c =>
    let t := s.retestRegion r.val c.update bad
    happen s.live s
      (if t.1 then
         (((evStep 2 0 c.incoming r.val (regionHa r.val) t.2).setRegion r.val { t.2.region r.val with poolRole := 1, isolated := false }).finishChange c).afterFault
       else
         ((evStepFailed 3 0 r.val (regionHa r.val) (t.2.setRegion r.val { t.2.region r.val with poolRole := 3 })).endChange c stFault).afterFault)

/-! ### DPLL core swap (R489, R490) -/

/-- The DPLL block's address. -/
def dpllHa (d : Nat) : Nat := haOf 1 d 0x3F

/-- The core swap of a TIMING change that is in hand, in a phase. -/
def State.swapIn (s : State) (d phase : Nat) : Option Change := s.inPhase 1 phase fun c => c.method == 3 && c.pos == d

/-- The change of a DPLL is complete: the next one, then the rolling positions (Table 18-1). -/
def State.nextDpll (c : Change) (s : State) : State :=
  let c1 := { c with positions := c.positions.tail }
  match c1.positions with
  | [] => s.finishChange c1
  | p :: _ => if p < 4 then s.beginStep c1 else s.beginPass c1

/-- The drive passes to the other core (R489). -/
def State.swapCore (d : Nat) (c : Change) (s : State) : State :=
  evStep 3 d d d (dpllHa d) ((s.updDpll d fun x => { x with core := !x.core }).setChange c)

/-- CORE_LOAD_DONE: the core under change is loaded and returns to shadow, or has failed and is retired (R489). After a core
fault the core that passes its retest takes the drive, and the DPLL may leave HOLDOVER (R490). -/
def execCoreLoadDone (d : Fin 4) (ok : Bool) (s : State) : Ans :=
  match s.swapIn d.val 1 with
  | none => .next s
  | some c =>
    let lost := (evStepFailed (if c.faulted then 5 else 1) d.val d.val (dpllHa d.val) s).updDpll d.val fun x => { x with coreRetired := true }
    let pass := s.updDpll d.val fun x => { x with coreRetired := c.faulted && c.failed }
    let other : Change := { c with incoming := 1 - c.incoming, outgoing := 1 }
    happen s.live s
      (if !ok then
         (if !c.faulted then lost.endChange c stFault
          else if c.outgoing = 0 then lost.setChange { other with failed := true }
          else (lost.setChange { c with failed := true }).nextDpll { c with failed := true }).refreshHealth
       else if !c.faulted then pass.setChange { c with phase := 3 }
       else
         let freed (s : State) : State := s.updDpll d.val fun x => { x with coreFault := false }
         (if c.outgoing = 0 then (freed pass).swapCore d.val { other with done := c.done + 1, lastFreed := d.val }
          else ((if c.failed then freed pass else pass).setChange c).nextDpll c).refreshHealth)

/-- CORE_FOLLOW_DONE: the core has followed within 0.1 ns for 1 s and the roles swap (R489); a core that does not is retired. -/
def execCoreFollowDone (d : Fin 4) (ok : Bool) (s : State) : Ans :=
  match s.swapIn d.val 3 with
  | none => .next s
  | some c =>
    let lost := (evStepFailed 5 d.val d.val (dpllHa d.val) s).updDpll d.val fun x => { x with coreRetired := true }
    let c1 : Change := { c with done := c.done + 1, lastFreed := d.val }
    happen s.live s
      (if !ok then (lost.endChange c stFault).refreshHealth
       else if c.outgoing = 0 then s.swapCore d.val { c1 with phase := 1, incoming := 1 - c.incoming, outgoing := 1 }
       else (s.swapCore d.val c1).nextDpll c1)

/-! ### Handover (R491, spec/20 R522) -/

/-- Boot starts afresh at the Image phase with the slot the boot record names (spec/20 R522). -/
def State.restartImage (slot : Nat) (s : State) : State :=
  (s.withBoot { s.boot with phase := .image, bootState := 1, record := slot, trying := slot, fallback := false, causeA := 0, causeB := 0,
                            fwVersion := 0, fwImage := 0 }).emit (.bootRecord slot)

/-- SERVICE_HANDOVER (R491); in recovery it restarts boot (spec/20 R522). -/
def serviceHandoverOp : OpDef where
  code := 0x0E03
  queue := some 3
  lo := 1
  hi := 1
  long := true
  recovery := true
  targetOk := targetClerk
  check := fun c s =>
    firstRej [resv c 0 31 1, stateErr ((c.p 0).fld 0 0 == s.standbySlot && s.serv.verified.isSome) 0x42,
      stateErr (!s.live || s.pairReady) 0x3E, busy (!s.imageBusy && (s.change 0).isNone) 0x40]
  effect := fun c s =>
    let job := s.clerk.nextJob
    if s.live then
      let s1 := (s.startJob 0x0E03 c).withServ { s.serv with handover := some ⟨job, (c.p 0).fld 0 0, 1⟩ }
      (.accepted job, (s1.withHier { s1.hier with ctlStandby := 1 }).refreshHealth)
    else
      (.accepted job, (s.withClerk { s.clerk with nextJob := (job + 1) % 65536 }).restartImage ((c.p 0).fld 0 0))

def execServiceHandover (c : Cmd) (s : State) : Ans := serve serviceHandoverOp c s

/-- The handover in hand at a stage. -/
def State.handoverAt (s : State) (stage : Nat) : Option Handover :=
  match s.serv.handover with
  | some h => if h.stage = stage then some h else none
  | none => none

/-- A handover ends. -/
def State.endHandover (h : Handover) (status : Nat) (s : State) : State :=
  (s.withServ { s.serv with handover := none }).endJob h.job status [w32 s.boot.fwVersion]

/-- The pair that loads fails and is retired; the job ends FAULT (Table 18-3). -/
def State.pairLost (h : Handover) (s : State) : State :=
  let b := 1 - s.hier.ctlActive
  (((evStepFailed 4 0 b clerkHa (evExhausted 3 (haOf 0 b 0x3F) (s.withHier { s.hier with ctlStandby := 2 }))).endHandover h stFault)).refreshHealth

/-- HANDOVER_LOAD_DONE: the standby pair has loaded and tested the image, or has failed (R491). -/
def execHandoverLoadDone (ok : Bool) (s : State) : Ans :=
  match s.handoverAt 1 with
  | none => .next s
  | some h =>
    happen s.live s
      (if ok then ((s.withHier { s.hier with ctlStandby := 0 }).withServ { s.serv with handover := some { h with stage := 2 } }).refreshHealth
       else s.pairLost h)

/-- HANDOVER_TAKEOVER: the standby pair takes over on the verified image (R491); the boot record names its slot (spec/20
R520). -/
def execHandoverTakeover (s : State) : Ans :=
  match s.handoverAt 2, s.serv.verified with
  | some h, some v =>
    let old := s.hier.ctlActive
    let s1 := s.withHier { s.hier with ctlActive := 1 - old, ctlStandby := 1 }
    let s2 := s1.withBoot { s1.boot with fwImage := h.slot, fwVersion := v.version, record := h.slot }
    let s3 := (s2.withServ { s2.serv with running := v, verified := none, handover := some { h with stage := 3 } }).extend 1 v.digest
    happen (s.live && s.pairReady) s
      ((evStep 4 0 (1 - old) old clerkHa s3.measureSvn).emit (.bootRecord h.slot)).refreshHealth
  | _, _ => .next s

/-- FORMER_PAIR_READY: the former active pair has loaded the image and tested, and becomes the standby pair, or has failed
(R491). A job cancelled meanwhile ends ABORTED (R492). -/
def execFormerPairReady (ok : Bool) (s : State) : Ans :=
  match s.handoverAt 3 with
  | none => .next s
  | some h =>
    let cancelled := s.clerk.jobs.any fun j => j.num == h.job && j.cancel
    happen s.live s
      (if ok then ((s.withHier { s.hier with ctlStandby := 0 }).endHandover h (if cancelled then stAborted else stOk)).refreshHealth
       else s.pairLost h)

/-! ### Status and ageing (R493, R496) -/

/-- The results of SERVICE_STATUS (Table 18-7). -/
def serviceStatus (r : Nat) (s : State) : List Word :=
  let head : Word :=
    match s.change r, s.serv.handover with
    | some c, _ => mkw [(31, 28, c.method), (27, 24, if c.phase = 0 then 4 else c.phase), (23, 16, c.done), (15, 8, c.total)]
    | none, some h => if r = 0 then mkw [(31, 28, 4), (23, 16, if h.stage = 3 then 1 else 0), (15, 8, 1)] else 0
    | none, none => 0
  let job : Option Nat :=
    match s.change r, s.serv.handover with
    | some c, _ => c.job
    | none, some h => if r = 0 then some h.job else none
    | none, none => none
  let images := ((List.range (blocksOf r)).filter fun b => (s.block r b).state != 3).map fun b => (s.block r b).image.getD s.hier.baseImage
  let new := (images.filter (· == s.serv.running.version)).length
  [head, mkw [(31, 16, new), (15, 0, images.length - new)], w32 (images.foldl min (images.headD 0)),
   mkw [(16, 16, b2n job.isSome), (15, 0, job.getD 0)]]

/-- SERVICE_STATUS (R493). -/
def serviceStatusOp : OpDef where
  code := 0x0E05
  lo := 0
  hi := 0
  targetOk := targetAnyRegion
  effect := reads fun c s => serviceStatus (haRegion c.target.toNat) s

def execServiceStatus (c : Cmd) (s : State) : Ans := serve serviceStatusOp c s

/-- The results of SERVICE_AGEING_READ (Table 18-8). -/
def ageingWords (s : State) : List Word :=
  let worst := s.serv.growth.foldl (fun (x : Nat × Nat) e => if x.2 < e.2 then e else x) (0, 0)
  [mkw [(31, 16, s.serv.vddFirst), (15, 0, s.serv.vddNow)], mkw [(15, 0, s.serv.yearsLeft)],
   mkw [(31, 24, worst.1), (15, 0, sat 0xFFFF worst.2)], w32 s.serv.days]

/-- SERVICE_AGEING_READ (R496). -/
def serviceAgeingReadOp : OpDef where
  code := 0x0E06
  lo := 0
  hi := 0
  targetOk := targetClerk
  effect := reads fun _ s => ageingWords s

def execServiceAgeingRead (c : Cmd) (s : State) : Ans := serve serviceAgeingReadOp c s

/-- AGEING_DAILY: the end-of-life-equivalent voltage is recorded and projected (R496). `years` is the projection of ASSAY's fit in
tenths of a year, `growth` the delay growth of each region since the first record, in 0.01 %. -/
def execAgeingDaily (mv years : Nat) (growth : List (Nat × Nat)) (s : State) : Ans :=
  let days := s.serv.days + 1
  let left := if days < 30 ∨ 65534 < years then 0xFFFF else years
  let old := s.serv.yearsLeft
  let s1 := s.withServ { s.serv with
    days := days, vddFirst := if s.serv.days = 0 then mv else s.serv.vddFirst, vddNow := mv, yearsLeft := left
    growth := growth.foldl (fun t e => if e.1 ≤ 0x1D then Tab.set 0 t e.1 e.2 else t) s.serv.growth }
  happen s.live s
    (if left < 10 ∧ 10 ≤ old then s1.raise 0x0E03 3 clerkHa left
     else if left < 50 ∧ 50 ≤ old then s1.raise 0x0E03 2 clerkHa left
     else s1)

end Sys2Proof.Machine
end

