-- ==== Sys2Proof/Machine/Boot.lean ====
section
/-!
DEFINITION. Cold reset, the phases of boot, the endpoint, and the test access port (spec/20 R513 to R525, spec/21 R539 to
R541).
-/

set_option Elab.async false

namespace Sys2Proof.Machine

/-- A cold reset (R10, R516 to R518): everything at its reset value but what outlives it: the flash (image slots, boot record,
ageing records), the fuses, the TAP. Boot has not begun; neither control pair is ready. The crystals are as they are. -/
def State.coldReset (s : State) : State :=
  { State.reset with
    pending := s.pending
    out := s.out
    free := s.free
    hier := { Hier.reset with ctlStandby := 1 }
    hall := Hall.cold s.hall.fuses
    serv := { Serv.reset with
      slotA := s.serv.slotA, slotB := s.serv.slotB, days := s.serv.days, vddFirst := s.serv.vddFirst, vddNow := s.serv.vddNow,
      yearsLeft := s.serv.yearsLeft, growth := s.serv.growth }
    timing := { State.reset.timing with
      xtals := ⟨{ still := s.timing.xtals.a.still }, { still := s.timing.xtals.b.still }⟩ }
    boot := { Boot.reset with
      phase := .reset, bootState := 1, rstN := s.boot.rstN, perst := s.boot.perst, railsGood := s.boot.railsGood, cause := s.boot.cause
      record := s.boot.record, endpointUp := false, endpointConfigured := false, tap := s.boot.tap, pinsTaken := s.boot.pinsTaken } }

/-- A cold reset for a cause. One that meets a reset already held leaves its cause (DESIGN CHOICE, notes/assumptions/25). -/
def State.resetFor (cause : Nat) (s : State) : State :=
  let t := s.coldReset
  if s.boot.phase = .reset then t else t.withBoot { t.boot with cause := cause }

/-- POWER_ON: the supplies come up in sequence; the TAP starts from reset (R513, R524). -/
def execPowerOn (s : State) : Ans :=
  let t := s.coldReset
  .next (t.withBoot { t.boot with cause := 1, railsGood := true, rstN := false, tap := 1, pinsTaken := false })

/-- RST_N_ASSERT: RST_N is low for 10 µs (R516). -/
def execRstNAssert (s : State) : Ans :=
  let t := s.resetFor 2
  .next (t.withBoot { t.boot with rstN := false })

/-- PERST_ASSERT: PERST# is low for 10 µs (R516). -/
def execPerstAssert (s : State) : Ans :=
  let t := s.resetFor 3
  .next (t.withBoot { t.boot with perst := false })

/-- BROWN_OUT: a monitored rail is below its band for 10 µs (R515). -/
def execBrownOut (s : State) : Ans :=
  let t := s.resetFor 4
  .next (t.withBoot { t.boot with railsGood := false })

/-- BOOT_BEGIN: both pins are high, every rail is in its band and a crystal shows activity; `x0` and `x1` say which do. XTAL0 is
active where it does (R516, R519, R525). No instruction of the TAP holds the pins (R540). -/
def execBootBegin (x0 x1 : Bool) (s : State) : Ans :=
  let t := s.withBoot { s.boot with phase := .romStart, bootState := 1, rstN := true, perst := true, railsGood := true }
  happen (s.boot.phase == .reset && !s.boot.pinsTaken && (x0 || x1)) s
    (t.withTiming { t.timing with xtals := ⟨{ still := !x0 }, { still := !x1 }⟩, xtal := !x0 })

/-- ROM_START_DONE: register 0 is extended, the boot record names the slot to try (R519, R520). -/
def execRomStartDone (s : State) : Ans :=
  let t := s.extend 0 Config.bootRom
  happen (s.boot.phase == .romStart && !s.timing.clockLost) s
    (t.withBoot { t.boot with phase := .image, bootState := 1, trying := t.boot.record })

/-- The verdict on the slot being tried is noted (Table 20-5). -/
def Boot.judged (cause : Nat) (b : Boot) : Boot := if b.trying = 0 then { b with causeA := cause } else { b with causeB := cause }

/-- IMAGE_READ_DONE: the slot tried has been read and checked; `readError` is a flash read error, `outside` the words of a slot that
the device has not written. On a failure the other slot is tried, then recovery (R452, R519, R522). -/
def execImageReadDone (readError : Bool) (outside : List Word) (s : State) : Ans :=
  let slot := s.boot.trying
  let img := (s.slotWords slot).getD outside
  let cause := if readError then 6 else imageCause s.hall.fuses img
  let i := imageInfo img
  let s1 := s.withBoot (s.boot.judged cause)
  happen (s.boot.phase == .image && !s.timing.clockLost) s
    (if cause = 0 then
       let s2 := s1.withBoot { s1.boot with phase := .selfTest, bootState := 2, slot := slot, fwImage := slot, fwVersion := i.version }
       let s3 := (s2.withServ { s2.serv with running := i }).withHier { s2.hier with baseImage := i.version }
       (s3.extend 1 i.digest).measureSvn
     else
       let s2 := s1.imageRejected cause slot
       if s.boot.fallback then s2.withBoot { s2.boot with phase := .recovery, bootState := 1, slot := 0 }
       else s2.withBoot { s2.boot with phase := .image, bootState := 1, fallback := true, trying := 1 - slot })

/-- Self-test of a region (R521): blocks whose cells fail are retired as at RETEST, the others take the positions. -/
def State.selfTestRegion (bad : List (Nat × Nat × Nat)) (r : Nat) (s : State) : State :=
  let mine := (bad.filter fun e => e.1 == r).map (·.2)
  if mine.isEmpty then s
  else
    let t := s.retestRegion r false mine
    if t.1 then t.2
    else
      let s1 := t.2.withBoot { t.2.boot with regionsFailed := t.2.boot.regionsFailed ++ [r] }
      if isPooled r then s1.setRegion r { s1.region r with poolRole := 3 } else s1

/-- Blocks and cells retired, for CLERK_BOOT_STATUS. -/
def State.noteRetired (s : State) : State :=
  let bs := s.hier.blocks.filterMap (·.2)
  s.withBoot { s.boot with blocksRetired := (bs.filter fun b => b.state == 3).length, cellsRetired := (bs.map fun b => b.retired.length).sum }

/-- SELF_TEST_DONE: self-test ends (R519, R521, R523): `bad` cells as (region, block, cell), stacks and control pairs that failed.
The boot record names the slot that booted (R520). -/
def execSelfTestDone (bad : List (Nat × Nat × Nat)) (lost : List (Fin 4)) (pair0 pair1 : Bool) (s : State) : Ans :=
  let s1 := ((List.range 0x1E).foldl (fun s r => s.selfTestRegion bad r) s).noteRetired
  let s2 := lost.foldl (fun s k => s.loseStack k.val 5) s1
  let lost (s : State) : State := evExhausted 3 (haOf 0 (1 - s.hier.ctlActive) 0x3F) s
  let s3 := if pair0 then s2.withHier { s2.hier with ctlActive := 0, ctlStandby := if pair1 then 0 else 2 }
    else s2.withHier { s2.hier with ctlActive := 1, ctlStandby := 2 }
  let s4 := if pair0 && pair1 then s3 else lost s3
  let s5 := s4.withBoot { s4.boot with
    phase := .ready, bootState := 3, bootTime := s4.time / micro % 2 ^ 32, record := s4.boot.slot }
  happen (s.boot.phase == .selfTest && !s.timing.clockLost) s
    (if pair0 || pair1 then ((s5.emit (.bootRecord s5.boot.slot)).refreshPools).refreshHealth
     else s1.withBoot { s1.boot with phase := .stopped, bootState := 2 })

/-- ENDPOINT_READY: the endpoint answers configuration requests (R519). -/
def execEndpointReady (s : State) : Ans :=
  happen (s.boot.phase != .reset && !s.timing.clockLost) s (s.withBoot { s.boot with endpointUp := true })

/-- ENDPOINT_CONFIGURATION: the host gives BAR0 its address and sets Memory Space Enable (R519). -/
def execEndpointConfiguration (s : State) : Ans :=
  happen s.boot.endpointUp s (s.withBoot { s.boot with endpointConfigured := true })

/-! ### The test access port (R539 to R541) -/

/-- The instructions that take the pins (Table 21-10). -/
def takesPins (code : Nat) : Bool := decide (3 ≤ code ∧ code ≤ 7)

/-- TAP_INSTRUCTION_UPDATE: one that takes the pins acts as RST_N held low until the TAP is reset (R540). -/
def execTapInstructionUpdate (code : Byte) (s : State) : Ans :=
  let t := if takesPins code.toNat then s.resetFor 2 else s
  .next (t.withBoot { t.boot with tap := code.toNat, pinsTaken := t.boot.pinsTaken || takesPins code.toNat })

/-- TAP_RESET: TRST_N, or TMS high for five TCK cycles; the instruction is IDCODE again and the pins are released (R540,
IEEE 1149.1). -/
def execTapReset (s : State) : Ans := .next (s.withBoot { s.boot with tap := 1, pinsTaken := false })

end Sys2Proof.Machine
end

