-- ==== Sys2Proof/Machine/Client.lean ====
section
/-!
DEFINITION. Opcodes and happenings of the optical client lanes (spec/11).
-/

set_option Elab.async false

namespace Sys2Proof.Machine

def targetClient : State → Nat → Bool := targetRegions 0x14 0x15

/-- The group a TARGET names. -/
def clientGroup (c : Cmd) : Fin 2 := if haRegion c.target.toNat = 0x15 then 1 else 0

/-- The lanes of a mask field. -/
def maskLanes (n mask : Nat) : List Nat := (List.range n).filter fun l => mask / 2 ^ l % 2 == 1

/-- The interfaces of a group. -/
def ofGroup (g : Fin 2) (i : Nat) : Bool := decide (240 + 8 * g.val ≤ i ∧ i < 248 + 8 * g.val)

/-- CLIENT_GROUP_CONFIG (Table 11-7, R344). -/
def clientGroupConfigOp : OpDef where
  code := 0x0A01
  lo := 1
  hi := 1
  targetOk := targetClient
  check := fun c s =>
    let g := clientGroup c
    let x := s.lanes.groups.get g
    let still := (c.p 0).fld 0 0 == x.rate || (List.range 8).all fun l => (s.cl g l).rx == .off && (s.cl g l).tx == .off
    firstRej [resv c 0 31 16, param ((c.p 0).fld 15 8 != 0) 0, resv c 0 7 1, stateErr still 0x26]
  effect := fun c s =>
    let g := clientGroup c
    let r := (c.p 0).fld 0 0
    let t := s.withLanes { s.lanes with groups := s.lanes.groups.upd g fun x => { x with eyeMin := (c.p 0).fld 15 8, rate := r } }
    if r ≠ (s.lanes.groups.get g).rate ∧ aggregateMax < t.aggregateBut 256 then (.refused ⟨stRefused, 0xFFFF, 0x2D⟩, s)
    else (.ok [], t)

def execClientGroupConfig (c : Cmd) (s : State) : Ans := serve clientGroupConfigOp c s

/-- The interface a CLIENT_IFACE_SET names and defines (Table 11-8). -/
def clientIfaceOf (c : Cmd) : Nat × LaneIface :=
  (240 + 8 * (clientGroup c).val + (c.p 0).fld 5 3,
   { mode := (c.p 0).fld 31 30, width := 2 ^ (c.p 0).fld 1 0, aligned := true })

/-- CLIENT_IFACE_SET (Table 11-8, R340, R344). -/
def clientIfaceSetOp : OpDef where
  code := 0x0A02
  lo := 1
  hi := 1
  targetOk := targetClient
  check := fun c s =>
    let x := clientIfaceOf c
    let del := x.2.mode == 0
    firstRej [param (x.2.mode != 3) 0, resv c 0 29 6, param (del || (c.p 0).fld 5 3 % x.2.width == 0) 0 5, resv c 0 2 2,
      stateErr (del || !s.lanesTaken x.1 x.2) 0x27, stateErr (!del || !s.ifaceUsed x.1) 0x28]
  effect := fun c s =>
    let x := clientIfaceOf c
    if x.2.mode = 0 then (.ok [], s.deleteIface x.1)
    else
      let own := x.2.width * clientLaneRate (s.lanes.groups.get (clientGroup c)).rate * 1000
      if aggregateMax < s.aggregateBut x.1 + own then (.refused ⟨stRefused, 0xFFFF, 0x2D⟩, s)
      else (.ok [], s.defineIface x.1 x.2)

def execClientIfaceSet (c : Cmd) (s : State) : Ans := serve clientIfaceSetOp c s

/-- Enable or disable a lane's directions (R345). -/
def State.enableClient (g : Fin 2) (rx tx on : Bool) (s : State) (l : Nat) : State :=
  let s1 := if !rx then s
    else if on then
      if (s.cl g l).rx = .off then (s.updCl g l fun x => { x with los := true }).moveClient g l .signalWait 0 else s
    else (s.moveClient g l .off 0).updCl g l fun x => { x with los := false }
  if !tx then s1
  else s1.updCl g l fun x => { x with tx := if on then (if x.tx = .off then .muted else x.tx) else .off }

/-- CLIENT_LANE_ENABLE (Table 11-9, R345). -/
def clientLaneEnableOp : OpDef where
  code := 0x0A03
  lo := 1
  hi := 1
  targetOk := targetClient
  check := fun c _ => firstRej [resv c 0 31 24, param ((c.p 0).fld 23 16 != 0) 0, resv c 0 15 10,
    param ((c.p 0).fld 9 8 != 0) 0, resv c 0 7 1]
  effect := sets fun c s =>
    ((maskLanes 8 ((c.p 0).fld 23 16)).foldl
      (State.enableClient (clientGroup c) ((c.p 0).bit 8) ((c.p 0).bit 9) ((c.p 0).bit 0)) s).refreshBoot

def execClientLaneEnable (c : Cmd) (s : State) : Ans := serve clientLaneEnableOp c s

/-- CLIENT_LANE_MUTE (Table 11-9, R345): codes 0 from the commit, full drive at once. -/
def clientLaneMuteOp : OpDef where
  code := 0x0A04
  queue := some 0
  lo := 1
  hi := 1
  targetOk := targetClient
  check := fun c s =>
    let g := clientGroup c
    firstRej [resv c 0 31 24, param ((c.p 0).fld 23 16 != 0) 0, resv c 0 15 1,
      stateErr ((c.p 0).bit 0 || (maskLanes 8 ((c.p 0).fld 23 16)).all fun l => (s.cl g l).tx != .off) 0xC]
  effect := sets fun c s =>
    let g := clientGroup c
    (maskLanes 8 ((c.p 0).fld 23 16)).foldl (fun s l =>
      match (s.cl g l).tx, (c.p 0).bit 0 with
      | .on, true => (s.updCl g l fun x => { x with tx := .muted }).bump (clientCtr g l 10) 1
      | .muted, false => s.updCl g l fun x => { x with tx := .on }
      | _, _ => s) s

def execClientLaneMute (c : Cmd) (s : State) : Ans := serve clientLaneMuteOp c s

/-- CLIENT_EQ_SET (Table 11-10, R346). -/
def clientEqSetOp : OpDef where
  code := 0x0A05
  lo := 1
  hi := 1
  targetOk := targetClient
  check := fun c s =>
    let x := s.cl (clientGroup c) ((c.p 0).fld 31 29)
    firstRej [param (decide (6 ≤ (c.p 0).fld 27 24 ∧ (c.p 0).fld 27 24 ≤ 14)) 0,
      param (decide (2 ≤ (c.p 0).fld 23 20 ∧ (c.p 0).fld 23 20 ≤ 12)) 0, resv c 0 17 0,
      stateErr (x.rx == .off || (c.p 0).fld 23 20 == x.main) 2]
  effect := sets fun c s => s.updCl (clientGroup c) ((c.p 0).fld 31 29) fun x =>
    { x with adapt := (c.p 0).bit 28, mu := (c.p 0).fld 27 24, main := (c.p 0).fld 23 20, dfe := (c.p 0).bit 19,
             rxPrecode := (c.p 0).bit 18 }

def execClientEqSet (c : Cmd) (s : State) : Ans := serve clientEqSetOp c s

/-- The seven taps of a CLIENT_TX_SET. -/
def txTaps (c : Cmd) : List Int :=
  [(c.p 1).sfld 7 0, (c.p 1).sfld 15 8, (c.p 1).sfld 23 16, (c.p 1).sfld 31 24, (c.p 2).sfld 7 0, (c.p 2).sfld 15 8, (c.p 2).sfld 23 16]

/-- CLIENT_TX_SET (Table 11-11, R346). -/
def clientTxSetOp : OpDef where
  code := 0x0A06
  lo := 3
  hi := 3
  targetOk := targetClient
  check := fun c _ =>
    firstRej [resv c 0 27 22, param (decide (16 ≤ (c.p 0).fld 21 16)) 0, resv c 0 15 10,
      param (decide (900 ≤ (c.p 0).fld 9 0 ∧ (c.p 0).fld 9 0 ≤ 1000)) 0,
      param (decide (((txTaps c).map Int.natAbs).sum ≤ 64)) 1, resv c 2 31 24]
  effect := sets fun c s => s.updCl (clientGroup c) ((c.p 0).fld 31 29) fun x =>
    { x with txPrecode := (c.p 0).bit 28, swing := (c.p 0).fld 21 16, rlm := (c.p 0).fld 9 0, taps := txTaps c }

def execClientTxSet (c : Cmd) (s : State) : Ans := serve clientTxSetOp c s

/-- CLIENT_PATTERN_SET (Table 11-12, R347). -/
def clientPatternSetOp : OpDef where
  code := 0x0A07
  lo := 1
  hi := 1
  targetOk := targetClient
  check := fun c _ => firstRej [resv c 0 26 4, param (decide ((c.p 0).fld 3 0 ≤ 2)) 0]
  effect := sets fun c s =>
    let g := clientGroup c; let l := (c.p 0).fld 31 29
    (s.updCl g l fun x => { x with gen := (c.p 0).bit 28, check := (c.p 0).bit 27, pattern := (c.p 0).fld 3 0 }).refreshLane true
      (8 * g.val + l)

def execClientPatternSet (c : Cmd) (s : State) : Ans := serve clientPatternSetOp c s

/-- The words of CLIENT_LANE_STATUS (Table 11-13). `est` is a free value for each estimate, which reads as zero where the lane
has none: eye, SNR and skew outside UP, RMS in OFF. -/
def clientLaneStatus (x : ClientLane) (est : Nat → Nat) : List Word :=
  let up (n : Nat) : Nat := if x.rx = .up then n else 0
  [mkw [(31, 28, x.rx.clientCode), (27, 24, x.tx.code), (23, 23, b2n (x.adcFault || x.dacFault)), (22, 22, b2n x.gen),
        (21, 21, b2n x.check), (7, 0, if x.rx = .up then x.peer else 0xFF)],
   mkw [(31, 16, up (est 0)), (15, 0, up (est 1))], mkw [(31, 16, up (est 2)), (15, 0, up (est 3))],
   w32 (x.second.getD 0 0), w32 (x.second.getD 1 0),
   mkw [(31, 16, sat 65535 (x.second.getD 2 0)), (15, 8, if x.rx = .off then 0 else est 4)]]

/-- CLIENT_LANE_STATUS (Table 11-13). -/
def clientLaneStatusOp : OpDef where
  code := 0x0A08
  lo := 1
  hi := 1
  targetOk := targetClient
  check := fun c _ => resv c 0 31 3
  effect := fun c s =>
    (.ok (clientLaneStatus (s.cl (clientGroup c) ((c.p 0).fld 2 0)) fun k => Config.freeValue (s.free + k)), s.withFree (s.free + 5))

def execClientLaneStatus (c : Cmd) (s : State) : Ans := serve clientLaneStatusOp c s

/-- CLIENT_COUNTERS (R348). -/
def clientCountersOp : OpDef where
  code := 0x0A09
  lo := 1
  hi := 1
  targetOk := targetClient
  check := fun c _ => resv c 0 31 3
  effect := reads fun c s => s.counterWords (clientCtr (clientGroup c) ((c.p 0).fld 2 0) 0) 12

def execClientCounters (c : Cmd) (s : State) : Ans := serve clientCountersOp c s

/-! ### Happenings (R336 to R339, R349) -/

/-- CLIENT_LOS_DECLARE (R336). -/
def execClientLosDeclare (g : Fin 2) (l : Fin 8) (s : State) : Ans :=
  let x := s.cl g l.val
  happen (s.live && x.rx != .off && !x.los) s
    (((s.updCl g l.val fun x => { x with los := true }).bump (clientCtr g l.val 5) 1).moveClient g l.val .signalWait 1)

/-- CLIENT_LOS_CLEAR: bring-up starts, unless an analogue fault stands (R336, R337, R350). -/
def execClientLosClear (g : Fin 2) (l : Fin 8) (s : State) : Ans :=
  let x := s.cl g l.val
  let s1 := s.updCl g l.val fun x => { x with los := false }
  happen (s.live && x.rx != .off && x.los) s (if x.adcFault || x.dacFault then s1 else s1.moveClient g l.val .train 2)

/-- CLIENT_BRINGUP_STEP_DONE: the step in hand of Table 11-4 is done. At the last the lane is UP; it decodes V0 `peer`, and
`late` says that the spread of arrival in its interface is above 180 ns (R337, R340). -/
def execClientBringupStepDone (g : Fin 2) (l peer : Fin 8) (late : Bool) (s : State) : Ans :=
  let x := s.cl g l.val
  happen (s.live && (x.rx == .train || x.rx == .align)) s
    (if x.step = 0 ∨ x.step = 2 then s.updCl g l.val fun x => { x with step := x.step + 1 }
     else if x.step = 1 then let f := s.freeCause; f.2.moveClient g l.val .align f.1
     else (s.updCl g l.val fun x => { x with peer := peer.val, late := late }).moveClient g l.val .up 3)

/-- CLIENT_BRINGUP_EXPIRY: a step misses its bound; bring-up restarts at TRAIN (R337). -/
def execClientBringupExpiry (g : Fin 2) (l : Fin 8) (s : State) : Ans :=
  let x := s.cl g l.val
  let s1 := s.bump (clientCtr g l.val 7) 1
  happen (s.live && (x.rx == .train || x.rx == .align)) s
    (if x.rx = .train then evClientLane g l.val .train .train 5 (s1.updCl g l.val fun x => { x with step := 0 })
     else s1.moveClient g l.val .train 5)

/-- CLIENT_LOL: a lane in UP loses lock and returns to TRAIN (R338). -/
def execClientLol (g : Fin 2) (l : Fin 8) (s : State) : Ans :=
  happen (s.live && (s.cl g l.val).rx == .up) s ((s.bump (clientCtr g l.val 6) 1).moveClient g l.val .train 4)

/-- An analogue fault of a client lane: `adc` or DAC (R339, Table 11-14). -/
def State.clientFault (g : Fin 2) (l : Nat) (adc : Bool) (s : State) : State :=
  let s1 := (s.updCl g l fun x => if adc then { x with adcFault := true } else { x with dacFault := true }).raise 0x0A02 4
    (haOf (0x14 + g.val) l 0) (b2n adc * 16 + l)
  let rx := (s1.cl g l).rx
  (if rx = .off ∨ rx = .signalWait then s1 else let f := s1.freeCause; f.2.moveClient g l .signalWait f.1).refreshHealth

/-- CLIENT_ANALOGUE_FAULT (R339, R350). -/
def execClientAnalogueFault (g : Fin 2) (l : Fin 8) (adc : Bool) (s : State) : Ans :=
  let x := s.cl g l.val
  happen (s.live && (x.rx != .off || x.tx != .off) && !(if adc then x.adcFault else x.dacFault)) s (s.clientFault g l.val adc)

/-- CLIENT_LANE_FAULT_END: the fault stops standing; with LOS clear the lane leaves SIGNAL_WAIT (R339). -/
def execClientLaneFaultEnd (g : Fin 2) (l : Fin 8) (adc : Bool) (s : State) : Ans :=
  let s1 := s.updCl g l.val fun x => if adc then { x with adcFault := false } else { x with dacFault := false }
  let x := s1.cl g l.val
  let was := if adc then (s.cl g l.val).adcFault else (s.cl g l.val).dacFault
  happen (s.live && was) s
    (if x.rx = .signalWait ∧ x.los = false ∧ x.adcFault = false ∧ x.dacFault = false then
      let f := s1.freeCause; (f.2.moveClient g l.val .train f.1).refreshHealth
     else s1.refreshHealth)

/-- CLIENT_EYE_HOLD: EYE_WIDTH stayed below EYE_MIN, or at or above it, for one second (Table 11-14). -/
def execClientEyeHold (g : Fin 2) (l : Fin 8) (below : Bool) (s : State) : Ans :=
  let x := s.cl g l.val
  happen (s.live && x.rx == .up && x.eyeLow != below) s
    ((s.updCl g l.val fun x => { x with eyeLow := below }).raise 0x0A03 2 (clientHa g) (b2n below * 2 ^ 31 + l.val))

end Sys2Proof.Machine
end

