-- ==== Sys2Proof/Machine/HostLanes.lean ====
section
/-!
DEFINITION. Opcodes and happenings of the host lanes (spec/12).
-/

set_option Elab.async false

namespace Sys2Proof.Machine

def targetHost : State → Nat → Bool := targetRegions 0x16 0x1D

/-- The first lane of the region a TARGET names, and lane `l` of it. -/
def hostLane (c : Cmd) (l : Nat) : Nat := 16 * (haRegion c.target.toNat - 0x16) + l

/-- Three words of an entry of HOST_EQ_LOAD (Table 12-3). -/
def eqEntry (c : Cmd) (e : Nat) : List Word := (c.params.drop (1 + 3 * e)).take 3

/-- The key of an entry: lane × 8 + RATE. -/
def eqKey (c : Cmd) (e : Nat) : Nat := (c.p (1 + 3 * e)).fld 31 25 * 8 + (c.p (1 + 3 * e)).fld 24 22

def eqChecks (c : Cmd) (e : Nat) : List (Option Rej) :=
  let i := 1 + 3 * e
  let w := c.p i; let t := c.p (i + 1)
  [param (decide (w.fld 24 22 ≤ 5)) i, resv c i 21 20, param (decide (w.fld 19 14 ≤ 36)) i,
   param (decide (112 ≤ w.fld 31 25) || w.fld 19 14 == 0) i 0x2C, param (decide (w.fld 13 8 ≤ 48)) i,
   param (!((List.range e).any fun j => eqKey c j == eqKey c e)) i,
   param (decide (0 < t.sfld 15 8)) (i + 1),
   param (decide ((t.sfld 31 24).natAbs + (t.sfld 23 16).natAbs + (t.sfld 15 8).natAbs + (t.sfld 7 0).natAbs ≤ 64)) (i + 1),
   param (decide (40 ≤ (c.p (i + 2)).fld 31 24 ∧ (c.p (i + 2)).fld 31 24 ≤ 120)) (i + 2), resv c (i + 2) 23 0]

/-- HOST_EQ_LOAD (Table 12-3, R356, R362). Measurement register 4 takes its parameter words (spec/16 R450). -/
def hostEqLoadOp : OpDef where
  code := 0x0B01
  queue := some 2
  lo := 4
  hi := 2044
  targetOk := targetHost
  check := fun c _ =>
    let n := (c.p 0).fld 9 0
    firstRej ([resv c 0 31 10, param (decide (1 ≤ n ∧ n ≤ 681)) 0, param (c.params.length == 1 + 3 * n) 0xFFFF 5] ++
      (List.range n).flatMap (eqChecks c))
  effect := sets fun c s =>
    (s.withLanes { s.lanes with
      eq := (List.range ((c.p 0).fld 9 0)).foldl (fun t e => Tab.set [] t (eqKey c e) (eqEntry c e)) s.lanes.eq }).extend 4
      (bytesOf c.params)

def execHostEqLoad (c : Cmd) (s : State) : Ans := serve hostEqLoadOp c s

/-- RATE in force of a lane; 0 while both directions are OFF (Table 12-7). -/
def HostLane.rateNow (x : HostLane) : Nat := if x.rx = .off ∧ x.tx = .off then 0 else x.rate

/-- The interface a HOST_IFACE_SET names and defines (R354, R362). -/
def hostIfaceOf (c : Cmd) (s : State) : Nat × LaneIface :=
  let i := hostLane c ((c.p 0).fld 6 3)
  (i, { mode := (c.p 0).fld 31 30, width := 2 ^ (c.p 0).fld 2 0, rate := (s.hl i).rateNow })

/-- HOST_IFACE_SET (R354, R363). The rate of an interface is that in force on its lanes. -/
def hostIfaceSetOp : OpDef where
  code := 0x0B02
  lo := 1
  hi := 1
  targetOk := targetHost
  check := fun c s =>
    let x := hostIfaceOf c s
    let del := x.2.mode == 0
    firstRej [resv c 0 29 7, param (del || decide ((c.p 0).fld 2 0 ≤ 4)) 0,
      param (del || (c.p 0).fld 6 3 % x.2.width == 0) 0 5,
      param (del || (if x.2.mode = 3 then x.2.width == 1 else (signalRate x.2.width x.2.rate).isSome)) 0 0x2B,
      stateErr (del || !s.lanesTaken x.1 x.2) 0x27,
      stateErr (del || (ifaceLanes x.1 x.2).all fun l => (s.hl l).rateNow == x.2.rate) 0x2A,
      stateErr (!del || !s.ifaceUsed x.1) 0x28]
  effect := fun c s =>
    let x := hostIfaceOf c s
    if x.2.mode = 0 then (.ok [], s.deleteIface x.1)
    else
      let own := if x.2.mode = 3 then hostLaneKbps x.2.rate else (signalRate x.2.width x.2.rate).getD 0 * 1000000
      if aggregateMax < s.aggregateBut x.1 + own then (.refused ⟨stRefused, 0xFFFF, 0x2D⟩, s)
      else (.ok [], s.defineIface x.1 x.2)

def execHostIfaceSet (c : Cmd) (s : State) : Ans := serve hostIfaceSetOp c s

/-- The interface that a host lane belongs to. -/
def State.ifaceOfHost (s : State) (l : Nat) : Option (Nat × LaneIface) :=
  (s.lanes.ifaces.filterMap fun e => e.2.map fun x => (e.1, x)).find? fun e =>
    decide (e.1 < 240) && (ifaceLanes e.1 e.2).contains l

/-- Enable or disable a host lane's directions (R357, R363). -/
def State.enableHost (c : Cmd) (s : State) (k : Nat) : State :=
  let l := hostLane c k
  let rx := (c.p 0).bit 8; let tx := (c.p 0).bit 9; let on := (c.p 0).bit 0
  let s0 := if on ∧ (s.hl l).rx = .off ∧ (s.hl l).tx = .off then s.updHl l fun x => { x with rate := (c.p 0).fld 12 10 } else s
  let s1 := if !rx then s0
    else if on then
      if (s0.hl l).rx = .off then (s0.updHl l fun x => { x with los := true }).moveHost l .signalWait 0 else s0
    else (s0.moveHost l .off 0).updHl l fun x => { x with los := false }
  if !tx then s1
  else s1.updHl l fun x =>
    if on then { x with tx := if x.tx = .off then .muted else x.tx } else { x with tx := .off, inject := none }

/-- HOST_LANE_ENABLE (R356, R357, R363). -/
def hostLaneEnableOp : OpDef where
  code := 0x0B03
  lo := 1
  hi := 1
  targetOk := targetHost
  check := fun c s =>
    let ls := (maskLanes 16 ((c.p 0).fld 31 16)).map (hostLane c)
    let rate := (c.p 0).fld 12 10
    let on := (c.p 0).bit 0
    let off (l : Nat) : Bool := (s.hl l).rx == .off && (s.hl l).tx == .off
    firstRej [param ((c.p 0).fld 31 16 != 0) 0, resv c 0 15 13, param (decide (rate ≤ 5)) 0, param ((c.p 0).fld 9 8 != 0) 0,
      resv c 0 7 1, stateErr (!on || ls.all fun l => off l || (s.hl l).rate == rate) 2,
      stateErr (!on || ls.all fun l => match s.ifaceOfHost l with | some e => e.2.rate == rate | none => true) 0x2A,
      stateErr (!on || ls.all fun l => !off l || Tab.get [] s.lanes.eq (l * 8 + rate) != []) 0x29]
  effect := sets fun c s => ((maskLanes 16 ((c.p 0).fld 31 16)).foldl (State.enableHost c) s).refreshBoot

def execHostLaneEnable (c : Cmd) (s : State) : Ans := serve hostLaneEnableOp c s

/-- HOST_LANE_SQUELCH (R357, R363). -/
def hostLaneSquelchOp : OpDef where
  code := 0x0B04
  queue := some 0
  lo := 1
  hi := 1
  targetOk := targetHost
  check := fun c s =>
    firstRej [param ((c.p 0).fld 31 16 != 0) 0, resv c 0 15 1,
      stateErr ((c.p 0).bit 0 || (maskLanes 16 ((c.p 0).fld 31 16)).all fun l => (s.hl (hostLane c l)).tx != .off) 0xC]
  effect := sets fun c s =>
    (maskLanes 16 ((c.p 0).fld 31 16)).foldl (fun s k =>
      let l := hostLane c k
      match (s.hl l).tx, (c.p 0).bit 0 with
      | .on, true => (s.updHl l fun x => { x with tx := .muted }).bump (hostCtr l 11) 1
      | .muted, false => s.updHl l fun x => { x with tx := .on }
      | _, _ => s) s

def execHostLaneSquelch (c : Cmd) (s : State) : Ans := serve hostLaneSquelchOp c s

/-- HOST_PATTERN_SET (R360). -/
def hostPatternSetOp : OpDef where
  code := 0x0B05
  lo := 1
  hi := 1
  targetOk := targetHost
  check := fun c s =>
    firstRej [param (decide ((c.p 0).fld 25 22 ≤ 7)) 0, resv c 0 21 0,
      stateErr (decide ((c.p 0).fld 25 22 < 6) || decide (2 ≤ (s.hl (hostLane c ((c.p 0).fld 31 28))).rateNow)) 0x2A]
  effect := sets fun c s =>
    let l := hostLane c ((c.p 0).fld 31 28)
    (s.updHl l fun x => { x with
      gen := (c.p 0).bit 27, check := (c.p 0).bit 26, pattern := (c.p 0).fld 25 22,
      checkSync := x.checkSync && (c.p 0).bit 26 && x.pattern == (c.p 0).fld 25 22 }).refreshLane false l

def execHostPatternSet (c : Cmd) (s : State) : Ans := serve hostPatternSetOp c s

/-- HOST_INJECT (R361, R363). -/
def hostInjectOp : OpDef where
  code := 0x0B06
  lo := 1
  hi := 1
  targetOk := targetHost
  check := fun c s =>
    let k := (c.p 0).fld 27 26; let r := (c.p 0).fld 25 20
    firstRej [param (k != 3) 0, param (if k = 2 then decide (10 ≤ r ∧ r ≤ 40) else r == 0) 0, resv c 0 19 0,
      stateErr ((s.hl (hostLane c ((c.p 0).fld 31 28))).tx == .on) 0xC]
  effect := sets fun c s =>
    let l := hostLane c ((c.p 0).fld 31 28)
    let k := (c.p 0).fld 27 26
    if k = 1 then s.bump (hostCtr l 10) 1
    else s.updHl l fun x => { x with inject := if k = 2 then some ((c.p 0).fld 25 20) else none }

def execHostInject (c : Cmd) (s : State) : Ans := serve hostInjectOp c s

/-- The words of HOST_LANE_STATUS (Table 12-7). `est` is a free value for each estimate, which reads as zero where the lane
has none: outside UP, AMPLITUDE in OFF. -/
def hostLaneStatus (l : Nat) (est : Nat → Nat) (s : State) : List Word :=
  let x := s.hl l
  let up (n : Nat) : Nat := if x.rx = .up then n else 0
  [mkw [(31, 28, x.rx.hostCode), (27, 24, x.tx.code), (23, 21, x.rateNow), (20, 20, b2n x.gen), (19, 19, b2n x.check),
        (18, 18, b2n x.checkSync), (17, 17, b2n x.inject.isSome), (16, 16, b2n (x.rxFault || x.txFault)),
        (7, 0, match s.ifaceOfHost l with | some e => e.1 | none => 0xFF)],
   mkw [(31, 16, up (est 0)), (15, 0, up (est 1))],
   mkw [(31, 16, if x.rx = .off then 0 else est 2), (15, 0, up (est 3))],
   w32 (x.second.getD 0 0), w32 (x.second.getD 1 0)]

/-- HOST_LANE_STATUS (Table 12-7). -/
def hostLaneStatusOp : OpDef where
  code := 0x0B07
  lo := 1
  hi := 1
  targetOk := targetHost
  check := fun c _ => resv c 0 31 4
  effect := fun c s =>
    (.ok (hostLaneStatus (hostLane c ((c.p 0).fld 3 0)) (fun k => Config.freeValue (s.free + k)) s), s.withFree (s.free + 4))

def execHostLaneStatus (c : Cmd) (s : State) : Ans := serve hostLaneStatusOp c s

/-- HOST_COUNTERS (R364). -/
def hostCountersOp : OpDef where
  code := 0x0B08
  lo := 1
  hi := 1
  targetOk := targetHost
  check := fun c _ => resv c 0 31 4
  effect := reads fun c s => s.counterWords (hostCtr (hostLane c ((c.p 0).fld 3 0)) 0) 12

def execHostCounters (c : Cmd) (s : State) : Ans := serve hostCountersOp c s

/-! ### Happenings (R354, R358 to R360) -/

/-- HOST_LOS_DECLARE (R358). -/
def execHostLosDeclare (l : Fin 128) (s : State) : Ans :=
  let x := s.hl l.val
  happen (s.live && x.rx != .off && !x.los) s
    (((s.updHl l.val fun x => { x with los := true }).bump (hostCtr l.val 0) 1).moveHost l.val .signalWait 1)

/-- HOST_LOS_CLEAR: the lane enters LOCK, unless an analogue fault stands (R358, R359). -/
def execHostLosClear (l : Fin 128) (s : State) : Ans :=
  let x := s.hl l.val
  let s1 := s.updHl l.val fun x => { x with los := false }
  happen (s.live && x.rx != .off && x.los) s (if x.rxFault || x.txFault then s1 else s1.moveHost l.val .train 2)

/-- HOST_LOCK_UP: clock recovery held lock for 10 µs (R358). -/
def execHostLockUp (l : Fin 128) (s : State) : Ans :=
  happen (s.live && (s.hl l.val).rx == .train) s (s.moveHost l.val .up 3)

/-- HOST_LOL: a lane in UP loses lock and returns to LOCK (R358). -/
def execHostLol (l : Fin 128) (s : State) : Ans :=
  happen (s.live && (s.hl l.val).rx == .up) s ((s.bump (hostCtr l.val 1) 1).moveHost l.val .train 4)

/-- HOST_LOCK_RESTART: a lane not UP 200 µs after it entered LOCK is restarted there (R358). -/
def execHostLockRestart (l : Fin 128) (s : State) : Ans :=
  happen (s.live && (s.hl l.val).rx == .train) s (evHostLane l.val .train .train 5 (s.bump (hostCtr l.val 2) 1))

/-- HOST_IFACE_ALIGN: the Ethernet alignment of interface `f` locks with its lanes deskewed, or is lost (R354); `skewed` says
that the spread of arrival is above 1,000 ns. -/
def execHostIfaceAlign (f : Fin 128) (locked skewed : Bool) (s : State) : Ans :=
  match s.laneIface f.val with
  | none => .next s
  | some x =>
    let ready := (ifaceLanes f.val x).all fun l => (s.hl l).rx == .up
    let s1 := s.withLanes { s.lanes with ifaces := Tab.set none s.lanes.ifaces f.val (some { x with aligned := locked }) }
    happen (s.live && x.mode != 3 && x.aligned != locked && (!locked || ready)) s (s1.refreshIface f.val (if skewed then 2 else 3))

/-- An analogue fault of a host lane: receiver or transmitter (R359, Table 12-8). -/
def State.hostFault (l : Nat) (rx : Bool) (s : State) : State :=
  let s1 := (s.updHl l fun x => if rx then { x with rxFault := true } else { x with txFault := true }).raise 0x0B03 4
    (haOf (0x16 + l / 16) (l % 16 / 8) (l % 8)) (b2n rx * 16 + l % 16)
  let st := (s1.hl l).rx
  (if st = .off ∨ st = .signalWait then s1 else let f := s1.freeCause; f.2.moveHost l .signalWait f.1).refreshHealth

/-- HOST_ANALOGUE_FAULT (R359, R366). -/
def execHostAnalogueFault (l : Fin 128) (rx : Bool) (s : State) : Ans :=
  let x := s.hl l.val
  happen (s.live && (x.rx != .off || x.tx != .off) && !(if rx then x.rxFault else x.txFault)) s (s.hostFault l.val rx)

/-- HOST_LANE_FAULT_END: the fault stops standing; with LOS clear the lane enters LOCK (R359). -/
def execHostLaneFaultEnd (l : Fin 128) (rx : Bool) (s : State) : Ans :=
  let s1 := s.updHl l.val fun x => if rx then { x with rxFault := false } else { x with txFault := false }
  let x := s1.hl l.val
  let was := if rx then (s.hl l.val).rxFault else (s.hl l.val).txFault
  happen (s.live && was) s
    (if x.rx = .signalWait ∧ x.los = false ∧ x.rxFault = false ∧ x.txFault = false then
      let f := s1.freeCause; (f.2.moveHost l.val .train f.1).refreshHealth
     else s1.refreshHealth)

/-- CHECKER_SYNC: a lane's checker declares sync (R360). -/
def execCheckerSync (l : Fin 128) (s : State) : Ans :=
  let x := s.hl l.val
  happen (s.live && x.check && x.rx == .up && !x.checkSync) s (s.updHl l.val fun x => { x with checkSync := true })

/-- CHECKER_SYNC_LOSS (R360). -/
def execCheckerSyncLoss (l : Fin 128) (s : State) : Ans :=
  happen (s.live && (s.hl l.val).checkSync) s ((s.updHl l.val fun x => { x with checkSync := false }).bump (hostCtr l.val 9) 1)

end Sys2Proof.Machine
end

