-- ==== Sys2Proof/Machine/Calibrate.lean ====
section
/-!
DEFINITION. Assay: calibration, quality figures, the pace monitor (spec/15 R437 to R442).
-/

set_option Elab.async false

namespace Sys2Proof.Machine

/-! ### Calibration (R437, R438) -/

def linePortOf (n : Nat) : Port := if n = 0 then 0 else 1

/-- Group, or HOST region, and lane mask of a subject of kinds 5 and 6. -/
def calGroup (kind subject : Nat) : Nat := if kind = 5 then subject / 2 ^ 16 % 2 else subject / 2 ^ 16 % 8
def calLanes (kind subject : Nat) : List Nat := maskLanes (if kind = 5 then 8 else 16) (subject % 65536)

/-- The precondition of a calibration (Table 15-4). -/
def State.calReady (s : State) (kind subject : Nat) : Bool :=
  let p := linePortOf subject
  let g : Fin 2 := if calGroup 5 subject = 0 then 0 else 1
  if kind = 2 then (s.rxp p).st != .off && !(s.rxp p).los
  else if kind = 3 then (s.rxp p).st == .off
  else if kind = 4 then (s.txp p).st.driving
  else if kind = 5 then (calLanes 5 subject).all fun l => (s.cl g l).rx != .off && (s.cl g l).tx != .off
  else if kind = 6 then
    (calLanes 6 subject).all fun l =>
      let x := s.hl (16 * calGroup 6 subject + l)
      x.rx != .off || x.tx != .off
  else if kind = 7 then
    let q := (s.bias subject).port
    if q ≤ 1 then (s.txp (linePortOf q)).st == .off
    else if q ≤ 3 then (List.range 8).all fun l => (s.cl (if q = 2 then 0 else 1) l).rx == .off && (s.cl (if q = 2 then 0 else 1) l).tx == .off
    else true
  else true

/-- Two calibrations are of the same kind and share a subject. -/
def calClash (k s k' s' : Nat) : Bool :=
  k == k' && (if k = 5 ∨ k = 6 then calGroup k s == calGroup k s' && (calLanes k s).any fun l => (calLanes k s').contains l else s == s')

def State.calRuns (s : State) (kind subject : Nat) : Bool := s.assay.cals.any fun c => calClash c.kind c.subject kind subject

/-- The subjects of a calibration, one by one: converters, lanes, regions. -/
def calUnits (kind subject : Nat) : List Nat :=
  if 2 ≤ kind ∧ kind ≤ 4 then (List.range 4).map (4 * subject + ·)
  else if kind = 5 then (calLanes 5 subject).map (8 * calGroup 5 subject + ·)
  else if kind = 6 then (calLanes 6 subject).map (16 * calGroup 6 subject + ·)
  else if kind = 7 then [subject]
  else if kind = 8 then List.range 30
  else [0]

/-- The bit of FAILED of a subject: converters and lanes have one (Table 15-11). -/
def calBit (kind unit : Nat) : Nat :=
  if 2 ≤ kind ∧ kind ≤ 4 then 2 ^ (unit % 4) else if kind = 5 then 2 ^ (unit % 8) else if kind = 6 then 2 ^ (unit % 16)
  else if kind = 1 then 1 else 0

/-- Where the values of a subject are kept. -/
def calKey (kind unit : Nat) : Nat := kind * 2 ^ 20 + unit

/-- The plausibility limits of a kind, value by value: codes, 0.01 %, 0.01 dB, 0.01 ps, mV, Ω (Table 15-4). -/
def calLimits (kind : Nat) : List (Int × Int) :=
  if kind = 1 then [(-32, 32), (-200, 200)]
  else if kind = 2 ∨ kind = 4 then [(-8, 8), (-100, 100), (-200, 200)]
  else if kind = 3 then [(3300, 1000000)]
  else if kind = 5 then [(-6, 6), (-150, 150), (-6, 6), (-150, 150)]
  else if kind = 6 then [(-30, 30), (85, 115)]
  else if kind = 8 then [(-500, 500)]
  else []

/-- Values within their limits; the taps of a LINE_DAC sum to at most 4.0 in magnitude. -/
def calInside (kind : Nat) (vs : List Int) : Bool :=
  ((vs.zip (calLimits kind)).all fun e => decide (e.2.1 ≤ e.1 ∧ e.1 ≤ e.2.2)) &&
  (kind != 4 || decide (((vs.drop 3).map Int.natAbs).sum ≤ 65536))

/-- Readings of a sweep, their minimum and maximum. -/
def sweepOf (vs : List Int) : Nat × Nat :=
  let ns := vs.map Int.toNat
  (ns.foldl min (ns.headD 0), ns.foldl max 0)

/-- The cause of a subject (Table 15-5); `said` is what the measurement itself reports. -/
def calCause (kind : Nat) (said : Nat) (vs : List Int) : Nat :=
  if !calInside kind vs then 1
  else if kind = 7 ∧ (sweepOf vs).2 < (sweepOf vs).1 + 1024 then 2
  else if 2 ≤ said ∧ said ≤ 4 then said
  else 0

/-- The step of a sweep, counted from 1, whose reading a test accepts first. -/
def firstStep (f : Int → Int → Bool) : Nat → List Int → Option Nat
  | _, [] => none
  | _, [_] => none
  | k, a :: b :: r => if f a b then some (k + 1) else firstStep f (k + 1) (b :: r)

/-- The duty that a BIAS_SWEEP sets (R438). -/
def AsBias.swept (x : AsBias) (vs : List Int) : Option Rat :=
  let e := sweepOf vs
  let q : Rat := ((e.1 : Rat) + (e.2 : Rat)) / 2
  let at_ (v : Nat) : Option Nat := (vs.findIdx? (· == (v : Int))).map (· + 1)
  let k := if x.kind = 0 then at_ e.1 else if x.kind = 1 then at_ e.2
    else if x.kind = 2 then
      firstStep (fun a b => if x.sign then decide (q ≤ (a : Rat)) && decide ((b : Rat) < q) else decide ((a : Rat) < q) && decide (q ≤ (b : Rat))) 1 vs
    else none
  k.map fun k => (x.dutyMin : Rat) + ((x.dutyMax - x.dutyMin : Nat) : Rat) * (k : Rat) / 256

/-- The values of a subject that passed are committed (R438). -/
def State.calCommit (kind unit : Nat) (vs : List Int) (s : State) : State :=
  let s1 := s.withAssay { s.assay with values := Tab.set [] s.assay.values (calKey kind unit) vs }
  if kind = 4 ∧ vs.length = 18 then
    s1.updTx (linePortOf (unit / 4)) fun t =>
      { t with emph := Tab.set emphReset t.emph (unit % 4) (vs.drop 3),
               emphFade := Tab.set none t.emphFade (unit % 4) (some ⟨t.next, t.taps (unit % 4)⟩) }
  else if kind = 7 then
    match (s.bias unit).swept vs with
    | some d => if (s.bias unit).enable then s1.updBias unit fun x => { x with d := d, clamped := false }
      else s1.updPwm unit fun x => { x with duty := d.floor.toNat % 65536 }
    | none => s1
  else s1

/-- A client or host lane that fails with OUT_OF_RANGE is in analogue fault (R438). -/
def State.calFault (kind unit : Nat) (vs : List Int) (s : State) : State :=
  if kind = 5 then
    let adc := !((vs.zip [((-6 : Int), (6 : Int)), (-150, 150)]).all fun e => decide (e.2.1 ≤ e.1 ∧ e.1 ≤ e.2.2))
    s.clientFault (if unit < 8 then 0 else 1) (unit % 8) adc
  else if kind = 6 then s.hostFault unit true
  else s

/-- ASSAY_CAL_DONE (Table 15-12). -/
def evCalDone (kind cause : Nat) (applied : Bool) (failed : Nat) (s : State) : State :=
  s.raise 0x0203 (if cause = 0 then 1 else 3) assayHa (kind * 2 ^ 28 + cause * 2 ^ 24 + b2n applied * 2 ^ 23 + failed)

/-- A run ends with these causes by subject, its new values committed where `apply` says so: the job and the event (R437). -/
def State.calEnd (c : AsCal) (apply : Bool) (status : Nat) (causes : List (Nat × Nat)) (qNew qOld : Nat) (s : State) : State :=
  let bad := causes.filter fun e => e.2 != 0
  let cause := match bad with | [] => 0 | e :: _ => e.2
  let applied := apply && bad.length != causes.length
  let failed := (bad.map fun e => calBit c.kind e.1).sum
  let s1 := (s.bump (assayCtr 7) causes.length).bump (assayCtr 8) bad.length
  let s2 := s1.withAssay { s1.assay with cals := dropFirst (· == c) s1.assay.cals }
  match c.job with
  | none => if cause = 0 then s2 else evCalDone c.kind cause applied failed s2
  | some j =>
    (evCalDone c.kind cause applied failed s2).endJob j status
      [mkw [(31, 28, c.kind), (27, 24, cause), (23, 23, b2n applied), (15, 0, failed)],
       mkw [(31, 16, qNew), (15, 0, qOld)], w32 s.timeWord]

/-- A run is interrupted: its precondition is lost, or its job is cancelled; old values are kept (R437, R447). -/
def State.calInterrupt (c : AsCal) (status : Nat) (s : State) : State :=
  s.calEnd c false status ((calUnits c.kind c.subject).map fun u => (u, 5)) 0 0

/-- CAL_RUN_DONE: run `n` of those that go on ends. `results` gives by subject what its measurement reports (2 NO_SIGNAL,
3 NO_CONVERGENCE, 4 QUALITY_WORSE, else none) and its new values; a subject without a result has not converged. -/
def execCalRunDone (n : Nat) (results : List (Nat × Nat × List Int)) (qualityNew qualityOld : Nat) (s : State) : Ans :=
  match s.assay.cals[n]? with
  | none => .next s
  | some c =>
    let find (u : Nat) : Nat × List Int := ((results.find? fun e => e.1 == u).map fun (e : Nat × Nat × List Int) => e.2).getD (3, [])
    let causes := (calUnits c.kind c.subject).map fun u => (u, calCause c.kind (find u).1 (find u).2)
    let swept := if c.kind = 7 then s.updBias c.subject fun x => { x with sweep := some (sweepOf (find c.subject).2) } else s
    let s1 := causes.foldl (fun s e =>
      if e.2 = 0 then (if c.apply then s.calCommit c.kind e.1 (find e.1).2 else s)
      else if e.2 = 1 then s.calFault c.kind e.1 (find e.1).2 else s) swept
    happen s.live s
      (if !s.calReady c.kind c.subject then s.calInterrupt c stFault
       else s1.calEnd c c.apply stOk causes qualityNew qualityOld)

/-- SUBJECT is one of the kind (Table 15-9). -/
def subjectOk (kind s : Nat) : Bool :=
  if 2 ≤ kind ∧ kind ≤ 4 then decide (s ≤ 1)
  else if kind = 5 then s / 256 % 256 == 0 && s / 2 ^ 17 == 0
  else if kind = 6 then s / 2 ^ 19 == 0
  else if kind = 7 then decide (s ≤ 23)
  else s == 0

/-- ASSAY_CAL_RUN (R437). -/
def assayCalRunOp : OpDef where
  code := 0x0208
  queue := some 3
  lo := 1
  hi := 1
  long := true
  targetOk := targetAssay
  check := fun c s =>
    let k := (c.p 0).fld 31 28; let u := (c.p 0).fld 19 0
    firstRej [param (decide (1 ≤ k ∧ k ≤ 8)) 0, resv c 0 26 20, param (subjectOk k u) 0, stateErr (s.calReady k u) 0x37,
      busy (!s.calRuns k u) 0x38]
  effect := fun c s =>
    let t := s.startJob 0x0208 c
    (.accepted s.clerk.nextJob, t.withAssay { t.assay with
      cals := t.assay.cals ++ [⟨(c.p 0).fld 31 28, (c.p 0).fld 19 0, (c.p 0).bit 27, some s.clerk.nextJob⟩] })

def execAssayCalRun (c : Cmd) (s : State) : Ans := serve assayCalRunOp c s

/-- Kinds that run in the background, and their reset period in minutes (Table 15-9). -/
def calPeriodReset (kind : Nat) : Option Nat :=
  if kind = 1 ∨ kind = 6 ∨ kind = 8 then some 60 else if kind = 2 ∨ kind = 4 ∨ kind = 5 then some 10 else none

def State.calPeriod (s : State) (kind : Nat) : Nat := (Tab.get none s.assay.periods kind).getD ((calPeriodReset kind).getD 0)

/-- The subjects of a background run: everything of the kind, by port, group or HOST region (Table 15-9). -/
def State.calSubjects (s : State) (kind : Nat) : List Nat :=
  if kind = 2 ∨ kind = 4 then [0, 1]
  else if kind = 5 then [0, 1].map fun g => g * 2 ^ 16 + ((List.range 8).filter fun l => s.calReady 5 (g * 2 ^ 16 + 2 ^ l)).foldl (fun m l => m + 2 ^ l) 0
  else if kind = 6 then (List.range 8).map fun r =>
    r * 2 ^ 16 + ((List.range 16).filter fun l => s.calReady 6 (r * 2 ^ 16 + 2 ^ l)).foldl (fun m l => m + 2 ^ l) 0
  else [0]

/-- CAL_BACKGROUND: a run of every subject whose precondition holds starts; others are skipped and counted (R437). -/
def execCalBackground (kind : Fin 16) (s : State) : Ans :=
  let k := kind.val
  let start (s : State) (u : Nat) : State :=
    if (k = 5 ∨ k = 6) ∧ u % 65536 = 0 ∨ s.calReady k u = false ∨ s.calRuns k u = true then s.bump (assayCtr 8) 1
    else s.withAssay { s.assay with cals := s.assay.cals ++ [⟨k, u, true, none⟩] }
  happen (s.live && (calPeriodReset k).isSome && s.calPeriod k != 0) s ((s.calSubjects k).foldl start s)

/-- ASSAY_CAL_SET (Table 15-9). -/
def assayCalSetOp : OpDef where
  code := 0x0209
  lo := 1
  hi := 1
  targetOk := targetAssay
  check := fun c _ => firstRej [param (calPeriodReset ((c.p 0).fld 31 28)).isSome 0, resv c 0 27 16]
  effect := sets fun c s =>
    s.withAssay { s.assay with periods := Tab.set none s.assay.periods ((c.p 0).fld 31 28) (some ((c.p 0).fld 15 0)) }

def execAssayCalSet (c : Cmd) (s : State) : Ans := serve assayCalSetOp c s

/-! ### The pace monitor (R441, R442) -/

/-- The margin of a region in 0.001, as a rational; none without required pace. -/
def State.paceMargin (s : State) (r : Nat) : Option Rat :=
  match Tab.get none s.assay.pace r with
  | some (p, q) => if q = 0 then none else some ((p * 1000 : Nat) / ((q : Nat) : Rat))
  | none => none

/-- The worst region and its margin. -/
def State.worstPace (s : State) : Option (Nat × Rat) :=
  (List.range 30).foldl (fun b r =>
    match s.paceMargin r, b with
    | some m, some (_, w) => if m < w then some (r, m) else b
    | some m, none => some (r, m)
    | none, _ => b) none

/-- WORST and MARGIN as an event or a result shows them. -/
def State.paceShown (s : State) (free : Nat) : Nat × Nat :=
  match s.worstPace with
  | some (r, m) => (r, sat 0xFFFF (roundFree m free).toNat)
  | none => (0, 0xFFFF)

/-- ASSAY_PACE (Table 15-12). -/
def evPace (cause : Nat) (s : State) : State :=
  let w := s.paceShown s.take.1
  s.take.2.raise 0x0205 (if cause = 4 then 1 else 3) assayHa (cause * 2 ^ 28 + w.1 * 2 ^ 20 + w.2)

/-- A VDD_CORE command over AVSBus; `ok` says that its transaction succeeds (R442). -/
def State.avsCommand (mv : Nat) (ok : Bool) (s : State) : State :=
  let s1 := ((s.withAssay { s.assay with vddCmd := mv }).emit (.avs mv)).bump (assayCtr 10) 1
  if ok then s1.withAssay { s1.assay with busFault := false }
  else
    let s2 := (s1.withAssay { s1.assay with busFault := true }).bump (assayCtr 11) 1
    if s.assay.busFault then s2 else evPace 2 s2

/-- A read-back more than 15 mV from the command. -/
def farOff (cmd read : Nat) : Bool := decide (cmd + 15 < read) || decide (read + 15 < cmd)

/-- The margin is below 1.120 and no raise can help: PACE_SHORT and, once, ASSAY_PACE (R442). -/
def State.shortfall (s : State) : State :=
  let s1 := s.withBar0 { s.bar0 with paceShort := true }
  let s2 := if s.assay.shortfall then s1 else evPace 1 (s1.withAssay { s1.assay with shortfall := true })
  s2.refreshHealth

/-- PACE_SAMPLE: the sensors give by region its worst-case pace and its required pace; the voltage that they predict will
give 1.150 is `predicted` mV; AVSBus reads back `readBack` mV (R441, R442). -/
def execPaceSample (readings : List (Nat × Nat × Nat)) (predicted : Nat) (ok : Bool) (readBack : Nat) (s : State) : Ans :=
  let a := s.assay
  let pace := (readings.filter fun e => decide (e.1 < 30)).foldl (fun t (e : Nat × Nat × Nat) => Tab.set none t e.1 (some e.2)) []
  let s1 := s.withAssay { a with pace := pace, vddRead := readBack, mismatch := a.mismatch && farOff a.vddCmd readBack }
  let raised := max a.vddCmd (min 800 (max 550 predicted))
  happen s.live s
    (match s1.worstPace with
     | none => s1
     | some (_, m) =>
       let s2 := if m < 1140 ∧ raised ≠ a.vddCmd then s1.avsCommand raised ok else s1
       if m < 1120 ∧ (a.vddCmd = 800 ∨ s2.assay.busFault = true ∨ s2.assay.mismatch = true) then s2.shortfall else s2)

/-- A commit waits for the margin. -/
def State.paceHeld (s : State) : Bool := s.clerk.held.any fun h => h.await == some .paceHold

/-- PACE_LOWER_STEP: every region has stayed at or above 1.180 for 100 ms (R441, R447). -/
def execPaceLowerStep (ok : Bool) (s : State) : Ans :=
  let ample := match s.worstPace with | some (_, m) => decide (1180 ≤ m) | none => true
  happen (s.live && ample && !s.paceHeld && decide (550 < s.assay.vddCmd)) s (s.avsCommand (max 550 (s.assay.vddCmd - 5)) ok)

/-- PACE_RESTORED: the margin has been at or above 1.120 for 1 s (R442). -/
def execPaceRestored (s : State) : Ans :=
  let fine := match s.worstPace with | some (_, m) => decide (1120 ≤ m) | none => true
  happen (s.live && s.assay.shortfall && fine) s (evPace 4 (s.withAssay { s.assay with shortfall := false }))

/-- AVSBUS_RETRY (R442). -/
def execAvsbusRetry (ok : Bool) (s : State) : Ans := happen (s.live && s.assay.busFault) s (s.avsCommand s.assay.vddCmd ok)

/-- AVS_MISMATCH_HOLD: the read-back has differed by more than 15 mV for 1 ms (R442). -/
def execAvsMismatchHold (readBack : Nat) (s : State) : Ans :=
  happen (s.live && farOff s.assay.vddCmd readBack && !s.assay.mismatch) s
    (evPace 3 (s.withAssay { s.assay with mismatch := true, vddRead := readBack }))

/-- ASSAY_PACE_STATUS (Table 15-11). TJ_MAX without a junction result is a free value. -/
def assayPaceStatusOp : OpDef where
  code := 0x020B
  lo := 0
  hi := 0
  targetOk := targetAssay
  effect := fun _ s =>
    let a := s.assay
    let free (k : Nat) := Config.freeValue (s.free + k)
    let w := s.paceShown (free 0)
    let hot := (s.junctions.map fun (e : Nat × Nat) => e.2).foldl max 0
    let tj := if s.junctions.isEmpty then free 1 % 65536 else satInt 16 (tenths hot (free 1))
    (.ok [mkw [(31, 16, a.vddCmd), (15, 0, a.vddRead)], mkw [(31, 24, w.1), (15, 0, w.2)],
          mkw [(31, 16, 800 - a.vddCmd), (15, 15, b2n a.shortfall), (14, 14, b2n a.busFault)],
          mkw [(31, 16, tj)]], s.withFree (s.free + 2))

def execAssayPaceStatus (c : Cmd) (s : State) : Ans := serve assayPaceStatusOp c s

/-! ### Quality figures (R439, R440) -/

/-- Indexes of a measure (Table 15-6). -/
def qualityRange (m : Nat) : Nat :=
  if m = 1 ∨ m = 2 ∨ m = 5 then 2 else if m = 3 then 8 else if m = 4 then 4 else if m = 6 then 16 else if m = 7 then 128
  else if m = 8 then 24 else if m = 9 then 30 else 0

/-- Shannon bound, nominal net coding gain and NGMI threshold of an overhead (Table 6-2): 0.01 dB, 0.01 dB, 0.001. -/
def ncgOf (oh : Nat) : Int × Int × Int :=
  if oh = 0 then (1228, 1158, 885) else if oh = 1 then (1273, 1213, 845) else (1308, 1253, 810)

/-- REFERENCE and BOUND of a measure (Table 15-6); `r` is the measured reference of OSNR_GAP. -/
def State.qualityRef (s : State) (m i : Nat) (r : Int) : Int × Int :=
  let p := linePortOf i
  let n := ncgOf (s.fecp p).oh
  if m = 1 then (n.1, n.1 - n.2.1)
  else if m = 2 then (r, if (s.rxp p).mod = 2 ∧ (s.rxp p).symRate = 3200 then 90 else 0)
  else if m = 3 then (3810, 250)
  else if m = 4 then (1000, 100)
  else if m = 5 then (n.2.2, 0)
  else if m = 6 then (((s.lanes.groups.get (if i < 8 then 0 else 1)).eyeMin : Nat), 0)
  else if m = 8 then (50, 0)
  else if m = 9 then (1120, 0)
  else (0, 0)

/-- GAP of a measure (Table 15-6). -/
def qualityGap (m : Nat) (value ref : Int) : Int := if m = 1 ∨ m = 3 then ref - value else if m = 7 then value else value - ref

/-- A record as it reads: FEC_NCG has its nominal value until a measurement shows otherwise (R440). -/
def State.qualityAt (s : State) (m i : Nat) : AsQual :=
  let q := Tab.get {} s.assay.quality (m * 256 + i)
  if m = 1 ∧ q.measured = false then
    let n := ncgOf (s.fecp (linePortOf i)).oh
    { q with valid := true, value := n.2.1, ref := n.1, gap := n.1 - n.2.1, bound := n.1 - n.2.1 }
  else q

/-- The value of a measure: what the model itself holds where it does, else what is measured. -/
def State.qualityValue (s : State) (m i : Nat) (measured : Option Int) : Option Int :=
  if m = 3 then (Tab.get [] s.assay.values (calKey 3 i)).head?
  else if m = 8 then (if (s.bias i).able then some (roundFree (s.loopMargin i * 1000) s.take.1) else none)
  else if m = 9 then (s.paceMargin i).map fun x => roundFree x s.take.1
  else measured

/-- QUALITY_UPDATE: a record is updated and compared to its bound (R439). -/
def execQualityUpdate (m : Fin 16) (index : Nat) (value : Option Int) (reference : Int) (measured : Bool) (s : State) : Ans :=
  let k := m.val * 256 + index
  let old := s.qualityAt m.val index
  let r := s.qualityRef m.val index reference
  let s1 := s.take.2
  happen (s.live && decide (index < qualityRange m.val)) s
    (match s.qualityValue m.val index value with
     | none => s1.withAssay { s1.assay with quality := Tab.set {} s1.assay.quality k { old with valid := false } }
     | some v =>
       let gap := qualityGap m.val v r.1
       let above := r.2 != 0 && decide (r.2 < gap)
       let q : AsQual := ⟨true, if m.val = 1 then measured else true, v, r.1, gap, r.2, s.timeWord, above⟩
       let s2 := s1.withAssay { s1.assay with quality := Tab.set {} s1.assay.quality k q }
       if above = old.above then s2
       else s2.raise 0x0207 2 assayHa (b2n above * 2 ^ 31 + m.val * 2 ^ 24 + index * 2 ^ 16 + satInt 16 gap))

/-- The four words of a quality record (Table 15-11). -/
def AsQual.words (q : AsQual) (m i : Nat) : List Word :=
  [mkw [(31, 24, m), (23, 16, i), (15, 15, b2n q.valid), (14, 14, b2n q.measured)],
   mkw [(31, 16, satInt 16 q.value), (15, 0, satInt 16 q.ref)], mkw [(31, 16, satInt 16 q.gap), (15, 0, satInt 16 q.bound)],
   w32 q.time]

/-- ASSAY_QUALITY_READ (R439). -/
def assayQualityReadOp : OpDef where
  code := 0x020A
  lo := 1
  hi := 1
  targetOk := targetAssay
  check := fun c _ =>
    let m := (c.p 0).fld 31 24; let n := (c.p 0).fld 15 8
    firstRej [param (qualityRange m != 0) 0, param (decide (1 ≤ n ∧ n ≤ 128)) 0,
      param (decide ((c.p 0).fld 23 16 + n ≤ qualityRange m)) 0, resv c 0 7 0]
  effect := reads fun c s =>
    let m := (c.p 0).fld 31 24
    (List.range ((c.p 0).fld 15 8)).flatMap fun k => (s.qualityAt m ((c.p 0).fld 23 16 + k)).words m ((c.p 0).fld 23 16 + k)

def execAssayQualityRead (c : Cmd) (s : State) : Ans := serve assayQualityReadOp c s

end Sys2Proof.Machine
end

