-- ==== Sys2Proof/Machine/Cancel.lean ====
section
/-!
DEFINITION. CLERK_JOB_CANCEL: every kind of job stops at its next consistent step and ends ABORTED (spec/02 R72, and the
rule of each job).
-/

set_option Elab.async false

namespace Sys2Proof.Machine

/-- The port whose attempt belongs to a job. -/
def State.attemptPort (s : State) (num : Nat) : Option Port :=
  let owns (p : Port) : Bool := match (s.rap p).attempt with | some a => a.job == some num | none => false
  if owns 0 then some 0 else if owns 1 then some 1 else none

/-- A running change is cancelled (spec/18 R492): before SWITCH its step is abandoned and the change ends, afterwards it ends with the
retest in hand. -/
def State.cancelChange (c : Change) (s : State) : State :=
  let gone (s : State) : State := s.endChange c stAborted
  if c.method = 3 then gone s
  else if c.method = 2 then
    if (s.region c.region).poolRole = 0 then gone s else s.setChange { c with cancelled := true }
  else if c.phase = 0 ∨ c.phase = 4 then
    (if c.phase = 0 then gone (s.setBlock c.region c.incoming { s.block c.region c.incoming with state := 1 })
     else s.setChange { c with cancelled := true })
  else (gone (s.setBlock c.region c.incoming { s.block c.region c.incoming with state := 1 })).afterFault

/-- A running handover is cancelled: before the takeover it is abandoned and the standby pair tested again, afterwards the former
pair's load ends it (spec/18 R492). -/
def State.cancelHandover (j : Job) (s : State) : State :=
  match s.serv.handover with
  | none => s
  | some h =>
    if h.stage = 3 then s.setJob { j with cancel := true }
    else
      let t := s.withHier { s.hier with ctlStandby := 1 }
      ((t.withServ { t.serv with handover := none }).endJob j.num stAborted [w32 t.boot.fwVersion]).refreshHealth

/-- A line step is cancelled (spec/07 R212): before its first send at once; while it waits for an answer when the wait ends; after
that it goes on. -/
def State.cancelStep (j : Job) (s : State) : State :=
  match s.attemptPort j.num with
  | none => s
  | some p =>
    match (s.rap p).attempt with
    | none => s
    | some a =>
      if a.sends = 0 then (s.updRa p fun r => { r with attempt := none }).endStep p (some j.num) stAborted 0 a.code 0
      else s.updRa p fun r => { r with attempt := some { a with cancel := true } }

/-- What a cancel does to a running job, by its opcode. -/
def State.cancelJob (j : Job) (s : State) : State :=
  if j.code = 0x0208 then
    match s.assay.cals.find? (fun c => c.job == some j.num) with
    | some c => s.calInterrupt c stAborted
    | none => s
  else if j.code = 0x0402 then s.cancelShrink ((j.params.getD 0 0).fld 31 28)
  else if j.code = 0x0409 then s.endRestore stAborted
  else if j.code = 0x0904 then
    let free (r : RxPort) : RxPort := if r.estimator = .scan j.num then { r with estimator := .free } else r
    ((s.updRx 0 free).updRx 1 free).endJob j.num stAborted []
  else if j.code = 0x0921 then s.cancelStep j
  else if j.code = 0x0D06 then s.setJob { j with cancel := true }
  else if j.code = 0x0E02 then (s.setVerified none).endJob j.num stAborted []
  else if j.code = 0x0E03 then s.cancelHandover j
  else if j.code = 0x0E04 then
    match s.serv.changes.find? (fun c => c.job == some j.num) with
    | some c => s.cancelChange c
    | none => s
  else if j.code = 0x0F04 then s.endSweep ((j.params.getD 0 0).bit 31) stAborted
  else s

/-- CLERK_JOB_CANCEL (R72). -/
def clerkJobCancelOp : OpDef where
  code := 0x0003
  lo := 1
  hi := 1
  recovery := true
  targetOk := targetClerk
  check := fun c _ => resv c 0 31 16
  effect := fun c s =>
    let n := (c.p 0).fld 15 0
    match s.clerk.jobs.find? (fun j => j.num == n) with
    | some j => (.ok [0], s.cancelJob j)
    | none => (.ok [mkw [(1, 0, if s.clerk.ended.any (fun j => j.num == n) then 1 else 2)]], s)

def execClerkJobCancel (c : Cmd) (s : State) : Ans := serve clerkJobCancelOp c s

end Sys2Proof.Machine
end

