-- ==== Sys2Proof/Machine/Clerk.lean ====
section
/-!
DEFINITION. The opcodes of the CLERK region: spec/02 R72, spec/01 R24, spec/20 R524 (CLERK_JOB_CANCEL stands in
Cancel.lean, after the jobs it stops).
-/

set_option Elab.async false

namespace Sys2Proof.Machine

/-- CLERK_NOP: echoes its parameters on any queue (R51, R72). -/
def clerkNopOp : OpDef where
  code := 0x0001
  queue := none
  lo := 0
  hi := 2045
  recovery := true
  targetOk := targetClerk
  effect := reads fun c _ => c.params

def execClerkNop (c : Cmd) (s : State) : Ans := serve clerkNopOp c s

/-- Result word 0 and the results of CLERK_JOB_RESULT (R72). -/
def jobResult (n : Nat) (s : State) : List Word :=
  match s.clerk.jobs.find? (fun j => j.num == n) with
  | some j => [mkw [(31, 16, j.code)]]
  | none =>
    match s.clerk.ended.find? (fun j => j.num == n) with
    | some e => mkw [(31, 16, e.code), (15, 8, e.status), (1, 0, 1)] :: e.results
    | none => [mkw [(1, 0, 2)]]

/-- CLERK_JOB_RESULT (R72). -/
def clerkJobResultOp : OpDef where
  code := 0x0002
  lo := 1
  hi := 1
  recovery := true
  targetOk := targetClerk
  check := fun c _ => resv c 0 31 16
  effect := reads fun c s => jobResult ((c.p 0).fld 15 0) s

def execClerkJobResult (c : Cmd) (s : State) : Ans := serve clerkJobResultOp c s

/-- CLERK_PROTO_COUNTERS: nine counters of one interface (R72). -/
def clerkProtoCountersOp : OpDef where
  code := 0x0004
  lo := 1
  hi := 1
  targetOk := targetClerk
  check := fun c _ => resv c 0 31 1
  effect := reads fun c s => s.counterWords (ctr 0 0 9 ((c.p 0).fld 0 0) 0) 9

def execClerkProtoCounters (c : Cmd) (s : State) : Ans := serve clerkProtoCountersOp c s

/-- The sixteen least severities of parameter words 1 and 2 (R72). -/
def filterTab (w1 w2 : Word) : Tab Nat :=
  (List.range 16).foldl
    (fun t g => Tab.set 0 t g (if g < 8 then w1.fld (4 * g + 3) (4 * g) else w2.fld (4 * (g - 8) + 3) (4 * (g - 8)))) []

/-- CLERK_EVENT_FILTER_SET (R63, R72). -/
def clerkEventFilterSetOp : OpDef where
  code := 0x0005
  lo := 3
  hi := 3
  targetOk := targetClerk
  check := fun c _ => resv c 0 31 1
  effect := sets fun c s =>
    let i : Iface := if (c.p 0).bit 0 then 1 else 0
    s.withClerk { s.clerk with ev := s.clerk.ev.upd i fun b => { b with least := filterTab (c.p 1) (c.p 2) } }

def execClerkEventFilterSet (c : Cmd) (s : State) : Ans := serve clerkEventFilterSetOp c s

/-- The four words of CLERK_BOOT_STATUS (Table 20-5). -/
def bootStatus (b : Boot) : List Word :=
  [mkw [(31, 28, b.cause), (27, 27, b.slot), (26, 26, b2n b.fallback), (25, 22, b.causeA), (21, 18, b.causeB)],
   w32 b.bootTime,
   w32 ((b.regionsFailed.map fun r => 2 ^ r).sum),
   mkw [(31, 16, b.blocksRetired), (15, 0, b.cellsRetired)]]

/-- CLERK_BOOT_STATUS (R524). -/
def clerkBootStatusOp : OpDef where
  code := 0x0006
  lo := 0
  hi := 0
  recovery := true
  targetOk := targetClerk
  effect := reads fun _ s => bootStatus s.boot

def execClerkBootStatus (c : Cmd) (s : State) : Ans := serve clerkBootStatusOp c s

/-- The map word of a block (Table 1-4). -/
def Block.mapWord (b : Block) : Word :=
  mkw [(31, 28, b.state), (27, 22, b.serves), (21, 16, b.cells), (15, 10, b.spareCell), (9, 4, b.suspect.length)]

/-- The results of CLERK_MAP_READ for a region (Table 1-4). -/
def mapRead (r : Nat) (s : State) : List Word :=
  mkw [(31, 24, r), (23, 20, (s.region r).poolRole), (19, 14, blocksOf r)] ::
    (List.range (blocksOf r)).map fun b => (s.block r b).mapWord

/-- CLERK_MAP_READ (R24). -/
def clerkMapReadOp : OpDef where
  code := 0x0020
  lo := 0
  hi := 0
  targetOk := targetAnyRegion
  effect := reads fun c s => mapRead (haRegion c.target.toNat) s

def execClerkMapRead (c : Cmd) (s : State) : Ans := serve clerkMapReadOp c s

/-- Set the idle limit of the FIFOs of some cells in the directions of DIR (Table 1-5). -/
def setIdle (dir limit : Nat) (cells : List Nat) (s : State) : State :=
  cells.foldl (fun s ha =>
    let one (d : Dir) (s : State) : State :=
      if dir / dirCode d % 2 = 1 then s.setFifo (fifoKey ha d) { s.fifo (fifoKey ha d) with idleLimit := limit } else s
    if ownsFifo (haRegion ha) then one .outbound (one .inbound s) else s) s

/-- CLERK_FIFO_IDLE_SET (R24, R31). -/
def clerkFifoIdleSetOp : OpDef where
  code := 0x0021
  lo := 1
  hi := 1
  targetOk := State.haValid
  check := fun c _ => firstRej [resv c 0 31 18, param ((c.p 0).fld 17 16 != 0) 0, param ((c.p 0).fld 15 0 != 0) 0]
  effect := sets fun c s => setIdle ((c.p 0).fld 17 16) ((c.p 0).fld 15 0) (s.cellsNamed c.target.toNat) s

def execClerkFifoIdleSet (c : Cmd) (s : State) : Ans := serve clerkFifoIdleSetOp c s

end Sys2Proof.Machine
end

