-- ==== Sys2Proof/Machine/Take.lean ====
section
/-!
DEFINITION. Taking packets: the opcode index (spec/22 Table 22-1), the first checks of Table 2-4, commands in hand that
start, commits held for the pace margin (spec/02 R44 to R58, spec/15 R441).
-/

set_option Elab.async false

namespace Sys2Proof.Machine

/-! ### The opcode index -/

/-- Opcode group 0x00. -/
def opsClerk : List OpDef :=
  [clerkNopOp, clerkJobResultOp, clerkJobCancelOp, clerkProtoCountersOp, clerkEventFilterSetOp, clerkBootStatusOp,
   clerkMapReadOp, clerkFifoIdleSetOp]

/-- Opcode group 0x01. -/
def opsTiming : List OpDef :=
  [timingConfigOp, timingRefSetOp, timingDpllSetOp, timingPrioSetOp, timingOutSetOp, timingFpAlignOp, timingForceOp,
   timingTodSetOp, timingStatusOp, timingRefStatusOp, timingDpllStatusOp, timingCountersOp]

/-- Opcode group 0x02. -/
def opsAssay : List OpDef :=
  [assayTimerSetOp, assaySeqSetOp, assayChanSetOp, assayTelemReadOp, assayPwmSetOp, assayBiasSetOp, assayBiasStatusOp,
   assayCalRunOp, assayCalSetOp, assayQualityReadOp, assayPaceStatusOp, assayCountersOp]

/-- Opcode group 0x03. -/
def opsCrier : List OpDef :=
  [crierPortSetOp, crierUnitSetOp, crierSendOp, crierReceiveOp, crierAdmitOp, crierMemberReadOp, crierStatusOp,
   crierCountersOp]

/-- Opcode group 0x04. -/
def opsStore : List OpDef :=
  [storePartCreateOp, storePartResizeOp, storePartDeleteOp, storePartSetOp, storePartStatusOp, storeStatusOp,
   storeCountersOp, storeStackRetireOp, storeStackRestoreOp, storeInjectOp]

/-- Opcode group 0x05. -/
def opsLoom : List OpDef :=
  [loomPortConfigOp, loomBoltSetOp, loomThreadSetOp, loomProtSetOp, loomProtSwitchOp, loomPortStatusOp,
   loomBoltStatusOp, loomThreadStatusOp, loomPmReadOp, loomMapReadOp, loomCountersOp]

/-- Opcode group 0x06. -/
def opsFlow : List OpDef :=
  [flowIfaceSetOp, flowSetOp, flowClassMapOp, flowThreadSetOp, flowStatusOp, flowCountersOp, flowRegionCountersOp]

/-- Opcode group 0x07. -/
def opsCiph : List OpDef :=
  [ciphKeyLoadOp, ciphRolloverOp, ciphCtxStatusOp, ciphPoolStatusOp, ciphCountersOp]

/-- Opcode group 0x08. -/
def opsFec : List OpDef :=
  [fecPortConfigOp, fecPortStatusOp, fecPortCountersOp, fecPoolStatusOp, fecRegionCountersOp, fecCodeReadOp,
   fecInjectOp]

/-- Opcode group 0x09. -/
def opsLine : List OpDef :=
  [lineRxConfigOp, lineRxEnableOp, lineRxCdSetOp, lineRxCdScanOp, lineRxEqSetOp, lineRxLoopSetOp, lineRxFrontSetOp,
   lineRxStatusOp, lineRxCountersOp, lineTxConfigOp, lineTxEnableOp, lineTxMuteOp, lineTxRampSetOp,
   lineTxPrecompSetOp, lineTxBackSetOp, lineTxEmphLoadOp, lineTxStatusOp, lineTxCountersOp, lineRaConfigOp,
   lineRaStepOp, lineRaGuardSetOp, lineRaPlanReadOp, lineRaStatusOp, lineRaCountersOp, lineRwConfigOp, lineRwStatusOp,
   lineRwCountersOp, lineRwInjectOp]

/-- Opcode group 0x0A. -/
def opsClient : List OpDef :=
  [clientGroupConfigOp, clientIfaceSetOp, clientLaneEnableOp, clientLaneMuteOp, clientEqSetOp, clientTxSetOp,
   clientPatternSetOp, clientLaneStatusOp, clientCountersOp]

/-- Opcode group 0x0B. -/
def opsHost : List OpDef :=
  [hostEqLoadOp, hostIfaceSetOp, hostLaneEnableOp, hostLaneSquelchOp, hostPatternSetOp, hostInjectOp,
   hostLaneStatusOp, hostCountersOp]

/-- Opcode group 0x0C. -/
def opsTally : List OpDef :=
  [tallyTagSetOp, tallyTagReadOp, tallySlotReadOp, tallyFifoReadOp, tallyFreezeOp]

/-- Opcode group 0x0D. -/
def opsHallmark : List OpDef :=
  [hallmarkCertReadOp, hallmarkMeasureReadOp, hallmarkAttestOp, hallmarkKekOfferOp, hallmarkKekAcceptOp,
   hallmarkFuseAdvanceOp, hallmarkTallyMaskOp, hallmarkStatusOp]

/-- Opcode group 0x0E. -/
def opsService : List OpDef :=
  [serviceImageLoadOp, serviceImageVerifyOp, serviceHandoverOp, serviceChangeOp, serviceStatusOp, serviceAgeingReadOp]

/-- Opcode group 0x0F. -/
def opsDiag : List OpDef :=
  [diagFaultStatusOp, diagFaultLogReadOp, diagSramCountersOp, diagSweepRunOp, diagInjectOp]

/-- The opcodes of Table 22-1, by group. -/
def allOps : List OpDef :=
  opsClerk ++ opsTiming ++ opsAssay ++ opsCrier ++ opsStore ++ opsLoom ++ opsFlow ++ opsCiph ++ opsFec ++
    opsLine ++ opsClient ++ opsHost ++ opsTally ++ opsHallmark ++ opsService ++ opsDiag

/-- The opcode of a code. -/
def opOf (code : Nat) : Option OpDef := allOps.find? fun o => o.code == code

/-! ### Commands in hand (R44, R51) -/

/-- The first command in hand of a queue, with those before and after it. -/
def splitHeld (i : Iface) (q : Queue) : List Held → List Held → Option (List Held × Held × List Held)
  | _, [] => none
  | before, h :: r => if h.iface = i ∧ h.queue = q then some (before, h, r) else splitHeld i q (before ++ [h]) r

/-- The first command in hand of a queue starts, unless it waits for a happening, or under FENCE for earlier replies (R44). -/
def State.startHeld (i : Iface) (q : Queue) (s : State) : State :=
  match splitHeld i q [] s.clerk.held with
  | none => s
  | some (before, h, after) =>
    if h.await.isSome then s
    else if h.cmd.fence && (!before.isEmpty || !s.clerk.unwritten.isEmpty) then s
    else match opOf h.code with
      | none => s
      | some op => answer op h.cmd (s.withClerk { s.clerk with held := before ++ after })

/-! ### Packets (R42, R43, R48, R58) -/

/-- The packet's LENGTH, capped as its words are read: what a packet lacks reads as zero. -/
def packetLength (ws : List Word) : Nat := (ws.getD 1 0).fld 31 20

/-- A packet as a command of an interface and queue. -/
def packetCmd (i : Iface) (q : Queue) (ws : List Word) (n : Nat) : Cmd :=
  { iface := i, queue := q, seq := BitVec.ofNat 8 ((ws.getD 0 0).fld 15 8), flags := BitVec.ofNat 8 ((ws.getD 0 0).fld 7 0),
    target := BitVec.ofNat 20 ((ws.getD 1 0).fld 19 0), params := padTake n (ws.drop 2) }

/-- Steps 1 to 3 of Table 2-4, then the opcode's own. -/
def State.takePacket (i : Iface) (q : Queue) (ws : List Word) (s : State) : Ans :=
  let n := packetLength ws
  let code := (ws.getD 0 0).fld 31 16
  if 2045 < n then .next (refuse code ⟨stLengthOver, 0xFFFF, 0⟩ (packetCmd i q ws 0) s)
  else if w32 (crc32 (bytesOf (padTake (n + 2) ws))) ≠ ws.getD (n + 2) 0 then .next (s.lose i (lostData q.val ws.head?))
  else match opOf code with
    | none => .next (refuse code ⟨stBadOpcode, 0xFFFF, 0⟩ (packetCmd i q ws n) s)
    | some op => serve op (packetCmd i q ws n) s

/-- COMMAND_TAKE: the device turns to a queue of an interface: a command in hand starts, or the next packet is taken and checked: from
the ring slot at CONS, whose content is `packet`, or from the SPI mailbox (R51, R58, R66). -/
def execCommandTake (i : Iface) (q : Queue) (packet : List Word) (s : State) : Ans :=
  let r := s.ring q.val
  let mail := Tab.get [] s.clerk.mail q.val
  if !s.serves i then .next s
  else if s.queueHeld i q then .next (s.startHeld i q)
  else if i = 1 then
    if mail.isEmpty then .next s
    else (s.withClerk { s.clerk with mail := Tab.set [] s.clerk.mail q.val [] }).takePacket i q mail
  else if s.pcie && r.enable && !r.empty && s.replyRoom q && !(s.clerk.unwritten.any fun u => u.queue == q) then
    (s.setRing q.val { r with cons := (r.cons + 1) % r.size }).takePacket i q packet
  else .next s

/-- PACE_HOLD_RELEASE: the oldest commit held for a pace raise proceeds where the margin suffices (spec/15 R441). -/
def execPaceHoldRelease (s : State) : Ans :=
  match pick (fun h : Held => h.await == some .paceHold) s.clerk.held with
  | none => .next s
  | some (h, r) =>
    match opOf h.code with
    | none => .next s
    | some op =>
      let s1 := s.withClerk { s.clerk with held := r }
      happen (s.live && !s1.paceHolds (op.effect h.cmd s1).2) s (answerWith false op h.cmd s1)

end Sys2Proof.Machine
end

