-- ==== Sys2Proof/Machine/Dispatch.lean ====
section
/-!
DEFINITION. One arm per constructor of `Instr`: the command's meaning, or its rejection by name.
-/

namespace Sys2Proof.Machine

/-- What a command does to everything but the queue. -/
def exec (i : Instr) (s : State) : Host.Outcome State Fault Refusal :=
  match i with
  | .clerkNop c => Sys2Proof.Machine.execClerkNop c s
  | .clerkJobResult c => Sys2Proof.Machine.execClerkJobResult c s
  | .clerkJobCancel c => Sys2Proof.Machine.execClerkJobCancel c s
  | .clerkProtoCounters c => Sys2Proof.Machine.execClerkProtoCounters c s
  | .clerkEventFilterSet c => Sys2Proof.Machine.execClerkEventFilterSet c s
  | .clerkBootStatus c => Sys2Proof.Machine.execClerkBootStatus c s
  | .clerkMapRead c => Sys2Proof.Machine.execClerkMapRead c s
  | .clerkFifoIdleSet c => Sys2Proof.Machine.execClerkFifoIdleSet c s
  | .timingConfig c => Sys2Proof.Machine.execTimingConfig c s
  | .timingRefSet c => Sys2Proof.Machine.execTimingRefSet c s
  | .timingDpllSet c => Sys2Proof.Machine.execTimingDpllSet c s
  | .timingPrioSet c => Sys2Proof.Machine.execTimingPrioSet c s
  | .timingOutSet c => Sys2Proof.Machine.execTimingOutSet c s
  | .timingFpAlign c => Sys2Proof.Machine.execTimingFpAlign c s
  | .timingForce c => Sys2Proof.Machine.execTimingForce c s
  | .timingTodSet c => Sys2Proof.Machine.execTimingTodSet c s
  | .timingStatus c => Sys2Proof.Machine.execTimingStatus c s
  | .timingRefStatus c => Sys2Proof.Machine.execTimingRefStatus c s
  | .timingDpllStatus c => Sys2Proof.Machine.execTimingDpllStatus c s
  | .timingCounters c => Sys2Proof.Machine.execTimingCounters c s
  | .assayTimerSet c => Sys2Proof.Machine.execAssayTimerSet c s
  | .assaySeqSet c => Sys2Proof.Machine.execAssaySeqSet c s
  | .assayChanSet c => Sys2Proof.Machine.execAssayChanSet c s
  | .assayTelemRead c => Sys2Proof.Machine.execAssayTelemRead c s
  | .assayPwmSet c => Sys2Proof.Machine.execAssayPwmSet c s
  | .assayBiasSet c => Sys2Proof.Machine.execAssayBiasSet c s
  | .assayBiasStatus c => Sys2Proof.Machine.execAssayBiasStatus c s
  | .assayCalRun c => Sys2Proof.Machine.execAssayCalRun c s
  | .assayCalSet c => Sys2Proof.Machine.execAssayCalSet c s
  | .assayQualityRead c => Sys2Proof.Machine.execAssayQualityRead c s
  | .assayPaceStatus c => Sys2Proof.Machine.execAssayPaceStatus c s
  | .assayCounters c => Sys2Proof.Machine.execAssayCounters c s
  | .crierPortSet c => Sys2Proof.Machine.execCrierPortSet c s
  | .crierUnitSet c => Sys2Proof.Machine.execCrierUnitSet c s
  | .crierSend c => Sys2Proof.Machine.execCrierSend c s
  | .crierReceive c => Sys2Proof.Machine.execCrierReceive c s
  | .crierAdmit c => Sys2Proof.Machine.execCrierAdmit c s
  | .crierMemberRead c => Sys2Proof.Machine.execCrierMemberRead c s
  | .crierStatus c => Sys2Proof.Machine.execCrierStatus c s
  | .crierCounters c => Sys2Proof.Machine.execCrierCounters c s
  | .storePartCreate c => Sys2Proof.Machine.execStorePartCreate c s
  | .storePartResize c => Sys2Proof.Machine.execStorePartResize c s
  | .storePartDelete c => Sys2Proof.Machine.execStorePartDelete c s
  | .storePartSet c => Sys2Proof.Machine.execStorePartSet c s
  | .storePartStatus c => Sys2Proof.Machine.execStorePartStatus c s
  | .storeStatus c => Sys2Proof.Machine.execStoreStatus c s
  | .storeCounters c => Sys2Proof.Machine.execStoreCounters c s
  | .storeStackRetire c => Sys2Proof.Machine.execStoreStackRetire c s
  | .storeStackRestore c => Sys2Proof.Machine.execStoreStackRestore c s
  | .storeInject c => Sys2Proof.Machine.execStoreInject c s
  | .loomPortConfig c => Sys2Proof.Machine.execLoomPortConfig c s
  | .loomBoltSet c => Sys2Proof.Machine.execLoomBoltSet c s
  | .loomThreadSet c => Sys2Proof.Machine.execLoomThreadSet c s
  | .loomProtSet c => Sys2Proof.Machine.execLoomProtSet c s
  | .loomProtSwitch c => Sys2Proof.Machine.execLoomProtSwitch c s
  | .loomPortStatus c => Sys2Proof.Machine.execLoomPortStatus c s
  | .loomBoltStatus c => Sys2Proof.Machine.execLoomBoltStatus c s
  | .loomThreadStatus c => Sys2Proof.Machine.execLoomThreadStatus c s
  | .loomPmRead c => Sys2Proof.Machine.execLoomPmRead c s
  | .loomMapRead c => Sys2Proof.Machine.execLoomMapRead c s
  | .loomCounters c => Sys2Proof.Machine.execLoomCounters c s
  | .flowIfaceSet c => Sys2Proof.Machine.execFlowIfaceSet c s
  | .flowSet c => Sys2Proof.Machine.execFlowSet c s
  | .flowClassMap c => Sys2Proof.Machine.execFlowClassMap c s
  | .flowThreadSet c => Sys2Proof.Machine.execFlowThreadSet c s
  | .flowStatus c => Sys2Proof.Machine.execFlowStatus c s
  | .flowCounters c => Sys2Proof.Machine.execFlowCounters c s
  | .flowRegionCounters c => Sys2Proof.Machine.execFlowRegionCounters c s
  | .ciphKeyLoad c => Sys2Proof.Machine.execCiphKeyLoad c s
  | .ciphRollover c => Sys2Proof.Machine.execCiphRollover c s
  | .ciphCtxStatus c => Sys2Proof.Machine.execCiphCtxStatus c s
  | .ciphPoolStatus c => Sys2Proof.Machine.execCiphPoolStatus c s
  | .ciphCounters c => Sys2Proof.Machine.execCiphCounters c s
  | .fecPortConfig c => Sys2Proof.Machine.execFecPortConfig c s
  | .fecPortStatus c => Sys2Proof.Machine.execFecPortStatus c s
  | .fecPortCounters c => Sys2Proof.Machine.execFecPortCounters c s
  | .fecPoolStatus c => Sys2Proof.Machine.execFecPoolStatus c s
  | .fecRegionCounters c => Sys2Proof.Machine.execFecRegionCounters c s
  | .fecCodeRead c => Sys2Proof.Machine.execFecCodeRead c s
  | .fecInject c => Sys2Proof.Machine.execFecInject c s
  | .lineRxConfig c => Sys2Proof.Machine.execLineRxConfig c s
  | .lineRxEnable c => Sys2Proof.Machine.execLineRxEnable c s
  | .lineRxCdSet c => Sys2Proof.Machine.execLineRxCdSet c s
  | .lineRxCdScan c => Sys2Proof.Machine.execLineRxCdScan c s
  | .lineRxEqSet c => Sys2Proof.Machine.execLineRxEqSet c s
  | .lineRxLoopSet c => Sys2Proof.Machine.execLineRxLoopSet c s
  | .lineRxFrontSet c => Sys2Proof.Machine.execLineRxFrontSet c s
  | .lineRxStatus c => Sys2Proof.Machine.execLineRxStatus c s
  | .lineRxCounters c => Sys2Proof.Machine.execLineRxCounters c s
  | .lineTxConfig c => Sys2Proof.Machine.execLineTxConfig c s
  | .lineTxEnable c => Sys2Proof.Machine.execLineTxEnable c s
  | .lineTxMute c => Sys2Proof.Machine.execLineTxMute c s
  | .lineTxRampSet c => Sys2Proof.Machine.execLineTxRampSet c s
  | .lineTxPrecompSet c => Sys2Proof.Machine.execLineTxPrecompSet c s
  | .lineTxBackSet c => Sys2Proof.Machine.execLineTxBackSet c s
  | .lineTxEmphLoad c => Sys2Proof.Machine.execLineTxEmphLoad c s
  | .lineTxStatus c => Sys2Proof.Machine.execLineTxStatus c s
  | .lineTxCounters c => Sys2Proof.Machine.execLineTxCounters c s
  | .lineRaConfig c => Sys2Proof.Machine.execLineRaConfig c s
  | .lineRaStep c => Sys2Proof.Machine.execLineRaStep c s
  | .lineRaGuardSet c => Sys2Proof.Machine.execLineRaGuardSet c s
  | .lineRaPlanRead c => Sys2Proof.Machine.execLineRaPlanRead c s
  | .lineRaStatus c => Sys2Proof.Machine.execLineRaStatus c s
  | .lineRaCounters c => Sys2Proof.Machine.execLineRaCounters c s
  | .lineRwConfig c => Sys2Proof.Machine.execLineRwConfig c s
  | .lineRwStatus c => Sys2Proof.Machine.execLineRwStatus c s
  | .lineRwCounters c => Sys2Proof.Machine.execLineRwCounters c s
  | .lineRwInject c => Sys2Proof.Machine.execLineRwInject c s
  | .clientGroupConfig c => Sys2Proof.Machine.execClientGroupConfig c s
  | .clientIfaceSet c => Sys2Proof.Machine.execClientIfaceSet c s
  | .clientLaneEnable c => Sys2Proof.Machine.execClientLaneEnable c s
  | .clientLaneMute c => Sys2Proof.Machine.execClientLaneMute c s
  | .clientEqSet c => Sys2Proof.Machine.execClientEqSet c s
  | .clientTxSet c => Sys2Proof.Machine.execClientTxSet c s
  | .clientPatternSet c => Sys2Proof.Machine.execClientPatternSet c s
  | .clientLaneStatus c => Sys2Proof.Machine.execClientLaneStatus c s
  | .clientCounters c => Sys2Proof.Machine.execClientCounters c s
  | .hostEqLoad c => Sys2Proof.Machine.execHostEqLoad c s
  | .hostIfaceSet c => Sys2Proof.Machine.execHostIfaceSet c s
  | .hostLaneEnable c => Sys2Proof.Machine.execHostLaneEnable c s
  | .hostLaneSquelch c => Sys2Proof.Machine.execHostLaneSquelch c s
  | .hostPatternSet c => Sys2Proof.Machine.execHostPatternSet c s
  | .hostInject c => Sys2Proof.Machine.execHostInject c s
  | .hostLaneStatus c => Sys2Proof.Machine.execHostLaneStatus c s
  | .hostCounters c => Sys2Proof.Machine.execHostCounters c s
  | .tallyTagSet c => Sys2Proof.Machine.execTallyTagSet c s
  | .tallyTagRead c => Sys2Proof.Machine.execTallyTagRead c s
  | .tallySlotRead c => Sys2Proof.Machine.execTallySlotRead c s
  | .tallyFifoRead c => Sys2Proof.Machine.execTallyFifoRead c s
  | .tallyFreeze c => Sys2Proof.Machine.execTallyFreeze c s
  | .hallmarkCertRead c => Sys2Proof.Machine.execHallmarkCertRead c s
  | .hallmarkMeasureRead c => Sys2Proof.Machine.execHallmarkMeasureRead c s
  | .hallmarkAttest c => Sys2Proof.Machine.execHallmarkAttest c s
  | .hallmarkKekOffer c => Sys2Proof.Machine.execHallmarkKekOffer c s
  | .hallmarkKekAccept c => Sys2Proof.Machine.execHallmarkKekAccept c s
  | .hallmarkFuseAdvance c => Sys2Proof.Machine.execHallmarkFuseAdvance c s
  | .hallmarkTallyMask c => Sys2Proof.Machine.execHallmarkTallyMask c s
  | .hallmarkStatus c => Sys2Proof.Machine.execHallmarkStatus c s
  | .serviceImageLoad c => Sys2Proof.Machine.execServiceImageLoad c s
  | .serviceImageVerify c => Sys2Proof.Machine.execServiceImageVerify c s
  | .serviceHandover c => Sys2Proof.Machine.execServiceHandover c s
  | .serviceChange c => Sys2Proof.Machine.execServiceChange c s
  | .serviceStatus c => Sys2Proof.Machine.execServiceStatus c s
  | .serviceAgeingRead c => Sys2Proof.Machine.execServiceAgeingRead c s
  | .diagFaultStatus c => Sys2Proof.Machine.execDiagFaultStatus c s
  | .diagFaultLogRead c => Sys2Proof.Machine.execDiagFaultLogRead c s
  | .diagSramCounters c => Sys2Proof.Machine.execDiagSramCounters c s
  | .diagSweepRun c => Sys2Proof.Machine.execDiagSweepRun c s
  | .diagInject c => Sys2Proof.Machine.execDiagInject c s
  | .doorbellWrite q value => Sys2Proof.Machine.execDoorbellWrite q value s
  | .commandTake iface q packet => Sys2Proof.Machine.execCommandTake iface q packet s
  | .eventDeliver => Sys2Proof.Machine.execEventDeliver s
  | .consWrite ring value => Sys2Proof.Machine.execConsWrite ring value s
  | .ringEnable ring value => Sys2Proof.Machine.execRingEnable ring value s
  | .ringDisable ring value => Sys2Proof.Machine.execRingDisable ring value s
  | .ringStop ring => Sys2Proof.Machine.execRingStop ring s
  | .stoppedClear ring value => Sys2Proof.Machine.execStoppedClear ring value s
  | .tempExcursionClear value => Sys2Proof.Machine.execTempExcursionClear value s
  | .paceShortClear value => Sys2Proof.Machine.execPaceShortClear value s
  | .timeLoRead iface wide => Sys2Proof.Machine.execTimeLoRead iface wide s
  | .registerWrite offset value => Sys2Proof.Machine.execRegisterWrite offset value s
  | .boundExpiry iface q seq => Sys2Proof.Machine.execBoundExpiry iface q seq s
  | .spiWriteCmd index packet => Sys2Proof.Machine.execSpiWriteCmd index packet s
  | .spiReadReply index count => Sys2Proof.Machine.execSpiReadReply index count s
  | .spiReadEvent count => Sys2Proof.Machine.execSpiReadEvent count s
  | .spiReadWindow offset count => Sys2Proof.Machine.execSpiReadWindow offset count s
  | .spiWriteWindow offset data => Sys2Proof.Machine.execSpiWriteWindow offset data s
  | .spiBadInstruction code => Sys2Proof.Machine.execSpiBadInstruction code s
  | .faultDetected ha unit => Sys2Proof.Machine.execFaultDetected ha unit s
  | .handshakeStall requester stalled span bad badSample => Sys2Proof.Machine.execHandshakeStall requester stalled span bad badSample s
  | .packetCommit cell dir words => Sys2Proof.Machine.execPacketCommit cell dir words s
  | .packetAbort cell dir => Sys2Proof.Machine.execPacketAbort cell dir s
  | .fifoRead cell dir => Sys2Proof.Machine.execFifoRead cell dir s
  | .writerRelease cell dir => Sys2Proof.Machine.execWriterRelease cell dir s
  | .fifoIdleExpiry cell dir => Sys2Proof.Machine.execFifoIdleExpiry cell dir s
  | .rxSpanFormed p rms clipped => Sys2Proof.Machine.execRxSpanFormed p rms clipped s
  | .losDeclare p => Sys2Proof.Machine.execLosDeclare p s
  | .losClear p => Sys2Proof.Machine.execLosClear p s
  | .laneFaultDeclare p conv => Sys2Proof.Machine.execLaneFaultDeclare p conv s
  | .laneFaultEnd p conv => Sys2Proof.Machine.execLaneFaultEnd p conv s
  | .acqStepDone p cd => Sys2Proof.Machine.execAcqStepDone p cd s
  | .acqBoundExpiry p => Sys2Proof.Machine.execAcqBoundExpiry p s
  | .cdScanDone p best quality second => Sys2Proof.Machine.execCdScanDone p best quality second s
  | .rxXfadeEnd p => Sys2Proof.Machine.execRxXfadeEnd p s
  | .cdSetDeferredCommit p => Sys2Proof.Machine.execCdSetDeferredCommit p s
  | .trackResidual p residual => Sys2Proof.Machine.execTrackResidual p residual s
  | .lolDeclare p cause => Sys2Proof.Machine.execLolDeclare p cause s
  | .toleranceHold p estimate beyond => Sys2Proof.Machine.execToleranceHold p estimate beyond s
  | .provisionalArrive p span => Sys2Proof.Machine.execProvisionalArrive p span s
  | .finalDecisionsArrive p span differing pilotErrors bad badSample => Sys2Proof.Machine.execFinalDecisionsArrive p span differing pilotErrors bad badSample s
  | .cycleSlip p first bad badSample => Sys2Proof.Machine.execCycleSlip p first bad badSample s
  | .residueFailure ha span bad badSample => Sys2Proof.Machine.execResidueFailure ha span bad badSample s
  | .parityFailure ha span bad badSample => Sys2Proof.Machine.execParityFailure ha span bad badSample s
  | .replayEnd p => Sys2Proof.Machine.execReplayEnd p s
  | .catchupEnd p => Sys2Proof.Machine.execCatchupEnd p s
  | .replayOverrun p => Sys2Proof.Machine.execReplayOverrun p s
  | .rwRateRepeat p => Sys2Proof.Machine.execRwRateRepeat p s
  | .spanFinal p => Sys2Proof.Machine.execSpanFinal p s
  | .txSpanFormed p clipped => Sys2Proof.Machine.execTxSpanFormed p clipped s
  | .rampEnd p => Sys2Proof.Machine.execRampEnd p s
  | .txSpanLate p span => Sys2Proof.Machine.execTxSpanLate p span s
  | .txUnderrun p => Sys2Proof.Machine.execTxUnderrun p s
  | .txXfadeEnd p dac => Sys2Proof.Machine.execTxXfadeEnd p dac s
  | .txDeferredCommit p dac => Sys2Proof.Machine.execTxDeferredCommit p dac s
  | .dealTimeout p span => Sys2Proof.Machine.execDealTimeout p span s
  | .spanDeal => Sys2Proof.Machine.execSpanDeal s
  | .decodeIterationEnd p span fault converged => Sys2Proof.Machine.execDecodeIterationEnd p span fault converged s
  | .decodeEnd p span corrected zrBits zrOk => Sys2Proof.Machine.execDecodeEnd p span corrected zrBits zrOk s
  | .messageWordUncorrectable p span => Sys2Proof.Machine.execMessageWordUncorrectable p span s
  | .marginUpdate p margin up down => Sys2Proof.Machine.execMarginUpdate p margin up down s
  | .stepSeek p => Sys2Proof.Machine.execStepSeek p s
  | .upHoldExpiry p => Sys2Proof.Machine.execUpHoldExpiry p s
  | .heldExpiry p => Sys2Proof.Machine.execHeldExpiry p s
  | .ratePropose p => Sys2Proof.Machine.execRatePropose p s
  | .rateAnswer p => Sys2Proof.Machine.execRateAnswer p s
  | .answerWaitExpiry p => Sys2Proof.Machine.execAnswerWaitExpiry p s
  | .announcementValid p => Sys2Proof.Machine.execAnnouncementValid p s
  | .rateSwitch p d => Sys2Proof.Machine.execRateSwitch p d s
  | .fallbackStart p => Sys2Proof.Machine.execFallbackStart p s
  | .candidateSwitch p => Sys2Proof.Machine.execCandidateSwitch p s
  | .frameArrive p words clean parity boltPar => Sys2Proof.Machine.execFrameArrive p words clean parity boltPar s
  | .alignDeclare p found heads => Sys2Proof.Machine.execAlignDeclare p found heads s
  | .lockDeclare p => Sys2Proof.Machine.execLockDeclare p s
  | .lofDeclare p => Sys2Proof.Machine.execLofDeclare p s
  | .lomDeclare p => Sys2Proof.Machine.execLomDeclare p s
  | .mapMismatch p slot => Sys2Proof.Machine.execMapMismatch p slot s
  | .labelAccept p thread => Sys2Proof.Machine.execLabelAccept p thread s
  | .tickRead bolt tick lostW lostP segs => Sys2Proof.Machine.execTickRead bolt tick lostW lostP segs s
  | .skewMaxExpiry bolt tick => Sys2Proof.Machine.execSkewMaxExpiry bolt tick s
  | .txFrameSend p parity boltPar under => Sys2Proof.Machine.execTxFrameSend p parity boltPar under s
  | .stripeRead kind n bad => Sys2Proof.Machine.execStripeRead kind n bad s
  | .stripeWrite kind n p tick data => Sys2Proof.Machine.execStripeWrite kind n p tick data s
  | .readMergeWrite kind n cell data bad => Sys2Proof.Machine.execReadMergeWrite kind n cell data bad s
  | .cellWriteBack => Sys2Proof.Machine.execCellWriteBack s
  | .holdLimitExpiry kind => Sys2Proof.Machine.execHoldLimitExpiry kind s
  | .stripeFree kind n => Sys2Proof.Machine.execStripeFree kind n s
  | .stackInterfaceFault k => Sys2Proof.Machine.execStackInterfaceFault k s
  | .trainingDone k => Sys2Proof.Machine.execTrainingDone k s
  | .trainingTimeout k => Sys2Proof.Machine.execTrainingTimeout k s
  | .crcRateLoss k => Sys2Proof.Machine.execCrcRateLoss k s
  | .restoreTrainDone ok => Sys2Proof.Machine.execRestoreTrainDone ok s
  | .restoreTestDone failures => Sys2Proof.Machine.execRestoreTestDone failures s
  | .restoreRebuildDone => Sys2Proof.Machine.execRestoreRebuildDone s
  | .shrinkDrainDone kind => Sys2Proof.Machine.execShrinkDrainDone kind s
  | .clientFrameArrive index bytes => Sys2Proof.Machine.execClientFrameArrive index bytes s
  | .recordFill f bad => Sys2Proof.Machine.execRecordFill f bad s
  | .cipherMessageDone n => Sys2Proof.Machine.execCipherMessageDone n s
  | .tailWrite f why => Sys2Proof.Machine.execTailWrite f why s
  | .threadBytesNeeded t tick bad => Sys2Proof.Machine.execThreadBytesNeeded t tick bad s
  | .rxParcel t pos hdr body => Sys2Proof.Machine.execRxParcel t pos hdr body s
  | .cipherDecrypt n => Sys2Proof.Machine.execCipherDecrypt n s
  | .egressDeliver index => Sys2Proof.Machine.execEgressDeliver index s
  | .keyRollover p => Sys2Proof.Machine.execKeyRollover p s
  | .clientLosDeclare g l => Sys2Proof.Machine.execClientLosDeclare g l s
  | .clientLosClear g l => Sys2Proof.Machine.execClientLosClear g l s
  | .clientBringupStepDone g l peer late => Sys2Proof.Machine.execClientBringupStepDone g l peer late s
  | .clientBringupExpiry g l => Sys2Proof.Machine.execClientBringupExpiry g l s
  | .clientLol g l => Sys2Proof.Machine.execClientLol g l s
  | .clientAnalogueFault g l adc => Sys2Proof.Machine.execClientAnalogueFault g l adc s
  | .clientEyeHold g l below => Sys2Proof.Machine.execClientEyeHold g l below s
  | .hostLosDeclare l => Sys2Proof.Machine.execHostLosDeclare l s
  | .hostLosClear l => Sys2Proof.Machine.execHostLosClear l s
  | .hostLockUp l => Sys2Proof.Machine.execHostLockUp l s
  | .hostLol l => Sys2Proof.Machine.execHostLol l s
  | .hostLockRestart l => Sys2Proof.Machine.execHostLockRestart l s
  | .hostIfaceAlign f locked skewed => Sys2Proof.Machine.execHostIfaceAlign f locked skewed s
  | .hostAnalogueFault l rx => Sys2Proof.Machine.execHostAnalogueFault l rx s
  | .checkerSync l => Sys2Proof.Machine.execCheckerSync l s
  | .checkerSyncLoss l => Sys2Proof.Machine.execCheckerSyncLoss l s
  | .xtalActivityLoss x => Sys2Proof.Machine.execXtalActivityLoss x s
  | .gateEnd offsets freqs xdiff => Sys2Proof.Machine.execGateEnd offsets freqs xdiff s
  | .refFirstEdge c => Sys2Proof.Machine.execRefFirstEdge c s
  | .qualifyComplete c => Sys2Proof.Machine.execQualifyComplete c s
  | .refActivityLoss c => Sys2Proof.Machine.execRefActivityLoss c s
  | .selectionEval => Sys2Proof.Machine.execSelectionEval s
  | .dpllLock d => Sys2Proof.Machine.execDpllLock d s
  | .bwStep d => Sys2Proof.Machine.execBwStep d s
  | .coreFault d diff => Sys2Proof.Machine.execCoreFault d diff s
  | .oneSecondTick crierSec counts => Sys2Proof.Machine.execOneSecondTick crierSec counts s
  | .esmcPduReceive iface ql => Sys2Proof.Machine.execEsmcPduReceive iface ql s
  | .qlTimeout c => Sys2Proof.Machine.execQlTimeout c s
  | .fpSlewEnd o => Sys2Proof.Machine.execFpSlewEnd o s
  | .helloTimer k => Sys2Proof.Machine.execHelloTimer k s
  | .qualityTimer k => Sys2Proof.Machine.execQualityTimer k s
  | .timeReqTimer k => Sys2Proof.Machine.execTimeReqTimer k s
  | .packetSendStart k => Sys2Proof.Machine.execPacketSendStart k s
  | .packetCut k => Sys2Proof.Machine.execPacketCut k s
  | .packetSendEnd k => Sys2Proof.Machine.execPacketSendEnd k s
  | .listenerTrigger k => Sys2Proof.Machine.execListenerTrigger k s
  | .syncQualify k second strength sync => Sys2Proof.Machine.execSyncQualify k second strength sync s
  | .qualifyTimeout k second => Sys2Proof.Machine.execQualifyTimeout k second s
  | .packetReceiveEnd k length type payload crc chip => Sys2Proof.Machine.execPacketReceiveEnd k length type payload crc chip s
  | .hello k => Sys2Proof.Machine.execHello k s
  | .quality k => Sys2Proof.Machine.execQuality k s
  | .timeReq k depart => Sys2Proof.Machine.execTimeReq k depart s
  | .timeResp k => Sys2Proof.Machine.execTimeResp k s
  | .segment k => Sys2Proof.Machine.execSegment k s
  | .hostLink k => Sys2Proof.Machine.execHostLink k s
  | .domain k => Sys2Proof.Machine.execDomain k s
  | .joinReq k => Sys2Proof.Machine.execJoinReq k s
  | .joinAnswer k => Sys2Proof.Machine.execJoinAnswer k s
  | .report k => Sys2Proof.Machine.execReport k s
  | .beacon k => Sys2Proof.Machine.execBeacon k s
  | .peerLost k => Sys2Proof.Machine.execPeerLost k s
  | .exchangeMissed k => Sys2Proof.Machine.execExchangeMissed k s
  | .objectTimeout k => Sys2Proof.Machine.execObjectTimeout k s
  | .beaconTimer => Sys2Proof.Machine.execBeaconTimer s
  | .reportTimer => Sys2Proof.Machine.execReportTimer s
  | .joinReqTimer => Sys2Proof.Machine.execJoinReqTimer s
  | .admitTimeout => Sys2Proof.Machine.execAdmitTimeout s
  | .rejoinWaitExpiry => Sys2Proof.Machine.execRejoinWaitExpiry s
  | .proofTimeout => Sys2Proof.Machine.execProofTimeout s
  | .fuseBlown ok => Sys2Proof.Machine.execFuseBlown ok s
  | .assayTimerFire t => Sys2Proof.Machine.execAssayTimerFire t s
  | .pwmPeriodStart l => Sys2Proof.Machine.execPwmPeriodStart l s
  | .internalScan => Sys2Proof.Machine.execInternalScan s
  | .triggerDelayEnd src => Sys2Proof.Machine.execTriggerDelayEnd src s
  | .sequenceEnd => Sys2Proof.Machine.execSequenceEnd s
  | .conversionResult ch code filterOut => Sys2Proof.Machine.execConversionResult ch code filterOut s
  | .biasLoopUpdate l plus minus => Sys2Proof.Machine.execBiasLoopUpdate l plus minus s
  | .biasAlarmHold l cause => Sys2Proof.Machine.execBiasAlarmHold l cause s
  | .calBackground kind => Sys2Proof.Machine.execCalBackground kind s
  | .calRunDone n results qualityNew qualityOld => Sys2Proof.Machine.execCalRunDone n results qualityNew qualityOld s
  | .qualityUpdate m index value reference measured => Sys2Proof.Machine.execQualityUpdate m index value reference measured s
  | .paceSample readings predicted ok readBack => Sys2Proof.Machine.execPaceSample readings predicted ok readBack s
  | .paceLowerStep ok => Sys2Proof.Machine.execPaceLowerStep ok s
  | .paceHoldRelease => Sys2Proof.Machine.execPaceHoldRelease s
  | .paceRestored => Sys2Proof.Machine.execPaceRestored s
  | .avsbusRetry ok => Sys2Proof.Machine.execAvsbusRetry ok s
  | .avsMismatchHold readBack => Sys2Proof.Machine.execAvsMismatchHold readBack s
  | .ageingDaily mv years growth => Sys2Proof.Machine.execAgeingDaily mv years growth s
  | .sramRead cell addr written errors again what sweep => Sys2Proof.Machine.execSramRead cell addr written errors again what sweep s
  | .configRestore => Sys2Proof.Machine.execConfigRestore s
  | .decisionMismatch ha unit => Sys2Proof.Machine.execDecisionMismatch ha unit s
  | .chipPairMismatch supervisor => Sys2Proof.Machine.execChipPairMismatch supervisor s
  | .chipPairTestDone supervisor ok => Sys2Proof.Machine.execChipPairTestDone supervisor ok s
  | .controlPairSwap standby => Sys2Proof.Machine.execControlPairSwap standby s
  | .pairTestDone ok => Sys2Proof.Machine.execPairTestDone ok s
  | .lonePairRestart => Sys2Proof.Machine.execLonePairRestart s
  | .sweepEnd store => Sys2Proof.Machine.execSweepEnd store s
  | .prepareDone r fault lost => Sys2Proof.Machine.execPrepareDone r fault lost s
  | .copyDone r fault lost => Sys2Proof.Machine.execCopyDone r fault lost s
  | .switch r => Sys2Proof.Machine.execSwitch r s
  | .retestDone r bad => Sys2Proof.Machine.execRetestDone r bad s
  | .migrationLoadDone r ok => Sys2Proof.Machine.execMigrationLoadDone r ok s
  | .decodesDrained r => Sys2Proof.Machine.execDecodesDrained r s
  | .migrationRetestDone r bad => Sys2Proof.Machine.execMigrationRetestDone r bad s
  | .coreLoadDone d ok => Sys2Proof.Machine.execCoreLoadDone d ok s
  | .coreFollowDone d ok => Sys2Proof.Machine.execCoreFollowDone d ok s
  | .handoverLoadDone ok => Sys2Proof.Machine.execHandoverLoadDone ok s
  | .handoverTakeover => Sys2Proof.Machine.execHandoverTakeover s
  | .formerPairReady ok => Sys2Proof.Machine.execFormerPairReady ok s
  | .verifyDone readError outside => Sys2Proof.Machine.execVerifyDone readError outside s
  | .bar2LowRead offset wide => Sys2Proof.Machine.execBar2LowRead offset wide s
  | .powerOn => Sys2Proof.Machine.execPowerOn s
  | .rstNAssert => Sys2Proof.Machine.execRstNAssert s
  | .perstAssert => Sys2Proof.Machine.execPerstAssert s
  | .brownOut => Sys2Proof.Machine.execBrownOut s
  | .bootBegin x0 x1 => Sys2Proof.Machine.execBootBegin x0 x1 s
  | .romStartDone => Sys2Proof.Machine.execRomStartDone s
  | .imageReadDone readError outside => Sys2Proof.Machine.execImageReadDone readError outside s
  | .selfTestDone bad lost pair0 pair1 => Sys2Proof.Machine.execSelfTestDone bad lost pair0 pair1 s
  | .endpointReady => Sys2Proof.Machine.execEndpointReady s
  | .tapInstructionUpdate code => Sys2Proof.Machine.execTapInstructionUpdate code s
  | .tapReset => Sys2Proof.Machine.execTapReset s
  | .spanHandoff p est => Sys2Proof.Machine.execSpanHandoff p est s
  | .xtalActivityReturn x => Sys2Proof.Machine.execXtalActivityReturn x s
  | .endpointConfiguration => Sys2Proof.Machine.execEndpointConfiguration s
  | .erasureSecondExpiry => Sys2Proof.Machine.execErasureSecondExpiry s
  | .clientLaneFaultEnd g l adc => Sys2Proof.Machine.execClientLaneFaultEnd g l adc s
  | .hostLaneFaultEnd l rx => Sys2Proof.Machine.execHostLaneFaultEnd l rx s

end Sys2Proof.Machine
end

