-- ==== Sys2Proof/Machine/Step.lean ====
section
/-!
DEFINITION. One step: the command at the front of the queue, or, on an empty queue, a nanosecond of device time.
-/

namespace Sys2Proof.Machine

/-- Device time runs: no cold reset is held and the device has a clock (spec/02 R69, spec/13 R368, spec/20 R518). -/
def State.ticking (s : State) : Bool := decide (s.boot.phase ≠ .reset) && !s.timing.clockLost

/-- A step of an empty queue: 1 ns of device time where it runs. DESIGN CHOICE (notes/assumptions/1). -/
def State.idle1 (s : State) : State := if s.ticking then s.withTime (s.time + 65536) else s

/-- One step of the block: the front command runs on the state with the rest of the queue. -/
def step (s : State) : Host.Outcome State Fault Refusal :=
  match s.pending with
  | [] => .next s.idle1
  | c :: r => exec c (s.withPending r)

/-- The state with the command that a table word spells at the front of its queue; no word spells one. -/
def State.withFetchWord (s : State) (nbits w : Nat) : State :=
  match decodeTableWord nbits w with
  | some c => s.withPending (c :: s.pending)
  | none => s

end Sys2Proof.Machine
end

