-- ==== Sys2Proof/WellFormed.lean ====
section
/-!
DEFINITION. Well-formed commands: what a command's operands must be for the spec's rules to speak of it.
-/

set_option Elab.async false

namespace Sys2Proof

/-- A packet past check 1 of Table 2-4: at most 2,045 parameter words (spec/02 R44). -/
def Cmd.wf (c : Cmd) : Bool := decide (c.params.length ≤ 2045)

/-- An address whose region exists: regions 0x00 to 0x1D (spec/00 R13). -/
def haInChip (ha : BitVec 20) : Bool := decide (haRegion ha.toNat ≤ 0x1D)

/-- A stripe of the Storehouse's 33,554,432 (spec/09 R262). -/
def stripeInStore (n : Nat) : Bool := decide (n < 33554432)

/-- Numbers of DRAM stacks, 0 to 3 (spec/09 R262). -/
def stacksOf (l : List Nat) : Bool := l.all fun k => decide (k < 4)

/-- Operands inside the ranges the spec gives them. -/
def Instr.wf (i : Instr) : Bool :=
  match i with
  | .clerkNop c | .clerkJobResult c | .clerkJobCancel c | .clerkProtoCounters c | .clerkEventFilterSet c
  | .clerkBootStatus c | .clerkMapRead c | .clerkFifoIdleSet c | .timingConfig c | .timingRefSet c | .timingDpllSet c
  | .timingPrioSet c | .timingOutSet c | .timingFpAlign c | .timingForce c | .timingTodSet c | .timingStatus c
  | .timingRefStatus c | .timingDpllStatus c | .timingCounters c | .assayTimerSet c | .assaySeqSet c | .assayChanSet c
  | .assayTelemRead c | .assayPwmSet c | .assayBiasSet c | .assayBiasStatus c | .assayCalRun c | .assayCalSet c
  | .assayQualityRead c | .assayPaceStatus c | .assayCounters c | .crierPortSet c | .crierUnitSet c | .crierSend c
  | .crierReceive c | .crierAdmit c | .crierMemberRead c | .crierStatus c | .crierCounters c | .storePartCreate c
  | .storePartResize c | .storePartDelete c | .storePartSet c | .storePartStatus c | .storeStatus c | .storeCounters c
  | .storeStackRetire c | .storeStackRestore c | .storeInject c | .loomPortConfig c | .loomBoltSet c | .loomThreadSet c
  | .loomProtSet c | .loomProtSwitch c | .loomPortStatus c | .loomBoltStatus c | .loomThreadStatus c | .loomPmRead c
  | .loomMapRead c | .loomCounters c | .flowIfaceSet c | .flowSet c | .flowClassMap c | .flowThreadSet c | .flowStatus c
  | .flowCounters c | .flowRegionCounters c | .ciphKeyLoad c | .ciphRollover c | .ciphCtxStatus c | .ciphPoolStatus c
  | .ciphCounters c | .fecPortConfig c | .fecPortStatus c | .fecPortCounters c | .fecPoolStatus c | .fecRegionCounters c
  | .fecCodeRead c | .fecInject c | .lineRxConfig c | .lineRxEnable c | .lineRxCdSet c | .lineRxCdScan c | .lineRxEqSet c
  | .lineRxLoopSet c | .lineRxFrontSet c | .lineRxStatus c | .lineRxCounters c | .lineTxConfig c | .lineTxEnable c
  | .lineTxMute c | .lineTxRampSet c | .lineTxPrecompSet c | .lineTxBackSet c | .lineTxEmphLoad c | .lineTxStatus c
  | .lineTxCounters c | .lineRaConfig c | .lineRaStep c | .lineRaGuardSet c | .lineRaPlanRead c | .lineRaStatus c
  | .lineRaCounters c | .lineRwConfig c | .lineRwStatus c | .lineRwCounters c | .lineRwInject c | .clientGroupConfig c
  | .clientIfaceSet c | .clientLaneEnable c | .clientLaneMute c | .clientEqSet c | .clientTxSet c | .clientPatternSet c
  | .clientLaneStatus c | .clientCounters c | .hostEqLoad c | .hostIfaceSet c | .hostLaneEnable c | .hostLaneSquelch c
  | .hostPatternSet c | .hostInject c | .hostLaneStatus c | .hostCounters c | .tallyTagSet c | .tallyTagRead c
  | .tallySlotRead c | .tallyFifoRead c | .tallyFreeze c | .hallmarkCertRead c | .hallmarkMeasureRead c | .hallmarkAttest c
  | .hallmarkKekOffer c | .hallmarkKekAccept c | .hallmarkFuseAdvance c | .hallmarkTallyMask c | .hallmarkStatus c
  | .serviceImageLoad c | .serviceImageVerify c | .serviceHandover c | .serviceChange c | .serviceStatus c
  | .serviceAgeingRead c | .diagFaultStatus c | .diagFaultLogRead c | .diagSramCounters c | .diagSweepRun c | .diagInject c => c.wf
  | .commandTake _ _ packet => decide (packet.length ≤ 2048)
  | .spiWriteCmd _ packet => decide (packet.length ≤ 2048)
  | .faultDetected ha _ => haInChip ha
  | .handshakeStall requester stalled _ _ _ => haInChip requester && haInChip stalled
  | .packetCommit cell _ words => haInChip cell && decide (1 ≤ words)
  | .packetAbort cell _ => haInChip cell
  | .fifoRead cell _ => haInChip cell
  | .writerRelease cell _ => haInChip cell
  | .fifoIdleExpiry cell _ => haInChip cell
  | .rxSpanFormed _ rms clipped => rms.length == 4 && clipped.length == 4
  | .residueFailure ha _ _ _ => haInChip ha
  | .parityFailure ha _ _ _ => haInChip ha
  | .frameArrive _ _ _ _ boltPar => boltPar.all fun e => decide (e.1 < 512)
  | .stripeRead _ n bad => stripeInStore n && stacksOf bad
  | .stripeWrite _ n _ _ data => stripeInStore n && decide (data.length ≤ 768)
  | .readMergeWrite _ n _ data bad => stripeInStore n && decide (data.length ≤ 256) && stacksOf bad
  | .stripeFree _ n => stripeInStore n
  | .clientFrameArrive _ bytes => decide (0 < bytes.length)
  | .recordFill f bad => decide (f < 1048576) && stacksOf bad
  | .gateEnd offsets freqs _ => freqs.length == 4 && offsets.all fun e => decide (e.1 ≤ 16)
  | .packetReceiveEnd _ length _ payload _ _ => payload.length == length.toNat
  | .sramRead cell _ _ _ _ _ _ => haInChip cell
  | .decisionMismatch ha _ => haInChip ha
  | .doorbellWrite _ _ | .eventDeliver | .consWrite _ _ | .ringEnable _ _ | .ringDisable _ _ | .ringStop _
  | .stoppedClear _ _ | .tempExcursionClear _ | .paceShortClear _ | .timeLoRead _ _ | .registerWrite _ _
  | .boundExpiry _ _ _ | .spiReadReply _ _ | .spiReadEvent _ | .spiReadWindow _ _ | .spiWriteWindow _ _
  | .spiBadInstruction _ | .losDeclare _ | .losClear _ | .laneFaultDeclare _ _ | .laneFaultEnd _ _ | .acqStepDone _ _
  | .acqBoundExpiry _ | .cdScanDone _ _ _ _ | .rxXfadeEnd _ | .cdSetDeferredCommit _ | .trackResidual _ _ | .lolDeclare _ _
  | .toleranceHold _ _ _ | .provisionalArrive _ _ | .finalDecisionsArrive _ _ _ _ _ _ | .cycleSlip _ _ _ _ | .replayEnd _
  | .catchupEnd _ | .replayOverrun _ | .rwRateRepeat _ | .spanFinal _ | .txSpanFormed _ _ | .rampEnd _ | .txSpanLate _ _
  | .txUnderrun _ | .txXfadeEnd _ _ | .txDeferredCommit _ _ | .dealTimeout _ _ | .spanDeal | .decodeIterationEnd _ _ _ _
  | .decodeEnd _ _ _ _ _ | .messageWordUncorrectable _ _ | .marginUpdate _ _ _ _ | .stepSeek _ | .upHoldExpiry _
  | .heldExpiry _ | .ratePropose _ | .rateAnswer _ | .answerWaitExpiry _ | .announcementValid _ | .rateSwitch _ _
  | .fallbackStart _ | .candidateSwitch _ | .alignDeclare _ _ _ | .lockDeclare _ | .lofDeclare _ | .lomDeclare _
  | .mapMismatch _ _ | .labelAccept _ _ | .tickRead _ _ _ _ _ | .skewMaxExpiry _ _ | .txFrameSend _ _ _ _ | .cellWriteBack
  | .holdLimitExpiry _ | .stackInterfaceFault _ | .trainingDone _ | .trainingTimeout _ | .crcRateLoss _
  | .restoreTrainDone _ | .restoreTestDone _ | .restoreRebuildDone | .shrinkDrainDone _ | .cipherMessageDone _
  | .tailWrite _ _ | .threadBytesNeeded _ _ _ | .rxParcel _ _ _ _ | .cipherDecrypt _ | .egressDeliver _ | .keyRollover _
  | .clientLosDeclare _ _ | .clientLosClear _ _ | .clientBringupStepDone _ _ _ _ | .clientBringupExpiry _ _ | .clientLol _ _
  | .clientAnalogueFault _ _ _ | .clientEyeHold _ _ _ | .hostLosDeclare _ | .hostLosClear _ | .hostLockUp _ | .hostLol _
  | .hostLockRestart _ | .hostIfaceAlign _ _ _ | .hostAnalogueFault _ _ | .checkerSync _ | .checkerSyncLoss _
  | .xtalActivityLoss _ | .refFirstEdge _ | .qualifyComplete _ | .refActivityLoss _ | .selectionEval | .dpllLock _
  | .bwStep _ | .coreFault _ _ | .oneSecondTick _ _ | .esmcPduReceive _ _ | .qlTimeout _ | .fpSlewEnd _ | .helloTimer _
  | .qualityTimer _ | .timeReqTimer _ | .packetSendStart _ | .packetCut _ | .packetSendEnd _ | .listenerTrigger _
  | .syncQualify _ _ _ _ | .qualifyTimeout _ _ | .hello _ | .quality _ | .timeReq _ _ | .timeResp _ | .segment _
  | .hostLink _ | .domain _ | .joinReq _ | .joinAnswer _ | .report _ | .beacon _ | .peerLost _ | .exchangeMissed _
  | .objectTimeout _ | .beaconTimer | .reportTimer | .joinReqTimer | .admitTimeout | .rejoinWaitExpiry | .proofTimeout
  | .fuseBlown _ | .assayTimerFire _ | .pwmPeriodStart _ | .internalScan | .triggerDelayEnd _ | .sequenceEnd
  | .conversionResult _ _ _ | .biasLoopUpdate _ _ _ | .biasAlarmHold _ _ | .calBackground _ | .calRunDone _ _ _ _
  | .qualityUpdate _ _ _ _ _ | .paceSample _ _ _ _ | .paceLowerStep _ | .paceHoldRelease | .paceRestored | .avsbusRetry _
  | .avsMismatchHold _ | .ageingDaily _ _ _ | .configRestore | .chipPairMismatch _ | .chipPairTestDone _ _
  | .controlPairSwap _ | .pairTestDone _ | .lonePairRestart | .sweepEnd _ | .prepareDone _ _ _ | .copyDone _ _ _ | .switch _
  | .retestDone _ _ | .migrationLoadDone _ _ | .decodesDrained _ | .migrationRetestDone _ _ | .coreLoadDone _ _
  | .coreFollowDone _ _ | .handoverLoadDone _ | .handoverTakeover | .formerPairReady _ | .verifyDone _ _ | .bar2LowRead _ _
  | .powerOn | .rstNAssert | .perstAssert | .brownOut | .bootBegin _ _ | .romStartDone | .imageReadDone _ _
  | .selfTestDone _ _ _ _ | .endpointReady | .tapInstructionUpdate _ | .tapReset | .spanHandoff _ _ | .xtalActivityReturn _
  | .endpointConfiguration | .erasureSecondExpiry | .clientLaneFaultEnd _ _ _ | .hostLaneFaultEnd _ _ => true

end Sys2Proof
end

