-- ==== Sys2Proof/Safety.lean ====
section
/-!
DEFINITION. What holds of every state the block can be in, and what a command leaves alone: the terms the statements use.
-/

set_option Elab.async false

namespace Sys2Proof.Machine

/-- The buffers CLERK bounds: 1,024 event records an interface (spec/02 R62), the newest 256 ended jobs (R55). -/
def Clerk.ok (c : Clerk) : Prop := c.ev.a.buf.length ≤ 1024 ∧ c.ev.b.buf.length ≤ 1024 ∧ c.ended.length ≤ 256

/-- The fault log holds at most 1,024 records (spec/17 R472); HEALTH is one of its three codes (Table 17-3). -/
def Hier.ok (h : Hier) : Prop := h.log.length ≤ 1024 ∧ h.health ≤ 2

/-- Every Tally counter is of 48 bits (spec/19 R499), and the table is in canonical form. -/
def Tally.ok (t : Tally) : Prop := Tab.wf 0 t.counters = true ∧ ∀ e ∈ t.counters, e.2 < 2 ^ 48

/-- The Storehouse's payload bytes are in canonical form. -/
def Store.ok (st : Store) : Prop := Memory.wf st.mem = true

/-- BOOT_STATE as the phase of boot fixes it (spec/20 R519, R521 to R523). -/
def Boot.ok (b : Boot) : Prop :=
  match b.phase with
  | .reset | .romStart | .image | .recovery => b.bootState = 1
  | .selfTest | .stopped => b.bootState = 2
  | .ready => b.bootState = 3 ∨ b.bootState = 4

/-- The components of the state, by the names of its fields; the queue is not one of them. -/
inductive Comp where
  | time
  | free
  | out
  | bar0
  | clerk
  | hier
  | tally
  | boot
  | hall
  | serv
  | rx
  | rw
  | fec
  | tx
  | loom
  | ra
  | crier
  | store
  | flow
  | lanes
  | timing
  | assay
  | damage
  deriving DecidableEq, Repr

/-- A component of two states is the same. -/
def State.same (s t : State) : Comp → Prop
  | .time => t.time = s.time
  | .free => t.free = s.free
  | .out => t.out = s.out
  | .bar0 => t.bar0 = s.bar0
  | .clerk => t.clerk = s.clerk
  | .hier => t.hier = s.hier
  | .tally => t.tally = s.tally
  | .boot => t.boot = s.boot
  | .hall => t.hall = s.hall
  | .serv => t.serv = s.serv
  | .rx => t.rx = s.rx
  | .rw => t.rw = s.rw
  | .fec => t.fec = s.fec
  | .tx => t.tx = s.tx
  | .loom => t.loom = s.loom
  | .ra => t.ra = s.ra
  | .crier => t.crier = s.crier
  | .store => t.store = s.store
  | .flow => t.flow = s.flow
  | .lanes => t.lanes = s.lanes
  | .timing => t.timing = s.timing
  | .assay => t.assay = s.assay
  | .damage => t.damage = s.damage

/-- From `s` to `t` at most the named components change. -/
def State.only (cs : List Comp) (s t : State) : Prop := ∀ c, c ∉ cs → s.same t c

/-- What every step keeps. -/
def State.Inv (s : State) : Prop := s.clerk.ok ∧ s.hier.ok ∧ s.tally.ok ∧ s.store.ok ∧ s.boot.ok

/-! ### What a command may change -/

/-- The components a command may change; everything else of the state it leaves alone. A packet may change its own units, what
takes its reply (`clerk`, and on PCI Express the ring in `bar0` and what leaves the device in `out`) and, where it is refused, a
counter in `tally`. -/
def touches (i : Instr) : List Comp :=
  match i with
  | .clerkNop _ | .clerkJobResult _ | .clerkProtoCounters _ | .clerkEventFilterSet _ | .clerkBootStatus _
  | .clerkMapRead _ | .timingCounters _ | .assayTelemRead _ | .assayQualityRead _ | .assayCounters _ | .crierStatus _
  | .crierCounters _ | .storeCounters _ | .loomPortStatus _ | .loomPmRead _ | .loomMapRead _ | .loomCounters _
  | .flowStatus _ | .flowCounters _ | .flowRegionCounters _ | .ciphCtxStatus _ | .ciphPoolStatus _ | .ciphCounters _
  | .fecPortStatus _ | .fecPortCounters _ | .fecPoolStatus _ | .fecRegionCounters _ | .fecCodeRead _ | .lineRxStatus _
  | .lineRxCounters _ | .lineTxCounters _ | .lineRaPlanRead _ | .lineRaCounters _ | .lineRwStatus _ | .lineRwCounters _
  | .clientCounters _ | .hostCounters _ | .tallyTagSet _ | .tallyTagRead _ | .tallySlotRead _ | .tallyFreeze _
  | .hallmarkCertRead _ | .hallmarkMeasureRead _ | .hallmarkAttest _ | .hallmarkStatus _ | .serviceImageVerify _
  | .serviceStatus _ | .serviceAgeingRead _ | .diagFaultStatus _ | .diagFaultLogRead _ | .diagSramCounters _
    => [.out, .bar0, .clerk, .tally]
  | .clerkJobCancel _ => [.free, .out, .bar0, .clerk, .hier, .tally, .hall, .serv, .rx, .fec, .ra, .store, .flow, .assay]
  | .clerkFifoIdleSet _ | .tallyFifoRead _ | .hallmarkFuseAdvance _ | .diagSweepRun _ | .diagInject _ | .eventDeliver
  | .consWrite _ _ | .ringEnable _ _ | .ringDisable _ _ | .stoppedClear _ _ | .registerWrite _ _ | .spiWriteWindow _ _
    => [.out, .bar0, .clerk, .hier, .tally]
  | .timingConfig _ => [.out, .bar0, .clerk, .hier, .tally, .timing]
  | .timingRefSet _ | .timingForce _ => [.free, .out, .bar0, .clerk, .hier, .tally, .timing]
  | .timingDpllSet _ | .timingPrioSet _ | .timingOutSet _ | .timingFpAlign _ | .timingTodSet _
    => [.out, .bar0, .clerk, .tally, .timing]
  | .timingStatus _ | .timingRefStatus _ | .timingDpllStatus _ | .assayBiasStatus _ | .storeStatus _
  | .loomThreadStatus _ | .lineTxStatus _ | .lineRaStatus _ | .clientLaneStatus _ | .hostLaneStatus _
    => [.free, .out, .bar0, .clerk, .tally]
  | .assayTimerSet _ | .assaySeqSet _ | .assayChanSet _ | .assayPwmSet _ | .assayBiasSet _ | .assayCalRun _
  | .assayCalSet _ => [.out, .bar0, .clerk, .tally, .assay]
  | .assayPaceStatus _ | .paceSample _ _ _ _ => [.free, .out, .bar0, .clerk, .hier, .tally, .assay]
  | .crierPortSet _ | .crierSend _ | .crierReceive _ => [.out, .bar0, .clerk, .tally, .crier]
  | .crierUnitSet _ => [.free, .out, .bar0, .clerk, .hier, .tally, .hall, .crier, .store]
  | .crierAdmit _ => [.free, .out, .bar0, .clerk, .hier, .tally, .crier, .store]
  | .crierMemberRead _ => [.out, .bar0, .clerk, .hier, .tally, .crier, .store]
  | .storePartCreate _ | .storePartDelete _ | .storePartSet _ | .storePartStatus _ | .storeInject _
    => [.out, .bar0, .clerk, .tally, .store]
  | .storePartResize _ | .flowThreadSet _ | .ciphKeyLoad _ | .ciphRollover _
    => [.free, .out, .bar0, .clerk, .hier, .tally, .store, .flow]
  | .storeStackRetire _ => [.free, .out, .bar0, .clerk, .hier, .tally, .store]
  | .storeStackRestore _ => [.out, .bar0, .clerk, .hier, .tally, .store]
  | .loomPortConfig _ | .loomProtSwitch _ | .loomBoltStatus _ => [.out, .bar0, .clerk, .tally, .loom]
  | .loomBoltSet _ | .loomThreadSet _ | .loomProtSet _ | .lineRaGuardSet _
    => [.out, .bar0, .clerk, .hier, .tally, .fec, .loom, .ra, .flow]
  | .flowIfaceSet _ | .flowClassMap _ => [.out, .bar0, .clerk, .tally, .flow]
  | .flowSet _ => [.free, .out, .bar0, .clerk, .hier, .tally, .fec, .store, .flow]
  | .fecPortConfig _ | .fecInject _ => [.out, .bar0, .clerk, .tally, .fec]
  | .lineRxConfig _ => [.out, .bar0, .clerk, .hier, .tally, .rx, .fec, .ra, .flow]
  | .lineRxEnable _ => [.out, .bar0, .clerk, .hier, .tally, .boot, .rx, .rw, .fec, .loom, .ra, .crier, .flow]
  | .lineRxCdSet _ | .cdSetDeferredCommit _ => [.out, .bar0, .clerk, .hier, .tally, .rx]
  | .lineRxCdScan _ | .lineRxEqSet _ | .lineRxLoopSet _ | .lineRxFrontSet _ => [.out, .bar0, .clerk, .tally, .rx]
  | .lineTxConfig _ => [.out, .bar0, .clerk, .tally, .tx, .ra, .crier, .flow]
  | .lineTxEnable _ => [.out, .bar0, .clerk, .hier, .tally, .boot, .hall, .fec, .tx, .loom, .ra, .crier, .flow]
  | .lineTxMute _ | .rampEnd _ => [.out, .bar0, .clerk, .hier, .tally, .hall, .tx, .crier]
  | .lineTxRampSet _ | .lineTxPrecompSet _ | .lineTxBackSet _ => [.out, .bar0, .clerk, .tally, .tx]
  | .lineTxEmphLoad _ | .txDeferredCommit _ _ => [.out, .bar0, .clerk, .tally, .hall, .tx]
  | .lineRaConfig _ => [.out, .bar0, .clerk, .tally, .ra]
  | .lineRaStep _ => [.out, .bar0, .clerk, .hier, .tally, .ra]
  | .lineRwConfig _ | .lineRwInject _ => [.out, .bar0, .clerk, .tally, .rw]
  | .clientGroupConfig _ | .clientLaneMute _ | .clientEqSet _ | .clientTxSet _ | .hostLaneSquelch _ | .hostInject _
    => [.out, .bar0, .clerk, .tally, .lanes]
  | .clientIfaceSet _ | .clientPatternSet _ | .hostIfaceSet _ | .hostPatternSet _
    => [.out, .bar0, .clerk, .hier, .tally, .flow, .lanes]
  | .clientLaneEnable _ | .hostLaneEnable _ => [.out, .bar0, .clerk, .hier, .tally, .boot, .flow, .lanes]
  | .hostEqLoad _ => [.out, .bar0, .clerk, .tally, .hall, .lanes]
  | .hallmarkKekOffer _ => [.free, .out, .bar0, .clerk, .tally, .hall]
  | .hallmarkKekAccept _ => [.out, .bar0, .clerk, .hier, .tally, .hall]
  | .hallmarkTallyMask _ => [.out, .bar0, .clerk, .tally, .hall]
  | .serviceImageLoad _ => [.out, .bar0, .clerk, .tally, .hall, .serv]
  | .serviceHandover _ => [.out, .bar0, .clerk, .hier, .tally, .boot, .serv]
  | .serviceChange _ => [.out, .bar0, .clerk, .hier, .tally, .serv]
  | .doorbellWrite _ _ | .ringStop _ | .tempExcursionClear _ | .paceShortClear _ => [.bar0, .clerk, .hier, .tally]
  | .commandTake _ _ _ | .paceHoldRelease
    => [.time, .free, .out, .bar0, .clerk, .hier, .tally, .boot, .hall, .serv, .rx, .rw, .fec, .tx, .loom, .ra, .crier, .store, .flow, .lanes, .timing, .assay, .damage]
  | .timeLoRead _ _ | .spiReadWindow _ _ => [.out, .bar0]
  | .boundExpiry _ _ _ | .spiWriteCmd _ _ | .spiBadInstruction _ | .fifoIdleExpiry _ _ | .rwRateRepeat _
  | .txSpanLate _ _ | .txUnderrun _ | .hostLockRestart _ | .chipPairMismatch _ | .chipPairTestDone _ _
  | .controlPairSwap _ | .pairTestDone _ | .lonePairRestart | .erasureSecondExpiry => [.clerk, .hier, .tally]
  | .spiReadReply _ _ => [.out, .clerk]
  | .spiReadEvent _ => [.out, .clerk, .hier, .tally]
  | .faultDetected _ _ | .decisionMismatch _ _ | .prepareDone _ _ _ | .copyDone _ _ _ | .switch _ | .retestDone _ _
  | .migrationLoadDone _ _ | .migrationRetestDone _ _ => [.clerk, .hier, .tally, .serv, .fec, .flow]
  | .handshakeStall _ _ _ _ _ | .residueFailure _ _ _ _ | .parityFailure _ _ _ _
    => [.clerk, .hier, .tally, .serv, .rw, .fec, .tx, .flow]
  | .packetCommit _ _ _ | .packetAbort _ _ | .fifoRead _ _ | .writerRelease _ _ => [.hier]
  | .rxSpanFormed _ _ _ => [.out, .bar0, .clerk, .hier, .tally, .rx, .rw, .fec]
  | .losDeclare _ => [.out, .bar0, .clerk, .hier, .tally, .rx, .rw, .fec, .loom, .ra, .flow]
  | .losClear _ => [.clerk, .hier, .tally, .rx, .fec, .flow]
  | .laneFaultDeclare _ _ | .acqStepDone _ _ | .lolDeclare _ _ => [.clerk, .hier, .tally, .rx, .rw, .fec, .loom, .ra, .flow]
  | .laneFaultEnd _ _ | .acqBoundExpiry _ | .cdScanDone _ _ _ _ | .rxXfadeEnd _ | .toleranceHold _ _ _
    => [.clerk, .hier, .tally, .rx]
  | .trackResidual _ _ => [.rx]
  | .provisionalArrive _ _ | .replayEnd _ | .catchupEnd _ => [.rw]
  | .finalDecisionsArrive _ _ _ _ _ _ | .cycleSlip _ _ _ _ | .replayOverrun _ => [.clerk, .hier, .tally, .rw, .fec]
  | .spanFinal _ => [.clerk, .hier, .tally, .rw, .loom, .flow]
  | .txSpanFormed _ _ => [.tally, .tx]
  | .txXfadeEnd _ _ => [.clerk, .hier, .tally, .tx]
  | .dealTimeout _ _ | .spanDeal => [.tally, .fec]
  | .decodeIterationEnd _ _ _ _ | .messageWordUncorrectable _ _ => [.clerk, .hier, .tally, .serv, .rw, .fec, .ra, .flow]
  | .decodeEnd _ _ _ _ _ => [.tally, .rw, .fec, .ra]
  | .marginUpdate _ _ _ _ => [.free, .clerk, .hier, .tally, .ra]
  | .stepSeek _ | .rateAnswer _ | .answerWaitExpiry _ => [.clerk, .hier, .tally, .ra, .crier]
  | .upHoldExpiry _ | .heldExpiry _ | .announcementValid _ => [.ra]
  | .ratePropose _ => [.free, .out, .bar0, .clerk, .hier, .tally, .tx, .ra, .crier]
  | .rateSwitch _ _ => [.clerk, .hier, .tally, .rx, .fec, .tx, .loom, .ra, .flow]
  | .fallbackStart _ => [.tally, .ra, .crier]
  | .candidateSwitch _ => [.clerk, .hier, .tally, .rx, .fec, .loom, .ra, .flow]
  | .frameArrive _ _ _ _ _ => [.tally, .loom, .store]
  | .alignDeclare _ _ _ | .lockDeclare _ | .lofDeclare _ | .lomDeclare _ | .mapMismatch _ _ | .labelAccept _ _
  | .skewMaxExpiry _ _ => [.clerk, .hier, .tally, .loom, .flow]
  | .tickRead _ _ _ _ _ | .holdLimitExpiry _ => [.free, .clerk, .hier, .tally, .loom, .store, .flow]
  | .txFrameSend _ _ _ _ => [.free, .out, .tally, .loom]
  | .stripeRead _ _ _ | .readMergeWrite _ _ _ _ _ => [.free, .clerk, .hier, .tally, .crier, .store, .flow]
  | .stripeWrite _ _ _ _ _ => [.free, .clerk, .hier, .tally, .loom, .crier, .store]
  | .cellWriteBack => [.store]
  | .stripeFree _ _ | .trainingTimeout _ | .crcRateLoss _ | .restoreTrainDone _ | .restoreTestDone _
  | .restoreRebuildDone => [.free, .clerk, .hier, .tally, .store]
  | .stackInterfaceFault _ | .trainingDone _ | .shrinkDrainDone _ => [.clerk, .hier, .tally, .store]
  | .clientFrameArrive _ _ | .recordFill _ _ | .cipherMessageDone _ | .tailWrite _ _ | .rxParcel _ _ _ _
  | .cipherDecrypt _ => [.free, .clerk, .hier, .tally, .store, .flow]
  | .threadBytesNeeded _ _ _ => [.free, .out, .clerk, .hier, .tally, .store, .flow]
  | .egressDeliver _ => [.out, .clerk, .hier, .tally, .flow]
  | .keyRollover _ => [.clerk, .hier, .tally, .flow]
  | .clientLosDeclare _ _ | .clientLosClear _ _ | .clientBringupExpiry _ _ | .clientLol _ _ | .hostLosDeclare _
  | .hostLosClear _ | .hostLockUp _ | .hostLol _ | .hostIfaceAlign _ _ _ => [.clerk, .hier, .tally, .flow, .lanes]
  | .clientBringupStepDone _ _ _ _ | .clientAnalogueFault _ _ _ | .hostAnalogueFault _ _ | .clientLaneFaultEnd _ _ _
  | .hostLaneFaultEnd _ _ => [.free, .clerk, .hier, .tally, .flow, .lanes]
  | .clientEyeHold _ _ _ => [.clerk, .hier, .tally, .lanes]
  | .checkerSync _ => [.lanes]
  | .checkerSyncLoss _ => [.tally, .lanes]
  | .xtalActivityLoss _ | .refFirstEdge _ | .qualifyComplete _ => [.clerk, .hier, .tally, .timing]
  | .gateEnd _ _ _ | .refActivityLoss _ | .selectionEval => [.free, .clerk, .hier, .tally, .timing]
  | .dpllLock _ | .bwStep _ | .fpSlewEnd _ | .xtalActivityReturn _ => [.timing]
  | .coreFault _ _ => [.free, .clerk, .hier, .tally, .serv, .timing]
  | .oneSecondTick _ _ => [.clerk, .hier, .tally, .fec, .loom, .lanes, .timing]
  | .esmcPduReceive _ _ | .qlTimeout _ => [.tally, .timing]
  | .helloTimer _ | .qualityTimer _ | .timeReqTimer _ | .packetCut _ | .packetSendEnd _ | .listenerTrigger _
  | .syncQualify _ _ _ _ | .qualifyTimeout _ _ | .timeReq _ _ | .objectTimeout _ | .beaconTimer | .reportTimer
  | .joinReqTimer | .admitTimeout => [.tally, .crier]
  | .packetSendStart _ => [.out, .crier]
  | .packetReceiveEnd _ _ _ _ _ _ => [.free, .tally, .crier]
  | .hello _ => [.free, .clerk, .hier, .tally, .hall, .crier]
  | .quality _ => [.crier, .timing]
  | .timeResp _ => [.free, .crier]
  | .segment _ => [.free, .clerk, .hier, .tally, .hall, .crier, .store]
  | .hostLink _ | .joinAnswer _ | .beacon _ | .peerLost _ => [.clerk, .hier, .tally, .crier]
  | .domain _ | .report _ => [.free, .clerk, .hier, .tally, .crier, .store]
  | .joinReq _ => [.free, .hall, .crier]
  | .exchangeMissed _ => [.free, .clerk, .hier, .tally, .crier, .timing]
  | .rejoinWaitExpiry => [.crier]
  | .proofTimeout => [.clerk, .hier, .tally, .hall, .crier]
  | .fuseBlown _ => [.clerk, .hier, .tally, .hall]
  | .assayTimerFire _ | .pwmPeriodStart _ | .internalScan | .biasAlarmHold _ _ => [.clerk, .hier, .tally, .assay]
  | .triggerDelayEnd _ | .biasLoopUpdate _ _ _ | .calBackground _ => [.tally, .assay]
  | .sequenceEnd | .paceRestored => [.free, .bar0, .clerk, .hier, .tally, .assay]
  | .conversionResult _ _ _ | .qualityUpdate _ _ _ _ _ | .avsMismatchHold _ => [.free, .clerk, .hier, .tally, .assay]
  | .calRunDone _ _ _ _ => [.free, .clerk, .hier, .tally, .tx, .flow, .lanes, .assay]
  | .paceLowerStep _ | .avsbusRetry _ => [.free, .out, .clerk, .hier, .tally, .assay]
  | .ageingDaily _ _ _ | .handoverLoadDone _ | .formerPairReady _ => [.clerk, .hier, .tally, .serv]
  | .sramRead _ _ _ _ _ _ _
    => [.free, .clerk, .hier, .tally, .serv, .rw, .fec, .loom, .ra, .crier, .store, .flow, .lanes, .timing, .assay, .damage]
  | .configRestore => [.loom, .ra, .flow, .lanes, .timing, .assay, .damage]
  | .sweepEnd _ => [.free, .clerk, .hier, .tally]
  | .decodesDrained _ => [.hier, .serv]
  | .coreLoadDone _ _ | .coreFollowDone _ _ => [.clerk, .hier, .tally, .serv, .timing]
  | .handoverTakeover => [.out, .clerk, .hier, .tally, .boot, .hall, .serv]
  | .verifyDone _ _ => [.clerk, .hier, .tally, .hall, .serv]
  | .bar2LowRead _ _ => [.out, .tally]
  | .powerOn | .rstNAssert | .perstAssert | .brownOut | .tapInstructionUpdate _
    => [.time, .bar0, .clerk, .hier, .tally, .boot, .hall, .serv, .rx, .rw, .fec, .tx, .loom, .ra, .crier, .store, .flow, .lanes, .timing, .assay, .damage]
  | .bootBegin _ _ => [.boot, .timing]
  | .romStartDone => [.boot, .hall]
  | .imageReadDone _ _ => [.clerk, .hier, .tally, .boot, .hall, .serv]
  | .selfTestDone _ _ _ _ => [.free, .out, .clerk, .hier, .tally, .boot, .fec, .store, .flow]
  | .endpointReady | .tapReset | .endpointConfiguration => [.boot]
  | .spanHandoff _ _ => [.clerk, .hier, .tally, .rx, .rw, .fec]

/-- Every unit that a command names exists: cells and their FIFOs (spec/01), stripes (spec/09 R262), flow records (spec/10 R299). -/
def unitsExist (i : Instr) (s : State) : Bool :=
  match i with
  | .faultDetected ha _ | .decisionMismatch ha _ | .residueFailure ha _ _ _ | .parityFailure ha _ _ _ => targetCell s ha.toNat
  | .handshakeStall requester stalled _ _ _ => targetCell s requester.toNat && targetCell s stalled.toNat
  | .sramRead cell _ _ _ _ _ _ => targetCell s cell.toNat && holdsSram cell.toNat
  | .packetCommit cell _ _ | .packetAbort cell _ | .fifoRead cell _ | .writerRelease cell _ | .fifoIdleExpiry cell _ =>
    targetCell s cell.toNat && ownsFifo (haRegion cell.toNat)
  | .stripeWrite kind n _ _ _ | .readMergeWrite kind n _ _ _ => decide (kind.val ≠ 0 ∧ n < stripes)
  | .stripeRead _ n _ | .stripeFree _ n => decide (n < stripes)
  | .recordFill f _ => decide (f < 1048576)
  | _ => true

/-! ### Packets that are executed -/

/-- The packet is executed when it is served: its interface is served, no packet of its queue is in hand, FENCE finds no reply
outstanding, every check of Table 2-4 passes, DRY_RUN is clear, and the commit raises no pace beyond the margin (spec/02 R44, R47,
R48, R51, spec/15 R441). -/
def OpDef.passes (op : OpDef) (c : Cmd) (s : State) : Prop :=
  s.serves c.iface = true ∧ s.queueHeld c.iface c.queue = false ∧ (c.fence && s.unanswered) = false ∧
    op.judge c s = none ∧ c.dry = false ∧ s.paceHolds (op.effect c s).2 = false

/-- The state with a command's reply written: the opcode's code, a status and result words (spec/02 R45, Table 2-3). -/
def State.answered (u : State) (c : Cmd) (code status : Nat) (ws : List Word) : State :=
  u.writeReply c.iface c.queue (replyWords code status c ws)

/-- The state with a command kept in hand until a happening answers it. -/
def State.waiting (u : State) (c : Cmd) (code : Nat) (a : Await) : State :=
  u.withClerk { u.clerk with held := u.clerk.held ++ [⟨c.iface, c.queue, code, c, some a⟩] }

/-- An opcode that, executed, is answered OK with `n` counters from slot `slot` on, each as its low and its high word, and changes
nothing. -/
def ReadsCounters (x : Cmd → Instr) (op : OpDef) (slot : Cmd → Nat) (n : Nat) : Prop :=
  ∀ (c : Cmd) (s : State), op.passes c s →
    exec (x c) s = .next (s.answered c op.code 0 ((List.range n).flatMap fun j => words64 (s.counter (slot c + j))))

/-- An opcode that, executed, is answered OK with `n` result words and, beside the reply, changes at most the components `cs`. -/
def ReadsWords (x : Cmd → Instr) (op : OpDef) (cs : List Comp) (n : Cmd → State → Nat) : Prop :=
  ∀ (c : Cmd) (s : State), op.passes c s →
    ∃ ws u, exec (x c) s = .next (u.answered c op.code 0 ws) ∧ ws.length = n c s ∧ s.only cs u

/-- The words of a packet (Table 2-1): code, SEQ and FLAGS, LENGTH and TARGET, the parameters, the CRC. -/
def packetWords (code : Nat) (c : Cmd) : List Word :=
  withCrc ([mkw [(31, 16, code), (15, 8, c.seq.toNat), (7, 0, c.flags.toNat)],
            mkw [(31, 20, c.params.length), (19, 0, c.target.toNat)]] ++ c.params)

/-- The opcode and the packet of a command, where it is one. -/
def packetOf (i : Instr) : Option (OpDef × Cmd) :=
  match i with
  | .clerkNop c => some (clerkNopOp, c)
  | .clerkJobResult c => some (clerkJobResultOp, c)
  | .clerkJobCancel c => some (clerkJobCancelOp, c)
  | .clerkProtoCounters c => some (clerkProtoCountersOp, c)
  | .clerkEventFilterSet c => some (clerkEventFilterSetOp, c)
  | .clerkBootStatus c => some (clerkBootStatusOp, c)
  | .clerkMapRead c => some (clerkMapReadOp, c)
  | .clerkFifoIdleSet c => some (clerkFifoIdleSetOp, c)
  | .timingConfig c => some (timingConfigOp, c)
  | .timingRefSet c => some (timingRefSetOp, c)
  | .timingDpllSet c => some (timingDpllSetOp, c)
  | .timingPrioSet c => some (timingPrioSetOp, c)
  | .timingOutSet c => some (timingOutSetOp, c)
  | .timingFpAlign c => some (timingFpAlignOp, c)
  | .timingForce c => some (timingForceOp, c)
  | .timingTodSet c => some (timingTodSetOp, c)
  | .timingStatus c => some (timingStatusOp, c)
  | .timingRefStatus c => some (timingRefStatusOp, c)
  | .timingDpllStatus c => some (timingDpllStatusOp, c)
  | .timingCounters c => some (timingCountersOp, c)
  | .assayTimerSet c => some (assayTimerSetOp, c)
  | .assaySeqSet c => some (assaySeqSetOp, c)
  | .assayChanSet c => some (assayChanSetOp, c)
  | .assayTelemRead c => some (assayTelemReadOp, c)
  | .assayPwmSet c => some (assayPwmSetOp, c)
  | .assayBiasSet c => some (assayBiasSetOp, c)
  | .assayBiasStatus c => some (assayBiasStatusOp, c)
  | .assayCalRun c => some (assayCalRunOp, c)
  | .assayCalSet c => some (assayCalSetOp, c)
  | .assayQualityRead c => some (assayQualityReadOp, c)
  | .assayPaceStatus c => some (assayPaceStatusOp, c)
  | .assayCounters c => some (assayCountersOp, c)
  | .crierPortSet c => some (crierPortSetOp, c)
  | .crierUnitSet c => some (crierUnitSetOp, c)
  | .crierSend c => some (crierSendOp, c)
  | .crierReceive c => some (crierReceiveOp, c)
  | .crierAdmit c => some (crierAdmitOp, c)
  | .crierMemberRead c => some (crierMemberReadOp, c)
  | .crierStatus c => some (crierStatusOp, c)
  | .crierCounters c => some (crierCountersOp, c)
  | .storePartCreate c => some (storePartCreateOp, c)
  | .storePartResize c => some (storePartResizeOp, c)
  | .storePartDelete c => some (storePartDeleteOp, c)
  | .storePartSet c => some (storePartSetOp, c)
  | .storePartStatus c => some (storePartStatusOp, c)
  | .storeStatus c => some (storeStatusOp, c)
  | .storeCounters c => some (storeCountersOp, c)
  | .storeStackRetire c => some (storeStackRetireOp, c)
  | .storeStackRestore c => some (storeStackRestoreOp, c)
  | .storeInject c => some (storeInjectOp, c)
  | .loomPortConfig c => some (loomPortConfigOp, c)
  | .loomBoltSet c => some (loomBoltSetOp, c)
  | .loomThreadSet c => some (loomThreadSetOp, c)
  | .loomProtSet c => some (loomProtSetOp, c)
  | .loomProtSwitch c => some (loomProtSwitchOp, c)
  | .loomPortStatus c => some (loomPortStatusOp, c)
  | .loomBoltStatus c => some (loomBoltStatusOp, c)
  | .loomThreadStatus c => some (loomThreadStatusOp, c)
  | .loomPmRead c => some (loomPmReadOp, c)
  | .loomMapRead c => some (loomMapReadOp, c)
  | .loomCounters c => some (loomCountersOp, c)
  | .flowIfaceSet c => some (flowIfaceSetOp, c)
  | .flowSet c => some (flowSetOp, c)
  | .flowClassMap c => some (flowClassMapOp, c)
  | .flowThreadSet c => some (flowThreadSetOp, c)
  | .flowStatus c => some (flowStatusOp, c)
  | .flowCounters c => some (flowCountersOp, c)
  | .flowRegionCounters c => some (flowRegionCountersOp, c)
  | .ciphKeyLoad c => some (ciphKeyLoadOp, c)
  | .ciphRollover c => some (ciphRolloverOp, c)
  | .ciphCtxStatus c => some (ciphCtxStatusOp, c)
  | .ciphPoolStatus c => some (ciphPoolStatusOp, c)
  | .ciphCounters c => some (ciphCountersOp, c)
  | .fecPortConfig c => some (fecPortConfigOp, c)
  | .fecPortStatus c => some (fecPortStatusOp, c)
  | .fecPortCounters c => some (fecPortCountersOp, c)
  | .fecPoolStatus c => some (fecPoolStatusOp, c)
  | .fecRegionCounters c => some (fecRegionCountersOp, c)
  | .fecCodeRead c => some (fecCodeReadOp, c)
  | .fecInject c => some (fecInjectOp, c)
  | .lineRxConfig c => some (lineRxConfigOp, c)
  | .lineRxEnable c => some (lineRxEnableOp, c)
  | .lineRxCdSet c => some (lineRxCdSetOp, c)
  | .lineRxCdScan c => some (lineRxCdScanOp, c)
  | .lineRxEqSet c => some (lineRxEqSetOp, c)
  | .lineRxLoopSet c => some (lineRxLoopSetOp, c)
  | .lineRxFrontSet c => some (lineRxFrontSetOp, c)
  | .lineRxStatus c => some (lineRxStatusOp, c)
  | .lineRxCounters c => some (lineRxCountersOp, c)
  | .lineTxConfig c => some (lineTxConfigOp, c)
  | .lineTxEnable c => some (lineTxEnableOp, c)
  | .lineTxMute c => some (lineTxMuteOp, c)
  | .lineTxRampSet c => some (lineTxRampSetOp, c)
  | .lineTxPrecompSet c => some (lineTxPrecompSetOp, c)
  | .lineTxBackSet c => some (lineTxBackSetOp, c)
  | .lineTxEmphLoad c => some (lineTxEmphLoadOp, c)
  | .lineTxStatus c => some (lineTxStatusOp, c)
  | .lineTxCounters c => some (lineTxCountersOp, c)
  | .lineRaConfig c => some (lineRaConfigOp, c)
  | .lineRaStep c => some (lineRaStepOp, c)
  | .lineRaGuardSet c => some (lineRaGuardSetOp, c)
  | .lineRaPlanRead c => some (lineRaPlanReadOp, c)
  | .lineRaStatus c => some (lineRaStatusOp, c)
  | .lineRaCounters c => some (lineRaCountersOp, c)
  | .lineRwConfig c => some (lineRwConfigOp, c)
  | .lineRwStatus c => some (lineRwStatusOp, c)
  | .lineRwCounters c => some (lineRwCountersOp, c)
  | .lineRwInject c => some (lineRwInjectOp, c)
  | .clientGroupConfig c => some (clientGroupConfigOp, c)
  | .clientIfaceSet c => some (clientIfaceSetOp, c)
  | .clientLaneEnable c => some (clientLaneEnableOp, c)
  | .clientLaneMute c => some (clientLaneMuteOp, c)
  | .clientEqSet c => some (clientEqSetOp, c)
  | .clientTxSet c => some (clientTxSetOp, c)
  | .clientPatternSet c => some (clientPatternSetOp, c)
  | .clientLaneStatus c => some (clientLaneStatusOp, c)
  | .clientCounters c => some (clientCountersOp, c)
  | .hostEqLoad c => some (hostEqLoadOp, c)
  | .hostIfaceSet c => some (hostIfaceSetOp, c)
  | .hostLaneEnable c => some (hostLaneEnableOp, c)
  | .hostLaneSquelch c => some (hostLaneSquelchOp, c)
  | .hostPatternSet c => some (hostPatternSetOp, c)
  | .hostInject c => some (hostInjectOp, c)
  | .hostLaneStatus c => some (hostLaneStatusOp, c)
  | .hostCounters c => some (hostCountersOp, c)
  | .tallyTagSet c => some (tallyTagSetOp, c)
  | .tallyTagRead c => some (tallyTagReadOp, c)
  | .tallySlotRead c => some (tallySlotReadOp, c)
  | .tallyFifoRead c => some (tallyFifoReadOp, c)
  | .tallyFreeze c => some (tallyFreezeOp, c)
  | .hallmarkCertRead c => some (hallmarkCertReadOp, c)
  | .hallmarkMeasureRead c => some (hallmarkMeasureReadOp, c)
  | .hallmarkAttest c => some (hallmarkAttestOp, c)
  | .hallmarkKekOffer c => some (hallmarkKekOfferOp, c)
  | .hallmarkKekAccept c => some (hallmarkKekAcceptOp, c)
  | .hallmarkFuseAdvance c => some (hallmarkFuseAdvanceOp, c)
  | .hallmarkTallyMask c => some (hallmarkTallyMaskOp, c)
  | .hallmarkStatus c => some (hallmarkStatusOp, c)
  | .serviceImageLoad c => some (serviceImageLoadOp, c)
  | .serviceImageVerify c => some (serviceImageVerifyOp, c)
  | .serviceHandover c => some (serviceHandoverOp, c)
  | .serviceChange c => some (serviceChangeOp, c)
  | .serviceStatus c => some (serviceStatusOp, c)
  | .serviceAgeingRead c => some (serviceAgeingReadOp, c)
  | .diagFaultStatus c => some (diagFaultStatusOp, c)
  | .diagFaultLogRead c => some (diagFaultLogReadOp, c)
  | .diagSramCounters c => some (diagSramCountersOp, c)
  | .diagSweepRun c => some (diagSweepRunOp, c)
  | .diagInject c => some (diagInjectOp, c)
  | .doorbellWrite _ _ | .commandTake _ _ _ | .eventDeliver | .consWrite _ _ | .ringEnable _ _ | .ringDisable _ _
  | .ringStop _ | .stoppedClear _ _ | .tempExcursionClear _ | .paceShortClear _ | .timeLoRead _ _ | .registerWrite _ _
  | .boundExpiry _ _ _ | .spiWriteCmd _ _ | .spiReadReply _ _ | .spiReadEvent _ | .spiReadWindow _ _
  | .spiWriteWindow _ _ | .spiBadInstruction _ | .faultDetected _ _ | .handshakeStall _ _ _ _ _ | .packetCommit _ _ _
  | .packetAbort _ _ | .fifoRead _ _ | .writerRelease _ _ | .fifoIdleExpiry _ _ | .rxSpanFormed _ _ _ | .losDeclare _
  | .losClear _ | .laneFaultDeclare _ _ | .laneFaultEnd _ _ | .acqStepDone _ _ | .acqBoundExpiry _
  | .cdScanDone _ _ _ _ | .rxXfadeEnd _ | .cdSetDeferredCommit _ | .trackResidual _ _ | .lolDeclare _ _
  | .toleranceHold _ _ _ | .provisionalArrive _ _ | .finalDecisionsArrive _ _ _ _ _ _ | .cycleSlip _ _ _ _
  | .residueFailure _ _ _ _ | .parityFailure _ _ _ _ | .replayEnd _ | .catchupEnd _ | .replayOverrun _
  | .rwRateRepeat _ | .spanFinal _ | .txSpanFormed _ _ | .rampEnd _ | .txSpanLate _ _ | .txUnderrun _ | .txXfadeEnd _ _
  | .txDeferredCommit _ _ | .dealTimeout _ _ | .spanDeal | .decodeIterationEnd _ _ _ _ | .decodeEnd _ _ _ _ _
  | .messageWordUncorrectable _ _ | .marginUpdate _ _ _ _ | .stepSeek _ | .upHoldExpiry _ | .heldExpiry _
  | .ratePropose _ | .rateAnswer _ | .answerWaitExpiry _ | .announcementValid _ | .rateSwitch _ _ | .fallbackStart _
  | .candidateSwitch _ | .frameArrive _ _ _ _ _ | .alignDeclare _ _ _ | .lockDeclare _ | .lofDeclare _ | .lomDeclare _
  | .mapMismatch _ _ | .labelAccept _ _ | .tickRead _ _ _ _ _ | .skewMaxExpiry _ _ | .txFrameSend _ _ _ _
  | .stripeRead _ _ _ | .stripeWrite _ _ _ _ _ | .readMergeWrite _ _ _ _ _ | .cellWriteBack | .holdLimitExpiry _
  | .stripeFree _ _ | .stackInterfaceFault _ | .trainingDone _ | .trainingTimeout _ | .crcRateLoss _
  | .restoreTrainDone _ | .restoreTestDone _ | .restoreRebuildDone | .shrinkDrainDone _ | .clientFrameArrive _ _
  | .recordFill _ _ | .cipherMessageDone _ | .tailWrite _ _ | .threadBytesNeeded _ _ _ | .rxParcel _ _ _ _
  | .cipherDecrypt _ | .egressDeliver _ | .keyRollover _ | .clientLosDeclare _ _ | .clientLosClear _ _
  | .clientBringupStepDone _ _ _ _ | .clientBringupExpiry _ _ | .clientLol _ _ | .clientAnalogueFault _ _ _
  | .clientEyeHold _ _ _ | .hostLosDeclare _ | .hostLosClear _ | .hostLockUp _ | .hostLol _ | .hostLockRestart _
  | .hostIfaceAlign _ _ _ | .hostAnalogueFault _ _ | .checkerSync _ | .checkerSyncLoss _ | .xtalActivityLoss _
  | .gateEnd _ _ _ | .refFirstEdge _ | .qualifyComplete _ | .refActivityLoss _ | .selectionEval | .dpllLock _
  | .bwStep _ | .coreFault _ _ | .oneSecondTick _ _ | .esmcPduReceive _ _ | .qlTimeout _ | .fpSlewEnd _ | .helloTimer _
  | .qualityTimer _ | .timeReqTimer _ | .packetSendStart _ | .packetCut _ | .packetSendEnd _ | .listenerTrigger _
  | .syncQualify _ _ _ _ | .qualifyTimeout _ _ | .packetReceiveEnd _ _ _ _ _ _ | .hello _ | .quality _ | .timeReq _ _
  | .timeResp _ | .segment _ | .hostLink _ | .domain _ | .joinReq _ | .joinAnswer _ | .report _ | .beacon _
  | .peerLost _ | .exchangeMissed _ | .objectTimeout _ | .beaconTimer | .reportTimer | .joinReqTimer | .admitTimeout
  | .rejoinWaitExpiry | .proofTimeout | .fuseBlown _ | .assayTimerFire _ | .pwmPeriodStart _ | .internalScan
  | .triggerDelayEnd _ | .sequenceEnd | .conversionResult _ _ _ | .biasLoopUpdate _ _ _ | .biasAlarmHold _ _
  | .calBackground _ | .calRunDone _ _ _ _ | .qualityUpdate _ _ _ _ _ | .paceSample _ _ _ _ | .paceLowerStep _
  | .paceHoldRelease | .paceRestored | .avsbusRetry _ | .avsMismatchHold _ | .ageingDaily _ _ _
  | .sramRead _ _ _ _ _ _ _ | .configRestore | .decisionMismatch _ _ | .chipPairMismatch _ | .chipPairTestDone _ _
  | .controlPairSwap _ | .pairTestDone _ | .lonePairRestart | .sweepEnd _ | .prepareDone _ _ _ | .copyDone _ _ _
  | .switch _ | .retestDone _ _ | .migrationLoadDone _ _ | .decodesDrained _ | .migrationRetestDone _ _
  | .coreLoadDone _ _ | .coreFollowDone _ _ | .handoverLoadDone _ | .handoverTakeover | .formerPairReady _
  | .verifyDone _ _ | .bar2LowRead _ _ | .powerOn | .rstNAssert | .perstAssert | .brownOut | .bootBegin _ _
  | .romStartDone | .imageReadDone _ _ | .selfTestDone _ _ _ _ | .endpointReady | .tapInstructionUpdate _ | .tapReset
  | .spanHandoff _ _ | .xtalActivityReturn _ | .endpointConfiguration | .erasureSecondExpiry
  | .clientLaneFaultEnd _ _ _ | .hostLaneFaultEnd _ _ => none

end Sys2Proof.Machine
end

