-- ==== Sys2Proof/Certificates/Slice0/Obligations.lean ====
section
/-!
DEFINITION. The statements for the provers, from the numbered rules of spec/.
-/

set_option Elab.async false

open Sys2Proof Sys2Proof.Machine

/-- A step runs the command at the front of the queue on the state with the rest. With a command c at the front of the queue, the
step of the block is exec of c on the state whose queue is the rest. -/
def Obligations.StepServesFrontCommand : Prop :=
  ∀ (s : State) (c : Instr) (r : List Instr), s.pending = c :: r → step s = exec c (s.withPending r)

/-- With no command waiting a nanosecond of device time passes, unless a cold reset is held or the clock is lost. The tick of 1 ns
on an empty queue is the model's choice (assumption 1, DESIGN CHOICE): device time counts 2^-16 ns (R69), it does not run
while a cold reset is held or while the device has no clock, and nothing else of the state changes. -/
def Obligations.StepIdlesOnEmptyQueue : Prop :=
  ∀ s : State, s.pending = [] →
    (s.boot.phase ≠ .reset → s.timing.clockLost = false → step s = .next (s.withTime (s.time + 65536))) ∧
    (s.boot.phase = .reset ∨ s.timing.clockLost = true → step s = .next s)

/-- After boot the device is ready with traffic off: what State.reset holds. BOOT_STATE is 0x3, HEALTH 0, every line port and lane
direction OFF, both control pairs good, every spare in place, no partition made, no bolt, thread or flow defined, every
counter, buffer and ring empty, the rings disabled with PHASE 1, no event filtered, no job, device time zero, no capture and
tagging off, every reference candidate inactive and every DPLL in FREE_RUN. -/
def Obligations.ResetReadyWithTrafficOff : Prop :=
  State.reset.bar0Word 0 0x10 = 3 ∧ (State.reset.bar0Word 0 0x14).fld 1 0 = 0 ∧ (∀ k, (State.reset.ring k).enable = false) ∧
    (∀ p : Port, (State.reset.rxp p).st = .off ∧ (State.reset.txp p).st = .off ∧ (State.reset.lp p).st = .off) ∧
    (∀ (g : Fin 2) (l : Nat), (State.reset.cl g l).rx = .off ∧ (State.reset.cl g l).tx = .off) ∧
    (∀ l : Nat, (State.reset.hl l).rx = .off ∧ (State.reset.hl l).tx = .off) ∧
    (∀ k : Nat, State.reset.part k = none ∧ State.reset.counter k = 0 ∧ (State.reset.fifo k).occupancy = 0) ∧
    (∀ (d : Fin 2) (n : Nat), State.reset.bolt d n = none ∧ State.reset.thread d n = none) ∧
    (∀ f : Nat, State.reset.txFlow f = none ∧ State.reset.rxFlow f = none) ∧
    (∀ c : Nat, (State.reset.cand c).st = .inactive) ∧ (∀ d : Nat, (State.reset.dpll d).st = .freeRun) ∧
    (∀ i g : Nat, i < 2 → Tab.get 0 (State.reset.clerk.ev.get (Fin.ofNat 2 i)).least g = 0) ∧
    State.reset.pending = [] ∧ State.reset.time = 0 ∧ State.reset.clerk.jobs = [] ∧ State.reset.bar0.phase = true ∧
    State.reset.tally.frozen = [] ∧ (∀ k, (Tab.get {} State.reset.tally.tags k).enable = false) ∧ State.reset.pairReady = true ∧
    State.reset.spareExhausted = false

/-- The invariant that every step keeps holds after reset. The bounded buffers are within their bounds, HEALTH is a legal code,
every counter fits 48 bits, the Storehouse's memory is in canonical form and BOOT_STATE is the one its phase of boot fixes. -/
def Obligations.InvariantHoldsAtReset : Prop :=
  State.reset.Inv

/-- Every step, whatever the command, keeps the invariant. For every state in which each event buffer holds at most 1,024 records,
at most 256 ended jobs are kept, the fault log holds at most 1,024 records, HEALTH is a code of Table 17-3, every Tally
counter is below 2^48 in a table of canonical form, the Storehouse's bytes are in canonical form and BOOT_STATE is the one its
phase of boot fixes: if the step answers a next state, that state is again such a state. -/
def Obligations.StepKeepsInvariant : Prop :=
  ∀ s t : State, s.Inv → step s = .next t → t.Inv

/-- Every command changes at most the components of the state that its chapter names for it. For each of the 371 commands the
table touches lists the components of the state that the command's rules let it change; every other component (a chapter's
registers, buffers, counters and memory) is the same in the next state. This is the frame of every command. -/
def Obligations.CommandsChangeOnlyTheirUnits : Prop :=
  ∀ (i : Instr) (s t : State), exec i s = .next t → s.only (touches i) t

/-- No command changes the queue of waiting commands, so commands run first in, first out. Whatever command runs, the queue after
it is the queue before it; with StepServesFrontCommand the commands that wait are run in their order, each once. -/
def Obligations.CommandsLeaveQueueAlone : Prop :=
  ∀ (i : Instr) (s t : State), exec i s = .next t → t.pending = s.pending

/-- No command, reset or boot takes a fuse back. Hallmark's fuse array is programmed once: the count of blown fuses never falls,
over any command, cold resets among them. -/
def Obligations.FusesAreNeverRestored : Prop :=
  ∀ (i : Instr) (s t : State), exec i s = .next t → s.hall.fuses ≤ t.hall.fuses

/-- What has left the device stays on record: the record of what left only grows. The record of what has left the device (replies
and events written to the host, messages, packets, frames) is only ever appended to, by any step. The record is the model's
own (assumption 2). -/
def Obligations.StepNeverRecalls : Prop :=
  ∀ s t : State, step s = .next t → s.out <+: t.out

/-- Every command answers a next state where the units it names exist, and stops on a fault by name where one does not. No command
is refused. A command whose operands name only units that exist completes; one that names a cell, FIFO, stripe or record that
does not exist stops with noSuchUnit. -/
def Obligations.EveryCommandIsAnswered : Prop :=
  ∀ (i : Instr) (s : State),
    (unitsExist i s = true → ∃ t, exec i s = .next t) ∧ (unitsExist i s = false → exec i s = .fault .noSuchUnit)

/-- Each packet constructor is the opcode its code names in the index of opcodes. Every command of the first 149 rows is a packet
of one opcode; the code of that opcode finds that opcode in the index of Table 22-1, so no two opcodes share a code. -/
def Obligations.OpcodesAreIndexed : Prop :=
  (∀ (i : Instr) (op : OpDef) (c : Cmd), packetOf i = some (op, c) → opOf op.code = some op) ∧
  allOps.length = 149 ∧ (allOps.map fun o => o.code).Nodup

/-- A packet that fails a check gets one reply with its DETAIL word and changes nothing but a refusal counter. For every opcode: a
packet whose turn it is and that fails a check of Table 2-4 is answered with that check's status and the DETAIL word (index of
the first bad parameter word in [31:16], reason in [15:0]); beside the reply only the interface's counter of LENGTH_OVER
replies, or of other refusals, changes. -/
def Obligations.PacketRefused : Prop :=
  ∀ (i : Instr) (op : OpDef) (c : Cmd) (s : State) (r : Rej), packetOf i = some (op, c) →
    s.serves c.iface = true → s.queueHeld c.iface c.queue = false → (c.fence && s.unanswered) = false →
    op.judge c s = some r →
    ∃ u, exec i s = .next (u.answered c op.code r.status [mkw [(31, 16, r.idx), (15, 0, r.reason)]]) ∧
      s.only [.tally] u ∧
      (∀ k, k ≠ protoCtr c.iface 1 → k ≠ protoCtr c.iface 2 → u.counter k = s.counter k) ∧
      (s.Inv → r.status = 0x10 →
        u.counter (protoCtr c.iface 1) = (s.counter (protoCtr c.iface 1) + 1) % 2 ^ 48 ∧
        u.counter (protoCtr c.iface 2) = s.counter (protoCtr c.iface 2)) ∧
      (s.Inv → r.status ≠ 0x10 → r.status ≠ 0x20 →
        u.counter (protoCtr c.iface 2) = (s.counter (protoCtr c.iface 2) + 1) % 2 ^ 48 ∧
        u.counter (protoCtr c.iface 1) = s.counter (protoCtr c.iface 1))

/-- Checks of a packet fail in the order of Table 2-4. For every opcode: while the device does not run firmware only the opcodes
the boot ROM executes go on (STATE_ERROR, reason 0x45); then the queue (WRONG_QUEUE), then LENGTH_OVER, then LENGTH_SHORT,
then the TARGET, then FLAGS; a later check is not made once one has failed. -/
def Obligations.FirstFailedCheckDecides : Prop :=
  ∀ (op : OpDef) (c : Cmd) (s : State),
    ((s.live = false ∧ op.recovery = false) → op.judge c s = some ⟨0x16, 0xFFFF, 0x45⟩) ∧
    ((s.live = true ∨ op.recovery = true) →
      ((∃ q, op.queue = some q ∧ q ≠ c.queue) → op.judge c s = some ⟨0x13, 0xFFFF, 0⟩) ∧
      ((op.queue = none ∨ op.queue = some c.queue) →
        (op.hi < c.params.length → op.judge c s = some ⟨0x10, 0xFFFF, 0⟩) ∧
        (c.params.length ≤ op.hi → c.params.length < op.lo → op.judge c s = some ⟨0x11, 0xFFFF, 0⟩) ∧
        (c.params.length ≤ op.hi → op.lo ≤ c.params.length →
          ((op.targetOk s c.target.toNat && op.targetMore c s) = false → op.judge c s = some ⟨0x14, 0xFFFF, 0⟩) ∧
          ((op.targetOk s c.target.toNat && op.targetMore c s) = true →
            (4 ≤ c.flags.toNat → op.judge c s = some ⟨0x15, 0xFFFF, 0⟩) ∧
            (c.flags.toNat < 4 →
              (∀ r, op.check c s = some r → op.judge c s = some r) ∧
              (op.check c s = none → op.long = true → 64 ≤ s.clerk.jobs.length → op.judge c s = some ⟨0x17, 0xFFFF, 0⟩))))))

/-- A dry run gets the reply it would get, without results, and changes nothing else. For every opcode: a packet with DRY_RUN that
passes its checks, and that would not be declined in execution, is answered OK, or ACCEPTED for an opcode that starts a job,
with LENGTH 0; nothing but the reply changes. -/
def Obligations.DryRunChangesNothing : Prop :=
  ∀ (i : Instr) (op : OpDef) (c : Cmd) (s : State), packetOf i = some (op, c) →
    s.serves c.iface = true → s.queueHeld c.iface c.queue = false → (c.fence && s.unanswered) = false →
    op.judge c s = none → c.dry = true → (∀ r, (op.effect c s).1 ≠ .refused r) →
    exec i s = .next (s.answered c op.code (if op.long then 1 else 0) [])

/-- A packet behind one in hand, or under FENCE behind an unwritten reply, waits in hand. For every opcode: while its interface is
not served a packet changes nothing; where an earlier packet of its queue and interface is in hand, or FENCE is set and some
reply is unwritten, it joins those in hand, last, and nothing else changes; a commit that would raise a required pace beyond
the margin is held in the same way. -/
def Obligations.PacketWaitsItsTurn : Prop :=
  ∀ (i : Instr) (op : OpDef) (c : Cmd) (s : State), packetOf i = some (op, c) →
    (s.serves c.iface = false → exec i s = .next s) ∧
    (s.serves c.iface = true →
      (s.queueHeld c.iface c.queue = true ∨ (c.fence = true ∧ s.unanswered = true)) →
      exec i s = .next (s.withClerk { s.clerk with held := s.clerk.held ++ [⟨c.iface, c.queue, op.code, c, none⟩] })) ∧
    (s.serves c.iface = true → s.queueHeld c.iface c.queue = false → (c.fence && s.unanswered) = false →
      op.judge c s = none → c.dry = false → s.paceHolds (op.effect c s).2 = true →
      exec i s = .next (s.waiting c op.code .paceHold))

/-- The words of a packet, taken from a mailbox or a ring slot, run its opcode with every field intact. For every command that is
a packet of at most 2,045 parameter words: when its words as Table 2-1 lays them out, with the CRC of R43, stand in the SPI
mailbox of its queue, or in the slot at CONS of its enabled command ring, COMMAND_TAKE on that queue, with no packet of it in
hand, does exactly what the command does on the state with the mailbox emptied, or with CONS advanced. No field of a packet is
dropped or misread. -/
def Obligations.MailboxPacketRuns : Prop :=
  ∀ (i : Instr) (op : OpDef) (c : Cmd) (s : State) (w : List Word), packetOf i = some (op, c) → c.params.length ≤ 2045 →
    s.serves c.iface = true → s.queueHeld c.iface c.queue = false →
    (c.iface = 1 → Tab.get [] s.clerk.mail c.queue.val = packetWords op.code c →
      exec (.commandTake 1 c.queue w) s =
        exec i (s.withClerk { s.clerk with mail := Tab.set [] s.clerk.mail c.queue.val [] })) ∧
    (c.iface = 0 → s.pcie = true → (s.ring c.queue.val).enable = true → (s.ring c.queue.val).empty = false →
      s.replyRoom c.queue = true → (∀ x ∈ s.clerk.unwritten, x.queue ≠ c.queue) →
      exec (.commandTake 0 c.queue (packetWords op.code c)) s =
        exec i (s.setRing c.queue.val { s.ring c.queue.val with cons := ((s.ring c.queue.val).cons + 1) % (s.ring c.queue.val).size }))

/-- A packet with too great a LENGTH, a wrong CRC or an unknown opcode is refused or lost, in that order. A packet taken from the
SPI mailbox: LENGTH above 2,045 is refused LENGTH_OVER; else a wrong CRC loses it: no reply, the interface's CRC counter
advances and CMD_LOST is raised with severity warning; else an opcode not in the index is refused BAD_OPCODE. -/
def Obligations.BadPacketsAreTurnedAway : Prop :=
  ∀ (q : Queue) (s t : State) (w ws : List Word), s.serves 1 = true → s.queueHeld 1 q = false →
    Tab.get [] s.clerk.mail q.val = ws → ws ≠ [] →
    t = s.withClerk { s.clerk with mail := Tab.set [] s.clerk.mail q.val [] } →
    let n := (ws.getD 1 0).fld 31 20
    let code := (ws.getD 0 0).fld 31 16
    let c : Cmd := ⟨1, q, BitVec.ofNat 8 ((ws.getD 0 0).fld 15 8), BitVec.ofNat 8 ((ws.getD 0 0).fld 7 0),
      BitVec.ofNat 20 ((ws.getD 1 0).fld 19 0), []⟩
    (2045 < n → exec (.commandTake 1 q w) s =
      .next ((t.bump (protoCtr 1 1) 1).answered c code 0x10 [mkw [(31, 16, 0xFFFF), (15, 0, 0)]])) ∧
    (n ≤ 2045 → w32 (crc32 (bytesOf (padTake (n + 2) ws))) ≠ ws.getD (n + 2) 0 →
      exec (.commandTake 1 q w) s =
        .next ((t.bump (protoCtr 1 0) 1).raise 0x0001 2 0x00FFF (2 ^ 24 + lostData q.val ws.head?))) ∧
    (n ≤ 2045 → w32 (crc32 (bytesOf (padTake (n + 2) ws))) = ws.getD (n + 2) 0 → opOf code = none →
      exec (.commandTake 1 q w) s =
        .next ((t.bump (protoCtr 1 2) 1).answered c code 0x12 [mkw [(31, 16, 0xFFFF), (15, 0, 0)]]))

/-- The device turns to a packet in hand: it starts when its FENCE is satisfied, a held commit when the margin suffices. With the
first packet in hand of a queue not waiting for anything but its turn, and not held by FENCE, COMMAND_TAKE checks and answers
it on the state with it removed. A commit held for the pace margin proceeds, oldest first, once the margin suffices, without a
second wait. -/
def Obligations.HeldPacketStarts : Prop :=
  ∀ (s : State) (h : Held) (op : OpDef) (l r : List Held), opOf h.code = some op → s.clerk.held = l ++ h :: r →
    (∀ (w : List Word), s.serves h.iface = true → (∀ x ∈ l, ¬(x.iface = h.iface ∧ x.queue = h.queue)) → h.await = none →
      (h.cmd.fence = true → l = [] ∧ s.clerk.unwritten = []) →
      exec (.commandTake h.iface h.queue w) s = .next (answer op h.cmd (s.withClerk { s.clerk with held := l ++ r }))) ∧
    ((∀ x ∈ l, x.await ≠ some .paceHold) → h.await = some .paceHold → s.live = true →
      (s.withClerk { s.clerk with held := l ++ r }).paceHolds
        (op.effect h.cmd (s.withClerk { s.clerk with held := l ++ r })).2 = false →
      exec .paceHoldRelease s = .next (answerWith false op h.cmd (s.withClerk { s.clerk with held := l ++ r })))

/-- Where a reply goes: the queue's unread replies on SPI, the reply ring's slot at PROD on PCI Express. On SPI the reply joins
the unread replies of its queue, last. On PCI Express, with no earlier reply of the queue waiting and room in the enabled
reply ring, it is written to the slot at PROD, PROD advances modulo the ring size, and vector q signals; otherwise it waits,
last. -/
def Obligations.RepliesAreWritten : Prop :=
  ∀ (u : State) (c : Cmd) (code st : Nat) (ws : List Word),
    (c.iface = 1 → u.answered c code st ws =
      u.withClerk { u.clerk with
        spiReply := Tab.upd [] u.clerk.spiReply c.queue.val fun l => l ++ [replyWords code st c ws] }) ∧
    (c.iface = 0 →
      ((u.ring (4 + c.queue.val)).enable = true → (u.ring (4 + c.queue.val)).full = false →
        (∀ x ∈ u.clerk.unwritten, x.queue ≠ c.queue) →
        u.answered c code st ws =
          ((u.setRing (4 + c.queue.val) { u.ring (4 + c.queue.val) with
              prod := ((u.ring (4 + c.queue.val)).prod + 1) % (u.ring (4 + c.queue.val)).size }).emit
            (.reply c.queue (u.ring (4 + c.queue.val)).prod (replyWords code st c ws))).signal c.queue.val) ∧
      ((u.ring (4 + c.queue.val)).enable = false ∨ (u.ring (4 + c.queue.val)).full = true ∨
          (∃ x ∈ u.clerk.unwritten, x.queue = c.queue) →
        u.answered c code st ws =
          u.withClerk { u.clerk with unwritten := u.clerk.unwritten ++ [⟨c.queue, replyWords code st c ws⟩] }))

/-- The index of opcodes: code, queue, least and greatest LENGTH and job of all 149, and their division among the queues. The rows
of Table 22-1 in its order; 5 opcodes are urgent, 113 routine, 20 bulk, 10 long, and CLERK_NOP alone is accepted on every
queue. A packet that is executed arrived on its opcode's queue; on another queue it fails with WRONG_QUEUE, on either
interface. -/
def Obligations.OpcodeIndexRows : Prop :=
  (allOps.map fun o => (o.code, o.queue, o.lo, o.hi, o.long)) =
      [(0x0001, none, 0, 2045, false), (0x0002, some 1, 1, 1, false), (0x0003, some 1, 1, 1, false),
       (0x0004, some 1, 1, 1, false), (0x0005, some 1, 3, 3, false), (0x0006, some 1, 0, 0, false),
       (0x0020, some 1, 0, 0, false), (0x0021, some 1, 1, 1, false)] ++
      [(0x0101, some 1, 1, 1, false), (0x0102, some 1, 4, 4, false), (0x0103, some 1, 4, 4, false),
       (0x0104, some 1, 3, 3, false), (0x0105, some 1, 2, 2, false), (0x0106, some 1, 1, 1, false),
       (0x0107, some 0, 1, 1, false), (0x0108, some 1, 2, 2, false), (0x0109, some 1, 0, 0, false),
       (0x010A, some 1, 0, 0, false), (0x010B, some 1, 1, 1, false), (0x010C, some 1, 0, 0, false)] ++
      [(0x0201, some 1, 1, 1, false), (0x0202, some 1, 1, 5, false), (0x0203, some 1, 2, 2, false),
       (0x0204, some 1, 1, 1, false), (0x0205, some 1, 2, 2, false), (0x0206, some 1, 3, 3, false),
       (0x0207, some 1, 1, 1, false), (0x0208, some 3, 1, 1, true), (0x0209, some 1, 1, 1, false),
       (0x020A, some 1, 1, 1, false), (0x020B, some 1, 0, 0, false), (0x020C, some 1, 0, 0, false)] ++
      [(0x0301, some 1, 3, 3, false), (0x0302, some 1, 3, 3, false), (0x0303, some 1, 3, 62, false),
       (0x0304, some 1, 0, 0, false), (0x0305, some 1, 2, 2, false), (0x0306, some 2, 1, 1, false),
       (0x0307, some 1, 1, 1, false), (0x0308, some 1, 1, 1, false)] ++
      [(0x0401, some 1, 1, 1, false), (0x0402, some 3, 1, 1, true), (0x0403, some 1, 1, 1, false),
       (0x0404, some 1, 1, 1, false), (0x0405, some 1, 1, 1, false), (0x0406, some 1, 0, 0, false),
       (0x0407, some 1, 0, 0, false), (0x0408, some 1, 1, 1, false), (0x0409, some 3, 1, 1, true),
       (0x040A, some 1, 1, 1, false)] ++
      [(0x0501, some 1, 1, 1, false), (0x0502, some 2, 1, 641, false), (0x0503, some 2, 3, 2045, false),
       (0x0504, some 1, 1, 1, false), (0x0505, some 0, 1, 1, false), (0x0506, some 1, 1, 1, false),
       (0x0507, some 1, 1, 1, false), (0x0508, some 2, 1, 1, false), (0x0509, some 2, 1, 1, false),
       (0x050A, some 2, 1, 1, false), (0x050B, some 1, 1, 1, false)] ++
      [(0x0601, some 1, 1, 1, false), (0x0602, some 2, 5, 2045, false), (0x0603, some 2, 3, 2045, false),
       (0x0604, some 1, 2, 2, false), (0x0605, some 2, 1, 1, false), (0x0606, some 1, 1, 1, false),
       (0x0607, some 1, 0, 0, false)] ++
      [(0x0701, some 1, 12, 12, false), (0x0702, some 1, 2, 2, false), (0x0703, some 1, 1, 1, false),
       (0x0704, some 1, 0, 0, false), (0x0705, some 1, 0, 0, false)] ++
      [(0x0801, some 1, 1, 1, false), (0x0802, some 1, 0, 0, false), (0x0803, some 1, 0, 0, false),
       (0x0804, some 1, 0, 0, false), (0x0805, some 1, 0, 0, false), (0x0806, some 2, 1, 1, false),
       (0x0807, some 1, 1, 1, false)] ++
      [(0x0901, some 1, 2, 2, false), (0x0902, some 1, 1, 1, false), (0x0903, some 1, 3, 3, false),
       (0x0904, some 3, 2, 2, true), (0x0905, some 1, 1, 1, false), (0x0906, some 1, 1, 1, false),
       (0x0907, some 1, 3, 3, false), (0x0908, some 1, 0, 0, false), (0x0909, some 1, 0, 0, false),
       (0x0910, some 1, 2, 2, false), (0x0911, some 1, 1, 1, false), (0x0912, some 0, 1, 1, false),
       (0x0913, some 1, 1, 1, false), (0x0914, some 1, 2, 2, false), (0x0915, some 1, 3, 3, false),
       (0x0916, some 2, 9, 9, false), (0x0917, some 1, 0, 0, false), (0x0918, some 1, 0, 0, false),
       (0x0920, some 1, 4, 4, false), (0x0921, some 3, 1, 1, true), (0x0922, some 2, 3, 2045, false),
       (0x0923, some 2, 1, 1, false), (0x0924, some 1, 0, 0, false), (0x0925, some 1, 0, 0, false),
       (0x0930, some 1, 1, 1, false), (0x0931, some 1, 0, 0, false), (0x0932, some 1, 0, 0, false),
       (0x0933, some 1, 1, 1, false)] ++
      [(0x0A01, some 1, 1, 1, false), (0x0A02, some 1, 1, 1, false), (0x0A03, some 1, 1, 1, false),
       (0x0A04, some 0, 1, 1, false), (0x0A05, some 1, 1, 1, false), (0x0A06, some 1, 3, 3, false),
       (0x0A07, some 1, 1, 1, false), (0x0A08, some 1, 1, 1, false), (0x0A09, some 1, 1, 1, false)] ++
      [(0x0B01, some 2, 4, 2044, false), (0x0B02, some 1, 1, 1, false), (0x0B03, some 1, 1, 1, false),
       (0x0B04, some 0, 1, 1, false), (0x0B05, some 1, 1, 1, false), (0x0B06, some 1, 1, 1, false),
       (0x0B07, some 1, 1, 1, false), (0x0B08, some 1, 1, 1, false)] ++
      [(0x0C01, some 1, 2, 2, false), (0x0C02, some 2, 1, 1, false), (0x0C03, some 1, 0, 0, false),
       (0x0C04, some 1, 1, 1, false), (0x0C05, some 1, 1, 1, false)] ++
      [(0x0D01, some 2, 1, 1, false), (0x0D02, some 1, 0, 0, false), (0x0D03, some 2, 9, 17, false),
       (0x0D04, some 2, 0, 0, false), (0x0D05, some 2, 302, 302, false), (0x0D06, some 3, 1, 1, true),
       (0x0D07, some 1, 1, 1, false), (0x0D08, some 1, 0, 0, false)] ++
      [(0x0E01, some 2, 2, 2045, false), (0x0E02, some 3, 0, 0, true), (0x0E03, some 3, 1, 1, true),
       (0x0E04, some 3, 1, 1, true), (0x0E05, some 1, 0, 0, false), (0x0E06, some 1, 0, 0, false)] ++
      [(0x0F01, some 1, 0, 0, false), (0x0F02, some 1, 1, 1, false), (0x0F03, some 1, 0, 0, false),
       (0x0F04, some 3, 2, 2, true), (0x0F05, some 1, 1, 1, false)] ∧
  allOps.length = 149 ∧ (allOps.filter fun o => o.queue == some 0).length = 5 ∧
  (allOps.filter fun o => o.queue == some 1).length = 113 ∧ (allOps.filter fun o => o.queue == some 2).length = 20 ∧
  (allOps.filter fun o => o.queue == some 3).length = 10 ∧ (allOps.filter fun o => o.queue == none).map (·.code) = [0x0001] ∧
  (∀ (i : Instr) (op : OpDef) (c : Cmd) (s : State), packetOf i = some (op, c) → op.passes c s →
    op.queue = none ∨ op.queue = some c.queue) ∧
  (∀ (i : Instr) (op : OpDef) (c : Cmd) (s : State) (q : Queue), packetOf i = some (op, c) → op.queue = some q → c.queue ≠ q →
    s.live = true → op.judge c s = some ⟨0x13, 0xFFFF, 0⟩) ∧
  (∀ (c : Cmd) (s : State) (q : Queue) (r : Rej), clerkNopOp.judge { c with queue := q } s = some r → r.status ≠ 0x13)

/-- The CLERK commands: what each returns or sets when it is executed. CLERK_NOP returns its parameters; CLERK_JOB_RESULT a
running job's opcode with STATE 0, an ended job's opcode, status and STATE 1 before its results, or STATE 2;
CLERK_PROTO_COUNTERS nine counters of one interface as low and high words; CLERK_BOOT_STATUS the four words of Table 20-5;
CLERK_MAP_READ the region's ID, pool role and block count and a word for each block; CLERK_EVENT_FILTER_SET sets the least
severity of each of 16 groups for one interface and leaves the other's; CLERK_FIFO_IDLE_SET sets the idle limit of the FIFOs
named, in the directions of DIR, and nothing else of any FIFO. -/
def Obligations.ClerkCommandsAnswer : Prop :=
  (∀ (c : Cmd) (s : State), clerkNopOp.passes c s → exec (.clerkNop c) s = .next (s.answered c 0x0001 0 c.params)) ∧
  (∀ (c : Cmd) (s : State), clerkJobResultOp.passes c s →
    (∀ j, s.clerk.jobs.find? (fun j => j.num == (c.p 0).fld 15 0) = some j →
      exec (.clerkJobResult c) s = .next (s.answered c 0x0002 0 [mkw [(31, 16, j.code)]])) ∧
    (∀ e, s.clerk.jobs.find? (fun j => j.num == (c.p 0).fld 15 0) = none →
      s.clerk.ended.find? (fun j => j.num == (c.p 0).fld 15 0) = some e →
      exec (.clerkJobResult c) s =
        .next (s.answered c 0x0002 0 (mkw [(31, 16, e.code), (15, 8, e.status), (1, 0, 1)] :: e.results))) ∧
    (s.clerk.jobs.find? (fun j => j.num == (c.p 0).fld 15 0) = none →
      s.clerk.ended.find? (fun j => j.num == (c.p 0).fld 15 0) = none →
      exec (.clerkJobResult c) s = .next (s.answered c 0x0002 0 [mkw [(1, 0, 2)]]))) ∧
  (∀ (c : Cmd) (s : State), clerkProtoCountersOp.passes c s → ∃ ws : List Word,
    exec (.clerkProtoCounters c) s = .next (s.answered c 0x0004 0 ws) ∧ ws.length = 18 ∧
    ∀ j < 9, ws[2 * j]? = some (w32 (s.counter (9 * (c.p 0).fld 0 0 + j))) ∧
      ws[2 * j + 1]? = some (w32 (s.counter (9 * (c.p 0).fld 0 0 + j) >>> 32))) ∧
  (∀ (c : Cmd) (s : State), clerkBootStatusOp.passes c s →
    exec (.clerkBootStatus c) s = .next (s.answered c 0x0006 0
      [mkw [(31, 28, s.boot.cause), (27, 27, s.boot.slot), (26, 26, b2n s.boot.fallback), (25, 22, s.boot.causeA), (21, 18, s.boot.causeB)],
       w32 s.boot.bootTime, w32 ((s.boot.regionsFailed.map fun r => 2 ^ r).sum),
       mkw [(31, 16, s.boot.blocksRetired), (15, 0, s.boot.cellsRetired)]])) ∧
  (∀ (c : Cmd) (s : State), clerkMapReadOp.passes c s → ∃ ws : List Word, exec (.clerkMapRead c) s = .next (s.answered c 0x0020 0 ws) ∧
    ws.length = 1 + blocksOf (haRegion c.target.toNat) ∧
    ws[0]? = some (mkw [(31, 24, haRegion c.target.toNat), (23, 20, (s.region (haRegion c.target.toNat)).poolRole),
      (19, 14, blocksOf (haRegion c.target.toNat))]) ∧
    ∀ b < blocksOf (haRegion c.target.toNat), ws[b + 1]? =
      some (mkw [(31, 28, (s.block (haRegion c.target.toNat) b).state), (27, 22, (s.block (haRegion c.target.toNat) b).serves),
        (21, 16, (s.block (haRegion c.target.toNat) b).cells), (15, 10, (s.block (haRegion c.target.toNat) b).spareCell),
        (9, 4, (s.block (haRegion c.target.toNat) b).suspect.length)])) ∧
  (∀ (c : Cmd) (s : State), clerkEventFilterSetOp.passes c s →
    ∃ u, exec (.clerkEventFilterSet c) s = .next (u.answered c 0x0005 0 []) ∧ s.only [.clerk] u ∧
      ∀ i : Iface, ((i.val = (c.p 0).fld 0 0) →
          (∀ g < 8, Tab.get 0 (u.clerk.ev.get i).least g = (c.p 1).fld (4 * g + 3) (4 * g)) ∧
          (∀ g < 8, Tab.get 0 (u.clerk.ev.get i).least (g + 8) = (c.p 2).fld (4 * g + 3) (4 * g)) ∧
          (u.clerk.ev.get i).buf = (s.clerk.ev.get i).buf) ∧
        ((i.val ≠ (c.p 0).fld 0 0) → u.clerk.ev.get i = s.clerk.ev.get i)) ∧
  (∀ (c : Cmd) (s : State), clerkFifoIdleSetOp.passes c s →
    ∃ u, exec (.clerkFifoIdleSet c) s = .next (u.answered c 0x0021 0 []) ∧ s.only [.hier] u ∧
      (∀ ha ∈ s.cellsNamed c.target.toNat, ∀ d : Dir, ownsFifo (haRegion ha) = true → (c.p 0).fld 17 16 / dirCode d % 2 = 1 →
        (u.fifo (fifoKey ha d)).idleLimit = (c.p 0).fld 15 0) ∧
      (∀ k, { u.fifo k with idleLimit := 0 } = { s.fifo k with idleLimit := 0 }) ∧
      (∀ k, (∀ ha ∈ s.cellsNamed c.target.toNat, ∀ d : Dir, k = fifoKey ha d →
        ownsFifo (haRegion ha) = false ∨ (c.p 0).fld 17 16 / dirCode d % 2 ≠ 1) → u.fifo k = s.fifo k))

/-- A freeze captures every group of MASK at its commit; captured groups read as captured until a later freeze clears them. When
TALLY_FREEZE is executed no counter changes; a slot of an open group of MASK reads, in that state and in every later state
with the same capture, mask of groups and frozen groups whatever its counters have become, as its counter was at the commit
(afresh, even where the group was captured before); one of an open group not in MASK reads as its counter is; one of a closed
group reads zero, captured or not. -/
def Obligations.TallyFreezeCaptures : Prop :=
  ∀ (c : Cmd) (s : State), tallyFreezeOp.passes c s →
    ∃ u, exec (.tallyFreeze c) s = .next (u.answered c 0x0C05 0 []) ∧ s.only [.tally] u ∧
      (∀ k, u.counter k = s.counter k) ∧
      (∀ (t : State) (k : Nat), t.tally.frozen = u.tally.frozen → t.tally.capture = u.tally.capture → k < 0x20000 →
        (t.hall.tallyMask / 2 ^ slotGroup k % 2 = 0 → t.slotValue k = 0) ∧
        (t.hall.tallyMask / 2 ^ slotGroup k % 2 ≠ 0 →
          ((c.p 0).bit (slotGroup k) = true → t.slotValue k = s.counter k) ∧
          ((c.p 0).bit (slotGroup k) = false → t.slotValue k = t.counter k)))

/-- Reads of the counter window: 8 bytes atomic, a low half latches the high half with its slot, a high half returns the latch of
its slot. With the host's windows reachable, a read leaves the device as data: 8 bytes of a slot are its value, low half
first, and the latch is unchanged; 4 bytes of the low half are the low half, and the latch, one for all requesters, takes the
high half and the slot; 4 bytes of the high half are the latched value when the latch holds that slot, else the slot's high
half. Any later low-half read replaces the latch, and it is empty after cold reset. -/
def Obligations.Bar2ReadsAreConsistent : Prop :=
  State.reset.tally.latch = none ∧ (∀ s : State, s.coldReset.tally.latch = none) ∧
  ∀ (s : State) (o : BitVec 20), s.pcie = true →
    (o.toNat % 8 = 0 →
      exec (.bar2LowRead o true) s = .next (s.emit (.data (words64 (s.slotValue (o.toNat / 8))))) ∧
      ∃ t, exec (.bar2LowRead o false) s = .next (t.emit (.data [w32 (s.slotValue (o.toNat / 8))])) ∧ s.only [.tally] t ∧
        t.tally = { s.tally with latch := some (o.toNat / 8, s.slotValue (o.toNat / 8) / 2 ^ 32) }) ∧
    (o.toNat % 8 = 4 →
      (∀ h, s.tally.latch = some (o.toNat / 8, h) → exec (.bar2LowRead o false) s = .next (s.emit (.data [w32 h]))) ∧
      ((∀ h, s.tally.latch ≠ some (o.toNat / 8, h)) →
        exec (.bar2LowRead o false) s = .next (s.emit (.data [w32 (s.slotValue (o.toNat / 8) / 2 ^ 32)]))))

/-- The other Tally commands: span tagging set and read, slot and FIFO counters. TALLY_TAG_SET turns tagging of one port and
direction on or off with its exponent and sets the selector to SEED, and leaves the other three; TALLY_TAG_READ returns the
number last written and 17 words for each record asked for, zeros for one not held; TALLY_SLOT_READ the four counters of the
region; TALLY_FIFO_READ the five counters of R33 and the high-water mark of one FIFO, which it clears. -/
def Obligations.TallyCommandsAnswer : Prop :=
  (∀ (c : Cmd) (s : State), tallyTagSetOp.passes c s →
    ∃ u, exec (.tallyTagSet c) s = .next (u.answered c 0x0C01 0 []) ∧ s.only [.tally] u ∧
      (∀ k, u.counter k = s.counter k) ∧ u.tally.ring = s.tally.ring ∧
      (∀ (p : Port) (d : Fin 2), (p.val = (c.p 0).fld 29 29 ∧ d.val = (c.p 0).fld 30 30) →
        Tab.get {} u.tally.tags (tagKey p d.val) =
          { enable := (c.p 0).bit 31, k := (c.p 0).fld 4 0, seed := (c.p 1).fld 30 0, lfsr := (c.p 1).fld 30 0 }) ∧
      (∀ (p : Port) (d : Fin 2), ¬(p.val = (c.p 0).fld 29 29 ∧ d.val = (c.p 0).fld 30 30) →
        Tab.get {} u.tally.tags (tagKey p d.val) = Tab.get {} s.tally.tags (tagKey p d.val))) ∧
  (∀ (c : Cmd) (s : State), tallyTagReadOp.passes c s → ∃ ws : List Word, exec (.tallyTagRead c) s = .next (s.answered c 0x0C02 0 ws) ∧
    ws.length = 1 + 17 * (c.p 0).fld 31 25 ∧ ws[0]? = some (w32 s.tally.tagSeq)) ∧
  (∀ (c : Cmd) (s : State), tallySlotReadOp.passes c s →
    exec (.tallySlotRead c) s = .next (s.answered c 0x0C03 0
      (s.counterWords (ctr 0xC 0 4 (haRegion c.target.toNat) 0) 4)) ∧
    (s.counterWords (ctr 0xC 0 4 (haRegion c.target.toNat) 0) 4).length = 8) ∧
  (∀ (c : Cmd) (s : State) (d : Dir), tallyFifoReadOp.passes c s → (c.p 0).fld 1 0 = dirCode d →
    ∃ u, exec (.tallyFifoRead c) s = .next (u.answered c 0x0C04 0
        ([(s.fifo (fifoKey c.target.toNat d)).committed, (s.fifo (fifoKey c.target.toNat d)).rewound,
          (s.fifo (fifoKey c.target.toNat d)).discarded, (s.fifo (fifoKey c.target.toNat d)).drains,
          (s.fifo (fifoKey c.target.toNat d)).idles].flatMap words64 ++ [w32 (s.fifo (fifoKey c.target.toNat d)).highWater])) ∧
      s.only [.hier] u ∧ u.fifo (fifoKey c.target.toNat d) = { s.fifo (fifoKey c.target.toNat d) with highWater := 0 } ∧
      ∀ k, k ≠ fifoKey c.target.toNat d → u.fifo k = s.fifo k)

/-- What raising an event does: its counter, the fault log, and each interface's buffer. Raising an event advances its counter;
the fault log takes a record with the next LOG_SEQ, newest first and at most 1,024, exactly where the event is of group 0x0F
or of severity error or critical, whatever the filters; on each interface it is counted as filtered where its severity is
below the least set for its group, else it joins the buffer of 1,024 last, else it is counted as dropped. Nothing else of the
state changes. -/
def Obligations.EventsAreRecorded : Prop :=
  ∀ (s : State) (code sev ha data : Nat), s.Inv →
    let r : EvRec := ⟨code, sev, ha, data % 2 ^ 32, s.timeWord⟩
    let t := s.raise code sev ha data
    s.only [.clerk, .hier, .tally] t ∧
    t.counter (evCtr code) = (s.counter (evCtr code) + 1) % 2 ^ 48 ∧
    (code / 256 = 15 ∨ 3 ≤ sev →
      t.hier.logSeq = (if s.hier.logSeq ≥ 0xFFFFFFFF then 1 else s.hier.logSeq + 1) ∧
      t.hier.log = (⟨t.hier.logSeq, code, r.w1, r.w2, r.w3⟩ :: s.hier.log).take 1024) ∧
    (¬(code / 256 = 15 ∨ 3 ≤ sev) → t.hier = s.hier) ∧
    (∀ i : Iface,
      (sev < Tab.get 0 (s.clerk.ev.get i).least (code / 256) → t.clerk.ev.get i = s.clerk.ev.get i) ∧
      (Tab.get 0 (s.clerk.ev.get i).least (code / 256) ≤ sev → (s.clerk.ev.get i).buf.length < 1024 →
        t.clerk.ev.get i = { s.clerk.ev.get i with buf := (s.clerk.ev.get i).buf ++ [r] }) ∧
      (Tab.get 0 (s.clerk.ev.get i).least (code / 256) ≤ sev → 1024 ≤ (s.clerk.ev.get i).buf.length →
        (t.clerk.ev.get i).buf = (s.clerk.ev.get i).buf ∧
        (t.clerk.ev.get i).dropped = sat 0xFFFFFFFF ((s.clerk.ev.get i).dropped + 1)))

/-- The host's writes to ring blocks: doorbells, consumer indexes, enable, disable, stop. With the host's windows reachable: a
doorbell sets PROD of a command ring, and CONS_WRITE CONS of a reply or event ring (an advance re-arms the ring's vectors and
makes room), where an index outside an enabled ring stops it instead; enabling sets ENABLE and SIZE_LOG2 and both indexes to
zero (PHASE to 1 on the event ring), a size outside its range stops the ring; disabling clears ENABLE alone; a failed transfer
stops the ring: ENABLE cleared, STOPPED set and RING_STOPPED raised with the ring's number; a one written to STOPPED clears
it. -/
def Obligations.HostWritesToRings : Prop :=
  (∀ (s : State) (q : Queue) (v : Word), s.pcie = true →
    ((s.ring q.val).enable = true ∧ (s.ring q.val).size ≤ v.fld 15 0 → exec (.doorbellWrite q v) s = .next (s.stopRing q.val)) ∧
    (¬((s.ring q.val).enable = true ∧ (s.ring q.val).size ≤ v.fld 15 0) →
      exec (.doorbellWrite q v) s = .next (s.setRing q.val { s.ring q.val with prod := v.fld 15 0 }))) ∧
  (∀ (s : State) (k : Fin 9) (v : Word), s.pcie = true → 4 ≤ k.val →
    ((s.ring k.val).enable = true ∧ (s.ring k.val).size ≤ v.fld 15 0 → exec (.consWrite k v) s = .next (s.stopRing k.val)) ∧
    ((s.ring k.val).enable = true → v.fld 15 0 < (s.ring k.val).size → v.fld 15 0 ≠ (s.ring k.val).cons →
      exec (.consWrite k v) s = .next (((s.setRing k.val { s.ring k.val with cons := v.fld 15 0 }).rearmRing k.val).flushRing k.val)) ∧
    ((s.ring k.val).enable = false →
      exec (.consWrite k v) s = .next (s.setRing k.val { s.ring k.val with cons := v.fld 15 0 }))) ∧
  (∀ (s : State) (k : Fin 9) (v : Word), s.pcie = true → v.bit 31 = true → (s.ring k.val).enable = false → s.clerk.unwritten = [] →
    (((k.val = 8 ∧ 8 ≤ v.fld 4 0 ∧ v.fld 4 0 ≤ 16) ∨ (k.val ≠ 8 ∧ 4 ≤ v.fld 4 0 ∧ v.fld 4 0 ≤ 12)) →
      ∃ t, exec (.ringEnable k v) s = .next t ∧ s.only [.bar0, .clerk] t ∧ t.clerk = s.clerk ∧
        t.ring k.val = { s.ring k.val with
          enable := true, prod := 0, cons := 0, sizeLog2 := v.fld 4 0, stopped := (s.ring k.val).stopped && !v.bit 30 } ∧
        (∀ j, j ≠ k.val → t.ring j = s.ring j) ∧ (t.bar0.phase = if k.val = 8 then true else s.bar0.phase)) ∧
    (¬((k.val = 8 ∧ 8 ≤ v.fld 4 0 ∧ v.fld 4 0 ≤ 16) ∨ (k.val ≠ 8 ∧ 4 ≤ v.fld 4 0 ∧ v.fld 4 0 ≤ 12)) →
      ∃ t, exec (.ringEnable k v) s = .next t ∧ (t.ring k.val).enable = false ∧ (t.ring k.val).stopped = true ∧
        t.counter (evCtr 0x0004) = (s.bump (evCtr 0x0004) 1).counter (evCtr 0x0004))) ∧
  (∀ (s : State) (k : Fin 9) (v : Word), s.pcie = true → v.bit 31 = false → (s.ring k.val).enable = true →
    exec (.ringDisable k v) s =
      .next (s.setRing k.val { s.ring k.val with enable := false, stopped := (s.ring k.val).stopped && !v.bit 30 })) ∧
  (∀ (s : State) (k : Fin 9), s.pcie = true → (s.ring k.val).enable = true →
    exec (.ringStop k) s = .next ((s.setRing k.val { s.ring k.val with enable := false, stopped := true }).raise
      0x0004 3 0x00FFF (k.val * 2 ^ 28))) ∧
  (∀ (s : State) (k : Fin 9) (v : Word), s.pcie = true → v.bit 30 = true → v.bit 31 = (s.ring k.val).enable →
    exec (.stoppedClear k v) s = .next (s.setRing k.val { s.ring k.val with
      stopped := false, sizeLog2 := if (s.ring k.val).enable then (s.ring k.val).sizeLog2 else v.fld 4 0 }))

/-- Reads of device time and writes of BAR0 words: the latches, the write-one-to-clear bits, what ignores a write. TIME_LO alone,
or with TIME_HI in one atomic read, returns bits of device time and latches the high halves for its interface alone; a one
written to TEMP_EXCURSION or PACE_SHORT clears it, and a zero leaves it; a vector register takes 4 to 31 and ignores 0 to 3;
the identity, version, boot and time words, and offsets that no register has, ignore writes. -/
def Obligations.HostRegisterAccess : Prop :=
  (∀ (s : State) (i : Iface) (wide : Bool), (i = 0 → s.pcie = true) → (i = 1 → s.spiUp = true) →
    ∃ t, exec (.timeLoRead i wide) s =
        .next (t.emit (.data (if wide then [w32 s.time, w32 (s.time / 2 ^ 32)] else [w32 s.time]))) ∧
      s.only [.bar0] t ∧ t.bar0Word i 0x44 = w32 (s.time / 2 ^ 32) ∧ t.bar0Word i 0x48 = w32 (s.time / 2 ^ 64) ∧
      t.bar0.latchHi.get (1 - i) = s.bar0.latchHi.get (1 - i) ∧ t.bar0.latchWrap.get (1 - i) = s.bar0.latchWrap.get (1 - i) ∧
      t.bar0.rings = s.bar0.rings) ∧
  (∀ (s : State) (v : Word), s.pcie = true →
    (v.bit 4 = true → ∃ t, exec (.tempExcursionClear v) s = .next t ∧ t.bar0.tempExcursion = false ∧
      t.bar0.paceShort = (s.bar0.paceShort && !v.bit 3) ∧ t.hier.health = t.healthNow) ∧
    (v.bit 3 = true → ∃ t, exec (.paceShortClear v) s = .next t ∧ t.bar0.paceShort = false ∧
      t.bar0.tempExcursion = (s.bar0.tempExcursion && !v.bit 4) ∧ t.hier.health = t.healthNow)) ∧
  (∀ (s : State) (o : BitVec 12) (v : Word), s.pcie = true →
    (o.toNat % 4 ≠ 0 ∨ o.toNat ∈ [0x0, 0x4, 0x8, 0xC, 0x10, 0x40, 0x44, 0x48, 0xC00] → exec (.registerWrite o v) s = .next s) ∧
    (o.toNat % 4 = 0 → 0x220 ≤ o.toNat → o.toNat < 0x260 →
      (v.fld 4 0 < 4 → exec (.registerWrite o v) s = .next s) ∧
      (4 ≤ v.fld 4 0 → ∃ t, exec (.registerWrite o v) s = .next t ∧ s.only [.bar0] t ∧ t.bar0.rings = s.bar0.rings ∧
        t.bar0 = { s.bar0 with vector := Tab.set 4 s.bar0.vector ((o.toNat - 0x220) / 4) (v.fld 4 0) })) ∧
    (o.toNat = 0x14 → exec (.registerWrite o v) s = .next (s.writeStatus v)))

/-- Event delivery to the event ring, and the bound of a queue. While the event ring is enabled with room, EVENT_DELIVER writes
EVENTS_LOST with the count where records were dropped, else the oldest record, to the slot at PROD with the ring's PHASE,
advances PROD modulo the size, flips PHASE at the wrap and signals the vector of the event's group; a queue's bound that
expires advances its counter and raises BOUND_MISS with interface, queue and SEQ. -/
def Obligations.EventsReachTheHost : Prop :=
  (∀ (s t : State) (e : EvRec), s.pcie = true → (s.ring 8).enable = true → (s.ring 8).full = false → s.nextEvent 0 = some (e, t) →
    ∃ u, exec .eventDeliver s = .next (u.signal (Tab.get 4 s.bar0.vector (e.code / 256))) ∧
      u.out = t.out ++ [.event (s.ring 8).prod (e.words s.bar0.phase)] ∧ t.only [.out, .bar0] u ∧
      u.ring 8 = { s.ring 8 with prod := ((s.ring 8).prod + 1) % (s.ring 8).size } ∧
      (u.bar0.phase = if ((s.ring 8).prod + 1) % (s.ring 8).size = 0 then !s.bar0.phase else s.bar0.phase)) ∧
  (∀ (s : State) (i : Iface),
    (0 < (s.clerk.ev.get i).dropped → ∃ t, s.nextEvent i = some (⟨0x0002, 3, 0x00FFF, (s.clerk.ev.get i).dropped, s.timeWord⟩, t) ∧
      (t.clerk.ev.get i).dropped = 0 ∧ (t.clerk.ev.get i).buf = (s.clerk.ev.get i).buf) ∧
    (∀ r l, (s.clerk.ev.get i).dropped = 0 → (s.clerk.ev.get i).buf = r :: l → ∃ t, s.nextEvent i = some (r, t) ∧
      (t.clerk.ev.get i).buf = l ∧ s.only [.clerk] t ∧ t.clerk.ev.get (1 - i) = s.clerk.ev.get (1 - i))) ∧
  (∀ (s : State) (i : Iface) (q : Queue) (seq : Byte), s.serves i = true → s.boundRuns i q = true →
    exec (.boundExpiry i q seq) s = .next ((s.bump (protoCtr i (3 + q.val)) 1).raise 0x0005 2 0x00FFF
      (i.val * 2 ^ 24 + q.val * 2 ^ 16 + seq.toNat * 2 ^ 8)))

/-- The SPI transactions: what a write takes, what a read returns and what it removes. While SPI takes transactions: a whole
packet enters an empty mailbox; one cut short, a queue index above 3 and an unknown instruction byte are lost with the CRC
counter advanced and CMD_LOST raised; a reply is returned padded with zeros and leaves only when its last word was clocked
out, with zeros where none is pending or the index is above 3; event records are returned oldest first and leave when whole;
window reads return the words of the BAR0 window and window writes act on each word in turn. -/
def Obligations.SpiTransactions : Prop :=
  (∀ (s : State) (k : Byte) (ws : List Word), s.spiUp = true →
    (k.toNat < 4 → Tab.get [] s.clerk.mail k.toNat = [] → packetWhole ws = true →
      exec (.spiWriteCmd k ws) s = .next (s.withClerk { s.clerk with mail := Tab.set [] s.clerk.mail k.toNat ws })) ∧
    (k.toNat < 4 → Tab.get [] s.clerk.mail k.toNat = [] → packetWhole ws = false →
      exec (.spiWriteCmd k ws) s = .next ((s.bump (protoCtr 1 0) 1).raise 0x0001 2 0x00FFF (2 ^ 24 + lostData k.toNat ws.head?))) ∧
    (4 ≤ k.toNat → exec (.spiWriteCmd k ws) s = .next ((s.bump (protoCtr 1 0) 1).raise 0x0001 2 0x00FFF (2 ^ 24 + 2 ^ 18)))) ∧
  (∀ (s : State) (k : Byte) (n : Nat), s.spiUp = true →
    (4 ≤ k.toNat ∨ Tab.get [] s.clerk.spiReply k.toNat = [] →
      exec (.spiReadReply k n) s = .next (s.emit (.data (List.replicate n 0)))) ∧
    (∀ r l, k.toNat < 4 → Tab.get [] s.clerk.spiReply k.toNat = r :: l →
      (n < r.length → exec (.spiReadReply k n) s = .next (s.emit (.data (r.take n)))) ∧
      (r.length ≤ n → exec (.spiReadReply k n) s =
        .next ((s.withClerk { s.clerk with spiReply := Tab.set [] s.clerk.spiReply k.toNat l }).emit
          (.data (r ++ List.replicate (n - r.length) 0)))))) ∧
  (∀ s : State, s.spiUp = true →
    (∀ n, s.clerk.ev.b = ⟨[], 0, s.clerk.ev.b.least⟩ → exec (.spiReadEvent n) s = .next (s.emit (.data (List.replicate n 0)))) ∧
    (∀ r l, s.clerk.ev.b = ⟨r :: l, 0, s.clerk.ev.b.least⟩ →
      (∃ t, exec (.spiReadEvent 4) s = .next (t.emit (.data (r.words false))) ∧ s.only [.clerk] t ∧ t.clerk.ev.b.buf = l) ∧
      (∀ n < 4, exec (.spiReadEvent n) s = .next (s.emit (.data ((r.words false).take n)))))) ∧
  (∀ (s : State) (o : BitVec 16), s.spiUp = true →
    (o.toNat ≠ 0x40 → exec (.spiReadWindow o 1) s = .next (s.emit (.data [s.bar0Word 1 o.toNat]))) ∧
    (∀ n ws u, readWords 1 n o.toNat s = (ws, u) → exec (.spiReadWindow o n) s = .next (u.emit (.data ws))) ∧
    (∀ v, exec (.spiWriteWindow o [v]) s = .next (s.writeBar0 o.toNat v)) ∧
    (∀ ws, exec (.spiWriteWindow o ws) s = .next (writeWords o.toNat ws s))) ∧
  (∀ (s : State) (k : Byte), s.spiUp = true → (k.toNat = 0 ∨ 5 < k.toNat) →
    exec (.spiBadInstruction k) s = .next ((s.bump (protoCtr 1 0) 1).raise 0x0001 2 0x00FFF (2 ^ 24 + 2 ^ 19)))

/-- A packet becomes visible when its last word commits, and not before; an aborted packet is never seen. At a boundary FIFO of a
populated cell: the reader sees the committed packets alone, whatever words are uncommitted; a commit of a packet that fits
adds it, last, to the packets the reader sees; an abort leaves the packets seen as they were, frees the packet's words and
advances the rewound counter by one; a packet already committed is not taken back by an abort. -/
def Obligations.FifoCommitAndAbort : Prop :=
  ∀ (s : State) (cell : BitVec 20) (d : Dir), s.live = true → targetCell s cell.toNat = true → ownsFifo (haRegion cell.toNat) = true →
    let f := s.fifo (fifoKey cell.toNat d)
    (∀ n, 1 ≤ n → f.packets.sum + n ≤ 4096 → ∃ t, exec (.packetCommit cell d n) s = .next t ∧ s.only [.hier] t ∧
      (t.fifo (fifoKey cell.toNat d)).packets = f.packets ++ [n] ∧ (t.fifo (fifoKey cell.toNat d)).uncommitted = 0 ∧
      (t.fifo (fifoKey cell.toNat d)).committed = (f.committed + 1) % 2 ^ 48 ∧
      ∀ k, k ≠ fifoKey cell.toNat d → t.fifo k = s.fifo k) ∧
    (∃ t, exec (.packetAbort cell d) s = .next t ∧ s.only [.hier] t ∧
      (t.fifo (fifoKey cell.toNat d)).packets = f.packets ∧ (t.fifo (fifoKey cell.toNat d)).uncommitted = 0 ∧
      (t.fifo (fifoKey cell.toNat d)).rewound = (f.rewound + 1) % 2 ^ 48 ∧
      (t.fifo (fifoKey cell.toNat d)).committed = f.committed ∧
      ∀ k, k ≠ fifoKey cell.toNat d → t.fifo k = s.fifo k)

/-- The reader, the held writer and the idle timer of a boundary FIFO. A completed read removes the oldest packet and restarts the
idle timer; a packet that does not fit holds its writer, and the release ends the hold; the idle timer's first expiry asks for
a drain and is counted, the second without a completed read is counted and raises FIFO_IDLE with the cell, the direction and
the words held. -/
def Obligations.FifoReaderAndTimer : Prop :=
  ∀ (s : State) (cell : BitVec 20) (d : Dir), s.live = true → targetCell s cell.toNat = true → ownsFifo (haRegion cell.toNat) = true →
    let f := s.fifo (fifoKey cell.toNat d)
    (∀ n r, f.packets = n :: r →
      exec (.fifoRead cell d) s =
        .next (s.setFifo (fifoKey cell.toNat d) { f with packets := r, expiries := 0, reading := false }) ∧
      (f.expiries = 0 → exec (.fifoIdleExpiry cell d) s =
        .next (s.setFifo (fifoKey cell.toNat d) { f with expiries := 1, drains := (f.drains + 1) % 2 ^ 48 })) ∧
      (f.expiries = 1 → exec (.fifoIdleExpiry cell d) s =
        .next ((s.setFifo (fifoKey cell.toNat d) { f with expiries := 2, idles := (f.idles + 1) % 2 ^ 48 }).raise
          0x0F09 1 cell.toNat (dirCode d * 2 ^ 30 + sat 0xFFFF f.packets.sum)))) ∧
    (∀ n, 1 ≤ n → n ≤ 4096 → 4096 < f.packets.sum + n → ∃ g : Fifo, g.held = true ∧ g.packets = f.packets ∧ g.committed = f.committed ∧
      exec (.packetCommit cell d n) s = .next (s.setFifo (fifoKey cell.toNat d) g)) ∧
    (f.held = true → f.packets.sum + f.uncommitted < 4096 →
      exec (.writerRelease cell d) s = .next (s.setFifo (fifoKey cell.toNat d) { f with held := false }))

/-- Faults of a cell: the second within 1,024 units of work marks it suspect; its spare cell, then its spare block, takes over. A
detected fault, and a mismatched decision, of a cell with no other fault in the 1,024 units of work before marks only its
unit; a second one makes the cell suspect. A residue or parity failure, beside the recompute of the work struck, is such a
fault; a stall is a fault of its own. A suspect cell is listed and its block's spare cell takes over; in a block whose spare
cell is used the block is suspect and, where the region's spare block covers its position, serves it no more: the spare block
does. -/
def Obligations.LadderOfReplacement : Prop :=
  (∀ (s : State) (ha : BitVec 20) (unit : Nat), s.live = true → targetCell s ha.toNat = true →
    let last := Tab.get 0 s.hier.faultUnit ha.toNat
    ((last = 0 ∨ unit = last - 1 ∨ last - 1 + 1024 ≤ unit) →
      exec (.faultDetected ha unit) s =
        .next (s.withHier { s.hier with faultUnit := Tab.set 0 s.hier.faultUnit ha.toNat (unit + 1) }).afterFault ∧
      exec (.decisionMismatch ha unit) s =
        .next (s.withHier { s.hier with faultUnit := Tab.set 0 s.hier.faultUnit ha.toNat (unit + 1) }).afterFault) ∧
    (0 < last → unit ≠ last - 1 → unit < last - 1 + 1024 →
      exec (.faultDetected ha unit) s = .next ((s.withHier { s.hier with
        faultUnit := Tab.set 0 s.hier.faultUnit ha.toNat 0 }).cellSuspect (haRegion ha.toNat) (haBlock ha.toNat) (haCell ha.toNat) 1).afterFault ∧
      exec (.decisionMismatch ha unit) s = .next ((s.withHier { s.hier with
        faultUnit := Tab.set 0 s.hier.faultUnit ha.toNat 0 }).cellSuspect (haRegion ha.toNat) (haBlock ha.toNat) (haCell ha.toNat) 4).afterFault)) ∧
  (∀ (s : State) (ha rq : BitVec 20) (span : Nat) (bad : List Nat) (v : Bool), s.live = true → targetCell s ha.toNat = true →
    exec (.residueFailure ha span bad v) s =
      .next ((s.datapathFailure (some 2) ha.toNat span bad v).cellFault ha.toNat span 1).afterFault ∧
    exec (.parityFailure ha span bad v) s =
      .next ((s.datapathFailure (some 3) ha.toNat span bad v).cellFault ha.toNat span 1).afterFault ∧
    (targetCell s rq.toNat = true → exec (.handshakeStall rq ha span bad v) s =
      .next ((s.datapathFailure none ha.toNat span bad v).stall rq.toNat ha.toNat).afterFault)) ∧
  (∀ (s : State) (r b c cause : Nat), c ∉ (s.block r b).suspect → c ∉ (s.block r b).retired →
    ((s.block r b).spareCell ≠ 0x3F →
      (s.cellSuspect r b c cause).afterFault.block r b =
        { s.block r b with suspect := c :: (s.block r b).suspect, spareCell := 0x3F }) ∧
    (∀ sp, (s.block r b).spareCell = 0x3F → (s.block r b).state = 0 → s.spareBlock r = some sp → spareCovers r (s.block r b).serves = true →
      (s.cellSuspect r b c cause).afterFault.block r b =
        { s.block r b with suspect := c :: (s.block r b).suspect, state := 2, serves := 0x3F } ∧
      (s.cellSuspect r b c cause).afterFault.block r sp = { s.block r sp with state := 0, serves := (s.block r b).serves }))

/-- The pairs of the chip level: a mismatch hands over to the standby pair; the stopped pair is tested; a lone pair restarts. A
mismatch of the active chip arbiter or supervisor pair, and of the active control pair, makes the standby pair active and puts
the other in test; a mismatch of a standby control pair only puts it in test; a test passed makes the pair the standby, a test
failed retires it; a control pair without a ready standby restarts and stays active, with DIAG_PAIR_SWAP cause 4. HEALTH is
evaluated again. -/
def Obligations.PairsOfTheChipLevel : Prop :=
  (∀ (s : State) (sup : Bool), s.live = true →
    ((s.chipPair sup).standby = 0 → ∃ t, exec (.chipPairMismatch sup) s = .next t ∧
      t.chipPair sup = { active := 1 - (s.chipPair sup).active, standby := 1 } ∧ t.chipPair (!sup) = s.chipPair (!sup) ∧
      t.hier.health = t.healthNow) ∧
    (∀ ok, (s.chipPair sup).standby = 1 → ∃ t, exec (.chipPairTestDone sup ok) s = .next t ∧
      t.chipPair sup = { s.chipPair sup with standby := if ok then 0 else 2 } ∧ t.chipPair (!sup) = s.chipPair (!sup) ∧
      t.hier.health = t.healthNow)) ∧
  (∀ s : State, s.live = true →
    (s.hier.ctlStandby = 0 →
      (∃ t, exec (.controlPairSwap false) s = .next t ∧ t.hier.ctlActive = 1 - s.hier.ctlActive ∧ t.hier.ctlStandby = 1 ∧
        t.pairReady = false ∧ t.hier.health = t.healthNow) ∧
      (∃ t, exec (.controlPairSwap true) s = .next t ∧ t.hier.ctlActive = s.hier.ctlActive ∧ t.hier.ctlStandby = 1 ∧
        t.hier.health = t.healthNow)) ∧
    (∀ ok, s.hier.ctlStandby = 1 → s.serv.handover = none → ∃ t, exec (.pairTestDone ok) s = .next t ∧
      t.hier.ctlStandby = (if ok then 0 else 2) ∧ t.hier.ctlActive = s.hier.ctlActive ∧ t.hier.health = t.healthNow) ∧
    (s.hier.ctlStandby ≠ 0 → exec .lonePairRestart s =
      .next (s.raise 0x0F07 3 (haOf 0 s.hier.ctlActive 0x3F) (2 ^ 28 + 4 * 2 ^ 24 + s.hier.ctlActive))))

/-- Cold reset and boot: what a reset leaves and what outlives it, the phases of boot, recovery, the endpoint and the TAP. Power-
on, RST_N, PERST# and a brown-out put the device in cold reset from any state: every register, buffer and counter at its reset
value, device time zero, the fuses, the image slots and the boot record kept, with the cause of a reset not already held. Boot
begins when a crystal is active and no TAP instruction holds the pins; it tries the slot the boot record names, then the
other, then goes to recovery; an image that passes goes to self-test, which ends ready with the boot record naming the slot,
or stopped where both control pairs fail. The endpoint becomes ready and is configured. A TAP instruction of codes 3 to 7
takes the pins and holds the device in reset until the TAP is reset. -/
def Obligations.ResetAndBoot : Prop :=
  (∀ (s : State) (i : Instr) (cause : Nat), (i, cause) ∈ [(Instr.powerOn, 1), (Instr.rstNAssert, 2), (Instr.perstAssert, 3), (Instr.brownOut, 4)] →
    ∃ t, exec i s = .next t ∧ t.boot.phase = .reset ∧ t.boot.bootState = 1 ∧ t.time = 0 ∧
      (i = .powerOn ∨ s.boot.phase ≠ .reset → t.boot.cause = cause) ∧ (i ≠ .powerOn → s.boot.phase = .reset → t.boot.cause = s.boot.cause) ∧
      t.boot.record = s.boot.record ∧ t.hall.fuses = s.hall.fuses ∧ t.serv.slotA = s.serv.slotA ∧ t.serv.slotB = s.serv.slotB ∧
      t.out = s.out ∧ t.bar0 = State.reset.bar0 ∧ t.clerk = State.reset.clerk ∧ t.tally = State.reset.tally ∧
      t.rx = State.reset.rx ∧ t.rw = State.reset.rw ∧ t.fec = State.reset.fec ∧ t.tx = State.reset.tx ∧ t.loom = State.reset.loom ∧
      t.ra = State.reset.ra ∧ t.crier = State.reset.crier ∧ t.store = State.reset.store ∧ t.flow = State.reset.flow ∧
      t.lanes = State.reset.lanes ∧ t.assay = State.reset.assay) ∧
  (∀ (s : State) (x0 x1 : Bool), s.boot.phase = .reset → s.boot.pinsTaken = false → (x0 = true ∨ x1 = true) →
    ∃ t, exec (.bootBegin x0 x1) s = .next t ∧ t.boot.phase = .romStart ∧ t.timing.xtal = (!x0) ∧ s.only [.boot, .timing] t) ∧
  (∀ s : State, s.boot.phase = .romStart → s.timing.clockLost = false →
    ∃ t, exec .romStartDone s = .next t ∧ t.boot.phase = .image ∧ t.boot.trying = s.boot.record ∧ s.only [.boot, .hall] t) ∧
  (∀ (s : State) (readError : Bool) (o : List Word), s.boot.phase = .image → s.timing.clockLost = false →
    let img := (s.slotWords s.boot.trying).getD o
    (readError = false → imageCause s.hall.fuses img = 0 → ∃ t, exec (.imageReadDone readError o) s = .next t ∧
      t.boot.phase = .selfTest ∧ t.boot.bootState = 2 ∧ t.boot.slot = s.boot.trying ∧ t.boot.fwVersion = (imageInfo img).version ∧
      t.serv.running = imageInfo img) ∧
    (readError = true ∨ imageCause s.hall.fuses img ≠ 0 →
      (s.boot.fallback = false → ∃ t, exec (.imageReadDone readError o) s = .next t ∧ t.boot.phase = .image ∧
        t.boot.fallback = true ∧ t.boot.trying = 1 - s.boot.trying) ∧
      (s.boot.fallback = true → ∃ t, exec (.imageReadDone readError o) s = .next t ∧ t.boot.phase = .recovery ∧ t.boot.bootState = 1))) ∧
  (∀ (s : State) (bad : List (Nat × Nat × Nat)) (lost : List (Fin 4)) (p0 p1 : Bool), s.boot.phase = .selfTest → s.timing.clockLost = false →
    ((p0 = true ∨ p1 = true) → ∃ t, exec (.selfTestDone bad lost p0 p1) s = .next t ∧ t.boot.phase = .ready ∧ t.boot.bootState = 3 ∧
      t.boot.record = t.boot.slot ∧ .bootRecord t.boot.slot ∈ t.out ∧ t.hier.health = t.healthNow) ∧
    (p0 = false → p1 = false → ∃ t, exec (.selfTestDone bad lost p0 p1) s = .next t ∧ t.boot.phase = .stopped ∧ t.boot.bootState = 2)) ∧
  (∀ s : State, s.boot.phase ≠ .reset → s.timing.clockLost = false →
    exec .endpointReady s = .next (s.withBoot { s.boot with endpointUp := true })) ∧
  (∀ s : State, s.boot.endpointUp = true → exec .endpointConfiguration s = .next (s.withBoot { s.boot with endpointConfigured := true })) ∧
  (∀ (s : State) (k : Byte),
    (3 ≤ k.toNat ∧ k.toNat ≤ 7 → ∃ t, exec (.tapInstructionUpdate k) s = .next t ∧ t.boot.phase = .reset ∧ t.boot.tap = k.toNat ∧
      t.boot.pinsTaken = true) ∧
    (¬(3 ≤ k.toNat ∧ k.toNat ≤ 7) → exec (.tapInstructionUpdate k) s = .next (s.withBoot { s.boot with tap := k.toNat })) ∧
    exec .tapReset s = .next (s.withBoot { s.boot with tap := 1, pinsTaken := false }))

/-- A cancel stops a running job as its chapter says and reports the state it found; on an ended or unknown job it changes
nothing. CLERK_JOB_CANCEL on a job not running returns STATE 1 where its result is held, else 2, and changes nothing. On a
running job it returns STATE 0: a dispersion scan and an image verification end ABORTED at once, a fuse advance is marked to
stop before its next fuse. Ending a job takes it from those running, puts its result first among the newest 256, and raises
JOB_DONE: information where it ended OK, else error. -/
def Obligations.JobsAreCancelled : Prop :=
  (∀ (c : Cmd) (s : State), clerkJobCancelOp.passes c s →
    (s.clerk.jobs.find? (fun j => j.num == (c.p 0).fld 15 0) = none →
      exec (.clerkJobCancel c) s = .next (s.answered c 0x0003 0
        [mkw [(1, 0, if s.clerk.ended.any (fun j => j.num == (c.p 0).fld 15 0) then 1 else 2)]])) ∧
    (∀ j, s.clerk.jobs.find? (fun j => j.num == (c.p 0).fld 15 0) = some j →
      ∃ u, exec (.clerkJobCancel c) s = .next (u.answered c 0x0003 0 [0]) ∧
        (j.code = 0x0D06 → u = s.setJob { j with cancel := true }) ∧
        (j.code = 0x0904 ∨ j.code = 0x0E02 → u.clerk.ended = (⟨j.num, j.code, 0x21, []⟩ :: s.clerk.ended).take 256 ∧
          u.clerk.jobs = s.clerk.jobs.filter fun k => k.num != j.num) ∧
        (j.code = 0x0904 → ∀ p : Port, (u.rxp p).estimator ≠ .scan j.num))) ∧
  (∀ (s : State) (num st : Nat) (ws : List Word) (j : Job), s.clerk.jobs.find? (fun j => j.num == num) = some j →
    ∃ u, s.endJob num st ws = u.raise 0x0003 (if st = 0 then 0 else 3) j.target (st * 2 ^ 24 + num) ∧ s.only [.clerk] u ∧
      u.clerk.jobs = s.clerk.jobs.filter (fun k => k.num != num) ∧
      u.clerk.ended = (⟨num, j.code, st, ws⟩ :: s.clerk.ended).take 256)

/-- Each counter opcode returns its counters of the counter window, low half first, and changes nothing. The sixteen counter
opcodes of the chapters: executed, each is answered OK with the counters of its instance in the slots that Table 19-1 gives
them (for FLOW_COUNTERS, which the window does not hold, the four of one flow), each counter as its low and then its high
word, and nothing changes. -/
def Obligations.CounterReadsAnswer : Prop :=
  ReadsCounters .timingCounters timingCountersOp (fun _ => ctr 1 0 12 0 0) 12 ∧
  ReadsCounters .assayCounters assayCountersOp (fun _ => ctr 2 0 12 0 0) 12 ∧
  ReadsCounters .crierCounters crierCountersOp (fun c => ctr 3 0 12 ((c.p 0).fld 1 0) 0) 12 ∧
  ReadsCounters .storeCounters storeCountersOp (fun _ => ctr 4 0 12 0 0) 12 ∧
  ReadsCounters .loomCounters loomCountersOp (fun c => ctr 5 0 12 (b2n ((c.p 0).bit 0)) 0) 12 ∧
  ReadsCounters .flowRegionCounters flowRegionCountersOp (fun _ => ctr 6 0 12 0 0) 12 ∧
  ReadsCounters .flowCounters flowCountersOp (fun c => oneFlowCtr (if (c.p 0).bit 31 then 1 else 0) ((c.p 0).fld 19 0) 0) 4 ∧
  ReadsCounters .ciphCounters ciphCountersOp (fun _ => ctr 7 0 12 0 0) 12 ∧
  ReadsCounters .fecPortCounters fecPortCountersOp (fun c => ctr 8 0 10 c.port.val 0) 10 ∧
  ReadsCounters .fecRegionCounters fecRegionCountersOp (fun c => ctr 8 0xA0 6 (haRegion c.target.toNat - 0x0C) 0) 6 ∧
  ReadsCounters .lineRxCounters lineRxCountersOp (fun c => ctr 9 0 12 c.port.val 0) 12 ∧
  ReadsCounters .lineTxCounters lineTxCountersOp (fun c => ctr 9 0xC0 10 c.port.val 0) 10 ∧
  ReadsCounters .lineRaCounters lineRaCountersOp (fun c => ctr 9 0x160 12 c.port.val 0) 12 ∧
  ReadsCounters .lineRwCounters lineRwCountersOp (fun c => ctr 9 0x220 12 c.port.val 0) 12 ∧
  ReadsCounters .clientCounters clientCountersOp (fun c => ctr 0xA 0 12 (8 * (clientGroup c).val + (c.p 0).fld 2 0) 0) 12 ∧
  ReadsCounters .hostCounters hostCountersOp (fun c => ctr 0xB 0 12 (hostLane c ((c.p 0).fld 3 0)) 0) 12

/-- Each status opcode is answered OK with the number of result words of Table 22-1 and leaves the device as it is. The status and
table reads of the chapters: executed, each is answered OK with as many result words as the index of opcodes gives it, and
changes nothing but, where a result is a value the spec leaves open, the count of free values used (and, for LOOM_BOLT_STATUS
and STORE_PART_STATUS, the peak the reply clears). -/
def Obligations.StatusReadsAnswer : Prop :=
  ReadsWords .timingStatus timingStatusOp [.free] (fun _ _ => 10) ∧
  ReadsWords .timingRefStatus timingRefStatusOp [.free] (fun _ _ => 17) ∧
  ReadsWords .timingDpllStatus timingDpllStatusOp [.free] (fun _ _ => 6) ∧
  ReadsWords .assayTelemRead assayTelemReadOp [] (fun c _ => (c.p 0).fld 24 18) ∧
  ReadsWords .assayBiasStatus assayBiasStatusOp [.free] (fun _ _ => 3) ∧
  ReadsWords .assayPaceStatus assayPaceStatusOp [.free] (fun _ _ => 4) ∧
  ReadsWords .crierStatus crierStatusOp [] (fun _ _ => 6) ∧
  ReadsWords .storePartStatus storePartStatusOp [.store] (fun _ _ => 5) ∧
  ReadsWords .storeStatus storeStatusOp [.free] (fun _ _ => 5) ∧
  ReadsWords .loomPortStatus loomPortStatusOp [] (fun _ _ => 5) ∧
  ReadsWords .loomBoltStatus loomBoltStatusOp [.loom] (fun _ _ => 4) ∧
  ReadsWords .loomThreadStatus loomThreadStatusOp [.free] (fun c _ => (c.p 0).fld 28 18) ∧
  ReadsWords .loomPmRead loomPmReadOp [] (fun c _ => 2 + (c.p 0).fld 28 18 * pmWords ((c.p 0).fld 31 30)) ∧
  ReadsWords .loomMapRead loomMapReadOp [] (fun _ _ => 640) ∧
  ReadsWords .flowStatus flowStatusOp [] (fun c _ => 2 * (c.p 0).fld 29 20) ∧
  ReadsWords .ciphCtxStatus ciphCtxStatusOp [] (fun _ _ => 4) ∧
  ReadsWords .ciphPoolStatus ciphPoolStatusOp [] (fun _ _ => 9) ∧
  ReadsWords .fecPortStatus fecPortStatusOp [] (fun _ _ => 8) ∧
  ReadsWords .fecPoolStatus fecPoolStatusOp [] (fun _ _ => 9) ∧
  ReadsWords .fecCodeRead fecCodeReadOp [] (fun c _ => 1 + fecEntries ((c.p 0).fld 9 8) ((c.p 0).fld 7 0)) ∧
  ReadsWords .lineRxStatus lineRxStatusOp [] (fun _ _ => 9) ∧
  ReadsWords .lineTxStatus lineTxStatusOp [.free] (fun _ _ => 8) ∧
  ReadsWords .lineRaPlanRead lineRaPlanReadOp [] (fun _ _ => 4) ∧
  ReadsWords .lineRaStatus lineRaStatusOp [.free] (fun _ _ => 8) ∧
  ReadsWords .lineRwStatus lineRwStatusOp [] (fun _ _ => 7) ∧
  ReadsWords .clientLaneStatus clientLaneStatusOp [.free] (fun _ _ => 6) ∧
  ReadsWords .hostLaneStatus hostLaneStatusOp [.free] (fun _ _ => 5) ∧
  ReadsWords .serviceStatus serviceStatusOp [] (fun _ _ => 4) ∧
  ReadsWords .serviceAgeingRead serviceAgeingReadOp [] (fun _ _ => 4) ∧
  ReadsWords .diagFaultStatus diagFaultStatusOp [] (fun _ _ => 6) ∧
  ReadsWords .diagFaultLogRead diagFaultLogReadOp [] (fun c _ => 1 + 4 * (c.p 0).fld 31 26) ∧
  ReadsWords .diagSramCounters diagSramCountersOp []
    (fun c s => 1 + 3 * (s.block (haRegion c.target.toNat) (haBlock c.target.toNat)).cells)

/-- The line receiver's set commands: configuration, enable and disable, dispersion value and scan, equaliser, loops, front end.
LINE_RX_CONFIG sets the symbol rate, format, entropy, swap and invert of its port; LINE_RX_ENABLE takes a port from OFF to
SIGNAL_WAIT with loss of signal standing, or to OFF from any state, and elsewhere does nothing; LINE_RX_CD_SET sets its fields
and the value, at once outside TRACKING, by a cross-fade from the next span in TRACKING, and waits while a cross-fade runs
there; LINE_RX_CD_SCAN is accepted with a job and takes the estimator; the others set the fields of their tables. The other
port's receiver is untouched. -/
def Obligations.RxCommandsAct : Prop :=
  (∀ (c : Cmd) (s : State), lineRxConfigOp.passes c s → ∃ u : State, exec (.lineRxConfig c) s = .next (u.answered c 0x0901 0 []) ∧
    u.rxp c.port = { s.rxp c.port with
      symRate := (c.p 0).fld 27 16, mod := (c.p 0).fld 15 12, entropy := (c.p 0).fld 7 0, swap := (c.p 1).bit 4, invert := (c.p 1).fld 3 0 } ∧ ∀ q, q ≠ c.port → u.rxp q = s.rxp q) ∧
  (∀ (c : Cmd) (s : State), lineRxEnableOp.passes c s →
    ((c.p 0).bit 0 = true → (s.rxp c.port).st = .off → ∃ u : State, exec (.lineRxEnable c) s = .next (u.answered c 0x0902 0 []) ∧
      u.rxp c.port = { s.rxp c.port with st := .signalWait, los := true } ∧ ∀ q, q ≠ c.port → u.rxp q = s.rxp q) ∧
    ((c.p 0).bit 0 = false → (s.rxp c.port).st ≠ .off → ∃ u : State, exec (.lineRxEnable c) s = .next (u.answered c 0x0902 0 []) ∧
      (u.rxp c.port).st = .off ∧ (u.rxp c.port).los = false ∧ (u.rxp c.port).lol = false ∧ (u.rxp c.port).estimator = .free ∧
      (u.rxp c.port).symRate = (s.rxp c.port).symRate ∧ u.hier.health = u.healthNow) ∧
    (((c.p 0).bit 0 = true ↔ (s.rxp c.port).st ≠ .off) → exec (.lineRxEnable c) s = .next (s.answered c 0x0902 0 []))) ∧
  (∀ (c : Cmd) (s : State), lineRxCdSetOp.passes c s →
    ((s.rxp c.port).st = .off ∨ (s.rxp c.port).st = .signalWait → ∃ u : State, exec (.lineRxCdSet c) s = .next (u.answered c 0x0903 0 []) ∧
      s.only [.rx] u ∧ u.rxp c.port = { s.rxp c.port with
        cdMode := (c.p 0).fld 21 20, centre := (c.p 1).fld 20 0, altValid := (c.p 2).bit 31, altCd := (c.p 2).sfld 19 0, residual := none, cd := (c.p 0).sfld 19 0, fade := none }) ∧
    ((s.rxp c.port).st = .tracking → (s.rxp c.port).fade = none → s.cdWaits c.port = false → (c.p 0).sfld 19 0 ≠ (s.rxp c.port).cd →
      ∃ u : State, exec (.lineRxCdSet c) s = .next (u.answered c 0x0903 0 []) ∧ s.only [.rx] u ∧
        (u.rxp c.port).cd = (c.p 0).sfld 19 0 ∧
        (u.rxp c.port).fade = some ⟨(s.rxp c.port).next, (s.rxp c.port).cd, (c.p 0).sfld 19 0, false⟩) ∧
    ((s.rxp c.port).st = .acquire → ∃ u : State, exec (.lineRxCdSet c) s = .next (u.answered c 0x0903 0 []) ∧
      (u.rxp c.port).cd = (c.p 0).sfld 19 0 ∧ (u.rxp c.port).st = .acquire ∧ (u.rxp c.port).acqStep = 2) ∧
    ((s.rxp c.port).st = .tracking → ((s.rxp c.port).fade.isSome ∨ s.cdWaits c.port = true) →
      exec (.lineRxCdSet c) s = .next (s.waiting c 0x0903 (.rxCd c.port)))) ∧
  (∀ (c : Cmd) (s : State), lineRxCdScanOp.passes c s → ∃ u : State,
    exec (.lineRxCdScan c) s = .next (u.answered c 0x0904 1 [w32 s.clerk.nextJob]) ∧ s.only [.clerk, .rx] u ∧
    u.clerk.jobs = s.clerk.jobs ++ [⟨s.clerk.nextJob, 0x0904, c.target.toNat, c.params, 0, false⟩] ∧
    u.clerk.nextJob = (s.clerk.nextJob + 1) % 65536 ∧
    u.rxp c.port = { s.rxp c.port with estimator := .scan s.clerk.nextJob } ∧ ∀ q, q ≠ c.port → u.rxp q = s.rxp q) ∧
  (∀ (c : Cmd) (s : State), lineRxEqSetOp.passes c s → exec (.lineRxEqSet c) s = .next ((s.updRx c.port fun r =>
    { r with taps := (c.p 0).fld 9 8, mu := (c.p 0).fld 7 4, adapt := (c.p 0).bit 0 }).answered c 0x0905 0 [])) ∧
  (∀ (c : Cmd) (s : State), lineRxLoopSetOp.passes c s → exec (.lineRxLoopSet c) s = .next ((s.updRx c.port fun r =>
    { r with timingBw := (c.p 0).fld 31 16, phaseAvg := (c.p 0).fld 11 8 }).answered c 0x0906 0 [])) ∧
  (∀ (c : Cmd) (s : State), lineRxFrontSetOp.passes c s → exec (.lineRxFrontSet c) s = .next ((s.updRx c.port fun r => { r with
    skewXI := (c.p 0).sfld 31 16, skewXQ := (c.p 0).sfld 15 0, skewYI := (c.p 1).sfld 31 16, skewYQ := (c.p 1).sfld 15 0,
    losClear := (c.p 2).fld 15 8, losSet := (c.p 2).fld 7 0 }).answered c 0x0907 0 []))

/-- What the line receiver does on loss and return of signal, lane faults, acquisition, cross-fades, residuals, loss of lock and
tolerances. Loss of signal takes a port outside OFF to SIGNAL_WAIT and its clearing to ACQUIRE step 1; a lane fault is listed,
and in TRACKING loses lock; acquisition goes on step by step, from step 6 to TRACKING, and restarts at step 1 with a full scan
on a missed bound or a weak scan; a host scan's end ends its job with the best and second-best trials; a cross-fade of 64
spans ends with its event; the second of two large residuals of one sign starts a cross-fade in TRACK mode; a loss of lock
takes the port back to ACQUIRE step 1; a tolerance is entered and left; a waiting dispersion command commits when the cross-
fade has ended. -/
def Obligations.RxStatesFollowTheSignal : Prop :=
  (∀ (s : State) (p : Port), s.live = true →
    ((s.rxp p).st ≠ .off → (s.rxp p).los = false → ∃ t, exec (.losDeclare p) s = .next t ∧
      (t.rxp p).st = .signalWait ∧ (t.rxp p).los = true ∧ (t.rxp p).laneFault = [] ∧ t.hier.health = t.healthNow) ∧
    ((s.rxp p).st = .signalWait → (s.rxp p).los = true → ∃ t, exec (.losClear p) s = .next t ∧
      (t.rxp p).st = .acquire ∧ (t.rxp p).los = false ∧ (t.rxp p).acqStep = 1 ∧ (t.rxp p).estimator = .acquisition) ∧
    (∀ k : Fin 4, (s.rxp p).st ≠ .off → (s.rxp p).los = false → k.val ∉ (s.rxp p).laneFault →
      ((s.rxp p).st ≠ .tracking → ∃ t, exec (.laneFaultDeclare p k) s = .next t ∧
        t.rxp p = { s.rxp p with laneFault := (s.rxp p).laneFault ++ [k.val] } ∧ t.hier.health = t.healthNow) ∧
      ((s.rxp p).st = .tracking → ∃ t, exec (.laneFaultDeclare p k) s = .next t ∧
        (t.rxp p).st = .acquire ∧ (t.rxp p).lol = true ∧ t.hier.health = t.healthNow)) ∧
    (∀ k : Fin 4, k.val ∈ (s.rxp p).laneFault → ∃ t, exec (.laneFaultEnd p k) s = .next t ∧
      t.rxp p = { s.rxp p with laneFault := (s.rxp p).laneFault.filter (· != k.val) } ∧ t.hier.health = t.healthNow)) ∧
  (∀ (s : State) (p : Port) (best second : Int) (quality j : Nat), s.live = true →
    ((s.rxp p).estimator = .scan j → exec (.cdScanDone p best quality second) s =
      .next ((s.updRx p fun r => { r with estimator := .free }).endJob j 0
        [mkw [(19, 0, Int.bits 20 best)], mkw [(31, 31, b2n (decide (quality < 300))), (15, 0, sat 0xFFFF quality)],
         mkw [(19, 0, Int.bits 20 second)]])) ∧
    ((s.rxp p).estimator = .acquisition → (s.rxp p).st = .acquire → (s.rxp p).acqStep = 1 →
      (300 ≤ quality → -200000 ≤ best → best ≤ 200000 → ∃ t, exec (.cdScanDone p best quality second) s = .next t ∧
        s.only [.rx] t ∧ (t.rxp p).cd = best ∧ (t.rxp p).acqStep = 2 ∧ (t.rxp p).estimator = .free) ∧
      (quality < 300 → ∃ t, exec (.cdScanDone p best quality second) s = .next t ∧ (t.rxp p).cd = (s.rxp p).cd ∧
        (t.rxp p).acqStep = 1 ∧ (t.rxp p).fullScan = true))) ∧
  (∀ (s : State) (p : Port) (cd : Int), s.live = true → (s.rxp p).st = .acquire →
    ((s.rxp p).acqStep = 1 → (s.rxp p).fullScan = false → -200000 ≤ cd → cd ≤ 200000 → ∃ t, exec (.acqStepDone p cd) s = .next t ∧
      s.only [.rx] t ∧ (t.rxp p).cd = cd ∧ (t.rxp p).acqStep = 2) ∧
    ((s.rxp p).acqStep ≠ 1 → (s.rxp p).acqStep < 6 →
      exec (.acqStepDone p cd) s = .next (s.updRx p fun r => { r with acqStep := r.acqStep + 1 })) ∧
    (6 ≤ (s.rxp p).acqStep → (s.rxp p).laneFault = [] → ∃ t, exec (.acqStepDone p cd) s = .next t ∧
      (t.rxp p).st = .tracking ∧ (t.rxp p).lol = false ∧ (t.rwp p).track = (s.rxp p).next ∧ (t.rwp p).fin = (s.rxp p).next) ∧
    (∃ t, exec (.acqBoundExpiry p) s = .next t ∧ (t.rxp p).st = .acquire ∧ (t.rxp p).acqStep = 1 ∧ (t.rxp p).fullScan = true ∧
      (t.rxp p).estimator = .acquisition)) ∧
  (∀ (s : State) (p : Port) (f : RxFade), s.live = true → (s.rxp p).fade = some f → f.start + 64 ≤ (s.rxp p).next →
    exec (.rxXfadeEnd p) s = .next (((s.updRx p fun r => { r with fade := none }).bump (rxCtr p 10) 1).raise
      0x0904 0 (portHa p) (Int.bits 20 f.new + b2n f.byTrack * 2 ^ 20))) ∧
  (∀ (s : State) (p : Port) (x : Int), s.live = true → (s.rxp p).st = .tracking → (s.rxp p).cdMode = 1 → (s.rxp p).fade = none →
    s.cdWaits p = false →
    ((s.rxp p).residual = none → 100 ≤ x.natAbs →
      exec (.trackResidual p x) s = .next (s.updRx p fun r => { r with residual := some x })) ∧
    (∀ a, (s.rxp p).residual = some a → 100 ≤ x.natAbs → 0 < a * x → trackCd (s.rxp p).cd a x ≠ (s.rxp p).cd →
      exec (.trackResidual p x) s = .next (s.updRx p fun r => { r with
        cd := trackCd r.cd a x, residual := none, fade := some ⟨r.next, r.cd, trackCd r.cd a x, true⟩ })) ∧
    (x.natAbs < 100 → exec (.trackResidual p x) s = .next (s.updRx p fun r => { r with residual := none }))) ∧
  (∀ (s : State) (p : Port) (k : Fin 4), s.live = true → (s.rxp p).st = .tracking → (k.val = 1 ∨ k.val = 3) →
    ∃ t, exec (.lolDeclare p k) s = .next t ∧ (t.rxp p).st = .acquire ∧ (t.rxp p).lol = true ∧ (t.rxp p).acqStep = 1) ∧
  (∀ (s : State) (p : Port) (e : Fin 5), s.live = true → (s.rxp p).st ≠ .off → e.val ≠ 0 →
    (e.val ∉ (s.rxp p).tolerance → exec (.toleranceHold p e true) s =
      .next ((s.updRx p fun r => { r with tolerance := r.tolerance ++ [e.val] }).raise 0x0906 2 (portHa p) e.val)) ∧
    (e.val ∈ (s.rxp p).tolerance → exec (.toleranceHold p e false) s =
      .next (s.updRx p fun r => { r with tolerance := r.tolerance.filter (· != e.val) }))) ∧
  (∀ (s : State) (p : Port) (h : Held), s.live = true → (s.rxp p).fade = none →
    s.clerk.held.find? (fun h => h.await == some (.rxCd p)) = some h →
    exec (.cdSetDeferredCommit p) s = .next ((s.commitCd h.cmd).answerAwait (.rxCd p) []))

/-- Run-ahead and rewind: configuration, spans, provisional and final decisions, rollbacks, replays and the release of final
spans. LINE_RW_CONFIG takes effect at once in OFF and else waits for the span boundary; LINE_RW_INJECT arms its injection; a
span formed in TRACKING gets a record and is handed to the pool when tracking reaches it; final decisions are checked against
the provisional ones that a span consumed, and a contradiction, or a confirmed cycle slip, starts a replay from the first span
affected to E, or merges into an older replay, or is waived or answered by erasure where it cannot be replayed; the end of a
replay leaves a backlog, its closing ends the catch-up, an overrun restarts tracking at N - 36; a final span is released and F
advances. -/
def Obligations.RewindActs : Prop :=
  (∀ (c : Cmd) (s : State), lineRwConfigOp.passes c s →
    ((s.rxp c.port).st = .off → exec (.lineRwConfig c) s = .next ((s.setRw c.port { s.rwp c.port with
      spec := (c.p 0).bit 28, contra := (c.p 0).fld 12 0 }).answered c 0x0930 0 [])) ∧
    ((s.rxp c.port).st ≠ .off → exec (.lineRwConfig c) s = .next (s.waiting c 0x0930 (.rwConfig c.port)))) ∧
  (∀ (c : Cmd) (s : State), lineRwInjectOp.passes c s → exec (.lineRwInject c) s = .next ((s.setRw c.port { s.rwp c.port with
    inject := some ((c.p 0).fld 31 30, (c.p 0).fld 21 16) }).answered c 0x0933 0 [])) ∧
  (∀ (s : State) (p : Port) (rms clipped : List Nat), s.live = true → (s.rxp p).st ≠ .off →
    ∃ t, exec (.rxSpanFormed p rms clipped) s = .next t ∧ (t.rxp p).next = (s.rxp p).next + 1 ∧
      (t.rxp p).rms = (rms ++ [0, 0, 0, 0]).take 4 ∧ (t.rxp p).st = (s.rxp p).st ∧
      (t.rwp p).spans = (s.rwp p).spans ++ (if (s.rxp p).st = .tracking then [{ idx := (s.rxp p).next }] else [])) ∧
  (∀ (s : State) (p : Port) (est : RxEst), s.live = true → (s.rxp p).st = .tracking → (s.rwp p).inject = none →
    (s.rwp p).replay = none → (s.rwp p).track < (s.rxp p).next →
    ∃ t, exec (.spanHandoff p est) s = .next t ∧ (t.rwp p).track = (s.rwp p).track + 1 ∧ (t.rwp p).fin = (s.rwp p).fin ∧
      (t.rxp p).est = est) ∧
  (∀ (s : State) (p : Port) (est : RxEst) (r : Replay), s.live = true → (s.rxp p).st = .tracking → (s.rwp p).inject = none →
    (s.rwp p).replay = some r → r.front ≤ r.stop →
    ∃ t, exec (.spanHandoff p est) s = .next t ∧ (t.rwp p).track = (s.rwp p).track ∧
      (t.rwp p).replay = some { r with front := r.front + 1 }) ∧
  (∀ (s : State) (p : Port) (k : Nat) (r : SpanRec), s.live = true → (s.rxp p).st = .tracking → (s.rwp p).find k = some r →
    r.handed = true → r.decided = none →
    exec (.provisionalArrive p k) s = .next (s.setRw p ((s.rwp p).updSpan k fun r => { r with provisional := true }))) ∧
  (∀ (s : State) (p : Port) (k differing pilots : Nat) (bad : List Nat) (lost : Bool) (r : SpanRec), s.live = true →
    (s.rxp p).st = .tracking → (s.rwp p).find k = some r → r.decided.isSome = true → r.checked = false →
    (s.rwp p).inject = none → (r.consumer = none ∨ r.erased = true ∨ differing ≤ (s.rwp p).contra) →
    exec (.finalDecisionsArrive p k differing pilots bad lost) s =
      .next ((s.setRw p ((s.rwp p).updSpan k fun r => { r with checked := true })).bump (rxCtr p 11) pilots)) ∧
  (∀ (s : State) (p : Port) (k e differing pilots : Nat) (bad : List Nat) (r : SpanRec), s.live = true →
    (s.rxp p).st = .tracking → (s.rwp p).find k = some r → r.decided.isSome = true → r.checked = false → r.erased = false →
    (s.rwp p).inject = none → (s.rwp p).replay = none → r.consumer = some e → (s.rwp p).contra < differing →
    e < (s.rwp p).track → e ∉ bad → (s.rxp p).next - 1 ≤ e + 475 →
    ∃ t, exec (.finalDecisionsArrive p k differing pilots bad false) s = .next t ∧
      (t.rwp p).replay = some ⟨e, (s.rwp p).track - 1, e⟩ ∧ (t.rwp p).catchUp = false ∧
      (t.rwp p).backlog = (s.rwp p).track - e ∧ (t.rwp p).track = (s.rwp p).track) ∧
  (∀ (s : State) (p : Port) (first : Nat) (bad : List Nat) (lost : Bool), s.live = true → (s.rxp p).st = .tracking →
    first < (s.rwp p).track →
    ((s.rwp p).replay = none → lost = false → first ∉ bad → (s.rxp p).next - 1 ≤ first + 475 →
      ∃ t, exec (.cycleSlip p first bad lost) s = .next t ∧ (t.rwp p).replay = some ⟨first, (s.rwp p).track - 1, first⟩ ∧
        (t.rwp p).backlog = (s.rwp p).track - first) ∧
    (∀ r, (s.rwp p).replay = some r → r.start ≤ first → exec (.cycleSlip p first bad lost) s =
      .next (((s.bump (rxCtr p 7) 1).bump (rwCtr p 1) 1).bump (rwCtr p 4) 1)) ∧
    ((s.rwp p).replay = none → lost = true → exec (.cycleSlip p first bad lost) s =
      .next (((s.bump (rxCtr p 7) 1).bump (rwCtr p 1) 1).eraseSpan p first 3))) ∧
  (∀ (s : State) (p : Port), s.live = true →
    (∀ r, (s.rwp p).replay = some r → r.stop < r.front →
      exec (.replayEnd p) s = .next (s.setRw p { s.rwp p with replay := none, catchUp := true })) ∧
    ((s.rwp p).catchUp = true → exec (.catchupEnd p) s = .next (s.setRw p { s.rwp p with catchUp := false, backlog := 0 })) ∧
    (∀ r, (s.rwp p).replay = some r → (s.rxp p).st = .tracking → r.front + 475 < (s.rxp p).next - 1 →
      ∃ t, exec (.replayOverrun p) s = .next t ∧ (t.rwp p).replay = none ∧ (t.rwp p).catchUp = false ∧
        (t.rwp p).track = (s.rxp p).next - 1 - 36) ∧
    ((s.rxp p).st = .tracking → (s.rwp p).rateHigh = true → 1048 < (s.rwp p).recompCount →
      exec (.rwRateRepeat p) s = .next (s.raise 0x0930 2 (portHa p) (sat 0xFFFF (s.rwp p).recompCount))) ∧
    (∀ r, (s.rwp p).find (s.rwp p).fin = some r → (s.rxp p).st = .tracking → r.decided.isSome = true → r.checked = true →
      (s.rwp p).replay = none → ∃ t, exec (.spanFinal p) s = .next t ∧ (t.rwp p).fin = (s.rwp p).fin + 1 ∧
        (t.rwp p).find (s.rwp p).fin = none ∧ ((s.lp p).st = .off → (t.lp p).st = .search)) ∧
    (s.hier.erasure = true → ∃ t, exec .erasureSecondExpiry s = .next t ∧ t.hier.erasure = false ∧ t.hier.health = t.healthNow))

/-- The decoder pool: configuration, injection, dealing of held spans, iterations and ends of decodes, pool faults.
FEC_PORT_CONFIG takes effect at once in OFF and else waits for the span boundary; FEC_INJECT arms its injection; a held span
becomes ready 100 ns after its last LLR; the chip arbiter deals the next ready span to the working region with the most free
slots and to a block of it; an iteration without a fault counts and may give provisional decisions; a decode that may end
frees its slot and leaves the span decided; an uncorrectable message word deals the span again ahead of all others, and at the
fourth fault the decode is given up and the span is decided as failed. -/
def Obligations.PoolActs : Prop :=
  (∀ (c : Cmd) (s : State), fecPortConfigOp.passes c s →
    ((s.rxp c.port).st = .off → exec (.fecPortConfig c) s = .next ((s.setFecp c.port { s.fecp c.port with
      early := (c.p 0).bit 24, maxIter := (c.p 0).fld 19 16, oh := (c.p 0).fld 9 8 }).answered c 0x0801 0 [])) ∧
    ((s.rxp c.port).st ≠ .off → exec (.fecPortConfig c) s = .next (s.waiting c 0x0801 (.fecConfig c.port)))) ∧
  (∀ (c : Cmd) (s : State), fecInjectOp.passes c s → exec (.fecInject c) s = .next ((s.setFecp c.port { s.fecp c.port with
    inject := some ((c.p 0).fld 31 30) }).answered c 0x0807 0 [])) ∧
  (∀ (s : State) (p : Port) (k : Nat), s.live = true → (∃ h ∈ s.fec.held, h.port = p ∧ h.span = k ∧ h.ready = none) →
    ∃ t, exec (.dealTimeout p k) s = .next t ∧ s.only [.fec, .tally] t ∧ t.fec = { s.fec with
      held := s.fec.held.map fun h =>
        if h.port = p ∧ h.span = k ∧ h.ready = none then { h with ready := some s.time, noGuard := true } else h }) ∧
  (∀ (s : State), s.live = true → s.nextToDeal = none → exec .spanDeal s = .next s) ∧
  (∀ (s : State) (h : HeldSpan) (r b : Nat), s.live = true → s.nextToDeal = some h → (s.rxp h.port).mod ≠ 4 →
    s.dealRegion h.moved = some r → s.dealBlock h.moved r = some b →
    ∃ t d, exec .spanDeal s = .next t ∧ t.fec.running = s.fec.running ++ [d] ∧
      d.port = h.port ∧ d.span = h.span ∧ d.region = r ∧ d.block = b ∧ d.iter = 0 ∧ d.start = s.time ∧
      d.early = (s.fecp h.port).early ∧ d.maxIter = (s.fecp h.port).maxIter ∧ d.inject = (s.fecp h.port).inject ∧
      (t.fecp h.port).inject = none ∧ t.fec.held = s.fec.held.filter (fun g => !(g.port == h.port && g.span == h.span)) ∧
      t.fec.turn = if h.port = 0 then 1 else 0) ∧
  (∀ (s : State) (r : Nat), s.dealRegion none = some r →
    (s.region r).poolRole = 0 ∧ 0 < s.freeSlots r ∧
    ∀ q ∈ s.fec.dealt, (s.region q).poolRole = 0 → s.freeSlots q ≤ s.freeSlots r) ∧
  (∀ (s : State) (p : Port) (k : Nat) (conv : Bool) (d : Decode), s.live = true → s.findDecode p k = some d → d.inject = none →
    ∃ t, exec (.decodeIterationEnd p k false conv) s = .next t ∧ s.only [.fec, .tally] t ∧
      t.fec = { s.fec with running := s.fec.running.map fun e => if e.port = d.port ∧ e.span = d.span then
        { d with iter := d.iter + 1, converged := conv,
                 provisional := d.provisional || (!d.provisional && (conv || d.iter + 1 == 2)) } else e }) ∧
  (∀ (s : State) (p : Port) (k n zrBits : Nat) (zrOk : Bool) (d : Decode), s.live = true → s.findDecode p k = some d →
    d.inject = none → (s.rxp p).mod ≠ 4 → ((d.converged = true ∧ d.early = true) ∨ d.maxIter ≤ d.iter) →
    ∃ t, exec (.decodeEnd p k n zrBits zrOk) s = .next t ∧ t.findDecode p k = none ∧
      t.rwp p = (s.rwp p).updSpan k fun r => { r with decided := some d.converged }) ∧
  (∀ (s : State) (p : Port) (k n zrBits : Nat) (zrOk : Bool) (d : Decode), s.live = true → s.findDecode p k = some d →
    d.inject = none → (s.rxp p).mod = 4 → (s.fecp p).zrBad = 0 →
    ∃ t, exec (.decodeEnd p k n zrBits zrOk) s = .next t ∧ t.findDecode p k = none ∧
      t.rwp p = (s.rwp p).updSpan k fun r => { r with decided := some zrOk }) ∧
  (∀ (s : State) (p : Port) (k : Nat) (d : Decode), s.live = true → s.findDecode p k = some d → d.inject = none →
    Tab.get 0 d.faultBlocks d.block ≠ 1 →
    (d.faults < 3 → ∃ t h, exec (.messageWordUncorrectable p k) s = .next t ∧ t.fec.held = h :: s.fec.held ∧
      t.findDecode p k = none ∧ h.port = p ∧ h.span = k ∧ h.ready = some s.time ∧ h.moved = some (d.region, d.block) ∧
      h.faults = d.faults + 1) ∧
    (3 ≤ d.faults → ∃ t, exec (.messageWordUncorrectable p k) s = .next t ∧ t.findDecode p k = none ∧
      t.rwp p = ((s.rwp p).updSpan k fun r => { r with decided := some false }) ∧ t.hier.erasure = true))

/-- The line transmitter: configuration, enable, mutes and ramps, pre-compensation and pre-emphasis loads, spans, cross-fades.
LINE_TX_CONFIG sets its fields; LINE_TX_ENABLE takes OFF to MUTED with phi 0 and MUTED to OFF; a hard mute goes to MUTED with
phi 0 at once, a soft mute starts RAMP_DOWN, an unmute starts RAMP_UP; loads commit at once in OFF and MUTED and by a cross-
fade from the next span elsewhere, and wait while one of their kind runs; a ramp ends in ON or MUTED; a cross-fade ends with
its event after 64 spans, and a load that waited for it then commits. -/
def Obligations.TransmitterActs : Prop :=
  (∀ (c : Cmd) (s : State), lineTxConfigOp.passes c s → ∃ u : State, exec (.lineTxConfig c) s = .next (u.answered c 0x0910 0 []) ∧
    u.txp c.port = { s.txp c.port with
      symRate := (c.p 0).fld 27 16, mod := (c.p 0).fld 15 12, entropy := (c.p 0).fld 7 0, swap := (c.p 1).bit 20,
      invert := (c.p 1).fld 19 16, oh := (c.p 1).fld 9 8, rolloff := (c.p 1).fld 4 0 } ∧
    ∀ q, q ≠ c.port → u.txp q = s.txp q) ∧
  (∀ (c : Cmd) (s : State), lineTxEnableOp.passes c s →
    ((c.p 0).bit 0 = true → (s.txp c.port).st = .off → ∃ u : State, exec (.lineTxEnable c) s = .next (u.answered c 0x0911 0 []) ∧
      (u.txp c.port).st = .muted ∧ (u.txp c.port).phiNum = 0 ∧ (u.txp c.port).symRate = (s.txp c.port).symRate) ∧
    ((c.p 0).bit 0 = false → (s.txp c.port).st = .muted → ∃ u : State,
      exec (.lineTxEnable c) s = .next (u.answered c 0x0911 0 []) ∧ (u.txp c.port).st = .off ∧ (u.txp c.port).fade = none ∧
      (u.txp c.port).emphFade = [] ∧ (u.txp c.port).agreed = none) ∧
    (((c.p 0).bit 0 = true ↔ (s.txp c.port).st ≠ .off) → exec (.lineTxEnable c) s = .next (s.answered c 0x0911 0 []))) ∧
  (∀ (c : Cmd) (s : State), lineTxMuteOp.passes c s →
    ((c.p 0).bit 1 = true → (s.txp c.port).st.driving = true → ∃ u : State,
      exec (.lineTxMute c) s = .next (u.answered c 0x0912 0 []) ∧ (u.txp c.port).st = .muted ∧ (u.txp c.port).phiNum = 0 ∧
      (u.txp c.port).hard = true) ∧
    ((c.p 0).bit 1 = false → (c.p 0).bit 0 = true → ((s.txp c.port).st = .on ∨ (s.txp c.port).st = .rampUp) → ∃ u : State,
      exec (.lineTxMute c) s = .next (u.answered c 0x0912 0 []) ∧ (u.txp c.port).st = .rampDown) ∧
    ((c.p 0).bit 1 = false → (c.p 0).bit 0 = false →
      ((s.txp c.port).st = .rampDown ∨ ((s.txp c.port).st = .muted ∧ (s.txp c.port).hardSpan ≠ some (s.txp c.port).next)) →
      ∃ u : State, exec (.lineTxMute c) s = .next (u.answered c 0x0912 0 []) ∧ (u.txp c.port).st = .rampUp ∧
        (u.txp c.port).hard = false)) ∧
  (∀ (c : Cmd) (s : State), lineTxRampSetOp.passes c s → exec (.lineTxRampSet c) s = .next ((s.updTx c.port fun t =>
    { t.rebase s.time with rampTime := (c.p 0).fld 15 0 }).answered c 0x0913 0 [])) ∧
  (∀ (c : Cmd) (s : State), lineTxPrecompSetOp.passes c s →
    ((s.txp c.port).st.driving = false → exec (.lineTxPrecompSet c) s = .next ((s.setTx c.port { s.txp c.port with
      cdPre := (c.p 0).sfld 19 0, centre := (c.p 1).fld 20 0, fade := none }).answered c 0x0914 0 [])) ∧
    ((s.txp c.port).st.driving = true → (s.txp c.port).fade = none → s.txWaits (.txPrecomp c.port) = false →
      exec (.lineTxPrecompSet c) s = .next ((s.setTx c.port { s.txp c.port with
        cdPre := (c.p 0).sfld 19 0, centre := (c.p 1).fld 20 0,
        fade := some ⟨(s.txp c.port).next, (s.txp c.port).cdPre, (c.p 0).sfld 19 0⟩ }).answered c 0x0914 0 [])) ∧
    ((s.txp c.port).st.driving = true → ((s.txp c.port).fade.isSome ∨ s.txWaits (.txPrecomp c.port) = true) →
      exec (.lineTxPrecompSet c) s = .next (s.waiting c 0x0914 (.txPrecomp c.port)))) ∧
  (∀ (c : Cmd) (s : State), lineTxBackSetOp.passes c s → ∃ u : State, exec (.lineTxBackSet c) s = .next (u.answered c 0x0915 0 []) ∧
    s.only [.tx] u ∧ (u.txp c.port).skewXI = (c.p 0).sfld 31 16 ∧ (u.txp c.port).skewXQ = (c.p 0).sfld 15 0 ∧
    (u.txp c.port).skewYI = (c.p 1).sfld 31 16 ∧ (u.txp c.port).skewYQ = (c.p 1).sfld 15 0 ∧
    (u.txp c.port).driveRms = (c.p 2).fld 7 0) ∧
  (∀ (c : Cmd) (s : State), lineTxEmphLoadOp.passes c s →
    ((s.txp c.port).st.driving = true → s.txWaits (.txEmph c.port (emphDac c)) = true →
      exec (.lineTxEmphLoad c) s = .next (s.waiting c 0x0916 (.txEmph c.port (emphDac c)))) ∧
    ((s.txp c.port).st.driving = false ∨ (Tab.get none (s.txp c.port).emphFade (emphDac c) = none ∧
        s.txWaits (.txEmph c.port (emphDac c)) = false) → ∃ u : State,
      exec (.lineTxEmphLoad c) s = .next (u.answered c 0x0916 0 []) ∧ s.only [.tx, .hall] u ∧
      (u.txp c.port).emph = Tab.set emphReset (s.txp c.port).emph (emphDac c) (emphTaps c))) ∧
  (∀ (s : State) (p : Port) (n : Nat), s.live = true → (s.txp p).st ≠ .off →
    (∃ t, exec (.txSpanFormed p n) s = .next t ∧ (t.txp p).next = (s.txp p).next + 1 ∧ (t.txp p).st = (s.txp p).st) ∧
    (n < (s.txp p).next → exec (.txSpanLate p n) s = .next (((s.bump (txCtr p 2) 1).tagUpd p 1 n fun r =>
      { r with late := true }).raiseLimited (0x091100 + p.val) second 0x0911 3 (portHa p) (sat 0xFFFF))) ∧
    exec (.txUnderrun p) s = .next ((s.bump (txCtr p 3) 1).raiseLimited (0x091200 + p.val) second 0x0912 3 (portHa p) (sat 0xFFFF))) ∧
  (∀ (s : State) (p : Port), s.live = true →
    ((s.txp p).st = .rampUp → ((s.txp p).phase s.time).1 = ((s.txp p).phase s.time).2 →
      ∃ t, exec (.rampEnd p) s = .next t ∧ (t.txp p).st = .on) ∧
    ((s.txp p).st = .rampDown → ((s.txp p).phase s.time).1 = 0 → ∃ t, exec (.rampEnd p) s = .next t ∧ (t.txp p).st = .muted) ∧
    (∀ f, (s.txp p).fade = some f → f.start + 64 ≤ (s.txp p).next → exec (.txXfadeEnd p none) s =
      .next (((s.setTx p { s.txp p with fade := none }).bump (txCtr p 9) 1).raise 0x0914 0 (portHa p) (Int.bits 20 (s.txp p).cdPre))) ∧
    (∀ h r, (s.txp p).fade = none → pick (fun h : Held => h.await == some (.txPrecomp p)) s.clerk.held = some (h, r) →
      precompStep h.cmd (s.txp p) = none → ∃ t, exec (.txDeferredCommit p none) s = .next t ∧ s.only [.tx, .clerk, .bar0, .out] t ∧
        (t.txp p).cdPre = (h.cmd.p 0).sfld 19 0 ∧ (t.txp p).centre = (h.cmd.p 1).fld 20 0))

/-- The Loom's configuration commands: port, bolt, thread and protection settings and the protection switch. LOOM_PORT_CONFIG sets
its port's fields; LOOM_BOLT_SET defines its bolt, and deletes it when it lists no members, in each direction it names and
leaves every other bolt and direction; LOOM_THREAD_SET leaves in each direction it names the thread table that its entries
give; LOOM_PROT_SET adds or removes a pair; LOOM_PROT_SWITCH stores its request in the receive pair of its working bolt. -/
def Obligations.LoomCommandsAct : Prop :=
  (∀ (c : Cmd) (s : State), loomPortConfigOp.passes c s → exec (.loomPortConfig c) s =
    .next ((s.updLp (if (c.p 0).bit 31 then 1 else 0) fun l =>
      { l with matchErr := (c.p 0).fld 10 8, labelDown := (c.p 0).bit 0 }).answered c 0x0501 0 [])) ∧
  (∀ (c : Cmd) (s : State), loomBoltSetOp.passes c s → ∃ u : State, exec (.loomBoltSet c) s = .next (u.answered c 0x0502 0 []) ∧
    (∀ d ∈ waysOf ((c.p 0).fld 31 30),
      ((c.p 0).fld 18 8 ≠ 0 → u.bolt d ((c.p 0).fld 29 19) = some ⟨boltMembers c, (c.p 0).fld 7 0⟩) ∧
      ((c.p 0).fld 18 8 = 0 → u.bolt d ((c.p 0).fld 29 19) = none)) ∧
    (∀ d b, (d ∉ waysOf ((c.p 0).fld 31 30) ∨ b ≠ (c.p 0).fld 29 19) → u.bolt d b = s.bolt d b) ∧
    u.loom.threads = s.loom.threads) ∧
  (∀ (c : Cmd) (s : State), loomThreadSetOp.passes c s → ∃ u : State,
    exec (.loomThreadSet c) s = .next (u.answered c 0x0503 0 []) ∧
    (∀ d, u.threads d = if d ∈ waysOf ((c.p 0).fld 31 30) then threadsAfter c s d else s.threads d) ∧
    u.loom.bolts = s.loom.bolts) ∧
  (∀ (c : Cmd) (s : State), loomProtSetOp.passes c s → ∃ u : State, exec (.loomProtSet c) s = .next (u.answered c 0x0504 0 []) ∧
    (∀ d, (u.pairs d).map (·.working) = if d ∉ waysOf ((c.p 0).fld 31 30) then (s.pairs d).map (·.working)
      else if (c.p 0).bit 29 = true then (s.pairs d).map (·.working) ++ [(c.p 0).fld 10 0]
      else ((s.pairs d).map (·.working)).filter (· != (c.p 0).fld 10 0)) ∧
    (1 ∈ waysOf ((c.p 0).fld 31 30) → (c.p 0).bit 29 = true →
      u.pairs 1 = s.pairs 1 ++ [⟨(c.p 0).fld 10 0, (c.p 0).fld 21 11, (c.p 0).bit 28, 0, false, false, none⟩]) ∧
    u.loom.bolts = s.loom.bolts ∧ u.loom.threads = s.loom.threads) ∧
  (∀ (c : Cmd) (s : State), loomProtSwitchOp.passes c s → ∃ u : State,
    exec (.loomProtSwitch c) s = .next (u.answered c 0x0505 0 []) ∧ s.only [.loom] u ∧ u.pairs 1 = s.pairs 1 ∧
    u.pairs 0 = (s.pairs 0).map fun q => if q.working = (c.p 0).fld 10 0 then { q with request := (c.p 0).fld 31 28 } else q)

/-- The Loom's framer states, mismatches and labels, the ticks its bolts read and skip, and the frames it sends. The framer is
ALIGNED at a candidate's third match, LOCKED after three consistent frames, in SEARCH after five without a match, ALIGNED
again after five inconsistent ones, and in LOCKED numbers frames by its own count; a slot's mismatch is raised or cleared
after two multiframes, a label accepted after three receptions; the tick reader reads a bolt's tick, alone or for its pair
from the copy selected, which ends DOWN; a tick held too long is skipped and the bolt goes to skew-exceeded; a frame sent
carries the next number. -/
def Obligations.FramesAndTicks : Prop :=
  (∀ (s : State) (p : Port) (found : List Nat) (heads : List (Nat × Nat × Nat)), s.live = true → (s.lp p).st = .search →
    s.zrRx p = true → ∃ t, exec (.alignDeclare p found heads) s = .next t ∧ (t.lp p).st = .aligned) ∧
  (∀ (s : State) (p : Port) (x n : Nat) (h : Nat × Nat × Nat), s.live = true → (s.lp p).st = .search →
    aligned (s.lp p) = false → s.zrRx p = false →
    ((s.lp p).cands = [(x, n)] → 2 ≤ n → ∃ t, exec (.alignDeclare p [x] [h]) s = .next t ∧ (t.lp p).st = .aligned ∧
      (t.lp p).fn = h.1 ∧ (t.lp p).mfn = h.2.1 ∧ (t.lp p).tick = h.2.2) ∧
    ((s.lp p).cands = [] → ∃ t, exec (.alignDeclare p [x] [h]) s = .next t ∧ (t.lp p).st = .search ∧ (t.lp p).cands =
      [(x + capacity (s.rxp p).symRate (s.rxp p).mod (s.rxp p).entropy (s.fecp p).oh, 1)])) ∧
  (∀ (s : State) (p : Port), s.live = true →
    ((s.lp p).st = .aligned → 3 ≤ (s.lp p).good → ∃ t, exec (.lockDeclare p) s = .next t ∧ (t.lp p).st = .locked) ∧
    (((s.lp p).st = .aligned ∨ (s.lp p).st = .locked) → 5 ≤ (s.lp p).misses →
      ∃ t, exec (.lofDeclare p) s = .next t ∧ (t.lp p).st = .search) ∧
    ((s.lp p).st = .locked → 5 ≤ (s.lp p).bad → ∃ t, exec (.lomDeclare p) s = .next t ∧ (t.lp p).st = .aligned)) ∧
  (∀ (s : State) (p : Port) (ws : List Word) (clean : Bool) (par : Nat) (bpar : List (Nat × Nat)), s.live = true →
    (s.rxp p).st = .tracking → s.zrRx p = false →
    ((s.lp p).st = .aligned → exec (.frameArrive p ws clean par bpar) s = .next (s.updLp p fun l => l.judge ws)) ∧
    ((s.lp p).st = .locked → ∃ t, exec (.frameArrive p ws clean par bpar) s = .next t ∧ (t.lp p).st = .locked ∧
      ((t.lp p).fn, (t.lp p).mfn, (t.lp p).tick) = nextHead ((s.lp p).fn, (s.lp p).mfn, (s.lp p).tick))) ∧
  (∀ (s : State) (p : Port) (k : Nat) (r : SlotRec), s.live = true → Tab.get {} (s.lp p).slots k = r →
    (r.mism = false → 2 ≤ r.differ → ∃ t, exec (.mapMismatch p k) s = .next t ∧ (Tab.get {} (t.lp p).slots k).mism = true) ∧
    (r.mism = true → 2 ≤ r.agree → ∃ t, exec (.mapMismatch p k) s = .next t ∧ (Tab.get {} (t.lp p).slots k).mism = false)) ∧
  (∀ (s : State) (p : Port) (th : Nat) (x : Thread) (l : LabelRx), s.live = true → s.thread 0 th = some x →
    Tab.get {} s.loom.labels th = l → 3 ≤ l.count → l.accepted ≠ l.value + 1 →
    ∃ t, exec (.labelAccept p th) s = .next t ∧ (Tab.get {} t.loom.labels th).accepted = l.value + 1) ∧
  (∀ (s : State) (b k : Nat) (v : Bolt) (lw lp : List Nat) (segs : List (Nat × List Byte)), s.live = true →
    s.pairOf 0 b = none → s.bolt 0 b = some v → s.boltOk b = true → s.complete b k = true → s.isNext b k = true →
    s.ready b k = true → (s.boltPorts 0 b).any (s.here b k) = true →
    ∃ t, exec (.tickRead b k lw lp segs) s = .next t ∧ (t.boltRx b).last = some k ∧
      ((s.boltRx b).st = 1 → (t.boltRx b).st = 3) ∧ (t.boltRx b).skew = s.skewOf b k) ∧
  (∀ (s : State) (q : Pair) (k : Nat) (lw lp : List Nat) (segs : List (Nat × List Byte)), s.live = true →
    s.pairOf 0 q.working = some q → q.suspended = false → s.pairReads q k = true →
    ∃ t, exec (.tickRead q.working k lw lp segs) s = .next t ∧
      t.pairs 0 = (s.pairs 0).map fun x => if x.working = q.working then
        { x with sel := (selectCopy q (s.cleanCopy q.working k lw) (s.cleanCopy q.protect k lp)).1, last := some k } else x) ∧
  (∀ (s : State) (b k : Nat) (v : Bolt), s.live = true → s.bolt 0 b = some v → s.isNext b k = true → s.ready b k = false →
    (s.boltPorts 0 b).any (s.here b k) = true →
    ∃ t, exec (.skewMaxExpiry b k) s = .next t ∧ (t.boltRx b).last = some k ∧ (t.boltRx b).run = 0 ∧
      ((s.boltRx b).st ≠ 1 → (s.boltPorts 0 b).length = 2 → s.boltUnlocked b = false → (t.boltRx b).st = 2)) ∧
  (∀ (s : State) (p : Port) (par : Nat) (bpar : List (Nat × Nat)) (under : List Nat), s.live = true → (s.txp p).st ≠ .off →
    (s.ra.ports.get p).txAgreed = none → ∃ t, exec (.txFrameSend p par bpar under) s = .next t ∧
      ((t.lp p).txMfn, (t.lp p).txFn) = (s.lp p).nextTx ∧ (t.lp p).txTick = (s.lp p).nextTxTick s.time ∧ (t.lp p).txSent = true ∧
      t.out.length = s.out.length + 1)

/-- Rate adaptation: configuration, the requester's and the responder's steps, announcements, switches, fallback and candidate
codes. LINE_RA_CONFIG sets its fields; LINE_RA_STEP starts an attempt, or ends its job OK where the code is in force;
LINE_RA_GUARD_SET sets and removes guard entries; the requester refuses a code out of bounds or proposes it; an accepting
answer binds the direction, a refusal ends the attempt, and the third proposal without answer ends it as unanswered; the
responder commits what it accepts and answers in either case; a valid announcement binds the receiver; at SWITCH_MF the code
changes; candidate codes swap after 256 uncorrected decodes. -/
def Obligations.RateAdaptation : Prop :=
  (∀ (c : Cmd) (s : State), lineRaConfigOp.passes c s → exec (.lineRaConfig c) s = .next ((s.updRa c.port fun r => { r with
    rxAuto := (c.p 0).bit 31, txAccept := (c.p 0).bit 30, fallback := (c.p 0).bit 29, rxMax := (c.p 0).fld 15 8,
    rxMin := (c.p 0).fld 7 0, txMax := (c.p 1).fld 15 8, txMin := (c.p 1).fld 7 0, high := (c.p 2).fld 31 24,
    low := (c.p 2).fld 23 16, avgLog2 := (c.p 2).fld 15 12, lead := (c.p 2).fld 11 0, upHold := (c.p 3).fld 31 16,
    fbTime := (c.p 3).fld 15 0, window := if (c.p 2).fld 15 12 = r.avgLog2 then r.window else [],
    upStands := r.upStands && (c.p 2).fld 15 12 == r.avgLog2 }).answered c 0x0920 0 [])) ∧
  (∀ (c : Cmd) (s : State), lineRaStepOp.passes c s →
    ((c.p 0).fld 7 0 = s.codeOf 0 c.port → exec (.lineRaStep c) s = .next (((s.startJob 0x0921 c).endStep c.port
      (some s.clerk.nextJob) 0 0 ((c.p 0).fld 7 0) 0).answered c 0x0921 1 [w32 s.clerk.nextJob])) ∧
    ((c.p 0).fld 7 0 ≠ s.codeOf 0 c.port → exec (.lineRaStep c) s = .next (((s.startJob 0x0921 c).updRa c.port fun r =>
      { r with attempt := some { code := (c.p 0).fld 7 0, job := some s.clerk.nextJob, fallback := false } }).answered
        c 0x0921 1 [w32 s.clerk.nextJob]))) ∧
  (∀ (c : Cmd) (s : State) (d : Way), lineRaGuardSetOp.passes c s → d = (if (c.p 0).bit 31 then 1 else 0) → ∃ u : State,
    exec (.lineRaGuardSet c) s = .next (u.answered c 0x0922 0 []) ∧ (∀ e, e ≠ d → u.ra.guards.get e = s.ra.guards.get e) ∧
    ((c.p 0).fld 10 0 = 1 → (c.p 1).fld 31 30 ≠ 0 → Tab.get none (u.ra.guards.get d) ((c.p 1).fld 17 0) =
      some ⟨(c.p 1).fld 31 30, (c.p 2).fld 31 20, (c.p 2).fld 19 0⟩)) ∧
  (∀ (s : State) (p : Port) (m a b : Int), s.live = true → (s.rxp p).st = .tracking → pcs (s.modOf 0 p) = true →
    ∃ t, exec (.marginUpdate p m a b) s = .next t ∧ (t.rap p).window = ((m, a, b) :: (s.rap p).window).take (2 ^ (s.rap p).avgLog2)) ∧
  (∀ (s : State) (p : Port), s.live = true →
    ((s.rxp p).st = .tracking → s.mayseek p = true → (s.rap p).upStands = true → s.seekable p (s.codeOf 0 p + 1) = true →
      exec (.upHoldExpiry p) s = .next (s.updRa p fun r =>
        { r with attempt := some { code := s.codeOf 0 p + 1, job := none, fallback := false } })) ∧
    ((s.rap p).held = true → exec (.heldExpiry p) s = .next (s.updRa p fun r => { r with held := false })) ∧
    (∀ a, (s.rap p).attempt = some a → a.sends = 0 →
      (within (s.rxBounds p) a.code = true → (s.planAt 0 p false a.code).feasible = true → ∃ t x, exec (.stepSeek p) s = .next t ∧
        (t.rap p).attempt = some x ∧ x.code = a.code ∧ x.sends = 1 ∧ x.id = (s.rap p).nextId ∧ x.job = a.job) ∧
      (within (s.rxBounds p) a.code = false → ∃ t, exec (.stepSeek p) s = .next t ∧ (t.rap p).attempt = none ∧
        (t.rap p).lastCause = 3)) ∧
    (∀ a, (s.rap p).attempt = some a → 0 < a.sends → a.cancel = false →
      (a.sends < 3 → ∃ t x, exec (.answerWaitExpiry p) s = .next t ∧ (t.rap p).attempt = some x ∧ x.sends = a.sends + 1) ∧
      (3 ≤ a.sends → ∃ t, exec (.answerWaitExpiry p) s = .next t ∧ (t.rap p).attempt = none ∧ (t.rap p).lastCause = 8 ∧
        (t.rap p).seekFrom = s.time + second)) ∧
    ((s.rxp p).st = .acquire → pcs (s.modOf 0 p) = true → (s.rap p).fallback = true → (s.rap p).rxAuto = true →
      (s.rap p).attempt = none → (s.rap p).rxAgreed = none → (s.rxBounds p).1 < s.codeOf 0 p → ∃ t x,
      exec (.fallbackStart p) s = .next t ∧ (t.rap p).attempt = some x ∧ x.fallback = true ∧ x.code = (s.rxBounds p).1 ∧ x.sends = 1)) ∧
  (∀ (s u : State) (p : Port) (x : CrIn) (a : Attempt), s.live = true → s.takeLink p 6 = some (x, u) → (s.rap p).attempt = some a →
    a.sends ≠ 0 → a.id = (x.payload.getD 0 0).toNat → a.fallback = false →
    ((x.payload.getD 1 0).toNat = 0 → ∃ t g, exec (.rateAnswer p) s = .next t ∧ (t.rap p).attempt = none ∧
      (t.rap p).rxAgreed = some g ∧ g.code = a.code ∧ g.id = a.id ∧ g.mf = leNat ((x.payload.drop 4).take 4)) ∧
    ((x.payload.getD 1 0).toNat ≠ 0 → ∃ t, exec (.rateAnswer p) s = .next t ∧ (t.rap p).attempt = none ∧
      (t.rap p).lastCause = (x.payload.getD 1 0).toNat)) ∧
  (∀ (s u : State) (p : Port) (x : CrIn) (v : Option Nat), s.live = true → s.takeLink p 5 = some (x, u) →
    s.judgeProposal p (x.payload.getD 1 0).toNat (x.payload.getD 2 0).toNat (x.payload.getD 3 0).toNat
      (leNat ((x.payload.drop 4).take 4)) (leNat ((x.payload.drop 8).take 4)) = v →
    (v.isSome = true → ∃ t, exec (.ratePropose p) s = .next t ∧ (t.rap p).txAgreed = (s.rap p).txAgreed ∧ t.txp p = s.txp p) ∧
    (v = none → ∃ t g, exec (.ratePropose p) s = .next t ∧ (t.rap p).txAgreed = some g ∧ g.code = (x.payload.getD 3 0).toNat ∧
      g.id = (x.payload.getD 0 0).toNat ∧ (t.txp p).agreed = some (g.code, g.mf))) ∧
  (∀ (s : State) (p : Port) (code id digest mf : Nat), s.live = true → (s.rxp p).st = .tracking →
    (s.lp p).announced = some (code, id, digest, mf) → (s.rap p).rxAgreed = none → ∃ t g,
    exec (.announcementValid p) s = .next t ∧ (t.rap p).attempt = none ∧ (t.rap p).rxAgreed = some g ∧ g.code = code ∧ g.mf = mf ∧
      g.digest = digest ∧ g.announced = true ∧ g.foreign = !(s.rap p).attempt.isSome) ∧
  (∀ (s : State) (p : Port) (g : Agreement), s.live = true →
    ((s.rap p).txAgreed = some g → (s.txp p).st ≠ .off → (s.lp p).nextTx.1 % 2 ^ 32 = g.mf → (s.lp p).nextTx.2 = 0 → ∃ t,
      exec (.rateSwitch p 1) s = .next t ∧ t.txp p = { s.txp p with entropy := g.code, agreed := none } ∧ (t.rap p).txAgreed = none) ∧
    ((s.rap p).rxAgreed = some g → (s.lp p).st = .locked → ((s.lp p).mfn + 1) % 2 ^ 32 = g.mf →
      ((s.rxp p).st = .tracking → ∃ t, exec (.rateSwitch p 0) s = .next t ∧ t.rxp p = { s.rxp p with entropy := g.code } ∧
        (t.rap p).rxAgreed = none ∧ (t.rap p).window = []) ∧
      ((s.rxp p).st ≠ .tracking → ∃ t, exec (.rateSwitch p 0) s = .next t ∧ t.rxp p = s.rxp p ∧ (t.rap p).rxAgreed = none ∧
        (t.rap p).candidate = some g.code))) ∧
  (∀ (s : State) (p : Port) (k : Nat), s.live = true → (s.rxp p).st = .tracking → (s.rap p).candidate = some k →
    256 ≤ (s.rap p).candBad → ∃ t, exec (.candidateSwitch p) s = .next t ∧ t.rxp p = { s.rxp p with entropy := k } ∧
      (t.rap p).candidate = some (s.codeOf 0 p) ∧ (t.rap p).candMoved = true)

/-- The Crier's ports: settings, queues, packets sent, listeners, receptions, and the link packets that are handled.
CRIER_PORT_SET sets its port; CRIER_SEND queues its packet; CRIER_RECEIVE takes the oldest entry. Timers queue their packets;
a packet starts, cuts and ends; a listener triggers, qualifies, captures, and takes or rejects what it receives; HELLO,
QUALITY, TIME_REQ, TIME_RESP and a host packet are handled, oldest first; a missed exchange and a lost peer are noted. -/
def Obligations.CrierLinkActs : Prop :=
  (∀ (c : Cmd) (s : State), crierPortSetOp.passes c s → ∃ u : State, exec (.crierPortSet c) s = .next (u.answered c 0x0301 0 []) ∧
    (∀ k, k ≠ (c.p 0).fld 31 30 → u.cr k = s.cr k) ∧
    (let y := u.cr ((c.p 0).fld 31 30)
     y.txEnable = (c.p 0).bit 29 ∧ y.rxEnable = (c.p 0).bit 28 ∧ y.auth = (c.p 0).bit 27 ∧ y.qlDpll = (c.p 0).fld 26 24 ∧
     y.hostQl = (c.p 0).fld 23 20 ∧ y.attach = (c.p 0).fld 19 16 ∧ y.txCode = (c.p 0).fld 15 8 ∧ y.listenCode = (c.p 0).fld 7 0 ∧
     y.depth = (c.p 1).fld 31 26 ∧ y.detect = (c.p 1).fld 25 20 ∧ y.capture = (c.p 1).fld 19 14 ∧ y.hello = (c.p 1).fld 13 8 ∧
     y.timeInt = (c.p 1).fld 7 0 ∧ y.asym = (c.p 2).sfld 31 0 ∧
     y.queue = (if (c.p 0).bit 29 = true then (s.cr ((c.p 0).fld 31 30)).queue else []) ∧ ((c.p 0).bit 28 = false → y.rx = 1))) ∧
  (∀ (c : Cmd) (s : State), crierSendOp.passes c s →
    ((c.p 0).fld 31 30 = 0 → exec (.crierSend c) s = .next ((s.queuePkt ((c.p 0).fld 29 29)
      { type := 8, payload := (bytesOf (c.params.drop 2)).take ((c.p 1).fld 7 0) }).answered c 0x0303 0 [])) ∧
    ((c.p 0).fld 31 30 ≠ 0 → exec (.crierSend c) s = .next ((s.sendDomain
      (if (c.p 0).fld 31 30 = 1 then some ((c.p 0).fld 17 0) else none) 5
      ((bytesOf (c.params.drop 2)).take ((c.p 1).fld 7 0))).answered c 0x0303 0 []))) ∧
  (∀ (c : Cmd) (s : State), crierReceiveOp.passes c s →
    (s.crier.buffer = [] → exec (.crierReceive c) s = .next (s.answered c 0x0304 0 [0x80000000#32, 0])) ∧
    (∀ e r, s.crier.buffer = e :: r →
      exec (.crierReceive c) s = .next ((s.withCrier { s.crier with buffer := r }).answered c 0x0304 0 e.words))) ∧
  (∀ (s : State) (k : Nat) (x : CrPkt), (s.cr k).txEnable = true → (s.cr k).queue.length < 32 →
    ((s.queuePkt k x).cr k).queue = (if replaces x.type && (s.cr k).queue.any (fun y => y.type == x.type) then
      (s.cr k).queue.map (fun y => if y.type = x.type then x else y) else (s.cr k).queue ++ [x])) ∧
  (∀ (s : State) (k : Fin 4), s.live = true →
    (k.val < 2 → exec (.helloTimer k) s = .next (s.queuePkt k.val { type := 1, payload := s.helloBytes (linePort k) }) ∧
      exec (.qualityTimer k) s = .next (s.queuePkt k.val { type := 2, payload := s.qualityBytes k.val })) ∧
    (k.val = s.crier.timePort.val → (s.cr k.val).timeInt ≠ 0 → ∃ t, exec (.timeReqTimer k) s = .next t ∧
      t.crier.seq = (s.crier.seq + 1) % 256 ∧
      t.crier.ports = (s.queuePkt k.val { type := 3, payload := [BitVec.ofNat 8 s.crier.seq, 0] }).crier.ports) ∧
    (k.val = s.crier.timePort.val → s.crier.asked.isSome = true →
      ∃ t, exec (.exchangeMissed k) s = .next t ∧ t.crier.asked = none ∧ t.crier.missed = s.crier.missed + 1)) ∧
  (∀ (s : State) (k : Fin 4), s.live = true →
    (∀ x r, nextPkt (s.cr k.val).queue = some (x, r) → (s.cr k.val).air = none → s.crDriving k.val = true →
      ∃ t, exec (.packetSendStart k) s = .next t ∧ (t.cr k.val).air = some x ∧ (t.cr k.val).airCode = (s.cr k.val).txCode ∧
        (t.cr k.val).airDepth = (s.cr k.val).depth ∧ t.out = s.out ++ [.crier k.val x.type x.payload] ∧
        (x.type = 3 → t.crier.asked = some (byteAt x.payload 0, s.todNs (s.time + sixteenSymbols), s.time + sixteenSymbols))) ∧
    (∀ x, (s.cr k.val).air = some x → 1 < x.cls → (s.cr k.val).queue.any (fun x => x.cls == 1) = true →
      ∃ t, exec (.packetCut k) s = .next t ∧ (t.cr k.val).air = none ∧ t.counter (crCtr k.val 1) = (s.counter (crCtr k.val 1) + 1) % 2 ^ 48 ∧
        (t.cr k.val).queue = (if replaces x.type && (s.cr k.val).queue.any (fun y => y.type == x.type) then (s.cr k.val).queue
          else x :: (s.cr k.val).queue)) ∧
    ((s.cr k.val).air ≠ none → ∃ t, exec (.packetSendEnd k) s = .next t ∧ (t.cr k.val).air = none ∧
      t.counter (crCtr k.val 0) = (s.counter (crCtr k.val 0) + 1) % 2 ^ 48)) ∧
  (∀ (s : State) (k : Fin 4), s.live = true →
    (s.hears k.val = true → ((s.cr k.val).rx = 1 ∨ (s.cr k.val).second = false) → ∃ t, exec (.listenerTrigger k) s = .next t ∧
      (if (s.cr k.val).rx = 1 then (t.cr k.val).rx = 2 else (t.cr k.val).rx = (s.cr k.val).rx ∧ (t.cr k.val).second = true)) ∧
    (∀ n y, (s.cr k.val).rx = 2 → ∃ t, exec (.syncQualify k false n y) s = .next t ∧ (t.cr k.val).rx = 3 ∧
      (t.cr k.val).strength = sat 255 n ∧ (t.cr k.val).syncAt = y ∧ (t.cr k.val).second = (s.cr k.val).second) ∧
    (∀ n y, (s.cr k.val).rx ≠ 1 → (s.cr k.val).second = true → ∃ t, exec (.syncQualify k true n y) s = .next t ∧
      (t.cr k.val).second = false ∧ ((s.cr k.val).rx = 2 ∨ (s.cr k.val).strength + (s.cr k.val).capture ≤ sat 255 n →
        (t.cr k.val).rx = 3 ∧ (t.cr k.val).strength = sat 255 n ∧ (t.cr k.val).syncAt = y) ∧
      (¬((s.cr k.val).rx = 2 ∨ (s.cr k.val).strength + (s.cr k.val).capture ≤ sat 255 n) →
        (t.cr k.val).rx = (s.cr k.val).rx ∧ (t.cr k.val).strength = (s.cr k.val).strength)) ∧
    ((s.cr k.val).rx = 2 → ∃ t, exec (.qualifyTimeout k false) s = .next t ∧
      (t.cr k.val).rx = (if (s.cr k.val).second then 2 else 1) ∧ (t.cr k.val).second = false) ∧
    ((s.cr k.val).second = true → ∃ t, exec (.qualifyTimeout k true) s = .next t ∧ (t.cr k.val).rx = (s.cr k.val).rx ∧
      (t.cr k.val).second = false)) ∧
  (∀ (s : State) (k : Fin 4) (len ty : Byte) (pl : List Byte) (crc : BitVec 16) (chip : Int), s.live = true → (s.cr k.val).rx = 3 →
    ∃ t, exec (.packetReceiveEnd k len ty pl crc chip) s = .next t ∧ (t.cr k.val).rx = (if (s.cr k.val).second then 2 else 1) ∧
      (241 ≤ len.toNat ∨ crc16 (len :: ty :: fixBytes len.toNat pl) ≠ crc.toNat ∨ knownType ty.toNat = false →
        t.crier.inbox = s.crier.inbox) ∧
      (∀ p, len.toNat ≤ 240 → crc16 (len :: ty :: fixBytes len.toNat pl) = crc.toNat → knownType ty.toNat = true →
        s.listenerPort k.val = some p → (s.cr p.val).auth = false → leastBytes ty.toNat ≤ (fixBytes len.toNat pl).length →
        t.crier.inbox = s.crier.inbox ++
          [⟨k.val, ty.toNat, fixBytes len.toNat pl, (s.cr k.val).strength, (s.cr k.val).syncAt, none⟩])) ∧
  (∀ (s u : State) (k : Fin 4) (x : CrIn) (p : Port), s.live = true → s.listenerPort x.listener = some p →
    (s.takeOf k 1 = some (x, u) → ∃ t y, exec (.hello k) s = .next t ∧ (t.cr p.val).peer = some (peerOf x.payload y)) ∧
    (s.takeOf k 2 = some (x, u) → exec (.quality k) s = .next (if p = s.crier.timePort then
      (u.setQl (8 + p.val) (byteAt x.payload 0 % 16)).setQl 16 (byteAt x.payload 1 % 16)
      else u.setQl (8 + p.val) (byteAt x.payload 0 % 16))) ∧
    (∀ d, s.takeOf k 3 = some (x, u) → exec (.timeReq k d) s = .next (u.queuePkt p.val
      { type := 4, payload := [BitVec.ofNat 8 (byteAt x.payload 0), BitVec.ofNat 8 s.timeQl, 0, 0] ++
        (stampBytes (s.todNs x.sync) ++ stampBytes (s.todNs d)) })) ∧
    (∀ q t1 a, s.takeOf k 4 = some (x, u) → s.crier.asked = some (q, t1, a) → p = s.crier.timePort → q = byteAt x.payload 0 →
      s.time ≤ a + 500 * milli → ∃ t, exec (.timeResp k) s = .next t ∧ t.crier.asked = none ∧ t.crier.missed = 0 ∧
        t.crier.theta = meanOf ((stampAt x.payload 4 - t1) - (s.todNs x.sync - stampAt x.payload 14) - (s.cr p.val).asym) 2
          (Config.freeValue s.free)) ∧
    (s.takeOf k 8 = some (x, u) → ∃ t, exec (.hostLink k) s = .next t ∧ t.crier.buffer = (if 64 ≤ s.crier.buffer.length then
      s.crier.buffer else s.crier.buffer ++ [⟨0, x.listener, 0, x.strength, x.payload⟩]))) ∧
  (∀ (s : State) (k : Fin 4), s.live = true → k.val < 2 → (s.cr k.val).peer ≠ none →
    ∃ t, exec (.peerLost k) s = .next t ∧ (t.cr k.val).peer = none)

/-- The Crier's domain: role, registrar, joining, DOMAIN packets, segments, timers and proofs that time out. CRIER_UNIT_SET sets
the unit, and leaves the domain where role or domain change; CRIER_ADMIT removes a member or ends a request; CRIER_MEMBER_READ
returns the records in order. A segment waits for its object's others; a DOMAIN packet already seen or of another domain is
dropped, any other is remembered, delivered and relayed; BEACON, JOIN_REQ, JOIN_ANSWER, REPORT and the timers do what their
rules say; refused requests and failed proofs end. -/
def Obligations.CrierDomainActs : Prop :=
  (∀ (c : Cmd) (s : State), crierUnitSetOp.passes c s → ∃ u : State, exec (.crierUnitSet c) s = .next (u.answered c 0x0302 0 []) ∧
    u.crier.role = (c.p 0).fld 31 30 ∧ u.crier.admitAuto = (c.p 0).bit 29 ∧
    u.crier.timePort = (if (c.p 0).bit 28 then 1 else 0) ∧ u.crier.hops = (c.p 0).fld 27 24 ∧
    u.crier.report = (c.p 0).fld 15 0 ∧ u.crier.domainId = (c.p 1).toNat ∧
    u.crier.rejoin = (if (c.p 2).bit 31 then some ((c.p 2).fld 17 0) else none) ∧
    ((c.p 0).fld 31 30 = s.crier.role → (c.p 1).toNat = s.crier.domainId → u.crier.state = s.crier.state ∧
      u.crier.domain = s.crier.domain ∧ u.crier.members = s.crier.members ∧ u.crier.joins = s.crier.joins) ∧
    ((c.p 0).fld 31 30 ≠ s.crier.role ∨ (c.p 1).toNat ≠ s.crier.domainId → u.crier.state = 0 ∧ u.crier.joins = [] ∧
      ((c.p 0).fld 31 30 ≠ 2 → u.crier.domain = 0 ∧ u.crier.members = []) ∧
      ((c.p 0).fld 31 30 = 2 → u.crier.domain = (c.p 1).toNat ∧ u.crier.address = 0 ∧ 0 ∈ u.crier.members))) ∧
  (∀ (c : Cmd) (s : State), crierAdmitOp.passes c s → ∃ u : State, exec (.crierAdmit c) s = .next (u.answered c 0x0305 0 []) ∧
    ((c.p 0).fld 31 30 = 3 → (c.p 0).fld 17 0 ∉ u.crier.members) ∧
    ((c.p 0).fld 31 30 ≠ 3 → u.crier.joins = s.crier.joins.filter fun j => j.id != (c.p 1).fld 15 0)) ∧
  (∀ (c : Cmd) (s : State), crierMemberReadOp.passes c s → exec (.crierMemberRead c) s =
    .next ((readRecords ((List.range ((c.p 0).fld 31 27)).map ((c.p 0).fld 17 0 + ·)) s).2.answered c 0x0306 0
      (readRecords ((List.range ((c.p 0).fld 31 27)).map ((c.p 0).fld 17 0 + ·)) s).1)) ∧
  (∀ (s u : State) (k : Fin 4) (x : CrIn), s.live = true →
    s.takeIn (fun x => x.listener == k.val && (x.type == 7 || x.type == 0x107)) = some (x, u) → x.type = 7 →
    exec (.segment k) s = .next (u.takePart x.listener none [] x.payload) ∧
    ((s.cr x.listener).objects = [] → 2 ≤ leAt x.payload 4 2 → (x.payload.drop 8).length ≤ 16384 →
      ((u.takePart x.listener none [] x.payload).cr x.listener).objects = [⟨none, [], byteAt x.payload 0, byteAt x.payload 1,
        leAt x.payload 4 2, [(leAt x.payload 2 2, some (x.payload.drop 8))], s.time⟩])) ∧
  (∀ (s : State) (k : Fin 4) (o : CrObject) (r : List CrObject), s.live = true → (s.cr k.val).objects = o :: r →
    ∃ t, exec (.objectTimeout k) s = .next t ∧ (t.cr k.val).objects = r ∧
      t.counter (crCtr k.val 11) = (s.counter (crCtr k.val 11) + 1) % 2 ^ 48) ∧
  (∀ (s u : State) (k : Fin 4) (x : CrIn), s.live = true → s.takeOf k 0x10 = some (x, u) → 22 ≤ x.payload.length →
    ((s.acceptsDomain x.payload = false ∨ (s.crier.seen.any fun e => e.1 == domainKey x.payload && decide (s.time < e.2 + 60 * second)) = true) →
      exec (.domain k) s = .next u) ∧
    (s.acceptsDomain x.payload = true → (s.crier.seen.any fun e => e.1 == domainKey x.payload && decide (s.time < e.2 + 60 * second)) = false →
      ∃ t, exec (.domain k) s = .next t ∧ t.crier.seen = ((domainKey x.payload, s.time) :: s.crier.seen).take 1024 ∧
      (innerOf x.payload = 5 → byteAt x.payload 10 / 16 % 2 = 1 → s.crier.buffer.length < 64 → ∃ e, t.crier.buffer = s.crier.buffer ++ [e] ∧
        e.kind = 1 ∧ e.bytes = x.payload.drop 14) ∧
      (∀ q, q < 2 → s.inDomain = true → byteAt x.payload 10 / 16 % 2 = 1 → 1 < byteAt x.payload 10 % 16 →
        (s.listenerPort x.listener).map (·.val) ≠ some q → (s.cr q).txEnable = true → (s.cr q).queue.length < 32 →
        (t.cr q).queue = (s.cr q).queue ++
          [{ type := 0x10, payload := x.payload.set 10 (BitVec.ofNat 8 (byteAt x.payload 10 - 1)), relayed := true }]))) ∧
  (∀ (s u : State) (k : Fin 4) (x : CrIn), s.live = true → s.takeOf k 0x101 = some (x, u) → s.crier.role = 2 → x.src = none →
    s.crier.joins.any (fun j => j.fpShort == (x.payload.drop 14).take 8) = false → ∃ t, exec (.joinReq k) s = .next t ∧
    t.crier.joins = s.crier.joins ++ [⟨x.listener, (x.payload.drop 14).take 8, [],
      if byteAt x.payload 25 % 2 = 1 then some (leAt x.payload 22 3 % 2 ^ 18) else none, false, s.crier.nextReq⟩] ∧
    t.hall.challenges = s.hall.challenges ++ [⟨x.listener, some s.crier.nextReq, (x.payload.drop 14).take 8,
      leBytes 32 (Config.freeValue s.free), none, none, none⟩]) ∧
  (∀ (s u : State) (k : Fin 4) (x : CrIn), s.live = true → s.takeOf k 0x102 = some (x, u) → s.crier.role = 1 → s.crier.state = 1 →
    (x.payload.drop 14).take 8 = ownFpShort → ∃ t, exec (.joinAnswer k) s = .next t ∧
    (byteAt x.payload 25 = 0 → t.crier.state = 2 ∧ t.crier.address = leAt x.payload 22 3 % 2 ^ 18) ∧
    (byteAt x.payload 25 ≠ 0 → t.crier.state = 0 ∧ t.crier.domain = 0 ∧ t.crier.waiting = true)) ∧
  (∀ (s u : State) (k : Fin 4) (x : CrIn) (a : Nat), s.live = true → s.takeOf k 0x103 = some (x, u) → x.src = some a →
    s.crier.role = 2 → s.crier.members.contains a = true → exec (.report k) s = .next (u.updRecord a (putAt 68
      (leBytes 4 (neighbour (leAt (x.payload.drop 14) 0 3)) ++ leBytes 4 (neighbour (leAt (x.payload.drop 14) 3 3)) ++
        leBytes 4 (byteAt (x.payload.drop 14) 6 * 256 + byteAt (x.payload.drop 14) 7))))) ∧
  (∀ (s u : State) (k : Fin 4) (x : CrIn), s.live = true → s.takeOf k 0x104 = some (x, u) → s.crier.role = 1 →
    s.crier.state = 0 → s.crier.waiting = false → ∃ t, exec (.beacon k) s = .next t ∧ t.crier.state = 1 ∧
    t.crier.domain = leAt x.payload 0 4) ∧
  (∀ s : State, s.live = true →
    (s.crier.role = 2 → exec .beaconTimer s = .next (s.sendDomain none 4 (leBytes 6 (if s.timing.todSet then s.timing.tod else 0) ++
      leBytes 3 s.crier.members.length ++ [BitVec.ofNat 8 (b2n s.crier.admitAuto)]))) ∧
    (s.crier.role = 1 → s.crier.state = 2 → exec .reportTimer s = .next (s.sendDomain (some 0) 3 (leBytes 3 (s.heardAddress 0) ++
      leBytes 3 (s.heardAddress 1) ++ [BitVec.ofNat 8 (s.cr 0).txCode, BitVec.ofNat 8 (s.cr 1).txCode]))) ∧
    (s.crier.role = 1 → s.crier.state = 1 → exec .joinReqTimer s = .next s.sendJoin) ∧
    (∀ j, s.crier.joins.find? (·.decide_) = some j → ∃ t, exec .admitTimeout s = .next t ∧
      t.crier.joins = s.crier.joins.filter fun x => x.id != j.id) ∧
    (∃ t, exec .rejoinWaitExpiry s = .next t ∧ t.crier.waiting = false) ∧
    (∀ c r, s.hall.challenges = c :: r → ∃ t, exec .proofTimeout s = .next t ∧ t.hall.challenges = r ∧
      t.hall.proofsFailed = sat 65535 (s.hall.proofsFailed + 1)))

/-- What a whole-stripe write stores, a later read delivers, even where any one stack's cell fails its CRC. With all four stacks
WORKING and no injection waiting, a whole-stripe write to a stripe of a FLOW_CONTEXT or CRIER_TABLE bay completes, and a read
of that stripe in the state it leaves delivers with mark 0 exactly the 768 bytes written, whether every cell passes its CRC or
any one of the four cells fails (it is then rebuilt from the other three). -/
def Obligations.StripeSurvivesAFailedCell : Prop :=
  ∀ (s : State) (kind : Fin 5) (n : Nat) (p : Port) (tick : Nat) (data : List Byte), s.live = true → n < stripes →
    (kind = 3 ∨ kind = 4) → (s.part kind.val).isSome = true → s.ofKind kind.val n = true → (∀ k, k < 4 → (s.stack k).st = .working) →
    s.store.inject = none → ∃ t, exec (.stripeWrite kind n p tick data) s = .next t ∧
    ∀ bad : List Nat, (bad = [] ∨ ∃ k, k < 4 ∧ bad = [k]) → ∃ u, exec (.stripeRead kind n bad) t = .next u ∧
      u.store.delivered = some ⟨kind.val, n, 0, fixData data⟩

/-- The Storehouse's commands: partitions created, set, resized and deleted, stacks retired and restored, an error injected.
STORE_PART_CREATE gives the partition its settings and the lowest free bays with the next epoch, which advances;
STORE_PART_SET changes the settings of QUEUE and SKEW; STORE_PART_RESIZE starts a job that grows at once, ends at once or
drains the bays above; STORE_PART_DELETE frees the bays; a retired stack is LOST, a restored one RESTORING under a job; an
injection waits for its read. -/
def Obligations.StoreCommandsAct : Prop :=
  (∀ (c : Cmd) (s : State), storePartCreateOp.passes c s →
    (s.store.epochNext ≤ 0xFFFFFFFF → ∃ u : State,
      exec (.storePartCreate c) s = .next (u.answered c 0x0401 0 [w32 s.store.epochNext]) ∧
      u.store.epochNext = s.store.epochNext + 1 ∧
      u.part (kindOf c) = some { discard := (c.p 0).bit 24, limit := (c.p 0).fld 23 14, epochLast := s.store.epochNext } ∧
      (∀ k, k ≠ kindOf c → u.part k = s.part k) ∧
      (∀ b, u.bay b = if b ∈ ((List.range bayCount).filter fun b => (s.bay b).kind == 0).take ((fixedBays (kindOf c)).getD ((c.p 0).fld 13 0))
        then ⟨kindOf c, s.store.epochNext, false⟩ else s.bay b)) ∧
    (0xFFFFFFFF < s.store.epochNext → exec (.storePartCreate c) s = .next (refuse 0x0401 ⟨stRefused, 0xFFFF, 0x1C⟩ c s))) ∧
  (∀ (c : Cmd) (s : State) (q : Part), storePartSetOp.passes c s → s.part (kindOf c) = some q →
    (kindFixed c = true → exec (.storePartSet c) s = .next (s.answered c 0x0404 0 [])) ∧
    (kindFixed c = false → exec (.storePartSet c) s = .next ((s.setPart (kindOf c)
      { q with discard := (c.p 0).bit 24, limit := (c.p 0).fld 23 14 }).answered c 0x0404 0 []))) ∧
  (∀ (c : Cmd) (s : State) (q : Part), storePartResizeOp.passes c s → s.part (kindOf c) = some q →
    ((s.baysOf (kindOf c)).length < (c.p 0).fld 13 0 → s.store.epochNext ≤ 0xFFFFFFFF → ∃ u : State,
      exec (.storePartResize c) s = .next (u.answered c 0x0402 1 [w32 s.clerk.nextJob]) ∧ u.store.epochNext = s.store.epochNext + 1 ∧
      (∀ b, u.bay b = (s.assignBays (kindOf c) ((c.p 0).fld 13 0 - (s.baysOf (kindOf c)).length)).bay b)) ∧
    ((s.baysOf (kindOf c)).length < (c.p 0).fld 13 0 → 0xFFFFFFFF < s.store.epochNext →
      exec (.storePartResize c) s = .next (refuse 0x0402 ⟨stRefused, 0xFFFF, 0x1C⟩ c s)) ∧
    ((c.p 0).fld 13 0 = (s.baysOf (kindOf c)).length → exec (.storePartResize c) s = .next (((s.startJob 0x0402 c).endJob
      s.clerk.nextJob 0 [w32 ((c.p 0).fld 13 0)]).answered c 0x0402 1 [w32 s.clerk.nextJob])) ∧
    ((c.p 0).fld 13 0 < (s.baysOf (kindOf c)).length → ∃ (u : State) (x : Part),
      exec (.storePartResize c) s = .next (u.answered c 0x0402 1 [w32 s.clerk.nextJob]) ∧ u.part (kindOf c) = some x ∧
      x.shrink = some s.clerk.nextJob ∧ x.live = q.live ∧
      (∀ b ∈ (s.baysOf (kindOf c)).drop ((c.p 0).fld 13 0), u.bay b = { s.bay b with draining := true }))) ∧
  (∀ (c : Cmd) (s : State), storePartDeleteOp.passes c s → ∃ u : State, exec (.storePartDelete c) s = .next (u.answered c 0x0403 0 []) ∧
    u.part (kindOf c) = none ∧ (∀ k, k ≠ kindOf c → u.part k = s.part k) ∧
    (∀ b, u.bay b = if b ∈ s.baysOf (kindOf c) then {} else s.bay b)) ∧
  (∀ (c : Cmd) (s : State), storeStackRetireOp.passes c s → ∃ u : State, exec (.storeStackRetire c) s = .next (u.answered c 0x0408 0 []) ∧
    (u.stack ((c.p 0).fld 1 0)).st = .lost) ∧
  (∀ (c : Cmd) (s : State), storeStackRestoreOp.passes c s → ∃ u : State,
    exec (.storeStackRestore c) s = .next (u.answered c 0x0409 1 [w32 s.clerk.nextJob]) ∧
    (u.stack ((c.p 0).fld 1 0)).st = .restoring ∧ u.store.restore = some { stack := (c.p 0).fld 1 0, job := s.clerk.nextJob }) ∧
  (∀ (c : Cmd) (s : State), storeInjectOp.passes c s → exec (.storeInject c) s = .next ((s.withStore { s.store with
    inject := some ((c.p 0).fld 31 30, (c.p 0).fld 27 24, (c.p 0).fld 1 0) }).answered c 0x040A 0 []))

/-- The Storehouse's stripe accesses, held writers, stacks that retrain, are lost or restored, and shrinks that end. A stripe read
delivers its judged mark, and an uncorrectable one costs its partition what it held; whole-stripe writes of SKEW allocate,
wait or are dropped; partial writes merge; a rebuilt cell is written back; a writer held too long is discarded; a freed stripe
leaves the live ones; a stack retrains, works again, is lost or is restored through training, test and rebuild; a shrink ends
when its bays are drained. -/
def Obligations.StripesAndStacks : Prop :=
  (∀ (s : State) (kind : Fin 5) (n : Nat) (bad : List Nat), s.live = true → n < stripes →
    (kind.val ≠ 0 → (s.part kind.val = none ∨ s.ofKind kind.val n = true) →
      ((s.readStripe kind.val n bad).1.mark ≠ 2 ∨ kind.val = 1 → exec (.stripeRead kind n bad) s = .next (s.readStripe kind.val n bad).2) ∧
      ((s.readStripe kind.val n bad).1.mark = 2 → (kind.val = 2 → exec (.stripeRead kind n bad) s = .next ((s.readStripe kind.val n bad).2.queueLost n)) ∧
        (kind.val = 3 → exec (.stripeRead kind n bad) s = .next ((s.readStripe kind.val n bad).2.recordsLost n)) ∧
        (kind.val = 4 → exec (.stripeRead kind n bad) s = .next ((s.readStripe kind.val n bad).2.tableLost n [0, 1, 2]))) ∧
      (s.part kind.val = none → (s.readStripe kind.val n bad).1.mark = 1 ∧
        (s.readStripe kind.val n bad).2.store.delivered = some ⟨kind.val, n, 1, List.replicate 768 0⟩)) ∧
    (∀ w, kind.val = 0 → s.hier.sweepStore = some w → s.nextSwept w = some n → ∃ t x, exec (.stripeRead kind n bad) s = .next t ∧
      t.hier.sweepStore = some x ∧ x.reached = some n ∧ x.job = w.job)) ∧
  (∀ (s : State) (kind : Fin 5) (n : Nat) (p : Port) (tick : Nat) (data : List Byte), s.live = true → n < stripes →
    (kind.val = 2 → exec (.stripeWrite kind n p tick data) s = .next s) ∧
    (kind.val = 1 → s.store.lostFrames.contains (p.val, tick) = true →
      exec (.stripeWrite kind n p tick data) s = .next (s.bump (storeCtr 8) 1)) ∧
    (∀ q, kind.val = 1 → s.store.lostFrames.contains (p.val, tick) = false → s.part 1 = some q →
      (∀ m, q.held = [] → s.allocate 1 = some m → ∃ t x, exec (.stripeWrite kind n p tick data) s = .next t ∧ t.part 1 = some x ∧
        x.live = insertNat m q.live) ∧
      (q.held ≠ [] → ∃ t, exec (.stripeWrite kind n p tick data) s = .next t ∧
        t.part 1 = some { q with held := q.held ++ [⟨p.val, tick, 0, fixData data⟩] })) ∧
    (3 ≤ kind.val → s.part kind.val = none → exec (.stripeWrite kind n p tick data) s = .next (s.bump (storeCtr 8) 1))) ∧
  (∀ (s : State) (kind : Fin 5) (n : Nat) (cell : Fin 3) (data : List Byte) (bad : List Nat), s.live = true → n < stripes → kind.val ≠ 0 →
    (s.part kind.val = none ∨ s.ofKind kind.val n = true) →
    (kind.val ≤ 2 → exec (.readMergeWrite kind n cell data bad) s = .next (s.mergeStripe kind.val n bad (putRecord cell.val data)).2) ∧
    (kind.val = 3 → s.part 3 ≠ none → exec (.readMergeWrite kind n cell data bad) s = .next
      ((s.mergeStripe kind.val n bad (putRecord cell.val data)).2.loseZeroed (match (s.baysOf 3).findIdx? (· == n / bayStripes) with
        | some k => 3 * (k * bayStripes + n % bayStripes) + cell.val | none => 0)
        ((s.mergeStripe kind.val n bad (putRecord cell.val data)).1.zeroed.filter (· != cell.val)))) ∧
    (kind.val = 4 → s.part 4 ≠ none → exec (.readMergeWrite kind n cell data bad) s = .next
      (((s.mergeStripe kind.val n bad (putRecord cell.val data)).2.tableLost n
        ((s.mergeStripe kind.val n bad (putRecord cell.val data)).1.zeroed.filter (· != cell.val))).tableWritten n
        (putRecord cell.val data (s.mergeStripe kind.val n bad (putRecord cell.val data)).1.data)))) ∧
  (∀ (s : State) (n k : Nat) (r : List (Nat × Nat)), s.live = true → s.store.writeBacks = (n, k) :: r → k < 4 →
    ∃ t, exec .cellWriteBack s = .next t ∧ t.store.writeBacks = r ∧
      ((s.stack k).st = .working → t.store.cell n k = s.store.rebuilt n k) ∧ ((s.stack k).st ≠ .working → t.store.mem = s.store.mem)) ∧
  (∀ (s : State) (kind : Fin 5) (q : Part), s.live = true → kind.val = 1 → s.part 1 = some q → q.heldDiscard = true → q.held ≠ [] →
    ∃ t, exec (.holdLimitExpiry kind) s = .next t ∧ t.part 1 = some { q with held := [], dropping := true }) ∧
  (∀ (s : State) (kind : Fin 5) (n : Nat) (q : Part), s.live = true → n < stripes → kind.val = 1 → s.part 1 = some q → q.live.contains n = true →
    exec (.stripeFree kind n) s = .next (s.freeStripe 1 n).2 ∧
    (q.held = [] → ∃ x, (s.freeStripe 1 n).2.part 1 = some x ∧ x.live = q.live.filter (· != n))) ∧
  (∀ (s : State) (k : Fin 4), s.live = true →
    ((s.stack k.val).st = .working → ∃ t, exec (.stackInterfaceFault k) s = .next t ∧ (t.stack k.val).st = .retraining) ∧
    (∀ r, (s.stack k.val).st = .restoring → s.store.restore = some r → ∃ t, exec (.stackInterfaceFault k) s = .next t ∧
      t.store.restore = some { r with phase := 0, failures := 0 }) ∧
    ((s.stack k.val).st = .retraining → (∃ t, exec (.trainingDone k) s = .next t ∧ (t.stack k.val).st = .working) ∧
      (∃ t, exec (.trainingTimeout k) s = .next t ∧ (t.stack k.val).st = .lost)) ∧
    (256 ≤ s.failedCells k.val → (∀ j, j < 4 → j ≠ k.val → s.failedCells j < 16) → (s.stack k.val).st ≠ .lost →
      (s.stack k.val).st ≠ .restoring → ∃ t, exec (.crcRateLoss k) s = .next t ∧ (t.stack k.val).st = .lost)) ∧
  (∀ (s : State) (r : Restore), s.live = true → s.store.restore = some r →
    (r.phase = 0 → (∃ t, exec (.restoreTrainDone true) s = .next t ∧ t.store.restore = some { r with phase := 1 }) ∧
      (∃ t, exec (.restoreTrainDone false) s = .next t ∧ t.store.restore = none ∧ (t.stack r.stack).st = .lost)) ∧
    (r.phase = 1 → (∃ t, exec (.restoreTestDone 0) s = .next t ∧ t.store.restore = some { r with phase := 2, failures := 0 }) ∧
      (∀ f, 0 < f → ∃ t, exec (.restoreTestDone f) s = .next t ∧ t.store.restore = none ∧ (t.stack r.stack).st = .lost)) ∧
    (r.phase = 2 → ∃ t, exec .restoreRebuildDone s = .next t ∧ t.store.restore = none ∧ (t.stack r.stack).st = .working)) ∧
  (∀ (s : State) (kind : Fin 5) (q : Part) (job : Nat), s.live = true → s.part kind.val = some q → q.shrink = some job → s.drained kind.val = true →
    ∃ t x, exec (.shrinkDrainDone kind) s = .next t ∧ t.part kind.val = some x ∧ x.shrink = none ∧
      (∀ b ∈ s.baysOf kind.val, (s.bay b).draining = true → t.bay b = {}) ∧ (∀ b, (s.bay b).draining = false → t.bay b = s.bay b))

/-- Flow and cipher commands: interfaces, flows, classification, threads, keys and rollovers are what the command says. A served
FLOW_IFACE_SET sets one interface; FLOW_SET binds, changes or deletes each flow it names in its directions; FLOW_CLASS_MAP
sets the entries; FLOW_THREAD_SET sets the thread at transmit and receive; CIPH_KEY_LOAD unwraps and loads the next transmit
key or a receive slot, or refuses a key that does not unwrap; CIPH_ROLLOVER arms the rollover. -/
def Obligations.FlowCommandsAct : Prop :=
  (∀ (c : Cmd) (s : State), flowIfaceSetOp.passes c s → ∃ u : State, exec (.flowIfaceSet c) s = .next (u.answered c 0x0601 0 []) ∧
    (∀ i, u.fi i = if i = (c.p 0).fld 31 24 then { s.fi i with
      classMode := (c.p 0).fld 23 22, missDiscard := (c.p 0).bit 21, defaultFlow := (c.p 0).fld 19 0 } else s.fi i)) ∧
  (∀ (c : Cmd) (s : State), flowSetOp.passes c s → ∃ v : State,
    exec (.flowSet c) s = .next ((v.refreshPools.runAll).answered c 0x0602 0 []) ∧
    ∀ e ∈ flowEntries c, (∀ e' ∈ flowEntries c, e'.flow = e.flow → e' = e) →
      ((c.p 0).bit 31 = true → (v.txFlow e.flow).map (fun x => (x.thread, x.ciph, x.ctx, x.pin, x.quantum)) =
        if e.quantum = 0 then none else some (e.thread, e.ciph, e.ctx, e.pin, e.quantum)) ∧
      ((c.p 0).bit 30 = true → v.rxFlow e.flow = if e.quantum = 0 then none else some ⟨e.thread, e.ciph, e.ctx, e.pin⟩)) ∧
  (∀ (c : Cmd) (s : State), flowClassMapOp.passes c s →
    exec (.flowClassMap c) s = .next ((s.withFlow { s.flow with classes := classesAfter c s }).answered c 0x0603 0 []) ∧
    ((c.p 0).fld 9 0 = 1 → ∀ k, Tab.get 0 (classesAfter c s) k =
      if k = classKey c 0 then (if (c.p 2).bit 31 then 0 else (c.p 2).fld 19 0 + 1) else Tab.get 0 s.flow.classes k)) ∧
  (∀ (c : Cmd) (s : State), flowThreadSetOp.passes c s → ∃ u : State, exec (.flowThreadSet c) s = .next (u.answered c 0x0604 0 []) ∧
    ((c.p 0).bit 31 = true → (u.txThread ((c.p 0).fld 17 0)).stream = ((c.p 0).fld 29 28 == 1) ∧
      (u.txThread ((c.p 0).fld 17 0)).lenAdj = (c.p 1).sfld 6 0) ∧
    ((c.p 0).bit 30 = true → (u.rxThread ((c.p 0).fld 17 0)).stream = ((c.p 0).fld 29 28 == 1) ∧
      (u.rxThread ((c.p 0).fld 17 0)).replace = (c.p 0).fld 27 26 ∧ (u.rxThread ((c.p 0).fld 17 0)).egress = some ((c.p 0).fld 25 18))) ∧
  (∀ (c : Cmd) (s : State) (k : List Byte), ciphKeyLoadOp.passes c s → s.hall.kek = some k →
    (Config.aesUnwrap k (bytesOf ((c.params.drop 2).take 10)) = none →
      exec (.ciphKeyLoad c) s = .next (refuse 0x0701 ⟨stRefused, 0xFFFF, 0x25⟩ c (s.bump (ciphCtr 8) 1))) ∧
    (∀ key, Config.aesUnwrap k (bytesOf ((c.params.drop 2).take 10)) = some key →
      ∃ u : State, exec (.ciphKeyLoad c) s = .next (u.answered c 0x0701 0 []) ∧
        ((c.p 0).fld 31 30 = 2 → (u.txCtx ((c.p 0).fld 19 0)).next = some ⟨(c.p 0).fld 27 20, c.p 1, key, 1⟩) ∧
        ((c.p 0).fld 31 30 ≠ 2 → (u.rxCtx ((c.p 0).fld 19 0)).a = some ⟨(c.p 0).fld 27 20, c.p 1, key, 0, 0, 0⟩ ∨
          (u.rxCtx ((c.p 0).fld 19 0)).b = some ⟨(c.p 0).fld 27 20, c.p 1, key, 0, 0, 0⟩))) ∧
  (∀ (c : Cmd) (s : State), ciphKeyLoadOp.passes c s → s.hall.kek = none →
    exec (.ciphKeyLoad c) s = .next (refuse 0x0701 ⟨stRefused, 0xFFFF, 0x25⟩ c (s.bump (ciphCtr 8) 1))) ∧
  (∀ (c : Cmd) (s : State), ciphRolloverOp.passes c s → ∃ u : State, exec (.ciphRollover c) s = .next (u.answered c 0x0702 0 []) ∧
    u.txCtx ((c.p 0).fld 19 0) = { s.txCtx ((c.p 0).fld 19 0) with roll := some (if (c.p 0).bit 31 then 1 else 0, (c.p 1).toNat) })

/-- Client frames, records, cipher engines, tails, schedulers, rollovers, received parcels, decryption and egress. A frame of bad
length or FCS, an unmatched one and one that finds the ingress full are discarded, another joins its buffer; a missed record
is filled; a message done is packed; tails are written when full, flushed or evicted; a scheduler sends idle headers, waits
for a stripe, adds the quantum or sends the parcel; a due rollover makes the next key current; parcels are delineated; a
message is authenticated, replay-checked and delivered; egress sends or discards a frame. -/
def Obligations.FlowHappenings : Prop :=
  (∀ (s : State) (i : Fin 256) (bytes : List Byte) (y : LaneIface), s.live = true → s.laneIface i.val = some y → y.up = true →
    (s.streams i.val = true → exec (.clientFrameArrive i bytes) s = .next (s.takeStream i.val bytes)) ∧
    (s.streams i.val = false → ¬(esmcFrame bytes = true ∧ (s.esmcOf i.val).isEmpty = false) →
      (bytes.length < 64 ∨ 16000 < bytes.length ∨ fcsOk bytes = false →
        exec (.clientFrameArrive i bytes) s = .next (s.ingressDrop i.val 2)) ∧
      (64 ≤ bytes.length → bytes.length ≤ 16000 → fcsOk bytes = true →
        (s.classify i.val bytes = none → exec (.clientFrameArrive i bytes) s = .next (s.ingressDrop i.val 1)) ∧
        (∀ f, s.classify i.val bytes = some f →
          (65536 < ((s.fi i.val).ingress.map fun f => f.bytes.length).sum + bytes.length →
            exec (.clientFrameArrive i bytes) s = .next (s.ingressDrop i.val 3)) ∧
          (((s.fi i.val).ingress.map fun f => f.bytes.length).sum + bytes.length ≤ 65536 → s.flow.shortTx = false →
            exec (.clientFrameArrive i bytes) s = .next (runIngress i.val ((s.fi i.val).ingress ++ [⟨f, bytes⟩]) s)))))) ∧
  (∀ (s : State) (f : Nat) (bad : List Nat), s.live = true → f < 1048576 → s.cached f = false →
    let r := (s.bump (flowCtr 8) 1).readStripe 3 (s.recordAt 3 f).1 bad
    exec (.recordFill f bad) s = .next ((((if r.1.mark = 0 then r.2 else r.2.loseRecord f).useRecord f).runAll).resolveAll)) ∧
  (∀ (s : State) (n : Nat) (m : TxMsg), s.live = true → s.flow.txMsgs[n]? = some m → m.done = false →
    exec (.cipherMessageDone n) s = .next ((((s.withFlow { s.flow with txMsgs := s.flow.txMsgs.set n { m with done := true } }).bump
      (ciphCtr 0) 1).packDone).runAll)) ∧
  (∀ (s : State) (f : Nat) (x : TxFlow) (g : Seg), s.live = true → s.txFlow f = some x →
    (x.segs.any (·.st == .closed) = true → exec (.tailWrite f 0) s = .next (((s.issue f).packDone).runAll)) ∧
    (x.segs.any (·.st == .closed) = false → x.tail = some g →
      (x.flush = true → s.affords x g = true →
        exec (.tailWrite f 1) s = .next (((((s.closeTail f x g).bump (flowCtr 5) 1).issue f).packDone).runAll)) ∧
      (s.tailBlocked = true → s.tailRegion = none → s.victim = some f →
        exec (.tailWrite f 2) s = .next (((((s.closeTail f x g).bump (flowCtr 7) 1).issue f).packDone).runAll)))) ∧
  (∀ (s : State) (t tick : Nat) (bad : List (Nat × List Nat)), s.live = true → (s.thread 1 t).isSome = true →
    ((s.txThread t).stream = true → tick % 256 = 0 → exec (.threadBytesNeeded t tick bad) s = .next (s.sendSegment t tick).runAll) ∧
    ((s.txThread t).stream = false → s.sizeNow 1 t ≠ 0 →
      ((s.txThread t).active = [] → exec (.threadBytesNeeded t tick bad) s = .next (s.emit (.thread t idleHeader)).runAll) ∧
      (∀ f r x p ps, (s.txThread t).active = f :: r → s.txFlow f = some x → x.parcels = p :: ps →
        ((x.stripesOf p).all (fun e => match e.2.st with | .written _ => true | _ => false) = true →
          (x.deficit < counted p.frame (s.txThread t).lenAdj → exec (.threadBytesNeeded t tick bad) s = .next
            (((s.setTxFlow f { x with deficit := x.deficit + s.quantumNow x }).updTxThread t fun z => { z with active := z.active.drop 1 ++ [f] }).runAll)) ∧
          (counted p.frame (s.txThread t).lenAdj ≤ x.deficit → exec (.threadBytesNeeded t tick bad) s = .next (s.sendParcel t f x p bad).runAll)) ∧
        ((x.stripesOf p).all (fun e => match e.2.st with | .written _ => true | _ => false) = false →
          exec (.threadBytesNeeded t tick bad) s = .next
            (((s.setTxFlow f { x with flush := x.flush || (x.stripesOf p).any fun e => e.2.st == .open_ }).updTxThread t
              fun z => { z with active := z.active.drop 1 ++ [f] }).runAll))))) ∧
  (∀ (s : State) (p : Port) (c : Nat) (x : TxCtx), s.live = true →
    (s.flow.txCtx.filter fun e => match e.2.roll with | some r => r.1 == p && (s.lp p).mfReached r.2 | none => false) = [(c, x)] →
    ∃ t, exec (.keyRollover p) s = .next t ∧ t.txCtx c = { cur := x.next } ∧ ∀ d, d ≠ c → t.txCtx d = s.txCtx d) ∧
  (∀ (s : State) (t pos : Nat) (hdr : BitVec 64) (body : List Byte), s.live = true → s.threadServes t = true → (s.rxThread t).stream = false →
    ((s.rxThread t).sync = some pos → hdrOk hdr = true → exec (.rxParcel t pos hdr body) s =
      .next ((s.updRxThread t fun r => { r with sync := some (pos + parcelLen hdr) }).takeParcel t hdr body)) ∧
    ((s.rxThread t).sync = some pos → hdrOk hdr = false → exec (.rxParcel t pos hdr body) s = .next ((s.hunt t).bump (flowCtr 11) 1) ∧
      (s.hunt t).rxThread t = { s.rxThread t with sync := none, cands := [] }) ∧
    ((s.rxThread t).sync = none → hdrOk hdr = true → (s.rxThread t).cands.contains pos = false →
      ∃ u, exec (.rxParcel t pos hdr body) s = .next u ∧ (u.rxThread t).cands = (s.rxThread t).cands ++ [pos + parcelLen hdr]) ∧
    ((s.rxThread t).sync = none → hdrOk hdr = true → (s.rxThread t).cands.contains pos = true → exec (.rxParcel t pos hdr body) s =
      .next ((evDelin t false (s.updRxThread t fun r => { r with sync := some (pos + parcelLen hdr), cands := [] })).takeParcel t hdr body))) ∧
  (∀ (s : State) (n : Nat) (m : RxMsg) (r : Nat) (x : RxFlow) (k : RxKey), s.live = true → s.flow.rxMsgs[n]? = some m → m.state = .cipher r →
    s.rxFlow m.flow = some x → m.keyId < 256 →
    ((∀ y, (s.rxCtx x.ctx).a = some y → y.id ≠ m.keyId) → (∀ y, (s.rxCtx x.ctx).b = some y → y.id ≠ m.keyId) →
      exec (.cipherDecrypt n) s = .next (s.authFail n 3 x.ctx m).resolveAll) ∧
    ((s.rxCtx x.ctx).a = some k → k.id = m.keyId →
      (m.open_ k = none → exec (.cipherDecrypt n) s = .next (s.authFail n 1 x.ctx m).resolveAll) ∧
      (∀ plain, m.open_ k = some plain →
        (k.fresh (beNat (m.body.take 8)) = false → exec (.cipherDecrypt n) s = .next (s.authFail n 2 x.ctx m).resolveAll) ∧
        (k.fresh (beNat (m.body.take 8)) = true → m.segment = none → ∃ u : State, exec (.cipherDecrypt n) s = .next u.resolveAll ∧
          u.flow.rxMsgs = s.flow.rxMsgs.set n { m with state := .frame plain } ∧
          u.rxCtx x.ctx = { s.rxCtx x.ctx with a := some (k.accept (beNat (m.body.take 8)) (s.flow.order + 1)) })))) ∧
  (∀ (s : State) (i : Fin 256) (m : RxMsg) (bs : List Byte), s.live = true → s.flow.rxMsgs = [m] → m.state = .frame bs →
    (s.rxThread m.thread).egress = some i.val →
    ∃ t, exec (.egressDeliver i) s = .next t ∧ t.flow.rxMsgs = [] ∧
      (s.egressLevel i.val + 8 * bs.length * egressBit ≤ egressMax → t.out = s.out ++ [.client i.val m.flow bs]) ∧
      (egressMax < s.egressLevel i.val + 8 * bs.length * egressBit → t.out = s.out))

/-- The client lanes' commands and happenings: groups, interfaces, enables, mutes, settings, bring-up, loss, faults. A served
CLIENT_GROUP_CONFIG or CLIENT_IFACE_SET commits, or is refused where the aggregate would exceed 6,400 Gb/s; CLIENT_LANE_ENABLE
and CLIENT_LANE_MUTE move exactly the lanes of the mask; equaliser, transmitter and pattern settings are those of the command.
LOS, bring-up steps and bounds, loss of lock, analogue faults and their end move the receive direction as R336 to R339 say;
the eye report follows its hold. The cause of a move that Table 11-14 gives none is the model's free value. -/
def Obligations.ClientLanesAct : Prop :=
  (∀ (c : Cmd) (s : State), clientGroupConfigOp.passes c s →
    let g := clientGroup c
    let t := s.withLanes { s.lanes with groups := s.lanes.groups.upd g fun x => { x with eyeMin := (c.p 0).fld 15 8, rate := (c.p 0).fld 0 0 } }
    ((c.p 0).fld 0 0 = (s.lanes.groups.get g).rate ∨ t.aggregateBut 256 ≤ aggregateMax →
      exec (.clientGroupConfig c) s = .next (t.answered c 0x0A01 0 [])) ∧
    ((c.p 0).fld 0 0 ≠ (s.lanes.groups.get g).rate → aggregateMax < t.aggregateBut 256 →
      exec (.clientGroupConfig c) s = .next (refuse 0x0A01 ⟨stRefused, 0xFFFF, 0x2D⟩ c s))) ∧
  (∀ (c : Cmd) (s : State), clientIfaceSetOp.passes c s →
    let i := (clientIfaceOf c).1
    let x := (clientIfaceOf c).2
    let own := x.width * clientLaneRate (s.lanes.groups.get (clientGroup c)).rate * 1000
    (x.mode = 0 → ∃ u : State, exec (.clientIfaceSet c) s = .next (u.answered c 0x0A02 0 []) ∧ u.laneIface i = none) ∧
    (x.mode ≠ 0 → s.aggregateBut i + own ≤ aggregateMax → ∃ (u : State) (y : LaneIface), exec (.clientIfaceSet c) s = .next (u.answered c 0x0A02 0 []) ∧
      u.laneIface i = some y ∧ y.mode = x.mode ∧ y.width = x.width) ∧
    (x.mode ≠ 0 → aggregateMax < s.aggregateBut i + own →
      exec (.clientIfaceSet c) s = .next (refuse 0x0A02 ⟨stRefused, 0xFFFF, 0x2D⟩ c s))) ∧
  (∀ (c : Cmd) (s : State), clientLaneEnableOp.passes c s → ∃ u : State, exec (.clientLaneEnable c) s = .next (u.answered c 0x0A03 0 []) ∧
    ∀ l, ((u.cl (clientGroup c) l).rx, (u.cl (clientGroup c) l).tx) =
      if l ∈ maskLanes 8 ((c.p 0).fld 23 16) then
        (if (c.p 0).bit 8 = false then (s.cl (clientGroup c) l).rx
         else if (c.p 0).bit 0 = false then .off
         else if (s.cl (clientGroup c) l).rx = .off then .signalWait else (s.cl (clientGroup c) l).rx,
         if (c.p 0).bit 9 = false then (s.cl (clientGroup c) l).tx
         else if (c.p 0).bit 0 = false then .off
         else if (s.cl (clientGroup c) l).tx = .off then .muted else (s.cl (clientGroup c) l).tx)
      else ((s.cl (clientGroup c) l).rx, (s.cl (clientGroup c) l).tx)) ∧
  (∀ (c : Cmd) (s : State), clientLaneMuteOp.passes c s → ∃ u : State, exec (.clientLaneMute c) s = .next (u.answered c 0x0A04 0 []) ∧
    ∀ l, (u.cl (clientGroup c) l).tx =
      if l ∈ maskLanes 8 ((c.p 0).fld 23 16) ∧ (s.cl (clientGroup c) l).tx ≠ .off then (if (c.p 0).bit 0 then .muted else .on)
      else (s.cl (clientGroup c) l).tx) ∧
  (∀ (c : Cmd) (s : State), clientEqSetOp.passes c s → ∃ u : State, exec (.clientEqSet c) s = .next (u.answered c 0x0A05 0 []) ∧
    u.cl (clientGroup c) ((c.p 0).fld 31 29) = { s.cl (clientGroup c) ((c.p 0).fld 31 29) with
      adapt := (c.p 0).bit 28, mu := (c.p 0).fld 27 24, main := (c.p 0).fld 23 20, dfe := (c.p 0).bit 19, rxPrecode := (c.p 0).bit 18 }) ∧
  (∀ (c : Cmd) (s : State), clientTxSetOp.passes c s → ∃ u : State, exec (.clientTxSet c) s = .next (u.answered c 0x0A06 0 []) ∧
    u.cl (clientGroup c) ((c.p 0).fld 31 29) = { s.cl (clientGroup c) ((c.p 0).fld 31 29) with
      txPrecode := (c.p 0).bit 28, swing := (c.p 0).fld 21 16, rlm := (c.p 0).fld 9 0, taps := txTaps c }) ∧
  (∀ (c : Cmd) (s : State), clientPatternSetOp.passes c s → ∃ u : State, exec (.clientPatternSet c) s = .next (u.answered c 0x0A07 0 []) ∧
    u.cl (clientGroup c) ((c.p 0).fld 31 29) = { s.cl (clientGroup c) ((c.p 0).fld 31 29) with
      gen := (c.p 0).bit 28, check := (c.p 0).bit 27, pattern := (c.p 0).fld 3 0 }) ∧
  (∀ (c : Cmd) (s : State), clientLaneStatusOp.passes c s → exec (.clientLaneStatus c) s = .next ((s.withFree (s.free + 5)).answered c 0x0A08 0
    (clientLaneStatus (s.cl (clientGroup c) ((c.p 0).fld 2 0)) fun k => Config.freeValue (s.free + k)))) ∧
  (∀ (s : State) (g : Fin 2) (l : Fin 8), s.live = true → (s.cl g l.val).rx ≠ .off →
    ((s.cl g l.val).los = false → ∃ t, exec (.clientLosDeclare g l) s = .next t ∧ (t.cl g l.val).rx = .signalWait ∧ (t.cl g l.val).los = true) ∧
    ((s.cl g l.val).los = true → ∃ t, exec (.clientLosClear g l) s = .next t ∧ (t.cl g l.val).los = false ∧
      (t.cl g l.val).rx = if (s.cl g l.val).adcFault || (s.cl g l.val).dacFault then (s.cl g l.val).rx else .train)) ∧
  (∀ (s : State) (g : Fin 2) (l peer : Fin 8) (late : Bool), s.live = true →
    ((s.cl g l.val).rx = .train → (s.cl g l.val).step = 0 →
      ∃ t, exec (.clientBringupStepDone g l peer late) s = .next t ∧ t.cl g l.val = { s.cl g l.val with step := 1 }) ∧
    ((s.cl g l.val).rx = .train → (s.cl g l.val).step = 1 → ∃ t, exec (.clientBringupStepDone g l peer late) s = .next t ∧
      (t.cl g l.val).rx = .align ∧ (t.cl g l.val).step = 2) ∧
    ((s.cl g l.val).rx = .align → (s.cl g l.val).step = 3 → ∃ t, exec (.clientBringupStepDone g l peer late) s = .next t ∧
      (t.cl g l.val).rx = .up ∧ (t.cl g l.val).peer = peer.val)) ∧
  (∀ (s : State) (g : Fin 2) (l : Fin 8), s.live = true → ((s.cl g l.val).rx = .train ∨ (s.cl g l.val).rx = .align) →
    ∃ t, exec (.clientBringupExpiry g l) s = .next t ∧ (t.cl g l.val).rx = .train ∧ (t.cl g l.val).step = 0) ∧
  (∀ (s : State) (g : Fin 2) (l : Fin 8), s.live = true → (s.cl g l.val).rx = .up →
    (∃ t, exec (.clientLol g l) s = .next t ∧ (t.cl g l.val).rx = .train ∧ (t.cl g l.val).peer = 0xFF) ∧
    (∀ below, (s.cl g l.val).eyeLow = !below → ∃ t, exec (.clientEyeHold g l below) s = .next t ∧
      t.cl g l.val = { s.cl g l.val with eyeLow := below })) ∧
  (∀ (s : State) (g : Fin 2) (l : Fin 8) (adc : Bool), s.live = true →
    (((s.cl g l.val).rx ≠ .off ∨ (s.cl g l.val).tx ≠ .off) → (if adc then (s.cl g l.val).adcFault else (s.cl g l.val).dacFault) = false →
      ∃ t, exec (.clientAnalogueFault g l adc) s = .next t ∧ (if adc then (t.cl g l.val).adcFault else (t.cl g l.val).dacFault) = true ∧
        (t.cl g l.val).rx = if (s.cl g l.val).rx = .off then .off else .signalWait) ∧
    ((if adc then (s.cl g l.val).adcFault else (s.cl g l.val).dacFault) = true →
      ∃ t, exec (.clientLaneFaultEnd g l adc) s = .next t ∧ (if adc then (t.cl g l.val).adcFault else (t.cl g l.val).dacFault) = false ∧
        (t.cl g l.val).rx = if (s.cl g l.val).rx = .signalWait ∧ (s.cl g l.val).los = false ∧
          (if adc then (s.cl g l.val).dacFault else (s.cl g l.val).adcFault) = false then .train else (s.cl g l.val).rx))

/-- The host lanes' commands and happenings: equalisation table, interfaces, enables, squelch, patterns, lock, faults. A served
HOST_EQ_LOAD writes its entries and extends measurement register 4; HOST_IFACE_SET commits or is refused over the aggregate;
HOST_LANE_ENABLE and HOST_LANE_SQUELCH move exactly the lanes of the mask; patterns and injection are those of the command.
LOS, lock, loss of lock, restart, alignment, analogue faults and checker sync move the lane as R357 to R360 say. -/
def Obligations.HostLanesAct : Prop :=
  (∀ (c : Cmd) (s : State), hostEqLoadOp.passes c s → exec (.hostEqLoad c) s = .next (((s.withLanes { s.lanes with
      eq := (List.range ((c.p 0).fld 9 0)).foldl (fun t e => Tab.set [] t (eqKey c e) (eqEntry c e)) s.lanes.eq }).extend 4
        (bytesOf c.params)).answered c 0x0B01 0 []) ∧
    ((c.p 0).fld 9 0 = 1 → ∀ k, Tab.get [] ((List.range ((c.p 0).fld 9 0)).foldl (fun t e => Tab.set [] t (eqKey c e) (eqEntry c e)) s.lanes.eq) k =
      if k = eqKey c 0 then eqEntry c 0 else Tab.get [] s.lanes.eq k)) ∧
  (∀ (c : Cmd) (s : State), hostIfaceSetOp.passes c s →
    let i := (hostIfaceOf c s).1
    let x := (hostIfaceOf c s).2
    let own := if x.mode = 3 then hostLaneKbps x.rate else (signalRate x.width x.rate).getD 0 * 1000000
    (x.mode = 0 → ∃ u : State, exec (.hostIfaceSet c) s = .next (u.answered c 0x0B02 0 []) ∧ u.laneIface i = none) ∧
    (x.mode ≠ 0 → s.aggregateBut i + own ≤ aggregateMax → ∃ (u : State) (y : LaneIface), exec (.hostIfaceSet c) s = .next (u.answered c 0x0B02 0 []) ∧
      u.laneIface i = some y ∧ y.mode = x.mode ∧ y.width = x.width ∧ y.rate = x.rate) ∧
    (x.mode ≠ 0 → aggregateMax < s.aggregateBut i + own →
      exec (.hostIfaceSet c) s = .next (refuse 0x0B02 ⟨stRefused, 0xFFFF, 0x2D⟩ c s))) ∧
  (∀ (c : Cmd) (s : State), hostLaneEnableOp.passes c s → ∃ u : State, exec (.hostLaneEnable c) s = .next (u.answered c 0x0B03 0 []) ∧
    ∀ l, ((u.hl l).rx, (u.hl l).tx, (u.hl l).rate) =
      if l ∈ (maskLanes 16 ((c.p 0).fld 31 16)).map (hostLane c) then
        (if (c.p 0).bit 8 = false then (s.hl l).rx
         else if (c.p 0).bit 0 = false then .off
         else if (s.hl l).rx = .off then .signalWait else (s.hl l).rx,
         if (c.p 0).bit 9 = false then (s.hl l).tx
         else if (c.p 0).bit 0 = false then .off
         else if (s.hl l).tx = .off then .muted else (s.hl l).tx,
         if (c.p 0).bit 0 = true ∧ (s.hl l).rx = .off ∧ (s.hl l).tx = .off then (c.p 0).fld 12 10 else (s.hl l).rate)
      else ((s.hl l).rx, (s.hl l).tx, (s.hl l).rate)) ∧
  (∀ (c : Cmd) (s : State), hostLaneSquelchOp.passes c s → ∃ u : State, exec (.hostLaneSquelch c) s = .next (u.answered c 0x0B04 0 []) ∧
    ∀ l, (u.hl l).tx =
      if l ∈ (maskLanes 16 ((c.p 0).fld 31 16)).map (hostLane c) ∧ (s.hl l).tx ≠ .off then (if (c.p 0).bit 0 then .muted else .on)
      else (s.hl l).tx) ∧
  (∀ (c : Cmd) (s : State), hostPatternSetOp.passes c s → ∃ u : State, exec (.hostPatternSet c) s = .next (u.answered c 0x0B05 0 []) ∧
    u.hl (hostLane c ((c.p 0).fld 31 28)) = { s.hl (hostLane c ((c.p 0).fld 31 28)) with
      gen := (c.p 0).bit 27, check := (c.p 0).bit 26, pattern := (c.p 0).fld 25 22,
      checkSync := (s.hl (hostLane c ((c.p 0).fld 31 28))).checkSync && (c.p 0).bit 26 &&
        (s.hl (hostLane c ((c.p 0).fld 31 28))).pattern == (c.p 0).fld 25 22 }) ∧
  (∀ (c : Cmd) (s : State), hostInjectOp.passes c s →
    let l := hostLane c ((c.p 0).fld 31 28)
    ((c.p 0).fld 27 26 = 1 → exec (.hostInject c) s = .next ((s.bump (hostCtr l 10) 1).answered c 0x0B06 0 [])) ∧
    ((c.p 0).fld 27 26 ≠ 1 → exec (.hostInject c) s = .next ((s.updHl l fun x =>
      { x with inject := if (c.p 0).fld 27 26 = 2 then some ((c.p 0).fld 25 20) else none }).answered c 0x0B06 0 []))) ∧
  (∀ (c : Cmd) (s : State), hostLaneStatusOp.passes c s → exec (.hostLaneStatus c) s = .next ((s.withFree (s.free + 4)).answered c 0x0B07 0
    (hostLaneStatus (hostLane c ((c.p 0).fld 3 0)) (fun k => Config.freeValue (s.free + k)) s))) ∧
  (∀ (s : State) (l : Fin 128), s.live = true → (s.hl l.val).rx ≠ .off →
    ((s.hl l.val).los = false → ∃ t, exec (.hostLosDeclare l) s = .next t ∧ (t.hl l.val).rx = .signalWait ∧ (t.hl l.val).los = true) ∧
    ((s.hl l.val).los = true → ∃ t, exec (.hostLosClear l) s = .next t ∧ (t.hl l.val).los = false ∧
      (t.hl l.val).rx = if (s.hl l.val).rxFault || (s.hl l.val).txFault then (s.hl l.val).rx else .train)) ∧
  (∀ (s : State) (l : Fin 128), s.live = true →
    ((s.hl l.val).rx = .train → (∃ t, exec (.hostLockUp l) s = .next t ∧ (t.hl l.val).rx = .up) ∧
      (∃ t, exec (.hostLockRestart l) s = .next t ∧ t.hl l.val = s.hl l.val ∧
        t.counter (hostCtr l.val 2) = (s.counter (hostCtr l.val 2) + 1) % 2 ^ 48)) ∧
    ((s.hl l.val).rx = .up → (∃ t, exec (.hostLol l) s = .next t ∧ (t.hl l.val).rx = .train ∧ (t.hl l.val).checkSync = false) ∧
      ((s.hl l.val).check = true → (s.hl l.val).checkSync = false → ∃ t, exec (.checkerSync l) s = .next t ∧
        t.hl l.val = { s.hl l.val with checkSync := true })) ∧
    ((s.hl l.val).checkSync = true → ∃ t, exec (.checkerSyncLoss l) s = .next t ∧ t.hl l.val = { s.hl l.val with checkSync := false })) ∧
  (∀ (s : State) (f : Fin 128) (locked skewed : Bool) (x : LaneIface), s.live = true → s.laneIface f.val = some x → x.mode ≠ 3 → x.aligned = !locked →
    (∀ l ∈ ifaceLanes f.val x, (s.hl l).rx = .up ∧ (s.hl l).gen = false ∧ (s.hl l).check = false) →
    ∃ t y, exec (.hostIfaceAlign f locked skewed) s = .next t ∧ t.laneIface f.val = some y ∧ y.aligned = locked ∧ y.up = locked) ∧
  (∀ (s : State) (l : Fin 128) (rx : Bool), s.live = true →
    (((s.hl l.val).rx ≠ .off ∨ (s.hl l.val).tx ≠ .off) → (if rx then (s.hl l.val).rxFault else (s.hl l.val).txFault) = false →
      ∃ t, exec (.hostAnalogueFault l rx) s = .next t ∧ (if rx then (t.hl l.val).rxFault else (t.hl l.val).txFault) = true ∧
        (t.hl l.val).rx = if (s.hl l.val).rx = .off then .off else .signalWait) ∧
    ((if rx then (s.hl l.val).rxFault else (s.hl l.val).txFault) = true →
      ∃ t, exec (.hostLaneFaultEnd l rx) s = .next t ∧ (if rx then (t.hl l.val).rxFault else (t.hl l.val).txFault) = false ∧
        (t.hl l.val).rx = if (s.hl l.val).rx = .signalWait ∧ (s.hl l.val).los = false ∧
          (if rx then (s.hl l.val).txFault else (s.hl l.val).rxFault) = false then .train else (s.hl l.val).rx))

/-- The timing commands set crystals, candidates, DPLLs, priorities, outputs, forces and the time of day as they say. A served
TIMING_CONFIG sets its fields and changes the active crystal to a preferred one while neither is in FAULT; TIMING_REF_SET puts
its candidate INACTIVE with the new settings and no other; TIMING_DPLL_SET, TIMING_PRIO_SET, TIMING_OUT_SET and
TIMING_FP_ALIGN set what they name; TIMING_FORCE forces a reference, HOLDOVER, or nothing; TIMING_TOD_SET waits for the next
tick. -/
def Obligations.TimingCommandsAct : Prop :=
  (∀ (c : Cmd) (s : State), timingConfigOp.passes c s → ∃ u : State, exec (.timingConfig c) s = .next (u.answered c 0x0101 0 []) ∧
    u.timing.xtalPref = (c.p 0).bit 29 ∧ u.timing.xtalBackup = (c.p 0).bit 28 ∧ u.timing.master = (c.p 0).fld 27 24 ∧
    u.timing.option2 = (c.p 0).bit 23 ∧ u.timing.tickSrc = (c.p 0).bit 22 ∧
    u.timing.xtal = (if (s.xtal s.timing.xtal).fault = false then (c.p 0).bit 29 else s.timing.xtal)) ∧
  (∀ (c : Cmd) (s : State), timingRefSetOp.passes c s → ∃ u : State, exec (.timingRefSet c) s = .next (u.answered c 0x0102 0 []) ∧
    (∀ k, k ≠ (c.p 0).fld 31 27 → u.cand k = s.cand k) ∧
    (let y := u.cand ((c.p 0).fld 31 27)
     y.st = .inactive ∧ y.qlSrc = (c.p 0).fld 26 25 ∧ y.hostQl = (c.p 0).fld 24 21 ∧ y.lane = (c.p 0).fld 20 14 ∧
     y.qualTime = (c.p 0).fld 11 0 ∧ y.accept = (c.p 1).fld 31 16 ∧ y.reject = (c.p 1).fld 15 0 ∧
     y.freqHz = (c.p 2).fld 29 0 ∧ y.freqFrac = (c.p 3).toNat ∧ y.offset = 0 ∧ y.good = 0) ∧
    (∀ d, d < 4 → (s.dpll d).ref = some ((c.p 0).fld 31 27) → (u.dpll d).st = .holdover)) ∧
  (∀ (c : Cmd) (s : State), timingDpllSetOp.passes c s → ∃ u : State, exec (.timingDpllSet c) s = .next (u.answered c 0x0103 0 []) ∧
    ∀ d, u.dpll d = if d = (c.p 0).fld 31 30 then { Dpll.setBw ((c.p 0).fld 19 0) (s.dpll d) with
      pbo := (c.p 0).bit 29, holdAvg := (c.p 1).fld 31 16, holdDelay := (c.p 1).fld 15 8, holdQl := (c.p 1).fld 7 4,
      window := (c.p 1).fld 3 0, driftLimit := (c.p 2).fld 31 20, driftRate := (c.p 2).fld 19 10,
      disagree := (c.p 2).fld 9 0, fpOffset := (c.p 3).sfld 29 0 } else s.dpll d) ∧
  (∀ (c : Cmd) (s : State), timingPrioSetOp.passes c s → ∃ u : State, exec (.timingPrioSet c) s = .next (u.answered c 0x0104 0 []) ∧
    ∀ d, u.dpll d = if d = (c.p 0).fld 31 30 then { s.dpll d with revert := (c.p 0).bit 29, prio := prioTab c } else s.dpll d) ∧
  (∀ (c : Cmd) (s : State), timingOutSetOp.passes c s → ∃ u : State, exec (.timingOutSet c) s = .next (u.answered c 0x0105 0 []) ∧
    ∀ o, u.clkOut o = if o ≠ (c.p 0).fld 31 28 then s.clkOut o
      else if o < 8 then { s.clkOut o with enable := (c.p 0).bit 27, dpll := (c.p 0).fld 26 25, freqHz := (c.p 1).fld 29 0 }
      else ClkOut.setFp ((c.p 0).bit 27) ((c.p 0).fld 26 25) ((c.p 0).fld 17 16) ((c.p 0).fld 15 0) (s.clkOut o)) ∧
  (∀ (c : Cmd) (s : State), timingFpAlignOp.passes c s → ∃ u : State, exec (.timingFpAlign c) s = .next (u.answered c 0x0106 0 []) ∧
    ((c.p 0).bit 27 = false → u.clkOut ((c.p 0).fld 31 28) = { s.clkOut ((c.p 0).fld 31 28) with err := some 0, slew := 0 }) ∧
    ((c.p 0).bit 27 = true → (s.clkOut ((c.p 0).fld 31 28)).err ≠ some 0 →
      u.clkOut ((c.p 0).fld 31 28) = { s.clkOut ((c.p 0).fld 31 28) with slew := (c.p 0).fld 15 0, err := none })) ∧
  (∀ (c : Cmd) (s : State), timingForceOp.passes c s → ∃ u : State, exec (.timingForce c) s = .next (u.answered c 0x0107 0 []) ∧
    (u.dpll ((c.p 0).fld 31 30)).forced = (c.p 0).fld 29 28 ∧ (u.dpll ((c.p 0).fld 31 30)).forcedRef = (c.p 0).fld 4 0 ∧
    ((c.p 0).fld 29 28 = 2 → (u.dpll ((c.p 0).fld 31 30)).st = .holdover) ∧
    ((c.p 0).fld 29 28 = 1 → ¬((s.dpll ((c.p 0).fld 31 30)).st = .holdover ∧ (s.dpll ((c.p 0).fld 31 30)).coreFault = true) →
      (u.dpll ((c.p 0).fld 31 30)).ref = some ((c.p 0).fld 4 0)) ∧
    ((c.p 0).fld 29 28 = 0 → (u.dpll ((c.p 0).fld 31 30)).st = (s.dpll ((c.p 0).fld 31 30)).st ∧
      (u.dpll ((c.p 0).fld 31 30)).ref = (s.dpll ((c.p 0).fld 31 30)).ref)) ∧
  (∀ (c : Cmd) (s : State), timingTodSetOp.passes c s → exec (.timingTodSet c) s = .next ((s.withTiming { s.timing with
    todNext := some ((c.p 0).toNat + (c.p 1).fld 15 0 * 2 ^ 32) }).answered c 0x0108 0 []))

/-- Crystals, gates, candidates, selection, lock, bandwidth, core faults, quality levels and the one-second tick. A crystal that
shows no edge hands over to the other where that is permitted, else the clock is lost; candidates qualify and are lost, and
DPLLs that use a lost one enter HOLDOVER; a gate measures a qualifying candidate; selection takes the chosen candidate;
locking, bandwidth steps, core faults, ESMC levels, slews and the tick act as the rules say. That only a reset ends a lost
clock is the model's choice (log entry 20). -/
def Obligations.TimingHappenings : Prop :=
  (∀ (s : State) (x : Fin 2), (s.timing.xtals.get x).still = false → s.timing.clockLost = false →
    (((s.timing.xtals.get x).off = true ∨ s.boot.phase = .reset) → exec (.xtalActivityLoss x) s =
      .next (s.withTiming { s.timing with xtals := s.timing.xtals.set x { s.timing.xtals.get x with still := true } })) ∧
    ((s.timing.xtals.get x).off = false → s.boot.phase ≠ .reset →
      ∃ t, exec (.xtalActivityLoss x) s = .next t ∧ (t.timing.xtals.get x).still = true ∧
        ((x == 1) ≠ s.timing.xtal → t.timing.xtal = s.timing.xtal ∧ t.timing.clockLost = false) ∧
        ((x == 1) = s.timing.xtal → s.timing.xtalBackup = true → (s.xtal (!s.timing.xtal)).fault = false →
          t.timing.xtal = !s.timing.xtal ∧ t.timing.clockLost = false) ∧
        ((x == 1) = s.timing.xtal → (s.timing.xtalBackup = false ∨ (s.xtal (!s.timing.xtal)).fault = true) →
          t.timing.xtal = s.timing.xtal ∧ t.timing.clockLost = true))) ∧
  (∀ (s : State) (x : Fin 2), (s.timing.xtals.get x).still = true → ∃ t, exec (.xtalActivityReturn x) s = .next t ∧
    t.timing.xtals.get x = { s.timing.xtals.get x with still := false }) ∧
  (∀ (s : State) (offsets : List (Nat × Int)) (freqs : List Int) (xdiff : Int), s.live = true →
    let offs := offsets.filter fun e => decide (e.1 ≤ 16)
    let m1 := if s.masterOk then Tab.get s.masterOffset offs s.timing.master else 0
    exec (.gateEnd offsets freqs xdiff) s = .next ((offs.foldl (fun t e => t.refGate s.masterOk m1 e.1 e.2)
      (s.eachDpll (fun d s' => s'.updDpll d (Dpll.gateEnd s.masterOffset m1 (freqs.getD d 0))))).judgeXtals xdiff)) ∧
  (∀ (s : State) (master : Bool) (m o : Int) (c : Nat), (s.cand c).st = .qualifying → (s.refGate master m c o).cand c =
    { s.cand c with offset := o, good := if o.natAbs ≤ (s.cand c).accept * 1000 then (s.cand c).good + (if c = 16 then 16 else 1) else 0 }) ∧
  (∀ (s : State) (c : Fin 17), s.live = true →
    ((s.cand c.val).st = .inactive → s.refReady c.val = true → ∃ t, exec (.refFirstEdge c) s = .next t ∧ (t.cand c.val).st = .qualifying) ∧
    ((s.cand c.val).st = .qualifying → (s.cand c.val).qualTime ≤ (s.cand c.val).good →
      ∃ t, exec (.qualifyComplete c) s = .next t ∧ (t.cand c.val).st = .qualified) ∧
    (((s.cand c.val).st = .qualifying ∨ (s.cand c.val).st = .qualified) → ∃ t, exec (.refActivityLoss c) s = .next t ∧
      (t.cand c.val).st = .inactive ∧ (t.cand c.val).offset = 0 ∧
      ∀ d, d < 4 → (s.dpll d).ref = some c.val → (t.dpll d).st = .holdover)) ∧
  (∀ (s : State), s.live = true → exec .selectionEval s = .next (s.eachDpll State.select)) ∧
  (∀ (s : State) (d c : Nat), (s.dpll d).forced = 0 → (s.dpll d).st = .freeRun → (s.dpll d).ref = none →
    s.choose (s.dpll d) = (some c, none) → ((s.select d).dpll d).st = .acquire ∧ ((s.select d).dpll d).ref = some c) ∧
  (∀ (s : State) (d : Fin 4), s.live = true →
    ((s.dpll d.val).st = .acquire → ∃ t, exec (.dpllLock d) s = .next t ∧ t.dpll d.val = { s.dpll d.val with st := .locked, gates := [], atGate := 0 }) ∧
    ((s.dpll d.val).st = .locked → (s.dpll d.val).bwNow ≠ (s.dpll d.val).bw → ∃ t, exec (.bwStep d) s = .next t ∧
      t.dpll d.val = { s.dpll d.val with bwNow := nextBw (s.dpll d.val).bwNow (s.dpll d.val).bw, atGate := 0 }) ∧
    (∀ diff, (s.dpll d.val).coreFault = false → ∃ t, exec (.coreFault d diff) s = .next t ∧ (t.dpll d.val).coreFault = true ∧
      (t.dpll d.val).st = .holdover)) ∧
  (∀ (s : State) (crierSec : Nat), s.live = true → ∃ t, exec (.oneSecondTick crierSec []) s = .next t ∧
    t.timing.tickSeq = (s.timing.tickSeq + 1) % 2 ^ 32 ∧ t.timing.todNext = none ∧ t.timing.tickTime = s.time64 ∧
    (∀ v, s.timing.todNext = some v → t.timing.tod = v) ∧
    (s.timing.todNext = none → (s.dpll 0).ref ≠ some 16 → t.timing.tod = (s.timing.tod + 1) % 2 ^ 48) ∧
    (s.timing.todNext = none → (s.dpll 0).ref = some 16 → t.timing.tod = crierSec % 2 ^ 48) ∧
    t.loom.counts = [] ∧ t.loom.previous = s.loom.latest) ∧
  (∀ (s : State) (i : Fin 256) (ql : Fin 16), s.live = true → s.esmcOf i.val ≠ [] → ∃ t, exec (.esmcPduReceive i ql) s = .next t ∧
    ∀ c ∈ s.esmcOf i.val, (t.cand c).rxQl = ql.val) ∧
  (∀ (s : State) (c : Fin 17), s.live = true → 8 ≤ c.val → (s.cand c.val).rxQl ≠ 0xF →
    ∃ t, exec (.qlTimeout c) s = .next t ∧ (t.cand c.val).rxQl = 0xF) ∧
  (∀ (s : State) (o : Fin 4), s.live = true → (s.clkOut (8 + o.val)).slew ≠ 0 → ∃ t, exec (.fpSlewEnd o) s = .next t ∧
    t.clkOut (8 + o.val) = { s.clkOut (8 + o.val) with slew := 0, err := some 0 })

/-- Assay's telemetry: timers, sequences, channels, PWMs and bias loops as set; triggers, sequences, results and windows. Served,
each ASSAY_…_SET leaves its timer, source, channel, PWM or bias loop as the command says. A source that fires takes a trigger
in hand or counts an overrun; a delay's end starts the sequence or leaves it pending; a sequence's end starts the pending one
that is next or powers down; a result becomes the channel's value and leaves its window's alarm as R434 says. -/
def Obligations.AssayTelemetryActs : Prop :=
  (∀ (c : Cmd) (s : State), assayTimerSetOp.passes c s → ∃ u : State, exec (.assayTimerSet c) s = .next (u.answered c 0x0201 0 []) ∧
    ∀ t, u.timer t = if t = (c.p 0).fld 31 29 then ⟨(c.p 0).bit 28, (c.p 0).fld 23 0⟩ else s.timer t) ∧
  (∀ (c : Cmd) (s : State), assaySeqSetOp.passes c s → ∃ u : State, exec (.assaySeqSet c) s = .next (u.answered c 0x0202 0 []) ∧
    ∀ k, u.source k = if k = (c.p 0).fld 31 27 then { s.source k with
      seq := (seqBytes c).take ((c.p 0).fld 20 16), delay := (c.p 0).fld 15 0 } else s.source k) ∧
  (∀ (c : Cmd) (s : State), assayChanSetOp.passes c s → ∃ u : State, exec (.assayChanSet c) s = .next (u.answered c 0x0203 0 []) ∧
    (∀ k, k ≠ (c.p 0).fld 31 25 → u.chan k = s.chan k) ∧
    (let x := s.chan ((c.p 0).fld 31 25)
     let y := u.chan ((c.p 0).fld 31 25)
     y.filter = (c.p 0).fld 24 23 ∧ y.window = (c.p 0).bit 22 ∧ y.hyst = (c.p 0).fld 13 0 ∧ y.low = (c.p 1).fld 29 16 ∧
     y.high = (c.p 1).fld 13 0 ∧ y.value = x.value ∧
     (y.out = true ↔ x.out = true ∧ y.low = x.low ∧ y.high = x.high ∧ y.hyst = x.hyst))) ∧
  (∀ (c : Cmd) (s : State), assayPwmSetOp.passes c s → ∃ u : State, exec (.assayPwmSet c) s = .next (u.answered c 0x0205 0 []) ∧
    ∀ l, u.pwm l = if l = (c.p 0).fld 31 27 then { s.pwm l with
      enable := (c.p 0).bit 26, period := (c.p 0).fld 15 0, duty := (c.p 1).fld 15 0 } else s.pwm l) ∧
  (∀ (c : Cmd) (s : State), assayBiasSetOp.passes c s → ∃ u : State, exec (.assayBiasSet c) s = .next (u.answered c 0x0206 0 []) ∧
    ∀ l, u.bias l = if l = (c.p 0).fld 31 27 then { s.bias l with
      enable := (c.p 0).bit 26, kind := (c.p 0).fld 25 24, port := (c.p 0).fld 23 21, sign := (c.p 0).bit 20,
      ditherPeriods := (c.p 0).fld 15 8, monitor := (c.p 0).fld 6 0, dutyMin := (c.p 1).fld 31 16, dutyMax := (c.p 1).fld 15 0,
      gain := (c.p 2).fld 31 28, dither := (c.p 2).fld 27 16, target := (c.p 2).fld 13 0,
      d := if (c.p 0).bit 26 then s.dutyNow l else 0, clamped := (s.bias l).clamped && (c.p 0).bit 26 } else s.bias l) ∧
  (∀ (s : State) (t : Fin 8), s.live = true → (s.timer t.val).enable = true → exec (.assayTimerFire t) s = .next (s.fire t.val)) ∧
  (∀ (s : State) (l : Fin 24), s.live = true → (s.pwm l.val).enable = true → ∃ t : State, exec (.pwmPeriodStart l) s = .next (t.fire (8 + l.val)) ∧
    t.pwm l.val = { s.pwm l.val with periodNow := (s.pwm l.val).period } ∧ ∀ k, t.source k = s.source k) ∧
  (∀ (s : State), s.live = true → exec .internalScan s = .next (s.fire 32)) ∧
  (∀ (s : State) (k : Nat),
    (s.seqOf k = [] → (s.fire k).source k = { s.source k with fired := (s.source k).fired + 1 }) ∧
    (s.seqOf k ≠ [] → (s.source k).hand = false → (s.fire k).source k = { s.source k with
      fired := (s.source k).fired + 1, hand := true, delaying := true }) ∧
    (s.seqOf k ≠ [] → (s.source k).hand = true → (s.fire k).source k = { s.source k with fired := (s.source k).fired + 1 } ∧
      (s.fire k).counter (assayCtr 4) = (s.counter (assayCtr 4) + 1) % 2 ^ 48)) ∧
  (∀ (s : State) (k : Fin 33), s.live = true → (s.source k.val).delaying = true →
    ∃ t, exec (.triggerDelayEnd k) s = .next t ∧ (t.source k.val).delaying = false ∧
      (s.assay.running = none → t.assay.running = some k.val ∧ (t.source k.val).hand = false) ∧
      (∀ r, s.assay.running = some r → t.assay.running = some r ∧ t.assay.pending = s.assay.pending ++ [(s.converterClock, k.val)])) ∧
  (∀ (s : State) (k : Nat), s.live = true → s.assay.running = some k → ∃ t, exec .sequenceEnd s = .next t ∧
    (s.assay.pending = [] → t.assay.running = none) ∧
    (∀ e, nextPending s.assay.pending = some e → t.assay.running = some e.2 ∧ t.assay.pending = dropFirst (· == e) s.assay.pending)) ∧
  (∀ (s : State) (ch : Fin 96) (code : BitVec 14) (fo : Option (BitVec 16 × BitVec 16)) (k : Nat), s.live = true →
    s.assay.running = some k → (s.seqOf k).contains ch.val = true →
    ((s.chan ch.val).filterNow = 0 → ∃ t, exec (.conversionResult ch code fo) s = .next t ∧ (t.chan ch.val).value = some (4 * code.toNat) ∧
      (t.chan ch.val).filtered = false ∧
      (t.chan ch.val).out = (if (s.chan ch.val).window = false then (s.chan ch.val).out
        else if (s.chan ch.val).out = false then
          decide (4 * code.toNat < 4 * (s.chan ch.val).low) || decide (4 * (s.chan ch.val).high < 4 * code.toNat)
        else !(decide (4 * (s.chan ch.val).low + 4 * (s.chan ch.val).hyst ≤ 4 * code.toNat) &&
          decide (4 * code.toNat + 4 * (s.chan ch.val).hyst ≤ 4 * (s.chan ch.val).high)))) ∧
    ((s.chan ch.val).filterNow ≠ 0 → (s.chan ch.val).fade = none → ∀ new old, fo = some (new, old) →
      ∃ t, exec (.conversionResult ch code fo) s = .next t ∧ (t.chan ch.val).value = some new.toNat ∧ (t.chan ch.val).filtered = true) ∧
    ((s.chan ch.val).filterNow ≠ 0 → fo = none → exec (.conversionResult ch code fo) s = .next (s.bump (assayCtr 0) 1)))

/-- Assay's bias loops, calibrations, quality records and supply: updates, alarms, runs, records, raises and steps. A bias loop's
update moves its duty and clamps it; its alarms are reported as they hold and clear; ASSAY_CAL_RUN starts a job, a background
run one of each ready subject, and a run that ends leaves the list, its value committed within its limits or kept; quality
records are updated and read; the pace samples raise the supply, report a shortfall, step it down and note AVSBus faults. -/
def Obligations.AssayLoopsActs : Prop :=
  (∀ (s : State) (l : Fin 24) (plus minus : Nat), s.live = true → (s.bias l.val).able = true → (s.pwm l.val).enable = true →
    s.sweeping l.val = false →
    let x := s.bias l.val
    let v := x.update ((plus : Rat) / (x.ditherPeriods : Rat)) ((minus : Rat) / (x.ditherPeriods : Rat))
    ∃ t, exec (.biasLoopUpdate l plus minus) s = .next t ∧ t.bias l.val = { x with
      d := if v.1 < x.lo then x.lo else if x.hi < v.1 then x.hi else v.1, clamped := v.1 < x.lo || x.hi < v.1, err := v.2 }) ∧
  (∀ (s : State) (l : Fin 24) (cause : Fin 5), s.live = true →
    (1 ≤ cause.val → cause.val ≤ 3 → (s.bias l.val).able = true → s.biasWrong l.val cause.val = true →
      (s.bias l.val).alarms.contains cause.val = false → ∃ t, exec (.biasAlarmHold l cause) s = .next t ∧
        t.bias l.val = { s.bias l.val with alarms := (s.bias l.val).alarms ++ [cause.val] }) ∧
    (cause.val = 4 → (s.bias l.val).alarms ≠ [] → (∀ k, 1 ≤ k → k ≤ 3 → s.biasWrong l.val k = false) →
      ∃ t, exec (.biasAlarmHold l cause) s = .next t ∧ t.bias l.val = { s.bias l.val with alarms := [] })) ∧
  (∀ (c : Cmd) (s : State), assayCalRunOp.passes c s → ∃ u : State,
    exec (.assayCalRun c) s = .next (u.answered c 0x0208 1 [w32 s.clerk.nextJob]) ∧
    u.assay = { s.assay with cals := s.assay.cals ++ [⟨(c.p 0).fld 31 28, (c.p 0).fld 19 0, (c.p 0).bit 27, some s.clerk.nextJob⟩] } ∧
    u.clerk.jobs = s.clerk.jobs ++ [⟨s.clerk.nextJob, 0x0208, c.target.toNat, c.params, 0, false⟩]) ∧
  (∀ (c : Cmd) (s : State), assayCalSetOp.passes c s → exec (.assayCalSet c) s = .next ((s.withAssay { s.assay with
    periods := Tab.set none s.assay.periods ((c.p 0).fld 31 28) (some ((c.p 0).fld 15 0)) }).answered c 0x0209 0 [])) ∧
  (∀ (c : Cmd) (s : State), assayQualityReadOp.passes c s → exec (.assayQualityRead c) s = .next (s.answered c 0x020A 0
    ((List.range ((c.p 0).fld 15 8)).flatMap fun k => (s.qualityAt ((c.p 0).fld 31 24) ((c.p 0).fld 23 16 + k)).words
      ((c.p 0).fld 31 24) ((c.p 0).fld 23 16 + k)))) ∧
  (∀ (s : State) (kind : Fin 16) (p : Nat), s.live = true → calPeriodReset kind.val = some p → s.calPeriod kind.val ≠ 0 →
    (∃ t, exec (.calBackground kind) s = .next t ∧ ∀ x ∈ t.assay.cals, x ∈ s.assay.cals ∨ (x.kind = kind.val ∧ x.apply = true ∧ x.job = none)) ∧
    (s.calSubjects kind.val = [0] → kind.val ≠ 5 → kind.val ≠ 6 → s.calRuns kind.val 0 = false → s.calReady kind.val 0 = true →
      exec (.calBackground kind) s = .next (s.withAssay { s.assay with cals := s.assay.cals ++ [⟨kind.val, 0, true, none⟩] }))) ∧
  (∀ (s : State) (n : Nat) (c : AsCal) (res : List (Nat × Nat × List Int)) (qn qo : Nat), s.live = true → s.assay.cals[n]? = some c →
    ∃ t, exec (.calRunDone n res qn qo) s = .next t ∧ t.assay.cals = dropFirst (· == c) s.assay.cals ∧
      (∀ said vs, c.kind = 1 → c.apply = true → res.find? (fun e => e.1 == 0) = some (0, said, vs) →
        (calCause 1 said vs = 0 → t.assay.values = Tab.set [] s.assay.values (calKey 1 0) vs) ∧
        (calCause 1 said vs ≠ 0 → t.assay.values = s.assay.values))) ∧
  (∀ (s : State) (m : Fin 16) (i : Nat) (value : Option Int) (r : Int) (measured : Bool), s.live = true → i < qualityRange m.val →
    (s.qualityValue m.val i value = none → ∃ t, exec (.qualityUpdate m i value r measured) s = .next t ∧
      t.assay.quality = Tab.set {} s.assay.quality (m.val * 256 + i) { s.qualityAt m.val i with valid := false }) ∧
    (∀ v, s.qualityValue m.val i value = some v → ∃ t, exec (.qualityUpdate m i value r measured) s = .next t ∧
      t.assay.quality = Tab.set {} s.assay.quality (m.val * 256 + i) ⟨true, if m.val = 1 then measured else true, v, (s.qualityRef m.val i r).1,
        qualityGap m.val v (s.qualityRef m.val i r).1, (s.qualityRef m.val i r).2, s.timeWord,
        (s.qualityRef m.val i r).2 != 0 && decide ((s.qualityRef m.val i r).2 < qualityGap m.val v (s.qualityRef m.val i r).1)⟩)) ∧
  (∀ (s : State) (readings : List (Nat × Nat × Nat)) (predicted readBack : Nat) (ok : Bool), s.live = true →
    let a := s.assay
    let s1 := s.withAssay { a with
      pace := (readings.filter fun e => decide (e.1 < 30)).foldl (fun t (e : Nat × Nat × Nat) => Tab.set none t e.1 (some e.2)) [],
      vddRead := readBack, mismatch := a.mismatch && farOff a.vddCmd readBack }
    (s1.worstPace = none → exec (.paceSample readings predicted ok readBack) s = .next s1) ∧
    (∀ g w, s1.worstPace = some (g, w) →
      (1140 ≤ w → exec (.paceSample readings predicted ok readBack) s = .next s1) ∧
      (w < 1140 → ∃ t, exec (.paceSample readings predicted ok readBack) s = .next t ∧
        t.assay.vddCmd = max a.vddCmd (min 800 (max 550 predicted)) ∧
        (w < 1120 → a.vddCmd = 800 → t.bar0.paceShort = true ∧ t.assay.shortfall = true)))) ∧
  (∀ (s : State) (ok : Bool), s.live = true →
    ((∀ g w, s.worstPace = some (g, w) → 1180 ≤ w) → s.paceHeld = false → 550 < s.assay.vddCmd →
      ∃ t, exec (.paceLowerStep ok) s = .next t ∧ t.assay.vddCmd = max 550 (s.assay.vddCmd - 5)) ∧
    (s.assay.shortfall = true → (∀ g w, s.worstPace = some (g, w) → 1120 ≤ w) →
      ∃ t, exec .paceRestored s = .next t ∧ t.assay.shortfall = false) ∧
    (s.assay.busFault = true → ∃ t, exec (.avsbusRetry ok) s = .next t ∧ t.assay.busFault = !ok ∧ t.assay.vddCmd = s.assay.vddCmd) ∧
    (∀ readBack, farOff s.assay.vddCmd readBack = true → s.assay.mismatch = false →
      ∃ t, exec (.avsMismatchHold readBack) s = .next t ∧ t.assay.mismatch = true ∧ t.assay.vddRead = readBack))

/-- Hallmark and diagnostics: reads, attestation, the KEK, fuses, the counter mask; SRAM words, sweeps, injections, restored
entries. Served, the Hallmark reads answer the certificate, the registers, the signed snapshot and the status; an offer
replaces the pending one; an accepted KEK is the first 32 bytes of OKM and extends register 5, a CONFIRM that does not match
is refused and leaves the KEK, and both erase the offer. Fuses are blown one at a time, each extending register 3; a read-back
that fails ends the job. An SRAM word that is read counts as never written, corrected or uncorrectable; what a lost entry of
the classifier, a bolt or a thread leaves, CONFIG_RESTORE puts back; sweeps start and end; DIAG_INJECT leaves its injection or
swaps the control pairs. Which cells hold SRAM is the model's choice (log entry 7). -/
def Obligations.HallmarkAndDiagAct : Prop :=
  (∀ (c : Cmd) (s : State), hallmarkCertReadOp.passes c s → exec (.hallmarkCertRead c) s = .next (s.answered c 0x0D01 0
    (mkw [(15, 0, (certBytes ((c.p 0).fld 0 0)).length)] :: wordsOf (certBytes ((c.p 0).fld 0 0)))) ∧
    1 ≤ (certBytes ((c.p 0).fld 0 0)).length ∧ (certBytes ((c.p 0).fld 0 0)).length ≤ 8160) ∧
  (∀ (c : Cmd) (s : State), hallmarkMeasureReadOp.passes c s → exec (.hallmarkMeasureRead c) s = .next (s.answered c 0x0D02 0
    (wordsOf (s.measure 0 ++ s.measure 1 ++ s.measure 2 ++ s.measure 3 ++ s.measure 4 ++ s.measure 5 ++ s.measure 6 ++ s.measure 7)))) ∧
  (∀ (c : Cmd) (s : State), hallmarkAttestOp.passes c s →
    let head : List Word := mkw [(6, 0, s.hall.fuses)] :: (words64 s.time64 ++ wordsOf s.measures)
    exec (.hallmarkAttest c) s = .next (s.answered c 0x0D03 0 (head ++ sigWords "HM-ATTEST" (bytesOf head ++ bytesOf c.params.tail)))) ∧
  (∀ (c : Cmd) (s : State), hallmarkStatusOp.passes c s → exec (.hallmarkStatus c) s = .next (s.answered c 0x0D08 0 (hallmarkStatus s))) ∧
  (∀ (c : Cmd) (s : State), hallmarkTallyMaskOp.passes c s → exec (.hallmarkTallyMask c) s =
    .next ((s.withHall { s.hall with tallyMask := (c.p 0).fld 15 0 }).answered c 0x0D07 0 [])) ∧
  (∀ (c : Cmd) (s : State), hallmarkKekOfferOp.passes c s → ∃ u : State,
    let m := offerMessage s.hall.nextOffer s.free
    exec (.hallmarkKekOffer c) s = .next (u.answered c 0x0D04 0 (m ++ sigWords "HM-KEK" (bytesOf m))) ∧
    u.hall = { s.hall with offer := some ⟨s.hall.nextOffer, m⟩, nextOffer := (s.hall.nextOffer + 1) % 65536 }) ∧
  (∀ (c : Cmd) (s : State) (o : Offer), hallmarkKekAcceptOp.passes c s → s.offerNamed ((c.p 0).fld 15 0) = some o →
    let okm := fixBytes 48 (Config.kekOkm (bytesOf o.message) (acceptQ c) (acceptC c))
    let good := (fixBytes 48 (Config.hmacSha384 (okm.drop 32) (acceptQ c ++ acceptC c))).take 16
    (good = acceptConfirm c → ∃ u : State, exec (.hallmarkKekAccept c) s = .next (u.answered c 0x0D05 0 []) ∧
      u.hall.kek = some (okm.take 32) ∧ u.hall.offer = none ∧ u.hall.fuses = s.hall.fuses ∧
      ∀ k, u.measure k = if k = 5 then sha384 (s.measure 5 ++ sha384 (bytesOf o.message ++ acceptQ c ++ acceptC c)) else s.measure k) ∧
    (good ≠ acceptConfirm c → ∃ u : State,
      exec (.hallmarkKekAccept c) s = .next (u.answered c 0x0D05 0x19 [mkw [(31, 16, 0xFFFF), (15, 0, 0x3B)]]) ∧
      u.hall = { s.hall with offer := none })) ∧
  (∀ (c : Cmd) (s : State), hallmarkFuseAdvanceOp.passes c s → ∃ u : State,
    exec (.hallmarkFuseAdvance c) s = .next (u.answered c 0x0D06 1 [w32 s.clerk.nextJob]) ∧ u.hall = s.hall ∧
    ((c.p 0).fld 6 0 ≤ s.hall.fuses → ∀ j ∈ u.clerk.jobs, j.num ≠ s.clerk.nextJob) ∧
    (s.hall.fuses < (c.p 0).fld 6 0 → u.clerk.jobs = s.clerk.jobs ++ [⟨s.clerk.nextJob, 0x0D06, c.target.toNat, c.params, 0, false⟩])) ∧
  (∀ (s : State) (j : Job), s.live = true → s.findJob 0x0D06 (fun _ => true) = some j →
    let n := (j.params.getD 0 0).fld 6 0
    (∃ t, exec (.fuseBlown false) s = .next t ∧ t.hall = s.hall ∧ t.clerk.jobs = s.clerk.jobs.filter (fun k => k.num != j.num) ∧
      (t.clerk.ended.head?.map fun e => (e.num, e.status)) = some (j.num, 0x20)) ∧
    (s.hall.fuses < n → ∃ t, exec (.fuseBlown true) s = .next t ∧ t.hall.fuses = s.hall.fuses + 1 ∧
      t.measure 3 = sha384 (s.measure 3 ++ sha384 (svnItem (s.hall.fuses + 1) s.serv.running.svn (s.serv.verified.map fun v => v.svn))) ∧
      (s.hall.fuses + 1 = n → t.clerk.jobs = s.clerk.jobs.filter (fun k => k.num != j.num) ∧
        (t.clerk.ended.head?.map fun e => (e.num, e.status)) = some (j.num, 0)) ∧
      (s.hall.fuses + 1 ≠ n → j.cancel = true → t.clerk.jobs = s.clerk.jobs.filter (fun k => k.num != j.num) ∧
        (t.clerk.ended.head?.map fun e => (e.num, e.status)) = some (j.num, 0x21)) ∧
      (s.hall.fuses + 1 ≠ n → j.cancel = false → t.clerk = s.clerk))) ∧
  (∀ (c : Cmd) (s : State), diagSweepRunOp.passes c s → ∃ u : State,
    exec (.diagSweepRun c) s = .next (u.answered c 0x0F04 1 [w32 s.clerk.nextJob]) ∧
    u.clerk.jobs = s.clerk.jobs ++ [⟨s.clerk.nextJob, 0x0F04, c.target.toNat, c.params, 0, false⟩] ∧
    (let w : Sweep := { job := s.clerk.nextJob, first := (c.p 0).fld 24 0, last := (c.p 1).fld 24 0 }
     ((c.p 0).bit 31 = true → u.hier = { s.hier with sweepStore := some w }) ∧
     ((c.p 0).bit 31 = false → u.hier = { s.hier with sweepHa := some w }))) ∧
  (∀ (c : Cmd) (s : State), diagInjectOp.passes c s →
    ((c.p 0).fld 31 30 ≠ 3 → exec (.diagInject c) s = .next ((s.withHier { s.hier with
      inject := Tab.set 0 s.hier.inject c.target.toNat ((c.p 0).fld 31 30 + 1) }).answered c 0x0F05 0 [])) ∧
    ((c.p 0).fld 31 30 = 3 → ∃ u : State, exec (.diagInject c) s = .next (u.answered c 0x0F05 0 []) ∧
      u.hier.ctlActive = 1 - s.hier.ctlActive ∧ u.hier.ctlStandby = 1 ∧ u.hier.inject = s.hier.inject)) ∧
  (∀ (s : State) (cell : BitVec 20) (addr : Nat) (e : Fin 3) (again sw : Bool) (what : Content) (wr : Bool),
    (targetCell s cell.toNat && holdsSram cell.toNat) = false → exec (.sramRead cell addr wr e again what sw) s = .fault .noSuchUnit) ∧
  (∀ (s : State) (cell : BitVec 20) (addr : Nat) (e : Fin 3) (again : Bool) (what : Content), s.live = true →
    (targetCell s cell.toNat && holdsSram cell.toNat) = true →
    let ha := cell.toNat
    let x := s.sram ha
    let struck := Tab.get 0 s.hier.inject ha
    (∃ t, exec (.sramRead cell addr false e again what false) s = .next t ∧
      t.sram ha = { x with neverWritten := sat 0xFFFFFFFF (x.neverWritten + 1) } ∧
      t.counter (sramTotal ha 3) = (s.counter (sramTotal ha 3) + 1) % 2 ^ 48) ∧
    (struck = 0 → e.val = 0 → exec (.sramRead cell addr true e again what false) s = .next s) ∧
    (struck = 0 → e.val = 1 → ∃ t, exec (.sramRead cell addr true e again what false) s = .next t ∧
      (t.sram ha).corrected = sat 0xFFFFFFFF (x.corrected + 1) ∧ (t.sram ha).uncorrectable = x.uncorrectable ∧
      (t.sram ha).repeated = (if again || x.last.contains addr then sat 0xFFFFFFFF (x.repeated + 1) else x.repeated) ∧
      (t.sram ha).last = (addr :: x.last).take 16) ∧
    (struck = 1 → e.val = 0 → ∃ t, exec (.sramRead cell addr true e again what false) s = .next t ∧
      t.sram ha = { x with corrected := sat 0xFFFFFFFF (x.corrected + 1) } ∧ Tab.get 0 t.hier.inject ha = 0) ∧
    ((struck = 0 ∧ e.val = 2 ∨ struck = 2 ∧ e.val = 0) → ∃ t, exec (.sramRead cell addr true e again what false) s = .next t ∧
      (what = .payload ∨ what = .rewind ∨ what = .llr →
        t.sram ha = { x with uncorrectable := sat 0x7FFFFFFF (x.uncorrectable + 1) } ∧ Tab.get 0 t.hier.inject ha = 0) ∧
      (∀ key v, what = .cls key → Tab.get 0 s.flow.classes key = v → v ≠ 0 →
        Tab.get 0 t.flow.classes key = 0 ∧ t.damage = s.damage ++ [.cls key v]) ∧
      (∀ d b v, what = .bolt d b → s.bolt d b = some v → t.bolt d b = none ∧ t.damage = s.damage ++ [.bolt d b v]) ∧
      (∀ d b v, what = .thread d b → s.thread d b = some v → t.thread d b = none ∧ t.damage = s.damage ++ [.thread d b v]))) ∧
  (∀ (s : State) (cell : BitVec 20) (addr : Nat) (again : Bool) (what : Content) (w : Sweep), s.live = true →
    (targetCell s cell.toNat && holdsSram cell.toNat) = true → s.hier.sweepHa = some w → s.sweepMayRead cell.toNat = true →
    Tab.get 0 s.hier.inject cell.toNat = 0 → exec (.sramRead cell addr true 0 again what true) s =
      .next (s.withHier { s.hier with sweepHa := some (Sweep.readAt cell.toNat w) }) ∧
      (Sweep.readAt cell.toNat w).at_ = some cell.toNat ∧ (Sweep.readAt cell.toNat w).counts = w.counts.set 0 (w.counts.getD 0 0 + 1) ∧
      (w.at_ ≠ some cell.toNat → (Sweep.readAt cell.toNat w).reached = w.at_)) ∧
  (∀ (s : State), s.live = true →
    (∀ d r, s.damage = d :: r → exec .configRestore s = .next ((s.withDamage r).restore d)) ∧
    (∀ key v r, s.damage = .cls key v :: r → Tab.get 0 s.flow.classes key = 0 → ∃ t, exec .configRestore s = .next t ∧
      Tab.get 0 t.flow.classes key = v ∧ t.damage = r)) ∧
  (∀ (s : State) (w : Sweep) (j : Job), s.live = true → s.clerk.jobs.find? (fun k => k.num == w.job) = some j →
    (s.hier.sweepHa = some w → ∃ t, exec (.sweepEnd false) s = .next t ∧ t.hier.sweepHa = none ∧
      t.clerk.ended = (⟨w.job, j.code, 0, ({ w with reached := w.at_ } : Sweep).results s.take.1⟩ :: s.clerk.ended).take 256 ∧
      t.clerk.jobs = s.clerk.jobs.filter (fun k => k.num != w.job)) ∧
    (s.hier.sweepStore = some w → s.nextSwept w = none → ∃ t, exec (.sweepEnd true) s = .next t ∧ t.hier.sweepStore = none ∧
      t.clerk.ended = (⟨w.job, j.code, 0, w.results s.take.1⟩ :: s.clerk.ended).take 256 ∧
      t.clerk.jobs = s.clerk.jobs.filter (fun k => k.num != w.job)))

/-- Service: image slots and their check, changes of blocks, regions and DPLL cores, handover of the control firmware, ageing.
Served, SERVICE_IMAGE_LOAD appends words to the standby slot and ends its verification; a verified image extends register 2, a
rejected one leaves none; SERVICE_HANDOVER loads the standby pair, and on the takeover that pair runs the verified image;
SERVICE_CHANGE starts one change of its region: a migration, a core swap, a pass or a step. PREPARE, COPY, SWITCH and RETEST
follow in turn, each position passing to the incoming block and the freed block being next; a failure ends the change and its
job; a region's roles change by migration; the drive of a DPLL passes from core to core; ageing is recorded daily. -/
def Obligations.ServiceActs : Prop :=
  (∀ (c : Cmd) (s : State), serviceImageLoadOp.passes c s → ∃ u : State, exec (.serviceImageLoad c) s = .next (u.answered c 0x0E01 0 []) ∧
    u.slotWords s.standbySlot = some ((if (c.p 0).bit 31 then [] else (s.slotWords s.standbySlot).getD []) ++ c.params.drop 1) ∧
    u.serv.verified = none ∧ (s.standbySlot < 2 → u.slotWords (1 - s.standbySlot) = s.slotWords (1 - s.standbySlot)) ∧
    u.measure 3 = (if s.serv.verified = none then s.measure 3
      else sha384 (s.measure 3 ++ sha384 (svnItem s.hall.fuses s.serv.running.svn none)))) ∧
  (∀ (c : Cmd) (s : State), serviceImageVerifyOp.passes c s →
    exec (.serviceImageVerify c) s = .next ((s.startJob 0x0E02 c).answered c 0x0E02 1 [w32 s.clerk.nextJob])) ∧
  (∀ (s : State) (readError : Bool) (outside : List Word) (j : Job), (s.live || s.rom) = true →
    s.findJob 0x0E02 (fun _ => true) = some j →
    let img := (s.slotWords s.standbySlot).getD outside
    let cause := if readError then 6 else imageCause s.hall.fuses img
    (cause = 0 → ∃ t, exec (.verifyDone readError outside) s = .next t ∧ t.serv.verified = some (imageInfo img) ∧
      t.measure 2 = sha384 (s.measure 2 ++ sha384 (imageInfo img).digest) ∧
      t.clerk.jobs = s.clerk.jobs.filter (fun k => k.num != j.num) ∧
      (t.clerk.ended.head?.map fun e => (e.num, e.status)) = some (j.num, 0)) ∧
    (cause ≠ 0 → ∃ t, exec (.verifyDone readError outside) s = .next t ∧ t.serv.verified = none ∧ t.measure 2 = s.measure 2 ∧
      t.clerk.jobs = s.clerk.jobs.filter (fun k => k.num != j.num) ∧
      (t.clerk.ended.head?.map fun e => (e.num, e.status)) = some (j.num, 0x19))) ∧
  (∀ (c : Cmd) (s : State), serviceHandoverOp.passes c s → ∃ u : State,
    exec (.serviceHandover c) s = .next (u.answered c 0x0E03 1 [w32 s.clerk.nextJob]) ∧
    (s.live = true → u.serv = { s.serv with handover := some ⟨s.clerk.nextJob, (c.p 0).fld 0 0, 1⟩ } ∧ u.hier.ctlStandby = 1 ∧
      u.clerk.jobs = s.clerk.jobs ++ [⟨s.clerk.nextJob, 0x0E03, c.target.toNat, c.params, 0, false⟩]) ∧
    (s.live = false → u.boot.phase = .image ∧ u.boot.record = (c.p 0).fld 0 0 ∧ u.boot.trying = (c.p 0).fld 0 0 ∧
      u.boot.fallback = false ∧ u.serv = s.serv)) ∧
  (∀ (c : Cmd) (s : State), serviceChangeOp.passes c s →
    let r := haRegion c.target.toNat
    let b := haBlock c.target.toNat
    s.change r = none → ∃ (u : State) (k : Change),
      exec (.serviceChange c) s = .next (u.answered c 0x0E04 1 [w32 s.clerk.nextJob]) ∧ u.change r = some k ∧
      k.region = r ∧ k.job = some s.clerk.nextJob ∧ k.done = 0 ∧ k.cancelled = false ∧
      k.update = ((c.p 0).fld 31 30 == 1) ∧
      (∀ m, s.migrates c = some m → k.method = 2 ∧ k.phase = 1 ∧ k.incoming = m ∧ k.outgoing = r) ∧
      (s.migrates c = none → changedDplls c ≠ [] → k.method = 3 ∧ k.phase = 1 ∧
        k.positions = changedDplls c ++ (if b = 0x3F then s.passPositions r else [])) ∧
      (s.migrates c = none → changedDplls c = [] → b = 0x3F → ∀ sp, s.spareBlock r = some sp →
        k.method = 1 ∧ k.phase = 0 ∧ k.incoming = sp ∧ k.positions = s.passPositions r ∧ (u.block r sp).state = 4) ∧
      (s.migrates c = none → changedDplls c = [] → b ≠ 0x3F → (s.block r b).serves = 0x3F →
        k.method = 1 ∧ k.phase = 4 ∧ k.outgoing = b ∧ (u.block r b).state = 4) ∧
      (s.migrates c = none → changedDplls c = [] → b ≠ 0x3F → (s.block r b).serves ≠ 0x3F → ∀ sp, s.spareBlock r = some sp →
        k.method = 1 ∧ k.phase = 1 ∧ k.incoming = sp ∧ k.positions = [(s.block r b).serves] ∧ (u.block r sp).state = 4)) ∧
  (∀ (s : State) (r : Fin 30) (c : Change) (lost : Bool), s.live = true → s.change r.val = some c → c.method = 1 →
    (c.phase = 1 → exec (.prepareDone r false lost) s = .next (s.setChange { c with phase := 2 }) ∧
      ∃ t, exec (.prepareDone r true lost) s = .next t ∧ t.change r.val = none ∧
        (t.block r.val c.incoming).state = (if lost then 3 else 1) ∧ ∀ n, c.job = some n → ∀ j ∈ t.clerk.jobs, j.num ≠ n) ∧
    (c.phase = 2 → exec (.copyDone r false lost) s = .next (s.setChange { c with phase := 3 }) ∧
      ∃ t, exec (.copyDone r true lost) s = .next t ∧ t.change r.val = none ∧
        (t.block r.val c.incoming).state = (if lost then 3 else 1) ∧ ∀ n, c.job = some n → ∀ j ∈ t.clerk.jobs, j.num ≠ n) ∧
    (c.phase = 3 → (r.val = 0x12 → s.rw.a.replay = none) → (r.val = 0x13 → s.rw.b.replay = none) →
      c.incoming ≠ s.server r.val c.pos → ∃ t, exec (.switch r) s = .next t ∧
        t.change r.val = some { c with phase := 4, outgoing := s.server r.val c.pos, done := c.done + 1, lastFreed := s.server r.val c.pos } ∧
        (t.block r.val c.incoming).state = 0 ∧ (t.block r.val c.incoming).serves = c.pos ∧
        (t.block r.val (s.server r.val c.pos)).state = 4 ∧ (t.block r.val (s.server r.val c.pos)).serves = 0x3F)) ∧
  (∀ (s : State) (r : Fin 30) (c : Change) (bad : List Nat), s.live = true → s.change r.val = some c → c.method = 1 →
    (c.phase = 0 →
      (((s.block r.val c.incoming).retested bad).2 = true → ∃ t, exec (.retestDone r bad) s = .next t ∧
        t.change r.val = some { c with phase := 1 } ∧ (t.block r.val c.incoming).state = 4 ∧ (t.block r.val c.incoming).suspect = []) ∧
      (((s.block r.val c.incoming).retested bad).2 = false → ∃ t, exec (.retestDone r bad) s = .next t ∧
        t.change r.val = none ∧ (t.block r.val c.incoming).state = 3)) ∧
    (c.phase = 4 → (isFec r.val = true → s.blockBusy r.val c.outgoing = 0) →
      (((s.block r.val c.outgoing).retested bad).2 = true → ∃ t, exec (.retestDone r bad) s = .next t ∧
        (c.positions.tail ≠ [] → c.cancelled = false →
          t.change r.val = some { c with phase := 1, positions := c.positions.tail, incoming := c.outgoing } ∧ (t.block r.val c.outgoing).state = 4) ∧
        ((c.positions.tail = [] ∨ c.cancelled = true) → t.change r.val = none ∧ (t.block r.val c.outgoing).state = 1 ∧
          (t.block r.val c.outgoing).image = s.imageFor c.update r.val c.outgoing)) ∧
      (((s.block r.val c.outgoing).retested bad).2 = false → ∃ t, exec (.retestDone r bad) s = .next t ∧
        t.change r.val = none ∧ (t.block r.val c.outgoing).state = 3))) ∧
  (∀ (s : State) (r : Fin 30) (c : Change), s.live = true → s.change r.val = some c → c.method = 2 → c.incoming ≠ r.val →
    (isFec r.val = true → c.phase = 1 → (∃ t, exec (.migrationLoadDone r true) s = .next t ∧
        t.change r.val = some { c with phase := 3, done := 1 } ∧ (t.region c.incoming).poolRole = 0 ∧ (t.region r.val).poolRole = 2) ∧
      ∃ t, exec (.migrationLoadDone r false) s = .next t ∧ t.change r.val = none ∧ (t.region c.incoming).poolRole = 3) ∧
    (isCiph r.val = true → c.phase = 3 → (s.region r.val).poolRole = 0 → ∃ t, exec (.switch r) s = .next t ∧
        t.change r.val = some { c with done := 1 } ∧ (t.region c.incoming).poolRole = 0 ∧ (t.region r.val).poolRole = 2) ∧
    (c.phase = 3 → (s.region r.val).poolRole = 2 → s.drainedRegion r.val = true → ∃ t, exec (.decodesDrained r) s = .next t ∧
        t.change r.val = some { c with phase := 4 } ∧ t.region r.val = { s.region r.val with isolated := true }) ∧
    (c.phase = 4 → ∀ bad,
      ((s.retestRegion r.val c.update bad).1 = true → ∃ t, exec (.migrationRetestDone r bad) s = .next t ∧
        t.change r.val = none ∧ (t.region r.val).poolRole = 1 ∧ (t.region r.val).isolated = false) ∧
      ((s.retestRegion r.val c.update bad).1 = false → ∃ t, exec (.migrationRetestDone r bad) s = .next t ∧
        t.change r.val = none ∧ (t.region r.val).poolRole = 3))) ∧
  (∀ (s : State) (d : Fin 4) (c : Change), s.live = true → s.change 1 = some c → c.method = 3 → c.pos = d.val →
    (c.phase = 1 → c.faulted = false → (∃ t, exec (.coreLoadDone d true) s = .next t ∧ t.change 1 = some { c with phase := 3 } ∧
        (t.dpll d.val).coreRetired = false) ∧
      ∃ t, exec (.coreLoadDone d false) s = .next t ∧ t.change 1 = none ∧ (t.dpll d.val).coreRetired = true) ∧
    (c.phase = 1 → c.faulted = true → c.outgoing = 0 → (∃ t, exec (.coreLoadDone d true) s = .next t ∧ (t.dpll d.val).coreFault = false ∧
        (t.dpll d.val).core = !(s.dpll d.val).core ∧
        t.change 1 = some { c with incoming := 1 - c.incoming, outgoing := 1, done := c.done + 1, lastFreed := d.val }) ∧
      ∃ t, exec (.coreLoadDone d false) s = .next t ∧ (t.dpll d.val).coreRetired = true ∧
        t.change 1 = some { c with incoming := 1 - c.incoming, outgoing := 1, failed := true }) ∧
    (c.phase = 3 →
      (c.outgoing = 0 → ∃ t, exec (.coreFollowDone d true) s = .next t ∧ (t.dpll d.val).core = !(s.dpll d.val).core ∧
        t.change 1 = some { c with phase := 1, done := c.done + 1, lastFreed := d.val, incoming := 1 - c.incoming, outgoing := 1 }) ∧
      (c.outgoing ≠ 0 → c.positions.tail = [] → ∃ t, exec (.coreFollowDone d true) s = .next t ∧
        (t.dpll d.val).core = !(s.dpll d.val).core ∧ t.change 1 = none) ∧
      ∃ t, exec (.coreFollowDone d false) s = .next t ∧ (t.dpll d.val).coreRetired = true ∧ t.change 1 = none)) ∧
  (∀ (s : State) (h : Handover), s.live = true → s.serv.handover = some h →
    (h.stage = 1 → (∃ t, exec (.handoverLoadDone true) s = .next t ∧ t.hier.ctlStandby = 0 ∧ t.serv.handover = some { h with stage := 2 }) ∧
      ∃ t, exec (.handoverLoadDone false) s = .next t ∧ t.hier.ctlStandby = 2 ∧ t.serv.handover = none) ∧
    (h.stage = 2 → s.pairReady = true → ∀ v, s.serv.verified = some v → ∃ t, exec .handoverTakeover s = .next t ∧
      t.hier.ctlActive = 1 - s.hier.ctlActive ∧ t.hier.ctlStandby = 1 ∧ t.boot.fwImage = h.slot ∧ t.boot.fwVersion = v.version ∧
      t.boot.record = h.slot ∧ t.serv.running = v ∧ t.serv.verified = none ∧ t.serv.handover = some { h with stage := 3 } ∧
      t.measure 1 = sha384 (s.measure 1 ++ sha384 v.digest) ∧
      t.measure 3 = sha384 (s.measure 3 ++ sha384 (svnItem s.hall.fuses v.svn none)) ∧ t.out = s.out ++ [.bootRecord h.slot]) ∧
    (h.stage = 3 → (∃ t, exec (.formerPairReady true) s = .next t ∧ t.hier.ctlStandby = 0 ∧ t.serv.handover = none ∧
        ∀ j ∈ t.clerk.jobs, j.num ≠ h.job) ∧
      ∃ t, exec (.formerPairReady false) s = .next t ∧ t.hier.ctlStandby = 2 ∧ t.serv.handover = none)) ∧
  (∀ (s : State) (mv years : Nat) (growth : List (Nat × Nat)), s.live = true → ∃ t, exec (.ageingDaily mv years growth) s = .next t ∧
    t.serv.days = s.serv.days + 1 ∧ t.serv.vddNow = mv ∧ t.serv.vddFirst = (if s.serv.days = 0 then mv else s.serv.vddFirst) ∧
    t.serv.yearsLeft = (if s.serv.days + 1 < 30 ∨ 65534 < years then 0xFFFF else years))
end

