-- ==== Sys2Proof/Machine/Coding.lean ====
section
/-!
DEFINITION. The bits that the spec gives what the device sends: Crier packets as chips, client lane frames, host patterns, line
frames (spec/05 R137, R138, R140; spec/08 R219 to R221, R243; spec/11 R331 to R333; spec/12 R360, R361; spec/14 R395 to R399).
No command reads them: the commands carry packets, frames and payloads, and these functions say what goes over the air, the
lane and the line for them.
-/

set_option Elab.async false

namespace Sys2Proof.Machine

/-! ### Generators -/

/-- Bits of a shift-register generator of `w` bits whose polynomial has the exponents `taps` beside 0, from a register `x`. DESIGN
CHOICE: the oldest bit of the register comes out first (notes/assumptions/34). -/
def prbs (w : Nat) (taps : List Nat) : Nat → Nat → List Bool
  | 0, _ => []
  | n + 1, x =>
    let new := taps.foldl (fun b e => b != x.testBit (e - 1)) false
    x.testBit (w - 1) :: prbs w taps n ((2 * x) % 2 ^ w + new.toNat)

/-- `n` bits of x^31 + x^28 + 1 from all ones: the scrambler of line frames and lane frames (R221, R331). -/
def prbs31 (n : Nat) : List Bool := prbs 31 [31, 28] n (2 ^ 31 - 1)

/-- Bits added modulo 2 to a generator's; longer bits stay as they are. -/
def addBits : List Bool → List Bool → List Bool
  | b :: bs, g :: gs => (b != g) :: addBits bs gs
  | bs, [] => bs
  | [], _ :: _ => []

/-- The exponents and the length of a host pattern's generator (R360); none for those of IEEE 802.3 Clause 120. -/
def patternTaps : Nat → Option (Nat × List Nat)
  | 0 => some (7, [7, 6])
  | 1 => some (9, [9, 5])
  | 2 => some (13, [13, 12, 2, 1])
  | 3 => some (15, [15, 14])
  | 4 => some (23, [23, 18])
  | 5 => some (31, [31, 28])
  | _ => none

/-- A RATE injection inverts one bit in every 2^`k` (R361); DESIGN CHOICE: the last of them. -/
def injectRate (k : Nat) (bs : List Bool) : List Bool :=
  bs.zipIdx.map fun e => if e.2 % 2 ^ k = 2 ^ k - 1 then !e.1 else e.1

/-! ### The Crier's chips (R395 to R399) -/

/-- The 127 chips of a generator of seven bits, first seven all 1: u(n + 7) is the sum of the `taps` of u(n + 6) down to u(n),
numbered 6 to 0 (R396). -/
def crierSeq (taps : List Nat) : List Bool :=
  let step (r : List Bool) (_ : Nat) : List Bool :=
    (taps.foldl (fun b i => b != r.getD (6 - i) false) false) :: r
  ((List.range 120).foldl step (List.replicate 7 true)).reverse

/-- u(n + 7) = u(n + 3) + u(n) (R396). -/
def crierU : List Bool := crierSeq [3, 0]

/-- v(n + 7) = v(n + 3) + v(n + 2) + v(n + 1) + v(n) (R396). -/
def crierV : List Bool := crierSeq [3, 2, 1, 0]

/-- Chip `n` of code `k`: u, v, or u added to v delayed by k − 2 chips (R396). -/
def goldChip (k n : Nat) : Bool :=
  let u := crierU.getD (n % 127) false
  if k = 0 then u else if k = 1 then crierV.getD (n % 127) false
  else u != crierV.getD ((n + 127 - (k - 2) % 127) % 127) false

/-- A symbol: a bit of 1 is the code, a bit of 0 the inverted code (R395). -/
def crierSymbol (k : Nat) (b : Bool) : List Bool := (List.range 127).map fun n => goldChip k n == b

/-- The bits of a byte, most significant first (R399). -/
def msbBits (b : Byte) : List Bool := (List.range 8).map fun i => b.toNat.testBit (7 - i)

/-- The symbols of a packet: preamble, sync word, LENGTH and TYPE, payload, CRC, tail (Table 14-1). -/
def packetBits (type : Byte) (payload : List Byte) : List Bool :=
  let body := [BitVec.ofNat 8 payload.length, type] ++ payload
  ([0xAA, 0xAA, 0x35, 0xC6] ++ body ++ beBytes 2 (crc16 body) ++ [0xAA]).flatMap msbBits

/-- The chips of a packet on code `k`: true for x = +1 in R397. -/
def packetChips (k : Nat) (type : Byte) (payload : List Byte) : List Bool := (packetBits type payload).flatMap (crierSymbol k)

/-- The share of the dither depth in symbol `s` of a packet of `n` symbols, in units of 2^-90: it rises over the first eight, falls
over the last eight, and is full between (Table 14-1). -/
def ditherShare (n s : Nat) : Nat :=
  if s < 8 then rampPower (s + 1) 8 else if n ≤ s + 8 then rampPower (n - s - 1) 8 else 1024 * 2 ^ 80

/-! ### Client lane frames (R331 to R333) -/

/-- Times α in GF(2^10) with x^10 + x^3 + 1 (R331). -/
def gfDouble (a : Nat) : Nat := if 512 ≤ a then (2 * a - 1024) ^^^ 9 else 2 * a

/-- The product in GF(2^10). -/
def gfMul (a b : Nat) : Nat :=
  ((List.range 10).foldl (fun (e : Nat × Nat) i => (if b.testBit i then e.1 ^^^ e.2 else e.1, gfDouble e.2)) (0, a)).1

/-- α^n. -/
def gfPow (n : Nat) : Nat := (List.range n).foldl (fun a _ => gfDouble a) 1

/-- A polynomial, highest coefficient first, times (x − r). -/
def gfTimesRoot (r : Nat) (p : List Nat) : List Nat :=
  (p ++ [0]).zipWith (· ^^^ ·) (0 :: p.map (gfMul r))

/-- The generator polynomial with roots α^0 to α^15, highest coefficient first (R331). -/
def rsGenerator : List Nat := (List.range 16).foldl (fun p i => gfTimesRoot (gfPow i) p) [1]

/-- The 16 parity symbols of information symbols: the remainder of their polynomial times x^16 (R331). -/
def rsParity (info : List Nat) : List Nat :=
  info.foldl (fun r d =>
    let f := r.headD 0 ^^^ d
    (r.tail ++ [0]).zipWith (· ^^^ ·) (rsGenerator.tail.map (gfMul f))) (List.replicate 16 0)

/-- A word's value at α^j: zero at j from 0 to 15 for a codeword (R331). -/
def rsSyndrome (word : List Nat) (j : Nat) : Nat := word.foldl (fun a d => gfMul a (gfPow j) ^^^ d) 0

/-- The 544 symbols sent for a codeword of 528 information symbols: computed with V0, the sending lane, and V1, the lane's codeword
count, ahead, which are never sent (R331). -/
def rsCodeword (lane count : Nat) (info : List Nat) : List Nat := info ++ rsParity ([lane % 8, count % 1024] ++ info)

/-- Ten bits of a symbol, most significant first. -/
def symbolBits (d : Nat) : List Bool := (List.range 10).map fun i => d.testBit (9 - i)

/-- Bits taken ten at a time as symbols, most significant first. -/
def bitSymbols (n : Nat) (bs : List Bool) : List Nat :=
  (List.range n).map fun k => ((bs.drop (10 * k)).take 10).foldl (fun a b => 2 * a + b.toNat) 0

/-- Parity bit `j` of an inner block of 256 bits: it makes the bits at places k with k mod 8 = j even (R332). -/
def innerParity (bs : List Bool) (j : Nat) : Bool := ((List.range 32).map fun i => bs.getD (8 * i + j) false).foldl (· != ·) false

/-- An inner block of 264 bits (R332). -/
def innerBlock (bs : List Bool) : List Bool := bs ++ (List.range 8).map (innerParity bs)

/-- The place with the least reliable decision among those of codeword `j`; the first of them where some are equal. -/
def leastReliable (rel : List Nat) (j : Nat) : Nat :=
  ((List.range 33).map fun i => 8 * i + j).foldl (fun m k => if rel.getD k 0 < rel.getD m 0 then k else m) j

/-- A received block decoded by soft decision: in each codeword of odd parity the bit with the least reliable decision is inverted
(R332). -/
def innerDecode (bs : List Bool) (rel : List Nat) : List Bool :=
  (List.range 8).foldl (fun w j =>
    if ((List.range 33).map fun i => bs.getD (8 * i + j) false).foldl (· != ·) false then
      w.modify (leastReliable rel j) (!·)
    else w) bs

/-- The level index of a pair of bits: 00, 01, 11, 10 are 0 to 3, levels −3, −1, +1, +3 (R333). -/
def grayIndex (a b : Bool) : Nat := if a then (if b then 2 else 3) else (if b then 1 else 0)

/-- Bits as PAM4 level indexes, two to a symbol. -/
def pam4 : List Bool → List Nat
  | a :: b :: bs => grayIndex a b :: pam4 bs
  | _ => []

/-- The precoder after the index `y`: each index is added modulo 4 to the one sent before (R333). -/
def precode : Nat → List Nat → List Nat
  | _, [] => []
  | y, x :: xs => ((x + y) % 4) :: precode ((x + y) % 4) xs

/-- The receiver's inverse of the precoder (R333). -/
def unprecode : Nat → List Nat → List Nat
  | _, [] => []
  | y, z :: zs => ((z + 4 - y) % 4) :: unprecode z zs

/-- The 22,440 line bits of a lane frame: 21,120 information bits, scrambled, in four codewords of counts from `count` on, cut into
85 inner blocks (R331, R332). -/
def laneFrame (lane count : Nat) (bits : List Bool) : List Bool :=
  let scrambled := addBits bits (prbs31 21120)
  let words := (List.range 4).flatMap fun c =>
    (rsCodeword lane (count + c) (bitSymbols 528 (scrambled.drop (5280 * c)))).flatMap symbolBits
  (List.range 85).flatMap fun k => innerBlock ((words.drop (256 * k)).take 256)

/-! ### Line frames (R137, R138, R140, R219 to R221, R243) -/

/-- Symbols of a line frame in one polarisation: R × 2,560, SYM_RATE in units of 0.125 GBd (R137). -/
def frameSymbols (symRate : Nat) : Nat := symRate * 320

/-- The two generator bits of a multiframe's pilot `k` in X or Y: PRBS23 from 0x7F_FFFF or 0x55_5555 at the first pilot of the
multiframe, two bits per pilot (R138). -/
def pilotBits (y : Bool) (k : Nat) : List Bool :=
  (prbs 23 [23, 18] (2 * k + 2) (if y then 0x555555 else 0x7FFFFF)).drop (2 * k)

/-- The place of bit `i` of chunk `r` of slot `s` in a frame of `slots` slots (R220). -/
def slotBit (slots r s i : Nat) : Nat := 16384 + 128 * (r * slots + s) + i

/-- A frame's bits 0 to 16,383 + 12,800 × slots as sent: all but the alignment word are scrambled (R221). -/
def scrambleFrame (bits : List Bool) : List Bool := bits.take 64 ++ addBits (bits.drop 64) (prbs31 (bits.length - 64))

/-- The `n` fill bits of frame `fn` of a multiframe whose frames hold `n` each: a PRBS31 that restarts at the multiframe (R140). -/
def fillBits (n fn : Nat) : List Bool := (prbs31 (n * (fn + 1))).drop (n * fn)

/-- Byte-interleaved even parity of bytes (R243). -/
def interleavedParity (bs : List Byte) : Nat := bs.foldl (fun a b => a ^^^ b.toNat) 0

/-! ### Cross-fades (spec/03 R80, R81; spec/05 R144) -/

/-- The weight of the new bank in span `n`, in 64ths, of a cross-fade that starts at span `start`: a function of the span's index
alone (R80, R81, R144). -/
def fadeWeight (start n : Nat) : Nat := if n < start then 0 else min 64 (n - start + 1)

end Sys2Proof.Machine
end

