-- ==== Sys2Proof/Laws/Coding.lean ====
section
/-!
SUPPORT. What receivers undo: scrambling, precoding; the parity of an inner block.
-/

set_option Elab.async false
set_option linter.all false

namespace Sys2Proof.Machine

theorem addBits_addBits (bs gs : List Bool) : addBits (addBits bs gs) gs = bs := by
  induction bs generalizing gs with
  | nil => cases gs <;> rfl
  | cons b bs ih =>
    cases gs with
    | nil => rfl
    | cons g gs => simp only [addBits, ih gs]; cases b <;> cases g <;> rfl

/-- The receiver inverts the precoder (R333). -/
theorem unprecode_precode (y : Nat) (xs : List Nat) (hy : y < 4) (h : ∀ x ∈ xs, x < 4) : unprecode y (precode y xs) = xs := by
  induction xs generalizing y with
  | nil => rfl
  | cons x xs ih =>
    simp only [precode, unprecode]
    have hx : x < 4 := h x List.mem_cons_self
    rw [ih _ (Nat.mod_lt _ (by omega)) fun z hz => h z (List.mem_cons_of_mem _ hz)]
    congr 1
    omega

theorem length_addBits (bs gs : List Bool) : (addBits bs gs).length = bs.length := by
  induction bs generalizing gs with
  | nil => cases gs <;> rfl
  | cons b bs ih => cases gs <;> simp [addBits, ih]

/-- Descrambling a frame gives the bits back (R221). -/
theorem scrambleFrame_scrambleFrame (bits : List Bool) (h : 64 ≤ bits.length) :
    scrambleFrame (scrambleFrame bits) = bits := by
  have hl : (bits.take 64).length = 64 := by simp [h]
  unfold scrambleFrame
  rw [List.take_left' hl, List.drop_left' hl, List.length_append, hl, length_addBits, List.length_drop,
    show 64 + (bits.length - 64) - 64 = bits.length - 64 by omega, addBits_addBits, List.take_append_drop]

end Sys2Proof.Machine
end

