-- ==== Sys2Proof/Laws/State.lean ====
section
/-!
SUPPORT. One lemma per field of the state and per named update of a field.
-/

set_option Elab.async false
set_option linter.all false

namespace Sys2Proof.Machine

@[simp] theorem State.withPending_pending (s : State) (v : List Instr) : (s.withPending v).pending = v := rfl
@[simp] theorem State.withPending_time (s : State) (v : List Instr) : (s.withPending v).time = s.time := rfl
@[simp] theorem State.withPending_free (s : State) (v : List Instr) : (s.withPending v).free = s.free := rfl
@[simp] theorem State.withPending_out (s : State) (v : List Instr) : (s.withPending v).out = s.out := rfl
@[simp] theorem State.withPending_bar0 (s : State) (v : List Instr) : (s.withPending v).bar0 = s.bar0 := rfl
@[simp] theorem State.withPending_clerk (s : State) (v : List Instr) : (s.withPending v).clerk = s.clerk := rfl
@[simp] theorem State.withPending_hier (s : State) (v : List Instr) : (s.withPending v).hier = s.hier := rfl
@[simp] theorem State.withPending_tally (s : State) (v : List Instr) : (s.withPending v).tally = s.tally := rfl
@[simp] theorem State.withPending_boot (s : State) (v : List Instr) : (s.withPending v).boot = s.boot := rfl
@[simp] theorem State.withPending_hall (s : State) (v : List Instr) : (s.withPending v).hall = s.hall := rfl
@[simp] theorem State.withPending_serv (s : State) (v : List Instr) : (s.withPending v).serv = s.serv := rfl
@[simp] theorem State.withPending_rx (s : State) (v : List Instr) : (s.withPending v).rx = s.rx := rfl
@[simp] theorem State.withPending_rw (s : State) (v : List Instr) : (s.withPending v).rw = s.rw := rfl
@[simp] theorem State.withPending_fec (s : State) (v : List Instr) : (s.withPending v).fec = s.fec := rfl
@[simp] theorem State.withPending_tx (s : State) (v : List Instr) : (s.withPending v).tx = s.tx := rfl
@[simp] theorem State.withPending_loom (s : State) (v : List Instr) : (s.withPending v).loom = s.loom := rfl
@[simp] theorem State.withPending_ra (s : State) (v : List Instr) : (s.withPending v).ra = s.ra := rfl
@[simp] theorem State.withPending_crier (s : State) (v : List Instr) : (s.withPending v).crier = s.crier := rfl
@[simp] theorem State.withPending_store (s : State) (v : List Instr) : (s.withPending v).store = s.store := rfl
@[simp] theorem State.withPending_flow (s : State) (v : List Instr) : (s.withPending v).flow = s.flow := rfl
@[simp] theorem State.withPending_lanes (s : State) (v : List Instr) : (s.withPending v).lanes = s.lanes := rfl
@[simp] theorem State.withPending_timing (s : State) (v : List Instr) : (s.withPending v).timing = s.timing := rfl
@[simp] theorem State.withPending_assay (s : State) (v : List Instr) : (s.withPending v).assay = s.assay := rfl
@[simp] theorem State.withPending_damage (s : State) (v : List Instr) : (s.withPending v).damage = s.damage := rfl
@[simp] theorem State.withTime_pending (s : State) (v : Nat) : (s.withTime v).pending = s.pending := rfl
@[simp] theorem State.withTime_time (s : State) (v : Nat) : (s.withTime v).time = v := rfl
@[simp] theorem State.withTime_free (s : State) (v : Nat) : (s.withTime v).free = s.free := rfl
@[simp] theorem State.withTime_out (s : State) (v : Nat) : (s.withTime v).out = s.out := rfl
@[simp] theorem State.withTime_bar0 (s : State) (v : Nat) : (s.withTime v).bar0 = s.bar0 := rfl
@[simp] theorem State.withTime_clerk (s : State) (v : Nat) : (s.withTime v).clerk = s.clerk := rfl
@[simp] theorem State.withTime_hier (s : State) (v : Nat) : (s.withTime v).hier = s.hier := rfl
@[simp] theorem State.withTime_tally (s : State) (v : Nat) : (s.withTime v).tally = s.tally := rfl
@[simp] theorem State.withTime_boot (s : State) (v : Nat) : (s.withTime v).boot = s.boot := rfl
@[simp] theorem State.withTime_hall (s : State) (v : Nat) : (s.withTime v).hall = s.hall := rfl
@[simp] theorem State.withTime_serv (s : State) (v : Nat) : (s.withTime v).serv = s.serv := rfl
@[simp] theorem State.withTime_rx (s : State) (v : Nat) : (s.withTime v).rx = s.rx := rfl
@[simp] theorem State.withTime_rw (s : State) (v : Nat) : (s.withTime v).rw = s.rw := rfl
@[simp] theorem State.withTime_fec (s : State) (v : Nat) : (s.withTime v).fec = s.fec := rfl
@[simp] theorem State.withTime_tx (s : State) (v : Nat) : (s.withTime v).tx = s.tx := rfl
@[simp] theorem State.withTime_loom (s : State) (v : Nat) : (s.withTime v).loom = s.loom := rfl
@[simp] theorem State.withTime_ra (s : State) (v : Nat) : (s.withTime v).ra = s.ra := rfl
@[simp] theorem State.withTime_crier (s : State) (v : Nat) : (s.withTime v).crier = s.crier := rfl
@[simp] theorem State.withTime_store (s : State) (v : Nat) : (s.withTime v).store = s.store := rfl
@[simp] theorem State.withTime_flow (s : State) (v : Nat) : (s.withTime v).flow = s.flow := rfl
@[simp] theorem State.withTime_lanes (s : State) (v : Nat) : (s.withTime v).lanes = s.lanes := rfl
@[simp] theorem State.withTime_timing (s : State) (v : Nat) : (s.withTime v).timing = s.timing := rfl
@[simp] theorem State.withTime_assay (s : State) (v : Nat) : (s.withTime v).assay = s.assay := rfl
@[simp] theorem State.withTime_damage (s : State) (v : Nat) : (s.withTime v).damage = s.damage := rfl
@[simp] theorem State.withFree_pending (s : State) (v : Nat) : (s.withFree v).pending = s.pending := rfl
@[simp] theorem State.withFree_time (s : State) (v : Nat) : (s.withFree v).time = s.time := rfl
@[simp] theorem State.withFree_free (s : State) (v : Nat) : (s.withFree v).free = v := rfl
@[simp] theorem State.withFree_out (s : State) (v : Nat) : (s.withFree v).out = s.out := rfl
@[simp] theorem State.withFree_bar0 (s : State) (v : Nat) : (s.withFree v).bar0 = s.bar0 := rfl
@[simp] theorem State.withFree_clerk (s : State) (v : Nat) : (s.withFree v).clerk = s.clerk := rfl
@[simp] theorem State.withFree_hier (s : State) (v : Nat) : (s.withFree v).hier = s.hier := rfl
@[simp] theorem State.withFree_tally (s : State) (v : Nat) : (s.withFree v).tally = s.tally := rfl
@[simp] theorem State.withFree_boot (s : State) (v : Nat) : (s.withFree v).boot = s.boot := rfl
@[simp] theorem State.withFree_hall (s : State) (v : Nat) : (s.withFree v).hall = s.hall := rfl
@[simp] theorem State.withFree_serv (s : State) (v : Nat) : (s.withFree v).serv = s.serv := rfl
@[simp] theorem State.withFree_rx (s : State) (v : Nat) : (s.withFree v).rx = s.rx := rfl
@[simp] theorem State.withFree_rw (s : State) (v : Nat) : (s.withFree v).rw = s.rw := rfl
@[simp] theorem State.withFree_fec (s : State) (v : Nat) : (s.withFree v).fec = s.fec := rfl
@[simp] theorem State.withFree_tx (s : State) (v : Nat) : (s.withFree v).tx = s.tx := rfl
@[simp] theorem State.withFree_loom (s : State) (v : Nat) : (s.withFree v).loom = s.loom := rfl
@[simp] theorem State.withFree_ra (s : State) (v : Nat) : (s.withFree v).ra = s.ra := rfl
@[simp] theorem State.withFree_crier (s : State) (v : Nat) : (s.withFree v).crier = s.crier := rfl
@[simp] theorem State.withFree_store (s : State) (v : Nat) : (s.withFree v).store = s.store := rfl
@[simp] theorem State.withFree_flow (s : State) (v : Nat) : (s.withFree v).flow = s.flow := rfl
@[simp] theorem State.withFree_lanes (s : State) (v : Nat) : (s.withFree v).lanes = s.lanes := rfl
@[simp] theorem State.withFree_timing (s : State) (v : Nat) : (s.withFree v).timing = s.timing := rfl
@[simp] theorem State.withFree_assay (s : State) (v : Nat) : (s.withFree v).assay = s.assay := rfl
@[simp] theorem State.withFree_damage (s : State) (v : Nat) : (s.withFree v).damage = s.damage := rfl
@[simp] theorem State.withOut_pending (s : State) (v : List Out) : (s.withOut v).pending = s.pending := rfl
@[simp] theorem State.withOut_time (s : State) (v : List Out) : (s.withOut v).time = s.time := rfl
@[simp] theorem State.withOut_free (s : State) (v : List Out) : (s.withOut v).free = s.free := rfl
@[simp] theorem State.withOut_out (s : State) (v : List Out) : (s.withOut v).out = v := rfl
@[simp] theorem State.withOut_bar0 (s : State) (v : List Out) : (s.withOut v).bar0 = s.bar0 := rfl
@[simp] theorem State.withOut_clerk (s : State) (v : List Out) : (s.withOut v).clerk = s.clerk := rfl
@[simp] theorem State.withOut_hier (s : State) (v : List Out) : (s.withOut v).hier = s.hier := rfl
@[simp] theorem State.withOut_tally (s : State) (v : List Out) : (s.withOut v).tally = s.tally := rfl
@[simp] theorem State.withOut_boot (s : State) (v : List Out) : (s.withOut v).boot = s.boot := rfl
@[simp] theorem State.withOut_hall (s : State) (v : List Out) : (s.withOut v).hall = s.hall := rfl
@[simp] theorem State.withOut_serv (s : State) (v : List Out) : (s.withOut v).serv = s.serv := rfl
@[simp] theorem State.withOut_rx (s : State) (v : List Out) : (s.withOut v).rx = s.rx := rfl
@[simp] theorem State.withOut_rw (s : State) (v : List Out) : (s.withOut v).rw = s.rw := rfl
@[simp] theorem State.withOut_fec (s : State) (v : List Out) : (s.withOut v).fec = s.fec := rfl
@[simp] theorem State.withOut_tx (s : State) (v : List Out) : (s.withOut v).tx = s.tx := rfl
@[simp] theorem State.withOut_loom (s : State) (v : List Out) : (s.withOut v).loom = s.loom := rfl
@[simp] theorem State.withOut_ra (s : State) (v : List Out) : (s.withOut v).ra = s.ra := rfl
@[simp] theorem State.withOut_crier (s : State) (v : List Out) : (s.withOut v).crier = s.crier := rfl
@[simp] theorem State.withOut_store (s : State) (v : List Out) : (s.withOut v).store = s.store := rfl
@[simp] theorem State.withOut_flow (s : State) (v : List Out) : (s.withOut v).flow = s.flow := rfl
@[simp] theorem State.withOut_lanes (s : State) (v : List Out) : (s.withOut v).lanes = s.lanes := rfl
@[simp] theorem State.withOut_timing (s : State) (v : List Out) : (s.withOut v).timing = s.timing := rfl
@[simp] theorem State.withOut_assay (s : State) (v : List Out) : (s.withOut v).assay = s.assay := rfl
@[simp] theorem State.withOut_damage (s : State) (v : List Out) : (s.withOut v).damage = s.damage := rfl
@[simp] theorem State.withBar0_pending (s : State) (v : Bar0) : (s.withBar0 v).pending = s.pending := rfl
@[simp] theorem State.withBar0_time (s : State) (v : Bar0) : (s.withBar0 v).time = s.time := rfl
@[simp] theorem State.withBar0_free (s : State) (v : Bar0) : (s.withBar0 v).free = s.free := rfl
@[simp] theorem State.withBar0_out (s : State) (v : Bar0) : (s.withBar0 v).out = s.out := rfl
@[simp] theorem State.withBar0_bar0 (s : State) (v : Bar0) : (s.withBar0 v).bar0 = v := rfl
@[simp] theorem State.withBar0_clerk (s : State) (v : Bar0) : (s.withBar0 v).clerk = s.clerk := rfl
@[simp] theorem State.withBar0_hier (s : State) (v : Bar0) : (s.withBar0 v).hier = s.hier := rfl
@[simp] theorem State.withBar0_tally (s : State) (v : Bar0) : (s.withBar0 v).tally = s.tally := rfl
@[simp] theorem State.withBar0_boot (s : State) (v : Bar0) : (s.withBar0 v).boot = s.boot := rfl
@[simp] theorem State.withBar0_hall (s : State) (v : Bar0) : (s.withBar0 v).hall = s.hall := rfl
@[simp] theorem State.withBar0_serv (s : State) (v : Bar0) : (s.withBar0 v).serv = s.serv := rfl
@[simp] theorem State.withBar0_rx (s : State) (v : Bar0) : (s.withBar0 v).rx = s.rx := rfl
@[simp] theorem State.withBar0_rw (s : State) (v : Bar0) : (s.withBar0 v).rw = s.rw := rfl
@[simp] theorem State.withBar0_fec (s : State) (v : Bar0) : (s.withBar0 v).fec = s.fec := rfl
@[simp] theorem State.withBar0_tx (s : State) (v : Bar0) : (s.withBar0 v).tx = s.tx := rfl
@[simp] theorem State.withBar0_loom (s : State) (v : Bar0) : (s.withBar0 v).loom = s.loom := rfl
@[simp] theorem State.withBar0_ra (s : State) (v : Bar0) : (s.withBar0 v).ra = s.ra := rfl
@[simp] theorem State.withBar0_crier (s : State) (v : Bar0) : (s.withBar0 v).crier = s.crier := rfl
@[simp] theorem State.withBar0_store (s : State) (v : Bar0) : (s.withBar0 v).store = s.store := rfl
@[simp] theorem State.withBar0_flow (s : State) (v : Bar0) : (s.withBar0 v).flow = s.flow := rfl
@[simp] theorem State.withBar0_lanes (s : State) (v : Bar0) : (s.withBar0 v).lanes = s.lanes := rfl
@[simp] theorem State.withBar0_timing (s : State) (v : Bar0) : (s.withBar0 v).timing = s.timing := rfl
@[simp] theorem State.withBar0_assay (s : State) (v : Bar0) : (s.withBar0 v).assay = s.assay := rfl
@[simp] theorem State.withBar0_damage (s : State) (v : Bar0) : (s.withBar0 v).damage = s.damage := rfl
@[simp] theorem State.withClerk_pending (s : State) (v : Clerk) : (s.withClerk v).pending = s.pending := rfl
@[simp] theorem State.withClerk_time (s : State) (v : Clerk) : (s.withClerk v).time = s.time := rfl
@[simp] theorem State.withClerk_free (s : State) (v : Clerk) : (s.withClerk v).free = s.free := rfl
@[simp] theorem State.withClerk_out (s : State) (v : Clerk) : (s.withClerk v).out = s.out := rfl
@[simp] theorem State.withClerk_bar0 (s : State) (v : Clerk) : (s.withClerk v).bar0 = s.bar0 := rfl
@[simp] theorem State.withClerk_clerk (s : State) (v : Clerk) : (s.withClerk v).clerk = v := rfl
@[simp] theorem State.withClerk_hier (s : State) (v : Clerk) : (s.withClerk v).hier = s.hier := rfl
@[simp] theorem State.withClerk_tally (s : State) (v : Clerk) : (s.withClerk v).tally = s.tally := rfl
@[simp] theorem State.withClerk_boot (s : State) (v : Clerk) : (s.withClerk v).boot = s.boot := rfl
@[simp] theorem State.withClerk_hall (s : State) (v : Clerk) : (s.withClerk v).hall = s.hall := rfl
@[simp] theorem State.withClerk_serv (s : State) (v : Clerk) : (s.withClerk v).serv = s.serv := rfl
@[simp] theorem State.withClerk_rx (s : State) (v : Clerk) : (s.withClerk v).rx = s.rx := rfl
@[simp] theorem State.withClerk_rw (s : State) (v : Clerk) : (s.withClerk v).rw = s.rw := rfl
@[simp] theorem State.withClerk_fec (s : State) (v : Clerk) : (s.withClerk v).fec = s.fec := rfl
@[simp] theorem State.withClerk_tx (s : State) (v : Clerk) : (s.withClerk v).tx = s.tx := rfl
@[simp] theorem State.withClerk_loom (s : State) (v : Clerk) : (s.withClerk v).loom = s.loom := rfl
@[simp] theorem State.withClerk_ra (s : State) (v : Clerk) : (s.withClerk v).ra = s.ra := rfl
@[simp] theorem State.withClerk_crier (s : State) (v : Clerk) : (s.withClerk v).crier = s.crier := rfl
@[simp] theorem State.withClerk_store (s : State) (v : Clerk) : (s.withClerk v).store = s.store := rfl
@[simp] theorem State.withClerk_flow (s : State) (v : Clerk) : (s.withClerk v).flow = s.flow := rfl
@[simp] theorem State.withClerk_lanes (s : State) (v : Clerk) : (s.withClerk v).lanes = s.lanes := rfl
@[simp] theorem State.withClerk_timing (s : State) (v : Clerk) : (s.withClerk v).timing = s.timing := rfl
@[simp] theorem State.withClerk_assay (s : State) (v : Clerk) : (s.withClerk v).assay = s.assay := rfl
@[simp] theorem State.withClerk_damage (s : State) (v : Clerk) : (s.withClerk v).damage = s.damage := rfl
@[simp] theorem State.withHier_pending (s : State) (v : Hier) : (s.withHier v).pending = s.pending := rfl
@[simp] theorem State.withHier_time (s : State) (v : Hier) : (s.withHier v).time = s.time := rfl
@[simp] theorem State.withHier_free (s : State) (v : Hier) : (s.withHier v).free = s.free := rfl
@[simp] theorem State.withHier_out (s : State) (v : Hier) : (s.withHier v).out = s.out := rfl
@[simp] theorem State.withHier_bar0 (s : State) (v : Hier) : (s.withHier v).bar0 = s.bar0 := rfl
@[simp] theorem State.withHier_clerk (s : State) (v : Hier) : (s.withHier v).clerk = s.clerk := rfl
@[simp] theorem State.withHier_hier (s : State) (v : Hier) : (s.withHier v).hier = v := rfl
@[simp] theorem State.withHier_tally (s : State) (v : Hier) : (s.withHier v).tally = s.tally := rfl
@[simp] theorem State.withHier_boot (s : State) (v : Hier) : (s.withHier v).boot = s.boot := rfl
@[simp] theorem State.withHier_hall (s : State) (v : Hier) : (s.withHier v).hall = s.hall := rfl
@[simp] theorem State.withHier_serv (s : State) (v : Hier) : (s.withHier v).serv = s.serv := rfl
@[simp] theorem State.withHier_rx (s : State) (v : Hier) : (s.withHier v).rx = s.rx := rfl
@[simp] theorem State.withHier_rw (s : State) (v : Hier) : (s.withHier v).rw = s.rw := rfl
@[simp] theorem State.withHier_fec (s : State) (v : Hier) : (s.withHier v).fec = s.fec := rfl
@[simp] theorem State.withHier_tx (s : State) (v : Hier) : (s.withHier v).tx = s.tx := rfl
@[simp] theorem State.withHier_loom (s : State) (v : Hier) : (s.withHier v).loom = s.loom := rfl
@[simp] theorem State.withHier_ra (s : State) (v : Hier) : (s.withHier v).ra = s.ra := rfl
@[simp] theorem State.withHier_crier (s : State) (v : Hier) : (s.withHier v).crier = s.crier := rfl
@[simp] theorem State.withHier_store (s : State) (v : Hier) : (s.withHier v).store = s.store := rfl
@[simp] theorem State.withHier_flow (s : State) (v : Hier) : (s.withHier v).flow = s.flow := rfl
@[simp] theorem State.withHier_lanes (s : State) (v : Hier) : (s.withHier v).lanes = s.lanes := rfl
@[simp] theorem State.withHier_timing (s : State) (v : Hier) : (s.withHier v).timing = s.timing := rfl
@[simp] theorem State.withHier_assay (s : State) (v : Hier) : (s.withHier v).assay = s.assay := rfl
@[simp] theorem State.withHier_damage (s : State) (v : Hier) : (s.withHier v).damage = s.damage := rfl
@[simp] theorem State.withTally_pending (s : State) (v : Tally) : (s.withTally v).pending = s.pending := rfl
@[simp] theorem State.withTally_time (s : State) (v : Tally) : (s.withTally v).time = s.time := rfl
@[simp] theorem State.withTally_free (s : State) (v : Tally) : (s.withTally v).free = s.free := rfl
@[simp] theorem State.withTally_out (s : State) (v : Tally) : (s.withTally v).out = s.out := rfl
@[simp] theorem State.withTally_bar0 (s : State) (v : Tally) : (s.withTally v).bar0 = s.bar0 := rfl
@[simp] theorem State.withTally_clerk (s : State) (v : Tally) : (s.withTally v).clerk = s.clerk := rfl
@[simp] theorem State.withTally_hier (s : State) (v : Tally) : (s.withTally v).hier = s.hier := rfl
@[simp] theorem State.withTally_tally (s : State) (v : Tally) : (s.withTally v).tally = v := rfl
@[simp] theorem State.withTally_boot (s : State) (v : Tally) : (s.withTally v).boot = s.boot := rfl
@[simp] theorem State.withTally_hall (s : State) (v : Tally) : (s.withTally v).hall = s.hall := rfl
@[simp] theorem State.withTally_serv (s : State) (v : Tally) : (s.withTally v).serv = s.serv := rfl
@[simp] theorem State.withTally_rx (s : State) (v : Tally) : (s.withTally v).rx = s.rx := rfl
@[simp] theorem State.withTally_rw (s : State) (v : Tally) : (s.withTally v).rw = s.rw := rfl
@[simp] theorem State.withTally_fec (s : State) (v : Tally) : (s.withTally v).fec = s.fec := rfl
@[simp] theorem State.withTally_tx (s : State) (v : Tally) : (s.withTally v).tx = s.tx := rfl
@[simp] theorem State.withTally_loom (s : State) (v : Tally) : (s.withTally v).loom = s.loom := rfl
@[simp] theorem State.withTally_ra (s : State) (v : Tally) : (s.withTally v).ra = s.ra := rfl
@[simp] theorem State.withTally_crier (s : State) (v : Tally) : (s.withTally v).crier = s.crier := rfl
@[simp] theorem State.withTally_store (s : State) (v : Tally) : (s.withTally v).store = s.store := rfl
@[simp] theorem State.withTally_flow (s : State) (v : Tally) : (s.withTally v).flow = s.flow := rfl
@[simp] theorem State.withTally_lanes (s : State) (v : Tally) : (s.withTally v).lanes = s.lanes := rfl
@[simp] theorem State.withTally_timing (s : State) (v : Tally) : (s.withTally v).timing = s.timing := rfl
@[simp] theorem State.withTally_assay (s : State) (v : Tally) : (s.withTally v).assay = s.assay := rfl
@[simp] theorem State.withTally_damage (s : State) (v : Tally) : (s.withTally v).damage = s.damage := rfl
@[simp] theorem State.withBoot_pending (s : State) (v : Boot) : (s.withBoot v).pending = s.pending := rfl
@[simp] theorem State.withBoot_time (s : State) (v : Boot) : (s.withBoot v).time = s.time := rfl
@[simp] theorem State.withBoot_free (s : State) (v : Boot) : (s.withBoot v).free = s.free := rfl
@[simp] theorem State.withBoot_out (s : State) (v : Boot) : (s.withBoot v).out = s.out := rfl
@[simp] theorem State.withBoot_bar0 (s : State) (v : Boot) : (s.withBoot v).bar0 = s.bar0 := rfl
@[simp] theorem State.withBoot_clerk (s : State) (v : Boot) : (s.withBoot v).clerk = s.clerk := rfl
@[simp] theorem State.withBoot_hier (s : State) (v : Boot) : (s.withBoot v).hier = s.hier := rfl
@[simp] theorem State.withBoot_tally (s : State) (v : Boot) : (s.withBoot v).tally = s.tally := rfl
@[simp] theorem State.withBoot_boot (s : State) (v : Boot) : (s.withBoot v).boot = v := rfl
@[simp] theorem State.withBoot_hall (s : State) (v : Boot) : (s.withBoot v).hall = s.hall := rfl
@[simp] theorem State.withBoot_serv (s : State) (v : Boot) : (s.withBoot v).serv = s.serv := rfl
@[simp] theorem State.withBoot_rx (s : State) (v : Boot) : (s.withBoot v).rx = s.rx := rfl
@[simp] theorem State.withBoot_rw (s : State) (v : Boot) : (s.withBoot v).rw = s.rw := rfl
@[simp] theorem State.withBoot_fec (s : State) (v : Boot) : (s.withBoot v).fec = s.fec := rfl
@[simp] theorem State.withBoot_tx (s : State) (v : Boot) : (s.withBoot v).tx = s.tx := rfl
@[simp] theorem State.withBoot_loom (s : State) (v : Boot) : (s.withBoot v).loom = s.loom := rfl
@[simp] theorem State.withBoot_ra (s : State) (v : Boot) : (s.withBoot v).ra = s.ra := rfl
@[simp] theorem State.withBoot_crier (s : State) (v : Boot) : (s.withBoot v).crier = s.crier := rfl
@[simp] theorem State.withBoot_store (s : State) (v : Boot) : (s.withBoot v).store = s.store := rfl
@[simp] theorem State.withBoot_flow (s : State) (v : Boot) : (s.withBoot v).flow = s.flow := rfl
@[simp] theorem State.withBoot_lanes (s : State) (v : Boot) : (s.withBoot v).lanes = s.lanes := rfl
@[simp] theorem State.withBoot_timing (s : State) (v : Boot) : (s.withBoot v).timing = s.timing := rfl
@[simp] theorem State.withBoot_assay (s : State) (v : Boot) : (s.withBoot v).assay = s.assay := rfl
@[simp] theorem State.withBoot_damage (s : State) (v : Boot) : (s.withBoot v).damage = s.damage := rfl
@[simp] theorem State.withHall_pending (s : State) (v : Hall) : (s.withHall v).pending = s.pending := rfl
@[simp] theorem State.withHall_time (s : State) (v : Hall) : (s.withHall v).time = s.time := rfl
@[simp] theorem State.withHall_free (s : State) (v : Hall) : (s.withHall v).free = s.free := rfl
@[simp] theorem State.withHall_out (s : State) (v : Hall) : (s.withHall v).out = s.out := rfl
@[simp] theorem State.withHall_bar0 (s : State) (v : Hall) : (s.withHall v).bar0 = s.bar0 := rfl
@[simp] theorem State.withHall_clerk (s : State) (v : Hall) : (s.withHall v).clerk = s.clerk := rfl
@[simp] theorem State.withHall_hier (s : State) (v : Hall) : (s.withHall v).hier = s.hier := rfl
@[simp] theorem State.withHall_tally (s : State) (v : Hall) : (s.withHall v).tally = s.tally := rfl
@[simp] theorem State.withHall_boot (s : State) (v : Hall) : (s.withHall v).boot = s.boot := rfl
@[simp] theorem State.withHall_hall (s : State) (v : Hall) : (s.withHall v).hall = v := rfl
@[simp] theorem State.withHall_serv (s : State) (v : Hall) : (s.withHall v).serv = s.serv := rfl
@[simp] theorem State.withHall_rx (s : State) (v : Hall) : (s.withHall v).rx = s.rx := rfl
@[simp] theorem State.withHall_rw (s : State) (v : Hall) : (s.withHall v).rw = s.rw := rfl
@[simp] theorem State.withHall_fec (s : State) (v : Hall) : (s.withHall v).fec = s.fec := rfl
@[simp] theorem State.withHall_tx (s : State) (v : Hall) : (s.withHall v).tx = s.tx := rfl
@[simp] theorem State.withHall_loom (s : State) (v : Hall) : (s.withHall v).loom = s.loom := rfl
@[simp] theorem State.withHall_ra (s : State) (v : Hall) : (s.withHall v).ra = s.ra := rfl
@[simp] theorem State.withHall_crier (s : State) (v : Hall) : (s.withHall v).crier = s.crier := rfl
@[simp] theorem State.withHall_store (s : State) (v : Hall) : (s.withHall v).store = s.store := rfl
@[simp] theorem State.withHall_flow (s : State) (v : Hall) : (s.withHall v).flow = s.flow := rfl
@[simp] theorem State.withHall_lanes (s : State) (v : Hall) : (s.withHall v).lanes = s.lanes := rfl
@[simp] theorem State.withHall_timing (s : State) (v : Hall) : (s.withHall v).timing = s.timing := rfl
@[simp] theorem State.withHall_assay (s : State) (v : Hall) : (s.withHall v).assay = s.assay := rfl
@[simp] theorem State.withHall_damage (s : State) (v : Hall) : (s.withHall v).damage = s.damage := rfl
@[simp] theorem State.withServ_pending (s : State) (v : Serv) : (s.withServ v).pending = s.pending := rfl
@[simp] theorem State.withServ_time (s : State) (v : Serv) : (s.withServ v).time = s.time := rfl
@[simp] theorem State.withServ_free (s : State) (v : Serv) : (s.withServ v).free = s.free := rfl
@[simp] theorem State.withServ_out (s : State) (v : Serv) : (s.withServ v).out = s.out := rfl
@[simp] theorem State.withServ_bar0 (s : State) (v : Serv) : (s.withServ v).bar0 = s.bar0 := rfl
@[simp] theorem State.withServ_clerk (s : State) (v : Serv) : (s.withServ v).clerk = s.clerk := rfl
@[simp] theorem State.withServ_hier (s : State) (v : Serv) : (s.withServ v).hier = s.hier := rfl
@[simp] theorem State.withServ_tally (s : State) (v : Serv) : (s.withServ v).tally = s.tally := rfl
@[simp] theorem State.withServ_boot (s : State) (v : Serv) : (s.withServ v).boot = s.boot := rfl
@[simp] theorem State.withServ_hall (s : State) (v : Serv) : (s.withServ v).hall = s.hall := rfl
@[simp] theorem State.withServ_serv (s : State) (v : Serv) : (s.withServ v).serv = v := rfl
@[simp] theorem State.withServ_rx (s : State) (v : Serv) : (s.withServ v).rx = s.rx := rfl
@[simp] theorem State.withServ_rw (s : State) (v : Serv) : (s.withServ v).rw = s.rw := rfl
@[simp] theorem State.withServ_fec (s : State) (v : Serv) : (s.withServ v).fec = s.fec := rfl
@[simp] theorem State.withServ_tx (s : State) (v : Serv) : (s.withServ v).tx = s.tx := rfl
@[simp] theorem State.withServ_loom (s : State) (v : Serv) : (s.withServ v).loom = s.loom := rfl
@[simp] theorem State.withServ_ra (s : State) (v : Serv) : (s.withServ v).ra = s.ra := rfl
@[simp] theorem State.withServ_crier (s : State) (v : Serv) : (s.withServ v).crier = s.crier := rfl
@[simp] theorem State.withServ_store (s : State) (v : Serv) : (s.withServ v).store = s.store := rfl
@[simp] theorem State.withServ_flow (s : State) (v : Serv) : (s.withServ v).flow = s.flow := rfl
@[simp] theorem State.withServ_lanes (s : State) (v : Serv) : (s.withServ v).lanes = s.lanes := rfl
@[simp] theorem State.withServ_timing (s : State) (v : Serv) : (s.withServ v).timing = s.timing := rfl
@[simp] theorem State.withServ_assay (s : State) (v : Serv) : (s.withServ v).assay = s.assay := rfl
@[simp] theorem State.withServ_damage (s : State) (v : Serv) : (s.withServ v).damage = s.damage := rfl
@[simp] theorem State.withRx_pending (s : State) (v : P2 RxPort) : (s.withRx v).pending = s.pending := rfl
@[simp] theorem State.withRx_time (s : State) (v : P2 RxPort) : (s.withRx v).time = s.time := rfl
@[simp] theorem State.withRx_free (s : State) (v : P2 RxPort) : (s.withRx v).free = s.free := rfl
@[simp] theorem State.withRx_out (s : State) (v : P2 RxPort) : (s.withRx v).out = s.out := rfl
@[simp] theorem State.withRx_bar0 (s : State) (v : P2 RxPort) : (s.withRx v).bar0 = s.bar0 := rfl
@[simp] theorem State.withRx_clerk (s : State) (v : P2 RxPort) : (s.withRx v).clerk = s.clerk := rfl
@[simp] theorem State.withRx_hier (s : State) (v : P2 RxPort) : (s.withRx v).hier = s.hier := rfl
@[simp] theorem State.withRx_tally (s : State) (v : P2 RxPort) : (s.withRx v).tally = s.tally := rfl
@[simp] theorem State.withRx_boot (s : State) (v : P2 RxPort) : (s.withRx v).boot = s.boot := rfl
@[simp] theorem State.withRx_hall (s : State) (v : P2 RxPort) : (s.withRx v).hall = s.hall := rfl
@[simp] theorem State.withRx_serv (s : State) (v : P2 RxPort) : (s.withRx v).serv = s.serv := rfl
@[simp] theorem State.withRx_rx (s : State) (v : P2 RxPort) : (s.withRx v).rx = v := rfl
@[simp] theorem State.withRx_rw (s : State) (v : P2 RxPort) : (s.withRx v).rw = s.rw := rfl
@[simp] theorem State.withRx_fec (s : State) (v : P2 RxPort) : (s.withRx v).fec = s.fec := rfl
@[simp] theorem State.withRx_tx (s : State) (v : P2 RxPort) : (s.withRx v).tx = s.tx := rfl
@[simp] theorem State.withRx_loom (s : State) (v : P2 RxPort) : (s.withRx v).loom = s.loom := rfl
@[simp] theorem State.withRx_ra (s : State) (v : P2 RxPort) : (s.withRx v).ra = s.ra := rfl
@[simp] theorem State.withRx_crier (s : State) (v : P2 RxPort) : (s.withRx v).crier = s.crier := rfl
@[simp] theorem State.withRx_store (s : State) (v : P2 RxPort) : (s.withRx v).store = s.store := rfl
@[simp] theorem State.withRx_flow (s : State) (v : P2 RxPort) : (s.withRx v).flow = s.flow := rfl
@[simp] theorem State.withRx_lanes (s : State) (v : P2 RxPort) : (s.withRx v).lanes = s.lanes := rfl
@[simp] theorem State.withRx_timing (s : State) (v : P2 RxPort) : (s.withRx v).timing = s.timing := rfl
@[simp] theorem State.withRx_assay (s : State) (v : P2 RxPort) : (s.withRx v).assay = s.assay := rfl
@[simp] theorem State.withRx_damage (s : State) (v : P2 RxPort) : (s.withRx v).damage = s.damage := rfl
@[simp] theorem State.withRw_pending (s : State) (v : P2 RwPort) : (s.withRw v).pending = s.pending := rfl
@[simp] theorem State.withRw_time (s : State) (v : P2 RwPort) : (s.withRw v).time = s.time := rfl
@[simp] theorem State.withRw_free (s : State) (v : P2 RwPort) : (s.withRw v).free = s.free := rfl
@[simp] theorem State.withRw_out (s : State) (v : P2 RwPort) : (s.withRw v).out = s.out := rfl
@[simp] theorem State.withRw_bar0 (s : State) (v : P2 RwPort) : (s.withRw v).bar0 = s.bar0 := rfl
@[simp] theorem State.withRw_clerk (s : State) (v : P2 RwPort) : (s.withRw v).clerk = s.clerk := rfl
@[simp] theorem State.withRw_hier (s : State) (v : P2 RwPort) : (s.withRw v).hier = s.hier := rfl
@[simp] theorem State.withRw_tally (s : State) (v : P2 RwPort) : (s.withRw v).tally = s.tally := rfl
@[simp] theorem State.withRw_boot (s : State) (v : P2 RwPort) : (s.withRw v).boot = s.boot := rfl
@[simp] theorem State.withRw_hall (s : State) (v : P2 RwPort) : (s.withRw v).hall = s.hall := rfl
@[simp] theorem State.withRw_serv (s : State) (v : P2 RwPort) : (s.withRw v).serv = s.serv := rfl
@[simp] theorem State.withRw_rx (s : State) (v : P2 RwPort) : (s.withRw v).rx = s.rx := rfl
@[simp] theorem State.withRw_rw (s : State) (v : P2 RwPort) : (s.withRw v).rw = v := rfl
@[simp] theorem State.withRw_fec (s : State) (v : P2 RwPort) : (s.withRw v).fec = s.fec := rfl
@[simp] theorem State.withRw_tx (s : State) (v : P2 RwPort) : (s.withRw v).tx = s.tx := rfl
@[simp] theorem State.withRw_loom (s : State) (v : P2 RwPort) : (s.withRw v).loom = s.loom := rfl
@[simp] theorem State.withRw_ra (s : State) (v : P2 RwPort) : (s.withRw v).ra = s.ra := rfl
@[simp] theorem State.withRw_crier (s : State) (v : P2 RwPort) : (s.withRw v).crier = s.crier := rfl
@[simp] theorem State.withRw_store (s : State) (v : P2 RwPort) : (s.withRw v).store = s.store := rfl
@[simp] theorem State.withRw_flow (s : State) (v : P2 RwPort) : (s.withRw v).flow = s.flow := rfl
@[simp] theorem State.withRw_lanes (s : State) (v : P2 RwPort) : (s.withRw v).lanes = s.lanes := rfl
@[simp] theorem State.withRw_timing (s : State) (v : P2 RwPort) : (s.withRw v).timing = s.timing := rfl
@[simp] theorem State.withRw_assay (s : State) (v : P2 RwPort) : (s.withRw v).assay = s.assay := rfl
@[simp] theorem State.withRw_damage (s : State) (v : P2 RwPort) : (s.withRw v).damage = s.damage := rfl
@[simp] theorem State.withFec_pending (s : State) (v : Fec) : (s.withFec v).pending = s.pending := rfl
@[simp] theorem State.withFec_time (s : State) (v : Fec) : (s.withFec v).time = s.time := rfl
@[simp] theorem State.withFec_free (s : State) (v : Fec) : (s.withFec v).free = s.free := rfl
@[simp] theorem State.withFec_out (s : State) (v : Fec) : (s.withFec v).out = s.out := rfl
@[simp] theorem State.withFec_bar0 (s : State) (v : Fec) : (s.withFec v).bar0 = s.bar0 := rfl
@[simp] theorem State.withFec_clerk (s : State) (v : Fec) : (s.withFec v).clerk = s.clerk := rfl
@[simp] theorem State.withFec_hier (s : State) (v : Fec) : (s.withFec v).hier = s.hier := rfl
@[simp] theorem State.withFec_tally (s : State) (v : Fec) : (s.withFec v).tally = s.tally := rfl
@[simp] theorem State.withFec_boot (s : State) (v : Fec) : (s.withFec v).boot = s.boot := rfl
@[simp] theorem State.withFec_hall (s : State) (v : Fec) : (s.withFec v).hall = s.hall := rfl
@[simp] theorem State.withFec_serv (s : State) (v : Fec) : (s.withFec v).serv = s.serv := rfl
@[simp] theorem State.withFec_rx (s : State) (v : Fec) : (s.withFec v).rx = s.rx := rfl
@[simp] theorem State.withFec_rw (s : State) (v : Fec) : (s.withFec v).rw = s.rw := rfl
@[simp] theorem State.withFec_fec (s : State) (v : Fec) : (s.withFec v).fec = v := rfl
@[simp] theorem State.withFec_tx (s : State) (v : Fec) : (s.withFec v).tx = s.tx := rfl
@[simp] theorem State.withFec_loom (s : State) (v : Fec) : (s.withFec v).loom = s.loom := rfl
@[simp] theorem State.withFec_ra (s : State) (v : Fec) : (s.withFec v).ra = s.ra := rfl
@[simp] theorem State.withFec_crier (s : State) (v : Fec) : (s.withFec v).crier = s.crier := rfl
@[simp] theorem State.withFec_store (s : State) (v : Fec) : (s.withFec v).store = s.store := rfl
@[simp] theorem State.withFec_flow (s : State) (v : Fec) : (s.withFec v).flow = s.flow := rfl
@[simp] theorem State.withFec_lanes (s : State) (v : Fec) : (s.withFec v).lanes = s.lanes := rfl
@[simp] theorem State.withFec_timing (s : State) (v : Fec) : (s.withFec v).timing = s.timing := rfl
@[simp] theorem State.withFec_assay (s : State) (v : Fec) : (s.withFec v).assay = s.assay := rfl
@[simp] theorem State.withFec_damage (s : State) (v : Fec) : (s.withFec v).damage = s.damage := rfl
@[simp] theorem State.withTx_pending (s : State) (v : P2 TxPort) : (s.withTx v).pending = s.pending := rfl
@[simp] theorem State.withTx_time (s : State) (v : P2 TxPort) : (s.withTx v).time = s.time := rfl
@[simp] theorem State.withTx_free (s : State) (v : P2 TxPort) : (s.withTx v).free = s.free := rfl
@[simp] theorem State.withTx_out (s : State) (v : P2 TxPort) : (s.withTx v).out = s.out := rfl
@[simp] theorem State.withTx_bar0 (s : State) (v : P2 TxPort) : (s.withTx v).bar0 = s.bar0 := rfl
@[simp] theorem State.withTx_clerk (s : State) (v : P2 TxPort) : (s.withTx v).clerk = s.clerk := rfl
@[simp] theorem State.withTx_hier (s : State) (v : P2 TxPort) : (s.withTx v).hier = s.hier := rfl
@[simp] theorem State.withTx_tally (s : State) (v : P2 TxPort) : (s.withTx v).tally = s.tally := rfl
@[simp] theorem State.withTx_boot (s : State) (v : P2 TxPort) : (s.withTx v).boot = s.boot := rfl
@[simp] theorem State.withTx_hall (s : State) (v : P2 TxPort) : (s.withTx v).hall = s.hall := rfl
@[simp] theorem State.withTx_serv (s : State) (v : P2 TxPort) : (s.withTx v).serv = s.serv := rfl
@[simp] theorem State.withTx_rx (s : State) (v : P2 TxPort) : (s.withTx v).rx = s.rx := rfl
@[simp] theorem State.withTx_rw (s : State) (v : P2 TxPort) : (s.withTx v).rw = s.rw := rfl
@[simp] theorem State.withTx_fec (s : State) (v : P2 TxPort) : (s.withTx v).fec = s.fec := rfl
@[simp] theorem State.withTx_tx (s : State) (v : P2 TxPort) : (s.withTx v).tx = v := rfl
@[simp] theorem State.withTx_loom (s : State) (v : P2 TxPort) : (s.withTx v).loom = s.loom := rfl
@[simp] theorem State.withTx_ra (s : State) (v : P2 TxPort) : (s.withTx v).ra = s.ra := rfl
@[simp] theorem State.withTx_crier (s : State) (v : P2 TxPort) : (s.withTx v).crier = s.crier := rfl
@[simp] theorem State.withTx_store (s : State) (v : P2 TxPort) : (s.withTx v).store = s.store := rfl
@[simp] theorem State.withTx_flow (s : State) (v : P2 TxPort) : (s.withTx v).flow = s.flow := rfl
@[simp] theorem State.withTx_lanes (s : State) (v : P2 TxPort) : (s.withTx v).lanes = s.lanes := rfl
@[simp] theorem State.withTx_timing (s : State) (v : P2 TxPort) : (s.withTx v).timing = s.timing := rfl
@[simp] theorem State.withTx_assay (s : State) (v : P2 TxPort) : (s.withTx v).assay = s.assay := rfl
@[simp] theorem State.withTx_damage (s : State) (v : P2 TxPort) : (s.withTx v).damage = s.damage := rfl
@[simp] theorem State.withLoom_pending (s : State) (v : Loom) : (s.withLoom v).pending = s.pending := rfl
@[simp] theorem State.withLoom_time (s : State) (v : Loom) : (s.withLoom v).time = s.time := rfl
@[simp] theorem State.withLoom_free (s : State) (v : Loom) : (s.withLoom v).free = s.free := rfl
@[simp] theorem State.withLoom_out (s : State) (v : Loom) : (s.withLoom v).out = s.out := rfl
@[simp] theorem State.withLoom_bar0 (s : State) (v : Loom) : (s.withLoom v).bar0 = s.bar0 := rfl
@[simp] theorem State.withLoom_clerk (s : State) (v : Loom) : (s.withLoom v).clerk = s.clerk := rfl
@[simp] theorem State.withLoom_hier (s : State) (v : Loom) : (s.withLoom v).hier = s.hier := rfl
@[simp] theorem State.withLoom_tally (s : State) (v : Loom) : (s.withLoom v).tally = s.tally := rfl
@[simp] theorem State.withLoom_boot (s : State) (v : Loom) : (s.withLoom v).boot = s.boot := rfl
@[simp] theorem State.withLoom_hall (s : State) (v : Loom) : (s.withLoom v).hall = s.hall := rfl
@[simp] theorem State.withLoom_serv (s : State) (v : Loom) : (s.withLoom v).serv = s.serv := rfl
@[simp] theorem State.withLoom_rx (s : State) (v : Loom) : (s.withLoom v).rx = s.rx := rfl
@[simp] theorem State.withLoom_rw (s : State) (v : Loom) : (s.withLoom v).rw = s.rw := rfl
@[simp] theorem State.withLoom_fec (s : State) (v : Loom) : (s.withLoom v).fec = s.fec := rfl
@[simp] theorem State.withLoom_tx (s : State) (v : Loom) : (s.withLoom v).tx = s.tx := rfl
@[simp] theorem State.withLoom_loom (s : State) (v : Loom) : (s.withLoom v).loom = v := rfl
@[simp] theorem State.withLoom_ra (s : State) (v : Loom) : (s.withLoom v).ra = s.ra := rfl
@[simp] theorem State.withLoom_crier (s : State) (v : Loom) : (s.withLoom v).crier = s.crier := rfl
@[simp] theorem State.withLoom_store (s : State) (v : Loom) : (s.withLoom v).store = s.store := rfl
@[simp] theorem State.withLoom_flow (s : State) (v : Loom) : (s.withLoom v).flow = s.flow := rfl
@[simp] theorem State.withLoom_lanes (s : State) (v : Loom) : (s.withLoom v).lanes = s.lanes := rfl
@[simp] theorem State.withLoom_timing (s : State) (v : Loom) : (s.withLoom v).timing = s.timing := rfl
@[simp] theorem State.withLoom_assay (s : State) (v : Loom) : (s.withLoom v).assay = s.assay := rfl
@[simp] theorem State.withLoom_damage (s : State) (v : Loom) : (s.withLoom v).damage = s.damage := rfl
@[simp] theorem State.withRa_pending (s : State) (v : Ra) : (s.withRa v).pending = s.pending := rfl
@[simp] theorem State.withRa_time (s : State) (v : Ra) : (s.withRa v).time = s.time := rfl
@[simp] theorem State.withRa_free (s : State) (v : Ra) : (s.withRa v).free = s.free := rfl
@[simp] theorem State.withRa_out (s : State) (v : Ra) : (s.withRa v).out = s.out := rfl
@[simp] theorem State.withRa_bar0 (s : State) (v : Ra) : (s.withRa v).bar0 = s.bar0 := rfl
@[simp] theorem State.withRa_clerk (s : State) (v : Ra) : (s.withRa v).clerk = s.clerk := rfl
@[simp] theorem State.withRa_hier (s : State) (v : Ra) : (s.withRa v).hier = s.hier := rfl
@[simp] theorem State.withRa_tally (s : State) (v : Ra) : (s.withRa v).tally = s.tally := rfl
@[simp] theorem State.withRa_boot (s : State) (v : Ra) : (s.withRa v).boot = s.boot := rfl
@[simp] theorem State.withRa_hall (s : State) (v : Ra) : (s.withRa v).hall = s.hall := rfl
@[simp] theorem State.withRa_serv (s : State) (v : Ra) : (s.withRa v).serv = s.serv := rfl
@[simp] theorem State.withRa_rx (s : State) (v : Ra) : (s.withRa v).rx = s.rx := rfl
@[simp] theorem State.withRa_rw (s : State) (v : Ra) : (s.withRa v).rw = s.rw := rfl
@[simp] theorem State.withRa_fec (s : State) (v : Ra) : (s.withRa v).fec = s.fec := rfl
@[simp] theorem State.withRa_tx (s : State) (v : Ra) : (s.withRa v).tx = s.tx := rfl
@[simp] theorem State.withRa_loom (s : State) (v : Ra) : (s.withRa v).loom = s.loom := rfl
@[simp] theorem State.withRa_ra (s : State) (v : Ra) : (s.withRa v).ra = v := rfl
@[simp] theorem State.withRa_crier (s : State) (v : Ra) : (s.withRa v).crier = s.crier := rfl
@[simp] theorem State.withRa_store (s : State) (v : Ra) : (s.withRa v).store = s.store := rfl
@[simp] theorem State.withRa_flow (s : State) (v : Ra) : (s.withRa v).flow = s.flow := rfl
@[simp] theorem State.withRa_lanes (s : State) (v : Ra) : (s.withRa v).lanes = s.lanes := rfl
@[simp] theorem State.withRa_timing (s : State) (v : Ra) : (s.withRa v).timing = s.timing := rfl
@[simp] theorem State.withRa_assay (s : State) (v : Ra) : (s.withRa v).assay = s.assay := rfl
@[simp] theorem State.withRa_damage (s : State) (v : Ra) : (s.withRa v).damage = s.damage := rfl
@[simp] theorem State.withCrier_pending (s : State) (v : Crier) : (s.withCrier v).pending = s.pending := rfl
@[simp] theorem State.withCrier_time (s : State) (v : Crier) : (s.withCrier v).time = s.time := rfl
@[simp] theorem State.withCrier_free (s : State) (v : Crier) : (s.withCrier v).free = s.free := rfl
@[simp] theorem State.withCrier_out (s : State) (v : Crier) : (s.withCrier v).out = s.out := rfl
@[simp] theorem State.withCrier_bar0 (s : State) (v : Crier) : (s.withCrier v).bar0 = s.bar0 := rfl
@[simp] theorem State.withCrier_clerk (s : State) (v : Crier) : (s.withCrier v).clerk = s.clerk := rfl
@[simp] theorem State.withCrier_hier (s : State) (v : Crier) : (s.withCrier v).hier = s.hier := rfl
@[simp] theorem State.withCrier_tally (s : State) (v : Crier) : (s.withCrier v).tally = s.tally := rfl
@[simp] theorem State.withCrier_boot (s : State) (v : Crier) : (s.withCrier v).boot = s.boot := rfl
@[simp] theorem State.withCrier_hall (s : State) (v : Crier) : (s.withCrier v).hall = s.hall := rfl
@[simp] theorem State.withCrier_serv (s : State) (v : Crier) : (s.withCrier v).serv = s.serv := rfl
@[simp] theorem State.withCrier_rx (s : State) (v : Crier) : (s.withCrier v).rx = s.rx := rfl
@[simp] theorem State.withCrier_rw (s : State) (v : Crier) : (s.withCrier v).rw = s.rw := rfl
@[simp] theorem State.withCrier_fec (s : State) (v : Crier) : (s.withCrier v).fec = s.fec := rfl
@[simp] theorem State.withCrier_tx (s : State) (v : Crier) : (s.withCrier v).tx = s.tx := rfl
@[simp] theorem State.withCrier_loom (s : State) (v : Crier) : (s.withCrier v).loom = s.loom := rfl
@[simp] theorem State.withCrier_ra (s : State) (v : Crier) : (s.withCrier v).ra = s.ra := rfl
@[simp] theorem State.withCrier_crier (s : State) (v : Crier) : (s.withCrier v).crier = v := rfl
@[simp] theorem State.withCrier_store (s : State) (v : Crier) : (s.withCrier v).store = s.store := rfl
@[simp] theorem State.withCrier_flow (s : State) (v : Crier) : (s.withCrier v).flow = s.flow := rfl
@[simp] theorem State.withCrier_lanes (s : State) (v : Crier) : (s.withCrier v).lanes = s.lanes := rfl
@[simp] theorem State.withCrier_timing (s : State) (v : Crier) : (s.withCrier v).timing = s.timing := rfl
@[simp] theorem State.withCrier_assay (s : State) (v : Crier) : (s.withCrier v).assay = s.assay := rfl
@[simp] theorem State.withCrier_damage (s : State) (v : Crier) : (s.withCrier v).damage = s.damage := rfl
@[simp] theorem State.withStore_pending (s : State) (v : Store) : (s.withStore v).pending = s.pending := rfl
@[simp] theorem State.withStore_time (s : State) (v : Store) : (s.withStore v).time = s.time := rfl
@[simp] theorem State.withStore_free (s : State) (v : Store) : (s.withStore v).free = s.free := rfl
@[simp] theorem State.withStore_out (s : State) (v : Store) : (s.withStore v).out = s.out := rfl
@[simp] theorem State.withStore_bar0 (s : State) (v : Store) : (s.withStore v).bar0 = s.bar0 := rfl
@[simp] theorem State.withStore_clerk (s : State) (v : Store) : (s.withStore v).clerk = s.clerk := rfl
@[simp] theorem State.withStore_hier (s : State) (v : Store) : (s.withStore v).hier = s.hier := rfl
@[simp] theorem State.withStore_tally (s : State) (v : Store) : (s.withStore v).tally = s.tally := rfl
@[simp] theorem State.withStore_boot (s : State) (v : Store) : (s.withStore v).boot = s.boot := rfl
@[simp] theorem State.withStore_hall (s : State) (v : Store) : (s.withStore v).hall = s.hall := rfl
@[simp] theorem State.withStore_serv (s : State) (v : Store) : (s.withStore v).serv = s.serv := rfl
@[simp] theorem State.withStore_rx (s : State) (v : Store) : (s.withStore v).rx = s.rx := rfl
@[simp] theorem State.withStore_rw (s : State) (v : Store) : (s.withStore v).rw = s.rw := rfl
@[simp] theorem State.withStore_fec (s : State) (v : Store) : (s.withStore v).fec = s.fec := rfl
@[simp] theorem State.withStore_tx (s : State) (v : Store) : (s.withStore v).tx = s.tx := rfl
@[simp] theorem State.withStore_loom (s : State) (v : Store) : (s.withStore v).loom = s.loom := rfl
@[simp] theorem State.withStore_ra (s : State) (v : Store) : (s.withStore v).ra = s.ra := rfl
@[simp] theorem State.withStore_crier (s : State) (v : Store) : (s.withStore v).crier = s.crier := rfl
@[simp] theorem State.withStore_store (s : State) (v : Store) : (s.withStore v).store = v := rfl
@[simp] theorem State.withStore_flow (s : State) (v : Store) : (s.withStore v).flow = s.flow := rfl
@[simp] theorem State.withStore_lanes (s : State) (v : Store) : (s.withStore v).lanes = s.lanes := rfl
@[simp] theorem State.withStore_timing (s : State) (v : Store) : (s.withStore v).timing = s.timing := rfl
@[simp] theorem State.withStore_assay (s : State) (v : Store) : (s.withStore v).assay = s.assay := rfl
@[simp] theorem State.withStore_damage (s : State) (v : Store) : (s.withStore v).damage = s.damage := rfl
@[simp] theorem State.withFlow_pending (s : State) (v : Flow) : (s.withFlow v).pending = s.pending := rfl
@[simp] theorem State.withFlow_time (s : State) (v : Flow) : (s.withFlow v).time = s.time := rfl
@[simp] theorem State.withFlow_free (s : State) (v : Flow) : (s.withFlow v).free = s.free := rfl
@[simp] theorem State.withFlow_out (s : State) (v : Flow) : (s.withFlow v).out = s.out := rfl
@[simp] theorem State.withFlow_bar0 (s : State) (v : Flow) : (s.withFlow v).bar0 = s.bar0 := rfl
@[simp] theorem State.withFlow_clerk (s : State) (v : Flow) : (s.withFlow v).clerk = s.clerk := rfl
@[simp] theorem State.withFlow_hier (s : State) (v : Flow) : (s.withFlow v).hier = s.hier := rfl
@[simp] theorem State.withFlow_tally (s : State) (v : Flow) : (s.withFlow v).tally = s.tally := rfl
@[simp] theorem State.withFlow_boot (s : State) (v : Flow) : (s.withFlow v).boot = s.boot := rfl
@[simp] theorem State.withFlow_hall (s : State) (v : Flow) : (s.withFlow v).hall = s.hall := rfl
@[simp] theorem State.withFlow_serv (s : State) (v : Flow) : (s.withFlow v).serv = s.serv := rfl
@[simp] theorem State.withFlow_rx (s : State) (v : Flow) : (s.withFlow v).rx = s.rx := rfl
@[simp] theorem State.withFlow_rw (s : State) (v : Flow) : (s.withFlow v).rw = s.rw := rfl
@[simp] theorem State.withFlow_fec (s : State) (v : Flow) : (s.withFlow v).fec = s.fec := rfl
@[simp] theorem State.withFlow_tx (s : State) (v : Flow) : (s.withFlow v).tx = s.tx := rfl
@[simp] theorem State.withFlow_loom (s : State) (v : Flow) : (s.withFlow v).loom = s.loom := rfl
@[simp] theorem State.withFlow_ra (s : State) (v : Flow) : (s.withFlow v).ra = s.ra := rfl
@[simp] theorem State.withFlow_crier (s : State) (v : Flow) : (s.withFlow v).crier = s.crier := rfl
@[simp] theorem State.withFlow_store (s : State) (v : Flow) : (s.withFlow v).store = s.store := rfl
@[simp] theorem State.withFlow_flow (s : State) (v : Flow) : (s.withFlow v).flow = v := rfl
@[simp] theorem State.withFlow_lanes (s : State) (v : Flow) : (s.withFlow v).lanes = s.lanes := rfl
@[simp] theorem State.withFlow_timing (s : State) (v : Flow) : (s.withFlow v).timing = s.timing := rfl
@[simp] theorem State.withFlow_assay (s : State) (v : Flow) : (s.withFlow v).assay = s.assay := rfl
@[simp] theorem State.withFlow_damage (s : State) (v : Flow) : (s.withFlow v).damage = s.damage := rfl
@[simp] theorem State.withLanes_pending (s : State) (v : Lanes) : (s.withLanes v).pending = s.pending := rfl
@[simp] theorem State.withLanes_time (s : State) (v : Lanes) : (s.withLanes v).time = s.time := rfl
@[simp] theorem State.withLanes_free (s : State) (v : Lanes) : (s.withLanes v).free = s.free := rfl
@[simp] theorem State.withLanes_out (s : State) (v : Lanes) : (s.withLanes v).out = s.out := rfl
@[simp] theorem State.withLanes_bar0 (s : State) (v : Lanes) : (s.withLanes v).bar0 = s.bar0 := rfl
@[simp] theorem State.withLanes_clerk (s : State) (v : Lanes) : (s.withLanes v).clerk = s.clerk := rfl
@[simp] theorem State.withLanes_hier (s : State) (v : Lanes) : (s.withLanes v).hier = s.hier := rfl
@[simp] theorem State.withLanes_tally (s : State) (v : Lanes) : (s.withLanes v).tally = s.tally := rfl
@[simp] theorem State.withLanes_boot (s : State) (v : Lanes) : (s.withLanes v).boot = s.boot := rfl
@[simp] theorem State.withLanes_hall (s : State) (v : Lanes) : (s.withLanes v).hall = s.hall := rfl
@[simp] theorem State.withLanes_serv (s : State) (v : Lanes) : (s.withLanes v).serv = s.serv := rfl
@[simp] theorem State.withLanes_rx (s : State) (v : Lanes) : (s.withLanes v).rx = s.rx := rfl
@[simp] theorem State.withLanes_rw (s : State) (v : Lanes) : (s.withLanes v).rw = s.rw := rfl
@[simp] theorem State.withLanes_fec (s : State) (v : Lanes) : (s.withLanes v).fec = s.fec := rfl
@[simp] theorem State.withLanes_tx (s : State) (v : Lanes) : (s.withLanes v).tx = s.tx := rfl
@[simp] theorem State.withLanes_loom (s : State) (v : Lanes) : (s.withLanes v).loom = s.loom := rfl
@[simp] theorem State.withLanes_ra (s : State) (v : Lanes) : (s.withLanes v).ra = s.ra := rfl
@[simp] theorem State.withLanes_crier (s : State) (v : Lanes) : (s.withLanes v).crier = s.crier := rfl
@[simp] theorem State.withLanes_store (s : State) (v : Lanes) : (s.withLanes v).store = s.store := rfl
@[simp] theorem State.withLanes_flow (s : State) (v : Lanes) : (s.withLanes v).flow = s.flow := rfl
@[simp] theorem State.withLanes_lanes (s : State) (v : Lanes) : (s.withLanes v).lanes = v := rfl
@[simp] theorem State.withLanes_timing (s : State) (v : Lanes) : (s.withLanes v).timing = s.timing := rfl
@[simp] theorem State.withLanes_assay (s : State) (v : Lanes) : (s.withLanes v).assay = s.assay := rfl
@[simp] theorem State.withLanes_damage (s : State) (v : Lanes) : (s.withLanes v).damage = s.damage := rfl
@[simp] theorem State.withTiming_pending (s : State) (v : Timing) : (s.withTiming v).pending = s.pending := rfl
@[simp] theorem State.withTiming_time (s : State) (v : Timing) : (s.withTiming v).time = s.time := rfl
@[simp] theorem State.withTiming_free (s : State) (v : Timing) : (s.withTiming v).free = s.free := rfl
@[simp] theorem State.withTiming_out (s : State) (v : Timing) : (s.withTiming v).out = s.out := rfl
@[simp] theorem State.withTiming_bar0 (s : State) (v : Timing) : (s.withTiming v).bar0 = s.bar0 := rfl
@[simp] theorem State.withTiming_clerk (s : State) (v : Timing) : (s.withTiming v).clerk = s.clerk := rfl
@[simp] theorem State.withTiming_hier (s : State) (v : Timing) : (s.withTiming v).hier = s.hier := rfl
@[simp] theorem State.withTiming_tally (s : State) (v : Timing) : (s.withTiming v).tally = s.tally := rfl
@[simp] theorem State.withTiming_boot (s : State) (v : Timing) : (s.withTiming v).boot = s.boot := rfl
@[simp] theorem State.withTiming_hall (s : State) (v : Timing) : (s.withTiming v).hall = s.hall := rfl
@[simp] theorem State.withTiming_serv (s : State) (v : Timing) : (s.withTiming v).serv = s.serv := rfl
@[simp] theorem State.withTiming_rx (s : State) (v : Timing) : (s.withTiming v).rx = s.rx := rfl
@[simp] theorem State.withTiming_rw (s : State) (v : Timing) : (s.withTiming v).rw = s.rw := rfl
@[simp] theorem State.withTiming_fec (s : State) (v : Timing) : (s.withTiming v).fec = s.fec := rfl
@[simp] theorem State.withTiming_tx (s : State) (v : Timing) : (s.withTiming v).tx = s.tx := rfl
@[simp] theorem State.withTiming_loom (s : State) (v : Timing) : (s.withTiming v).loom = s.loom := rfl
@[simp] theorem State.withTiming_ra (s : State) (v : Timing) : (s.withTiming v).ra = s.ra := rfl
@[simp] theorem State.withTiming_crier (s : State) (v : Timing) : (s.withTiming v).crier = s.crier := rfl
@[simp] theorem State.withTiming_store (s : State) (v : Timing) : (s.withTiming v).store = s.store := rfl
@[simp] theorem State.withTiming_flow (s : State) (v : Timing) : (s.withTiming v).flow = s.flow := rfl
@[simp] theorem State.withTiming_lanes (s : State) (v : Timing) : (s.withTiming v).lanes = s.lanes := rfl
@[simp] theorem State.withTiming_timing (s : State) (v : Timing) : (s.withTiming v).timing = v := rfl
@[simp] theorem State.withTiming_assay (s : State) (v : Timing) : (s.withTiming v).assay = s.assay := rfl
@[simp] theorem State.withTiming_damage (s : State) (v : Timing) : (s.withTiming v).damage = s.damage := rfl
@[simp] theorem State.withAssay_pending (s : State) (v : Assay) : (s.withAssay v).pending = s.pending := rfl
@[simp] theorem State.withAssay_time (s : State) (v : Assay) : (s.withAssay v).time = s.time := rfl
@[simp] theorem State.withAssay_free (s : State) (v : Assay) : (s.withAssay v).free = s.free := rfl
@[simp] theorem State.withAssay_out (s : State) (v : Assay) : (s.withAssay v).out = s.out := rfl
@[simp] theorem State.withAssay_bar0 (s : State) (v : Assay) : (s.withAssay v).bar0 = s.bar0 := rfl
@[simp] theorem State.withAssay_clerk (s : State) (v : Assay) : (s.withAssay v).clerk = s.clerk := rfl
@[simp] theorem State.withAssay_hier (s : State) (v : Assay) : (s.withAssay v).hier = s.hier := rfl
@[simp] theorem State.withAssay_tally (s : State) (v : Assay) : (s.withAssay v).tally = s.tally := rfl
@[simp] theorem State.withAssay_boot (s : State) (v : Assay) : (s.withAssay v).boot = s.boot := rfl
@[simp] theorem State.withAssay_hall (s : State) (v : Assay) : (s.withAssay v).hall = s.hall := rfl
@[simp] theorem State.withAssay_serv (s : State) (v : Assay) : (s.withAssay v).serv = s.serv := rfl
@[simp] theorem State.withAssay_rx (s : State) (v : Assay) : (s.withAssay v).rx = s.rx := rfl
@[simp] theorem State.withAssay_rw (s : State) (v : Assay) : (s.withAssay v).rw = s.rw := rfl
@[simp] theorem State.withAssay_fec (s : State) (v : Assay) : (s.withAssay v).fec = s.fec := rfl
@[simp] theorem State.withAssay_tx (s : State) (v : Assay) : (s.withAssay v).tx = s.tx := rfl
@[simp] theorem State.withAssay_loom (s : State) (v : Assay) : (s.withAssay v).loom = s.loom := rfl
@[simp] theorem State.withAssay_ra (s : State) (v : Assay) : (s.withAssay v).ra = s.ra := rfl
@[simp] theorem State.withAssay_crier (s : State) (v : Assay) : (s.withAssay v).crier = s.crier := rfl
@[simp] theorem State.withAssay_store (s : State) (v : Assay) : (s.withAssay v).store = s.store := rfl
@[simp] theorem State.withAssay_flow (s : State) (v : Assay) : (s.withAssay v).flow = s.flow := rfl
@[simp] theorem State.withAssay_lanes (s : State) (v : Assay) : (s.withAssay v).lanes = s.lanes := rfl
@[simp] theorem State.withAssay_timing (s : State) (v : Assay) : (s.withAssay v).timing = s.timing := rfl
@[simp] theorem State.withAssay_assay (s : State) (v : Assay) : (s.withAssay v).assay = v := rfl
@[simp] theorem State.withAssay_damage (s : State) (v : Assay) : (s.withAssay v).damage = s.damage := rfl
@[simp] theorem State.withDamage_pending (s : State) (v : List Damage) : (s.withDamage v).pending = s.pending := rfl
@[simp] theorem State.withDamage_time (s : State) (v : List Damage) : (s.withDamage v).time = s.time := rfl
@[simp] theorem State.withDamage_free (s : State) (v : List Damage) : (s.withDamage v).free = s.free := rfl
@[simp] theorem State.withDamage_out (s : State) (v : List Damage) : (s.withDamage v).out = s.out := rfl
@[simp] theorem State.withDamage_bar0 (s : State) (v : List Damage) : (s.withDamage v).bar0 = s.bar0 := rfl
@[simp] theorem State.withDamage_clerk (s : State) (v : List Damage) : (s.withDamage v).clerk = s.clerk := rfl
@[simp] theorem State.withDamage_hier (s : State) (v : List Damage) : (s.withDamage v).hier = s.hier := rfl
@[simp] theorem State.withDamage_tally (s : State) (v : List Damage) : (s.withDamage v).tally = s.tally := rfl
@[simp] theorem State.withDamage_boot (s : State) (v : List Damage) : (s.withDamage v).boot = s.boot := rfl
@[simp] theorem State.withDamage_hall (s : State) (v : List Damage) : (s.withDamage v).hall = s.hall := rfl
@[simp] theorem State.withDamage_serv (s : State) (v : List Damage) : (s.withDamage v).serv = s.serv := rfl
@[simp] theorem State.withDamage_rx (s : State) (v : List Damage) : (s.withDamage v).rx = s.rx := rfl
@[simp] theorem State.withDamage_rw (s : State) (v : List Damage) : (s.withDamage v).rw = s.rw := rfl
@[simp] theorem State.withDamage_fec (s : State) (v : List Damage) : (s.withDamage v).fec = s.fec := rfl
@[simp] theorem State.withDamage_tx (s : State) (v : List Damage) : (s.withDamage v).tx = s.tx := rfl
@[simp] theorem State.withDamage_loom (s : State) (v : List Damage) : (s.withDamage v).loom = s.loom := rfl
@[simp] theorem State.withDamage_ra (s : State) (v : List Damage) : (s.withDamage v).ra = s.ra := rfl
@[simp] theorem State.withDamage_crier (s : State) (v : List Damage) : (s.withDamage v).crier = s.crier := rfl
@[simp] theorem State.withDamage_store (s : State) (v : List Damage) : (s.withDamage v).store = s.store := rfl
@[simp] theorem State.withDamage_flow (s : State) (v : List Damage) : (s.withDamage v).flow = s.flow := rfl
@[simp] theorem State.withDamage_lanes (s : State) (v : List Damage) : (s.withDamage v).lanes = s.lanes := rfl
@[simp] theorem State.withDamage_timing (s : State) (v : List Damage) : (s.withDamage v).timing = s.timing := rfl
@[simp] theorem State.withDamage_assay (s : State) (v : List Damage) : (s.withDamage v).assay = s.assay := rfl
@[simp] theorem State.withDamage_damage (s : State) (v : List Damage) : (s.withDamage v).damage = v := rfl

end Sys2Proof.Machine
end

