-- ==== Sys2Proof/Laws/Tables.lean ====
section
/-!
SUPPORT. Sparse tables and the memory of the Storehouse: reading what was written, and that every operation keeps the canonical
form.
-/

set_option Elab.async false
set_option linter.all false

namespace Sys2Proof

theorem Tab.get_drop {α : Type} {d : α} (t : Tab α) (i j : Nat) : Tab.get d (Tab.drop t i) j = if j = i then d else Tab.get d t j := by
  induction t with
  | nil => simp [Tab.drop, Tab.get]
  | cons e r ih =>
    obtain ⟨k, v⟩ := e
    by_cases hk : k = i
    · have e : Tab.drop ((k, v) :: r) i = Tab.drop r i := by simp [Tab.drop, hk]
      rw [e, ih]
      by_cases hj : j = i
      · simp [hj]
      · simp [Tab.get, hj, hk]
    · have e : Tab.drop ((k, v) :: r) i = (k, v) :: Tab.drop r i := by simp [Tab.drop, hk]
      rw [e]
      simp only [Tab.get, ih]
      by_cases hj : j = i
      · have : ¬j = k := fun h => hk (h ▸ hj)
        simp [hj, Ne.symm hk]
      · simp [hj]

/-- Reading a table after one of its entries is put. -/
theorem Tab.get_set {α : Type} [DecidableEq α] {d x : α} (t : Tab α) (i j : Nat) :
    Tab.get d (Tab.set d t i x) j = if j = i then x else Tab.get d t j := by
  induction t with
  | nil => unfold Tab.set; split <;> simp_all [Tab.get]
  | cons e r ih =>
    obtain ⟨k, v⟩ := e
    unfold Tab.set
    split
    · rename_i hik
      split
      · simp only [Tab.get, Tab.get_drop]
        by_cases hj : j = i
        · have : ¬j = k := by omega
          simp_all
        · simp [hj]
      · simp only [Tab.get]
    · split
      · rename_i hik
        subst hik
        split
        · rw [Tab.get_drop]
          by_cases hj : j = i <;> simp_all [Tab.get]
        · by_cases hj : j = i <;> simp [hj, Tab.get]
      · simp only [Tab.get, ih]
        by_cases hj : j = i
        · subst hj; simp_all
        · simp [hj]

end Sys2Proof

namespace Sys2Proof.Machine

theorem Tab.wfFrom_mono {α : Type} [DecidableEq α] {d : α} (l : Tab α) {a b : Nat} (hab : a ≤ b) (h : Tab.wfFrom d b l = true) :
    Tab.wfFrom d a l = true := by
  cases l with
  | nil => rfl
  | cons e l => simp_all [Tab.wfFrom]; omega

theorem Tab.drop_wfFrom {α : Type} [DecidableEq α] {d : α} (i : Nat) : ∀ (t : Tab α) (n : Nat), Tab.wfFrom d n t = true →
    Tab.wfFrom d n (Tab.drop t i) = true := by
  intro t
  induction t with
  | nil => intro n h; exact h
  | cons e r ih =>
    obtain ⟨k, v⟩ := e
    intro n h
    simp only [Tab.wfFrom, Bool.and_eq_true, decide_eq_true_eq] at h
    by_cases hk : k = i
    · have e : Tab.drop ((k, v) :: r) i = Tab.drop r i := by simp [Tab.drop, hk]
      rw [e]; exact Tab.wfFrom_mono _ (by omega) (ih (k + 1) h.2)
    · have e : Tab.drop ((k, v) :: r) i = (k, v) :: Tab.drop r i := by simp [Tab.drop, hk]
      rw [e]
      simp only [Tab.wfFrom, Bool.and_eq_true, decide_eq_true_eq]
      exact ⟨h.1, ih (k + 1) h.2⟩

theorem Tab.set_wfFrom {α : Type} [DecidableEq α] (d : α) : ∀ (t : Tab α) (n i : Nat) (x : α), n ≤ i → Tab.wfFrom d n t = true →
    Tab.wfFrom d n (Tab.set d t i x) = true := by
  intro t
  induction t with
  | nil => intro n i x hi h; unfold Tab.set; split <;> simp_all [Tab.wfFrom]
  | cons e r ih =>
    obtain ⟨k, v⟩ := e
    intro n i x hi h
    simp only [Tab.wfFrom, Bool.and_eq_true, decide_eq_true_eq] at h
    unfold Tab.set
    split
    · split
      · simp only [Tab.wfFrom, Bool.and_eq_true, decide_eq_true_eq]; exact ⟨h.1, Tab.drop_wfFrom i r _ h.2⟩
      · simp only [Tab.wfFrom, Bool.and_eq_true, decide_eq_true_eq]; simp_all <;> omega
    · split
      · split
        · exact Tab.wfFrom_mono _ (by omega) (Tab.drop_wfFrom i r _ h.2)
        · simp_all [Tab.wfFrom]
      · simp only [Tab.wfFrom, Bool.and_eq_true, decide_eq_true_eq]
        exact ⟨h.1, ih (k + 1) i x (by omega) h.2⟩

theorem Tab.set_wf {α : Type} [DecidableEq α] {d : α} {t : Tab α} (i : Nat) (x : α) (h : Tab.wf d t = true) : Tab.wf d (Tab.set d t i x) = true :=
  Tab.set_wfFrom d t 0 i x (Nat.zero_le _) h

theorem Tab.mem_set {α : Type} [DecidableEq α] {d : α} {i : Nat} {x : α} : ∀ {t : Tab α} {e : Nat × α}, e ∈ Tab.set d t i x → e ∈ t ∨ e.2 = x := by
  have hd : ∀ (t : Tab α) (e : Nat × α), e ∈ Tab.drop t i → e ∈ t := fun t e h => (List.mem_filter.mp h).1
  intro t
  induction t with
  | nil => intro e h; unfold Tab.set at h; split at h <;> simp_all
  | cons a r ih =>
    obtain ⟨k, v⟩ := a
    intro e h
    unfold Tab.set at h
    split at h
    · split at h
      · rcases List.mem_cons.mp h with h | h
        · exact .inl (List.mem_cons.mpr (.inl h))
        · exact .inl (List.mem_cons.mpr (.inr (hd r e h)))
      · rcases List.mem_cons.mp h with h | h
        · exact .inr (by rw [h])
        · exact .inl h
    · split at h
      · split at h
        · exact .inl (List.mem_cons.mpr (.inr (hd r e h)))
        · rcases List.mem_cons.mp h with h | h
          · exact .inr (by rw [h])
          · exact .inl (List.mem_cons.mpr (.inr h))
      · simp only [List.mem_cons] at h ⊢
        rcases h with h | h
        · exact .inl (.inl h)
        · rcases ih h with h | h
          · exact .inl (.inr h)
          · exact .inr h

theorem Memory.write_wf {m : List Host.Cell} (a : Nat) (b : Byte) (h : Memory.wf m = true) : Memory.wf (Memory.write m a b) = true :=
  Tab.set_wf a b h

theorem Memory.writeAll_wf : ∀ (bs : List Byte) {m : List Host.Cell} (a : Nat), Memory.wf m = true → Memory.wf (Memory.writeAll m a bs) = true := by
  intro bs
  induction bs with
  | nil => intro m a h; exact h
  | cons b r ih => intro m a h; exact ih (a + 1) (Memory.write_wf a b h)


/-- Reading a byte after one is written. -/
theorem Memory.read_write (m : List Host.Cell) (a c : Nat) (b : Byte) :
    Memory.read (Memory.write m a b) c = if c = a then b else Memory.read m c :=
  Tab.get_set m a c

end Sys2Proof.Machine
end

