-- ==== Sys2Proof/Laws/Keeps.lean ====
section
/-!
SUPPORT. What an operation keeps, as one relation between a state and a later one, with a lemma for each way of changing a
state. The files beside this one say of every operation and every meaning what components it may change.
-/

set_option Elab.async false
set_option linter.all false

namespace Sys2Proof.Machine

/-- From `s₀` on: the queue is as it was, no fuse is lost, what has left the device stays on record, the invariant holds, and at
most the components `cs` differ. -/
structure Keeps (cs : List Comp) (s₀ s : State) : Prop where
  queue : s.pending = s₀.pending
  fuses : s₀.hall.fuses ≤ s.hall.fuses
  out : s₀.out <+: s.out
  inv : s₀.Inv → s.Inv
  frame : s₀.only cs s

/-- An answer whose next state keeps. -/
structure AnsKeeps (cs : List Comp) (s₀ : State) (a : Ans) : Prop where
  out : ∀ t, a = .next t → Keeps cs s₀ t

variable {cs : List Comp} {s₀ s t : State}

theorem Keeps.clerk (h : Keeps cs s₀ s) (i : s₀.Inv) : s.clerk.ok := (h.inv i).1
theorem Keeps.hier (h : Keeps cs s₀ s) (i : s₀.Inv) : s.hier.ok := (h.inv i).2.1
theorem Keeps.tally (h : Keeps cs s₀ s) (i : s₀.Inv) : s.tally.ok := (h.inv i).2.2.1
theorem Keeps.store (h : Keeps cs s₀ s) (i : s₀.Inv) : s.store.ok := (h.inv i).2.2.2.1
theorem Keeps.boot (h : Keeps cs s₀ s) (i : s₀.Inv) : s.boot.ok := (h.inv i).2.2.2.2

theorem Keeps.ite {c : Prop} [Decidable c] (h : c → Keeps cs s₀ s) (g : ¬c → Keeps cs s₀ t) : Keeps cs s₀ (if c then s else t) := by
  split
  · exact h ‹_›
  · exact g ‹_›
theorem AnsKeeps.ite {c : Prop} [Decidable c] {a b : Ans} (h : c → AnsKeeps cs s₀ a) (g : ¬c → AnsKeeps cs s₀ b) : AnsKeeps cs s₀ (if c then a else b) := by
  split
  · exact h ‹_›
  · exact g ‹_›
theorem AnsKeeps.next (h : Keeps cs s₀ s) : AnsKeeps cs s₀ (.next s) := by
  refine ⟨fun t e => ?_⟩; cases e; exact h
theorem AnsKeeps.fault {f : Fault} : AnsKeeps cs s₀ (.fault f) := by
  refine ⟨fun t e => ?_⟩; cases e
theorem happen_keeps {g : Bool} (h : Keeps cs s₀ s) (h2 : g = true → Keeps cs s₀ t) : AnsKeeps cs s₀ (happen g s t) := by
  refine ⟨fun u e => ?_⟩; cases e
  cases g
  · exact h
  · exact h2 rfl
theorem foldl_keeps {α : Type} {f : State → α → State} (hf : ∀ s x, Keeps cs s₀ s → Keeps cs s₀ (f s x)) (l : List α) :
    ∀ {s : State}, Keeps cs s₀ s → Keeps cs s₀ (l.foldl f s) := by
  induction l with
  | nil => intro s h; exact h
  | cons a l ih => intro s h; exact ih (hf s a h)
theorem foldl_keeps2 {α β : Type} {f : State × β → α → State × β} (hf : ∀ s x, Keeps cs s₀ s.1 → Keeps cs s₀ (f s x).1) (l : List α) :
    ∀ {s : State × β}, Keeps cs s₀ s.1 → Keeps cs s₀ (l.foldl f s).1 := by
  induction l with
  | nil => intro s h; exact h
  | cons a l ih => intro s h; exact ih (hf s a h)
theorem foldl_keeps3 {α β : Type} {f : β × State → α → β × State} (hf : ∀ s x, Keeps cs s₀ s.2 → Keeps cs s₀ (f s x).2) (l : List α) :
    ∀ {s : β × State}, Keeps cs s₀ s.2 → Keeps cs s₀ (l.foldl f s).2 := by
  induction l with
  | nil => intro s h; exact h
  | cons a l ih => intro s h; exact ih (hf s a h)

theorem State.only_with {c : Comp} (h : s₀.only cs s) (hm : [c] ⊆ cs) (ht : ∀ d, d ≠ c → s.same t d) : s₀.only cs t := by
  intro d hd
  have hne : d ≠ c := fun e => hd (e ▸ hm (List.mem_singleton.mpr rfl))
  have h1 := h d hd
  have h2 := ht d hne
  cases d <;> exact Eq.trans h2 h1

theorem withTime_keeps {v : Nat} (h : Keeps cs s₀ s)
    (hm : ([.time] : List Comp) ⊆ cs := by first | decide | (refine List.Subset.trans ?_ ‹_ ⊆ _›; decide)) : Keeps cs s₀ (s.withTime v) :=
  ⟨h.queue, h.fuses, h.out, h.inv, State.only_with h.frame hm (by intro d hd; cases d <;> first | rfl | exact absurd rfl hd)⟩
theorem withFree_keeps {v : Nat} (h : Keeps cs s₀ s)
    (hm : ([.free] : List Comp) ⊆ cs := by first | decide | (refine List.Subset.trans ?_ ‹_ ⊆ _›; decide)) : Keeps cs s₀ (s.withFree v) :=
  ⟨h.queue, h.fuses, h.out, h.inv, State.only_with h.frame hm (by intro d hd; cases d <;> first | rfl | exact absurd rfl hd)⟩
theorem withOut_keeps {v : List Out} (h : Keeps cs s₀ s) (hv : s.out <+: v)
    (hm : ([.out] : List Comp) ⊆ cs := by first | decide | (refine List.Subset.trans ?_ ‹_ ⊆ _›; decide)) : Keeps cs s₀ (s.withOut v) :=
  ⟨h.queue, h.fuses, h.out.trans hv, h.inv, State.only_with h.frame hm (by intro d hd; cases d <;> first | rfl | exact absurd rfl hd)⟩
theorem withBar0_keeps {v : Bar0} (h : Keeps cs s₀ s)
    (hm : ([.bar0] : List Comp) ⊆ cs := by first | decide | (refine List.Subset.trans ?_ ‹_ ⊆ _›; decide)) : Keeps cs s₀ (s.withBar0 v) :=
  ⟨h.queue, h.fuses, h.out, h.inv, State.only_with h.frame hm (by intro d hd; cases d <;> first | rfl | exact absurd rfl hd)⟩
theorem withClerk_keeps {v : Clerk} (h : Keeps cs s₀ s) (hv : s₀.Inv → v.ok)
    (hm : ([.clerk] : List Comp) ⊆ cs := by first | decide | (refine List.Subset.trans ?_ ‹_ ⊆ _›; decide)) : Keeps cs s₀ (s.withClerk v) :=
  ⟨h.queue, h.fuses, h.out, fun i => ⟨hv i, (h.inv i).2⟩, State.only_with h.frame hm (by intro d hd; cases d <;> first | rfl | exact absurd rfl hd)⟩
theorem withHier_keeps {v : Hier} (h : Keeps cs s₀ s) (hv : s₀.Inv → v.ok)
    (hm : ([.hier] : List Comp) ⊆ cs := by first | decide | (refine List.Subset.trans ?_ ‹_ ⊆ _›; decide)) : Keeps cs s₀ (s.withHier v) :=
  ⟨h.queue, h.fuses, h.out, fun i => ⟨(h.inv i).1, hv i, (h.inv i).2.2⟩, State.only_with h.frame hm (by intro d hd; cases d <;> first | rfl | exact absurd rfl hd)⟩
theorem withTally_keeps {v : Tally} (h : Keeps cs s₀ s) (hv : s₀.Inv → v.ok)
    (hm : ([.tally] : List Comp) ⊆ cs := by first | decide | (refine List.Subset.trans ?_ ‹_ ⊆ _›; decide)) : Keeps cs s₀ (s.withTally v) :=
  ⟨h.queue, h.fuses, h.out, fun i => ⟨(h.inv i).1, (h.inv i).2.1, hv i, (h.inv i).2.2.2⟩, State.only_with h.frame hm (by intro d hd; cases d <;> first | rfl | exact absurd rfl hd)⟩
theorem withBoot_keeps {v : Boot} (h : Keeps cs s₀ s) (hv : s₀.Inv → v.ok)
    (hm : ([.boot] : List Comp) ⊆ cs := by first | decide | (refine List.Subset.trans ?_ ‹_ ⊆ _›; decide)) : Keeps cs s₀ (s.withBoot v) :=
  ⟨h.queue, h.fuses, h.out, fun i => ⟨(h.inv i).1, (h.inv i).2.1, (h.inv i).2.2.1, (h.inv i).2.2.2.1, hv i⟩, State.only_with h.frame hm (by intro d hd; cases d <;> first | rfl | exact absurd rfl hd)⟩
theorem withHall_keeps {v : Hall} (h : Keeps cs s₀ s) (hv : s.hall.fuses ≤ v.fuses)
    (hm : ([.hall] : List Comp) ⊆ cs := by first | decide | (refine List.Subset.trans ?_ ‹_ ⊆ _›; decide)) : Keeps cs s₀ (s.withHall v) :=
  ⟨h.queue, Nat.le_trans h.fuses hv, h.out, h.inv, State.only_with h.frame hm (by intro d hd; cases d <;> first | rfl | exact absurd rfl hd)⟩
theorem withServ_keeps {v : Serv} (h : Keeps cs s₀ s)
    (hm : ([.serv] : List Comp) ⊆ cs := by first | decide | (refine List.Subset.trans ?_ ‹_ ⊆ _›; decide)) : Keeps cs s₀ (s.withServ v) :=
  ⟨h.queue, h.fuses, h.out, h.inv, State.only_with h.frame hm (by intro d hd; cases d <;> first | rfl | exact absurd rfl hd)⟩
theorem withRx_keeps {v : P2 RxPort} (h : Keeps cs s₀ s)
    (hm : ([.rx] : List Comp) ⊆ cs := by first | decide | (refine List.Subset.trans ?_ ‹_ ⊆ _›; decide)) : Keeps cs s₀ (s.withRx v) :=
  ⟨h.queue, h.fuses, h.out, h.inv, State.only_with h.frame hm (by intro d hd; cases d <;> first | rfl | exact absurd rfl hd)⟩
theorem withRw_keeps {v : P2 RwPort} (h : Keeps cs s₀ s)
    (hm : ([.rw] : List Comp) ⊆ cs := by first | decide | (refine List.Subset.trans ?_ ‹_ ⊆ _›; decide)) : Keeps cs s₀ (s.withRw v) :=
  ⟨h.queue, h.fuses, h.out, h.inv, State.only_with h.frame hm (by intro d hd; cases d <;> first | rfl | exact absurd rfl hd)⟩
theorem withFec_keeps {v : Fec} (h : Keeps cs s₀ s)
    (hm : ([.fec] : List Comp) ⊆ cs := by first | decide | (refine List.Subset.trans ?_ ‹_ ⊆ _›; decide)) : Keeps cs s₀ (s.withFec v) :=
  ⟨h.queue, h.fuses, h.out, h.inv, State.only_with h.frame hm (by intro d hd; cases d <;> first | rfl | exact absurd rfl hd)⟩
theorem withTx_keeps {v : P2 TxPort} (h : Keeps cs s₀ s)
    (hm : ([.tx] : List Comp) ⊆ cs := by first | decide | (refine List.Subset.trans ?_ ‹_ ⊆ _›; decide)) : Keeps cs s₀ (s.withTx v) :=
  ⟨h.queue, h.fuses, h.out, h.inv, State.only_with h.frame hm (by intro d hd; cases d <;> first | rfl | exact absurd rfl hd)⟩
theorem withLoom_keeps {v : Loom} (h : Keeps cs s₀ s)
    (hm : ([.loom] : List Comp) ⊆ cs := by first | decide | (refine List.Subset.trans ?_ ‹_ ⊆ _›; decide)) : Keeps cs s₀ (s.withLoom v) :=
  ⟨h.queue, h.fuses, h.out, h.inv, State.only_with h.frame hm (by intro d hd; cases d <;> first | rfl | exact absurd rfl hd)⟩
theorem withRa_keeps {v : Ra} (h : Keeps cs s₀ s)
    (hm : ([.ra] : List Comp) ⊆ cs := by first | decide | (refine List.Subset.trans ?_ ‹_ ⊆ _›; decide)) : Keeps cs s₀ (s.withRa v) :=
  ⟨h.queue, h.fuses, h.out, h.inv, State.only_with h.frame hm (by intro d hd; cases d <;> first | rfl | exact absurd rfl hd)⟩
theorem withCrier_keeps {v : Crier} (h : Keeps cs s₀ s)
    (hm : ([.crier] : List Comp) ⊆ cs := by first | decide | (refine List.Subset.trans ?_ ‹_ ⊆ _›; decide)) : Keeps cs s₀ (s.withCrier v) :=
  ⟨h.queue, h.fuses, h.out, h.inv, State.only_with h.frame hm (by intro d hd; cases d <;> first | rfl | exact absurd rfl hd)⟩
theorem withStore_keeps {v : Store} (h : Keeps cs s₀ s) (hv : s₀.Inv → v.ok)
    (hm : ([.store] : List Comp) ⊆ cs := by first | decide | (refine List.Subset.trans ?_ ‹_ ⊆ _›; decide)) : Keeps cs s₀ (s.withStore v) :=
  ⟨h.queue, h.fuses, h.out, fun i => ⟨(h.inv i).1, (h.inv i).2.1, (h.inv i).2.2.1, hv i, (h.inv i).2.2.2.2⟩, State.only_with h.frame hm (by intro d hd; cases d <;> first | rfl | exact absurd rfl hd)⟩
theorem withFlow_keeps {v : Flow} (h : Keeps cs s₀ s)
    (hm : ([.flow] : List Comp) ⊆ cs := by first | decide | (refine List.Subset.trans ?_ ‹_ ⊆ _›; decide)) : Keeps cs s₀ (s.withFlow v) :=
  ⟨h.queue, h.fuses, h.out, h.inv, State.only_with h.frame hm (by intro d hd; cases d <;> first | rfl | exact absurd rfl hd)⟩
theorem withLanes_keeps {v : Lanes} (h : Keeps cs s₀ s)
    (hm : ([.lanes] : List Comp) ⊆ cs := by first | decide | (refine List.Subset.trans ?_ ‹_ ⊆ _›; decide)) : Keeps cs s₀ (s.withLanes v) :=
  ⟨h.queue, h.fuses, h.out, h.inv, State.only_with h.frame hm (by intro d hd; cases d <;> first | rfl | exact absurd rfl hd)⟩
theorem withTiming_keeps {v : Timing} (h : Keeps cs s₀ s)
    (hm : ([.timing] : List Comp) ⊆ cs := by first | decide | (refine List.Subset.trans ?_ ‹_ ⊆ _›; decide)) : Keeps cs s₀ (s.withTiming v) :=
  ⟨h.queue, h.fuses, h.out, h.inv, State.only_with h.frame hm (by intro d hd; cases d <;> first | rfl | exact absurd rfl hd)⟩
theorem withAssay_keeps {v : Assay} (h : Keeps cs s₀ s)
    (hm : ([.assay] : List Comp) ⊆ cs := by first | decide | (refine List.Subset.trans ?_ ‹_ ⊆ _›; decide)) : Keeps cs s₀ (s.withAssay v) :=
  ⟨h.queue, h.fuses, h.out, h.inv, State.only_with h.frame hm (by intro d hd; cases d <;> first | rfl | exact absurd rfl hd)⟩
theorem withDamage_keeps {v : List Damage} (h : Keeps cs s₀ s)
    (hm : ([.damage] : List Comp) ⊆ cs := by first | decide | (refine List.Subset.trans ?_ ‹_ ⊆ _›; decide)) : Keeps cs s₀ (s.withDamage v) :=
  ⟨h.queue, h.fuses, h.out, h.inv, State.only_with h.frame hm (by intro d hd; cases d <;> first | rfl | exact absurd rfl hd)⟩

theorem Keeps.clerk' {v : Clerk} (e1 : v.ev = s.clerk.ev) (e2 : v.ended = s.clerk.ended) (h : Keeps cs s₀ s) : s₀.Inv → v.ok := by
  intro i
  unfold Clerk.ok; rw [e1, e2]; exact h.clerk i
theorem Keeps.hier' {v : Hier} (e1 : v.log = s.hier.log) (e2 : v.health = s.hier.health) (h : Keeps cs s₀ s) : s₀.Inv → v.ok := by
  intro i
  unfold Hier.ok; rw [e1, e2]; exact h.hier i
theorem Keeps.tally' {v : Tally} (e1 : v.counters = s.tally.counters) (h : Keeps cs s₀ s) : s₀.Inv → v.ok := by
  intro i
  unfold Tally.ok; rw [e1]; exact h.tally i
theorem Keeps.store' {v : Store} (e1 : v.mem = s.store.mem) (h : Keeps cs s₀ s) : s₀.Inv → v.ok := by
  intro i
  unfold Store.ok; rw [e1]; exact h.store i
theorem Keeps.boot' {v : Boot} (e1 : v.phase = s.boot.phase) (e2 : v.bootState = s.boot.bootState) (h : Keeps cs s₀ s) : s₀.Inv → v.ok := by
  intro i
  unfold Boot.ok; rw [e1, e2]; exact h.boot i
theorem Keeps.of_pair {α : Type} {p : α × State} {a : α} (e : p = (a, t)) (h : Keeps cs s₀ p.2) : Keeps cs s₀ t := by
  rw [e] at h; exact h
theorem Keeps.of_pair' {α : Type} {p : State × α} {a : α} (e : p = (t, a)) (h : Keeps cs s₀ p.1) : Keeps cs s₀ t := by
  rw [e] at h; exact h
theorem Keeps.ite_snd {α : Type} {c : Prop} [Decidable c] {x y : α × State} (h : c → Keeps cs s₀ x.2) (g : ¬c → Keeps cs s₀ y.2) :
    Keeps cs s₀ (if c then x else y).2 := by
  split
  · exact h ‹_›
  · exact g ‹_›
theorem foldl_store {α : Type} {f : Store → α → Store} (hf : ∀ s x, s.ok → (f s x).ok) (l : List α) :
    ∀ {s : Store}, s.ok → (l.foldl f s).ok := by
  induction l with
  | nil => intro s h; exact h
  | cons a l ih => intro s h; exact ih (hf s a h)

theorem ev_set {x : P2 EvBuf} {i : Iface} {v : EvBuf} (ha : x.a.buf.length ≤ 1024) (hb : x.b.buf.length ≤ 1024) (hv : v.buf.length ≤ 1024) :
    (x.set i v).a.buf.length ≤ 1024 ∧ (x.set i v).b.buf.length ≤ 1024 := by
  unfold P2.set
  split
  · exact ⟨hv, hb⟩
  · exact ⟨ha, hv⟩
theorem ev_get {x : P2 EvBuf} {i : Iface} (ha : x.a.buf.length ≤ 1024) (hb : x.b.buf.length ≤ 1024) : (x.get i).buf.length ≤ 1024 := by
  unfold P2.get
  split
  · exact ha
  · exact hb
theorem withEv_keeps {i : Iface} {v : EvBuf} {c : Clerk} (h : Keeps cs s₀ s) (hc : s₀.Inv → c.ok) (hv : s₀.Inv → v.buf.length ≤ 1024)
    (hm : ([.clerk] : List Comp) ⊆ cs := by first | decide | (refine List.Subset.trans ?_ ‹_ ⊆ _›; decide)) :
    Keeps cs s₀ (s.withClerk { c with ev := c.ev.set i v }) :=
  withClerk_keeps h fun j => ⟨(ev_set (hc j).1 (hc j).2.1 (hv j)).1, (ev_set (hc j).1 (hc j).2.1 (hv j)).2, (hc j).2.2⟩

theorem State.take_fuses : s.take.2.hall.fuses ≤ s.hall.fuses := Nat.le_refl _

end Sys2Proof.Machine
end

