-- ==== Sys2Proof/Laws/KeepsOps.lean ====
section
/-!
SUPPORT. What is kept by: the shared operations, serving, the hierarchy, framers, Tally.
-/

set_option Elab.async false
set_option linter.all false

namespace Sys2Proof.Machine

variable {cs : List Comp} {s₀ s t : State}

/-! ### Ops.lean -/

theorem State.bump_keeps {k n : Nat} {s : State} (h : Keeps cs s₀ s)
    (hm : ([.tally] : List Comp) ⊆ cs := by first | decide | (refine List.Subset.trans ?_ ‹_ ⊆ _›; decide)) : Keeps cs s₀ (State.bump k n s) := by
  unfold State.bump
  refine withTally_keeps h fun j => ⟨Tab.set_wf k _ (h.tally j).1, ?_⟩
  intro e he
  rcases Tab.mem_set he with he | he
  · exact (h.tally j).2 e he
  · rw [he]; exact Nat.mod_lt _ (by decide)

theorem State.logFault_keeps {r : EvRec} {s : State} (h : Keeps cs s₀ s)
    (hm : ([.hier] : List Comp) ⊆ cs := by first | decide | (refine List.Subset.trans ?_ ‹_ ⊆ _›; decide)) : Keeps cs s₀ (State.logFault r s) := by
  unfold State.logFault
  split
  · refine withHier_keeps h fun j => ⟨?_, (h.hier j).2⟩
    simp only [List.length_take]; omega
  · exact h

theorem State.offerEvent_keeps {i : Iface} {r : EvRec} {s : State} (h : Keeps cs s₀ s)
    (hm : ([.clerk, .tally] : List Comp) ⊆ cs := by first | decide | (refine List.Subset.trans ?_ ‹_ ⊆ _›; decide)) : Keeps cs s₀ (State.offerEvent i r s) := by
  unfold State.offerEvent
  dsimp only
  split
  · exact State.bump_keeps h
  · split
    · refine withEv_keeps h h.clerk fun _ => ?_
      simp only [List.length_append, List.length_cons, List.length_nil]; omega
    · exact State.bump_keeps (withEv_keeps h h.clerk fun j => ev_get (h.clerk j).1 (h.clerk j).2.1)

theorem State.raise_keeps {code sev ha data : Nat} {s : State} (hk : Keeps cs s₀ s)
    (hm : ([.clerk, .hier, .tally] : List Comp) ⊆ cs := by first | decide | (refine List.Subset.trans ?_ ‹_ ⊆ _›; decide)) : Keeps cs s₀ (State.raise code sev ha data s) := by
  unfold State.raise
  try dsimp only
  with_reducible repeat' (first
    | assumption | exact List.Subset.trans (by decide) hm | apply State.bump_keeps | apply State.logFault_keeps
    | apply State.offerEvent_keeps | refine Keeps.of_pair (by assumption) ?_ | intro _)

theorem State.raiseLimited_keeps {key period code sev ha : Nat} {mk : Nat → Nat} {s : State} (hk : Keeps cs s₀ s)
    (hm : ([.clerk, .hier, .tally] : List Comp) ⊆ cs := by first | decide | (refine List.Subset.trans ?_ ‹_ ⊆ _›; decide)) : Keeps cs s₀ (State.raiseLimited key period code sev ha mk s) := by
  unfold State.raiseLimited
  try dsimp only
  with_reducible repeat' (first
    | assumption | exact List.Subset.trans (by decide) hm | apply Keeps.ite | apply withClerk_keeps | apply State.raise_keeps
    | refine Keeps.clerk' (cs := cs) (s₀ := s₀) rfl rfl ?_ | refine Keeps.of_pair (by assumption) ?_ | intro _ | split)

theorem State.raiseAtMost_keeps {most key code sev ha data : Nat} {s : State} (hk : Keeps cs s₀ s)
    (hm : ([.clerk, .hier, .tally] : List Comp) ⊆ cs := by first | decide | (refine List.Subset.trans ?_ ‹_ ⊆ _›; decide)) : Keeps cs s₀ (State.raiseAtMost most key code sev ha data s) := by
  unfold State.raiseAtMost
  try dsimp only
  with_reducible repeat' (first
    | assumption | exact List.Subset.trans (by decide) hm | apply Keeps.ite | apply withClerk_keeps | apply State.raise_keeps
    | refine Keeps.clerk' (cs := cs) (s₀ := s₀) rfl rfl ?_ | refine Keeps.of_pair (by assumption) ?_ | intro _ | split)

theorem State.emit_keeps {o : Out} {s : State} (hk : Keeps cs s₀ s)
    (hm : ([.out] : List Comp) ⊆ cs := by first | decide | (refine List.Subset.trans ?_ ‹_ ⊆ _›; decide)) : Keeps cs s₀ (State.emit o s) := by
  unfold State.emit
  try dsimp only
  with_reducible repeat' (first
    | assumption | exact List.Subset.trans (by decide) hm | apply withOut_keeps | exact List.prefix_append _ _
    | refine Keeps.of_pair (by assumption) ?_ | intro _)

theorem State.signal_keeps {v : Nat} {s : State} (hk : Keeps cs s₀ s)
    (hm : ([.out, .bar0] : List Comp) ⊆ cs := by first | decide | (refine List.Subset.trans ?_ ‹_ ⊆ _›; decide)) : Keeps cs s₀ (State.signal v s) := by
  unfold State.signal
  try dsimp only
  with_reducible repeat' (first
    | assumption | exact List.Subset.trans (by decide) hm | apply Keeps.ite | apply withBar0_keeps | apply State.emit_keeps
    | refine Keeps.of_pair (by assumption) ?_ | intro _ | split)

theorem State.rearm_keeps {v : Nat} {s : State} (hk : Keeps cs s₀ s)
    (hm : ([.bar0] : List Comp) ⊆ cs := by first | decide | (refine List.Subset.trans ?_ ‹_ ⊆ _›; decide)) : Keeps cs s₀ (State.rearm v s) := by
  unfold State.rearm
  try dsimp only
  with_reducible repeat' (first | assumption | exact List.Subset.trans (by decide) hm | apply withBar0_keeps | intro _)

theorem State.setRing_keeps {k : Nat} {r : Ring} {s : State} (hk : Keeps cs s₀ s)
    (hm : ([.bar0] : List Comp) ⊆ cs := by first | decide | (refine List.Subset.trans ?_ ‹_ ⊆ _›; decide)) : Keeps cs s₀ (State.setRing k r s) := by
  unfold State.setRing
  try dsimp only
  with_reducible repeat' (first | assumption | exact List.Subset.trans (by decide) hm | apply withBar0_keeps | intro _)

theorem State.stopRing_keeps {k : Nat} {s : State} (hk : Keeps cs s₀ s)
    (hm : ([.bar0, .clerk, .hier, .tally] : List Comp) ⊆ cs := by first | decide | (refine List.Subset.trans ?_ ‹_ ⊆ _›; decide)) : Keeps cs s₀ (State.stopRing k s) := by
  unfold State.stopRing
  try dsimp only
  with_reducible repeat' (first
    | assumption | exact List.Subset.trans (by decide) hm | apply State.setRing_keeps | apply State.raise_keeps
    | refine Keeps.of_pair (by assumption) ?_ | intro _)

theorem State.postReply_keeps {q : Queue} {ws : List Word} {s : State} (hk : Keeps cs s₀ s)
    (hm : ([.out, .bar0] : List Comp) ⊆ cs := by first | decide | (refine List.Subset.trans ?_ ‹_ ⊆ _›; decide)) : Keeps cs s₀ (State.postReply q ws s) := by
  unfold State.postReply
  try dsimp only
  with_reducible repeat' (first
    | assumption | exact List.Subset.trans (by decide) hm | apply State.setRing_keeps | apply State.emit_keeps
    | apply State.signal_keeps | refine Keeps.of_pair (by assumption) ?_ | intro _)

theorem State.writeReply_keeps {i : Iface} {q : Queue} {ws : List Word} {s : State} (hk : Keeps cs s₀ s)
    (hm : ([.out, .bar0, .clerk] : List Comp) ⊆ cs := by first | decide | (refine List.Subset.trans ?_ ‹_ ⊆ _›; decide)) : Keeps cs s₀ (State.writeReply i q ws s) := by
  unfold State.writeReply
  try dsimp only
  with_reducible repeat' (first
    | assumption | exact List.Subset.trans (by decide) hm | apply Keeps.ite | apply withClerk_keeps
    | apply State.postReply_keeps | refine Keeps.clerk' (cs := cs) (s₀ := s₀) rfl rfl ?_
    | refine Keeps.of_pair (by assumption) ?_ | intro _ | split)

theorem flushList_keeps {q : Queue} (hm : ([.out, .bar0, .clerk] : List Comp) ⊆ cs) : ∀ {l : List Unwritten} {s : State}, Keeps cs s₀ s → Keeps cs s₀ (flushList q l s) := by
  intro l
  induction l with
  | nil => intro s h; exact h
  | cons u r ih =>
    intro s h
    unfold flushList
    split
    · exact ih (State.postReply_keeps h)
    · exact ih (withClerk_keeps h h.clerk)

theorem State.flushReplies_keeps {q : Queue} {s : State} (hk : Keeps cs s₀ s)
    (hm : ([.out, .bar0, .clerk] : List Comp) ⊆ cs := by first | decide | (refine List.Subset.trans ?_ ‹_ ⊆ _›; decide)) : Keeps cs s₀ (State.flushReplies q s) := by
  unfold State.flushReplies
  try dsimp only
  with_reducible repeat' (first
    | assumption | exact List.Subset.trans (by decide) hm | apply flushList_keeps | apply withClerk_keeps
    | refine Keeps.clerk' (cs := cs) (s₀ := s₀) rfl rfl ?_ | refine Keeps.of_pair (by assumption) ?_ | intro _)

theorem State.startJob_keeps {code : Nat} {c : Cmd} {s : State} (hk : Keeps cs s₀ s)
    (hm : ([.clerk] : List Comp) ⊆ cs := by first | decide | (refine List.Subset.trans ?_ ‹_ ⊆ _›; decide)) : Keeps cs s₀ (State.startJob code c s) := by
  unfold State.startJob
  try dsimp only
  with_reducible repeat' (first
    | assumption | exact List.Subset.trans (by decide) hm | apply withClerk_keeps
    | refine Keeps.clerk' (cs := cs) (s₀ := s₀) rfl rfl ?_ | refine Keeps.of_pair (by assumption) ?_ | intro _)

theorem State.endJob_keeps {num status : Nat} {results : List Word} {s : State} (h : Keeps cs s₀ s)
    (hm : ([.clerk, .hier, .tally] : List Comp) ⊆ cs := by first | decide | (refine List.Subset.trans ?_ ‹_ ⊆ _›; decide)) : Keeps cs s₀ (State.endJob num status results s) := by
  unfold State.endJob
  split
  · exact h
  · refine State.raise_keeps (withClerk_keeps h fun j => ⟨(h.clerk j).1, (h.clerk j).2.1, ?_⟩)
    simp only [List.length_take]; omega

theorem State.setJob_keeps {j : Job} {s : State} (hk : Keeps cs s₀ s)
    (hm : ([.clerk] : List Comp) ⊆ cs := by first | decide | (refine List.Subset.trans ?_ ‹_ ⊆ _›; decide)) : Keeps cs s₀ (State.setJob j s) := by
  unfold State.setJob
  try dsimp only
  with_reducible repeat' (first
    | assumption | exact List.Subset.trans (by decide) hm | apply Keeps.ite | apply withClerk_keeps
    | refine Keeps.clerk' (cs := cs) (s₀ := s₀) rfl rfl ?_ | intro _ | split)

theorem refuse_keeps {code : Nat} {r : Rej} {c : Cmd} {s : State} (hk : Keeps cs s₀ s)
    (hm : ([.out, .bar0, .clerk, .tally] : List Comp) ⊆ cs := by first | decide | (refine List.Subset.trans ?_ ‹_ ⊆ _›; decide)) : Keeps cs s₀ (refuse code r c s) := by
  unfold refuse
  try dsimp only
  with_reducible repeat' (first
    | assumption | exact List.Subset.trans (by decide) hm | apply Keeps.ite | apply State.bump_keeps
    | apply State.writeReply_keeps | refine Keeps.of_pair (by assumption) ?_ | intro _ | split)

theorem State.answerAwait_keeps {a : Await} {ws : List Word} {s : State} (h : Keeps cs s₀ s)
    (hm : ([.out, .bar0, .clerk] : List Comp) ⊆ cs := by first | decide | (refine List.Subset.trans ?_ ‹_ ⊆ _›; decide)) : Keeps cs s₀ (State.answerAwait a ws s) := by
  unfold State.answerAwait
  split
  · exact h
  · exact State.writeReply_keeps (withClerk_keeps h h.clerk)

theorem reads_keeps {f : Cmd → State → List Word} {c : Cmd} {s : State} (h : Keeps cs s₀ s) : Keeps cs s₀ (reads f c s).2 := h

theorem sets_keeps {f : Cmd → State → State} {c : Cmd} {s : State} (h : Keeps cs s₀ (f c s)) : Keeps cs s₀ (sets f c s).2 := h

theorem State.take_keeps {s : State} (hk : Keeps cs s₀ s)
    (hm : ([.free] : List Comp) ⊆ cs := by first | decide | (refine List.Subset.trans ?_ ‹_ ⊆ _›; decide)) : Keeps cs s₀ (State.take s).2 := by
  unfold State.take
  try dsimp only
  with_reducible repeat' (first
    | assumption | exact List.Subset.trans (by decide) hm | apply withFree_keeps | refine Keeps.of_pair (by assumption) ?_
    | intro _)

/-! ### Operands.lean -/

theorem State.setBlock_keeps {r b : Nat} {v : Block} {s : State} (hk : Keeps cs s₀ s)
    (hm : ([.hier] : List Comp) ⊆ cs := by first | decide | (refine List.Subset.trans ?_ ‹_ ⊆ _›; decide)) : Keeps cs s₀ (State.setBlock r b v s) := by
  unfold State.setBlock
  try dsimp only
  with_reducible repeat' (first
    | assumption | exact List.Subset.trans (by decide) hm | apply withHier_keeps
    | refine Keeps.hier' (cs := cs) (s₀ := s₀) rfl rfl ?_ | refine Keeps.of_pair (by assumption) ?_ | intro _)

theorem State.setRegion_keeps {r : Nat} {v : Region} {s : State} (hk : Keeps cs s₀ s)
    (hm : ([.hier] : List Comp) ⊆ cs := by first | decide | (refine List.Subset.trans ?_ ‹_ ⊆ _›; decide)) : Keeps cs s₀ (State.setRegion r v s) := by
  unfold State.setRegion
  try dsimp only
  with_reducible repeat' (first
    | assumption | exact List.Subset.trans (by decide) hm | apply withHier_keeps
    | refine Keeps.hier' (cs := cs) (s₀ := s₀) rfl rfl ?_ | refine Keeps.of_pair (by assumption) ?_ | intro _)

theorem State.setFifo_keeps {k : Nat} {f : Fifo} {s : State} (hk : Keeps cs s₀ s)
    (hm : ([.hier] : List Comp) ⊆ cs := by first | decide | (refine List.Subset.trans ?_ ‹_ ⊆ _›; decide)) : Keeps cs s₀ (State.setFifo k f s) := by
  unfold State.setFifo
  try dsimp only
  with_reducible repeat' (first
    | assumption | exact List.Subset.trans (by decide) hm | apply withHier_keeps
    | refine Keeps.hier' (cs := cs) (s₀ := s₀) rfl rfl ?_ | intro _)

/-! ### Channel.lean -/

theorem State.setCr_keeps {k : Nat} {v : CrPort} {s : State} (hk : Keeps cs s₀ s)
    (hm : ([.crier] : List Comp) ⊆ cs := by first | decide | (refine List.Subset.trans ?_ ‹_ ⊆ _›; decide)) : Keeps cs s₀ (State.setCr k v s) := by
  unfold State.setCr
  try dsimp only
  with_reducible repeat' (first | assumption | exact List.Subset.trans (by decide) hm | apply withCrier_keeps | intro _)

theorem State.updCr_keeps {k : Nat} {f : CrPort → CrPort} {s : State} (hk : Keeps cs s₀ s)
    (hm : ([.crier] : List Comp) ⊆ cs := by first | decide | (refine List.Subset.trans ?_ ‹_ ⊆ _›; decide)) : Keeps cs s₀ (State.updCr k f s) := by
  unfold State.updCr
  try dsimp only
  with_reducible repeat' (first
    | assumption | exact List.Subset.trans (by decide) hm | apply State.setCr_keeps | refine Keeps.of_pair (by assumption) ?_
    | intro _)

theorem State.queuePkt_keeps {k : Nat} {x : CrPkt} {s : State} (hk : Keeps cs s₀ s)
    (hm : ([.tally, .crier] : List Comp) ⊆ cs := by first | decide | (refine List.Subset.trans ?_ ‹_ ⊆ _›; decide)) : Keeps cs s₀ (State.queuePkt k x s) := by
  unfold State.queuePkt
  try dsimp only
  with_reducible repeat' (first
    | assumption | exact List.Subset.trans (by decide) hm | apply Keeps.ite | apply State.setCr_keeps | apply State.bump_keeps
    | refine Keeps.of_pair (by assumption) ?_ | intro _ | split)

theorem State.crCut_keeps {k : Nat} {s : State} (hk : Keeps cs s₀ s)
    (hm : ([.tally, .crier] : List Comp) ⊆ cs := by first | decide | (refine List.Subset.trans ?_ ‹_ ⊆ _›; decide)) : Keeps cs s₀ (State.crCut k s) := by
  unfold State.crCut
  try dsimp only
  with_reducible repeat' (first
    | assumption | exact List.Subset.trans (by decide) hm | apply Keeps.ite | apply State.setCr_keeps | apply State.bump_keeps
    | refine Keeps.of_pair (by assumption) ?_ | intro _ | split)

theorem State.crTxOff_keeps {k : Nat} {s : State} (hk : Keeps cs s₀ s)
    (hm : ([.crier] : List Comp) ⊆ cs := by first | decide | (refine List.Subset.trans ?_ ‹_ ⊆ _›; decide)) : Keeps cs s₀ (State.crTxOff k s) := by
  unfold State.crTxOff
  try dsimp only
  with_reducible repeat' (first | assumption | exact List.Subset.trans (by decide) hm | apply State.updCr_keeps | intro _)

theorem State.crAbandon_keeps {k : Nat} {s : State} (hk : Keeps cs s₀ s)
    (hm : ([.crier] : List Comp) ⊆ cs := by first | decide | (refine List.Subset.trans ?_ ‹_ ⊆ _›; decide)) : Keeps cs s₀ (State.crAbandon k s) := by
  unfold State.crAbandon
  try dsimp only
  with_reducible repeat' (first | assumption | exact List.Subset.trans (by decide) hm | apply State.updCr_keeps | intro _)

theorem State.takeIn_keeps {s : State} {f : CrIn → Bool} {x : CrIn} {t : State}
    (hk : Keeps cs s₀ s) (e : s.takeIn f = some (x, t))
    (hm : ([.crier] : List Comp) ⊆ cs := by first | decide | (refine List.Subset.trans ?_ ‹_ ⊆ _›; decide)) : Keeps cs s₀ t := by
  unfold State.takeIn at e
  cases hp : pick f s.crier.inbox with
  | none => simp [hp] at e
  | some r => simp [hp] at e; rw [← e.2]; exact withCrier_keeps hk

theorem State.takeLink_keeps {s : State} {p : Port} {type : Nat} {x : CrIn} {t : State}
    (hk : Keeps cs s₀ s) (e : s.takeLink p type = some (x, t))
    (hm : ([.crier] : List Comp) ⊆ cs := by first | decide | (refine List.Subset.trans ?_ ‹_ ⊆ _›; decide)) : Keeps cs s₀ t :=
  State.takeIn_keeps hk e

/-! ### Flags.lean -/

theorem State.healthNow_le {s : State} : s.healthNow ≤ 2 := by
  unfold State.healthNow
  split
  · decide
  · split <;> decide

theorem State.refreshHealth_keeps {s : State} (h : Keeps cs s₀ s)
    (hm : ([.clerk, .hier, .tally] : List Comp) ⊆ cs := by first | decide | (refine List.Subset.trans ?_ ‹_ ⊆ _›; decide)) : Keeps cs s₀ (State.refreshHealth s) := by
  unfold State.refreshHealth
  dsimp only
  split
  · exact h
  · exact State.raise_keeps (withHier_keeps h fun j => ⟨(h.hier j).1, State.healthNow_le⟩)

theorem State.refreshFec_keeps {s : State} (hk : Keeps cs s₀ s)
    (hm : ([.clerk, .hier, .tally, .fec] : List Comp) ⊆ cs := by first | decide | (refine List.Subset.trans ?_ ‹_ ⊆ _›; decide)) : Keeps cs s₀ (State.refreshFec s) := by
  unfold State.refreshFec
  try dsimp only
  with_reducible repeat' (first
    | assumption | exact List.Subset.trans (by decide) hm | apply Keeps.ite | apply withFec_keeps | apply State.raise_keeps
    | refine Keeps.of_pair (by assumption) ?_ | intro _ | split)

theorem State.refreshCiphWay_keeps {d : Way} {s : State} (hk : Keeps cs s₀ s)
    (hm : ([.clerk, .hier, .tally, .flow] : List Comp) ⊆ cs := by first | decide | (refine List.Subset.trans ?_ ‹_ ⊆ _›; decide)) : Keeps cs s₀ (State.refreshCiphWay d s) := by
  unfold State.refreshCiphWay
  try dsimp only
  with_reducible repeat' (first
    | assumption | exact List.Subset.trans (by decide) hm | apply Keeps.ite | apply withFlow_keeps | apply State.raise_keeps
    | refine Keeps.of_pair (by assumption) ?_ | intro _ | split)

theorem State.refreshPools_keeps {s : State} (hk : Keeps cs s₀ s)
    (hm : ([.clerk, .hier, .tally, .fec, .flow] : List Comp) ⊆ cs := by first | decide | (refine List.Subset.trans ?_ ‹_ ⊆ _›; decide)) : Keeps cs s₀ (State.refreshPools s) := by
  unfold State.refreshPools
  try dsimp only
  with_reducible repeat' (first
    | assumption | exact List.Subset.trans (by decide) hm | apply State.refreshFec_keeps | apply State.refreshCiphWay_keeps
    | refine Keeps.of_pair (by assumption) ?_ | intro _)

theorem State.refreshBoot_keeps {s : State} (h : Keeps cs s₀ s)
    (hm : ([.boot] : List Comp) ⊆ cs := by first | decide | (refine List.Subset.trans ?_ ‹_ ⊆ _›; decide)) : Keeps cs s₀ (State.refreshBoot s) := by
  unfold State.refreshBoot
  split
  · rename_i hl
    refine withBoot_keeps h fun _ => ?_
    have hp : s.boot.phase = .ready := by
      unfold State.live at hl; simp at hl; exact hl.1
    unfold Boot.ok
    rw [hp]
    dsimp only
    split
    · exact .inr rfl
    · exact .inl rfl
  · exact h

/-! ### Serve.lean -/

theorem commit_keeps {op : OpDef} {c : Cmd} {s : State} (hop : ∀ c s, Keeps cs s₀ s → Keeps cs s₀ (op.effect c s).2)
    (hk : Keeps cs s₀ s)
    (hm : ([.out, .bar0, .clerk, .tally] : List Comp) ⊆ cs := by first | decide | (refine List.Subset.trans ?_ ‹_ ⊆ _›; decide)) : Keeps cs s₀ (commit op c s) := by
  unfold commit
  try dsimp only
  with_reducible repeat' (first
    | assumption | exact List.Subset.trans (by decide) hm | apply hop | apply refuse_keeps | apply State.writeReply_keeps
    | apply withClerk_keeps | refine Keeps.clerk' (cs := cs) (s₀ := s₀) rfl rfl ?_ | refine Keeps.of_pair (by assumption) ?_
    | intro _ | split)

theorem answerWith_keeps {hold : Bool} {op : OpDef} {c : Cmd} {s : State} (hop : ∀ c s, Keeps cs s₀ s → Keeps cs s₀ (op.effect c s).2)
    (hk : Keeps cs s₀ s)
    (hm : ([.out, .bar0, .clerk, .tally] : List Comp) ⊆ cs := by first | decide | (refine List.Subset.trans ?_ ‹_ ⊆ _›; decide)) : Keeps cs s₀ (answerWith hold op c s) := by
  unfold answerWith
  try dsimp only
  with_reducible repeat' (first
    | assumption | exact List.Subset.trans (by decide) hm | apply Keeps.ite | apply hop | apply refuse_keeps
    | apply State.writeReply_keeps | apply withClerk_keeps | apply commit_keeps
    | refine Keeps.clerk' (cs := cs) (s₀ := s₀) rfl rfl ?_ | refine Keeps.of_pair (by assumption) ?_ | intro _ | split)

theorem answer_keeps {op : OpDef} {c : Cmd} {s : State} (hop : ∀ c s, Keeps cs s₀ s → Keeps cs s₀ (op.effect c s).2)
    (hk : Keeps cs s₀ s)
    (hm : ([.out, .bar0, .clerk, .tally] : List Comp) ⊆ cs := by first | decide | (refine List.Subset.trans ?_ ‹_ ⊆ _›; decide)) : Keeps cs s₀ (answer op c s) := by
  unfold answer
  try dsimp only
  with_reducible repeat' (first
    | assumption | exact List.Subset.trans (by decide) hm | apply hop | apply answerWith_keeps | intro _)

theorem serve_keeps {op : OpDef} {c : Cmd} {s : State} (hop : ∀ c s, Keeps cs s₀ s → Keeps cs s₀ (op.effect c s).2)
    (hk : Keeps cs s₀ s)
    (hm : ([.out, .bar0, .clerk, .tally] : List Comp) ⊆ cs := by first | decide | (refine List.Subset.trans ?_ ‹_ ⊆ _›; decide)) : AnsKeeps cs s₀ (serve op c s) := by
  unfold serve
  try dsimp only
  with_reducible repeat' (first
    | assumption | exact List.Subset.trans (by decide) hm | apply Keeps.ite | apply AnsKeeps.ite | apply AnsKeeps.next
    | apply hop | apply withClerk_keeps | apply answer_keeps | refine Keeps.clerk' (cs := cs) (s₀ := s₀) rfl rfl ?_
    | refine Keeps.of_pair (by assumption) ?_ | intro _ | split)

/-! ### Hier.lean -/

theorem evSuspect_keeps {level cause ha : Nat} {s : State} (hk : Keeps cs s₀ s)
    (hm : ([.clerk, .hier, .tally] : List Comp) ⊆ cs := by first | decide | (refine List.Subset.trans ?_ ‹_ ⊆ _›; decide)) : Keeps cs s₀ (evSuspect level cause ha s) := by
  unfold evSuspect
  try dsimp only
  with_reducible repeat' (first
    | assumption | exact List.Subset.trans (by decide) hm | apply State.raise_keeps | refine Keeps.of_pair (by assumption) ?_
    | intro _)

theorem evReplaced_keeps {level ha by_ : Nat} {s : State} (hk : Keeps cs s₀ s)
    (hm : ([.clerk, .hier, .tally] : List Comp) ⊆ cs := by first | decide | (refine List.Subset.trans ?_ ‹_ ⊆ _›; decide)) : Keeps cs s₀ (evReplaced level ha by_ s) := by
  unfold evReplaced
  try dsimp only
  with_reducible repeat' (first
    | assumption | exact List.Subset.trans (by decide) hm | apply State.raise_keeps | refine Keeps.of_pair (by assumption) ?_
    | intro _)

theorem evExhausted_keeps {level ha : Nat} {s : State} (hk : Keeps cs s₀ s)
    (hm : ([.clerk, .hier, .tally] : List Comp) ⊆ cs := by first | decide | (refine List.Subset.trans ?_ ‹_ ⊆ _›; decide)) : Keeps cs s₀ (evExhausted level ha s) := by
  unfold evExhausted
  try dsimp only
  with_reducible repeat' (first
    | assumption | exact List.Subset.trans (by decide) hm | apply State.raise_keeps | refine Keeps.of_pair (by assumption) ?_
    | intro _)

theorem State.startMigration_keeps {o j : Nat} {job : Option Nat} {update : Bool} {s : State} (hk : Keeps cs s₀ s)
    (hm : ([.serv] : List Comp) ⊆ cs := by first | decide | (refine List.Subset.trans ?_ ‹_ ⊆ _›; decide)) : Keeps cs s₀ (State.startMigration o j job update s) := by
  unfold State.startMigration
  try dsimp only
  with_reducible repeat' (first | assumption | exact List.Subset.trans (by decide) hm | apply withServ_keeps | intro _)

theorem State.regionFails_keeps {r cause : Nat} {s : State} (hk : Keeps cs s₀ s)
    (hm : ([.clerk, .hier, .tally, .serv] : List Comp) ⊆ cs := by first | decide | (refine List.Subset.trans ?_ ‹_ ⊆ _›; decide)) : Keeps cs s₀ (State.regionFails r cause s) := by
  unfold State.regionFails
  try dsimp only
  with_reducible repeat' (first
    | assumption | exact List.Subset.trans (by decide) hm | apply Keeps.ite | apply evExhausted_keeps | apply evReplaced_keeps
    | apply evSuspect_keeps | apply State.startMigration_keeps | refine Keeps.of_pair (by assumption) ?_ | intro _ | split)

theorem State.noteSpareBlock_keeps {r : Nat} {s : State} (hk : Keeps cs s₀ s)
    (hm : ([.clerk, .hier, .tally] : List Comp) ⊆ cs := by first | decide | (refine List.Subset.trans ?_ ‹_ ⊆ _›; decide)) : Keeps cs s₀ (State.noteSpareBlock r s) := by
  unfold State.noteSpareBlock
  try dsimp only
  with_reducible repeat' (first
    | assumption | exact List.Subset.trans (by decide) hm | apply Keeps.ite | apply evExhausted_keeps
    | refine Keeps.of_pair (by assumption) ?_ | intro _ | split)

theorem State.blockSuspect_keeps {r b cause : Nat} {s : State} (hk : Keeps cs s₀ s)
    (hm : ([.clerk, .hier, .tally, .serv] : List Comp) ⊆ cs := by first | decide | (refine List.Subset.trans ?_ ‹_ ⊆ _›; decide)) : Keeps cs s₀ (State.blockSuspect r b cause s) := by
  unfold State.blockSuspect
  try dsimp only
  with_reducible repeat' (first
    | assumption | exact List.Subset.trans (by decide) hm | apply Keeps.ite | apply evSuspect_keeps
    | apply State.setBlock_keeps | apply State.noteSpareBlock_keeps | apply evReplaced_keeps | apply State.regionFails_keeps
    | refine Keeps.of_pair (by assumption) ?_ | intro _ | split)

theorem State.cellSuspect_keeps {r b c cause : Nat} {s : State} (hk : Keeps cs s₀ s)
    (hm : ([.clerk, .hier, .tally, .serv] : List Comp) ⊆ cs := by first | decide | (refine List.Subset.trans ?_ ‹_ ⊆ _›; decide)) : Keeps cs s₀ (State.cellSuspect r b c cause s) := by
  unfold State.cellSuspect
  try dsimp only
  with_reducible repeat' (first
    | assumption | exact List.Subset.trans (by decide) hm | apply Keeps.ite | apply evSuspect_keeps
    | apply State.setBlock_keeps | apply State.blockSuspect_keeps | apply evReplaced_keeps | apply evExhausted_keeps
    | refine Keeps.of_pair (by assumption) ?_ | intro _ | split)

theorem State.cellFault_keeps {ha unit cause : Nat} {s : State} (hk : Keeps cs s₀ s)
    (hm : ([.clerk, .hier, .tally, .serv] : List Comp) ⊆ cs := by first | decide | (refine List.Subset.trans ?_ ‹_ ⊆ _›; decide)) : Keeps cs s₀ (State.cellFault ha unit cause s) := by
  unfold State.cellFault
  try dsimp only
  with_reducible repeat' (first
    | assumption | exact List.Subset.trans (by decide) hm | apply Keeps.ite | apply withHier_keeps
    | apply State.cellSuspect_keeps | refine Keeps.hier' (cs := cs) (s₀ := s₀) rfl rfl ?_
    | refine Keeps.of_pair (by assumption) ?_ | intro _ | split)

theorem State.afterFault_keeps {s : State} (hk : Keeps cs s₀ s)
    (hm : ([.clerk, .hier, .tally, .fec, .flow] : List Comp) ⊆ cs := by first | decide | (refine List.Subset.trans ?_ ‹_ ⊆ _›; decide)) : Keeps cs s₀ (State.afterFault s) := by
  unfold State.afterFault
  try dsimp only
  with_reducible repeat' (first
    | assumption | exact List.Subset.trans (by decide) hm | apply State.refreshPools_keeps | apply State.refreshHealth_keeps
    | intro _)

theorem execFaultDetected_keeps {ha : BitVec 20} {unit : Nat} {s : State} (hk : Keeps cs s₀ s)
    (hm : ([.clerk, .hier, .tally, .serv, .fec, .flow] : List Comp) ⊆ cs := by first | decide | (refine List.Subset.trans ?_ ‹_ ⊆ _›; decide)) : AnsKeeps cs s₀ (execFaultDetected ha unit s) := by
  unfold execFaultDetected
  try dsimp only
  with_reducible repeat' (first
    | assumption | exact List.Subset.trans (by decide) hm | apply Keeps.ite | apply AnsKeeps.ite | apply AnsKeeps.next
    | exact AnsKeeps.fault | apply happen_keeps | apply State.cellFault_keeps | apply State.afterFault_keeps
    | refine Keeps.of_pair (by assumption) ?_ | intro _ | split)

theorem execDecisionMismatch_keeps {ha : BitVec 20} {unit : Nat} {s : State} (hk : Keeps cs s₀ s)
    (hm : ([.clerk, .hier, .tally, .serv, .fec, .flow] : List Comp) ⊆ cs := by first | decide | (refine List.Subset.trans ?_ ‹_ ⊆ _›; decide)) : AnsKeeps cs s₀ (execDecisionMismatch ha unit s) := by
  unfold execDecisionMismatch
  try dsimp only
  with_reducible repeat' (first
    | assumption | exact List.Subset.trans (by decide) hm | apply Keeps.ite | apply AnsKeeps.ite | apply AnsKeeps.next
    | exact AnsKeeps.fault | apply happen_keeps | apply State.cellFault_keeps | apply State.afterFault_keeps
    | refine Keeps.of_pair (by assumption) ?_ | intro _ | split)

theorem State.injectedStall_keeps {ha : Nat} {s : State} (hk : Keeps cs s₀ s)
    (hm : ([.clerk, .hier, .tally] : List Comp) ⊆ cs := by first | decide | (refine List.Subset.trans ?_ ‹_ ⊆ _›; decide)) : Keeps cs s₀ (State.injectedStall ha s) := by
  unfold State.injectedStall
  try dsimp only
  with_reducible repeat' (first
    | assumption | exact List.Subset.trans (by decide) hm | apply Keeps.ite | apply evReplaced_keeps
    | apply State.setBlock_keeps | refine Keeps.of_pair (by assumption) ?_ | intro _ | split)

theorem State.stall_keeps {requester stalled : Nat} {s : State} (hk : Keeps cs s₀ s)
    (hm : ([.clerk, .hier, .tally, .serv] : List Comp) ⊆ cs := by first | decide | (refine List.Subset.trans ?_ ‹_ ⊆ _›; decide)) : Keeps cs s₀ (State.stall requester stalled s) := by
  unfold State.stall
  try dsimp only
  with_reducible repeat' (first
    | assumption | exact List.Subset.trans (by decide) hm | apply Keeps.ite | apply State.raise_keeps | apply withHier_keeps
    | apply State.injectedStall_keeps | apply State.cellSuspect_keeps | refine Keeps.hier' (cs := cs) (s₀ := s₀) rfl rfl ?_
    | refine Keeps.of_pair (by assumption) ?_ | intro _ | split)

theorem State.setChip_keeps {supervisor : Bool} {v : ChipPair} {s : State} (hk : Keeps cs s₀ s)
    (hm : ([.hier] : List Comp) ⊆ cs := by first | decide | (refine List.Subset.trans ?_ ‹_ ⊆ _›; decide)) : Keeps cs s₀ (State.setChip supervisor v s) := by
  unfold State.setChip
  try dsimp only
  with_reducible repeat' (first
    | assumption | exact List.Subset.trans (by decide) hm | apply Keeps.ite | apply withHier_keeps
    | refine Keeps.hier' (cs := cs) (s₀ := s₀) rfl rfl ?_ | intro _ | split)

theorem execChipPairMismatch_keeps {supervisor : Bool} {s : State} (hk : Keeps cs s₀ s)
    (hm : ([.clerk, .hier, .tally] : List Comp) ⊆ cs := by first | decide | (refine List.Subset.trans ?_ ‹_ ⊆ _›; decide)) : AnsKeeps cs s₀ (execChipPairMismatch supervisor s) := by
  unfold execChipPairMismatch
  try dsimp only
  with_reducible repeat' (first
    | assumption | exact List.Subset.trans (by decide) hm | apply Keeps.ite | apply AnsKeeps.ite | apply AnsKeeps.next
    | apply happen_keeps | apply State.setChip_keeps | apply State.raise_keeps | apply State.refreshHealth_keeps
    | refine Keeps.of_pair (by assumption) ?_ | intro _ | split)

theorem execChipPairTestDone_keeps {supervisor ok : Bool} {s : State} (hk : Keeps cs s₀ s)
    (hm : ([.clerk, .hier, .tally] : List Comp) ⊆ cs := by first | decide | (refine List.Subset.trans ?_ ‹_ ⊆ _›; decide)) : AnsKeeps cs s₀ (execChipPairTestDone supervisor ok s) := by
  unfold execChipPairTestDone
  try dsimp only
  with_reducible repeat' (first
    | assumption | exact List.Subset.trans (by decide) hm | apply Keeps.ite | apply AnsKeeps.ite | apply AnsKeeps.next
    | apply State.setChip_keeps | apply happen_keeps | apply evExhausted_keeps | apply State.refreshHealth_keeps
    | refine Keeps.of_pair (by assumption) ?_ | intro _ | split)

theorem evCtlSwap_keeps {cause active : Nat} {s : State} (hk : Keeps cs s₀ s)
    (hm : ([.clerk, .hier, .tally] : List Comp) ⊆ cs := by first | decide | (refine List.Subset.trans ?_ ‹_ ⊆ _›; decide)) : Keeps cs s₀ (evCtlSwap cause active s) := by
  unfold evCtlSwap
  try dsimp only
  with_reducible repeat' (first
    | assumption | exact List.Subset.trans (by decide) hm | apply State.raise_keeps | refine Keeps.of_pair (by assumption) ?_
    | intro _)

theorem State.swapPairs_keeps {cause : Nat} {s : State} (hk : Keeps cs s₀ s)
    (hm : ([.clerk, .hier, .tally] : List Comp) ⊆ cs := by first | decide | (refine List.Subset.trans ?_ ‹_ ⊆ _›; decide)) : Keeps cs s₀ (State.swapPairs cause s) := by
  unfold State.swapPairs
  try dsimp only
  with_reducible repeat' (first
    | assumption | exact List.Subset.trans (by decide) hm | apply evCtlSwap_keeps | apply withHier_keeps
    | refine Keeps.hier' (cs := cs) (s₀ := s₀) rfl rfl ?_ | refine Keeps.of_pair (by assumption) ?_ | intro _)

theorem execControlPairSwap_keeps {standby : Bool} {s : State} (hk : Keeps cs s₀ s)
    (hm : ([.clerk, .hier, .tally] : List Comp) ⊆ cs := by first | decide | (refine List.Subset.trans ?_ ‹_ ⊆ _›; decide)) : AnsKeeps cs s₀ (execControlPairSwap standby s) := by
  unfold execControlPairSwap
  try dsimp only
  with_reducible repeat' (first
    | assumption | exact List.Subset.trans (by decide) hm | apply Keeps.ite | apply AnsKeeps.ite | apply AnsKeeps.next
    | apply happen_keeps | apply withHier_keeps | apply State.swapPairs_keeps | apply State.refreshHealth_keeps
    | refine Keeps.hier' (cs := cs) (s₀ := s₀) rfl rfl ?_ | refine Keeps.of_pair (by assumption) ?_ | intro _ | split)

theorem execPairTestDone_keeps {ok : Bool} {s : State} (hk : Keeps cs s₀ s)
    (hm : ([.clerk, .hier, .tally] : List Comp) ⊆ cs := by first | decide | (refine List.Subset.trans ?_ ‹_ ⊆ _›; decide)) : AnsKeeps cs s₀ (execPairTestDone ok s) := by
  unfold execPairTestDone
  try dsimp only
  with_reducible repeat' (first
    | assumption | exact List.Subset.trans (by decide) hm | apply Keeps.ite | apply AnsKeeps.ite | apply AnsKeeps.next
    | apply withHier_keeps | apply happen_keeps | apply evExhausted_keeps | apply State.refreshHealth_keeps
    | refine Keeps.hier' (cs := cs) (s₀ := s₀) rfl rfl ?_ | refine Keeps.of_pair (by assumption) ?_ | intro _ | split)

theorem execLonePairRestart_keeps {s : State} (hk : Keeps cs s₀ s)
    (hm : ([.clerk, .hier, .tally] : List Comp) ⊆ cs := by first | decide | (refine List.Subset.trans ?_ ‹_ ⊆ _›; decide)) : AnsKeeps cs s₀ (execLonePairRestart s) := by
  unfold execLonePairRestart
  try dsimp only
  with_reducible repeat' (first
    | assumption | exact List.Subset.trans (by decide) hm | apply AnsKeeps.next | apply happen_keeps | apply evCtlSwap_keeps
    | refine Keeps.of_pair (by assumption) ?_ | intro _)

theorem atFifo_keeps {ha : BitVec 20} {d : Dir} {ok : Fifo → Bool} {f : Fifo → State → State} {s : State} (hf : ∀ x0 s, Keeps cs s₀ s → Keeps cs s₀ (f x0 s))
    (hk : Keeps cs s₀ s) : AnsKeeps cs s₀ (atFifo ha d ok f s) := by
  unfold atFifo
  try dsimp only
  with_reducible repeat' (first
    | assumption | apply Keeps.ite | apply AnsKeeps.ite | apply AnsKeeps.next | exact AnsKeeps.fault | apply hf
    | apply happen_keeps | refine Keeps.of_pair (by assumption) ?_ | intro _ | split)

theorem execPacketCommit_keeps {cell : BitVec 20} {dir : Dir} {words : Nat} {s : State} (hk : Keeps cs s₀ s)
    (hm : ([.hier] : List Comp) ⊆ cs := by first | decide | (refine List.Subset.trans ?_ ‹_ ⊆ _›; decide)) : AnsKeeps cs s₀ (execPacketCommit cell dir words s) := by
  unfold execPacketCommit
  try dsimp only
  with_reducible repeat' (first
    | assumption | exact List.Subset.trans (by decide) hm | apply AnsKeeps.next | apply atFifo_keeps
    | apply State.setFifo_keeps | apply commit_keeps | refine Keeps.of_pair (by assumption) ?_ | intro _)

theorem execPacketAbort_keeps {cell : BitVec 20} {dir : Dir} {s : State} (hk : Keeps cs s₀ s)
    (hm : ([.hier] : List Comp) ⊆ cs := by first | decide | (refine List.Subset.trans ?_ ‹_ ⊆ _›; decide)) : AnsKeeps cs s₀ (execPacketAbort cell dir s) := by
  unfold execPacketAbort
  try dsimp only
  with_reducible repeat' (first
    | assumption | exact List.Subset.trans (by decide) hm | apply AnsKeeps.next | apply atFifo_keeps
    | apply State.setFifo_keeps | refine Keeps.of_pair (by assumption) ?_ | intro _)

theorem execFifoRead_keeps {cell : BitVec 20} {dir : Dir} {s : State} (hk : Keeps cs s₀ s)
    (hm : ([.hier] : List Comp) ⊆ cs := by first | decide | (refine List.Subset.trans ?_ ‹_ ⊆ _›; decide)) : AnsKeeps cs s₀ (execFifoRead cell dir s) := by
  unfold execFifoRead
  try dsimp only
  with_reducible repeat' (first
    | assumption | exact List.Subset.trans (by decide) hm | apply AnsKeeps.next | apply atFifo_keeps
    | apply State.setFifo_keeps | refine Keeps.of_pair (by assumption) ?_ | intro _)

theorem execWriterRelease_keeps {cell : BitVec 20} {dir : Dir} {s : State} (hk : Keeps cs s₀ s)
    (hm : ([.hier] : List Comp) ⊆ cs := by first | decide | (refine List.Subset.trans ?_ ‹_ ⊆ _›; decide)) : AnsKeeps cs s₀ (execWriterRelease cell dir s) := by
  unfold execWriterRelease
  try dsimp only
  with_reducible repeat' (first
    | assumption | exact List.Subset.trans (by decide) hm | apply AnsKeeps.next | apply atFifo_keeps
    | apply State.setFifo_keeps | refine Keeps.of_pair (by assumption) ?_ | intro _)

theorem execFifoIdleExpiry_keeps {cell : BitVec 20} {dir : Dir} {s : State} (hk : Keeps cs s₀ s)
    (hm : ([.clerk, .hier, .tally] : List Comp) ⊆ cs := by first | decide | (refine List.Subset.trans ?_ ‹_ ⊆ _›; decide)) : AnsKeeps cs s₀ (execFifoIdleExpiry cell dir s) := by
  unfold execFifoIdleExpiry
  try dsimp only
  with_reducible repeat' (first
    | assumption | exact List.Subset.trans (by decide) hm | apply Keeps.ite | apply AnsKeeps.ite | apply AnsKeeps.next
    | apply atFifo_keeps | apply State.setFifo_keeps | apply State.raise_keeps | refine Keeps.of_pair (by assumption) ?_
    | intro _ | split)

/-! ### Changes.lean -/

theorem State.setChange_keeps {c : Change} {s : State} (hk : Keeps cs s₀ s)
    (hm : ([.serv] : List Comp) ⊆ cs := by first | decide | (refine List.Subset.trans ?_ ‹_ ⊆ _›; decide)) : Keeps cs s₀ (State.setChange c s) := by
  unfold State.setChange
  try dsimp only
  with_reducible repeat' (first
    | assumption | exact List.Subset.trans (by decide) hm | apply Keeps.ite | apply withServ_keeps | intro _ | split)

theorem State.dropChange_keeps {r : Nat} {s : State} (hk : Keeps cs s₀ s)
    (hm : ([.serv] : List Comp) ⊆ cs := by first | decide | (refine List.Subset.trans ?_ ‹_ ⊆ _›; decide)) : Keeps cs s₀ (State.dropChange r s) := by
  unfold State.dropChange
  try dsimp only
  with_reducible repeat' (first | assumption | exact List.Subset.trans (by decide) hm | apply withServ_keeps | intro _)

theorem State.endChange_keeps {c : Change} {status : Nat} {s : State} (hk : Keeps cs s₀ s)
    (hm : ([.clerk, .hier, .tally, .serv] : List Comp) ⊆ cs := by first | decide | (refine List.Subset.trans ?_ ‹_ ⊆ _›; decide)) : Keeps cs s₀ (State.endChange c status s) := by
  unfold State.endChange
  try dsimp only
  with_reducible repeat' (first
    | assumption | exact List.Subset.trans (by decide) hm | apply State.dropChange_keeps | apply State.endJob_keeps | intro _
    | split)

theorem State.finishChange_keeps {c : Change} {s : State} (hk : Keeps cs s₀ s)
    (hm : ([.clerk, .hier, .tally, .serv] : List Comp) ⊆ cs := by first | decide | (refine List.Subset.trans ?_ ‹_ ⊆ _›; decide)) : Keeps cs s₀ (State.finishChange c s) := by
  unfold State.finishChange
  try dsimp only
  with_reducible repeat' (first
    | assumption | exact List.Subset.trans (by decide) hm | apply Keeps.ite | apply State.endChange_keeps
    | refine Keeps.of_pair (by assumption) ?_ | intro _ | split)

theorem evStep_keeps {kind pos incoming freed ha : Nat} {s : State} (hk : Keeps cs s₀ s)
    (hm : ([.clerk, .hier, .tally] : List Comp) ⊆ cs := by first | decide | (refine List.Subset.trans ?_ ‹_ ⊆ _›; decide)) : Keeps cs s₀ (evStep kind pos incoming freed ha s) := by
  unfold evStep
  try dsimp only
  with_reducible repeat' (first
    | assumption | exact List.Subset.trans (by decide) hm | apply State.raise_keeps | refine Keeps.of_pair (by assumption) ?_
    | intro _)

theorem evStepFailed_keeps {cause pos block ha : Nat} {s : State} (hk : Keeps cs s₀ s)
    (hm : ([.clerk, .hier, .tally] : List Comp) ⊆ cs := by first | decide | (refine List.Subset.trans ?_ ‹_ ⊆ _›; decide)) : Keeps cs s₀ (evStepFailed cause pos block ha s) := by
  unfold evStepFailed
  try dsimp only
  with_reducible repeat' (first
    | assumption | exact List.Subset.trans (by decide) hm | apply State.raise_keeps | refine Keeps.of_pair (by assumption) ?_
    | intro _)

theorem State.retest_keeps {r b : Nat} {bad : List Nat} {image : Option Nat} {s : State} (hk : Keeps cs s₀ s)
    (hm : ([.clerk, .hier, .tally] : List Comp) ⊆ cs := by first | decide | (refine List.Subset.trans ?_ ‹_ ⊆ _›; decide)) : Keeps cs s₀ (State.retest r b bad image s).2 := by
  unfold State.retest
  try dsimp only
  with_reducible repeat' (first
    | assumption | exact List.Subset.trans (by decide) hm | apply Keeps.ite | apply Keeps.ite_snd | apply State.setFifo_keeps
    | apply withHier_keeps | apply evExhausted_keeps | apply State.setBlock_keeps | apply State.noteSpareBlock_keeps
    | apply foldl_keeps | refine Keeps.hier' (cs := cs) (s₀ := s₀) rfl rfl ?_ | refine Keeps.of_pair (by assumption) ?_
    | intro _ | split)

theorem State.swapFaulted_keeps {d : Nat} {s : State} (hk : Keeps cs s₀ s)
    (hm : ([.clerk, .hier, .tally, .serv] : List Comp) ⊆ cs := by first | decide | (refine List.Subset.trans ?_ ‹_ ⊆ _›; decide)) : Keeps cs s₀ (State.swapFaulted d s) := by
  unfold State.swapFaulted
  try dsimp only
  with_reducible repeat' (first
    | assumption | exact List.Subset.trans (by decide) hm | apply Keeps.ite | apply evStepFailed_keeps
    | apply State.endChange_keeps | refine Keeps.of_pair (by assumption) ?_ | intro _ | split)

/-! ### Threads.lean -/

theorem State.setBoltRx_keeps {b : Nat} {v : BoltRx} {s : State} (hk : Keeps cs s₀ s)
    (hm : ([.loom] : List Comp) ⊆ cs := by first | decide | (refine List.Subset.trans ?_ ‹_ ⊆ _›; decide)) : Keeps cs s₀ (State.setBoltRx b v s) := by
  unfold State.setBoltRx
  try dsimp only
  with_reducible repeat' (first
    | assumption | exact List.Subset.trans (by decide) hm | apply withLoom_keeps | refine Keeps.of_pair (by assumption) ?_
    | intro _)

theorem State.updRxThread_keeps {t : Nat} {f : RxThread → RxThread} {s : State} (hk : Keeps cs s₀ s)
    (hm : ([.flow] : List Comp) ⊆ cs := by first | decide | (refine List.Subset.trans ?_ ‹_ ⊆ _›; decide)) : Keeps cs s₀ (State.updRxThread t f s) := by
  unfold State.updRxThread
  try dsimp only
  with_reducible repeat' (first | assumption | exact List.Subset.trans (by decide) hm | apply withFlow_keeps | intro _)

theorem State.updTxThread_keeps {t : Nat} {f : TxThread → TxThread} {s : State} (hk : Keeps cs s₀ s)
    (hm : ([.flow] : List Comp) ⊆ cs := by first | decide | (refine List.Subset.trans ?_ ‹_ ⊆ _›; decide)) : Keeps cs s₀ (State.updTxThread t f s) := by
  unfold State.updTxThread
  try dsimp only
  with_reducible repeat' (first | assumption | exact List.Subset.trans (by decide) hm | apply withFlow_keeps | intro _)

theorem evDelin_keeps {t : Nat} {hunt : Bool} {s : State} (hk : Keeps cs s₀ s)
    (hm : ([.clerk, .hier, .tally] : List Comp) ⊆ cs := by first | decide | (refine List.Subset.trans ?_ ‹_ ⊆ _›; decide)) : Keeps cs s₀ (evDelin t hunt s) := by
  unfold evDelin
  try dsimp only
  with_reducible repeat' (first
    | assumption | exact List.Subset.trans (by decide) hm | apply State.raiseAtMost_keeps
    | refine Keeps.of_pair (by assumption) ?_ | intro _)

theorem State.hunt_keeps {t : Nat} {s : State} (hk : Keeps cs s₀ s)
    (hm : ([.clerk, .hier, .tally, .flow] : List Comp) ⊆ cs := by first | decide | (refine List.Subset.trans ?_ ‹_ ⊆ _›; decide)) : Keeps cs s₀ (State.hunt t s) := by
  unfold State.hunt
  try dsimp only
  with_reducible repeat' (first
    | assumption | exact List.Subset.trans (by decide) hm | apply Keeps.ite | apply State.updRxThread_keeps
    | apply evDelin_keeps | refine Keeps.of_pair (by assumption) ?_ | intro _ | split)

theorem State.refreshDelin_keeps {s : State} (hk : Keeps cs s₀ s)
    (hm : ([.clerk, .hier, .tally, .flow] : List Comp) ⊆ cs := by first | decide | (refine List.Subset.trans ?_ ‹_ ⊆ _›; decide)) : Keeps cs s₀ (State.refreshDelin s) := by
  unfold State.refreshDelin
  try dsimp only
  with_reducible repeat' (first
    | assumption | exact List.Subset.trans (by decide) hm | apply Keeps.ite | apply State.hunt_keeps | apply foldl_keeps
    | refine Keeps.of_pair (by assumption) ?_ | intro _ | split)

theorem State.settleCredits_keeps {s : State} (hk : Keeps cs s₀ s)
    (hm : ([.flow] : List Comp) ⊆ cs := by first | decide | (refine List.Subset.trans ?_ ‹_ ⊆ _›; decide)) : Keeps cs s₀ (State.settleCredits s) := by
  unfold State.settleCredits
  try dsimp only
  with_reducible repeat' (first
    | assumption | exact List.Subset.trans (by decide) hm | apply State.updTxThread_keeps | apply foldl_keeps
    | refine Keeps.of_pair (by assumption) ?_ | intro _)

theorem State.refreshThreads_keeps {s : State} (hk : Keeps cs s₀ s)
    (hm : ([.clerk, .hier, .tally, .flow] : List Comp) ⊆ cs := by first | decide | (refine List.Subset.trans ?_ ‹_ ⊆ _›; decide)) : Keeps cs s₀ (State.refreshThreads s) := by
  unfold State.refreshThreads
  try dsimp only
  with_reducible repeat' (first
    | assumption | exact List.Subset.trans (by decide) hm | apply State.settleCredits_keeps | apply State.refreshDelin_keeps
    | refine Keeps.of_pair (by assumption) ?_ | intro _)

/-! ### Framer.lean -/

theorem State.setLp_keeps {p : Port} {v : LoomPort} {s : State} (hk : Keeps cs s₀ s)
    (hm : ([.loom] : List Comp) ⊆ cs := by first | decide | (refine List.Subset.trans ?_ ‹_ ⊆ _›; decide)) : Keeps cs s₀ (State.setLp p v s) := by
  unfold State.setLp
  try dsimp only
  with_reducible repeat' (first | assumption | exact List.Subset.trans (by decide) hm | apply withLoom_keeps | intro _)

theorem State.updLp_keeps {p : Port} {f : LoomPort → LoomPort} {s : State} (hk : Keeps cs s₀ s)
    (hm : ([.loom] : List Comp) ⊆ cs := by first | decide | (refine List.Subset.trans ?_ ‹_ ⊆ _›; decide)) : Keeps cs s₀ (State.updLp p f s) := by
  unfold State.updLp
  try dsimp only
  with_reducible repeat' (first
    | assumption | exact List.Subset.trans (by decide) hm | apply State.setLp_keeps | refine Keeps.of_pair (by assumption) ?_
    | intro _)

theorem State.pm_keeps {kind idx word n : Nat} {s : State} (hk : Keeps cs s₀ s)
    (hm : ([.loom] : List Comp) ⊆ cs := by first | decide | (refine List.Subset.trans ?_ ‹_ ⊆ _›; decide)) : Keeps cs s₀ (State.pm kind idx word n s) := by
  unfold State.pm
  try dsimp only
  with_reducible repeat' (first
    | assumption | exact List.Subset.trans (by decide) hm | apply withLoom_keeps | refine Keeps.of_pair (by assumption) ?_
    | intro _)

theorem State.countLost_keeps {p : Port} {s : State} (hk : Keeps cs s₀ s)
    (hm : ([.loom] : List Comp) ⊆ cs := by first | decide | (refine List.Subset.trans ?_ ‹_ ⊆ _›; decide)) : Keeps cs s₀ (State.countLost p s) := by
  unfold State.countLost
  try dsimp only
  with_reducible repeat' (first
    | assumption | exact List.Subset.trans (by decide) hm | apply State.pm_keeps | apply State.updLp_keeps
    | refine Keeps.of_pair (by assumption) ?_ | intro _)

theorem State.moveBolt_keeps {b new cause : Nat} {s : State} (hk : Keeps cs s₀ s)
    (hm : ([.clerk, .hier, .tally, .loom, .flow] : List Comp) ⊆ cs := by first | decide | (refine List.Subset.trans ?_ ‹_ ⊆ _›; decide)) : Keeps cs s₀ (State.moveBolt b new cause s) := by
  unfold State.moveBolt
  try dsimp only
  with_reducible repeat' (first
    | assumption | exact List.Subset.trans (by decide) hm | apply Keeps.ite | apply State.setBoltRx_keeps
    | apply State.raise_keeps | apply State.refreshDelin_keeps | refine Keeps.of_pair (by assumption) ?_ | intro _ | split)

theorem State.downBolts_keeps {s : State} (hk : Keeps cs s₀ s)
    (hm : ([.clerk, .hier, .tally, .loom, .flow] : List Comp) ⊆ cs := by first | decide | (refine List.Subset.trans ?_ ‹_ ⊆ _›; decide)) : Keeps cs s₀ (State.downBolts s) := by
  unfold State.downBolts
  try dsimp only
  with_reducible repeat' (first
    | assumption | exact List.Subset.trans (by decide) hm | apply Keeps.ite | apply State.moveBolt_keeps | apply foldl_keeps
    | refine Keeps.of_pair (by assumption) ?_ | intro _ | split)

theorem State.moveFramer_keeps {p : Port} {new : FrSt} {cause : Nat} {s : State} (hk : Keeps cs s₀ s)
    (hm : ([.clerk, .hier, .tally, .loom, .flow] : List Comp) ⊆ cs := by first | decide | (refine List.Subset.trans ?_ ‹_ ⊆ _›; decide)) : Keeps cs s₀ (State.moveFramer p new cause s) := by
  unfold State.moveFramer
  try dsimp only
  with_reducible repeat' (first
    | assumption | exact List.Subset.trans (by decide) hm | apply Keeps.ite | apply State.countLost_keeps
    | apply State.updLp_keeps | apply State.raise_keeps | apply State.downBolts_keeps | apply foldl_keeps
    | refine Keeps.of_pair (by assumption) ?_ | intro _ | split)

theorem State.updRa_keeps {p : Port} {f : RaPort → RaPort} {s : State} (hk : Keeps cs s₀ s)
    (hm : ([.ra] : List Comp) ⊆ cs := by first | decide | (refine List.Subset.trans ?_ ‹_ ⊆ _›; decide)) : Keeps cs s₀ (State.updRa p f s) := by
  unfold State.updRa
  try dsimp only
  with_reducible repeat' (first | assumption | exact List.Subset.trans (by decide) hm | apply withRa_keeps | intro _)

theorem State.raConfigured_keeps {d : Way} {p : Port} {s : State} (hk : Keeps cs s₀ s)
    (hm : ([.ra, .flow] : List Comp) ⊆ cs := by first | decide | (refine List.Subset.trans ?_ ‹_ ⊆ _›; decide)) : Keeps cs s₀ (State.raConfigured d p s) := by
  unfold State.raConfigured
  try dsimp only
  with_reducible repeat' (first
    | assumption | exact List.Subset.trans (by decide) hm | apply Keeps.ite | apply State.settleCredits_keeps
    | apply State.updRa_keeps | refine Keeps.of_pair (by assumption) ?_ | intro _ | split)

theorem State.raLeave_keeps {p : Port} {s : State} (hk : Keeps cs s₀ s)
    (hm : ([.ra] : List Comp) ⊆ cs := by first | decide | (refine List.Subset.trans ?_ ‹_ ⊆ _›; decide)) : Keeps cs s₀ (State.raLeave p s) := by
  unfold State.raLeave
  try dsimp only
  with_reducible repeat' (first | assumption | exact List.Subset.trans (by decide) hm | apply State.updRa_keeps | intro _)

theorem State.noteDecode_keeps {p : Port} {ok : Bool} {s : State} (hk : Keeps cs s₀ s)
    (hm : ([.ra] : List Comp) ⊆ cs := by first | decide | (refine List.Subset.trans ?_ ‹_ ⊆ _›; decide)) : Keeps cs s₀ (State.noteDecode p ok s) := by
  unfold State.noteDecode
  try dsimp only
  with_reducible repeat' (first
    | assumption | exact List.Subset.trans (by decide) hm | apply Keeps.ite | apply State.updRa_keeps
    | refine Keeps.of_pair (by assumption) ?_ | intro _ | split)

theorem State.framerOff_keeps {p : Port} {s : State} (hk : Keeps cs s₀ s)
    (hm : ([.clerk, .hier, .tally, .loom, .flow] : List Comp) ⊆ cs := by first | decide | (refine List.Subset.trans ?_ ‹_ ⊆ _›; decide)) : Keeps cs s₀ (State.framerOff p s) := by
  unfold State.framerOff
  try dsimp only
  with_reducible repeat' (first
    | assumption | exact List.Subset.trans (by decide) hm | apply State.moveFramer_keeps | apply State.updLp_keeps
    | refine Keeps.of_pair (by assumption) ?_ | intro _)

/-! ### Tally.lean -/

theorem State.slot_keeps {region j n : Nat} {s : State} (hk : Keeps cs s₀ s)
    (hm : ([.tally] : List Comp) ⊆ cs := by first | decide | (refine List.Subset.trans ?_ ‹_ ⊆ _›; decide)) : Keeps cs s₀ (State.slot region j n s) := by
  unfold State.slot
  try dsimp only
  with_reducible repeat' (first
    | assumption | exact List.Subset.trans (by decide) hm | apply State.bump_keeps | refine Keeps.of_pair (by assumption) ?_
    | intro _)

theorem State.tagCount_keeps {p : Port} {d j n : Nat} {s : State} (hk : Keeps cs s₀ s)
    (hm : ([.tally] : List Comp) ⊆ cs := by first | decide | (refine List.Subset.trans ?_ ‹_ ⊆ _›; decide)) : Keeps cs s₀ (State.tagCount p d j n s) := by
  unfold State.tagCount
  try dsimp only
  with_reducible repeat' (first
    | assumption | exact List.Subset.trans (by decide) hm | apply State.bump_keeps | refine Keeps.of_pair (by assumption) ?_
    | intro _)

theorem State.tagForm_keeps {p : Port} {d span : Nat} {draw : Bool} {s : State} (hk : Keeps cs s₀ s)
    (hm : ([.tally] : List Comp) ⊆ cs := by first | decide | (refine List.Subset.trans ?_ ‹_ ⊆ _›; decide)) : Keeps cs s₀ (State.tagForm p d span draw s) := by
  unfold State.tagForm
  try dsimp only
  with_reducible repeat' (first
    | assumption | exact List.Subset.trans (by decide) hm | apply Keeps.ite | apply withTally_keeps
    | apply State.tagCount_keeps | refine Keeps.tally' (cs := cs) (s₀ := s₀) rfl ?_ | refine Keeps.of_pair (by assumption) ?_
    | intro _ | split)

theorem State.tagUpd_keeps {p : Port} {d span : Nat} {f : TagRec → TagRec} {s : State} (hk : Keeps cs s₀ s)
    (hm : ([.tally] : List Comp) ⊆ cs := by first | decide | (refine List.Subset.trans ?_ ‹_ ⊆ _›; decide)) : Keeps cs s₀ (State.tagUpd p d span f s) := by
  unfold State.tagUpd
  try dsimp only
  with_reducible repeat' (first
    | assumption | exact List.Subset.trans (by decide) hm | apply Keeps.ite | apply withTally_keeps
    | refine Keeps.tally' (cs := cs) (s₀ := s₀) rfl ?_ | refine Keeps.of_pair (by assumption) ?_ | intro _ | split)

theorem State.tagEnter_keeps {p : Port} {d span stage : Nat} {s : State} (hk : Keeps cs s₀ s)
    (hm : ([.tally] : List Comp) ⊆ cs := by first | decide | (refine List.Subset.trans ?_ ‹_ ⊆ _›; decide)) : Keeps cs s₀ (State.tagEnter p d span stage s) := by
  unfold State.tagEnter
  try dsimp only
  with_reducible repeat' (first
    | assumption | exact List.Subset.trans (by decide) hm | apply Keeps.ite | apply State.tagUpd_keeps
    | refine Keeps.of_pair (by assumption) ?_ | intro _ | split)

theorem State.tagExit_keeps {p : Port} {d span stage : Nat} {s : State} (hk : Keeps cs s₀ s)
    (hm : ([.tally] : List Comp) ⊆ cs := by first | decide | (refine List.Subset.trans ?_ ‹_ ⊆ _›; decide)) : Keeps cs s₀ (State.tagExit p d span stage s) := by
  unfold State.tagExit
  try dsimp only
  with_reducible repeat' (first
    | assumption | exact List.Subset.trans (by decide) hm | apply State.tagUpd_keeps | refine Keeps.of_pair (by assumption) ?_
    | intro _)

theorem State.tagClose_keeps {p : Port} {d span : Nat} {erased late : Bool} {s : State} (hk : Keeps cs s₀ s)
    (hm : ([.tally] : List Comp) ⊆ cs := by first | decide | (refine List.Subset.trans ?_ ‹_ ⊆ _›; decide)) : Keeps cs s₀ (State.tagClose p d span erased late s) := by
  unfold State.tagClose
  try dsimp only
  with_reducible repeat' (first
    | assumption | exact List.Subset.trans (by decide) hm | apply Keeps.ite | apply withTally_keeps
    | apply State.tagCount_keeps | refine Keeps.tally' (cs := cs) (s₀ := s₀) rfl ?_ | refine Keeps.of_pair (by assumption) ?_
    | intro _ | split)

theorem State.tagLose_keeps {p : Port} {d : Nat} {s : State} (hk : Keeps cs s₀ s)
    (hm : ([.tally] : List Comp) ⊆ cs := by first | decide | (refine List.Subset.trans ?_ ‹_ ⊆ _›; decide)) : Keeps cs s₀ (State.tagLose p d s) := by
  unfold State.tagLose
  try dsimp only
  with_reducible repeat' (first
    | assumption | exact List.Subset.trans (by decide) hm | apply Keeps.ite | apply withTally_keeps
    | apply State.tagCount_keeps | refine Keeps.tally' (cs := cs) (s₀ := s₀) rfl ?_ | refine Keeps.of_pair (by assumption) ?_
    | intro _ | split)

theorem tallyTagSetOp_keeps {c : Cmd} (hk : Keeps cs s₀ s)
    (hm : ([.tally] : List Comp) ⊆ cs := by first | decide | (refine List.Subset.trans ?_ ‹_ ⊆ _›; decide)) : Keeps cs s₀ (tallyTagSetOp.effect c s).2 := by
  unfold tallyTagSetOp
  try dsimp only
  with_reducible repeat' (first
    | assumption | exact List.Subset.trans (by decide) hm | apply sets_keeps | apply withTally_keeps
    | refine Keeps.tally' (cs := cs) (s₀ := s₀) rfl ?_ | refine Keeps.of_pair (by assumption) ?_ | intro _)

theorem execTallyTagSet_keeps {c : Cmd} {s : State} (hk : Keeps cs s₀ s)
    (hm : ([.out, .bar0, .clerk, .tally] : List Comp) ⊆ cs := by first | decide | (refine List.Subset.trans ?_ ‹_ ⊆ _›; decide)) : AnsKeeps cs s₀ (execTallyTagSet c s) := by
  unfold execTallyTagSet
  try dsimp only
  with_reducible repeat' (first
    | assumption | exact List.Subset.trans (by decide) hm | apply AnsKeeps.next | apply serve_keeps
    | apply tallyTagSetOp_keeps | intro _)

theorem tallyTagReadOp_keeps {c : Cmd} (hk : Keeps cs s₀ s) : Keeps cs s₀ (tallyTagReadOp.effect c s).2 := by
  unfold tallyTagReadOp
  try dsimp only
  with_reducible repeat' (first | assumption | apply reads_keeps | refine Keeps.of_pair (by assumption) ?_ | intro _)

theorem execTallyTagRead_keeps {c : Cmd} {s : State} (hk : Keeps cs s₀ s)
    (hm : ([.out, .bar0, .clerk, .tally] : List Comp) ⊆ cs := by first | decide | (refine List.Subset.trans ?_ ‹_ ⊆ _›; decide)) : AnsKeeps cs s₀ (execTallyTagRead c s) := by
  unfold execTallyTagRead
  try dsimp only
  with_reducible repeat' (first
    | assumption | exact List.Subset.trans (by decide) hm | apply AnsKeeps.next | apply serve_keeps
    | apply tallyTagReadOp_keeps | intro _)

theorem tallySlotReadOp_keeps {c : Cmd} (hk : Keeps cs s₀ s) : Keeps cs s₀ (tallySlotReadOp.effect c s).2 := by
  unfold tallySlotReadOp
  try dsimp only
  with_reducible repeat' (first | assumption | apply reads_keeps | refine Keeps.of_pair (by assumption) ?_ | intro _)

theorem execTallySlotRead_keeps {c : Cmd} {s : State} (hk : Keeps cs s₀ s)
    (hm : ([.out, .bar0, .clerk, .tally] : List Comp) ⊆ cs := by first | decide | (refine List.Subset.trans ?_ ‹_ ⊆ _›; decide)) : AnsKeeps cs s₀ (execTallySlotRead c s) := by
  unfold execTallySlotRead
  try dsimp only
  with_reducible repeat' (first
    | assumption | exact List.Subset.trans (by decide) hm | apply AnsKeeps.next | apply serve_keeps
    | apply tallySlotReadOp_keeps | intro _)

theorem tallyFifoReadOp_keeps {c : Cmd} (hk : Keeps cs s₀ s)
    (hm : ([.hier] : List Comp) ⊆ cs := by first | decide | (refine List.Subset.trans ?_ ‹_ ⊆ _›; decide)) : Keeps cs s₀ (tallyFifoReadOp.effect c s).2 := by
  unfold tallyFifoReadOp
  try dsimp only
  with_reducible repeat' (first
    | assumption | exact List.Subset.trans (by decide) hm | apply Keeps.ite | apply Keeps.ite_snd | apply State.setFifo_keeps
    | refine Keeps.of_pair (by assumption) ?_ | intro _ | split)

theorem execTallyFifoRead_keeps {c : Cmd} {s : State} (hk : Keeps cs s₀ s)
    (hm : ([.out, .bar0, .clerk, .hier, .tally] : List Comp) ⊆ cs := by first | decide | (refine List.Subset.trans ?_ ‹_ ⊆ _›; decide)) : AnsKeeps cs s₀ (execTallyFifoRead c s) := by
  unfold execTallyFifoRead
  try dsimp only
  with_reducible repeat' (first
    | assumption | exact List.Subset.trans (by decide) hm | apply AnsKeeps.next | apply serve_keeps
    | apply tallyFifoReadOp_keeps | intro _)

theorem tallyFreezeOp_keeps {c : Cmd} (hk : Keeps cs s₀ s)
    (hm : ([.tally] : List Comp) ⊆ cs := by first | decide | (refine List.Subset.trans ?_ ‹_ ⊆ _›; decide)) : Keeps cs s₀ (tallyFreezeOp.effect c s).2 := by
  unfold tallyFreezeOp
  try dsimp only
  with_reducible repeat' (first
    | assumption | exact List.Subset.trans (by decide) hm | apply sets_keeps | apply withTally_keeps
    | refine Keeps.tally' (cs := cs) (s₀ := s₀) rfl ?_ | refine Keeps.of_pair (by assumption) ?_ | intro _)

theorem execTallyFreeze_keeps {c : Cmd} {s : State} (hk : Keeps cs s₀ s)
    (hm : ([.out, .bar0, .clerk, .tally] : List Comp) ⊆ cs := by first | decide | (refine List.Subset.trans ?_ ‹_ ⊆ _›; decide)) : AnsKeeps cs s₀ (execTallyFreeze c s) := by
  unfold execTallyFreeze
  try dsimp only
  with_reducible repeat' (first
    | assumption | exact List.Subset.trans (by decide) hm | apply AnsKeeps.next | apply serve_keeps
    | apply tallyFreezeOp_keeps | intro _)

theorem execBar2LowRead_keeps {offset : BitVec 20} {wide : Bool} {s : State} (hk : Keeps cs s₀ s)
    (hm : ([.out, .tally] : List Comp) ⊆ cs := by first | decide | (refine List.Subset.trans ?_ ‹_ ⊆ _›; decide)) : AnsKeeps cs s₀ (execBar2LowRead offset wide s) := by
  unfold execBar2LowRead
  try dsimp only
  with_reducible repeat' (first
    | assumption | exact List.Subset.trans (by decide) hm | apply Keeps.ite | apply AnsKeeps.ite | apply AnsKeeps.next
    | apply happen_keeps | apply State.emit_keeps | apply withTally_keeps | refine Keeps.tally' (cs := cs) (s₀ := s₀) rfl ?_
    | refine Keeps.of_pair (by assumption) ?_ | intro _ | split)

end Sys2Proof.Machine
end

