-- ==== Sys2Proof/Laws/KeepsLine.lean ====
section
/-!
SUPPORT. What is kept by: the line ports' shared operations, the decoder pool, the Storehouse's stripes, flows, lanes.
-/

set_option Elab.async false
set_option linter.all false

namespace Sys2Proof.Machine

variable {cs : List Comp} {s₀ s t : State}

/-! ### Line.lean -/

theorem State.setRx_keeps {p : Port} {v : RxPort} {s : State} (hk : Keeps cs s₀ s)
    (hm : ([.rx] : List Comp) ⊆ cs := by first | decide | (refine List.Subset.trans ?_ ‹_ ⊆ _›; decide)) : Keeps cs s₀ (State.setRx p v s) := by
  unfold State.setRx
  try dsimp only
  with_reducible repeat' (first
    | assumption | exact List.Subset.trans (by decide) hm | apply withRx_keeps | refine Keeps.of_pair (by assumption) ?_
    | intro _)

theorem State.updRx_keeps {p : Port} {f : RxPort → RxPort} {s : State} (hk : Keeps cs s₀ s)
    (hm : ([.rx] : List Comp) ⊆ cs := by first | decide | (refine List.Subset.trans ?_ ‹_ ⊆ _›; decide)) : Keeps cs s₀ (State.updRx p f s) := by
  unfold State.updRx
  try dsimp only
  with_reducible repeat' (first
    | assumption | exact List.Subset.trans (by decide) hm | apply State.setRx_keeps | refine Keeps.of_pair (by assumption) ?_
    | intro _)

theorem State.setRw_keeps {p : Port} {v : RwPort} {s : State} (hk : Keeps cs s₀ s)
    (hm : ([.rw] : List Comp) ⊆ cs := by first | decide | (refine List.Subset.trans ?_ ‹_ ⊆ _›; decide)) : Keeps cs s₀ (State.setRw p v s) := by
  unfold State.setRw
  try dsimp only
  with_reducible repeat' (first
    | assumption | exact List.Subset.trans (by decide) hm | apply withRw_keeps | refine Keeps.of_pair (by assumption) ?_
    | intro _)

theorem State.setFecp_keeps {p : Port} {v : FecPort} {s : State} (hk : Keeps cs s₀ s)
    (hm : ([.fec] : List Comp) ⊆ cs := by first | decide | (refine List.Subset.trans ?_ ‹_ ⊆ _›; decide)) : Keeps cs s₀ (State.setFecp p v s) := by
  unfold State.setFecp
  try dsimp only
  with_reducible repeat' (first | assumption | exact List.Subset.trans (by decide) hm | apply withFec_keeps | intro _)

theorem evRxState_keeps {p : Port} {new old : RxSt} {cause : Nat} {s : State} (hk : Keeps cs s₀ s)
    (hm : ([.clerk, .hier, .tally] : List Comp) ⊆ cs := by first | decide | (refine List.Subset.trans ?_ ‹_ ⊆ _›; decide)) : Keeps cs s₀ (evRxState p new old cause s) := by
  unfold evRxState
  try dsimp only
  with_reducible repeat' (first
    | assumption | exact List.Subset.trans (by decide) hm | apply State.raise_keeps | refine Keeps.of_pair (by assumption) ?_
    | intro _)

theorem State.moveRx_keeps {p : Port} {new : RxSt} {cause : Nat} {s : State} (hk : Keeps cs s₀ s)
    (hm : ([.clerk, .hier, .tally, .rx] : List Comp) ⊆ cs := by first | decide | (refine List.Subset.trans ?_ ‹_ ⊆ _›; decide)) : Keeps cs s₀ (State.moveRx p new cause s) := by
  unfold State.moveRx
  try dsimp only
  with_reducible repeat' (first
    | assumption | exact List.Subset.trans (by decide) hm | apply evRxState_keeps | apply State.updRx_keeps
    | refine Keeps.of_pair (by assumption) ?_ | intro _)

theorem State.abortScan_keeps {p : Port} {s : State} (hk : Keeps cs s₀ s)
    (hm : ([.clerk, .hier, .tally, .rx] : List Comp) ⊆ cs := by first | decide | (refine List.Subset.trans ?_ ‹_ ⊆ _›; decide)) : Keeps cs s₀ (State.abortScan p s) := by
  unfold State.abortScan
  try dsimp only
  with_reducible repeat' (first
    | assumption | exact List.Subset.trans (by decide) hm | apply State.updRx_keeps | apply State.endJob_keeps
    | refine Keeps.of_pair (by assumption) ?_ | intro _ | split)

theorem State.startAcq_keeps {p : Port} {step : Nat} {full : Bool} {s : State} (hk : Keeps cs s₀ s)
    (hm : ([.rx] : List Comp) ⊆ cs := by first | decide | (refine List.Subset.trans ?_ ‹_ ⊆ _›; decide)) : Keeps cs s₀ (State.startAcq p step full s) := by
  unfold State.startAcq
  try dsimp only
  with_reducible repeat' (first
    | assumption | exact List.Subset.trans (by decide) hm | apply Keeps.ite | apply State.updRx_keeps | intro _ | split)

theorem State.endRxFade_keeps {p : Port} {s : State} (hk : Keeps cs s₀ s)
    (hm : ([.clerk, .hier, .tally, .rx] : List Comp) ⊆ cs := by first | decide | (refine List.Subset.trans ?_ ‹_ ⊆ _›; decide)) : Keeps cs s₀ (State.endRxFade p s) := by
  unfold State.endRxFade
  try dsimp only
  with_reducible repeat' (first
    | assumption | exact List.Subset.trans (by decide) hm | apply State.updRx_keeps | apply State.bump_keeps
    | apply State.raise_keeps | refine Keeps.of_pair (by assumption) ?_ | intro _ | split)

theorem evLaneFault_keeps {p : Port} {conv : Nat} {on : Bool} {s : State} (hk : Keeps cs s₀ s)
    (hm : ([.clerk, .hier, .tally] : List Comp) ⊆ cs := by first | decide | (refine List.Subset.trans ?_ ‹_ ⊆ _›; decide)) : Keeps cs s₀ (evLaneFault p conv on s) := by
  unfold evLaneFault
  try dsimp only
  with_reducible repeat' (first
    | assumption | exact List.Subset.trans (by decide) hm | apply Keeps.ite | apply State.raise_keeps
    | refine Keeps.of_pair (by assumption) ?_ | intro _ | split)

theorem State.endLaneFaults_keeps {p : Port} {s : State} (hk : Keeps cs s₀ s)
    (hm : ([.clerk, .hier, .tally, .rx] : List Comp) ⊆ cs := by first | decide | (refine List.Subset.trans ?_ ‹_ ⊆ _›; decide)) : Keeps cs s₀ (State.endLaneFaults p s) := by
  unfold State.endLaneFaults
  try dsimp only
  with_reducible repeat' (first
    | assumption | exact List.Subset.trans (by decide) hm | apply evLaneFault_keeps | apply State.updRx_keeps
    | apply foldl_keeps | refine Keeps.of_pair (by assumption) ?_ | intro _)

theorem State.commitRw_keeps {c : Cmd} {s : State} (hk : Keeps cs s₀ s)
    (hm : ([.rw] : List Comp) ⊆ cs := by first | decide | (refine List.Subset.trans ?_ ‹_ ⊆ _›; decide)) : Keeps cs s₀ (State.commitRw c s) := by
  unfold State.commitRw
  try dsimp only
  with_reducible repeat' (first
    | assumption | exact List.Subset.trans (by decide) hm | apply State.setRw_keeps | refine Keeps.of_pair (by assumption) ?_
    | intro _)

theorem State.commitFec_keeps {c : Cmd} {s : State} (hk : Keeps cs s₀ s)
    (hm : ([.fec] : List Comp) ⊆ cs := by first | decide | (refine List.Subset.trans ?_ ‹_ ⊆ _›; decide)) : Keeps cs s₀ (State.commitFec c s) := by
  unfold State.commitFec
  try dsimp only
  with_reducible repeat' (first
    | assumption | exact List.Subset.trans (by decide) hm | apply State.setFecp_keeps
    | refine Keeps.of_pair (by assumption) ?_ | intro _)

theorem State.commitBoundary_keeps {p : Port} {s : State} (hk : Keeps cs s₀ s)
    (hm : ([.out, .bar0, .clerk, .rw, .fec] : List Comp) ⊆ cs := by first | decide | (refine List.Subset.trans ?_ ‹_ ⊆ _›; decide)) : Keeps cs s₀ (State.commitBoundary p s) := by
  unfold State.commitBoundary
  try dsimp only
  with_reducible repeat' (first
    | assumption | exact List.Subset.trans (by decide) hm | apply Keeps.ite | apply State.commitRw_keeps
    | apply State.answerAwait_keeps | apply State.commitFec_keeps | apply foldl_keeps
    | refine Keeps.of_pair (by assumption) ?_ | intro _ | split)

theorem State.dropHeld_keeps {p : Port} {s : State} (hk : Keeps cs s₀ s)
    (hm : ([.tally, .fec] : List Comp) ⊆ cs := by first | decide | (refine List.Subset.trans ?_ ‹_ ⊆ _›; decide)) : Keeps cs s₀ (State.dropHeld p s) := by
  unfold State.dropHeld
  try dsimp only
  with_reducible repeat' (first
    | assumption | exact List.Subset.trans (by decide) hm | apply withFec_keeps | apply State.bump_keeps
    | refine Keeps.of_pair (by assumption) ?_ | intro _)

theorem State.leaveTracking_keeps {p : Port} {s : State} (hk : Keeps cs s₀ s)
    (hm : ([.clerk, .hier, .tally, .rx, .rw, .fec, .loom, .ra, .flow] : List Comp) ⊆ cs := by first | decide | (refine List.Subset.trans ?_ ‹_ ⊆ _›; decide)) : Keeps cs s₀ (State.leaveTracking p s) := by
  unfold State.leaveTracking
  try dsimp only
  with_reducible repeat' (first
    | assumption | exact List.Subset.trans (by decide) hm | apply State.setRw_keeps | apply State.setFecp_keeps
    | apply State.dropHeld_keeps | apply State.framerOff_keeps | apply State.raLeave_keeps | apply State.updRx_keeps
    | apply State.tagLose_keeps | refine Keeps.of_pair (by assumption) ?_ | intro _)

theorem State.leaveIfTracking_keeps {p : Port} {s : State} (hk : Keeps cs s₀ s)
    (hm : ([.clerk, .hier, .tally, .rx, .rw, .fec, .loom, .ra, .flow] : List Comp) ⊆ cs := by first | decide | (refine List.Subset.trans ?_ ‹_ ⊆ _›; decide)) : Keeps cs s₀ (State.leaveIfTracking p s) := by
  unfold State.leaveIfTracking
  try dsimp only
  with_reducible repeat' (first
    | assumption | exact List.Subset.trans (by decide) hm | apply Keeps.ite | apply State.leaveTracking_keeps | intro _
    | split)

theorem State.loseLock_keeps {p : Port} {cause : Nat} {s : State} (hk : Keeps cs s₀ s)
    (hm : ([.clerk, .hier, .tally, .rx, .rw, .fec, .loom, .ra, .flow] : List Comp) ⊆ cs := by first | decide | (refine List.Subset.trans ?_ ‹_ ⊆ _›; decide)) : Keeps cs s₀ (State.loseLock p cause s) := by
  unfold State.loseLock
  try dsimp only
  with_reducible repeat' (first
    | assumption | exact List.Subset.trans (by decide) hm | apply State.endRxFade_keeps | apply State.abortScan_keeps
    | apply State.leaveTracking_keeps | apply State.updRx_keeps | apply State.bump_keeps | apply State.raise_keeps
    | apply State.moveRx_keeps | apply State.startAcq_keeps | refine Keeps.of_pair (by assumption) ?_ | intro _)

theorem State.enterTracking_keeps {p : Port} {s : State} (hk : Keeps cs s₀ s)
    (hm : ([.clerk, .hier, .tally, .rx, .rw, .fec, .loom, .ra, .flow] : List Comp) ⊆ cs := by first | decide | (refine List.Subset.trans ?_ ‹_ ⊆ _›; decide)) : Keeps cs s₀ (State.enterTracking p s) := by
  unfold State.enterTracking
  try dsimp only
  with_reducible repeat' (first
    | assumption | exact List.Subset.trans (by decide) hm | apply Keeps.ite | apply State.setRw_keeps
    | apply State.moveRx_keeps | apply State.updRx_keeps | apply State.loseLock_keeps
    | refine Keeps.of_pair (by assumption) ?_ | intro _ | split)

theorem State.noteErasure_keeps {s : State} (hk : Keeps cs s₀ s)
    (hm : ([.clerk, .hier, .tally] : List Comp) ⊆ cs := by first | decide | (refine List.Subset.trans ?_ ‹_ ⊆ _›; decide)) : Keeps cs s₀ (State.noteErasure s) := by
  unfold State.noteErasure
  try dsimp only
  with_reducible repeat' (first
    | assumption | exact List.Subset.trans (by decide) hm | apply withHier_keeps | apply State.refreshHealth_keeps
    | refine Keeps.hier' (cs := cs) (s₀ := s₀) rfl rfl ?_ | refine Keeps.of_pair (by assumption) ?_ | intro _)

theorem State.eraseSpans_keeps {p : Port} {ks : List Nat} {s : State} (hk : Keeps cs s₀ s)
    (hm : ([.clerk, .hier, .tally, .rw, .fec] : List Comp) ⊆ cs := by first | decide | (refine List.Subset.trans ?_ ‹_ ⊆ _›; decide)) : Keeps cs s₀ (State.eraseSpans p ks s) := by
  unfold State.eraseSpans
  try dsimp only
  with_reducible repeat' (first
    | assumption | exact List.Subset.trans (by decide) hm | apply Keeps.ite | apply State.setRw_keeps | apply withFec_keeps
    | apply State.bump_keeps | apply State.noteErasure_keeps | refine Keeps.of_pair (by assumption) ?_ | intro _ | split)

theorem State.eraseSpan_keeps {p : Port} {k cause : Nat} {s : State} (hk : Keeps cs s₀ s)
    (hm : ([.clerk, .hier, .tally, .rw, .fec] : List Comp) ⊆ cs := by first | decide | (refine List.Subset.trans ?_ ‹_ ⊆ _›; decide)) : Keeps cs s₀ (State.eraseSpan p k cause s) := by
  unfold State.eraseSpan
  try dsimp only
  with_reducible repeat' (first
    | assumption | exact List.Subset.trans (by decide) hm | apply State.eraseSpans_keeps | apply State.raise_keeps
    | refine Keeps.of_pair (by assumption) ?_ | intro _)

theorem State.setTx_keeps {p : Port} {v : TxPort} {s : State} (hk : Keeps cs s₀ s)
    (hm : ([.tx] : List Comp) ⊆ cs := by first | decide | (refine List.Subset.trans ?_ ‹_ ⊆ _›; decide)) : Keeps cs s₀ (State.setTx p v s) := by
  unfold State.setTx
  try dsimp only
  with_reducible repeat' (first
    | assumption | exact List.Subset.trans (by decide) hm | apply withTx_keeps | refine Keeps.of_pair (by assumption) ?_
    | intro _)

theorem State.updTx_keeps {p : Port} {f : TxPort → TxPort} {s : State} (hk : Keeps cs s₀ s)
    (hm : ([.tx] : List Comp) ⊆ cs := by first | decide | (refine List.Subset.trans ?_ ‹_ ⊆ _›; decide)) : Keeps cs s₀ (State.updTx p f s) := by
  unfold State.updTx
  try dsimp only
  with_reducible repeat' (first
    | assumption | exact List.Subset.trans (by decide) hm | apply State.setTx_keeps | refine Keeps.of_pair (by assumption) ?_
    | intro _)

theorem State.txLate_keeps {p : Port} {span : Nat} {s : State} (hk : Keeps cs s₀ s)
    (hm : ([.clerk, .hier, .tally] : List Comp) ⊆ cs := by first | decide | (refine List.Subset.trans ?_ ‹_ ⊆ _›; decide)) : Keeps cs s₀ (State.txLate p span s) := by
  unfold State.txLate
  try dsimp only
  with_reducible repeat' (first
    | assumption | exact List.Subset.trans (by decide) hm | apply State.bump_keeps | apply State.tagUpd_keeps
    | apply State.raiseLimited_keeps | refine Keeps.of_pair (by assumption) ?_ | intro _)

theorem State.txFailure_keeps {p : Port} {b span : Nat} {s : State} (hk : Keeps cs s₀ s)
    (hm : ([.clerk, .hier, .tally, .serv, .tx] : List Comp) ⊆ cs := by first | decide | (refine List.Subset.trans ?_ ‹_ ⊆ _›; decide)) : Keeps cs s₀ (State.txFailure p b span s) := by
  unfold State.txFailure
  try dsimp only
  with_reducible repeat' (first
    | assumption | exact List.Subset.trans (by decide) hm | apply Keeps.ite | apply State.setTx_keeps | apply State.bump_keeps
    | apply State.slot_keeps | apply State.blockSuspect_keeps | apply State.txLate_keeps
    | refine Keeps.of_pair (by assumption) ?_ | intro _ | split)

/-! ### Fec.lean -/

theorem fecPortConfigOp_keeps {c : Cmd} (hk : Keeps cs s₀ s)
    (hm : ([.fec] : List Comp) ⊆ cs := by first | decide | (refine List.Subset.trans ?_ ‹_ ⊆ _›; decide)) : Keeps cs s₀ (fecPortConfigOp.effect c s).2 := by
  unfold fecPortConfigOp
  try dsimp only
  with_reducible repeat' (first
    | assumption | exact List.Subset.trans (by decide) hm | apply Keeps.ite | apply Keeps.ite_snd
    | apply State.commitFec_keeps | refine Keeps.of_pair (by assumption) ?_ | intro _ | split)

theorem execFecPortConfig_keeps {c : Cmd} {s : State} (hk : Keeps cs s₀ s)
    (hm : ([.out, .bar0, .clerk, .tally, .fec] : List Comp) ⊆ cs := by first | decide | (refine List.Subset.trans ?_ ‹_ ⊆ _›; decide)) : AnsKeeps cs s₀ (execFecPortConfig c s) := by
  unfold execFecPortConfig
  try dsimp only
  with_reducible repeat' (first
    | assumption | exact List.Subset.trans (by decide) hm | apply AnsKeeps.next | apply serve_keeps
    | apply fecPortConfigOp_keeps | intro _)

theorem fecPortStatusOp_keeps {c : Cmd} (hk : Keeps cs s₀ s) : Keeps cs s₀ (fecPortStatusOp.effect c s).2 := by
  unfold fecPortStatusOp
  try dsimp only
  with_reducible repeat' (first | assumption | apply reads_keeps | intro _)

theorem execFecPortStatus_keeps {c : Cmd} {s : State} (hk : Keeps cs s₀ s)
    (hm : ([.out, .bar0, .clerk, .tally] : List Comp) ⊆ cs := by first | decide | (refine List.Subset.trans ?_ ‹_ ⊆ _›; decide)) : AnsKeeps cs s₀ (execFecPortStatus c s) := by
  unfold execFecPortStatus
  try dsimp only
  with_reducible repeat' (first
    | assumption | exact List.Subset.trans (by decide) hm | apply AnsKeeps.next | apply serve_keeps
    | apply fecPortStatusOp_keeps | intro _)

theorem fecPortCountersOp_keeps {c : Cmd} (hk : Keeps cs s₀ s) : Keeps cs s₀ (fecPortCountersOp.effect c s).2 := by
  unfold fecPortCountersOp
  try dsimp only
  with_reducible repeat' (first | assumption | apply reads_keeps | refine Keeps.of_pair (by assumption) ?_ | intro _)

theorem execFecPortCounters_keeps {c : Cmd} {s : State} (hk : Keeps cs s₀ s)
    (hm : ([.out, .bar0, .clerk, .tally] : List Comp) ⊆ cs := by first | decide | (refine List.Subset.trans ?_ ‹_ ⊆ _›; decide)) : AnsKeeps cs s₀ (execFecPortCounters c s) := by
  unfold execFecPortCounters
  try dsimp only
  with_reducible repeat' (first
    | assumption | exact List.Subset.trans (by decide) hm | apply AnsKeeps.next | apply serve_keeps
    | apply fecPortCountersOp_keeps | intro _)

theorem fecPoolStatusOp_keeps {c : Cmd} (hk : Keeps cs s₀ s) : Keeps cs s₀ (fecPoolStatusOp.effect c s).2 := by
  unfold fecPoolStatusOp
  try dsimp only
  with_reducible repeat' (first | assumption | apply reads_keeps | intro _)

theorem execFecPoolStatus_keeps {c : Cmd} {s : State} (hk : Keeps cs s₀ s)
    (hm : ([.out, .bar0, .clerk, .tally] : List Comp) ⊆ cs := by first | decide | (refine List.Subset.trans ?_ ‹_ ⊆ _›; decide)) : AnsKeeps cs s₀ (execFecPoolStatus c s) := by
  unfold execFecPoolStatus
  try dsimp only
  with_reducible repeat' (first
    | assumption | exact List.Subset.trans (by decide) hm | apply AnsKeeps.next | apply serve_keeps
    | apply fecPoolStatusOp_keeps | intro _)

theorem fecRegionCountersOp_keeps {c : Cmd} (hk : Keeps cs s₀ s) : Keeps cs s₀ (fecRegionCountersOp.effect c s).2 := by
  unfold fecRegionCountersOp
  try dsimp only
  with_reducible repeat' (first | assumption | apply reads_keeps | refine Keeps.of_pair (by assumption) ?_ | intro _)

theorem execFecRegionCounters_keeps {c : Cmd} {s : State} (hk : Keeps cs s₀ s)
    (hm : ([.out, .bar0, .clerk, .tally] : List Comp) ⊆ cs := by first | decide | (refine List.Subset.trans ?_ ‹_ ⊆ _›; decide)) : AnsKeeps cs s₀ (execFecRegionCounters c s) := by
  unfold execFecRegionCounters
  try dsimp only
  with_reducible repeat' (first
    | assumption | exact List.Subset.trans (by decide) hm | apply AnsKeeps.next | apply serve_keeps
    | apply fecRegionCountersOp_keeps | intro _)

theorem fecCodeReadOp_keeps {c : Cmd} (hk : Keeps cs s₀ s) : Keeps cs s₀ (fecCodeReadOp.effect c s).2 := by
  unfold fecCodeReadOp
  try dsimp only
  with_reducible repeat' (first | assumption | apply reads_keeps | refine Keeps.of_pair (by assumption) ?_ | intro _)

theorem execFecCodeRead_keeps {c : Cmd} {s : State} (hk : Keeps cs s₀ s)
    (hm : ([.out, .bar0, .clerk, .tally] : List Comp) ⊆ cs := by first | decide | (refine List.Subset.trans ?_ ‹_ ⊆ _›; decide)) : AnsKeeps cs s₀ (execFecCodeRead c s) := by
  unfold execFecCodeRead
  try dsimp only
  with_reducible repeat' (first
    | assumption | exact List.Subset.trans (by decide) hm | apply AnsKeeps.next | apply serve_keeps
    | apply fecCodeReadOp_keeps | intro _)

theorem fecInjectOp_keeps {c : Cmd} (hk : Keeps cs s₀ s)
    (hm : ([.fec] : List Comp) ⊆ cs := by first | decide | (refine List.Subset.trans ?_ ‹_ ⊆ _›; decide)) : Keeps cs s₀ (fecInjectOp.effect c s).2 := by
  unfold fecInjectOp
  try dsimp only
  with_reducible repeat' (first
    | assumption | exact List.Subset.trans (by decide) hm | apply sets_keeps | apply State.setFecp_keeps
    | refine Keeps.of_pair (by assumption) ?_ | intro _)

theorem execFecInject_keeps {c : Cmd} {s : State} (hk : Keeps cs s₀ s)
    (hm : ([.out, .bar0, .clerk, .tally, .fec] : List Comp) ⊆ cs := by first | decide | (refine List.Subset.trans ?_ ‹_ ⊆ _›; decide)) : AnsKeeps cs s₀ (execFecInject c s) := by
  unfold execFecInject
  try dsimp only
  with_reducible repeat' (first
    | assumption | exact List.Subset.trans (by decide) hm | apply AnsKeeps.next | apply serve_keeps | apply fecInjectOp_keeps
    | intro _)

theorem State.makeReady_keeps {p : Port} {span : Nat} {noGuard : Bool} {s : State} (hk : Keeps cs s₀ s)
    (hm : ([.tally, .fec] : List Comp) ⊆ cs := by first | decide | (refine List.Subset.trans ?_ ‹_ ⊆ _›; decide)) : Keeps cs s₀ (State.makeReady p span noGuard s) := by
  unfold State.makeReady
  try dsimp only
  with_reducible repeat' (first
    | assumption | exact List.Subset.trans (by decide) hm | apply Keeps.ite | apply withFec_keeps | apply State.tagEnter_keeps
    | refine Keeps.of_pair (by assumption) ?_ | intro _ | split)

theorem execDealTimeout_keeps {p : Port} {span : Nat} {s : State} (hk : Keeps cs s₀ s)
    (hm : ([.tally, .fec] : List Comp) ⊆ cs := by first | decide | (refine List.Subset.trans ?_ ‹_ ⊆ _›; decide)) : AnsKeeps cs s₀ (execDealTimeout p span s) := by
  unfold execDealTimeout
  try dsimp only
  with_reducible repeat' (first
    | assumption | exact List.Subset.trans (by decide) hm | apply AnsKeeps.next | apply happen_keeps
    | apply State.makeReady_keeps | refine Keeps.of_pair (by assumption) ?_ | intro _)

theorem State.zrRegion_keeps {p : Port} {from_ : Option (Nat × Nat)} {s : State} (hk : Keeps cs s₀ s)
    (hm : ([.fec] : List Comp) ⊆ cs := by first | decide | (refine List.Subset.trans ?_ ‹_ ⊆ _›; decide)) : Keeps cs s₀ (State.zrRegion p from_ s).2 := by
  unfold State.zrRegion
  dsimp only
  split
  · split
    · exact hk
    · split
      · exact State.setFecp_keeps hk
      · exact hk
  · split
    · exact State.setFecp_keeps hk
    · exact hk

theorem State.startDecode_keeps {h : HeldSpan} {r b : Nat} {s : State} (hk : Keeps cs s₀ s)
    (hm : ([.tally, .fec] : List Comp) ⊆ cs := by first | decide | (refine List.Subset.trans ?_ ‹_ ⊆ _›; decide)) : Keeps cs s₀ (State.startDecode h r b s) := by
  unfold State.startDecode
  try dsimp only
  with_reducible repeat' (first
    | assumption | exact List.Subset.trans (by decide) hm | apply Keeps.ite | apply State.setFecp_keeps | apply withFec_keeps
    | apply State.bump_keeps | apply State.tagExit_keeps | apply State.tagEnter_keeps
    | refine Keeps.of_pair (by assumption) ?_ | intro _ | split)

theorem execSpanDeal_keeps {s : State} (hk : Keeps cs s₀ s)
    (hm : ([.tally, .fec] : List Comp) ⊆ cs := by first | decide | (refine List.Subset.trans ?_ ‹_ ⊆ _›; decide)) : AnsKeeps cs s₀ (execSpanDeal s) := by
  unfold execSpanDeal
  try dsimp only
  with_reducible repeat' (first
    | assumption | exact List.Subset.trans (by decide) hm | apply Keeps.ite | apply AnsKeeps.ite | apply AnsKeeps.next
    | apply State.zrRegion_keeps | apply State.startDecode_keeps | refine Keeps.of_pair (by assumption) ?_ | intro _ | split)

theorem State.setDecode_keeps {d : Decode} {s : State} (hk : Keeps cs s₀ s)
    (hm : ([.fec] : List Comp) ⊆ cs := by first | decide | (refine List.Subset.trans ?_ ‹_ ⊆ _›; decide)) : Keeps cs s₀ (State.setDecode d s) := by
  unfold State.setDecode
  try dsimp only
  with_reducible repeat' (first
    | assumption | exact List.Subset.trans (by decide) hm | apply Keeps.ite | apply withFec_keeps | intro _ | split)

theorem State.dropDecode_keeps {p : Port} {span : Nat} {s : State} (hk : Keeps cs s₀ s)
    (hm : ([.fec] : List Comp) ⊆ cs := by first | decide | (refine List.Subset.trans ?_ ‹_ ⊆ _›; decide)) : Keeps cs s₀ (State.dropDecode p span s) := by
  unfold State.dropDecode
  try dsimp only
  with_reducible repeat' (first
    | assumption | exact List.Subset.trans (by decide) hm | apply withFec_keeps | refine Keeps.of_pair (by assumption) ?_
    | intro _)

theorem State.fecAcc_keeps {p : Port} {k n : Nat} {s : State} (hk : Keeps cs s₀ s)
    (hm : ([.fec] : List Comp) ⊆ cs := by first | decide | (refine List.Subset.trans ?_ ‹_ ⊆ _›; decide)) : Keeps cs s₀ (State.fecAcc p k n s) := by
  unfold State.fecAcc
  try dsimp only
  with_reducible repeat' (first
    | assumption | exact List.Subset.trans (by decide) hm | apply State.setFecp_keeps
    | refine Keeps.of_pair (by assumption) ?_ | intro _)

theorem State.freeSlot_keeps {d : Decode} {s : State} (hk : Keeps cs s₀ s)
    (hm : ([.tally, .fec] : List Comp) ⊆ cs := by first | decide | (refine List.Subset.trans ?_ ‹_ ⊆ _›; decide)) : Keeps cs s₀ (State.freeSlot d s) := by
  unfold State.freeSlot
  try dsimp only
  with_reducible repeat' (first
    | assumption | exact List.Subset.trans (by decide) hm | apply withFec_keeps | apply State.bump_keeps
    | refine Keeps.of_pair (by assumption) ?_ | intro _)

theorem State.completeDecode_keeps {d : Decode} {passed : Bool} {corrected bits : Nat} {s : State} (hk : Keeps cs s₀ s)
    (hm : ([.tally, .rw, .fec, .ra] : List Comp) ⊆ cs := by first | decide | (refine List.Subset.trans ?_ ‹_ ⊆ _›; decide)) : Keeps cs s₀ (State.completeDecode d passed corrected bits s) := by
  unfold State.completeDecode
  try dsimp only
  with_reducible repeat' (first
    | assumption | exact List.Subset.trans (by decide) hm | apply Keeps.ite | apply State.dropDecode_keeps
    | apply State.freeSlot_keeps | apply State.bump_keeps | apply State.slot_keeps | apply State.fecAcc_keeps
    | apply State.setFecp_keeps | apply State.setRw_keeps | apply State.tagExit_keeps | apply State.tagEnter_keeps
    | apply State.noteDecode_keeps | refine Keeps.of_pair (by assumption) ?_ | intro _ | split)

theorem State.giveUp_keeps {d : Decode} {s : State} (hk : Keeps cs s₀ s)
    (hm : ([.clerk, .hier, .tally, .rw, .fec, .ra] : List Comp) ⊆ cs := by first | decide | (refine List.Subset.trans ?_ ‹_ ⊆ _›; decide)) : Keeps cs s₀ (State.giveUp d s) := by
  unfold State.giveUp
  try dsimp only
  with_reducible repeat' (first
    | assumption | exact List.Subset.trans (by decide) hm | apply State.completeDecode_keeps | apply State.raise_keeps
    | apply State.noteErasure_keeps | refine Keeps.of_pair (by assumption) ?_ | intro _)

theorem State.moveDecode_keeps {d : Decode} {s : State} (hk : Keeps cs s₀ s)
    (hm : ([.tally, .fec] : List Comp) ⊆ cs := by first | decide | (refine List.Subset.trans ?_ ‹_ ⊆ _›; decide)) : Keeps cs s₀ (State.moveDecode d s) := by
  unfold State.moveDecode
  try dsimp only
  with_reducible repeat' (first
    | assumption | exact List.Subset.trans (by decide) hm | apply State.dropDecode_keeps | apply State.freeSlot_keeps
    | apply withFec_keeps | apply State.bump_keeps | refine Keeps.of_pair (by assumption) ?_ | intro _)

theorem State.decodeFault_keeps {d : Decode} {injected : Bool} {s : State} (hk : Keeps cs s₀ s)
    (hm : ([.clerk, .hier, .tally, .serv, .fec, .flow] : List Comp) ⊆ cs := by first | decide | (refine List.Subset.trans ?_ ‹_ ⊆ _›; decide)) : Keeps cs s₀ (State.decodeFault d injected s).2 := by
  unfold State.decodeFault
  try dsimp only
  with_reducible repeat' (first
    | assumption | exact List.Subset.trans (by decide) hm | apply Keeps.ite | apply Keeps.ite_snd | apply State.bump_keeps
    | apply State.fecAcc_keeps | apply State.blockSuspect_keeps | apply State.afterFault_keeps
    | refine Keeps.of_pair (by assumption) ?_ | intro _ | split)

theorem State.messageWord_keeps {d : Decode} {injected : Bool} {s : State} (hk : Keeps cs s₀ s)
    (hm : ([.clerk, .hier, .tally, .serv, .rw, .fec, .ra, .flow] : List Comp) ⊆ cs := by first | decide | (refine List.Subset.trans ?_ ‹_ ⊆ _›; decide)) : Keeps cs s₀ (State.messageWord d injected s) := by
  unfold State.messageWord
  try dsimp only
  with_reducible repeat' (first
    | assumption | exact List.Subset.trans (by decide) hm | apply Keeps.ite | apply State.decodeFault_keeps
    | apply State.giveUp_keeps | apply State.moveDecode_keeps | refine Keeps.of_pair (by assumption) ?_ | intro _ | split)

theorem execDecodeIterationEnd_keeps {p : Port} {span : Nat} {fault converged : Bool} {s : State} (hk : Keeps cs s₀ s)
    (hm : ([.clerk, .hier, .tally, .serv, .rw, .fec, .ra, .flow] : List Comp) ⊆ cs := by first | decide | (refine List.Subset.trans ?_ ‹_ ⊆ _›; decide)) : AnsKeeps cs s₀ (execDecodeIterationEnd p span fault converged s) := by
  unfold execDecodeIterationEnd
  try dsimp only
  with_reducible repeat' (first
    | assumption | exact List.Subset.trans (by decide) hm | apply Keeps.ite | apply AnsKeeps.ite | apply AnsKeeps.next
    | exact AnsKeeps.fault | apply happen_keeps | apply State.messageWord_keeps | apply State.decodeFault_keeps
    | apply State.bump_keeps | apply State.giveUp_keeps | apply State.moveDecode_keeps | apply State.setDecode_keeps
    | refine Keeps.of_pair (by assumption) ?_ | intro _ | split)

theorem execDecodeEnd_keeps {p : Port} {span corrected zrBits : Nat} {zrOk : Bool} {s : State} (hk : Keeps cs s₀ s)
    (hm : ([.tally, .rw, .fec, .ra] : List Comp) ⊆ cs := by first | decide | (refine List.Subset.trans ?_ ‹_ ⊆ _›; decide)) : AnsKeeps cs s₀ (execDecodeEnd p span corrected zrBits zrOk s) := by
  unfold execDecodeEnd
  try dsimp only
  with_reducible repeat' (first
    | assumption | exact List.Subset.trans (by decide) hm | apply Keeps.ite | apply AnsKeeps.ite | apply AnsKeeps.next
    | apply happen_keeps | apply State.completeDecode_keeps | refine Keeps.of_pair (by assumption) ?_ | intro _ | split)

theorem execMessageWordUncorrectable_keeps {p : Port} {span : Nat} {s : State} (hk : Keeps cs s₀ s)
    (hm : ([.clerk, .hier, .tally, .serv, .rw, .fec, .ra, .flow] : List Comp) ⊆ cs := by first | decide | (refine List.Subset.trans ?_ ‹_ ⊆ _›; decide)) : AnsKeeps cs s₀ (execMessageWordUncorrectable p span s) := by
  unfold execMessageWordUncorrectable
  try dsimp only
  with_reducible repeat' (first
    | assumption | exact List.Subset.trans (by decide) hm | apply AnsKeeps.next | apply happen_keeps
    | apply State.messageWord_keeps | refine Keeps.of_pair (by assumption) ?_ | intro _ | split)

theorem State.latchFec_keeps {p : Port} {s : State} (hk : Keeps cs s₀ s)
    (hm : ([.clerk, .hier, .tally, .fec] : List Comp) ⊆ cs := by first | decide | (refine List.Subset.trans ?_ ‹_ ⊆ _›; decide)) : Keeps cs s₀ (State.latchFec p s) := by
  unfold State.latchFec
  try dsimp only
  with_reducible repeat' (first
    | assumption | exact List.Subset.trans (by decide) hm | apply Keeps.ite | apply State.setFecp_keeps
    | apply State.raise_keeps | refine Keeps.of_pair (by assumption) ?_ | intro _ | split)

/-! ### Stripe.lean -/

theorem State.updStack_keeps {k : Nat} {f : Stack → Stack} {s : State} (hk : Keeps cs s₀ s)
    (hm : ([.store] : List Comp) ⊆ cs := by first | decide | (refine List.Subset.trans ?_ ‹_ ⊆ _›; decide)) : Keeps cs s₀ (State.updStack k f s) := by
  unfold State.updStack
  try dsimp only
  with_reducible repeat' (first
    | assumption | exact List.Subset.trans (by decide) hm | apply withStore_keeps
    | refine Keeps.store' (cs := cs) (s₀ := s₀) rfl ?_ | intro _)

theorem State.setPart_keeps {kind : Nat} {p : Part} {s : State} (hk : Keeps cs s₀ s)
    (hm : ([.store] : List Comp) ⊆ cs := by first | decide | (refine List.Subset.trans ?_ ‹_ ⊆ _›; decide)) : Keeps cs s₀ (State.setPart kind p s) := by
  unfold State.setPart
  try dsimp only
  with_reducible repeat' (first
    | assumption | exact List.Subset.trans (by decide) hm | apply withStore_keeps
    | refine Keeps.store' (cs := cs) (s₀ := s₀) rfl ?_ | refine Keeps.of_pair (by assumption) ?_ | intro _)

theorem Store.setCell_keeps {n k epoch : Nat} {bs : List Byte} {st : Store} (h : st.ok) : (st.setCell n k epoch bs).ok := by
  unfold Store.setCell Store.ok
  exact Memory.writeAll_wf bs _ h

theorem Store.remake_keeps {k n : Nat} {st : Store} (h : st.ok) : (st.remake k n).ok := Store.setCell_keeps h

theorem State.moveStack_keeps {k : Nat} {new : StackSt} {cause : Nat} {s : State} (hk : Keeps cs s₀ s)
    (hm : ([.clerk, .hier, .tally, .store] : List Comp) ⊆ cs := by first | decide | (refine List.Subset.trans ?_ ‹_ ⊆ _›; decide)) : Keeps cs s₀ (State.moveStack k new cause s) := by
  unfold State.moveStack
  try dsimp only
  with_reducible repeat' (first
    | assumption | exact List.Subset.trans (by decide) hm | apply Keeps.ite | apply State.updStack_keeps
    | apply State.raise_keeps | apply State.refreshHealth_keeps | refine Keeps.of_pair (by assumption) ?_ | intro _ | split)

theorem State.endRestore_keeps {status : Nat} {s : State} (hk : Keeps cs s₀ s)
    (hm : ([.free, .clerk, .hier, .tally, .store] : List Comp) ⊆ cs := by first | decide | (refine List.Subset.trans ?_ ‹_ ⊆ _›; decide)) : Keeps cs s₀ (State.endRestore status s) := by
  unfold State.endRestore
  try dsimp only
  with_reducible repeat' (first
    | assumption | exact List.Subset.trans (by decide) hm | apply Keeps.ite | apply State.take_keeps | apply withStore_keeps
    | apply State.bump_keeps | apply State.moveStack_keeps | apply State.endJob_keeps
    | refine Keeps.store' (cs := cs) (s₀ := s₀) rfl ?_ | refine Keeps.of_pair (by assumption) ?_ | intro _ | split)

theorem State.loseStack_keeps {k cause : Nat} {s : State} (hk : Keeps cs s₀ s)
    (hm : ([.free, .clerk, .hier, .tally, .store] : List Comp) ⊆ cs := by first | decide | (refine List.Subset.trans ?_ ‹_ ⊆ _›; decide)) : Keeps cs s₀ (State.loseStack k cause s) := by
  unfold State.loseStack
  try dsimp only
  with_reducible repeat' (first
    | assumption | exact List.Subset.trans (by decide) hm | apply Keeps.ite | apply State.bump_keeps
    | apply State.moveStack_keeps | apply State.endRestore_keeps | refine Keeps.of_pair (by assumption) ?_ | intro _ | split)

theorem State.granted_keeps {n : Nat} {s : State} (hk : Keeps cs s₀ s)
    (hm : ([.store] : List Comp) ⊆ cs := by first | decide | (refine List.Subset.trans ?_ ‹_ ⊆ _›; decide)) : Keeps cs s₀ (State.granted n s) := by
  unfold State.granted
  try dsimp only
  with_reducible repeat' (first
    | assumption | exact List.Subset.trans (by decide) hm | apply withStore_keeps
    | refine Keeps.store' (cs := cs) (s₀ := s₀) rfl ?_ | refine Keeps.of_pair (by assumption) ?_ | intro _)

theorem State.logStripe_keeps {n : Nat} {s : State} (hk : Keeps cs s₀ s)
    (hm : ([.free, .clerk, .hier, .tally, .store] : List Comp) ⊆ cs := by first | decide | (refine List.Subset.trans ?_ ‹_ ⊆ _›; decide)) : Keeps cs s₀ (State.logStripe n s) := by
  unfold State.logStripe
  try dsimp only
  with_reducible repeat' (first
    | assumption | exact List.Subset.trans (by decide) hm | apply Keeps.ite | apply State.updStack_keeps
    | apply State.loseStack_keeps | apply foldl_keeps | refine Keeps.of_pair (by assumption) ?_ | intro _ | split)

theorem State.writeStripe_keeps {n epoch : Nat} {data : List Byte} {s : State} (hk : Keeps cs s₀ s)
    (hm : ([.free, .clerk, .hier, .tally, .store] : List Comp) ⊆ cs := by first | decide | (refine List.Subset.trans ?_ ‹_ ⊆ _›; decide)) : Keeps cs s₀ (State.writeStripe n epoch data s) := by
  unfold State.writeStripe
  split
  · exact hk
  · dsimp only
    refine State.logStripe_keeps (withStore_keeps hk ?_)
    exact fun j => foldl_store (fun st k h => Store.setCell_keeps h) _ (hk.store j)

theorem State.uncorrectable_keeps {kind n : Nat} {s : State} (hk : Keeps cs s₀ s)
    (hm : ([.clerk, .hier, .tally] : List Comp) ⊆ cs := by first | decide | (refine List.Subset.trans ?_ ‹_ ⊆ _›; decide)) : Keeps cs s₀ (State.uncorrectable kind n s) := by
  unfold State.uncorrectable
  try dsimp only
  with_reducible repeat' (first
    | assumption | exact List.Subset.trans (by decide) hm | apply State.bump_keeps | apply State.raiseAtMost_keeps
    | refine Keeps.of_pair (by assumption) ?_ | intro _)

theorem State.noteRebuild_keeps {k n : Nat} {s : State} (hk : Keeps cs s₀ s)
    (hm : ([.clerk, .hier, .tally, .store] : List Comp) ⊆ cs := by first | decide | (refine List.Subset.trans ?_ ‹_ ⊆ _›; decide)) : Keeps cs s₀ (State.noteRebuild k n s) := by
  unfold State.noteRebuild
  try dsimp only
  with_reducible repeat' (first
    | assumption | exact List.Subset.trans (by decide) hm | apply Keeps.ite | apply State.updStack_keeps
    | apply withStore_keeps | apply State.bump_keeps | apply State.raiseAtMost_keeps
    | refine Keeps.store' (cs := cs) (s₀ := s₀) rfl ?_ | refine Keeps.of_pair (by assumption) ?_ | intro _ | split)

theorem State.judgeStripe_keeps {kind n epoch : Nat} {bad : List Nat} {s : State} (hk : Keeps cs s₀ s)
    (hm : ([.clerk, .hier, .tally, .store] : List Comp) ⊆ cs := by first | decide | (refine List.Subset.trans ?_ ‹_ ⊆ _›; decide)) : Keeps cs s₀ (State.judgeStripe kind n epoch bad s).2 := by
  unfold State.judgeStripe
  try dsimp only
  with_reducible repeat' (first
    | assumption | exact List.Subset.trans (by decide) hm | apply Keeps.ite | apply Keeps.ite_snd | apply withStore_keeps
    | apply State.updStack_keeps | apply State.bump_keeps | apply State.uncorrectable_keeps | apply State.noteRebuild_keeps
    | apply foldl_keeps | refine Keeps.store' (cs := cs) (s₀ := s₀) rfl ?_ | refine Keeps.of_pair (by assumption) ?_ | intro _
    | split)

theorem State.readStripe_keeps {kind n : Nat} {bad : List Nat} {s : State} (hk : Keeps cs s₀ s)
    (hm : ([.clerk, .hier, .tally, .store] : List Comp) ⊆ cs := by first | decide | (refine List.Subset.trans ?_ ‹_ ⊆ _›; decide)) : Keeps cs s₀ (State.readStripe kind n bad s).2 := by
  unfold State.readStripe
  try dsimp only
  with_reducible repeat' (first
    | assumption | exact List.Subset.trans (by decide) hm | apply Keeps.ite | apply Keeps.ite_snd | apply State.bump_keeps
    | apply withStore_keeps | apply State.granted_keeps | apply State.judgeStripe_keeps
    | refine Keeps.store' (cs := cs) (s₀ := s₀) rfl ?_ | refine Keeps.of_pair (by assumption) ?_ | intro _ | split)

theorem State.mergeStripe_keeps {kind n : Nat} {bad : List Nat} {f : List Byte → List Byte} {s : State} (hk : Keeps cs s₀ s)
    (hm : ([.free, .clerk, .hier, .tally, .store] : List Comp) ⊆ cs := by first | decide | (refine List.Subset.trans ?_ ‹_ ⊆ _›; decide)) : Keeps cs s₀ (State.mergeStripe kind n bad f s).2 := by
  unfold State.mergeStripe
  try dsimp only
  with_reducible repeat' (first
    | assumption | exact List.Subset.trans (by decide) hm | apply State.bump_keeps | apply State.granted_keeps
    | apply State.judgeStripe_keeps | apply State.writeStripe_keeps | refine Keeps.of_pair (by assumption) ?_ | intro _
    | split)

theorem State.refreshFull_keeps {kind : Nat} {s : State} (hk : Keeps cs s₀ s)
    (hm : ([.clerk, .hier, .tally, .store] : List Comp) ⊆ cs := by first | decide | (refine List.Subset.trans ?_ ‹_ ⊆ _›; decide)) : Keeps cs s₀ (State.refreshFull kind s) := by
  unfold State.refreshFull
  try dsimp only
  with_reducible repeat' (first
    | assumption | exact List.Subset.trans (by decide) hm | apply Keeps.ite | apply State.setPart_keeps
    | apply State.raiseAtMost_keeps | refine Keeps.of_pair (by assumption) ?_ | intro _ | split)

theorem State.commitStripe_keeps {kind n : Nat} {data : List Byte} {s : State} (hk : Keeps cs s₀ s)
    (hm : ([.free, .clerk, .hier, .tally, .store] : List Comp) ⊆ cs := by first | decide | (refine List.Subset.trans ?_ ‹_ ⊆ _›; decide)) : Keeps cs s₀ (State.commitStripe kind n data s) := by
  unfold State.commitStripe
  try dsimp only
  with_reducible repeat' (first
    | assumption | exact List.Subset.trans (by decide) hm | apply State.setPart_keeps | apply State.bump_keeps
    | apply State.granted_keeps | apply State.writeStripe_keeps | refine Keeps.of_pair (by assumption) ?_ | intro _ | split)

theorem State.dropSkew_keeps {port tick : Nat} {s : State} (hk : Keeps cs s₀ s)
    (hm : ([.loom, .store] : List Comp) ⊆ cs := by first | decide | (refine List.Subset.trans ?_ ‹_ ⊆ _›; decide)) : Keeps cs s₀ (State.dropSkew port tick s) := by
  unfold State.dropSkew
  try dsimp only
  with_reducible repeat' (first
    | assumption | exact List.Subset.trans (by decide) hm | apply Keeps.ite | apply State.updLp_keeps | apply withStore_keeps
    | refine Keeps.store' (cs := cs) (s₀ := s₀) rfl ?_ | refine Keeps.of_pair (by assumption) ?_ | intro _ | split)

theorem State.unitIn_keeps {kind : Nat} {u : HeldUnit} {s : State} (hk : Keeps cs s₀ s)
    (hm : ([.free, .clerk, .hier, .tally, .store] : List Comp) ⊆ cs := by first | decide | (refine List.Subset.trans ?_ ‹_ ⊆ _›; decide)) : Keeps cs s₀ (State.unitIn kind u s).2 := by
  unfold State.unitIn
  try dsimp only
  with_reducible repeat' (first
    | assumption | exact List.Subset.trans (by decide) hm | apply Keeps.ite | apply Keeps.ite_snd | apply State.bump_keeps
    | apply State.setPart_keeps | apply State.commitStripe_keeps | apply State.refreshFull_keeps
    | refine Keeps.of_pair (by assumption) ?_ | intro _ | split)

theorem serveHeld_keeps {kind : Nat} (hm : ([.free, .clerk, .hier, .tally, .store] : List Comp) ⊆ cs) : ∀ {l : List HeldUnit} {s : State}, Keeps cs s₀ s → Keeps cs s₀ (serveHeld kind l s).2 := by
  intro l
  induction l with
  | nil => intro s h; exact h
  | cons u r ih =>
    intro s h
    unfold serveHeld
    split
    · exact ih (State.commitStripe_keeps (State.setPart_keeps h))
    · exact State.bump_keeps (State.setPart_keeps h)
    · exact h

theorem State.serveWriter_keeps {kind : Nat} {s : State} (hk : Keeps cs s₀ s)
    (hm : ([.free, .clerk, .hier, .tally, .store] : List Comp) ⊆ cs := by first | decide | (refine List.Subset.trans ?_ ‹_ ⊆ _›; decide)) : Keeps cs s₀ (State.serveWriter kind s).2 := by
  unfold State.serveWriter
  try dsimp only
  with_reducible repeat' (first
    | assumption | exact List.Subset.trans (by decide) hm | apply Keeps.ite | apply Keeps.ite_snd | apply serveHeld_keeps
    | apply State.setPart_keeps | apply State.refreshFull_keeps | refine Keeps.of_pair (by assumption) ?_ | intro _ | split)

theorem State.freeStripe_keeps {kind n : Nat} {s : State} (hk : Keeps cs s₀ s)
    (hm : ([.free, .clerk, .hier, .tally, .store] : List Comp) ⊆ cs := by first | decide | (refine List.Subset.trans ?_ ‹_ ⊆ _›; decide)) : Keeps cs s₀ (State.freeStripe kind n s).2 := by
  unfold State.freeStripe
  try dsimp only
  with_reducible repeat' (first
    | assumption | exact List.Subset.trans (by decide) hm | apply State.setPart_keeps | apply State.serveWriter_keeps
    | refine Keeps.of_pair (by assumption) ?_ | intro _ | split)

/-! ### Flows.lean -/

theorem State.updFi_keeps {i : Nat} {f : FlowIface → FlowIface} {s : State} (hk : Keeps cs s₀ s)
    (hm : ([.flow] : List Comp) ⊆ cs := by first | decide | (refine List.Subset.trans ?_ ‹_ ⊆ _›; decide)) : Keeps cs s₀ (State.updFi i f s) := by
  unfold State.updFi
  try dsimp only
  with_reducible repeat' (first | assumption | exact List.Subset.trans (by decide) hm | apply withFlow_keeps | intro _)

theorem State.setTxFlow_keeps {f : Nat} {v : TxFlow} {s : State} (hk : Keeps cs s₀ s)
    (hm : ([.flow] : List Comp) ⊆ cs := by first | decide | (refine List.Subset.trans ?_ ‹_ ⊆ _›; decide)) : Keeps cs s₀ (State.setTxFlow f v s) := by
  unfold State.setTxFlow
  try dsimp only
  with_reducible repeat' (first
    | assumption | exact List.Subset.trans (by decide) hm | apply withFlow_keeps | refine Keeps.of_pair (by assumption) ?_
    | intro _)

theorem State.setTxCtx_keeps {c : Nat} {v : TxCtx} {s : State} (hk : Keeps cs s₀ s)
    (hm : ([.flow] : List Comp) ⊆ cs := by first | decide | (refine List.Subset.trans ?_ ‹_ ⊆ _›; decide)) : Keeps cs s₀ (State.setTxCtx c v s) := by
  unfold State.setTxCtx
  try dsimp only
  with_reducible repeat' (first | assumption | exact List.Subset.trans (by decide) hm | apply withFlow_keeps | intro _)

theorem State.setRxCtx_keeps {c : Nat} {v : RxCtx} {s : State} (hk : Keeps cs s₀ s)
    (hm : ([.flow] : List Comp) ⊆ cs := by first | decide | (refine List.Subset.trans ?_ ‹_ ⊆ _›; decide)) : Keeps cs s₀ (State.setRxCtx c v s) := by
  unfold State.setRxCtx
  try dsimp only
  with_reducible repeat' (first | assumption | exact List.Subset.trans (by decide) hm | apply withFlow_keeps | intro _)

theorem State.nextOrder_keeps {s : State} (hk : Keeps cs s₀ s)
    (hm : ([.flow] : List Comp) ⊆ cs := by first | decide | (refine List.Subset.trans ?_ ‹_ ⊆ _›; decide)) : Keeps cs s₀ (State.nextOrder s) := by
  unfold State.nextOrder
  try dsimp only
  with_reducible repeat' (first | assumption | exact List.Subset.trans (by decide) hm | apply withFlow_keeps | intro _)

theorem State.ingressDrop_keeps {i cause : Nat} {s : State} (hk : Keeps cs s₀ s)
    (hm : ([.clerk, .hier, .tally] : List Comp) ⊆ cs := by first | decide | (refine List.Subset.trans ?_ ‹_ ⊆ _›; decide)) : Keeps cs s₀ (State.ingressDrop i cause s) := by
  unfold State.ingressDrop
  try dsimp only
  with_reducible repeat' (first
    | assumption | exact List.Subset.trans (by decide) hm | apply State.bump_keeps | apply State.raiseLimited_keeps
    | refine Keeps.of_pair (by assumption) ?_ | intro _)

theorem State.egressDrop_keeps {i : Option Nat} {s : State} (hk : Keeps cs s₀ s)
    (hm : ([.clerk, .hier, .tally] : List Comp) ⊆ cs := by first | decide | (refine List.Subset.trans ?_ ‹_ ⊆ _›; decide)) : Keeps cs s₀ (State.egressDrop i s) := by
  unfold State.egressDrop
  try dsimp only
  with_reducible repeat' (first
    | assumption | exact List.Subset.trans (by decide) hm | apply State.bump_keeps | apply State.raiseLimited_keeps
    | refine Keeps.of_pair (by assumption) ?_ | intro _ | split)

theorem State.txDropped_keeps {f n : Nat} {s : State} (hk : Keeps cs s₀ s)
    (hm : ([.tally] : List Comp) ⊆ cs := by first | decide | (refine List.Subset.trans ?_ ‹_ ⊆ _›; decide)) : Keeps cs s₀ (State.txDropped f n s) := by
  unfold State.txDropped
  try dsimp only
  with_reducible repeat' (first
    | assumption | exact List.Subset.trans (by decide) hm | apply State.bump_keeps | refine Keeps.of_pair (by assumption) ?_
    | intro _)

theorem State.commitSeg_keeps {u : HeldUnit} {n : Nat} {s : State} (hk : Keeps cs s₀ s)
    (hm : ([.flow] : List Comp) ⊆ cs := by first | decide | (refine List.Subset.trans ?_ ‹_ ⊆ _›; decide)) : Keeps cs s₀ (State.commitSeg u n s) := by
  unfold State.commitSeg
  try dsimp only
  with_reducible repeat' (first
    | assumption | exact List.Subset.trans (by decide) hm | apply State.setTxFlow_keeps
    | refine Keeps.of_pair (by assumption) ?_ | intro _ | split)

theorem freeQueue_keeps (hm : ([.free, .clerk, .hier, .tally, .store, .flow] : List Comp) ⊆ cs) : ∀ {l : List Nat} {s : State}, Keeps cs s₀ s → Keeps cs s₀ (freeQueue l s) := by
  intro l
  induction l with
  | nil => intro s h; exact h
  | cons n r ih =>
    intro s h
    unfold freeQueue
    exact ih (foldl_keeps (fun s w h => State.commitSeg_keeps h) _ (State.freeStripe_keeps h))

theorem State.trim_keeps {f : Nat} {s : State} (hk : Keeps cs s₀ s)
    (hm : ([.free, .clerk, .hier, .tally, .store, .flow] : List Comp) ⊆ cs := by first | decide | (refine List.Subset.trans ?_ ‹_ ⊆ _›; decide)) : Keeps cs s₀ (State.trim f s) := by
  unfold State.trim
  try dsimp only
  with_reducible repeat' (first
    | assumption | exact List.Subset.trans (by decide) hm | apply freeQueue_keeps | apply State.setTxFlow_keeps
    | refine Keeps.of_pair (by assumption) ?_ | intro _ | split)

theorem State.idle_keeps {f : Nat} {s : State} (hk : Keeps cs s₀ s)
    (hm : ([.flow] : List Comp) ⊆ cs := by first | decide | (refine List.Subset.trans ?_ ‹_ ⊆ _›; decide)) : Keeps cs s₀ (State.idle f s) := by
  unfold State.idle
  try dsimp only
  with_reducible repeat' (first
    | assumption | exact List.Subset.trans (by decide) hm | apply State.setTxFlow_keeps | apply State.updTxThread_keeps
    | refine Keeps.of_pair (by assumption) ?_ | intro _ | split)

theorem State.dropQueue_keeps {f : Nat} {s : State} (hk : Keeps cs s₀ s)
    (hm : ([.free, .clerk, .hier, .tally, .store, .flow] : List Comp) ⊆ cs := by first | decide | (refine List.Subset.trans ?_ ‹_ ⊆ _›; decide)) : Keeps cs s₀ (State.dropQueue f s) := by
  unfold State.dropQueue
  try dsimp only
  with_reducible repeat' (first
    | assumption | exact List.Subset.trans (by decide) hm | apply State.txDropped_keeps | apply State.setTxFlow_keeps
    | apply State.idle_keeps | apply State.setPart_keeps | apply freeQueue_keeps | refine Keeps.of_pair (by assumption) ?_
    | intro _ | split)

theorem State.dropSeg_keeps {f : Nat} {which : SegSt} {s : State} (hk : Keeps cs s₀ s)
    (hm : ([.free, .clerk, .hier, .tally, .store, .flow] : List Comp) ⊆ cs := by first | decide | (refine List.Subset.trans ?_ ‹_ ⊆ _›; decide)) : Keeps cs s₀ (State.dropSeg f which s) := by
  unfold State.dropSeg
  try dsimp only
  with_reducible repeat' (first
    | assumption | exact List.Subset.trans (by decide) hm | apply Keeps.ite | apply State.txDropped_keeps
    | apply State.setTxFlow_keeps | apply State.trim_keeps | apply State.idle_keeps | refine Keeps.of_pair (by assumption) ?_
    | intro _ | split)

theorem State.loseRecord_keeps {f : Nat} {s : State} (hk : Keeps cs s₀ s)
    (hm : ([.free, .clerk, .hier, .tally, .store, .flow] : List Comp) ⊆ cs := by first | decide | (refine List.Subset.trans ?_ ‹_ ⊆ _›; decide)) : Keeps cs s₀ (State.loseRecord f s) := by
  unfold State.loseRecord
  try dsimp only
  with_reducible repeat' (first
    | assumption | exact List.Subset.trans (by decide) hm | apply State.dropQueue_keeps | apply withFlow_keeps | intro _)

theorem State.loseZeroed_keeps {own : Nat} {zeroed : List Nat} {s : State} (hk : Keeps cs s₀ s)
    (hm : ([.free, .clerk, .hier, .tally, .store, .flow] : List Comp) ⊆ cs := by first | decide | (refine List.Subset.trans ?_ ‹_ ⊆ _›; decide)) : Keeps cs s₀ (State.loseZeroed own zeroed s) := by
  unfold State.loseZeroed
  try dsimp only
  with_reducible repeat' (first
    | assumption | exact List.Subset.trans (by decide) hm | apply Keeps.ite | apply State.loseRecord_keeps | apply foldl_keeps
    | refine Keeps.of_pair (by assumption) ?_ | intro _ | split)

theorem State.writeBack_keeps {f : Nat} {s : State} (hk : Keeps cs s₀ s)
    (hm : ([.free, .clerk, .hier, .tally, .store, .flow] : List Comp) ⊆ cs := by first | decide | (refine List.Subset.trans ?_ ‹_ ⊆ _›; decide)) : Keeps cs s₀ (State.writeBack f s) := by
  unfold State.writeBack
  try dsimp only
  with_reducible repeat' (first
    | assumption | exact List.Subset.trans (by decide) hm | apply Keeps.ite | apply withFree_keeps
    | apply State.mergeStripe_keeps | apply State.loseRecord_keeps | apply State.loseZeroed_keeps
    | refine Keeps.of_pair (by assumption) ?_ | intro _ | split)

theorem State.useRecord_keeps {f : Nat} {s : State} (hk : Keeps cs s₀ s)
    (hm : ([.free, .clerk, .hier, .tally, .store, .flow] : List Comp) ⊆ cs := by first | decide | (refine List.Subset.trans ?_ ‹_ ⊆ _›; decide)) : Keeps cs s₀ (State.useRecord f s) := by
  unfold State.useRecord
  try dsimp only
  with_reducible repeat' (first
    | assumption | exact List.Subset.trans (by decide) hm | apply Keeps.ite | apply withFlow_keeps
    | apply State.writeBack_keeps | refine Keeps.of_pair (by assumption) ?_ | intro _ | split)

theorem State.pack_keeps {m : TxMsg} {region : Nat} {x : TxFlow} {s : State} (hk : Keeps cs s₀ s)
    (hm : ([.tally, .flow] : List Comp) ⊆ cs := by first | decide | (refine List.Subset.trans ?_ ‹_ ⊆ _›; decide)) : Keeps cs s₀ (State.pack m region x s) := by
  unfold State.pack
  try dsimp only
  with_reducible repeat' (first
    | assumption | exact List.Subset.trans (by decide) hm | apply Keeps.ite | apply State.nextOrder_keeps
    | apply State.setTxFlow_keeps | apply State.updTxThread_keeps | apply State.bump_keeps
    | refine Keeps.of_pair (by assumption) ?_ | intro _ | split)

theorem State.packOne_keeps {m : TxMsg} {s t : State} (hk : Keeps cs s₀ s) (e : s.packOne m = some t)
    (hm : ([.tally, .flow] : List Comp) ⊆ cs := by first | decide | (refine List.Subset.trans ?_ ‹_ ⊆ _›; decide)) : Keeps cs s₀ t := by
  unfold State.packOne at e
  split at e
  · cases e; exact State.txDropped_keeps hk
  · split at e
    · cases e; exact State.pack_keeps hk
    · split at e
      · cases e; exact State.pack_keeps hk
      · cases e
    · cases e

theorem packList_keeps (hm : ([.tally, .flow] : List Comp) ⊆ cs) : ∀ {l kept : List TxMsg} {s : State}, Keeps cs s₀ s → Keeps cs s₀ (packList l kept s) := by
  intro l
  induction l with
  | nil => intro kept s h; exact withFlow_keeps h
  | cons m r ih =>
    intro kept s h
    unfold packList
    split
    · split
      · exact ih (State.packOne_keeps h (by assumption))
      · exact ih h
    · exact ih h

theorem State.packDone_keeps {s : State} (hk : Keeps cs s₀ s)
    (hm : ([.tally, .flow] : List Comp) ⊆ cs := by first | decide | (refine List.Subset.trans ?_ ‹_ ⊆ _›; decide)) : Keeps cs s₀ (State.packDone s) := by
  unfold State.packDone
  try dsimp only
  with_reducible repeat' (first | assumption | exact List.Subset.trans (by decide) hm | apply packList_keeps | intro _)

theorem State.dealTo_keeps {r : Nat} {s : State} (hk : Keeps cs s₀ s)
    (hm : ([.flow] : List Comp) ⊆ cs := by first | decide | (refine List.Subset.trans ?_ ‹_ ⊆ _›; decide)) : Keeps cs s₀ (State.dealTo r s) := by
  unfold State.dealTo
  try dsimp only
  with_reducible repeat' (first
    | assumption | exact List.Subset.trans (by decide) hm | apply withFlow_keeps | refine Keeps.of_pair (by assumption) ?_
    | intro _)

theorem State.exhaust_keeps {c : Nat} {s : State} (hk : Keeps cs s₀ s)
    (hm : ([.clerk, .hier, .tally, .flow] : List Comp) ⊆ cs := by first | decide | (refine List.Subset.trans ?_ ‹_ ⊆ _›; decide)) : Keeps cs s₀ (State.exhaust c s) := by
  unfold State.exhaust
  try dsimp only
  with_reducible repeat' (first
    | assumption | exact List.Subset.trans (by decide) hm | apply Keeps.ite | apply State.setTxCtx_keeps
    | apply State.bump_keeps | apply State.raise_keeps | refine Keeps.of_pair (by assumption) ?_ | intro _ | split)

theorem State.takeKey_keeps {c : Nat} {s : State} (hk : Keeps cs s₀ s)
    (hm : ([.clerk, .hier, .tally, .flow] : List Comp) ⊆ cs := by first | decide | (refine List.Subset.trans ?_ ‹_ ⊆ _›; decide)) : Keeps cs s₀ (State.takeKey c s).2 := by
  unfold State.takeKey
  dsimp only
  split
  · exact hk
  · split
    · exact State.exhaust_keeps hk
    · exact State.setTxCtx_keeps hk

theorem State.takeFrame_keeps {i : Nat} {fr : InFrame} {s t : State} (hk : Keeps cs s₀ s) (e : s.takeFrame i fr = some t)
    (hm : ([.free, .clerk, .hier, .tally, .store, .flow] : List Comp) ⊆ cs := by first | decide | (refine List.Subset.trans ?_ ‹_ ⊆ _›; decide)) : Keeps cs s₀ t := by
  have hu : ∀ n, Keeps cs s₀ (s.useRecord n) := fun n => State.useRecord_keeps hk
  unfold State.takeFrame at e
  split at e
  · cases e
  · split at e
    · cases e; exact State.ingressDrop_keeps (hu _)
    · split at e
      · cases e
      · split at e
        · cases e
        · dsimp only at e
          have h1 : Keeps cs s₀ ((s.useRecord fr.flow).bump (flowCtr 0) 1) := State.bump_keeps (hu _)
          split at e
          · cases e; exact State.packDone_keeps (withFlow_keeps h1)
          · split at e
            · cases e
            · split at e
              · cases e
              · split at e
                · cases e; exact State.txDropped_keeps (State.takeKey_keeps (State.useRecord_keeps h1))
                · cases e; exact State.dealTo_keeps (withFlow_keeps (State.takeKey_keeps (State.useRecord_keeps h1)))

theorem runIngress_keeps {i : Nat} (hm : ([.free, .clerk, .hier, .tally, .store, .flow] : List Comp) ⊆ cs) : ∀ {l : List InFrame} {s : State}, Keeps cs s₀ s → Keeps cs s₀ (runIngress i l s) := by
  intro l
  induction l with
  | nil => intro s h; exact State.updFi_keeps h
  | cons fr r ih =>
    intro s h
    unfold runIngress
    split
    · exact ih (State.takeFrame_keeps h (by assumption))
    · exact State.updFi_keeps h

theorem State.runAll_keeps {s : State} (hk : Keeps cs s₀ s)
    (hm : ([.free, .clerk, .hier, .tally, .store, .flow] : List Comp) ⊆ cs := by first | decide | (refine List.Subset.trans ?_ ‹_ ⊆ _›; decide)) : Keeps cs s₀ (State.runAll s) := by
  unfold State.runAll
  try dsimp only
  with_reducible repeat' (first
    | assumption | exact List.Subset.trans (by decide) hm | apply runIngress_keeps | apply foldl_keeps
    | refine Keeps.of_pair (by assumption) ?_ | intro _)

theorem State.resolve_keeps {m : RxMsg} {s : State} (hk : Keeps cs s₀ s)
    (hm : ([.free, .clerk, .hier, .tally, .store, .flow] : List Comp) ⊆ cs := by first | decide | (refine List.Subset.trans ?_ ‹_ ⊆ _›; decide)) : Keeps cs s₀ (State.resolve m s).2 := by
  unfold State.resolve
  try dsimp only
  with_reducible repeat' (first
    | assumption | exact List.Subset.trans (by decide) hm | apply Keeps.ite | apply Keeps.ite_snd
    | apply State.useRecord_keeps | apply State.egressDrop_keeps | apply State.bump_keeps | apply State.dealTo_keeps
    | refine Keeps.of_pair (by assumption) ?_ | intro _ | split)

theorem resolveList_keeps (hm : ([.free, .clerk, .hier, .tally, .store, .flow] : List Comp) ⊆ cs) : ∀ {l kept : List RxMsg} {s : State}, Keeps cs s₀ s → Keeps cs s₀ (resolveList l kept s) := by
  intro l
  induction l with
  | nil => intro kept s h; exact withFlow_keeps h
  | cons m r ih =>
    intro kept s h
    unfold resolveList
    dsimp only
    split
    · exact ih (State.resolve_keeps (withFlow_keeps h))
    · exact ih h

theorem State.resolveAll_keeps {s : State} (hk : Keeps cs s₀ s)
    (hm : ([.free, .clerk, .hier, .tally, .store, .flow] : List Comp) ⊆ cs := by first | decide | (refine List.Subset.trans ?_ ‹_ ⊆ _›; decide)) : Keeps cs s₀ (State.resolveAll s) := by
  unfold State.resolveAll
  try dsimp only
  with_reducible repeat' (first | assumption | exact List.Subset.trans (by decide) hm | apply resolveList_keeps | intro _)

theorem State.takeRx_keeps {m : RxMsg} {s : State} (hk : Keeps cs s₀ s)
    (hm : ([.free, .clerk, .hier, .tally, .store, .flow] : List Comp) ⊆ cs := by first | decide | (refine List.Subset.trans ?_ ‹_ ⊆ _›; decide)) : Keeps cs s₀ (State.takeRx m s) := by
  unfold State.takeRx
  try dsimp only
  with_reducible repeat' (first
    | assumption | exact List.Subset.trans (by decide) hm | apply withFlow_keeps | apply State.resolveAll_keeps
    | refine Keeps.of_pair (by assumption) ?_ | intro _)

theorem State.takeSegment_keeps {t tick : Nat} {bytes : List Byte} {s : State} (hk : Keeps cs s₀ s)
    (hm : ([.free, .clerk, .hier, .tally, .store, .flow] : List Comp) ⊆ cs := by first | decide | (refine List.Subset.trans ?_ ‹_ ⊆ _›; decide)) : Keeps cs s₀ (State.takeSegment t tick bytes s) := by
  unfold State.takeSegment
  try dsimp only
  with_reducible repeat' (first
    | assumption | exact List.Subset.trans (by decide) hm | apply Keeps.ite | apply State.takeRx_keeps
    | apply State.updRxThread_keeps | refine Keeps.of_pair (by assumption) ?_ | intro _ | split)

theorem State.takeSegments_keeps {b tick : Nat} {segs : List (Nat × List Byte)} {s : State} (hk : Keeps cs s₀ s)
    (hm : ([.free, .clerk, .hier, .tally, .store, .flow] : List Comp) ⊆ cs := by first | decide | (refine List.Subset.trans ?_ ‹_ ⊆ _›; decide)) : Keeps cs s₀ (State.takeSegments b tick segs s) := by
  unfold State.takeSegments
  try dsimp only
  with_reducible repeat' (first
    | assumption | exact List.Subset.trans (by decide) hm | apply Keeps.ite | apply State.updRxThread_keeps
    | apply State.takeSegment_keeps | apply foldl_keeps | refine Keeps.of_pair (by assumption) ?_ | intro _ | split)

/-! ### Lanes.lean -/

theorem State.updCl_keeps {g : Fin 2} {l : Nat} {f : ClientLane → ClientLane} {s : State} (hk : Keeps cs s₀ s)
    (hm : ([.lanes] : List Comp) ⊆ cs := by first | decide | (refine List.Subset.trans ?_ ‹_ ⊆ _›; decide)) : Keeps cs s₀ (State.updCl g l f s) := by
  unfold State.updCl
  try dsimp only
  with_reducible repeat' (first | assumption | exact List.Subset.trans (by decide) hm | apply withLanes_keeps | intro _)

theorem State.setIfaceUp_keeps {i : Nat} {x : LaneIface} {up : Bool} {s : State} (hk : Keeps cs s₀ s)
    (hm : ([.flow, .lanes] : List Comp) ⊆ cs := by first | decide | (refine List.Subset.trans ?_ ‹_ ⊆ _›; decide)) : Keeps cs s₀ (State.setIfaceUp i x up s) := by
  unfold State.setIfaceUp
  try dsimp only
  with_reducible repeat' (first
    | assumption | exact List.Subset.trans (by decide) hm | apply Keeps.ite | apply State.updFi_keeps | apply withLanes_keeps
    | refine Keeps.of_pair (by assumption) ?_ | intro _ | split)

theorem evIface_keeps {i : Nat} {up : Bool} {cause : Nat} {s : State} (hk : Keeps cs s₀ s)
    (hm : ([.clerk, .hier, .tally] : List Comp) ⊆ cs := by first | decide | (refine List.Subset.trans ?_ ‹_ ⊆ _›; decide)) : Keeps cs s₀ (evIface i up cause s) := by
  unfold evIface
  try dsimp only
  with_reducible repeat' (first
    | assumption | exact List.Subset.trans (by decide) hm | apply Keeps.ite | apply State.raise_keeps
    | refine Keeps.of_pair (by assumption) ?_ | intro _ | split)

theorem State.updHl_keeps {l : Nat} {f : HostLane → HostLane} {s : State} (hk : Keeps cs s₀ s)
    (hm : ([.lanes] : List Comp) ⊆ cs := by first | decide | (refine List.Subset.trans ?_ ‹_ ⊆ _›; decide)) : Keeps cs s₀ (State.updHl l f s) := by
  unfold State.updHl
  try dsimp only
  with_reducible repeat' (first | assumption | exact List.Subset.trans (by decide) hm | apply withLanes_keeps | intro _)

theorem State.refreshIface_keeps {i cause : Nat} {s : State} (hk : Keeps cs s₀ s)
    (hm : ([.clerk, .hier, .tally, .flow, .lanes] : List Comp) ⊆ cs := by first | decide | (refine List.Subset.trans ?_ ‹_ ⊆ _›; decide)) : Keeps cs s₀ (State.refreshIface i cause s) := by
  unfold State.refreshIface
  try dsimp only
  with_reducible repeat' (first
    | assumption | exact List.Subset.trans (by decide) hm | apply Keeps.ite | apply withLanes_keeps | apply evIface_keeps
    | apply State.setIfaceUp_keeps | refine Keeps.of_pair (by assumption) ?_ | intro _ | split)

theorem State.refreshLane_keeps {client : Bool} {n : Nat} {s : State} (hk : Keeps cs s₀ s)
    (hm : ([.clerk, .hier, .tally, .flow, .lanes] : List Comp) ⊆ cs := by first | decide | (refine List.Subset.trans ?_ ‹_ ⊆ _›; decide)) : Keeps cs s₀ (State.refreshLane client n s) := by
  unfold State.refreshLane
  try dsimp only
  with_reducible repeat' (first
    | assumption | exact List.Subset.trans (by decide) hm | apply Keeps.ite | apply State.refreshIface_keeps
    | apply foldl_keeps | refine Keeps.of_pair (by assumption) ?_ | intro _ | split)

theorem evClientLane_keeps {g : Fin 2} {l : Nat} {old new : LaneRx} {cause : Nat} {s : State} (hk : Keeps cs s₀ s)
    (hm : ([.clerk, .hier, .tally] : List Comp) ⊆ cs := by first | decide | (refine List.Subset.trans ?_ ‹_ ⊆ _›; decide)) : Keeps cs s₀ (evClientLane g l old new cause s) := by
  unfold evClientLane
  try dsimp only
  with_reducible repeat' (first
    | assumption | exact List.Subset.trans (by decide) hm | apply State.raise_keeps | refine Keeps.of_pair (by assumption) ?_
    | intro _)

theorem State.moveClient_keeps {g : Fin 2} {l : Nat} {new : LaneRx} {cause : Nat} {s : State} (hk : Keeps cs s₀ s)
    (hm : ([.clerk, .hier, .tally, .flow, .lanes] : List Comp) ⊆ cs := by first | decide | (refine List.Subset.trans ?_ ‹_ ⊆ _›; decide)) : Keeps cs s₀ (State.moveClient g l new cause s) := by
  unfold State.moveClient
  try dsimp only
  with_reducible repeat' (first
    | assumption | exact List.Subset.trans (by decide) hm | apply Keeps.ite | apply evClientLane_keeps
    | apply State.updCl_keeps | apply State.refreshLane_keeps | refine Keeps.of_pair (by assumption) ?_ | intro _ | split)

theorem evHostLane_keeps {l : Nat} {old new : LaneRx} {cause : Nat} {s : State} (hk : Keeps cs s₀ s)
    (hm : ([.clerk, .hier, .tally] : List Comp) ⊆ cs := by first | decide | (refine List.Subset.trans ?_ ‹_ ⊆ _›; decide)) : Keeps cs s₀ (evHostLane l old new cause s) := by
  unfold evHostLane
  try dsimp only
  with_reducible repeat' (first
    | assumption | exact List.Subset.trans (by decide) hm | apply State.raise_keeps | refine Keeps.of_pair (by assumption) ?_
    | intro _)

theorem State.moveHost_keeps {l : Nat} {new : LaneRx} {cause : Nat} {s : State} (hk : Keeps cs s₀ s)
    (hm : ([.clerk, .hier, .tally, .flow, .lanes] : List Comp) ⊆ cs := by first | decide | (refine List.Subset.trans ?_ ‹_ ⊆ _›; decide)) : Keeps cs s₀ (State.moveHost l new cause s) := by
  unfold State.moveHost
  try dsimp only
  with_reducible repeat' (first
    | assumption | exact List.Subset.trans (by decide) hm | apply Keeps.ite | apply evHostLane_keeps | apply State.updHl_keeps
    | apply State.refreshLane_keeps | refine Keeps.of_pair (by assumption) ?_ | intro _ | split)

theorem State.freeCause_keeps {s : State} (hk : Keeps cs s₀ s)
    (hm : ([.free] : List Comp) ⊆ cs := by first | decide | (refine List.Subset.trans ?_ ‹_ ⊆ _›; decide)) : Keeps cs s₀ (State.freeCause s).2 := by
  unfold State.freeCause
  try dsimp only
  with_reducible repeat' (first
    | assumption | exact List.Subset.trans (by decide) hm | apply State.take_keeps | refine Keeps.of_pair (by assumption) ?_
    | intro _)

theorem State.defineIface_keeps {i : Nat} {x : LaneIface} {s : State} (hk : Keeps cs s₀ s)
    (hm : ([.clerk, .hier, .tally, .flow, .lanes] : List Comp) ⊆ cs := by first | decide | (refine List.Subset.trans ?_ ‹_ ⊆ _›; decide)) : Keeps cs s₀ (State.defineIface i x s) := by
  unfold State.defineIface
  try dsimp only
  with_reducible repeat' (first
    | assumption | exact List.Subset.trans (by decide) hm | apply Keeps.ite | apply withLanes_keeps
    | apply State.setIfaceUp_keeps | apply evIface_keeps | apply State.refreshIface_keeps
    | refine Keeps.of_pair (by assumption) ?_ | intro _ | split)

theorem State.deleteIface_keeps {i : Nat} {s : State} (hk : Keeps cs s₀ s)
    (hm : ([.clerk, .hier, .tally, .flow, .lanes] : List Comp) ⊆ cs := by first | decide | (refine List.Subset.trans ?_ ‹_ ⊆ _›; decide)) : Keeps cs s₀ (State.deleteIface i s) := by
  unfold State.deleteIface
  try dsimp only
  with_reducible repeat' (first
    | assumption | exact List.Subset.trans (by decide) hm | apply Keeps.ite | apply State.setIfaceUp_keeps
    | apply withLanes_keeps | apply evIface_keeps | intro _ | split)

end Sys2Proof.Machine
end

