-- ==== Sys2Proof/Laws/KeepsTiming.lean ====
section
/-!
SUPPORT. What is kept by: timing, Assay, BAR0 and SPI, Hallmark, the member table.
-/

set_option Elab.async false
set_option linter.all false

namespace Sys2Proof.Machine

variable {cs : List Comp} {s₀ s t : State}

/-! ### Timing.lean -/

theorem State.setCand_keeps {c : Nat} {x : RefCand} {s : State} (hk : Keeps cs s₀ s)
    (hm : ([.timing] : List Comp) ⊆ cs := by first | decide | (refine List.Subset.trans ?_ ‹_ ⊆ _›; decide)) : Keeps cs s₀ (State.setCand c x s) := by
  unfold State.setCand
  try dsimp only
  with_reducible repeat' (first
    | assumption | exact List.Subset.trans (by decide) hm | apply Keeps.ite | apply withTiming_keeps
    | refine Keeps.of_pair (by assumption) ?_ | intro _ | split)

theorem State.updCand_keeps {c : Nat} {f : RefCand → RefCand} {s : State} (hk : Keeps cs s₀ s)
    (hm : ([.timing] : List Comp) ⊆ cs := by first | decide | (refine List.Subset.trans ?_ ‹_ ⊆ _›; decide)) : Keeps cs s₀ (State.updCand c f s) := by
  unfold State.updCand
  try dsimp only
  with_reducible repeat' (first
    | assumption | exact List.Subset.trans (by decide) hm | apply State.setCand_keeps
    | refine Keeps.of_pair (by assumption) ?_ | intro _)

theorem State.updDpll_keeps {d : Nat} {f : Dpll → Dpll} {s : State} (hk : Keeps cs s₀ s)
    (hm : ([.timing] : List Comp) ⊆ cs := by first | decide | (refine List.Subset.trans ?_ ‹_ ⊆ _›; decide)) : Keeps cs s₀ (State.updDpll d f s) := by
  unfold State.updDpll
  try dsimp only
  with_reducible repeat' (first | assumption | exact List.Subset.trans (by decide) hm | apply withTiming_keeps | intro _)

theorem State.updOut_keeps {o : Nat} {f : ClkOut → ClkOut} {s : State} (hk : Keeps cs s₀ s)
    (hm : ([.timing] : List Comp) ⊆ cs := by first | decide | (refine List.Subset.trans ?_ ‹_ ⊆ _›; decide)) : Keeps cs s₀ (State.updOut o f s) := by
  unfold State.updOut
  try dsimp only
  with_reducible repeat' (first | assumption | exact List.Subset.trans (by decide) hm | apply withTiming_keeps | intro _)

theorem State.eachDpll_keeps {f : Nat → State → State} {s : State} (hf : ∀ x0 s, Keeps cs s₀ s → Keeps cs s₀ (f x0 s))
    (hk : Keeps cs s₀ s) : Keeps cs s₀ (State.eachDpll f s) := by
  unfold State.eachDpll
  try dsimp only
  with_reducible repeat' (first | assumption | apply hf | apply foldl_keeps | refine Keeps.of_pair (by assumption) ?_ | intro _)

theorem evSelect_keeps {d : Nat} {old : Option Nat} {cause : Nat} {s : State} (hk : Keeps cs s₀ s)
    (hm : ([.clerk, .hier, .tally] : List Comp) ⊆ cs := by first | decide | (refine List.Subset.trans ?_ ‹_ ⊆ _›; decide)) : Keeps cs s₀ (evSelect d old cause s) := by
  unfold evSelect
  try dsimp only
  with_reducible repeat' (first
    | assumption | exact List.Subset.trans (by decide) hm | apply Keeps.ite | apply State.raise_keeps
    | refine Keeps.of_pair (by assumption) ?_ | intro _ | split)

theorem State.moveRef_keeps {c : Nat} {new : RefSt} {s : State} (hk : Keeps cs s₀ s)
    (hm : ([.clerk, .hier, .tally, .timing] : List Comp) ⊆ cs := by first | decide | (refine List.Subset.trans ?_ ‹_ ⊆ _›; decide)) : Keeps cs s₀ (State.moveRef c new s) := by
  unfold State.moveRef
  try dsimp only
  with_reducible repeat' (first
    | assumption | exact List.Subset.trans (by decide) hm | apply Keeps.ite | apply State.updCand_keeps
    | apply State.raise_keeps | refine Keeps.of_pair (by assumption) ?_ | intro _ | split)

theorem State.enterHoldover_keeps {d cause : Nat} {now : Bool} {s : State} (hk : Keeps cs s₀ s)
    (hm : ([.free, .clerk, .hier, .tally, .timing] : List Comp) ⊆ cs := by first | decide | (refine List.Subset.trans ?_ ‹_ ⊆ _›; decide)) : Keeps cs s₀ (State.enterHoldover d cause now s) := by
  unfold State.enterHoldover
  try dsimp only
  with_reducible repeat' (first
    | assumption | exact List.Subset.trans (by decide) hm | apply Keeps.ite | apply State.take_keeps
    | apply State.updDpll_keeps | apply State.bump_keeps | apply evSelect_keeps | refine Keeps.of_pair (by assumption) ?_
    | intro _ | split)

theorem State.dropRef_keeps {c cause : Nat} {s : State} (hk : Keeps cs s₀ s)
    (hm : ([.free, .clerk, .hier, .tally, .timing] : List Comp) ⊆ cs := by first | decide | (refine List.Subset.trans ?_ ‹_ ⊆ _›; decide)) : Keeps cs s₀ (State.dropRef c cause s) := by
  unfold State.dropRef
  try dsimp only
  with_reducible repeat' (first
    | assumption | exact List.Subset.trans (by decide) hm | apply Keeps.ite | apply State.eachDpll_keeps
    | apply State.enterHoldover_keeps | refine Keeps.of_pair (by assumption) ?_ | intro _ | split)

theorem State.noteQl_keeps {s : State} (hk : Keeps cs s₀ s)
    (hm : ([.timing] : List Comp) ⊆ cs := by first | decide | (refine List.Subset.trans ?_ ‹_ ⊆ _›; decide)) : Keeps cs s₀ (State.noteQl s) := by
  unfold State.noteQl
  try dsimp only
  with_reducible repeat' (first
    | assumption | exact List.Subset.trans (by decide) hm | apply Keeps.ite | apply State.eachDpll_keeps
    | apply State.updDpll_keeps | refine Keeps.of_pair (by assumption) ?_ | intro _ | split)

theorem State.realign_keeps {d : Nat} {s : State} (hk : Keeps cs s₀ s)
    (hm : ([.timing] : List Comp) ⊆ cs := by first | decide | (refine List.Subset.trans ?_ ‹_ ⊆ _›; decide)) : Keeps cs s₀ (State.realign d s) := by
  unfold State.realign
  try dsimp only
  with_reducible repeat' (first
    | assumption | exact List.Subset.trans (by decide) hm | apply Keeps.ite | apply State.updOut_keeps | apply foldl_keeps
    | refine Keeps.of_pair (by assumption) ?_ | intro _ | split)

theorem State.useRef_keeps {d c cause : Nat} {s : State} (hk : Keeps cs s₀ s)
    (hm : ([.clerk, .hier, .tally, .timing] : List Comp) ⊆ cs := by first | decide | (refine List.Subset.trans ?_ ‹_ ⊆ _›; decide)) : Keeps cs s₀ (State.useRef d c cause s) := by
  unfold State.useRef
  try dsimp only
  with_reducible repeat' (first
    | assumption | exact List.Subset.trans (by decide) hm | apply Keeps.ite | apply State.updDpll_keeps
    | apply State.bump_keeps | apply evSelect_keeps | apply State.realign_keeps | refine Keeps.of_pair (by assumption) ?_
    | intro _ | split)

theorem State.noteDisagree_keeps {d : Nat} {now : Option Nat} {s : State} (hk : Keeps cs s₀ s)
    (hm : ([.clerk, .hier, .tally, .timing] : List Comp) ⊆ cs := by first | decide | (refine List.Subset.trans ?_ ‹_ ⊆ _›; decide)) : Keeps cs s₀ (State.noteDisagree d now s) := by
  unfold State.noteDisagree
  try dsimp only
  with_reducible repeat' (first
    | assumption | exact List.Subset.trans (by decide) hm | apply Keeps.ite | apply State.raise_keeps
    | apply State.updDpll_keeps | apply State.bump_keeps | refine Keeps.of_pair (by assumption) ?_ | intro _ | split)

theorem State.select_keeps {d : Nat} {s : State} (hk : Keeps cs s₀ s)
    (hm : ([.free, .clerk, .hier, .tally, .timing] : List Comp) ⊆ cs := by first | decide | (refine List.Subset.trans ?_ ‹_ ⊆ _›; decide)) : Keeps cs s₀ (State.select d s) := by
  unfold State.select
  try dsimp only
  with_reducible repeat' (first
    | assumption | exact List.Subset.trans (by decide) hm | apply Keeps.ite | apply Keeps.ite_snd | apply State.updDpll_keeps
    | apply State.useRef_keeps | apply evSelect_keeps | apply State.enterHoldover_keeps | apply State.noteDisagree_keeps
    | refine Keeps.of_pair (by assumption) ?_ | intro _ | split)

theorem State.carryOver_keeps {diff : Int} {s : State} (hk : Keeps cs s₀ s)
    (hm : ([.timing] : List Comp) ⊆ cs := by first | decide | (refine List.Subset.trans ?_ ‹_ ⊆ _›; decide)) : Keeps cs s₀ (State.carryOver diff s) := by
  unfold State.carryOver
  try dsimp only
  with_reducible repeat' (first
    | assumption | exact List.Subset.trans (by decide) hm | apply Keeps.ite | apply State.updCand_keeps
    | apply State.eachDpll_keeps | apply State.updDpll_keeps | apply foldl_keeps | refine Keeps.of_pair (by assumption) ?_
    | intro _ | split)

theorem evXtal_keeps {sev cause x : Nat} {s : State} (hk : Keeps cs s₀ s)
    (hm : ([.clerk, .hier, .tally] : List Comp) ⊆ cs := by first | decide | (refine List.Subset.trans ?_ ‹_ ⊆ _›; decide)) : Keeps cs s₀ (evXtal sev cause x s) := by
  unfold evXtal
  try dsimp only
  with_reducible repeat' (first
    | assumption | exact List.Subset.trans (by decide) hm | apply State.raise_keeps | refine Keeps.of_pair (by assumption) ?_
    | intro _)

theorem State.changeXtal_keeps {s : State} (hk : Keeps cs s₀ s)
    (hm : ([.timing] : List Comp) ⊆ cs := by first | decide | (refine List.Subset.trans ?_ ‹_ ⊆ _›; decide)) : Keeps cs s₀ (State.changeXtal s) := by
  unfold State.changeXtal
  try dsimp only
  with_reducible repeat' (first
    | assumption | exact List.Subset.trans (by decide) hm | apply Keeps.ite | apply withTiming_keeps
    | apply State.carryOver_keeps | refine Keeps.of_pair (by assumption) ?_ | intro _ | split)

theorem State.xtalFaulted_keeps {i : Bool} {s : State} (hk : Keeps cs s₀ s)
    (hm : ([.clerk, .hier, .tally, .timing] : List Comp) ⊆ cs := by first | decide | (refine List.Subset.trans ?_ ‹_ ⊆ _›; decide)) : Keeps cs s₀ (State.xtalFaulted i s) := by
  unfold State.xtalFaulted
  try dsimp only
  with_reducible repeat' (first
    | assumption | exact List.Subset.trans (by decide) hm | apply Keeps.ite | apply evXtal_keeps
    | apply State.changeXtal_keeps | apply State.bump_keeps | apply withTiming_keeps | apply State.refreshHealth_keeps
    | refine Keeps.of_pair (by assumption) ?_ | intro _ | split)

theorem execXtalActivityLoss_keeps {x : Fin 2} {s : State} (hk : Keeps cs s₀ s)
    (hm : ([.clerk, .hier, .tally, .timing] : List Comp) ⊆ cs := by first | decide | (refine List.Subset.trans ?_ ‹_ ⊆ _›; decide)) : AnsKeeps cs s₀ (execXtalActivityLoss x s) := by
  unfold execXtalActivityLoss
  try dsimp only
  with_reducible repeat' (first
    | assumption | exact List.Subset.trans (by decide) hm | apply Keeps.ite | apply AnsKeeps.ite | apply AnsKeeps.next
    | apply withTiming_keeps | apply happen_keeps | apply State.xtalFaulted_keeps | refine Keeps.of_pair (by assumption) ?_
    | intro _ | split)

theorem execXtalActivityReturn_keeps {x : Fin 2} {s : State} (hk : Keeps cs s₀ s)
    (hm : ([.timing] : List Comp) ⊆ cs := by first | decide | (refine List.Subset.trans ?_ ‹_ ⊆ _›; decide)) : AnsKeeps cs s₀ (execXtalActivityReturn x s) := by
  unfold execXtalActivityReturn
  try dsimp only
  with_reducible repeat' (first
    | assumption | exact List.Subset.trans (by decide) hm | apply AnsKeeps.next | apply happen_keeps | apply withTiming_keeps
    | refine Keeps.of_pair (by assumption) ?_ | intro _)

theorem State.judgeXtals_keeps {diff : Int} {s : State} (hk : Keeps cs s₀ s)
    (hm : ([.free, .clerk, .hier, .tally, .timing] : List Comp) ⊆ cs := by first | decide | (refine List.Subset.trans ?_ ‹_ ⊆ _›; decide)) : Keeps cs s₀ (State.judgeXtals diff s) := by
  unfold State.judgeXtals
  try dsimp only
  with_reducible repeat' (first
    | assumption | exact List.Subset.trans (by decide) hm | apply Keeps.ite | apply withTiming_keeps
    | apply State.xtalFaulted_keeps | apply evXtal_keeps | apply State.take_keeps | refine Keeps.of_pair (by assumption) ?_
    | intro _ | split)

theorem State.refGate_keeps {master : Bool} {m : Int} {c : Nat} {o : Int} {s : State} (hk : Keeps cs s₀ s)
    (hm : ([.free, .clerk, .hier, .tally, .timing] : List Comp) ⊆ cs := by first | decide | (refine List.Subset.trans ?_ ‹_ ⊆ _›; decide)) : Keeps cs s₀ (State.refGate master m c o s) := by
  unfold State.refGate
  try dsimp only
  with_reducible repeat' (first
    | assumption | exact List.Subset.trans (by decide) hm | apply Keeps.ite | apply State.updCand_keeps
    | apply State.eachDpll_keeps | apply State.updDpll_keeps | apply State.bump_keeps | apply State.moveRef_keeps
    | apply State.dropRef_keeps | refine Keeps.of_pair (by assumption) ?_ | intro _ | split)

theorem execGateEnd_keeps {offsets : List (Nat × Int)} {freqs : List Int} {xdiff : Int} {s : State} (hk : Keeps cs s₀ s)
    (hm : ([.free, .clerk, .hier, .tally, .timing] : List Comp) ⊆ cs := by first | decide | (refine List.Subset.trans ?_ ‹_ ⊆ _›; decide)) : AnsKeeps cs s₀ (execGateEnd offsets freqs xdiff s) := by
  unfold execGateEnd
  try dsimp only
  with_reducible repeat' (first
    | assumption | exact List.Subset.trans (by decide) hm | apply Keeps.ite | apply AnsKeeps.ite | apply AnsKeeps.next
    | apply State.eachDpll_keeps | apply State.updDpll_keeps | apply State.refGate_keeps | apply happen_keeps
    | apply State.judgeXtals_keeps | apply foldl_keeps | refine Keeps.of_pair (by assumption) ?_ | intro _ | split)

theorem execRefFirstEdge_keeps {c : Fin 17} {s : State} (hk : Keeps cs s₀ s)
    (hm : ([.clerk, .hier, .tally, .timing] : List Comp) ⊆ cs := by first | decide | (refine List.Subset.trans ?_ ‹_ ⊆ _›; decide)) : AnsKeeps cs s₀ (execRefFirstEdge c s) := by
  unfold execRefFirstEdge
  try dsimp only
  with_reducible repeat' (first
    | assumption | exact List.Subset.trans (by decide) hm | apply AnsKeeps.next | apply happen_keeps
    | apply State.moveRef_keeps | refine Keeps.of_pair (by assumption) ?_ | intro _)

theorem execQualifyComplete_keeps {c : Fin 17} {s : State} (hk : Keeps cs s₀ s)
    (hm : ([.clerk, .hier, .tally, .timing] : List Comp) ⊆ cs := by first | decide | (refine List.Subset.trans ?_ ‹_ ⊆ _›; decide)) : AnsKeeps cs s₀ (execQualifyComplete c s) := by
  unfold execQualifyComplete
  try dsimp only
  with_reducible repeat' (first
    | assumption | exact List.Subset.trans (by decide) hm | apply AnsKeeps.next | apply happen_keeps
    | apply State.moveRef_keeps | refine Keeps.of_pair (by assumption) ?_ | intro _)

theorem State.loseRef_keeps {c : Nat} {s : State} (hk : Keeps cs s₀ s)
    (hm : ([.free, .clerk, .hier, .tally, .timing] : List Comp) ⊆ cs := by first | decide | (refine List.Subset.trans ?_ ‹_ ⊆ _›; decide)) : Keeps cs s₀ (State.loseRef c s) := by
  unfold State.loseRef
  try dsimp only
  with_reducible repeat' (first
    | assumption | exact List.Subset.trans (by decide) hm | apply Keeps.ite | apply State.moveRef_keeps
    | apply State.bump_keeps | apply State.updCand_keeps | apply State.dropRef_keeps | refine Keeps.of_pair (by assumption) ?_
    | intro _ | split)

theorem execRefActivityLoss_keeps {c : Fin 17} {s : State} (hk : Keeps cs s₀ s)
    (hm : ([.free, .clerk, .hier, .tally, .timing] : List Comp) ⊆ cs := by first | decide | (refine List.Subset.trans ?_ ‹_ ⊆ _›; decide)) : AnsKeeps cs s₀ (execRefActivityLoss c s) := by
  unfold execRefActivityLoss
  try dsimp only
  with_reducible repeat' (first
    | assumption | exact List.Subset.trans (by decide) hm | apply AnsKeeps.next | apply happen_keeps
    | apply State.loseRef_keeps | refine Keeps.of_pair (by assumption) ?_ | intro _)

theorem execSelectionEval_keeps {s : State} (hk : Keeps cs s₀ s)
    (hm : ([.free, .clerk, .hier, .tally, .timing] : List Comp) ⊆ cs := by first | decide | (refine List.Subset.trans ?_ ‹_ ⊆ _›; decide)) : AnsKeeps cs s₀ (execSelectionEval s) := by
  unfold execSelectionEval
  try dsimp only
  with_reducible repeat' (first
    | assumption | exact List.Subset.trans (by decide) hm | apply AnsKeeps.next | apply happen_keeps
    | apply State.eachDpll_keeps | apply State.select_keeps | refine Keeps.of_pair (by assumption) ?_ | intro _)

theorem execDpllLock_keeps {d : Fin 4} {s : State} (hk : Keeps cs s₀ s)
    (hm : ([.timing] : List Comp) ⊆ cs := by first | decide | (refine List.Subset.trans ?_ ‹_ ⊆ _›; decide)) : AnsKeeps cs s₀ (execDpllLock d s) := by
  unfold execDpllLock
  try dsimp only
  with_reducible repeat' (first
    | assumption | exact List.Subset.trans (by decide) hm | apply AnsKeeps.next | apply happen_keeps
    | apply State.updDpll_keeps | refine Keeps.of_pair (by assumption) ?_ | intro _)

theorem execBwStep_keeps {d : Fin 4} {s : State} (hk : Keeps cs s₀ s)
    (hm : ([.timing] : List Comp) ⊆ cs := by first | decide | (refine List.Subset.trans ?_ ‹_ ⊆ _›; decide)) : AnsKeeps cs s₀ (execBwStep d s) := by
  unfold execBwStep
  try dsimp only
  with_reducible repeat' (first
    | assumption | exact List.Subset.trans (by decide) hm | apply AnsKeeps.next | apply happen_keeps
    | apply State.updDpll_keeps | refine Keeps.of_pair (by assumption) ?_ | intro _)

theorem State.coreFaulted_keeps {d : Nat} {diff : Int} {s : State} (hk : Keeps cs s₀ s)
    (hm : ([.free, .clerk, .hier, .tally, .serv, .timing] : List Comp) ⊆ cs := by first | decide | (refine List.Subset.trans ?_ ‹_ ⊆ _›; decide)) : Keeps cs s₀ (State.coreFaulted d diff s) := by
  unfold State.coreFaulted
  try dsimp only
  with_reducible repeat' (first
    | assumption | exact List.Subset.trans (by decide) hm | apply State.updDpll_keeps | apply State.bump_keeps
    | apply State.raise_keeps | apply State.enterHoldover_keeps | apply State.swapFaulted_keeps
    | apply State.refreshHealth_keeps | refine Keeps.of_pair (by assumption) ?_ | intro _)

theorem execCoreFault_keeps {d : Fin 4} {diff : Int} {s : State} (hk : Keeps cs s₀ s)
    (hm : ([.free, .clerk, .hier, .tally, .serv, .timing] : List Comp) ⊆ cs := by first | decide | (refine List.Subset.trans ?_ ‹_ ⊆ _›; decide)) : AnsKeeps cs s₀ (execCoreFault d diff s) := by
  unfold execCoreFault
  try dsimp only
  with_reducible repeat' (first
    | assumption | exact List.Subset.trans (by decide) hm | apply AnsKeeps.next | apply happen_keeps
    | apply State.coreFaulted_keeps | refine Keeps.of_pair (by assumption) ?_ | intro _)

theorem State.setQl_keeps {c ql : Nat} {s : State} (hk : Keeps cs s₀ s)
    (hm : ([.timing] : List Comp) ⊆ cs := by first | decide | (refine List.Subset.trans ?_ ‹_ ⊆ _›; decide)) : Keeps cs s₀ (State.setQl c ql s) := by
  unfold State.setQl
  try dsimp only
  with_reducible repeat' (first
    | assumption | exact List.Subset.trans (by decide) hm | apply Keeps.ite | apply State.updCand_keeps
    | apply State.noteQl_keeps | refine Keeps.of_pair (by assumption) ?_ | intro _ | split)

theorem execEsmcPduReceive_keeps {i : Fin 256} {ql : Fin 16} {s : State} (hk : Keeps cs s₀ s)
    (hm : ([.tally, .timing] : List Comp) ⊆ cs := by first | decide | (refine List.Subset.trans ?_ ‹_ ⊆ _›; decide)) : AnsKeeps cs s₀ (execEsmcPduReceive i ql s) := by
  unfold execEsmcPduReceive
  try dsimp only
  with_reducible repeat' (first
    | assumption | exact List.Subset.trans (by decide) hm | apply AnsKeeps.next | apply happen_keeps | apply State.setQl_keeps
    | apply State.bump_keeps | apply foldl_keeps | refine Keeps.of_pair (by assumption) ?_ | intro _)

theorem execQlTimeout_keeps {c : Fin 17} {s : State} (hk : Keeps cs s₀ s)
    (hm : ([.tally, .timing] : List Comp) ⊆ cs := by first | decide | (refine List.Subset.trans ?_ ‹_ ⊆ _›; decide)) : AnsKeeps cs s₀ (execQlTimeout c s) := by
  unfold execQlTimeout
  try dsimp only
  with_reducible repeat' (first
    | assumption | exact List.Subset.trans (by decide) hm | apply AnsKeeps.next | apply happen_keeps | apply State.bump_keeps
    | apply State.setQl_keeps | refine Keeps.of_pair (by assumption) ?_ | intro _)

theorem execFpSlewEnd_keeps {o : Fin 4} {s : State} (hk : Keeps cs s₀ s)
    (hm : ([.timing] : List Comp) ⊆ cs := by first | decide | (refine List.Subset.trans ?_ ‹_ ⊆ _›; decide)) : AnsKeeps cs s₀ (execFpSlewEnd o s) := by
  unfold execFpSlewEnd
  try dsimp only
  with_reducible repeat' (first
    | assumption | exact List.Subset.trans (by decide) hm | apply AnsKeeps.next | apply happen_keeps
    | apply State.updOut_keeps | refine Keeps.of_pair (by assumption) ?_ | intro _)

theorem State.latchLoom_keeps {s : State} (hk : Keeps cs s₀ s)
    (hm : ([.loom] : List Comp) ⊆ cs := by first | decide | (refine List.Subset.trans ?_ ‹_ ⊆ _›; decide)) : Keeps cs s₀ (State.latchLoom s) := by
  unfold State.latchLoom
  try dsimp only
  with_reducible repeat' (first
    | assumption | exact List.Subset.trans (by decide) hm | apply Keeps.ite | apply State.countLost_keeps
    | apply withLoom_keeps | apply foldl_keeps | refine Keeps.of_pair (by assumption) ?_ | intro _ | split)

theorem State.latchLanes_keeps {s : State} (hk : Keeps cs s₀ s)
    (hm : ([.lanes] : List Comp) ⊆ cs := by first | decide | (refine List.Subset.trans ?_ ‹_ ⊆ _›; decide)) : Keeps cs s₀ (State.latchLanes s) := by
  unfold State.latchLanes
  try dsimp only
  with_reducible repeat' (first
    | assumption | exact List.Subset.trans (by decide) hm | apply State.updCl_keeps | apply State.updHl_keeps
    | apply foldl_keeps | refine Keeps.of_pair (by assumption) ?_ | intro _)

theorem execOneSecondTick_keeps {crierSec : Nat} {counts : List (Nat × Nat)} {s : State} (hk : Keeps cs s₀ s)
    (hm : ([.clerk, .hier, .tally, .fec, .loom, .lanes, .timing] : List Comp) ⊆ cs := by first | decide | (refine List.Subset.trans ?_ ‹_ ⊆ _›; decide)) : AnsKeeps cs s₀ (execOneSecondTick crierSec counts s) := by
  unfold execOneSecondTick
  try dsimp only
  with_reducible repeat' (first
    | assumption | exact List.Subset.trans (by decide) hm | apply Keeps.ite | apply AnsKeeps.ite | apply AnsKeeps.next
    | apply State.bump_keeps | apply withTiming_keeps | apply happen_keeps | apply State.latchLoom_keeps
    | apply State.latchFec_keeps | apply State.latchLanes_keeps | apply foldl_keeps | refine Keeps.of_pair (by assumption) ?_
    | intro _ | split)

theorem timingConfigOp_keeps {c : Cmd} (hk : Keeps cs s₀ s)
    (hm : ([.clerk, .hier, .tally, .timing] : List Comp) ⊆ cs := by first | decide | (refine List.Subset.trans ?_ ‹_ ⊆ _›; decide)) : Keeps cs s₀ (timingConfigOp.effect c s).2 := by
  unfold timingConfigOp
  try dsimp only
  with_reducible repeat' (first
    | assumption | exact List.Subset.trans (by decide) hm | apply Keeps.ite | apply Keeps.ite_snd | apply sets_keeps
    | apply withTiming_keeps | apply evXtal_keeps | apply State.changeXtal_keeps | apply State.bump_keeps
    | refine Keeps.of_pair (by assumption) ?_ | intro _ | split)

theorem execTimingConfig_keeps {c : Cmd} {s : State} (hk : Keeps cs s₀ s)
    (hm : ([.out, .bar0, .clerk, .hier, .tally, .timing] : List Comp) ⊆ cs := by first | decide | (refine List.Subset.trans ?_ ‹_ ⊆ _›; decide)) : AnsKeeps cs s₀ (execTimingConfig c s) := by
  unfold execTimingConfig
  try dsimp only
  with_reducible repeat' (first
    | assumption | exact List.Subset.trans (by decide) hm | apply AnsKeeps.next | apply serve_keeps
    | apply timingConfigOp_keeps | intro _)

theorem timingRefSetOp_keeps {c : Cmd} (hk : Keeps cs s₀ s)
    (hm : ([.free, .clerk, .hier, .tally, .timing] : List Comp) ⊆ cs := by first | decide | (refine List.Subset.trans ?_ ‹_ ⊆ _›; decide)) : Keeps cs s₀ (timingRefSetOp.effect c s).2 := by
  unfold timingRefSetOp
  try dsimp only
  with_reducible repeat' (first
    | assumption | exact List.Subset.trans (by decide) hm | apply Keeps.ite | apply Keeps.ite_snd | apply sets_keeps
    | apply State.moveRef_keeps | apply State.updCand_keeps | apply State.dropRef_keeps
    | refine Keeps.of_pair (by assumption) ?_ | intro _ | split)

theorem execTimingRefSet_keeps {c : Cmd} {s : State} (hk : Keeps cs s₀ s)
    (hm : ([.free, .out, .bar0, .clerk, .hier, .tally, .timing] : List Comp) ⊆ cs := by first | decide | (refine List.Subset.trans ?_ ‹_ ⊆ _›; decide)) : AnsKeeps cs s₀ (execTimingRefSet c s) := by
  unfold execTimingRefSet
  try dsimp only
  with_reducible repeat' (first
    | assumption | exact List.Subset.trans (by decide) hm | apply AnsKeeps.next | apply serve_keeps
    | apply timingRefSetOp_keeps | intro _)

theorem timingDpllSetOp_keeps {c : Cmd} (hk : Keeps cs s₀ s)
    (hm : ([.timing] : List Comp) ⊆ cs := by first | decide | (refine List.Subset.trans ?_ ‹_ ⊆ _›; decide)) : Keeps cs s₀ (timingDpllSetOp.effect c s).2 := by
  unfold timingDpllSetOp
  try dsimp only
  with_reducible repeat' (first
    | assumption | exact List.Subset.trans (by decide) hm | apply Keeps.ite | apply Keeps.ite_snd | apply sets_keeps
    | apply State.updDpll_keeps | apply State.realign_keeps | refine Keeps.of_pair (by assumption) ?_ | intro _ | split)

theorem execTimingDpllSet_keeps {c : Cmd} {s : State} (hk : Keeps cs s₀ s)
    (hm : ([.out, .bar0, .clerk, .tally, .timing] : List Comp) ⊆ cs := by first | decide | (refine List.Subset.trans ?_ ‹_ ⊆ _›; decide)) : AnsKeeps cs s₀ (execTimingDpllSet c s) := by
  unfold execTimingDpllSet
  try dsimp only
  with_reducible repeat' (first
    | assumption | exact List.Subset.trans (by decide) hm | apply AnsKeeps.next | apply serve_keeps
    | apply timingDpllSetOp_keeps | intro _)

theorem timingPrioSetOp_keeps {c : Cmd} (hk : Keeps cs s₀ s)
    (hm : ([.timing] : List Comp) ⊆ cs := by first | decide | (refine List.Subset.trans ?_ ‹_ ⊆ _›; decide)) : Keeps cs s₀ (timingPrioSetOp.effect c s).2 := by
  unfold timingPrioSetOp
  try dsimp only
  with_reducible repeat' (first
    | assumption | exact List.Subset.trans (by decide) hm | apply sets_keeps | apply State.updDpll_keeps
    | refine Keeps.of_pair (by assumption) ?_ | intro _)

theorem execTimingPrioSet_keeps {c : Cmd} {s : State} (hk : Keeps cs s₀ s)
    (hm : ([.out, .bar0, .clerk, .tally, .timing] : List Comp) ⊆ cs := by first | decide | (refine List.Subset.trans ?_ ‹_ ⊆ _›; decide)) : AnsKeeps cs s₀ (execTimingPrioSet c s) := by
  unfold execTimingPrioSet
  try dsimp only
  with_reducible repeat' (first
    | assumption | exact List.Subset.trans (by decide) hm | apply AnsKeeps.next | apply serve_keeps
    | apply timingPrioSetOp_keeps | intro _)

theorem timingOutSetOp_keeps {c : Cmd} (hk : Keeps cs s₀ s)
    (hm : ([.timing] : List Comp) ⊆ cs := by first | decide | (refine List.Subset.trans ?_ ‹_ ⊆ _›; decide)) : Keeps cs s₀ (timingOutSetOp.effect c s).2 := by
  unfold timingOutSetOp
  try dsimp only
  with_reducible repeat' (first
    | assumption | exact List.Subset.trans (by decide) hm | apply Keeps.ite | apply Keeps.ite_snd | apply sets_keeps
    | apply State.updOut_keeps | apply withTiming_keeps | refine Keeps.of_pair (by assumption) ?_ | intro _ | split)

theorem execTimingOutSet_keeps {c : Cmd} {s : State} (hk : Keeps cs s₀ s)
    (hm : ([.out, .bar0, .clerk, .tally, .timing] : List Comp) ⊆ cs := by first | decide | (refine List.Subset.trans ?_ ‹_ ⊆ _›; decide)) : AnsKeeps cs s₀ (execTimingOutSet c s) := by
  unfold execTimingOutSet
  try dsimp only
  with_reducible repeat' (first
    | assumption | exact List.Subset.trans (by decide) hm | apply AnsKeeps.next | apply serve_keeps
    | apply timingOutSetOp_keeps | intro _)

theorem timingFpAlignOp_keeps {c : Cmd} (hk : Keeps cs s₀ s)
    (hm : ([.tally, .timing] : List Comp) ⊆ cs := by first | decide | (refine List.Subset.trans ?_ ‹_ ⊆ _›; decide)) : Keeps cs s₀ (timingFpAlignOp.effect c s).2 := by
  unfold timingFpAlignOp
  try dsimp only
  with_reducible repeat' (first
    | assumption | exact List.Subset.trans (by decide) hm | apply Keeps.ite | apply Keeps.ite_snd | apply sets_keeps
    | apply State.updOut_keeps | apply State.bump_keeps | refine Keeps.of_pair (by assumption) ?_ | intro _ | split)

theorem execTimingFpAlign_keeps {c : Cmd} {s : State} (hk : Keeps cs s₀ s)
    (hm : ([.out, .bar0, .clerk, .tally, .timing] : List Comp) ⊆ cs := by first | decide | (refine List.Subset.trans ?_ ‹_ ⊆ _›; decide)) : AnsKeeps cs s₀ (execTimingFpAlign c s) := by
  unfold execTimingFpAlign
  try dsimp only
  with_reducible repeat' (first
    | assumption | exact List.Subset.trans (by decide) hm | apply AnsKeeps.next | apply serve_keeps
    | apply timingFpAlignOp_keeps | intro _)

theorem timingForceOp_keeps {c : Cmd} (hk : Keeps cs s₀ s)
    (hm : ([.free, .clerk, .hier, .tally, .timing] : List Comp) ⊆ cs := by first | decide | (refine List.Subset.trans ?_ ‹_ ⊆ _›; decide)) : Keeps cs s₀ (timingForceOp.effect c s).2 := by
  unfold timingForceOp
  try dsimp only
  with_reducible repeat' (first
    | assumption | exact List.Subset.trans (by decide) hm | apply Keeps.ite | apply Keeps.ite_snd | apply sets_keeps
    | apply State.updDpll_keeps | apply State.enterHoldover_keeps | apply State.useRef_keeps
    | refine Keeps.of_pair (by assumption) ?_ | intro _ | split)

theorem execTimingForce_keeps {c : Cmd} {s : State} (hk : Keeps cs s₀ s)
    (hm : ([.free, .out, .bar0, .clerk, .hier, .tally, .timing] : List Comp) ⊆ cs := by first | decide | (refine List.Subset.trans ?_ ‹_ ⊆ _›; decide)) : AnsKeeps cs s₀ (execTimingForce c s) := by
  unfold execTimingForce
  try dsimp only
  with_reducible repeat' (first
    | assumption | exact List.Subset.trans (by decide) hm | apply AnsKeeps.next | apply serve_keeps
    | apply timingForceOp_keeps | intro _)

theorem timingTodSetOp_keeps {c : Cmd} (hk : Keeps cs s₀ s)
    (hm : ([.timing] : List Comp) ⊆ cs := by first | decide | (refine List.Subset.trans ?_ ‹_ ⊆ _›; decide)) : Keeps cs s₀ (timingTodSetOp.effect c s).2 := by
  unfold timingTodSetOp
  try dsimp only
  with_reducible repeat' (first
    | assumption | exact List.Subset.trans (by decide) hm | apply sets_keeps | apply withTiming_keeps
    | refine Keeps.of_pair (by assumption) ?_ | intro _)

theorem execTimingTodSet_keeps {c : Cmd} {s : State} (hk : Keeps cs s₀ s)
    (hm : ([.out, .bar0, .clerk, .tally, .timing] : List Comp) ⊆ cs := by first | decide | (refine List.Subset.trans ?_ ‹_ ⊆ _›; decide)) : AnsKeeps cs s₀ (execTimingTodSet c s) := by
  unfold execTimingTodSet
  try dsimp only
  with_reducible repeat' (first
    | assumption | exact List.Subset.trans (by decide) hm | apply AnsKeeps.next | apply serve_keeps
    | apply timingTodSetOp_keeps | intro _)

theorem timingStatusOp_keeps {c : Cmd} (hk : Keeps cs s₀ s)
    (hm : ([.free] : List Comp) ⊆ cs := by first | decide | (refine List.Subset.trans ?_ ‹_ ⊆ _›; decide)) : Keeps cs s₀ (timingStatusOp.effect c s).2 := by
  unfold timingStatusOp
  try dsimp only
  with_reducible repeat' (first
    | assumption | exact List.Subset.trans (by decide) hm | apply Keeps.ite | apply Keeps.ite_snd | apply withFree_keeps
    | refine Keeps.of_pair (by assumption) ?_ | intro _ | split)

theorem execTimingStatus_keeps {c : Cmd} {s : State} (hk : Keeps cs s₀ s)
    (hm : ([.free, .out, .bar0, .clerk, .tally] : List Comp) ⊆ cs := by first | decide | (refine List.Subset.trans ?_ ‹_ ⊆ _›; decide)) : AnsKeeps cs s₀ (execTimingStatus c s) := by
  unfold execTimingStatus
  try dsimp only
  with_reducible repeat' (first
    | assumption | exact List.Subset.trans (by decide) hm | apply AnsKeeps.next | apply serve_keeps
    | apply timingStatusOp_keeps | intro _)

theorem timingRefStatusOp_keeps {c : Cmd} (hk : Keeps cs s₀ s)
    (hm : ([.free] : List Comp) ⊆ cs := by first | decide | (refine List.Subset.trans ?_ ‹_ ⊆ _›; decide)) : Keeps cs s₀ (timingRefStatusOp.effect c s).2 := by
  unfold timingRefStatusOp
  try dsimp only
  with_reducible repeat' (first
    | assumption | exact List.Subset.trans (by decide) hm | apply withFree_keeps | refine Keeps.of_pair (by assumption) ?_
    | intro _)

theorem execTimingRefStatus_keeps {c : Cmd} {s : State} (hk : Keeps cs s₀ s)
    (hm : ([.free, .out, .bar0, .clerk, .tally] : List Comp) ⊆ cs := by first | decide | (refine List.Subset.trans ?_ ‹_ ⊆ _›; decide)) : AnsKeeps cs s₀ (execTimingRefStatus c s) := by
  unfold execTimingRefStatus
  try dsimp only
  with_reducible repeat' (first
    | assumption | exact List.Subset.trans (by decide) hm | apply AnsKeeps.next | apply serve_keeps
    | apply timingRefStatusOp_keeps | intro _)

theorem timingDpllStatusOp_keeps {c : Cmd} (hk : Keeps cs s₀ s)
    (hm : ([.free] : List Comp) ⊆ cs := by first | decide | (refine List.Subset.trans ?_ ‹_ ⊆ _›; decide)) : Keeps cs s₀ (timingDpllStatusOp.effect c s).2 := by
  unfold timingDpllStatusOp
  try dsimp only
  with_reducible repeat' (first
    | assumption | exact List.Subset.trans (by decide) hm | apply withFree_keeps | refine Keeps.of_pair (by assumption) ?_
    | intro _)

theorem execTimingDpllStatus_keeps {c : Cmd} {s : State} (hk : Keeps cs s₀ s)
    (hm : ([.free, .out, .bar0, .clerk, .tally] : List Comp) ⊆ cs := by first | decide | (refine List.Subset.trans ?_ ‹_ ⊆ _›; decide)) : AnsKeeps cs s₀ (execTimingDpllStatus c s) := by
  unfold execTimingDpllStatus
  try dsimp only
  with_reducible repeat' (first
    | assumption | exact List.Subset.trans (by decide) hm | apply AnsKeeps.next | apply serve_keeps
    | apply timingDpllStatusOp_keeps | intro _)

theorem timingCountersOp_keeps {c : Cmd} (hk : Keeps cs s₀ s) : Keeps cs s₀ (timingCountersOp.effect c s).2 := by
  unfold timingCountersOp
  try dsimp only
  with_reducible repeat' (first | assumption | apply reads_keeps | refine Keeps.of_pair (by assumption) ?_ | intro _)

theorem execTimingCounters_keeps {c : Cmd} {s : State} (hk : Keeps cs s₀ s)
    (hm : ([.out, .bar0, .clerk, .tally] : List Comp) ⊆ cs := by first | decide | (refine List.Subset.trans ?_ ‹_ ⊆ _›; decide)) : AnsKeeps cs s₀ (execTimingCounters c s) := by
  unfold execTimingCounters
  try dsimp only
  with_reducible repeat' (first
    | assumption | exact List.Subset.trans (by decide) hm | apply AnsKeeps.next | apply serve_keeps
    | apply timingCountersOp_keeps | intro _)

/-! ### Assay.lean -/

theorem State.updSource_keeps {k : Nat} {f : AsSource → AsSource} {s : State} (hk : Keeps cs s₀ s)
    (hm : ([.assay] : List Comp) ⊆ cs := by first | decide | (refine List.Subset.trans ?_ ‹_ ⊆ _›; decide)) : Keeps cs s₀ (State.updSource k f s) := by
  unfold State.updSource
  try dsimp only
  with_reducible repeat' (first | assumption | exact List.Subset.trans (by decide) hm | apply withAssay_keeps | intro _)

theorem State.updChan_keeps {c : Nat} {f : AsChan → AsChan} {s : State} (hk : Keeps cs s₀ s)
    (hm : ([.assay] : List Comp) ⊆ cs := by first | decide | (refine List.Subset.trans ?_ ‹_ ⊆ _›; decide)) : Keeps cs s₀ (State.updChan c f s) := by
  unfold State.updChan
  try dsimp only
  with_reducible repeat' (first | assumption | exact List.Subset.trans (by decide) hm | apply withAssay_keeps | intro _)

theorem State.updPwm_keeps {l : Nat} {f : AsPwm → AsPwm} {s : State} (hk : Keeps cs s₀ s)
    (hm : ([.assay] : List Comp) ⊆ cs := by first | decide | (refine List.Subset.trans ?_ ‹_ ⊆ _›; decide)) : Keeps cs s₀ (State.updPwm l f s) := by
  unfold State.updPwm
  try dsimp only
  with_reducible repeat' (first | assumption | exact List.Subset.trans (by decide) hm | apply withAssay_keeps | intro _)

theorem State.updBias_keeps {l : Nat} {f : AsBias → AsBias} {s : State} (hk : Keeps cs s₀ s)
    (hm : ([.assay] : List Comp) ⊆ cs := by first | decide | (refine List.Subset.trans ?_ ‹_ ⊆ _›; decide)) : Keeps cs s₀ (State.updBias l f s) := by
  unfold State.updBias
  try dsimp only
  with_reducible repeat' (first | assumption | exact List.Subset.trans (by decide) hm | apply withAssay_keeps | intro _)

theorem State.fire_keeps {k : Nat} {s : State} (hk : Keeps cs s₀ s)
    (hm : ([.clerk, .hier, .tally, .assay] : List Comp) ⊆ cs := by first | decide | (refine List.Subset.trans ?_ ‹_ ⊆ _›; decide)) : Keeps cs s₀ (State.fire k s) := by
  unfold State.fire
  try dsimp only
  with_reducible repeat' (first
    | assumption | exact List.Subset.trans (by decide) hm | apply Keeps.ite | apply State.updSource_keeps
    | apply State.bump_keeps | apply State.raiseLimited_keeps | refine Keeps.of_pair (by assumption) ?_ | intro _ | split)

theorem execAssayTimerFire_keeps {t : Fin 8} {s : State} (hk : Keeps cs s₀ s)
    (hm : ([.clerk, .hier, .tally, .assay] : List Comp) ⊆ cs := by first | decide | (refine List.Subset.trans ?_ ‹_ ⊆ _›; decide)) : AnsKeeps cs s₀ (execAssayTimerFire t s) := by
  unfold execAssayTimerFire
  try dsimp only
  with_reducible repeat' (first
    | assumption | exact List.Subset.trans (by decide) hm | apply AnsKeeps.next | apply happen_keeps | apply State.fire_keeps
    | refine Keeps.of_pair (by assumption) ?_ | intro _)

theorem execPwmPeriodStart_keeps {l : Fin 24} {s : State} (hk : Keeps cs s₀ s)
    (hm : ([.clerk, .hier, .tally, .assay] : List Comp) ⊆ cs := by first | decide | (refine List.Subset.trans ?_ ‹_ ⊆ _›; decide)) : AnsKeeps cs s₀ (execPwmPeriodStart l s) := by
  unfold execPwmPeriodStart
  try dsimp only
  with_reducible repeat' (first
    | assumption | exact List.Subset.trans (by decide) hm | apply AnsKeeps.next | apply happen_keeps
    | apply State.updPwm_keeps | apply State.fire_keeps | refine Keeps.of_pair (by assumption) ?_ | intro _)

theorem execInternalScan_keeps {s : State} (hk : Keeps cs s₀ s)
    (hm : ([.clerk, .hier, .tally, .assay] : List Comp) ⊆ cs := by first | decide | (refine List.Subset.trans ?_ ‹_ ⊆ _›; decide)) : AnsKeeps cs s₀ (execInternalScan s) := by
  unfold execInternalScan
  try dsimp only
  with_reducible repeat' (first
    | assumption | exact List.Subset.trans (by decide) hm | apply AnsKeeps.next | apply happen_keeps | apply State.fire_keeps
    | refine Keeps.of_pair (by assumption) ?_ | intro _)

theorem State.startSeq_keeps {k : Nat} {s : State} (hk : Keeps cs s₀ s)
    (hm : ([.tally, .assay] : List Comp) ⊆ cs := by first | decide | (refine List.Subset.trans ?_ ‹_ ⊆ _›; decide)) : Keeps cs s₀ (State.startSeq k s) := by
  unfold State.startSeq
  try dsimp only
  with_reducible repeat' (first
    | assumption | exact List.Subset.trans (by decide) hm | apply State.updSource_keeps | apply withAssay_keeps
    | apply State.bump_keeps | refine Keeps.of_pair (by assumption) ?_ | intro _)

theorem execTriggerDelayEnd_keeps {src : Fin 33} {s : State} (hk : Keeps cs s₀ s)
    (hm : ([.tally, .assay] : List Comp) ⊆ cs := by first | decide | (refine List.Subset.trans ?_ ‹_ ⊆ _›; decide)) : AnsKeeps cs s₀ (execTriggerDelayEnd src s) := by
  unfold execTriggerDelayEnd
  try dsimp only
  with_reducible repeat' (first
    | assumption | exact List.Subset.trans (by decide) hm | apply AnsKeeps.next | apply happen_keeps
    | apply State.startSeq_keeps | apply State.bump_keeps | apply State.updSource_keeps | apply withAssay_keeps
    | refine Keeps.of_pair (by assumption) ?_ | intro _ | split)

theorem State.judgeJunctions_keeps {s : State} (hk : Keeps cs s₀ s)
    (hm : ([.free, .bar0, .clerk, .hier, .tally, .assay] : List Comp) ⊆ cs := by first | decide | (refine List.Subset.trans ?_ ‹_ ⊆ _›; decide)) : Keeps cs s₀ (State.judgeJunctions s) := by
  unfold State.judgeJunctions
  try dsimp only
  with_reducible repeat' (first
    | assumption | exact List.Subset.trans (by decide) hm | apply Keeps.ite | apply State.take_keeps | apply withAssay_keeps
    | apply withBar0_keeps | apply State.raise_keeps | refine Keeps.of_pair (by assumption) ?_ | intro _ | split)

theorem execSequenceEnd_keeps {s : State} (hk : Keeps cs s₀ s)
    (hm : ([.free, .bar0, .clerk, .hier, .tally, .assay] : List Comp) ⊆ cs := by first | decide | (refine List.Subset.trans ?_ ‹_ ⊆ _›; decide)) : AnsKeeps cs s₀ (execSequenceEnd s) := by
  unfold execSequenceEnd
  try dsimp only
  with_reducible repeat' (first
    | assumption | exact List.Subset.trans (by decide) hm | apply Keeps.ite | apply AnsKeeps.ite | apply AnsKeeps.next
    | apply State.judgeJunctions_keeps | apply happen_keeps | apply withAssay_keeps | apply State.startSeq_keeps
    | apply State.bump_keeps | refine Keeps.of_pair (by assumption) ?_ | intro _ | split)

theorem State.compare_keeps {c : Nat} {s : State} (hk : Keeps cs s₀ s)
    (hm : ([.clerk, .hier, .tally, .assay] : List Comp) ⊆ cs := by first | decide | (refine List.Subset.trans ?_ ‹_ ⊆ _›; decide)) : Keeps cs s₀ (State.compare c s) := by
  unfold State.compare
  try dsimp only
  with_reducible repeat' (first
    | assumption | exact List.Subset.trans (by decide) hm | apply Keeps.ite | apply State.updChan_keeps
    | apply State.bump_keeps | apply State.raise_keeps | refine Keeps.of_pair (by assumption) ?_ | intro _ | split)

theorem execConversionResult_keeps {ch : Fin 96} {code : BitVec 14} {filterOut : Option (BitVec 16 × BitVec 16)} {s : State}
    (hk : Keeps cs s₀ s)
    (hm : ([.free, .clerk, .hier, .tally, .assay] : List Comp) ⊆ cs := by first | decide | (refine List.Subset.trans ?_ ‹_ ⊆ _›; decide)) : AnsKeeps cs s₀ (execConversionResult ch code filterOut s) := by
  unfold execConversionResult
  try dsimp only
  with_reducible repeat' (first
    | assumption | exact List.Subset.trans (by decide) hm | apply Keeps.ite | apply AnsKeeps.ite | apply AnsKeeps.next
    | apply State.bump_keeps | apply happen_keeps | apply State.updChan_keeps | apply State.compare_keeps
    | apply State.take_keeps | refine Keeps.of_pair (by assumption) ?_ | intro _ | split)

theorem execBiasLoopUpdate_keeps {l : Fin 24} {plus minus : Nat} {s : State} (hk : Keeps cs s₀ s)
    (hm : ([.tally, .assay] : List Comp) ⊆ cs := by first | decide | (refine List.Subset.trans ?_ ‹_ ⊆ _›; decide)) : AnsKeeps cs s₀ (execBiasLoopUpdate l plus minus s) := by
  unfold execBiasLoopUpdate
  try dsimp only
  with_reducible repeat' (first
    | assumption | exact List.Subset.trans (by decide) hm | apply Keeps.ite | apply AnsKeeps.ite | apply AnsKeeps.next
    | apply happen_keeps | apply State.updBias_keeps | apply State.bump_keeps | refine Keeps.of_pair (by assumption) ?_
    | intro _ | split)

theorem execBiasAlarmHold_keeps {l : Fin 24} {cause : Fin 5} {s : State} (hk : Keeps cs s₀ s)
    (hm : ([.clerk, .hier, .tally, .assay] : List Comp) ⊆ cs := by first | decide | (refine List.Subset.trans ?_ ‹_ ⊆ _›; decide)) : AnsKeeps cs s₀ (execBiasAlarmHold l cause s) := by
  unfold execBiasAlarmHold
  try dsimp only
  with_reducible repeat' (first
    | assumption | exact List.Subset.trans (by decide) hm | apply Keeps.ite | apply AnsKeeps.ite | apply AnsKeeps.next
    | apply State.raise_keeps | apply happen_keeps | apply State.updBias_keeps | refine Keeps.of_pair (by assumption) ?_
    | intro _ | split)

theorem setTimer_keeps {c : Cmd} {s : State} (hk : Keeps cs s₀ s)
    (hm : ([.assay] : List Comp) ⊆ cs := by first | decide | (refine List.Subset.trans ?_ ‹_ ⊆ _›; decide)) : Keeps cs s₀ (setTimer c s) := by
  unfold setTimer
  try dsimp only
  with_reducible repeat' (first
    | assumption | exact List.Subset.trans (by decide) hm | apply withAssay_keeps | refine Keeps.of_pair (by assumption) ?_
    | intro _)

theorem assayTimerSetOp_keeps {c : Cmd} (hk : Keeps cs s₀ s)
    (hm : ([.assay] : List Comp) ⊆ cs := by first | decide | (refine List.Subset.trans ?_ ‹_ ⊆ _›; decide)) : Keeps cs s₀ (assayTimerSetOp.effect c s).2 := by
  unfold assayTimerSetOp
  try dsimp only
  with_reducible repeat' (first
    | assumption | exact List.Subset.trans (by decide) hm | apply setTimer_keeps | apply sets_keeps
    | refine Keeps.of_pair (by assumption) ?_ | intro _)

theorem execAssayTimerSet_keeps {c : Cmd} {s : State} (hk : Keeps cs s₀ s)
    (hm : ([.out, .bar0, .clerk, .tally, .assay] : List Comp) ⊆ cs := by first | decide | (refine List.Subset.trans ?_ ‹_ ⊆ _›; decide)) : AnsKeeps cs s₀ (execAssayTimerSet c s) := by
  unfold execAssayTimerSet
  try dsimp only
  with_reducible repeat' (first
    | assumption | exact List.Subset.trans (by decide) hm | apply AnsKeeps.next | apply serve_keeps
    | apply assayTimerSetOp_keeps | intro _)

theorem setSeq_keeps {c : Cmd} {s : State} (hk : Keeps cs s₀ s)
    (hm : ([.assay] : List Comp) ⊆ cs := by first | decide | (refine List.Subset.trans ?_ ‹_ ⊆ _›; decide)) : Keeps cs s₀ (setSeq c s) := by
  unfold setSeq
  try dsimp only
  with_reducible repeat' (first
    | assumption | exact List.Subset.trans (by decide) hm | apply State.updSource_keeps
    | refine Keeps.of_pair (by assumption) ?_ | intro _)

theorem assaySeqSetOp_keeps {c : Cmd} (hk : Keeps cs s₀ s)
    (hm : ([.assay] : List Comp) ⊆ cs := by first | decide | (refine List.Subset.trans ?_ ‹_ ⊆ _›; decide)) : Keeps cs s₀ (assaySeqSetOp.effect c s).2 := by
  unfold assaySeqSetOp
  try dsimp only
  with_reducible repeat' (first
    | assumption | exact List.Subset.trans (by decide) hm | apply setSeq_keeps | apply sets_keeps
    | refine Keeps.of_pair (by assumption) ?_ | intro _)

theorem execAssaySeqSet_keeps {c : Cmd} {s : State} (hk : Keeps cs s₀ s)
    (hm : ([.out, .bar0, .clerk, .tally, .assay] : List Comp) ⊆ cs := by first | decide | (refine List.Subset.trans ?_ ‹_ ⊆ _›; decide)) : AnsKeeps cs s₀ (execAssaySeqSet c s) := by
  unfold execAssaySeqSet
  try dsimp only
  with_reducible repeat' (first
    | assumption | exact List.Subset.trans (by decide) hm | apply AnsKeeps.next | apply serve_keeps
    | apply assaySeqSetOp_keeps | intro _)

theorem setChan_keeps {c : Cmd} {s : State} (hk : Keeps cs s₀ s)
    (hm : ([.assay] : List Comp) ⊆ cs := by first | decide | (refine List.Subset.trans ?_ ‹_ ⊆ _›; decide)) : Keeps cs s₀ (setChan c s) := by
  unfold setChan
  try dsimp only
  with_reducible repeat' (first
    | assumption | exact List.Subset.trans (by decide) hm | apply State.updChan_keeps
    | refine Keeps.of_pair (by assumption) ?_ | intro _)

theorem assayChanSetOp_keeps {c : Cmd} (hk : Keeps cs s₀ s)
    (hm : ([.assay] : List Comp) ⊆ cs := by first | decide | (refine List.Subset.trans ?_ ‹_ ⊆ _›; decide)) : Keeps cs s₀ (assayChanSetOp.effect c s).2 := by
  unfold assayChanSetOp
  try dsimp only
  with_reducible repeat' (first
    | assumption | exact List.Subset.trans (by decide) hm | apply setChan_keeps | apply sets_keeps
    | refine Keeps.of_pair (by assumption) ?_ | intro _)

theorem execAssayChanSet_keeps {c : Cmd} {s : State} (hk : Keeps cs s₀ s)
    (hm : ([.out, .bar0, .clerk, .tally, .assay] : List Comp) ⊆ cs := by first | decide | (refine List.Subset.trans ?_ ‹_ ⊆ _›; decide)) : AnsKeeps cs s₀ (execAssayChanSet c s) := by
  unfold execAssayChanSet
  try dsimp only
  with_reducible repeat' (first
    | assumption | exact List.Subset.trans (by decide) hm | apply AnsKeeps.next | apply serve_keeps
    | apply assayChanSetOp_keeps | intro _)

theorem assayTelemReadOp_keeps {c : Cmd} (hk : Keeps cs s₀ s) : Keeps cs s₀ (assayTelemReadOp.effect c s).2 := by
  unfold assayTelemReadOp
  try dsimp only
  with_reducible repeat' (first | assumption | apply reads_keeps | refine Keeps.of_pair (by assumption) ?_ | intro _)

theorem execAssayTelemRead_keeps {c : Cmd} {s : State} (hk : Keeps cs s₀ s)
    (hm : ([.out, .bar0, .clerk, .tally] : List Comp) ⊆ cs := by first | decide | (refine List.Subset.trans ?_ ‹_ ⊆ _›; decide)) : AnsKeeps cs s₀ (execAssayTelemRead c s) := by
  unfold execAssayTelemRead
  try dsimp only
  with_reducible repeat' (first
    | assumption | exact List.Subset.trans (by decide) hm | apply AnsKeeps.next | apply serve_keeps
    | apply assayTelemReadOp_keeps | intro _)

theorem assayPwmSetOp_keeps {c : Cmd} (hk : Keeps cs s₀ s)
    (hm : ([.assay] : List Comp) ⊆ cs := by first | decide | (refine List.Subset.trans ?_ ‹_ ⊆ _›; decide)) : Keeps cs s₀ (assayPwmSetOp.effect c s).2 := by
  unfold assayPwmSetOp
  try dsimp only
  with_reducible repeat' (first
    | assumption | exact List.Subset.trans (by decide) hm | apply sets_keeps | apply State.updPwm_keeps
    | refine Keeps.of_pair (by assumption) ?_ | intro _)

theorem execAssayPwmSet_keeps {c : Cmd} {s : State} (hk : Keeps cs s₀ s)
    (hm : ([.out, .bar0, .clerk, .tally, .assay] : List Comp) ⊆ cs := by first | decide | (refine List.Subset.trans ?_ ‹_ ⊆ _›; decide)) : AnsKeeps cs s₀ (execAssayPwmSet c s) := by
  unfold execAssayPwmSet
  try dsimp only
  with_reducible repeat' (first
    | assumption | exact List.Subset.trans (by decide) hm | apply AnsKeeps.next | apply serve_keeps
    | apply assayPwmSetOp_keeps | intro _)

theorem assayBiasSetOp_keeps {c : Cmd} (hk : Keeps cs s₀ s)
    (hm : ([.assay] : List Comp) ⊆ cs := by first | decide | (refine List.Subset.trans ?_ ‹_ ⊆ _›; decide)) : Keeps cs s₀ (assayBiasSetOp.effect c s).2 := by
  unfold assayBiasSetOp
  try dsimp only
  with_reducible repeat' (first
    | assumption | exact List.Subset.trans (by decide) hm | apply Keeps.ite | apply Keeps.ite_snd | apply sets_keeps
    | apply State.updBias_keeps | refine Keeps.of_pair (by assumption) ?_ | intro _ | split)

theorem execAssayBiasSet_keeps {c : Cmd} {s : State} (hk : Keeps cs s₀ s)
    (hm : ([.out, .bar0, .clerk, .tally, .assay] : List Comp) ⊆ cs := by first | decide | (refine List.Subset.trans ?_ ‹_ ⊆ _›; decide)) : AnsKeeps cs s₀ (execAssayBiasSet c s) := by
  unfold execAssayBiasSet
  try dsimp only
  with_reducible repeat' (first
    | assumption | exact List.Subset.trans (by decide) hm | apply AnsKeeps.next | apply serve_keeps
    | apply assayBiasSetOp_keeps | intro _)

theorem assayBiasStatusOp_keeps {c : Cmd} (hk : Keeps cs s₀ s)
    (hm : ([.free] : List Comp) ⊆ cs := by first | decide | (refine List.Subset.trans ?_ ‹_ ⊆ _›; decide)) : Keeps cs s₀ (assayBiasStatusOp.effect c s).2 := by
  unfold assayBiasStatusOp
  try dsimp only
  with_reducible repeat' (first
    | assumption | exact List.Subset.trans (by decide) hm | apply withFree_keeps | refine Keeps.of_pair (by assumption) ?_
    | intro _)

theorem execAssayBiasStatus_keeps {c : Cmd} {s : State} (hk : Keeps cs s₀ s)
    (hm : ([.free, .out, .bar0, .clerk, .tally] : List Comp) ⊆ cs := by first | decide | (refine List.Subset.trans ?_ ‹_ ⊆ _›; decide)) : AnsKeeps cs s₀ (execAssayBiasStatus c s) := by
  unfold execAssayBiasStatus
  try dsimp only
  with_reducible repeat' (first
    | assumption | exact List.Subset.trans (by decide) hm | apply AnsKeeps.next | apply serve_keeps
    | apply assayBiasStatusOp_keeps | intro _)

theorem assayCountersOp_keeps {c : Cmd} (hk : Keeps cs s₀ s) : Keeps cs s₀ (assayCountersOp.effect c s).2 := by
  unfold assayCountersOp
  try dsimp only
  with_reducible repeat' (first | assumption | apply reads_keeps | refine Keeps.of_pair (by assumption) ?_ | intro _)

theorem execAssayCounters_keeps {c : Cmd} {s : State} (hk : Keeps cs s₀ s)
    (hm : ([.out, .bar0, .clerk, .tally] : List Comp) ⊆ cs := by first | decide | (refine List.Subset.trans ?_ ‹_ ⊆ _›; decide)) : AnsKeeps cs s₀ (execAssayCounters c s) := by
  unfold execAssayCounters
  try dsimp only
  with_reducible repeat' (first
    | assumption | exact List.Subset.trans (by decide) hm | apply AnsKeeps.next | apply serve_keeps
    | apply assayCountersOp_keeps | intro _)

/-! ### Bar0.lean -/

theorem State.latchTime_keeps {i : Iface} {s : State} (hk : Keeps cs s₀ s)
    (hm : ([.bar0] : List Comp) ⊆ cs := by first | decide | (refine List.Subset.trans ?_ ‹_ ⊆ _›; decide)) : Keeps cs s₀ (State.latchTime i s) := by
  unfold State.latchTime
  try dsimp only
  with_reducible repeat' (first
    | assumption | exact List.Subset.trans (by decide) hm | apply withBar0_keeps | refine Keeps.of_pair (by assumption) ?_
    | intro _)

theorem State.readBar0_keeps {i : Iface} {off : Nat} {s : State} (hk : Keeps cs s₀ s)
    (hm : ([.bar0] : List Comp) ⊆ cs := by first | decide | (refine List.Subset.trans ?_ ‹_ ⊆ _›; decide)) : Keeps cs s₀ (State.readBar0 i off s).2 := by
  unfold State.readBar0
  try dsimp only
  with_reducible repeat' (first
    | assumption | exact List.Subset.trans (by decide) hm | apply Keeps.ite | apply Keeps.ite_snd
    | apply State.latchTime_keeps | refine Keeps.of_pair (by assumption) ?_ | intro _ | split)

theorem readWords_keeps {i : Iface} (hm : ([.bar0] : List Comp) ⊆ cs) : ∀ {n off : Nat} {s : State}, Keeps cs s₀ s → Keeps cs s₀ (readWords i n off s).2 := by
  intro n
  induction n with
  | zero => intro off s h; exact h
  | succ n ih => intro off s h; exact ih (State.readBar0_keeps h)

theorem State.rearmEvents_keeps {s : State} (hk : Keeps cs s₀ s)
    (hm : ([.bar0] : List Comp) ⊆ cs := by first | decide | (refine List.Subset.trans ?_ ‹_ ⊆ _›; decide)) : Keeps cs s₀ (State.rearmEvents s) := by
  unfold State.rearmEvents
  try dsimp only
  with_reducible repeat' (first
    | assumption | exact List.Subset.trans (by decide) hm | apply State.rearm_keeps | apply foldl_keeps
    | refine Keeps.of_pair (by assumption) ?_ | intro _)

theorem State.rearmRing_keeps {k : Nat} {s : State} (hk : Keeps cs s₀ s)
    (hm : ([.bar0] : List Comp) ⊆ cs := by first | decide | (refine List.Subset.trans ?_ ‹_ ⊆ _›; decide)) : Keeps cs s₀ (State.rearmRing k s) := by
  unfold State.rearmRing
  try dsimp only
  with_reducible repeat' (first
    | assumption | exact List.Subset.trans (by decide) hm | apply Keeps.ite | apply State.rearmEvents_keeps
    | apply State.rearm_keeps | refine Keeps.of_pair (by assumption) ?_ | intro _ | split)

theorem State.flushRing_keeps {k : Nat} {s : State} (hk : Keeps cs s₀ s)
    (hm : ([.out, .bar0, .clerk] : List Comp) ⊆ cs := by first | decide | (refine List.Subset.trans ?_ ‹_ ⊆ _›; decide)) : Keeps cs s₀ (State.flushRing k s) := by
  unfold State.flushRing
  try dsimp only
  with_reducible repeat' (first
    | assumption | exact List.Subset.trans (by decide) hm | apply Keeps.ite | apply State.flushReplies_keeps
    | refine Keeps.of_pair (by assumption) ?_ | intro _ | split)

theorem State.enableRing_keeps {k : Nat} {r : Ring} {s : State} (hk : Keeps cs s₀ s)
    (hm : ([.out, .bar0, .clerk, .hier, .tally] : List Comp) ⊆ cs := by first | decide | (refine List.Subset.trans ?_ ‹_ ⊆ _›; decide)) : Keeps cs s₀ (State.enableRing k r s) := by
  unfold State.enableRing
  try dsimp only
  with_reducible repeat' (first
    | assumption | exact List.Subset.trans (by decide) hm | apply Keeps.ite | apply State.setRing_keeps | apply withBar0_keeps
    | apply State.rearmRing_keeps | apply State.flushRing_keeps | apply State.stopRing_keeps
    | refine Keeps.of_pair (by assumption) ?_ | intro _ | split)

theorem State.writeRingCtl_keeps {k : Nat} {v : Word} {s : State} (hk : Keeps cs s₀ s)
    (hm : ([.out, .bar0, .clerk, .hier, .tally] : List Comp) ⊆ cs := by first | decide | (refine List.Subset.trans ?_ ‹_ ⊆ _›; decide)) : Keeps cs s₀ (State.writeRingCtl k v s) := by
  unfold State.writeRingCtl
  try dsimp only
  with_reducible repeat' (first
    | assumption | exact List.Subset.trans (by decide) hm | apply Keeps.ite | apply State.setRing_keeps
    | apply State.enableRing_keeps | intro _ | split)

theorem State.writeBase_keeps {k : Nat} {high : Bool} {v : Word} {s : State} (hk : Keeps cs s₀ s)
    (hm : ([.bar0] : List Comp) ⊆ cs := by first | decide | (refine List.Subset.trans ?_ ‹_ ⊆ _›; decide)) : Keeps cs s₀ (State.writeBase k high v s) := by
  unfold State.writeBase
  try dsimp only
  with_reducible repeat' (first
    | assumption | exact List.Subset.trans (by decide) hm | apply Keeps.ite | apply State.setRing_keeps | intro _ | split)

theorem State.writeProd_keeps {k : Nat} {v : Word} {s : State} (hk : Keeps cs s₀ s)
    (hm : ([.bar0, .clerk, .hier, .tally] : List Comp) ⊆ cs := by first | decide | (refine List.Subset.trans ?_ ‹_ ⊆ _›; decide)) : Keeps cs s₀ (State.writeProd k v s) := by
  unfold State.writeProd
  try dsimp only
  with_reducible repeat' (first
    | assumption | exact List.Subset.trans (by decide) hm | apply Keeps.ite | apply State.stopRing_keeps
    | apply State.setRing_keeps | intro _ | split)

theorem State.writeCons_keeps {k : Nat} {v : Word} {s : State} (hk : Keeps cs s₀ s)
    (hm : ([.out, .bar0, .clerk, .hier, .tally] : List Comp) ⊆ cs := by first | decide | (refine List.Subset.trans ?_ ‹_ ⊆ _›; decide)) : Keeps cs s₀ (State.writeCons k v s) := by
  unfold State.writeCons
  try dsimp only
  with_reducible repeat' (first
    | assumption | exact List.Subset.trans (by decide) hm | apply Keeps.ite | apply State.stopRing_keeps
    | apply State.setRing_keeps | apply State.rearmRing_keeps | apply State.flushRing_keeps
    | refine Keeps.of_pair (by assumption) ?_ | intro _ | split)

theorem State.writeVector_keeps {g : Nat} {v : Word} {s : State} (hk : Keeps cs s₀ s)
    (hm : ([.bar0] : List Comp) ⊆ cs := by first | decide | (refine List.Subset.trans ?_ ‹_ ⊆ _›; decide)) : Keeps cs s₀ (State.writeVector g v s) := by
  unfold State.writeVector
  try dsimp only
  with_reducible repeat' (first
    | assumption | exact List.Subset.trans (by decide) hm | apply Keeps.ite | apply withBar0_keeps
    | refine Keeps.of_pair (by assumption) ?_ | intro _ | split)

theorem State.writeMsix_keeps {k : Nat} {v : Word} {s : State} (hk : Keeps cs s₀ s)
    (hm : ([.out, .bar0] : List Comp) ⊆ cs := by first | decide | (refine List.Subset.trans ?_ ‹_ ⊆ _›; decide)) : Keeps cs s₀ (State.writeMsix k v s) := by
  unfold State.writeMsix
  try dsimp only
  with_reducible repeat' (first
    | assumption | exact List.Subset.trans (by decide) hm | apply Keeps.ite | apply withBar0_keeps | apply State.emit_keeps
    | refine Keeps.of_pair (by assumption) ?_ | intro _ | split)

theorem State.writeStatus_keeps {v : Word} {s : State} (hk : Keeps cs s₀ s)
    (hm : ([.bar0, .clerk, .hier, .tally] : List Comp) ⊆ cs := by first | decide | (refine List.Subset.trans ?_ ‹_ ⊆ _›; decide)) : Keeps cs s₀ (State.writeStatus v s) := by
  unfold State.writeStatus
  try dsimp only
  with_reducible repeat' (first
    | assumption | exact List.Subset.trans (by decide) hm | apply withBar0_keeps | apply State.refreshHealth_keeps
    | refine Keeps.of_pair (by assumption) ?_ | intro _)

theorem State.writeBar0_keeps {off : Nat} {v : Word} {s : State} (hk : Keeps cs s₀ s)
    (hm : ([.out, .bar0, .clerk, .hier, .tally] : List Comp) ⊆ cs := by first | decide | (refine List.Subset.trans ?_ ‹_ ⊆ _›; decide)) : Keeps cs s₀ (State.writeBar0 off v s) := by
  unfold State.writeBar0
  try dsimp only
  with_reducible repeat' (first
    | assumption | exact List.Subset.trans (by decide) hm | apply Keeps.ite | apply State.writeStatus_keeps
    | apply State.writeVector_keeps | apply State.writeMsix_keeps | apply State.writeBase_keeps
    | apply State.writeRingCtl_keeps | apply State.writeProd_keeps | apply State.writeCons_keeps
    | refine Keeps.of_pair (by assumption) ?_ | intro _ | split)

theorem writeWords_keeps (hm : ([.out, .bar0, .clerk, .hier, .tally] : List Comp) ⊆ cs) : ∀ {l : List Word} {off : Nat} {s : State}, Keeps cs s₀ s → Keeps cs s₀ (writeWords off l s) := by
  intro l
  induction l with
  | nil => intro off s h; exact h
  | cons w r ih => intro off s h; exact ih (State.writeBar0_keeps h)

theorem execDoorbellWrite_keeps {q : Queue} {value : Word} {s : State} (hk : Keeps cs s₀ s)
    (hm : ([.bar0, .clerk, .hier, .tally] : List Comp) ⊆ cs := by first | decide | (refine List.Subset.trans ?_ ‹_ ⊆ _›; decide)) : AnsKeeps cs s₀ (execDoorbellWrite q value s) := by
  unfold execDoorbellWrite
  try dsimp only
  with_reducible repeat' (first
    | assumption | exact List.Subset.trans (by decide) hm | apply AnsKeeps.next | apply happen_keeps
    | apply State.writeProd_keeps | refine Keeps.of_pair (by assumption) ?_ | intro _)

theorem execConsWrite_keeps {ring : Fin 9} {value : Word} {s : State} (hk : Keeps cs s₀ s)
    (hm : ([.out, .bar0, .clerk, .hier, .tally] : List Comp) ⊆ cs := by first | decide | (refine List.Subset.trans ?_ ‹_ ⊆ _›; decide)) : AnsKeeps cs s₀ (execConsWrite ring value s) := by
  unfold execConsWrite
  try dsimp only
  with_reducible repeat' (first
    | assumption | exact List.Subset.trans (by decide) hm | apply AnsKeeps.next | apply happen_keeps
    | apply State.writeCons_keeps | refine Keeps.of_pair (by assumption) ?_ | intro _)

theorem execRingEnable_keeps {ring : Fin 9} {value : Word} {s : State} (hk : Keeps cs s₀ s)
    (hm : ([.out, .bar0, .clerk, .hier, .tally] : List Comp) ⊆ cs := by first | decide | (refine List.Subset.trans ?_ ‹_ ⊆ _›; decide)) : AnsKeeps cs s₀ (execRingEnable ring value s) := by
  unfold execRingEnable
  try dsimp only
  with_reducible repeat' (first
    | assumption | exact List.Subset.trans (by decide) hm | apply AnsKeeps.next | apply happen_keeps
    | apply State.writeRingCtl_keeps | refine Keeps.of_pair (by assumption) ?_ | intro _)

theorem execRingDisable_keeps {ring : Fin 9} {value : Word} {s : State} (hk : Keeps cs s₀ s)
    (hm : ([.out, .bar0, .clerk, .hier, .tally] : List Comp) ⊆ cs := by first | decide | (refine List.Subset.trans ?_ ‹_ ⊆ _›; decide)) : AnsKeeps cs s₀ (execRingDisable ring value s) := by
  unfold execRingDisable
  try dsimp only
  with_reducible repeat' (first
    | assumption | exact List.Subset.trans (by decide) hm | apply AnsKeeps.next | apply happen_keeps
    | apply State.writeRingCtl_keeps | refine Keeps.of_pair (by assumption) ?_ | intro _)

theorem execRingStop_keeps {ring : Fin 9} {s : State} (hk : Keeps cs s₀ s)
    (hm : ([.bar0, .clerk, .hier, .tally] : List Comp) ⊆ cs := by first | decide | (refine List.Subset.trans ?_ ‹_ ⊆ _›; decide)) : AnsKeeps cs s₀ (execRingStop ring s) := by
  unfold execRingStop
  try dsimp only
  with_reducible repeat' (first
    | assumption | exact List.Subset.trans (by decide) hm | apply AnsKeeps.next | apply happen_keeps
    | apply State.stopRing_keeps | refine Keeps.of_pair (by assumption) ?_ | intro _)

theorem execStoppedClear_keeps {ring : Fin 9} {value : Word} {s : State} (hk : Keeps cs s₀ s)
    (hm : ([.out, .bar0, .clerk, .hier, .tally] : List Comp) ⊆ cs := by first | decide | (refine List.Subset.trans ?_ ‹_ ⊆ _›; decide)) : AnsKeeps cs s₀ (execStoppedClear ring value s) := by
  unfold execStoppedClear
  try dsimp only
  with_reducible repeat' (first
    | assumption | exact List.Subset.trans (by decide) hm | apply AnsKeeps.next | apply happen_keeps
    | apply State.writeRingCtl_keeps | refine Keeps.of_pair (by assumption) ?_ | intro _)

theorem execTempExcursionClear_keeps {value : Word} {s : State} (hk : Keeps cs s₀ s)
    (hm : ([.bar0, .clerk, .hier, .tally] : List Comp) ⊆ cs := by first | decide | (refine List.Subset.trans ?_ ‹_ ⊆ _›; decide)) : AnsKeeps cs s₀ (execTempExcursionClear value s) := by
  unfold execTempExcursionClear
  try dsimp only
  with_reducible repeat' (first
    | assumption | exact List.Subset.trans (by decide) hm | apply AnsKeeps.next | apply happen_keeps
    | apply State.writeStatus_keeps | refine Keeps.of_pair (by assumption) ?_ | intro _)

theorem execPaceShortClear_keeps {value : Word} {s : State} (hk : Keeps cs s₀ s)
    (hm : ([.bar0, .clerk, .hier, .tally] : List Comp) ⊆ cs := by first | decide | (refine List.Subset.trans ?_ ‹_ ⊆ _›; decide)) : AnsKeeps cs s₀ (execPaceShortClear value s) := by
  unfold execPaceShortClear
  try dsimp only
  with_reducible repeat' (first
    | assumption | exact List.Subset.trans (by decide) hm | apply AnsKeeps.next | apply happen_keeps
    | apply State.writeStatus_keeps | refine Keeps.of_pair (by assumption) ?_ | intro _)

theorem execTimeLoRead_keeps {i : Iface} {wide : Bool} {s : State} (hk : Keeps cs s₀ s)
    (hm : ([.out, .bar0] : List Comp) ⊆ cs := by first | decide | (refine List.Subset.trans ?_ ‹_ ⊆ _›; decide)) : AnsKeeps cs s₀ (execTimeLoRead i wide s) := by
  unfold execTimeLoRead
  try dsimp only
  with_reducible repeat' (first
    | assumption | exact List.Subset.trans (by decide) hm | apply Keeps.ite | apply AnsKeeps.ite | apply AnsKeeps.next
    | apply State.latchTime_keeps | apply happen_keeps | apply State.emit_keeps | refine Keeps.of_pair (by assumption) ?_
    | intro _ | split)

theorem execRegisterWrite_keeps {offset : BitVec 12} {value : Word} {s : State} (hk : Keeps cs s₀ s)
    (hm : ([.out, .bar0, .clerk, .hier, .tally] : List Comp) ⊆ cs := by first | decide | (refine List.Subset.trans ?_ ‹_ ⊆ _›; decide)) : AnsKeeps cs s₀ (execRegisterWrite offset value s) := by
  unfold execRegisterWrite
  try dsimp only
  with_reducible repeat' (first
    | assumption | exact List.Subset.trans (by decide) hm | apply AnsKeeps.next | apply happen_keeps
    | apply State.writeBar0_keeps | refine Keeps.of_pair (by assumption) ?_ | intro _)

theorem State.nextEvent_keeps {i : Iface} {s t : State} {r : EvRec} (hk : Keeps cs s₀ s) (e : s.nextEvent i = some (r, t))
    (hm : ([.clerk, .hier, .tally] : List Comp) ⊆ cs := by first | decide | (refine List.Subset.trans ?_ ‹_ ⊆ _›; decide)) : Keeps cs s₀ t := by
  unfold State.nextEvent at e
  dsimp only at e
  split at e
  · cases e
    have h1 : Keeps cs s₀ ((s.bump (evCtr 0x0002) 1).logFault ⟨0x0002, 3, clerkHa, (s.clerk.ev.get i).dropped, s.timeWord⟩) :=
      State.logFault_keeps (State.bump_keeps hk)
    exact withEv_keeps h1 h1.clerk fun j => ev_get (h1.clerk j).1 (h1.clerk j).2.1
  · split at e
    · cases e
    · rename_i hb
      cases e
      refine withEv_keeps hk hk.clerk fun j => ?_
      have := ev_get (i := i) (hk.clerk j).1 (hk.clerk j).2.1
      rw [hb] at this
      simp only [List.length_cons] at this ⊢
      omega

theorem execEventDeliver_keeps {s : State} (hk : Keeps cs s₀ s)
    (hm : ([.out, .bar0, .clerk, .hier, .tally] : List Comp) ⊆ cs := by first | decide | (refine List.Subset.trans ?_ ‹_ ⊆ _›; decide)) : AnsKeeps cs s₀ (execEventDeliver s) := by
  unfold execEventDeliver
  try dsimp only
  with_reducible repeat' (first
    | assumption | exact List.Subset.trans (by decide) hm | apply Keeps.ite | apply AnsKeeps.ite | apply AnsKeeps.next
    | refine State.nextEvent_keeps ?_ (by assumption) | apply State.setRing_keeps | apply State.emit_keeps
    | apply withBar0_keeps | apply State.signal_keeps | refine Keeps.of_pair (by assumption) ?_ | intro _ | split)

theorem execBoundExpiry_keeps {i : Iface} {q : Queue} {seq : Byte} {s : State} (hk : Keeps cs s₀ s)
    (hm : ([.clerk, .hier, .tally] : List Comp) ⊆ cs := by first | decide | (refine List.Subset.trans ?_ ‹_ ⊆ _›; decide)) : AnsKeeps cs s₀ (execBoundExpiry i q seq s) := by
  unfold execBoundExpiry
  try dsimp only
  with_reducible repeat' (first
    | assumption | exact List.Subset.trans (by decide) hm | apply AnsKeeps.next | apply happen_keeps | apply State.bump_keeps
    | apply State.raise_keeps | refine Keeps.of_pair (by assumption) ?_ | intro _)

theorem State.lose_keeps {i : Iface} {data : Nat} {s : State} (hk : Keeps cs s₀ s)
    (hm : ([.clerk, .hier, .tally] : List Comp) ⊆ cs := by first | decide | (refine List.Subset.trans ?_ ‹_ ⊆ _›; decide)) : Keeps cs s₀ (State.lose i data s) := by
  unfold State.lose
  try dsimp only
  with_reducible repeat' (first
    | assumption | exact List.Subset.trans (by decide) hm | apply State.bump_keeps | apply State.raise_keeps
    | refine Keeps.of_pair (by assumption) ?_ | intro _)

theorem execSpiWriteCmd_keeps {index : Byte} {packet : List Word} {s : State} (hk : Keeps cs s₀ s)
    (hm : ([.clerk, .hier, .tally] : List Comp) ⊆ cs := by first | decide | (refine List.Subset.trans ?_ ‹_ ⊆ _›; decide)) : AnsKeeps cs s₀ (execSpiWriteCmd index packet s) := by
  unfold execSpiWriteCmd
  try dsimp only
  with_reducible repeat' (first
    | assumption | exact List.Subset.trans (by decide) hm | apply Keeps.ite | apply AnsKeeps.ite | apply AnsKeeps.next
    | apply State.lose_keeps | apply withClerk_keeps | refine Keeps.clerk' (cs := cs) (s₀ := s₀) rfl rfl ?_
    | refine Keeps.of_pair (by assumption) ?_ | intro _ | split)

theorem execSpiReadReply_keeps {index : Byte} {count : Nat} {s : State} (hk : Keeps cs s₀ s)
    (hm : ([.out, .clerk] : List Comp) ⊆ cs := by first | decide | (refine List.Subset.trans ?_ ‹_ ⊆ _›; decide)) : AnsKeeps cs s₀ (execSpiReadReply index count s) := by
  unfold execSpiReadReply
  try dsimp only
  with_reducible repeat' (first
    | assumption | exact List.Subset.trans (by decide) hm | apply Keeps.ite | apply AnsKeeps.ite | apply AnsKeeps.next
    | apply State.emit_keeps | apply withClerk_keeps | refine Keeps.clerk' (cs := cs) (s₀ := s₀) rfl rfl ?_
    | refine Keeps.of_pair (by assumption) ?_ | intro _ | split)

theorem readEvents_keeps (hm : ([.clerk, .hier, .tally] : List Comp) ⊆ cs) : ∀ {n part : Nat} {s : State}, Keeps cs s₀ s → Keeps cs s₀ (readEvents n part s).2 := by
  intro n
  induction n with
  | zero =>
    intro part s h
    unfold readEvents
    split <;> exact h
  | succ n ih =>
    intro part s h
    unfold readEvents
    split
    · exact h
    · exact ih (State.nextEvent_keeps h (by assumption))

theorem execSpiReadEvent_keeps {count : Nat} {s : State} (hk : Keeps cs s₀ s)
    (hm : ([.out, .clerk, .hier, .tally] : List Comp) ⊆ cs := by first | decide | (refine List.Subset.trans ?_ ‹_ ⊆ _›; decide)) : AnsKeeps cs s₀ (execSpiReadEvent count s) := by
  unfold execSpiReadEvent
  try dsimp only
  with_reducible repeat' (first
    | assumption | exact List.Subset.trans (by decide) hm | apply AnsKeeps.next | apply readEvents_keeps | apply happen_keeps
    | apply State.emit_keeps | refine Keeps.of_pair (by assumption) ?_ | intro _)

theorem execSpiReadWindow_keeps {offset : BitVec 16} {count : Nat} {s : State} (hk : Keeps cs s₀ s)
    (hm : ([.out, .bar0] : List Comp) ⊆ cs := by first | decide | (refine List.Subset.trans ?_ ‹_ ⊆ _›; decide)) : AnsKeeps cs s₀ (execSpiReadWindow offset count s) := by
  unfold execSpiReadWindow
  try dsimp only
  with_reducible repeat' (first
    | assumption | exact List.Subset.trans (by decide) hm | apply AnsKeeps.next | apply readWords_keeps | apply happen_keeps
    | apply State.emit_keeps | refine Keeps.of_pair (by assumption) ?_ | intro _)

theorem execSpiWriteWindow_keeps {offset : BitVec 16} {data : List Word} {s : State} (hk : Keeps cs s₀ s)
    (hm : ([.out, .bar0, .clerk, .hier, .tally] : List Comp) ⊆ cs := by first | decide | (refine List.Subset.trans ?_ ‹_ ⊆ _›; decide)) : AnsKeeps cs s₀ (execSpiWriteWindow offset data s) := by
  unfold execSpiWriteWindow
  try dsimp only
  with_reducible repeat' (first
    | assumption | exact List.Subset.trans (by decide) hm | apply AnsKeeps.next | apply happen_keeps | apply writeWords_keeps
    | refine Keeps.of_pair (by assumption) ?_ | intro _)

theorem execSpiBadInstruction_keeps {code : Byte} {s : State} (hk : Keeps cs s₀ s)
    (hm : ([.clerk, .hier, .tally] : List Comp) ⊆ cs := by first | decide | (refine List.Subset.trans ?_ ‹_ ⊆ _›; decide)) : AnsKeeps cs s₀ (execSpiBadInstruction code s) := by
  unfold execSpiBadInstruction
  try dsimp only
  with_reducible repeat' (first
    | assumption | exact List.Subset.trans (by decide) hm | apply AnsKeeps.next | apply happen_keeps | apply State.lose_keeps
    | refine Keeps.of_pair (by assumption) ?_ | intro _)

/-! ### Hallmark.lean -/

theorem State.extend_keeps {k : Nat} {item : List Byte} {s : State} (hk : Keeps cs s₀ s)
    (hm : ([.hall] : List Comp) ⊆ cs := by first | decide | (refine List.Subset.trans ?_ ‹_ ⊆ _›; decide)) : Keeps cs s₀ (State.extend k item s) :=
  withHall_keeps hk (Nat.le_refl _)

theorem State.measureSvn_keeps {s : State} (hk : Keeps cs s₀ s)
    (hm : ([.hall] : List Comp) ⊆ cs := by first | decide | (refine List.Subset.trans ?_ ‹_ ⊆ _›; decide)) : Keeps cs s₀ (State.measureSvn s) := by
  unfold State.measureSvn
  try dsimp only
  with_reducible repeat' (first
    | assumption | exact List.Subset.trans (by decide) hm | apply State.extend_keeps | refine Keeps.of_pair (by assumption) ?_
    | intro _)

theorem State.imageRejected_keeps {cause slot : Nat} {s : State} (hk : Keeps cs s₀ s)
    (hm : ([.clerk, .hier, .tally] : List Comp) ⊆ cs := by first | decide | (refine List.Subset.trans ?_ ‹_ ⊆ _›; decide)) : Keeps cs s₀ (State.imageRejected cause slot s) := by
  unfold State.imageRejected
  try dsimp only
  with_reducible repeat' (first
    | assumption | exact List.Subset.trans (by decide) hm | apply State.raise_keeps | apply State.slot_keeps
    | refine Keeps.of_pair (by assumption) ?_ | intro _)

theorem hallmarkCertReadOp_keeps {c : Cmd} (hk : Keeps cs s₀ s) : Keeps cs s₀ (hallmarkCertReadOp.effect c s).2 := by
  unfold hallmarkCertReadOp
  try dsimp only
  with_reducible repeat' (first | assumption | apply reads_keeps | refine Keeps.of_pair (by assumption) ?_ | intro _)

theorem execHallmarkCertRead_keeps {c : Cmd} {s : State} (hk : Keeps cs s₀ s)
    (hm : ([.out, .bar0, .clerk, .tally] : List Comp) ⊆ cs := by first | decide | (refine List.Subset.trans ?_ ‹_ ⊆ _›; decide)) : AnsKeeps cs s₀ (execHallmarkCertRead c s) := by
  unfold execHallmarkCertRead
  try dsimp only
  with_reducible repeat' (first
    | assumption | exact List.Subset.trans (by decide) hm | apply AnsKeeps.next | apply serve_keeps
    | apply hallmarkCertReadOp_keeps | intro _)

theorem hallmarkMeasureReadOp_keeps {c : Cmd} (hk : Keeps cs s₀ s) : Keeps cs s₀ (hallmarkMeasureReadOp.effect c s).2 := by
  unfold hallmarkMeasureReadOp
  try dsimp only
  with_reducible repeat' (first | assumption | apply reads_keeps | intro _)

theorem execHallmarkMeasureRead_keeps {c : Cmd} {s : State} (hk : Keeps cs s₀ s)
    (hm : ([.out, .bar0, .clerk, .tally] : List Comp) ⊆ cs := by first | decide | (refine List.Subset.trans ?_ ‹_ ⊆ _›; decide)) : AnsKeeps cs s₀ (execHallmarkMeasureRead c s) := by
  unfold execHallmarkMeasureRead
  try dsimp only
  with_reducible repeat' (first
    | assumption | exact List.Subset.trans (by decide) hm | apply AnsKeeps.next | apply serve_keeps
    | apply hallmarkMeasureReadOp_keeps | intro _)

theorem hallmarkAttestOp_keeps {c : Cmd} (hk : Keeps cs s₀ s) : Keeps cs s₀ (hallmarkAttestOp.effect c s).2 := by
  unfold hallmarkAttestOp
  try dsimp only
  with_reducible repeat' (first | assumption | apply reads_keeps | refine Keeps.of_pair (by assumption) ?_ | intro _)

theorem execHallmarkAttest_keeps {c : Cmd} {s : State} (hk : Keeps cs s₀ s)
    (hm : ([.out, .bar0, .clerk, .tally] : List Comp) ⊆ cs := by first | decide | (refine List.Subset.trans ?_ ‹_ ⊆ _›; decide)) : AnsKeeps cs s₀ (execHallmarkAttest c s) := by
  unfold execHallmarkAttest
  try dsimp only
  with_reducible repeat' (first
    | assumption | exact List.Subset.trans (by decide) hm | apply AnsKeeps.next | apply serve_keeps
    | apply hallmarkAttestOp_keeps | intro _)

theorem hallmarkKekOfferOp_keeps {c : Cmd} (hk : Keeps cs s₀ s)
    (hm : ([.free, .hall] : List Comp) ⊆ cs := by first | decide | (refine List.Subset.trans ?_ ‹_ ⊆ _›; decide)) : Keeps cs s₀ (hallmarkKekOfferOp.effect c s).2 :=
  withHall_keeps (withFree_keeps hk) (Nat.le_refl _)

theorem execHallmarkKekOffer_keeps {c : Cmd} {s : State} (hk : Keeps cs s₀ s)
    (hm : ([.free, .out, .bar0, .clerk, .tally, .hall] : List Comp) ⊆ cs := by first | decide | (refine List.Subset.trans ?_ ‹_ ⊆ _›; decide)) : AnsKeeps cs s₀ (execHallmarkKekOffer c s) := by
  unfold execHallmarkKekOffer
  try dsimp only
  with_reducible repeat' (first
    | assumption | exact List.Subset.trans (by decide) hm | apply AnsKeeps.next | apply serve_keeps
    | apply hallmarkKekOfferOp_keeps | intro _)

theorem hallmarkKekAcceptOp_keeps {c : Cmd} (hk : Keeps cs s₀ s)
    (hm : ([.clerk, .hier, .tally, .hall] : List Comp) ⊆ cs := by first | decide | (refine List.Subset.trans ?_ ‹_ ⊆ _›; decide)) : Keeps cs s₀ (hallmarkKekAcceptOp.effect c s).2 := by
  unfold hallmarkKekAcceptOp
  try dsimp only
  with_reducible repeat' (first
    | assumption | exact List.Subset.trans (by decide) hm | apply Keeps.ite | apply Keeps.ite_snd | apply withHall_keeps
    | apply State.extend_keeps | apply State.raise_keeps | exact Nat.le_refl _ | exact Nat.le_succ _ | exact State.take_fuses
    | refine Keeps.of_pair (by assumption) ?_ | intro _ | split)

theorem execHallmarkKekAccept_keeps {c : Cmd} {s : State} (hk : Keeps cs s₀ s)
    (hm : ([.out, .bar0, .clerk, .hier, .tally, .hall] : List Comp) ⊆ cs := by first | decide | (refine List.Subset.trans ?_ ‹_ ⊆ _›; decide)) : AnsKeeps cs s₀ (execHallmarkKekAccept c s) := by
  unfold execHallmarkKekAccept
  try dsimp only
  with_reducible repeat' (first
    | assumption | exact List.Subset.trans (by decide) hm | apply AnsKeeps.next | apply serve_keeps
    | apply hallmarkKekAcceptOp_keeps | intro _)

theorem State.endFuse_keeps {num status : Nat} {s : State} (hk : Keeps cs s₀ s)
    (hm : ([.clerk, .hier, .tally] : List Comp) ⊆ cs := by first | decide | (refine List.Subset.trans ?_ ‹_ ⊆ _›; decide)) : Keeps cs s₀ (State.endFuse num status s) := by
  unfold State.endFuse
  try dsimp only
  with_reducible repeat' (first
    | assumption | exact List.Subset.trans (by decide) hm | apply Keeps.ite | apply State.raise_keeps
    | apply State.endJob_keeps | refine Keeps.of_pair (by assumption) ?_ | intro _ | split)

theorem hallmarkFuseAdvanceOp_keeps {c : Cmd} (hk : Keeps cs s₀ s)
    (hm : ([.clerk, .hier, .tally] : List Comp) ⊆ cs := by first | decide | (refine List.Subset.trans ?_ ‹_ ⊆ _›; decide)) : Keeps cs s₀ (hallmarkFuseAdvanceOp.effect c s).2 := by
  unfold hallmarkFuseAdvanceOp
  try dsimp only
  with_reducible repeat' (first
    | assumption | exact List.Subset.trans (by decide) hm | apply Keeps.ite | apply Keeps.ite_snd | apply State.startJob_keeps
    | apply State.endFuse_keeps | refine Keeps.of_pair (by assumption) ?_ | intro _ | split)

theorem execHallmarkFuseAdvance_keeps {c : Cmd} {s : State} (hk : Keeps cs s₀ s)
    (hm : ([.out, .bar0, .clerk, .hier, .tally] : List Comp) ⊆ cs := by first | decide | (refine List.Subset.trans ?_ ‹_ ⊆ _›; decide)) : AnsKeeps cs s₀ (execHallmarkFuseAdvance c s) := by
  unfold execHallmarkFuseAdvance
  try dsimp only
  with_reducible repeat' (first
    | assumption | exact List.Subset.trans (by decide) hm | apply AnsKeeps.next | apply serve_keeps
    | apply hallmarkFuseAdvanceOp_keeps | intro _)

theorem execFuseBlown_keeps {ok : Bool} {s : State} (hk : Keeps cs s₀ s)
    (hm : ([.clerk, .hier, .tally, .hall] : List Comp) ⊆ cs := by first | decide | (refine List.Subset.trans ?_ ‹_ ⊆ _›; decide)) : AnsKeeps cs s₀ (execFuseBlown ok s) := by
  unfold execFuseBlown
  try dsimp only
  with_reducible repeat' (first
    | assumption | exact List.Subset.trans (by decide) hm | apply Keeps.ite | apply AnsKeeps.ite | apply AnsKeeps.next
    | apply happen_keeps | apply State.endFuse_keeps | apply withHall_keeps | apply State.measureSvn_keeps
    | exact Nat.le_refl _ | exact Nat.le_succ _ | exact State.take_fuses | refine Keeps.of_pair (by assumption) ?_ | intro _
    | split)

theorem hallmarkTallyMaskOp_keeps {c : Cmd} (hk : Keeps cs s₀ s)
    (hm : ([.hall] : List Comp) ⊆ cs := by first | decide | (refine List.Subset.trans ?_ ‹_ ⊆ _›; decide)) : Keeps cs s₀ (hallmarkTallyMaskOp.effect c s).2 := by
  unfold hallmarkTallyMaskOp
  try dsimp only
  with_reducible repeat' (first
    | assumption | exact List.Subset.trans (by decide) hm | apply sets_keeps | apply withHall_keeps | exact Nat.le_refl _
    | exact Nat.le_succ _ | exact State.take_fuses | refine Keeps.of_pair (by assumption) ?_ | intro _)

theorem execHallmarkTallyMask_keeps {c : Cmd} {s : State} (hk : Keeps cs s₀ s)
    (hm : ([.out, .bar0, .clerk, .tally, .hall] : List Comp) ⊆ cs := by first | decide | (refine List.Subset.trans ?_ ‹_ ⊆ _›; decide)) : AnsKeeps cs s₀ (execHallmarkTallyMask c s) := by
  unfold execHallmarkTallyMask
  try dsimp only
  with_reducible repeat' (first
    | assumption | exact List.Subset.trans (by decide) hm | apply AnsKeeps.next | apply serve_keeps
    | apply hallmarkTallyMaskOp_keeps | intro _)

theorem hallmarkStatusOp_keeps {c : Cmd} (hk : Keeps cs s₀ s) : Keeps cs s₀ (hallmarkStatusOp.effect c s).2 := by
  unfold hallmarkStatusOp
  try dsimp only
  with_reducible repeat' (first | assumption | apply reads_keeps | intro _)

theorem execHallmarkStatus_keeps {c : Cmd} {s : State} (hk : Keeps cs s₀ s)
    (hm : ([.out, .bar0, .clerk, .tally] : List Comp) ⊆ cs := by first | decide | (refine List.Subset.trans ?_ ‹_ ⊆ _›; decide)) : AnsKeeps cs s₀ (execHallmarkStatus c s) := by
  unfold execHallmarkStatus
  try dsimp only
  with_reducible repeat' (first
    | assumption | exact List.Subset.trans (by decide) hm | apply AnsKeeps.next | apply serve_keeps
    | apply hallmarkStatusOp_keeps | intro _)

/-! ### Members.lean -/

theorem evMember_keeps {how a : Nat} {s : State} (hk : Keeps cs s₀ s)
    (hm : ([.clerk, .hier, .tally] : List Comp) ⊆ cs := by first | decide | (refine List.Subset.trans ?_ ‹_ ⊆ _›; decide)) : Keeps cs s₀ (evMember how a s) := by
  unfold evMember
  try dsimp only
  with_reducible repeat' (first
    | assumption | exact List.Subset.trans (by decide) hm | apply State.raise_keeps | refine Keeps.of_pair (by assumption) ?_
    | intro _)

theorem State.dropMember_keeps {a : Nat} {s : State} (hk : Keeps cs s₀ s)
    (hm : ([.clerk, .hier, .tally, .crier] : List Comp) ⊆ cs := by first | decide | (refine List.Subset.trans ?_ ‹_ ⊆ _›; decide)) : Keeps cs s₀ (State.dropMember a s) := by
  unfold State.dropMember
  try dsimp only
  with_reducible repeat' (first
    | assumption | exact List.Subset.trans (by decide) hm | apply Keeps.ite | apply evMember_keeps | apply withCrier_keeps
    | refine Keeps.of_pair (by assumption) ?_ | intro _ | split)

theorem State.addMember_keeps {a : Nat} {s : State} (hk : Keeps cs s₀ s)
    (hm : ([.crier] : List Comp) ⊆ cs := by first | decide | (refine List.Subset.trans ?_ ‹_ ⊆ _›; decide)) : Keeps cs s₀ (State.addMember a s) := by
  unfold State.addMember
  try dsimp only
  with_reducible repeat' (first | assumption | exact List.Subset.trans (by decide) hm | apply withCrier_keeps | intro _)

theorem State.tableLost_keeps {n : Nat} {cells : List Nat} {s : State} (hk : Keeps cs s₀ s)
    (hm : ([.clerk, .hier, .tally, .crier] : List Comp) ⊆ cs := by first | decide | (refine List.Subset.trans ?_ ‹_ ⊆ _›; decide)) : Keeps cs s₀ (State.tableLost n cells s) := by
  unfold State.tableLost
  try dsimp only
  with_reducible repeat' (first
    | assumption | exact List.Subset.trans (by decide) hm | apply Keeps.ite | apply State.dropMember_keeps | apply foldl_keeps
    | refine Keeps.of_pair (by assumption) ?_ | intro _ | split)

theorem State.tableWritten_keeps {n : Nat} {data : List Byte} {s : State} (hk : Keeps cs s₀ s)
    (hm : ([.crier] : List Comp) ⊆ cs := by first | decide | (refine List.Subset.trans ?_ ‹_ ⊆ _›; decide)) : Keeps cs s₀ (State.tableWritten n data s) := by
  unfold State.tableWritten
  try dsimp only
  with_reducible repeat' (first
    | assumption | exact List.Subset.trans (by decide) hm | apply Keeps.ite | apply State.addMember_keeps
    | apply withCrier_keeps | apply foldl_keeps | refine Keeps.of_pair (by assumption) ?_ | intro _ | split)

theorem State.readRecord_keeps {a : Nat} {s : State} (hk : Keeps cs s₀ s)
    (hm : ([.clerk, .hier, .tally, .crier, .store] : List Comp) ⊆ cs := by first | decide | (refine List.Subset.trans ?_ ‹_ ⊆ _›; decide)) : Keeps cs s₀ (State.readRecord a s).2 := by
  unfold State.readRecord
  try dsimp only
  with_reducible repeat' (first
    | assumption | exact List.Subset.trans (by decide) hm | apply Keeps.ite | apply Keeps.ite_snd
    | apply State.readStripe_keeps | apply State.tableLost_keeps | refine Keeps.of_pair (by assumption) ?_ | intro _ | split)

theorem State.updRecord_keeps {a : Nat} {f : List Byte → List Byte} {s : State} (hk : Keeps cs s₀ s)
    (hm : ([.free, .clerk, .hier, .tally, .crier, .store] : List Comp) ⊆ cs := by first | decide | (refine List.Subset.trans ?_ ‹_ ⊆ _›; decide)) : Keeps cs s₀ (State.updRecord a f s) := by
  unfold State.updRecord
  try dsimp only
  with_reducible repeat' (first
    | assumption | exact List.Subset.trans (by decide) hm | apply State.mergeStripe_keeps | apply State.tableLost_keeps
    | refine Keeps.of_pair (by assumption) ?_ | intro _)

end Sys2Proof.Machine
end

