-- ==== Sys2Proof/Laws/KeepsPort.lean ====
section
/-!
SUPPORT. What is kept by: the receive and transmit ports, the Loom, rate adaptation.
-/

set_option Elab.async false
set_option linter.all false

namespace Sys2Proof.Machine

variable {cs : List Comp} {s₀ s t : State}

/-! ### Rx.lean -/

theorem lineRxConfigOp_keeps {c : Cmd} (hk : Keeps cs s₀ s)
    (hm : ([.clerk, .hier, .tally, .rx, .fec, .ra, .flow] : List Comp) ⊆ cs := by first | decide | (refine List.Subset.trans ?_ ‹_ ⊆ _›; decide)) : Keeps cs s₀ (lineRxConfigOp.effect c s).2 := by
  unfold lineRxConfigOp
  try dsimp only
  with_reducible repeat' (first
    | assumption | exact List.Subset.trans (by decide) hm | apply sets_keeps | apply State.updRx_keeps
    | apply State.raConfigured_keeps | apply State.refreshPools_keeps | refine Keeps.of_pair (by assumption) ?_ | intro _)

theorem execLineRxConfig_keeps {c : Cmd} {s : State} (hk : Keeps cs s₀ s)
    (hm : ([.out, .bar0, .clerk, .hier, .tally, .rx, .fec, .ra, .flow] : List Comp) ⊆ cs := by first | decide | (refine List.Subset.trans ?_ ‹_ ⊆ _›; decide)) : AnsKeeps cs s₀ (execLineRxConfig c s) := by
  unfold execLineRxConfig
  try dsimp only
  with_reducible repeat' (first
    | assumption | exact List.Subset.trans (by decide) hm | apply AnsKeeps.next | apply serve_keeps
    | apply lineRxConfigOp_keeps | intro _)

theorem State.commitCd_keeps {c : Cmd} {s : State} (hk : Keeps cs s₀ s)
    (hm : ([.clerk, .hier, .tally, .rx] : List Comp) ⊆ cs := by first | decide | (refine List.Subset.trans ?_ ‹_ ⊆ _›; decide)) : Keeps cs s₀ (State.commitCd c s) := by
  unfold State.commitCd
  try dsimp only
  with_reducible repeat' (first
    | assumption | exact List.Subset.trans (by decide) hm | apply Keeps.ite | apply State.setRx_keeps
    | apply State.updRx_keeps | apply evRxState_keeps | apply State.startAcq_keeps | refine Keeps.of_pair (by assumption) ?_
    | intro _ | split)

theorem State.commitWaitingCd_keeps {p : Port} {s : State} (hk : Keeps cs s₀ s)
    (hm : ([.out, .bar0, .clerk, .hier, .tally, .rx] : List Comp) ⊆ cs := by first | decide | (refine List.Subset.trans ?_ ‹_ ⊆ _›; decide)) : Keeps cs s₀ (State.commitWaitingCd p s) := by
  unfold State.commitWaitingCd
  try dsimp only
  with_reducible repeat' (first
    | assumption | exact List.Subset.trans (by decide) hm | apply State.commitCd_keeps | apply State.answerAwait_keeps
    | refine Keeps.of_pair (by assumption) ?_ | intro _ | split)

theorem State.commitAllCd_keeps {p : Port} {s : State} (hk : Keeps cs s₀ s)
    (hm : ([.out, .bar0, .clerk, .hier, .tally, .rx] : List Comp) ⊆ cs := by first | decide | (refine List.Subset.trans ?_ ‹_ ⊆ _›; decide)) : Keeps cs s₀ (State.commitAllCd p s) := by
  unfold State.commitAllCd
  try dsimp only
  with_reducible repeat' (first
    | assumption | exact List.Subset.trans (by decide) hm | apply Keeps.ite | apply State.commitWaitingCd_keeps
    | apply foldl_keeps | refine Keeps.of_pair (by assumption) ?_ | intro _ | split)

theorem lineRxCdSetOp_keeps {c : Cmd} (hk : Keeps cs s₀ s)
    (hm : ([.clerk, .hier, .tally, .rx] : List Comp) ⊆ cs := by first | decide | (refine List.Subset.trans ?_ ‹_ ⊆ _›; decide)) : Keeps cs s₀ (lineRxCdSetOp.effect c s).2 := by
  unfold lineRxCdSetOp
  try dsimp only
  with_reducible repeat' (first
    | assumption | exact List.Subset.trans (by decide) hm | apply Keeps.ite | apply Keeps.ite_snd | apply State.commitCd_keeps
    | refine Keeps.of_pair (by assumption) ?_ | intro _ | split)

theorem execLineRxCdSet_keeps {c : Cmd} {s : State} (hk : Keeps cs s₀ s)
    (hm : ([.out, .bar0, .clerk, .hier, .tally, .rx] : List Comp) ⊆ cs := by first | decide | (refine List.Subset.trans ?_ ‹_ ⊆ _›; decide)) : AnsKeeps cs s₀ (execLineRxCdSet c s) := by
  unfold execLineRxCdSet
  try dsimp only
  with_reducible repeat' (first
    | assumption | exact List.Subset.trans (by decide) hm | apply AnsKeeps.next | apply serve_keeps
    | apply lineRxCdSetOp_keeps | intro _)

theorem execCdSetDeferredCommit_keeps {p : Port} {s : State} (hk : Keeps cs s₀ s)
    (hm : ([.out, .bar0, .clerk, .hier, .tally, .rx] : List Comp) ⊆ cs := by first | decide | (refine List.Subset.trans ?_ ‹_ ⊆ _›; decide)) : AnsKeeps cs s₀ (execCdSetDeferredCommit p s) := by
  unfold execCdSetDeferredCommit
  try dsimp only
  with_reducible repeat' (first
    | assumption | exact List.Subset.trans (by decide) hm | apply AnsKeeps.next | apply happen_keeps
    | apply State.commitWaitingCd_keeps | refine Keeps.of_pair (by assumption) ?_ | intro _)

theorem State.disableRx_keeps {p : Port} {s : State} (hk : Keeps cs s₀ s)
    (hm : ([.out, .bar0, .clerk, .hier, .tally, .boot, .rx, .rw, .fec, .loom, .ra, .crier, .flow] : List Comp) ⊆ cs := by first | decide | (refine List.Subset.trans ?_ ‹_ ⊆ _›; decide)) : Keeps cs s₀ (State.disableRx p s) := by
  unfold State.disableRx
  try dsimp only
  with_reducible repeat' (first
    | assumption | exact List.Subset.trans (by decide) hm | apply Keeps.ite | apply State.abortScan_keeps
    | apply State.leaveIfTracking_keeps | apply State.endLaneFaults_keeps | apply State.moveRx_keeps | apply State.updRx_keeps
    | apply State.commitAllCd_keeps | apply State.commitBoundary_keeps | apply State.refreshPools_keeps
    | apply State.refreshBoot_keeps | apply State.crAbandon_keeps | apply State.refreshHealth_keeps
    | refine Keeps.of_pair (by assumption) ?_ | intro _ | split)

theorem State.enableRx_keeps {p : Port} {s : State} (hk : Keeps cs s₀ s)
    (hm : ([.clerk, .hier, .tally, .boot, .rx, .fec, .flow] : List Comp) ⊆ cs := by first | decide | (refine List.Subset.trans ?_ ‹_ ⊆ _›; decide)) : Keeps cs s₀ (State.enableRx p s) := by
  unfold State.enableRx
  try dsimp only
  with_reducible repeat' (first
    | assumption | exact List.Subset.trans (by decide) hm | apply Keeps.ite | apply State.updRx_keeps
    | apply State.moveRx_keeps | apply State.refreshPools_keeps | apply State.refreshBoot_keeps
    | refine Keeps.of_pair (by assumption) ?_ | intro _ | split)

theorem lineRxEnableOp_keeps {c : Cmd} (hk : Keeps cs s₀ s)
    (hm : ([.out, .bar0, .clerk, .hier, .tally, .boot, .rx, .rw, .fec, .loom, .ra, .crier, .flow] : List Comp) ⊆ cs := by first | decide | (refine List.Subset.trans ?_ ‹_ ⊆ _›; decide)) : Keeps cs s₀ (lineRxEnableOp.effect c s).2 := by
  unfold lineRxEnableOp
  try dsimp only
  with_reducible repeat' (first
    | assumption | exact List.Subset.trans (by decide) hm | apply Keeps.ite | apply Keeps.ite_snd | apply sets_keeps
    | apply State.enableRx_keeps | apply State.disableRx_keeps | refine Keeps.of_pair (by assumption) ?_ | intro _ | split)

theorem execLineRxEnable_keeps {c : Cmd} {s : State} (hk : Keeps cs s₀ s)
    (hm : ([.out, .bar0, .clerk, .hier, .tally, .boot, .rx, .rw, .fec, .loom, .ra, .crier, .flow] : List Comp) ⊆ cs := by first | decide | (refine List.Subset.trans ?_ ‹_ ⊆ _›; decide)) : AnsKeeps cs s₀ (execLineRxEnable c s) := by
  unfold execLineRxEnable
  try dsimp only
  with_reducible repeat' (first
    | assumption | exact List.Subset.trans (by decide) hm | apply AnsKeeps.next | apply serve_keeps
    | apply lineRxEnableOp_keeps | intro _)

theorem lineRxCdScanOp_keeps {c : Cmd} (hk : Keeps cs s₀ s)
    (hm : ([.clerk, .rx] : List Comp) ⊆ cs := by first | decide | (refine List.Subset.trans ?_ ‹_ ⊆ _›; decide)) : Keeps cs s₀ (lineRxCdScanOp.effect c s).2 := by
  unfold lineRxCdScanOp
  try dsimp only
  with_reducible repeat' (first
    | assumption | exact List.Subset.trans (by decide) hm | apply State.startJob_keeps | apply State.updRx_keeps
    | refine Keeps.of_pair (by assumption) ?_ | intro _)

theorem execLineRxCdScan_keeps {c : Cmd} {s : State} (hk : Keeps cs s₀ s)
    (hm : ([.out, .bar0, .clerk, .tally, .rx] : List Comp) ⊆ cs := by first | decide | (refine List.Subset.trans ?_ ‹_ ⊆ _›; decide)) : AnsKeeps cs s₀ (execLineRxCdScan c s) := by
  unfold execLineRxCdScan
  try dsimp only
  with_reducible repeat' (first
    | assumption | exact List.Subset.trans (by decide) hm | apply AnsKeeps.next | apply serve_keeps
    | apply lineRxCdScanOp_keeps | intro _)

theorem State.restartAcq_keeps {p : Port} {s : State} (hk : Keeps cs s₀ s)
    (hm : ([.clerk, .hier, .tally, .rx] : List Comp) ⊆ cs := by first | decide | (refine List.Subset.trans ?_ ‹_ ⊆ _›; decide)) : Keeps cs s₀ (State.restartAcq p s) := by
  unfold State.restartAcq
  try dsimp only
  with_reducible repeat' (first
    | assumption | exact List.Subset.trans (by decide) hm | apply evRxState_keeps | apply State.startAcq_keeps
    | refine Keeps.of_pair (by assumption) ?_ | intro _)

theorem execCdScanDone_keeps {p : Port} {best : Int} {quality : Nat} {second : Int} {s : State} (hk : Keeps cs s₀ s)
    (hm : ([.clerk, .hier, .tally, .rx] : List Comp) ⊆ cs := by first | decide | (refine List.Subset.trans ?_ ‹_ ⊆ _›; decide)) : AnsKeeps cs s₀ (execCdScanDone p best quality second s) := by
  unfold execCdScanDone
  try dsimp only
  with_reducible repeat' (first
    | assumption | exact List.Subset.trans (by decide) hm | apply Keeps.ite | apply AnsKeeps.ite | apply AnsKeeps.next
    | apply happen_keeps | apply State.updRx_keeps | apply State.endJob_keeps | apply State.startAcq_keeps
    | apply State.restartAcq_keeps | refine Keeps.of_pair (by assumption) ?_ | intro _ | split)

theorem lineRxEqSetOp_keeps {c : Cmd} (hk : Keeps cs s₀ s)
    (hm : ([.rx] : List Comp) ⊆ cs := by first | decide | (refine List.Subset.trans ?_ ‹_ ⊆ _›; decide)) : Keeps cs s₀ (lineRxEqSetOp.effect c s).2 := by
  unfold lineRxEqSetOp
  try dsimp only
  with_reducible repeat' (first
    | assumption | exact List.Subset.trans (by decide) hm | apply sets_keeps | apply State.updRx_keeps
    | refine Keeps.of_pair (by assumption) ?_ | intro _)

theorem execLineRxEqSet_keeps {c : Cmd} {s : State} (hk : Keeps cs s₀ s)
    (hm : ([.out, .bar0, .clerk, .tally, .rx] : List Comp) ⊆ cs := by first | decide | (refine List.Subset.trans ?_ ‹_ ⊆ _›; decide)) : AnsKeeps cs s₀ (execLineRxEqSet c s) := by
  unfold execLineRxEqSet
  try dsimp only
  with_reducible repeat' (first
    | assumption | exact List.Subset.trans (by decide) hm | apply AnsKeeps.next | apply serve_keeps
    | apply lineRxEqSetOp_keeps | intro _)

theorem lineRxLoopSetOp_keeps {c : Cmd} (hk : Keeps cs s₀ s)
    (hm : ([.rx] : List Comp) ⊆ cs := by first | decide | (refine List.Subset.trans ?_ ‹_ ⊆ _›; decide)) : Keeps cs s₀ (lineRxLoopSetOp.effect c s).2 := by
  unfold lineRxLoopSetOp
  try dsimp only
  with_reducible repeat' (first
    | assumption | exact List.Subset.trans (by decide) hm | apply sets_keeps | apply State.updRx_keeps
    | refine Keeps.of_pair (by assumption) ?_ | intro _)

theorem execLineRxLoopSet_keeps {c : Cmd} {s : State} (hk : Keeps cs s₀ s)
    (hm : ([.out, .bar0, .clerk, .tally, .rx] : List Comp) ⊆ cs := by first | decide | (refine List.Subset.trans ?_ ‹_ ⊆ _›; decide)) : AnsKeeps cs s₀ (execLineRxLoopSet c s) := by
  unfold execLineRxLoopSet
  try dsimp only
  with_reducible repeat' (first
    | assumption | exact List.Subset.trans (by decide) hm | apply AnsKeeps.next | apply serve_keeps
    | apply lineRxLoopSetOp_keeps | intro _)

theorem lineRxFrontSetOp_keeps {c : Cmd} (hk : Keeps cs s₀ s)
    (hm : ([.rx] : List Comp) ⊆ cs := by first | decide | (refine List.Subset.trans ?_ ‹_ ⊆ _›; decide)) : Keeps cs s₀ (lineRxFrontSetOp.effect c s).2 := by
  unfold lineRxFrontSetOp
  try dsimp only
  with_reducible repeat' (first
    | assumption | exact List.Subset.trans (by decide) hm | apply sets_keeps | apply State.updRx_keeps
    | refine Keeps.of_pair (by assumption) ?_ | intro _)

theorem execLineRxFrontSet_keeps {c : Cmd} {s : State} (hk : Keeps cs s₀ s)
    (hm : ([.out, .bar0, .clerk, .tally, .rx] : List Comp) ⊆ cs := by first | decide | (refine List.Subset.trans ?_ ‹_ ⊆ _›; decide)) : AnsKeeps cs s₀ (execLineRxFrontSet c s) := by
  unfold execLineRxFrontSet
  try dsimp only
  with_reducible repeat' (first
    | assumption | exact List.Subset.trans (by decide) hm | apply AnsKeeps.next | apply serve_keeps
    | apply lineRxFrontSetOp_keeps | intro _)

theorem lineRxStatusOp_keeps {c : Cmd} (hk : Keeps cs s₀ s) : Keeps cs s₀ (lineRxStatusOp.effect c s).2 := by
  unfold lineRxStatusOp
  try dsimp only
  with_reducible repeat' (first | assumption | apply reads_keeps | refine Keeps.of_pair (by assumption) ?_ | intro _)

theorem execLineRxStatus_keeps {c : Cmd} {s : State} (hk : Keeps cs s₀ s)
    (hm : ([.out, .bar0, .clerk, .tally] : List Comp) ⊆ cs := by first | decide | (refine List.Subset.trans ?_ ‹_ ⊆ _›; decide)) : AnsKeeps cs s₀ (execLineRxStatus c s) := by
  unfold execLineRxStatus
  try dsimp only
  with_reducible repeat' (first
    | assumption | exact List.Subset.trans (by decide) hm | apply AnsKeeps.next | apply serve_keeps
    | apply lineRxStatusOp_keeps | intro _)

theorem lineRxCountersOp_keeps {c : Cmd} (hk : Keeps cs s₀ s) : Keeps cs s₀ (lineRxCountersOp.effect c s).2 := by
  unfold lineRxCountersOp
  try dsimp only
  with_reducible repeat' (first | assumption | apply reads_keeps | refine Keeps.of_pair (by assumption) ?_ | intro _)

theorem execLineRxCounters_keeps {c : Cmd} {s : State} (hk : Keeps cs s₀ s)
    (hm : ([.out, .bar0, .clerk, .tally] : List Comp) ⊆ cs := by first | decide | (refine List.Subset.trans ?_ ‹_ ⊆ _›; decide)) : AnsKeeps cs s₀ (execLineRxCounters c s) := by
  unfold execLineRxCounters
  try dsimp only
  with_reducible repeat' (first
    | assumption | exact List.Subset.trans (by decide) hm | apply AnsKeeps.next | apply serve_keeps
    | apply lineRxCountersOp_keeps | intro _)

theorem execLosDeclare_keeps {p : Port} {s : State} (hk : Keeps cs s₀ s)
    (hm : ([.out, .bar0, .clerk, .hier, .tally, .rx, .rw, .fec, .loom, .ra, .flow] : List Comp) ⊆ cs := by first | decide | (refine List.Subset.trans ?_ ‹_ ⊆ _›; decide)) : AnsKeeps cs s₀ (execLosDeclare p s) := by
  unfold execLosDeclare
  try dsimp only
  with_reducible repeat' (first
    | assumption | exact List.Subset.trans (by decide) hm | apply AnsKeeps.next | apply State.updRx_keeps
    | apply State.bump_keeps | apply State.raise_keeps | apply State.endLaneFaults_keeps | apply State.abortScan_keeps
    | apply State.leaveIfTracking_keeps | apply State.moveRx_keeps | apply State.commitAllCd_keeps | apply happen_keeps
    | apply State.refreshPools_keeps | apply State.refreshHealth_keeps | refine Keeps.of_pair (by assumption) ?_ | intro _)

theorem execLosClear_keeps {p : Port} {s : State} (hk : Keeps cs s₀ s)
    (hm : ([.clerk, .hier, .tally, .rx, .fec, .flow] : List Comp) ⊆ cs := by first | decide | (refine List.Subset.trans ?_ ‹_ ⊆ _›; decide)) : AnsKeeps cs s₀ (execLosClear p s) := by
  unfold execLosClear
  try dsimp only
  with_reducible repeat' (first
    | assumption | exact List.Subset.trans (by decide) hm | apply AnsKeeps.next | apply State.updRx_keeps
    | apply State.raise_keeps | apply happen_keeps | apply State.abortScan_keeps | apply State.moveRx_keeps
    | apply State.startAcq_keeps | apply State.refreshPools_keeps | refine Keeps.of_pair (by assumption) ?_ | intro _)

theorem execLaneFaultDeclare_keeps {p : Port} {conv : Fin 4} {s : State} (hk : Keeps cs s₀ s)
    (hm : ([.clerk, .hier, .tally, .rx, .rw, .fec, .loom, .ra, .flow] : List Comp) ⊆ cs := by first | decide | (refine List.Subset.trans ?_ ‹_ ⊆ _›; decide)) : AnsKeeps cs s₀ (execLaneFaultDeclare p conv s) := by
  unfold execLaneFaultDeclare
  try dsimp only
  with_reducible repeat' (first
    | assumption | exact List.Subset.trans (by decide) hm | apply Keeps.ite | apply AnsKeeps.ite | apply AnsKeeps.next
    | apply evLaneFault_keeps | apply State.updRx_keeps | apply happen_keeps | apply State.loseLock_keeps
    | apply State.refreshHealth_keeps | refine Keeps.of_pair (by assumption) ?_ | intro _ | split)

theorem execLaneFaultEnd_keeps {p : Port} {conv : Fin 4} {s : State} (hk : Keeps cs s₀ s)
    (hm : ([.clerk, .hier, .tally, .rx] : List Comp) ⊆ cs := by first | decide | (refine List.Subset.trans ?_ ‹_ ⊆ _›; decide)) : AnsKeeps cs s₀ (execLaneFaultEnd p conv s) := by
  unfold execLaneFaultEnd
  try dsimp only
  with_reducible repeat' (first
    | assumption | exact List.Subset.trans (by decide) hm | apply AnsKeeps.next | apply happen_keeps | apply evLaneFault_keeps
    | apply State.updRx_keeps | apply State.refreshHealth_keeps | refine Keeps.of_pair (by assumption) ?_ | intro _)

theorem execAcqStepDone_keeps {p : Port} {cd : Int} {s : State} (hk : Keeps cs s₀ s)
    (hm : ([.clerk, .hier, .tally, .rx, .rw, .fec, .loom, .ra, .flow] : List Comp) ⊆ cs := by first | decide | (refine List.Subset.trans ?_ ‹_ ⊆ _›; decide)) : AnsKeeps cs s₀ (execAcqStepDone p cd s) := by
  unfold execAcqStepDone
  try dsimp only
  with_reducible repeat' (first
    | assumption | exact List.Subset.trans (by decide) hm | apply Keeps.ite | apply AnsKeeps.ite | apply AnsKeeps.next
    | apply happen_keeps | apply State.updRx_keeps | apply State.startAcq_keeps | apply State.enterTracking_keeps
    | apply State.refreshPools_keeps | refine Keeps.of_pair (by assumption) ?_ | intro _ | split)

theorem execAcqBoundExpiry_keeps {p : Port} {s : State} (hk : Keeps cs s₀ s)
    (hm : ([.clerk, .hier, .tally, .rx] : List Comp) ⊆ cs := by first | decide | (refine List.Subset.trans ?_ ‹_ ⊆ _›; decide)) : AnsKeeps cs s₀ (execAcqBoundExpiry p s) := by
  unfold execAcqBoundExpiry
  try dsimp only
  with_reducible repeat' (first
    | assumption | exact List.Subset.trans (by decide) hm | apply AnsKeeps.next | apply happen_keeps
    | apply State.restartAcq_keeps | refine Keeps.of_pair (by assumption) ?_ | intro _)

theorem execRxXfadeEnd_keeps {p : Port} {s : State} (hk : Keeps cs s₀ s)
    (hm : ([.clerk, .hier, .tally, .rx] : List Comp) ⊆ cs := by first | decide | (refine List.Subset.trans ?_ ‹_ ⊆ _›; decide)) : AnsKeeps cs s₀ (execRxXfadeEnd p s) := by
  unfold execRxXfadeEnd
  try dsimp only
  with_reducible repeat' (first
    | assumption | exact List.Subset.trans (by decide) hm | apply AnsKeeps.next | apply happen_keeps
    | apply State.endRxFade_keeps | refine Keeps.of_pair (by assumption) ?_ | intro _ | split)

theorem execTrackResidual_keeps {p : Port} {residual : Int} {s : State} (hk : Keeps cs s₀ s)
    (hm : ([.rx] : List Comp) ⊆ cs := by first | decide | (refine List.Subset.trans ?_ ‹_ ⊆ _›; decide)) : AnsKeeps cs s₀ (execTrackResidual p residual s) := by
  unfold execTrackResidual
  try dsimp only
  with_reducible repeat' (first
    | assumption | exact List.Subset.trans (by decide) hm | apply Keeps.ite | apply AnsKeeps.ite | apply AnsKeeps.next
    | apply happen_keeps | apply State.updRx_keeps | refine Keeps.of_pair (by assumption) ?_ | intro _ | split)

theorem execLolDeclare_keeps {p : Port} {cause : Fin 4} {s : State} (hk : Keeps cs s₀ s)
    (hm : ([.clerk, .hier, .tally, .rx, .rw, .fec, .loom, .ra, .flow] : List Comp) ⊆ cs := by first | decide | (refine List.Subset.trans ?_ ‹_ ⊆ _›; decide)) : AnsKeeps cs s₀ (execLolDeclare p cause s) := by
  unfold execLolDeclare
  try dsimp only
  with_reducible repeat' (first
    | assumption | exact List.Subset.trans (by decide) hm | apply AnsKeeps.next | apply happen_keeps
    | apply State.loseLock_keeps | apply State.refreshPools_keeps | refine Keeps.of_pair (by assumption) ?_ | intro _)

theorem execToleranceHold_keeps {p : Port} {estimate : Fin 5} {beyond : Bool} {s : State} (hk : Keeps cs s₀ s)
    (hm : ([.clerk, .hier, .tally, .rx] : List Comp) ⊆ cs := by first | decide | (refine List.Subset.trans ?_ ‹_ ⊆ _›; decide)) : AnsKeeps cs s₀ (execToleranceHold p estimate beyond s) := by
  unfold execToleranceHold
  try dsimp only
  with_reducible repeat' (first
    | assumption | exact List.Subset.trans (by decide) hm | apply Keeps.ite | apply AnsKeeps.ite | apply AnsKeeps.next
    | apply happen_keeps | apply State.updRx_keeps | apply State.raise_keeps | refine Keeps.of_pair (by assumption) ?_
    | intro _ | split)

/-! ### Tx.lean -/

theorem State.rampLevel_keeps {s : State} {t : TxPort} (hk : Keeps cs s₀ s)
    (hm : ([.free] : List Comp) ⊆ cs := by first | decide | (refine List.Subset.trans ?_ ‹_ ⊆ _›; decide)) : Keeps cs s₀ (State.rampLevel s t).2 := by
  unfold State.rampLevel
  try dsimp only
  with_reducible repeat' (first
    | assumption | exact List.Subset.trans (by decide) hm | apply Keeps.ite | apply Keeps.ite_snd | apply State.take_keeps
    | refine Keeps.of_pair (by assumption) ?_ | intro _ | split)

theorem State.commitTx_keeps {p : Port} {a : Await} {s : State} (hk : Keeps cs s₀ s)
    (hm : ([.out, .bar0, .clerk, .tally, .hall, .tx] : List Comp) ⊆ cs := by first | decide | (refine List.Subset.trans ?_ ‹_ ⊆ _›; decide)) : Keeps cs s₀ (State.commitTx p a s) := by
  unfold State.commitTx
  try dsimp only
  with_reducible repeat' (first
    | assumption | exact List.Subset.trans (by decide) hm | apply Keeps.ite | apply refuse_keeps | apply withClerk_keeps
    | apply State.setTx_keeps | apply State.answerAwait_keeps | apply State.extend_keeps
    | refine Keeps.clerk' (cs := cs) (s₀ := s₀) rfl rfl ?_ | refine Keeps.of_pair (by assumption) ?_ | intro _ | split)

theorem State.commitAllTx_keeps {p : Port} {s : State} (hk : Keeps cs s₀ s)
    (hm : ([.out, .bar0, .clerk, .tally, .hall, .tx] : List Comp) ⊆ cs := by first | decide | (refine List.Subset.trans ?_ ‹_ ⊆ _›; decide)) : Keeps cs s₀ (State.commitAllTx p s) := by
  unfold State.commitAllTx
  try dsimp only
  with_reducible repeat' (first
    | assumption | exact List.Subset.trans (by decide) hm | apply Keeps.ite | apply State.commitTx_keeps | apply foldl_keeps
    | refine Keeps.of_pair (by assumption) ?_ | intro _ | split)

theorem State.moveTx_keeps {p : Port} {new : TxSt} {cause : Nat} {s : State} (hk : Keeps cs s₀ s)
    (hm : ([.out, .bar0, .clerk, .hier, .tally, .hall, .tx, .crier] : List Comp) ⊆ cs := by first | decide | (refine List.Subset.trans ?_ ‹_ ⊆ _›; decide)) : Keeps cs s₀ (State.moveTx p new cause s) := by
  unfold State.moveTx
  try dsimp only
  with_reducible repeat' (first
    | assumption | exact List.Subset.trans (by decide) hm | apply Keeps.ite | apply State.setTx_keeps
    | apply State.raise_keeps | apply State.crCut_keeps | apply State.updTx_keeps | apply State.commitAllTx_keeps
    | refine Keeps.of_pair (by assumption) ?_ | intro _ | split)

theorem lineTxConfigOp_keeps {c : Cmd} (hk : Keeps cs s₀ s)
    (hm : ([.tx, .ra, .crier, .flow] : List Comp) ⊆ cs := by first | decide | (refine List.Subset.trans ?_ ‹_ ⊆ _›; decide)) : Keeps cs s₀ (lineTxConfigOp.effect c s).2 := by
  unfold lineTxConfigOp
  try dsimp only
  with_reducible repeat' (first
    | assumption | exact List.Subset.trans (by decide) hm | apply Keeps.ite | apply Keeps.ite_snd | apply sets_keeps
    | apply State.updTx_keeps | apply State.raConfigured_keeps | apply State.crTxOff_keeps
    | refine Keeps.of_pair (by assumption) ?_ | intro _ | split)

theorem execLineTxConfig_keeps {c : Cmd} {s : State} (hk : Keeps cs s₀ s)
    (hm : ([.out, .bar0, .clerk, .tally, .tx, .ra, .crier, .flow] : List Comp) ⊆ cs := by first | decide | (refine List.Subset.trans ?_ ‹_ ⊆ _›; decide)) : AnsKeeps cs s₀ (execLineTxConfig c s) := by
  unfold execLineTxConfig
  try dsimp only
  with_reducible repeat' (first
    | assumption | exact List.Subset.trans (by decide) hm | apply AnsKeeps.next | apply serve_keeps
    | apply lineTxConfigOp_keeps | intro _)

theorem State.enableTx_keeps {p : Port} {s : State} (hk : Keeps cs s₀ s)
    (hm : ([.out, .bar0, .clerk, .hier, .tally, .boot, .hall, .fec, .tx, .loom, .crier, .flow] : List Comp) ⊆ cs := by first | decide | (refine List.Subset.trans ?_ ‹_ ⊆ _›; decide)) : Keeps cs s₀ (State.enableTx p s) := by
  unfold State.enableTx
  try dsimp only
  with_reducible repeat' (first
    | assumption | exact List.Subset.trans (by decide) hm | apply Keeps.ite | apply State.updTx_keeps
    | apply State.updLp_keeps | apply State.moveTx_keeps | apply State.refreshPools_keeps | apply State.refreshBoot_keeps
    | refine Keeps.of_pair (by assumption) ?_ | intro _ | split)

theorem State.disableTx_keeps {p : Port} {s : State} (hk : Keeps cs s₀ s)
    (hm : ([.out, .bar0, .clerk, .hier, .tally, .boot, .hall, .fec, .tx, .loom, .ra, .crier, .flow] : List Comp) ⊆ cs := by first | decide | (refine List.Subset.trans ?_ ‹_ ⊆ _›; decide)) : Keeps cs s₀ (State.disableTx p s) := by
  unfold State.disableTx
  try dsimp only
  with_reducible repeat' (first
    | assumption | exact List.Subset.trans (by decide) hm | apply Keeps.ite | apply State.moveTx_keeps
    | apply State.updTx_keeps | apply State.updRa_keeps | apply State.updLp_keeps | apply State.tagLose_keeps
    | apply State.refreshPools_keeps | apply State.refreshBoot_keeps | refine Keeps.of_pair (by assumption) ?_ | intro _
    | split)

theorem lineTxEnableOp_keeps {c : Cmd} (hk : Keeps cs s₀ s)
    (hm : ([.out, .bar0, .clerk, .hier, .tally, .boot, .hall, .fec, .tx, .loom, .ra, .crier, .flow] : List Comp) ⊆ cs := by first | decide | (refine List.Subset.trans ?_ ‹_ ⊆ _›; decide)) : Keeps cs s₀ (lineTxEnableOp.effect c s).2 := by
  unfold lineTxEnableOp
  try dsimp only
  with_reducible repeat' (first
    | assumption | exact List.Subset.trans (by decide) hm | apply Keeps.ite | apply Keeps.ite_snd | apply sets_keeps
    | apply State.enableTx_keeps | apply State.disableTx_keeps | refine Keeps.of_pair (by assumption) ?_ | intro _ | split)

theorem execLineTxEnable_keeps {c : Cmd} {s : State} (hk : Keeps cs s₀ s)
    (hm : ([.out, .bar0, .clerk, .hier, .tally, .boot, .hall, .fec, .tx, .loom, .ra, .crier, .flow] : List Comp) ⊆ cs := by first | decide | (refine List.Subset.trans ?_ ‹_ ⊆ _›; decide)) : AnsKeeps cs s₀ (execLineTxEnable c s) := by
  unfold execLineTxEnable
  try dsimp only
  with_reducible repeat' (first
    | assumption | exact List.Subset.trans (by decide) hm | apply AnsKeeps.next | apply serve_keeps
    | apply lineTxEnableOp_keeps | intro _)

theorem State.hardMute_keeps {p : Port} {s : State} (hk : Keeps cs s₀ s)
    (hm : ([.out, .bar0, .clerk, .hier, .tally, .hall, .tx, .crier] : List Comp) ⊆ cs := by first | decide | (refine List.Subset.trans ?_ ‹_ ⊆ _›; decide)) : Keeps cs s₀ (State.hardMute p s) := by
  unfold State.hardMute
  try dsimp only
  with_reducible repeat' (first
    | assumption | exact List.Subset.trans (by decide) hm | apply Keeps.ite | apply State.moveTx_keeps
    | apply State.updTx_keeps | apply State.bump_keeps | refine Keeps.of_pair (by assumption) ?_ | intro _ | split)

theorem State.softMute_keeps {p : Port} {s : State} (hk : Keeps cs s₀ s)
    (hm : ([.out, .bar0, .clerk, .hier, .tally, .hall, .tx, .crier] : List Comp) ⊆ cs := by first | decide | (refine List.Subset.trans ?_ ‹_ ⊆ _›; decide)) : Keeps cs s₀ (State.softMute p s) := by
  unfold State.softMute
  try dsimp only
  with_reducible repeat' (first
    | assumption | exact List.Subset.trans (by decide) hm | apply State.moveTx_keeps | refine Keeps.of_pair (by assumption) ?_
    | intro _ | split)

theorem State.unmute_keeps {p : Port} {s : State} (hk : Keeps cs s₀ s)
    (hm : ([.out, .bar0, .clerk, .hier, .tally, .hall, .tx, .crier] : List Comp) ⊆ cs := by first | decide | (refine List.Subset.trans ?_ ‹_ ⊆ _›; decide)) : Keeps cs s₀ (State.unmute p s) := by
  unfold State.unmute
  try dsimp only
  with_reducible repeat' (first
    | assumption | exact List.Subset.trans (by decide) hm | apply Keeps.ite | apply State.updTx_keeps
    | apply State.moveTx_keeps | refine Keeps.of_pair (by assumption) ?_ | intro _ | split)

theorem lineTxMuteOp_keeps {c : Cmd} (hk : Keeps cs s₀ s)
    (hm : ([.out, .bar0, .clerk, .hier, .tally, .hall, .tx, .crier] : List Comp) ⊆ cs := by first | decide | (refine List.Subset.trans ?_ ‹_ ⊆ _›; decide)) : Keeps cs s₀ (lineTxMuteOp.effect c s).2 := by
  unfold lineTxMuteOp
  try dsimp only
  with_reducible repeat' (first
    | assumption | exact List.Subset.trans (by decide) hm | apply Keeps.ite | apply Keeps.ite_snd | apply sets_keeps
    | apply State.hardMute_keeps | apply State.softMute_keeps | apply State.unmute_keeps
    | refine Keeps.of_pair (by assumption) ?_ | intro _ | split)

theorem execLineTxMute_keeps {c : Cmd} {s : State} (hk : Keeps cs s₀ s)
    (hm : ([.out, .bar0, .clerk, .hier, .tally, .hall, .tx, .crier] : List Comp) ⊆ cs := by first | decide | (refine List.Subset.trans ?_ ‹_ ⊆ _›; decide)) : AnsKeeps cs s₀ (execLineTxMute c s) := by
  unfold execLineTxMute
  try dsimp only
  with_reducible repeat' (first
    | assumption | exact List.Subset.trans (by decide) hm | apply AnsKeeps.next | apply serve_keeps | apply lineTxMuteOp_keeps
    | intro _)

theorem lineTxRampSetOp_keeps {c : Cmd} (hk : Keeps cs s₀ s)
    (hm : ([.tx] : List Comp) ⊆ cs := by first | decide | (refine List.Subset.trans ?_ ‹_ ⊆ _›; decide)) : Keeps cs s₀ (lineTxRampSetOp.effect c s).2 := by
  unfold lineTxRampSetOp
  try dsimp only
  with_reducible repeat' (first
    | assumption | exact List.Subset.trans (by decide) hm | apply sets_keeps | apply State.updTx_keeps
    | refine Keeps.of_pair (by assumption) ?_ | intro _)

theorem execLineTxRampSet_keeps {c : Cmd} {s : State} (hk : Keeps cs s₀ s)
    (hm : ([.out, .bar0, .clerk, .tally, .tx] : List Comp) ⊆ cs := by first | decide | (refine List.Subset.trans ?_ ‹_ ⊆ _›; decide)) : AnsKeeps cs s₀ (execLineTxRampSet c s) := by
  unfold execLineTxRampSet
  try dsimp only
  with_reducible repeat' (first
    | assumption | exact List.Subset.trans (by decide) hm | apply AnsKeeps.next | apply serve_keeps
    | apply lineTxRampSetOp_keeps | intro _)

theorem lineTxPrecompSetOp_keeps {c : Cmd} (hk : Keeps cs s₀ s)
    (hm : ([.tx] : List Comp) ⊆ cs := by first | decide | (refine List.Subset.trans ?_ ‹_ ⊆ _›; decide)) : Keeps cs s₀ (lineTxPrecompSetOp.effect c s).2 := by
  unfold lineTxPrecompSetOp
  try dsimp only
  with_reducible repeat' (first
    | assumption | exact List.Subset.trans (by decide) hm | apply Keeps.ite | apply Keeps.ite_snd | apply State.setTx_keeps
    | refine Keeps.of_pair (by assumption) ?_ | intro _ | split)

theorem execLineTxPrecompSet_keeps {c : Cmd} {s : State} (hk : Keeps cs s₀ s)
    (hm : ([.out, .bar0, .clerk, .tally, .tx] : List Comp) ⊆ cs := by first | decide | (refine List.Subset.trans ?_ ‹_ ⊆ _›; decide)) : AnsKeeps cs s₀ (execLineTxPrecompSet c s) := by
  unfold execLineTxPrecompSet
  try dsimp only
  with_reducible repeat' (first
    | assumption | exact List.Subset.trans (by decide) hm | apply AnsKeeps.next | apply serve_keeps
    | apply lineTxPrecompSetOp_keeps | intro _)

theorem lineTxBackSetOp_keeps {c : Cmd} (hk : Keeps cs s₀ s)
    (hm : ([.tx] : List Comp) ⊆ cs := by first | decide | (refine List.Subset.trans ?_ ‹_ ⊆ _›; decide)) : Keeps cs s₀ (lineTxBackSetOp.effect c s).2 := by
  unfold lineTxBackSetOp
  try dsimp only
  with_reducible repeat' (first
    | assumption | exact List.Subset.trans (by decide) hm | apply Keeps.ite | apply Keeps.ite_snd | apply sets_keeps
    | apply State.updTx_keeps | refine Keeps.of_pair (by assumption) ?_ | intro _ | split)

theorem execLineTxBackSet_keeps {c : Cmd} {s : State} (hk : Keeps cs s₀ s)
    (hm : ([.out, .bar0, .clerk, .tally, .tx] : List Comp) ⊆ cs := by first | decide | (refine List.Subset.trans ?_ ‹_ ⊆ _›; decide)) : AnsKeeps cs s₀ (execLineTxBackSet c s) := by
  unfold execLineTxBackSet
  try dsimp only
  with_reducible repeat' (first
    | assumption | exact List.Subset.trans (by decide) hm | apply AnsKeeps.next | apply serve_keeps
    | apply lineTxBackSetOp_keeps | intro _)

theorem lineTxEmphLoadOp_keeps {c : Cmd} (hk : Keeps cs s₀ s)
    (hm : ([.hall, .tx] : List Comp) ⊆ cs := by first | decide | (refine List.Subset.trans ?_ ‹_ ⊆ _›; decide)) : Keeps cs s₀ (lineTxEmphLoadOp.effect c s).2 := by
  unfold lineTxEmphLoadOp
  try dsimp only
  with_reducible repeat' (first
    | assumption | exact List.Subset.trans (by decide) hm | apply Keeps.ite | apply Keeps.ite_snd | apply State.setTx_keeps
    | apply State.extend_keeps | refine Keeps.of_pair (by assumption) ?_ | intro _ | split)

theorem execLineTxEmphLoad_keeps {c : Cmd} {s : State} (hk : Keeps cs s₀ s)
    (hm : ([.out, .bar0, .clerk, .tally, .hall, .tx] : List Comp) ⊆ cs := by first | decide | (refine List.Subset.trans ?_ ‹_ ⊆ _›; decide)) : AnsKeeps cs s₀ (execLineTxEmphLoad c s) := by
  unfold execLineTxEmphLoad
  try dsimp only
  with_reducible repeat' (first
    | assumption | exact List.Subset.trans (by decide) hm | apply AnsKeeps.next | apply serve_keeps
    | apply lineTxEmphLoadOp_keeps | intro _)

theorem lineTxStatusOp_keeps {c : Cmd} (hk : Keeps cs s₀ s)
    (hm : ([.free] : List Comp) ⊆ cs := by first | decide | (refine List.Subset.trans ?_ ‹_ ⊆ _›; decide)) : Keeps cs s₀ (lineTxStatusOp.effect c s).2 := by
  unfold lineTxStatusOp
  try dsimp only
  with_reducible repeat' (first
    | assumption | exact List.Subset.trans (by decide) hm | apply State.rampLevel_keeps
    | refine Keeps.of_pair (by assumption) ?_ | intro _)

theorem execLineTxStatus_keeps {c : Cmd} {s : State} (hk : Keeps cs s₀ s)
    (hm : ([.free, .out, .bar0, .clerk, .tally] : List Comp) ⊆ cs := by first | decide | (refine List.Subset.trans ?_ ‹_ ⊆ _›; decide)) : AnsKeeps cs s₀ (execLineTxStatus c s) := by
  unfold execLineTxStatus
  try dsimp only
  with_reducible repeat' (first
    | assumption | exact List.Subset.trans (by decide) hm | apply AnsKeeps.next | apply serve_keeps
    | apply lineTxStatusOp_keeps | intro _)

theorem lineTxCountersOp_keeps {c : Cmd} (hk : Keeps cs s₀ s) : Keeps cs s₀ (lineTxCountersOp.effect c s).2 := by
  unfold lineTxCountersOp
  try dsimp only
  with_reducible repeat' (first | assumption | apply reads_keeps | refine Keeps.of_pair (by assumption) ?_ | intro _)

theorem execLineTxCounters_keeps {c : Cmd} {s : State} (hk : Keeps cs s₀ s)
    (hm : ([.out, .bar0, .clerk, .tally] : List Comp) ⊆ cs := by first | decide | (refine List.Subset.trans ?_ ‹_ ⊆ _›; decide)) : AnsKeeps cs s₀ (execLineTxCounters c s) := by
  unfold execLineTxCounters
  try dsimp only
  with_reducible repeat' (first
    | assumption | exact List.Subset.trans (by decide) hm | apply AnsKeeps.next | apply serve_keeps
    | apply lineTxCountersOp_keeps | intro _)

theorem execTxSpanFormed_keeps {p : Port} {clipped : Nat} {s : State} (hk : Keeps cs s₀ s)
    (hm : ([.tally, .tx] : List Comp) ⊆ cs := by first | decide | (refine List.Subset.trans ?_ ‹_ ⊆ _›; decide)) : AnsKeeps cs s₀ (execTxSpanFormed p clipped s) := by
  unfold execTxSpanFormed
  try dsimp only
  with_reducible repeat' (first
    | assumption | exact List.Subset.trans (by decide) hm | apply AnsKeeps.next | apply State.setTx_keeps
    | apply State.bump_keeps | apply State.slot_keeps | apply State.tagExit_keeps | apply State.tagClose_keeps
    | apply State.tagForm_keeps | apply State.tagEnter_keeps | apply happen_keeps | apply foldl_keeps
    | refine Keeps.of_pair (by assumption) ?_ | intro _)

theorem execRampEnd_keeps {p : Port} {s : State} (hk : Keeps cs s₀ s)
    (hm : ([.out, .bar0, .clerk, .hier, .tally, .hall, .tx, .crier] : List Comp) ⊆ cs := by first | decide | (refine List.Subset.trans ?_ ‹_ ⊆ _›; decide)) : AnsKeeps cs s₀ (execRampEnd p s) := by
  unfold execRampEnd
  try dsimp only
  with_reducible repeat' (first
    | assumption | exact List.Subset.trans (by decide) hm | apply AnsKeeps.next | apply happen_keeps
    | apply State.moveTx_keeps | apply State.bump_keeps | refine Keeps.of_pair (by assumption) ?_ | intro _ | split)

theorem execTxSpanLate_keeps {p : Port} {span : Nat} {s : State} (hk : Keeps cs s₀ s)
    (hm : ([.clerk, .hier, .tally] : List Comp) ⊆ cs := by first | decide | (refine List.Subset.trans ?_ ‹_ ⊆ _›; decide)) : AnsKeeps cs s₀ (execTxSpanLate p span s) := by
  unfold execTxSpanLate
  try dsimp only
  with_reducible repeat' (first
    | assumption | exact List.Subset.trans (by decide) hm | apply AnsKeeps.next | apply happen_keeps
    | apply State.txLate_keeps | refine Keeps.of_pair (by assumption) ?_ | intro _)

theorem execTxUnderrun_keeps {p : Port} {s : State} (hk : Keeps cs s₀ s)
    (hm : ([.clerk, .hier, .tally] : List Comp) ⊆ cs := by first | decide | (refine List.Subset.trans ?_ ‹_ ⊆ _›; decide)) : AnsKeeps cs s₀ (execTxUnderrun p s) := by
  unfold execTxUnderrun
  try dsimp only
  with_reducible repeat' (first
    | assumption | exact List.Subset.trans (by decide) hm | apply AnsKeeps.next | apply happen_keeps | apply State.bump_keeps
    | apply State.raiseLimited_keeps | refine Keeps.of_pair (by assumption) ?_ | intro _)

theorem evXfadeDone_keeps {p : Port} {emph : Bool} {s : State} (hk : Keeps cs s₀ s)
    (hm : ([.clerk, .hier, .tally] : List Comp) ⊆ cs := by first | decide | (refine List.Subset.trans ?_ ‹_ ⊆ _›; decide)) : Keeps cs s₀ (evXfadeDone p emph s) := by
  unfold evXfadeDone
  try dsimp only
  with_reducible repeat' (first
    | assumption | exact List.Subset.trans (by decide) hm | apply State.bump_keeps | apply State.raise_keeps
    | refine Keeps.of_pair (by assumption) ?_ | intro _)

theorem execTxXfadeEnd_keeps {p : Port} {dac : Option (Fin 4)} {s : State} (hk : Keeps cs s₀ s)
    (hm : ([.clerk, .hier, .tally, .tx] : List Comp) ⊆ cs := by first | decide | (refine List.Subset.trans ?_ ‹_ ⊆ _›; decide)) : AnsKeeps cs s₀ (execTxXfadeEnd p dac s) := by
  unfold execTxXfadeEnd
  try dsimp only
  with_reducible repeat' (first
    | assumption | exact List.Subset.trans (by decide) hm | apply AnsKeeps.next | apply happen_keeps | apply evXfadeDone_keeps
    | apply State.setTx_keeps | refine Keeps.of_pair (by assumption) ?_ | intro _ | split)

theorem execTxDeferredCommit_keeps {p : Port} {dac : Option (Fin 4)} {s : State} (hk : Keeps cs s₀ s)
    (hm : ([.out, .bar0, .clerk, .tally, .hall, .tx] : List Comp) ⊆ cs := by first | decide | (refine List.Subset.trans ?_ ‹_ ⊆ _›; decide)) : AnsKeeps cs s₀ (execTxDeferredCommit p dac s) := by
  unfold execTxDeferredCommit
  try dsimp only
  with_reducible repeat' (first
    | assumption | exact List.Subset.trans (by decide) hm | apply AnsKeeps.next | apply happen_keeps
    | apply State.commitTx_keeps | refine Keeps.of_pair (by assumption) ?_ | intro _ | split)

/-! ### Loom.lean -/

theorem State.refreshPairs_keeps {s : State} (hk : Keeps cs s₀ s)
    (hm : ([.clerk, .hier, .tally, .loom] : List Comp) ⊆ cs := by first | decide | (refine List.Subset.trans ?_ ‹_ ⊆ _›; decide)) : Keeps cs s₀ (State.refreshPairs s) := by
  unfold State.refreshPairs
  try dsimp only
  with_reducible repeat' (first
    | assumption | exact List.Subset.trans (by decide) hm | apply Keeps.ite | apply withLoom_keeps
    | apply State.raiseLimited_keeps | apply foldl_keeps | refine Keeps.of_pair (by assumption) ?_ | intro _ | split)

theorem State.labelEvent_keeps {p : Port} {t : Nat} {on : Bool} {s : State} (hk : Keeps cs s₀ s)
    (hm : ([.clerk, .hier, .tally] : List Comp) ⊆ cs := by first | decide | (refine List.Subset.trans ?_ ‹_ ⊆ _›; decide)) : Keeps cs s₀ (State.labelEvent p t on s) := by
  unfold State.labelEvent
  try dsimp only
  with_reducible repeat' (first
    | assumption | exact List.Subset.trans (by decide) hm | apply Keeps.ite | apply State.bump_keeps
    | apply State.raiseAtMost_keeps | refine Keeps.of_pair (by assumption) ?_ | intro _ | split)

theorem State.refreshLabel_keeps {p : Port} {t : Nat} {s : State} (hk : Keeps cs s₀ s)
    (hm : ([.clerk, .hier, .tally, .loom, .flow] : List Comp) ⊆ cs := by first | decide | (refine List.Subset.trans ?_ ‹_ ⊆ _›; decide)) : Keeps cs s₀ (State.refreshLabel p t s) := by
  unfold State.refreshLabel
  try dsimp only
  with_reducible repeat' (first
    | assumption | exact List.Subset.trans (by decide) hm | apply Keeps.ite | apply withLoom_keeps
    | apply State.labelEvent_keeps | apply State.refreshDelin_keeps | refine Keeps.of_pair (by assumption) ?_ | intro _
    | split)

theorem State.replan_keeps {ws : List Way} {s : State} (hk : Keeps cs s₀ s)
    (hm : ([.clerk, .hier, .tally, .fec, .loom, .ra, .flow] : List Comp) ⊆ cs := by first | decide | (refine List.Subset.trans ?_ ‹_ ⊆ _›; decide)) : Keeps cs s₀ (State.replan ws s) := by
  unfold State.replan
  try dsimp only
  with_reducible repeat' (first
    | assumption | exact List.Subset.trans (by decide) hm | apply Keeps.ite | apply withRa_keeps
    | apply State.refreshPairs_keeps | apply State.downBolts_keeps | apply State.refreshPools_keeps
    | apply State.refreshThreads_keeps | refine Keeps.of_pair (by assumption) ?_ | intro _ | split)

theorem loomPortConfigOp_keeps {c : Cmd} (hk : Keeps cs s₀ s)
    (hm : ([.loom] : List Comp) ⊆ cs := by first | decide | (refine List.Subset.trans ?_ ‹_ ⊆ _›; decide)) : Keeps cs s₀ (loomPortConfigOp.effect c s).2 := by
  unfold loomPortConfigOp
  try dsimp only
  with_reducible repeat' (first
    | assumption | exact List.Subset.trans (by decide) hm | apply Keeps.ite | apply Keeps.ite_snd | apply sets_keeps
    | apply State.updLp_keeps | refine Keeps.of_pair (by assumption) ?_ | intro _ | split)

theorem execLoomPortConfig_keeps {c : Cmd} {s : State} (hk : Keeps cs s₀ s)
    (hm : ([.out, .bar0, .clerk, .tally, .loom] : List Comp) ⊆ cs := by first | decide | (refine List.Subset.trans ?_ ‹_ ⊆ _›; decide)) : AnsKeeps cs s₀ (execLoomPortConfig c s) := by
  unfold execLoomPortConfig
  try dsimp only
  with_reducible repeat' (first
    | assumption | exact List.Subset.trans (by decide) hm | apply AnsKeeps.next | apply serve_keeps
    | apply loomPortConfigOp_keeps | intro _)

theorem State.setBolt_keeps {d : Way} {b : Nat} {v : Option Bolt} {s : State} (hk : Keeps cs s₀ s)
    (hm : ([.clerk, .hier, .tally, .loom] : List Comp) ⊆ cs := by first | decide | (refine List.Subset.trans ?_ ‹_ ⊆ _›; decide)) : Keeps cs s₀ (State.setBolt d b v s) := by
  unfold State.setBolt
  try dsimp only
  with_reducible repeat' (first
    | assumption | exact List.Subset.trans (by decide) hm | apply Keeps.ite | apply withLoom_keeps
    | apply State.setBoltRx_keeps | apply State.raise_keeps | refine Keeps.of_pair (by assumption) ?_ | intro _ | split)

theorem loomBoltSetOp_keeps {c : Cmd} (hk : Keeps cs s₀ s)
    (hm : ([.clerk, .hier, .tally, .fec, .loom, .ra, .flow] : List Comp) ⊆ cs := by first | decide | (refine List.Subset.trans ?_ ‹_ ⊆ _›; decide)) : Keeps cs s₀ (loomBoltSetOp.effect c s).2 := by
  unfold loomBoltSetOp
  try dsimp only
  with_reducible repeat' (first
    | assumption | exact List.Subset.trans (by decide) hm | apply Keeps.ite | apply Keeps.ite_snd | apply sets_keeps
    | apply State.setBolt_keeps | apply State.replan_keeps | apply foldl_keeps | refine Keeps.of_pair (by assumption) ?_
    | intro _ | split)

theorem execLoomBoltSet_keeps {c : Cmd} {s : State} (hk : Keeps cs s₀ s)
    (hm : ([.out, .bar0, .clerk, .hier, .tally, .fec, .loom, .ra, .flow] : List Comp) ⊆ cs := by first | decide | (refine List.Subset.trans ?_ ‹_ ⊆ _›; decide)) : AnsKeeps cs s₀ (execLoomBoltSet c s) := by
  unfold execLoomBoltSet
  try dsimp only
  with_reducible repeat' (first
    | assumption | exact List.Subset.trans (by decide) hm | apply AnsKeeps.next | apply serve_keeps
    | apply loomBoltSetOp_keeps | intro _)

theorem loomThreadSetOp_keeps {c : Cmd} (hk : Keeps cs s₀ s)
    (hm : ([.clerk, .hier, .tally, .fec, .loom, .ra, .flow] : List Comp) ⊆ cs := by first | decide | (refine List.Subset.trans ?_ ‹_ ⊆ _›; decide)) : Keeps cs s₀ (loomThreadSetOp.effect c s).2 := by
  unfold loomThreadSetOp
  try dsimp only
  with_reducible repeat' (first
    | assumption | exact List.Subset.trans (by decide) hm | apply Keeps.ite | apply Keeps.ite_snd | apply sets_keeps
    | apply withLoom_keeps | apply State.refreshLabel_keeps | apply State.replan_keeps | apply foldl_keeps
    | refine Keeps.of_pair (by assumption) ?_ | intro _ | split)

theorem execLoomThreadSet_keeps {c : Cmd} {s : State} (hk : Keeps cs s₀ s)
    (hm : ([.out, .bar0, .clerk, .hier, .tally, .fec, .loom, .ra, .flow] : List Comp) ⊆ cs := by first | decide | (refine List.Subset.trans ?_ ‹_ ⊆ _›; decide)) : AnsKeeps cs s₀ (execLoomThreadSet c s) := by
  unfold execLoomThreadSet
  try dsimp only
  with_reducible repeat' (first
    | assumption | exact List.Subset.trans (by decide) hm | apply AnsKeeps.next | apply serve_keeps
    | apply loomThreadSetOp_keeps | intro _)

theorem loomProtSetOp_keeps {c : Cmd} (hk : Keeps cs s₀ s)
    (hm : ([.clerk, .hier, .tally, .fec, .loom, .ra, .flow] : List Comp) ⊆ cs := by first | decide | (refine List.Subset.trans ?_ ‹_ ⊆ _›; decide)) : Keeps cs s₀ (loomProtSetOp.effect c s).2 := by
  unfold loomProtSetOp
  try dsimp only
  with_reducible repeat' (first
    | assumption | exact List.Subset.trans (by decide) hm | apply Keeps.ite | apply Keeps.ite_snd | apply sets_keeps
    | apply withLoom_keeps | apply State.replan_keeps | apply foldl_keeps | refine Keeps.of_pair (by assumption) ?_ | intro _
    | split)

theorem execLoomProtSet_keeps {c : Cmd} {s : State} (hk : Keeps cs s₀ s)
    (hm : ([.out, .bar0, .clerk, .hier, .tally, .fec, .loom, .ra, .flow] : List Comp) ⊆ cs := by first | decide | (refine List.Subset.trans ?_ ‹_ ⊆ _›; decide)) : AnsKeeps cs s₀ (execLoomProtSet c s) := by
  unfold execLoomProtSet
  try dsimp only
  with_reducible repeat' (first
    | assumption | exact List.Subset.trans (by decide) hm | apply AnsKeeps.next | apply serve_keeps
    | apply loomProtSetOp_keeps | intro _)

theorem loomProtSwitchOp_keeps {c : Cmd} (hk : Keeps cs s₀ s)
    (hm : ([.loom] : List Comp) ⊆ cs := by first | decide | (refine List.Subset.trans ?_ ‹_ ⊆ _›; decide)) : Keeps cs s₀ (loomProtSwitchOp.effect c s).2 := by
  unfold loomProtSwitchOp
  try dsimp only
  with_reducible repeat' (first
    | assumption | exact List.Subset.trans (by decide) hm | apply Keeps.ite | apply Keeps.ite_snd | apply sets_keeps
    | apply withLoom_keeps | refine Keeps.of_pair (by assumption) ?_ | intro _ | split)

theorem execLoomProtSwitch_keeps {c : Cmd} {s : State} (hk : Keeps cs s₀ s)
    (hm : ([.out, .bar0, .clerk, .tally, .loom] : List Comp) ⊆ cs := by first | decide | (refine List.Subset.trans ?_ ‹_ ⊆ _›; decide)) : AnsKeeps cs s₀ (execLoomProtSwitch c s) := by
  unfold execLoomProtSwitch
  try dsimp only
  with_reducible repeat' (first
    | assumption | exact List.Subset.trans (by decide) hm | apply AnsKeeps.next | apply serve_keeps
    | apply loomProtSwitchOp_keeps | intro _)

theorem loomPortStatusOp_keeps {c : Cmd} (hk : Keeps cs s₀ s) : Keeps cs s₀ (loomPortStatusOp.effect c s).2 := by
  unfold loomPortStatusOp
  try dsimp only
  with_reducible repeat' (first | assumption | apply reads_keeps | refine Keeps.of_pair (by assumption) ?_ | intro _)

theorem execLoomPortStatus_keeps {c : Cmd} {s : State} (hk : Keeps cs s₀ s)
    (hm : ([.out, .bar0, .clerk, .tally] : List Comp) ⊆ cs := by first | decide | (refine List.Subset.trans ?_ ‹_ ⊆ _›; decide)) : AnsKeeps cs s₀ (execLoomPortStatus c s) := by
  unfold execLoomPortStatus
  try dsimp only
  with_reducible repeat' (first
    | assumption | exact List.Subset.trans (by decide) hm | apply AnsKeeps.next | apply serve_keeps
    | apply loomPortStatusOp_keeps | intro _)

theorem loomBoltStatusOp_keeps {c : Cmd} (hk : Keeps cs s₀ s)
    (hm : ([.loom] : List Comp) ⊆ cs := by first | decide | (refine List.Subset.trans ?_ ‹_ ⊆ _›; decide)) : Keeps cs s₀ (loomBoltStatusOp.effect c s).2 := by
  unfold loomBoltStatusOp
  try dsimp only
  with_reducible repeat' (first
    | assumption | exact List.Subset.trans (by decide) hm | apply Keeps.ite | apply Keeps.ite_snd
    | apply State.setBoltRx_keeps | refine Keeps.of_pair (by assumption) ?_ | intro _ | split)

theorem execLoomBoltStatus_keeps {c : Cmd} {s : State} (hk : Keeps cs s₀ s)
    (hm : ([.out, .bar0, .clerk, .tally, .loom] : List Comp) ⊆ cs := by first | decide | (refine List.Subset.trans ?_ ‹_ ⊆ _›; decide)) : AnsKeeps cs s₀ (execLoomBoltStatus c s) := by
  unfold execLoomBoltStatus
  try dsimp only
  with_reducible repeat' (first
    | assumption | exact List.Subset.trans (by decide) hm | apply AnsKeeps.next | apply serve_keeps
    | apply loomBoltStatusOp_keeps | intro _)

theorem loomThreadStatusOp_keeps {c : Cmd} (hk : Keeps cs s₀ s)
    (hm : ([.free] : List Comp) ⊆ cs := by first | decide | (refine List.Subset.trans ?_ ‹_ ⊆ _›; decide)) : Keeps cs s₀ (loomThreadStatusOp.effect c s).2 := by
  unfold loomThreadStatusOp
  try dsimp only
  with_reducible repeat' (first
    | assumption | exact List.Subset.trans (by decide) hm | apply withFree_keeps | refine Keeps.of_pair (by assumption) ?_
    | intro _)

theorem execLoomThreadStatus_keeps {c : Cmd} {s : State} (hk : Keeps cs s₀ s)
    (hm : ([.free, .out, .bar0, .clerk, .tally] : List Comp) ⊆ cs := by first | decide | (refine List.Subset.trans ?_ ‹_ ⊆ _›; decide)) : AnsKeeps cs s₀ (execLoomThreadStatus c s) := by
  unfold execLoomThreadStatus
  try dsimp only
  with_reducible repeat' (first
    | assumption | exact List.Subset.trans (by decide) hm | apply AnsKeeps.next | apply serve_keeps
    | apply loomThreadStatusOp_keeps | intro _)

theorem loomPmReadOp_keeps {c : Cmd} (hk : Keeps cs s₀ s) : Keeps cs s₀ (loomPmReadOp.effect c s).2 := by
  unfold loomPmReadOp
  try dsimp only
  with_reducible repeat' (first
    | assumption | apply Keeps.ite | apply Keeps.ite_snd | apply reads_keeps | refine Keeps.of_pair (by assumption) ?_
    | intro _ | split)

theorem execLoomPmRead_keeps {c : Cmd} {s : State} (hk : Keeps cs s₀ s)
    (hm : ([.out, .bar0, .clerk, .tally] : List Comp) ⊆ cs := by first | decide | (refine List.Subset.trans ?_ ‹_ ⊆ _›; decide)) : AnsKeeps cs s₀ (execLoomPmRead c s) := by
  unfold execLoomPmRead
  try dsimp only
  with_reducible repeat' (first
    | assumption | exact List.Subset.trans (by decide) hm | apply AnsKeeps.next | apply serve_keeps | apply loomPmReadOp_keeps
    | intro _)

theorem loomMapReadOp_keeps {c : Cmd} (hk : Keeps cs s₀ s) : Keeps cs s₀ (loomMapReadOp.effect c s).2 := by
  unfold loomMapReadOp
  try dsimp only
  with_reducible repeat' (first
    | assumption | apply Keeps.ite | apply Keeps.ite_snd | apply reads_keeps | refine Keeps.of_pair (by assumption) ?_
    | intro _ | split)

theorem execLoomMapRead_keeps {c : Cmd} {s : State} (hk : Keeps cs s₀ s)
    (hm : ([.out, .bar0, .clerk, .tally] : List Comp) ⊆ cs := by first | decide | (refine List.Subset.trans ?_ ‹_ ⊆ _›; decide)) : AnsKeeps cs s₀ (execLoomMapRead c s) := by
  unfold execLoomMapRead
  try dsimp only
  with_reducible repeat' (first
    | assumption | exact List.Subset.trans (by decide) hm | apply AnsKeeps.next | apply serve_keeps
    | apply loomMapReadOp_keeps | intro _)

theorem loomCountersOp_keeps {c : Cmd} (hk : Keeps cs s₀ s) : Keeps cs s₀ (loomCountersOp.effect c s).2 := by
  unfold loomCountersOp
  try dsimp only
  with_reducible repeat' (first
    | assumption | apply Keeps.ite | apply Keeps.ite_snd | apply reads_keeps | refine Keeps.of_pair (by assumption) ?_
    | intro _ | split)

theorem execLoomCounters_keeps {c : Cmd} {s : State} (hk : Keeps cs s₀ s)
    (hm : ([.out, .bar0, .clerk, .tally] : List Comp) ⊆ cs := by first | decide | (refine List.Subset.trans ?_ ‹_ ⊆ _›; decide)) : AnsKeeps cs s₀ (execLoomCounters c s) := by
  unfold execLoomCounters
  try dsimp only
  with_reducible repeat' (first
    | assumption | exact List.Subset.trans (by decide) hm | apply AnsKeeps.next | apply serve_keeps
    | apply loomCountersOp_keeps | intro _)

theorem searchMatch_keeps {p : Port} {len : Nat} {s : State} {x : Nat} (hk : Keeps cs s₀ s)
    (hm : ([.tally, .loom] : List Comp) ⊆ cs := by first | decide | (refine List.Subset.trans ?_ ‹_ ⊆ _›; decide)) : Keeps cs s₀ (searchMatch p len s x) := by
  unfold searchMatch
  try dsimp only
  with_reducible repeat' (first
    | assumption | exact List.Subset.trans (by decide) hm | apply Keeps.ite | apply State.updLp_keeps | apply State.bump_keeps
    | refine Keeps.of_pair (by assumption) ?_ | intro _ | split)

theorem execAlignDeclare_keeps {p : Port} {found : List Nat} {heads : List (Nat × Nat × Nat)} {s : State} (hk : Keeps cs s₀ s)
    (hm : ([.clerk, .hier, .tally, .loom, .flow] : List Comp) ⊆ cs := by first | decide | (refine List.Subset.trans ?_ ‹_ ⊆ _›; decide)) : AnsKeeps cs s₀ (execAlignDeclare p found heads s) := by
  unfold execAlignDeclare
  try dsimp only
  with_reducible repeat' (first
    | assumption | exact List.Subset.trans (by decide) hm | apply Keeps.ite | apply AnsKeeps.ite | apply AnsKeeps.next
    | apply searchMatch_keeps | apply State.updLp_keeps | apply State.bump_keeps | apply happen_keeps
    | apply State.moveFramer_keeps | apply foldl_keeps | refine Keeps.of_pair (by assumption) ?_ | intro _ | split)

theorem execLockDeclare_keeps {p : Port} {s : State} (hk : Keeps cs s₀ s)
    (hm : ([.clerk, .hier, .tally, .loom, .flow] : List Comp) ⊆ cs := by first | decide | (refine List.Subset.trans ?_ ‹_ ⊆ _›; decide)) : AnsKeeps cs s₀ (execLockDeclare p s) := by
  unfold execLockDeclare
  try dsimp only
  with_reducible repeat' (first
    | assumption | exact List.Subset.trans (by decide) hm | apply AnsKeeps.next | apply happen_keeps
    | apply State.moveFramer_keeps | refine Keeps.of_pair (by assumption) ?_ | intro _)

theorem execLofDeclare_keeps {p : Port} {s : State} (hk : Keeps cs s₀ s)
    (hm : ([.clerk, .hier, .tally, .loom, .flow] : List Comp) ⊆ cs := by first | decide | (refine List.Subset.trans ?_ ‹_ ⊆ _›; decide)) : AnsKeeps cs s₀ (execLofDeclare p s) := by
  unfold execLofDeclare
  try dsimp only
  with_reducible repeat' (first
    | assumption | exact List.Subset.trans (by decide) hm | apply AnsKeeps.next | apply happen_keeps | apply State.bump_keeps
    | apply State.moveFramer_keeps | refine Keeps.of_pair (by assumption) ?_ | intro _)

theorem execLomDeclare_keeps {p : Port} {s : State} (hk : Keeps cs s₀ s)
    (hm : ([.clerk, .hier, .tally, .loom, .flow] : List Comp) ⊆ cs := by first | decide | (refine List.Subset.trans ?_ ‹_ ⊆ _›; decide)) : AnsKeeps cs s₀ (execLomDeclare p s) := by
  unfold execLomDeclare
  try dsimp only
  with_reducible repeat' (first
    | assumption | exact List.Subset.trans (by decide) hm | apply AnsKeeps.next | apply happen_keeps | apply State.bump_keeps
    | apply State.moveFramer_keeps | refine Keeps.of_pair (by assumption) ?_ | intro _)

/-! ### LoomData.lean -/

theorem State.checkMap_keeps {p : Port} {ws : List Word} {s : State} (hk : Keeps cs s₀ s)
    (hm : ([.loom] : List Comp) ⊆ cs := by first | decide | (refine List.Subset.trans ?_ ‹_ ⊆ _›; decide)) : Keeps cs s₀ (State.checkMap p ws s) := by
  unfold State.checkMap
  try dsimp only
  with_reducible repeat' (first
    | assumption | exact List.Subset.trans (by decide) hm | apply Keeps.ite | apply State.updLp_keeps | apply foldl_keeps
    | refine Keeps.of_pair (by assumption) ?_ | intro _ | split)

theorem State.checkSection_keeps {p : Port} {ws : List Word} {parity : Nat} {s : State} (hk : Keeps cs s₀ s)
    (hm : ([.loom] : List Comp) ⊆ cs := by first | decide | (refine List.Subset.trans ?_ ‹_ ⊆ _›; decide)) : Keeps cs s₀ (State.checkSection p ws parity s) := by
  unfold State.checkSection
  try dsimp only
  with_reducible repeat' (first
    | assumption | exact List.Subset.trans (by decide) hm | apply State.updLp_keeps | apply State.pm_keeps
    | refine Keeps.of_pair (by assumption) ?_ | intro _ | split)

theorem State.checkBolts_keeps {p : Port} {ws : List Word} {boltPar : List (Nat × Nat)} {s : State} (hk : Keeps cs s₀ s)
    (hm : ([.loom] : List Comp) ⊆ cs := by first | decide | (refine List.Subset.trans ?_ ‹_ ⊆ _›; decide)) : Keeps cs s₀ (State.checkBolts p ws boltPar s) := by
  unfold State.checkBolts
  try dsimp only
  with_reducible repeat' (first
    | assumption | exact List.Subset.trans (by decide) hm | apply Keeps.ite | apply State.pm_keeps | apply State.updLp_keeps
    | apply foldl_keeps | refine Keeps.of_pair (by assumption) ?_ | intro _ | split)

theorem State.takeLabel_keeps {p : Port} {s : State} {e : Word} (hk : Keeps cs s₀ s)
    (hm : ([.tally, .loom] : List Comp) ⊆ cs := by first | decide | (refine List.Subset.trans ?_ ‹_ ⊆ _›; decide)) : Keeps cs s₀ (State.takeLabel p s e) := by
  unfold State.takeLabel
  try dsimp only
  with_reducible repeat' (first
    | assumption | exact List.Subset.trans (by decide) hm | apply Keeps.ite | apply State.bump_keeps | apply withLoom_keeps
    | refine Keeps.of_pair (by assumption) ?_ | intro _ | split)

theorem execFrameArrive_keeps {p : Port} {ws : List Word} {clean : Bool} {parity : Nat} {boltPar : List (Nat × Nat)} {s : State}
    (hk : Keeps cs s₀ s)
    (hm : ([.tally, .loom, .store] : List Comp) ⊆ cs := by first | decide | (refine List.Subset.trans ?_ ‹_ ⊆ _›; decide)) : AnsKeeps cs s₀ (execFrameArrive p ws clean parity boltPar s) := by
  unfold execFrameArrive
  try dsimp only
  with_reducible repeat' (first
    | assumption | exact List.Subset.trans (by decide) hm | apply Keeps.ite | apply AnsKeeps.ite | apply AnsKeeps.next
    | apply State.updLp_keeps | apply withStore_keeps | apply State.bump_keeps | apply State.pm_keeps
    | apply State.checkMap_keeps | apply State.checkSection_keeps | apply State.checkBolts_keeps | apply State.takeLabel_keeps
    | apply happen_keeps | apply foldl_keeps | refine Keeps.store' (cs := cs) (s₀ := s₀) rfl ?_
    | refine Keeps.of_pair (by assumption) ?_ | intro _ | split)

theorem execMapMismatch_keeps {p : Port} {slot : Nat} {s : State} (hk : Keeps cs s₀ s)
    (hm : ([.clerk, .hier, .tally, .loom, .flow] : List Comp) ⊆ cs := by first | decide | (refine List.Subset.trans ?_ ‹_ ⊆ _›; decide)) : AnsKeeps cs s₀ (execMapMismatch p slot s) := by
  unfold execMapMismatch
  try dsimp only
  with_reducible repeat' (first
    | assumption | exact List.Subset.trans (by decide) hm | apply Keeps.ite | apply AnsKeeps.ite | apply AnsKeeps.next
    | apply State.slot_keeps | apply State.updLp_keeps | apply State.raise_keeps | apply happen_keeps
    | apply State.downBolts_keeps | refine Keeps.of_pair (by assumption) ?_ | intro _ | split)

theorem execLabelAccept_keeps {p : Port} {thread : Nat} {s : State} (hk : Keeps cs s₀ s)
    (hm : ([.clerk, .hier, .tally, .loom, .flow] : List Comp) ⊆ cs := by first | decide | (refine List.Subset.trans ?_ ‹_ ⊆ _›; decide)) : AnsKeeps cs s₀ (execLabelAccept p thread s) := by
  unfold execLabelAccept
  try dsimp only
  with_reducible repeat' (first
    | assumption | exact List.Subset.trans (by decide) hm | apply AnsKeeps.next | apply happen_keeps | apply withLoom_keeps
    | apply State.refreshLabel_keeps | refine Keeps.of_pair (by assumption) ?_ | intro _)

theorem State.dropFrames_keeps {s : State} (hk : Keeps cs s₀ s)
    (hm : ([.loom] : List Comp) ⊆ cs := by first | decide | (refine List.Subset.trans ?_ ‹_ ⊆ _›; decide)) : Keeps cs s₀ (State.dropFrames s) := by
  unfold State.dropFrames
  try dsimp only
  with_reducible repeat' (first
    | assumption | exact List.Subset.trans (by decide) hm | apply State.updLp_keeps | apply foldl_keeps
    | refine Keeps.of_pair (by assumption) ?_ | intro _)

theorem State.readCopy_keeps {b t : Nat} {s : State} (hk : Keeps cs s₀ s)
    (hm : ([.clerk, .hier, .tally, .loom, .flow] : List Comp) ⊆ cs := by first | decide | (refine List.Subset.trans ?_ ‹_ ⊆ _›; decide)) : Keeps cs s₀ (State.readCopy b t s) := by
  unfold State.readCopy
  try dsimp only
  with_reducible repeat' (first
    | assumption | exact List.Subset.trans (by decide) hm | apply Keeps.ite | apply State.setBoltRx_keeps
    | apply State.moveBolt_keeps | refine Keeps.of_pair (by assumption) ?_ | intro _ | split)

theorem State.handOn_keeps {b : Nat} {present : Bool} {lost : List Nat} {s : State} (hk : Keeps cs s₀ s)
    (hm : ([.loom] : List Comp) ⊆ cs := by first | decide | (refine List.Subset.trans ?_ ‹_ ⊆ _›; decide)) : Keeps cs s₀ (State.handOn b present lost s) := by
  unfold State.handOn
  try dsimp only
  with_reducible repeat' (first
    | assumption | exact List.Subset.trans (by decide) hm | apply Keeps.ite | apply State.pm_keeps | apply foldl_keeps
    | refine Keeps.of_pair (by assumption) ?_ | intro _ | split)

theorem State.notDelivered_keeps {b : Nat} {s : State} (hk : Keeps cs s₀ s)
    (hm : ([.loom] : List Comp) ⊆ cs := by first | decide | (refine List.Subset.trans ?_ ‹_ ⊆ _›; decide)) : Keeps cs s₀ (State.notDelivered b s) := by
  unfold State.notDelivered
  try dsimp only
  with_reducible repeat' (first
    | assumption | exact List.Subset.trans (by decide) hm | apply State.pm_keeps | refine Keeps.of_pair (by assumption) ?_
    | intro _)

theorem evProt_keeps {q : Pair} {sel : Bool} {cause : Nat} {s : State} (hk : Keeps cs s₀ s)
    (hm : ([.clerk, .hier, .tally] : List Comp) ⊆ cs := by first | decide | (refine List.Subset.trans ?_ ‹_ ⊆ _›; decide)) : Keeps cs s₀ (evProt q sel cause s) := by
  unfold evProt
  try dsimp only
  with_reducible repeat' (first
    | assumption | exact List.Subset.trans (by decide) hm | apply State.raiseLimited_keeps
    | refine Keeps.of_pair (by assumption) ?_ | intro _)

theorem State.readPair_keeps {q : Pair} {t : Nat} {lostW lostP : List Nat} {s : State} (hk : Keeps cs s₀ s)
    (hm : ([.clerk, .hier, .tally, .loom, .flow] : List Comp) ⊆ cs := by first | decide | (refine List.Subset.trans ?_ ‹_ ⊆ _›; decide)) : Keeps cs s₀ (State.readPair q t lostW lostP s) := by
  unfold State.readPair
  try dsimp only
  with_reducible repeat' (first
    | assumption | exact List.Subset.trans (by decide) hm | apply Keeps.ite | apply State.handOn_keeps
    | apply State.notDelivered_keeps | apply State.readCopy_keeps | apply withLoom_keeps | apply evProt_keeps
    | refine Keeps.of_pair (by assumption) ?_ | intro _ | split)

theorem State.readAlone_keeps {b t : Nat} {lost : List Nat} {s : State} (hk : Keeps cs s₀ s)
    (hm : ([.clerk, .hier, .tally, .loom, .flow] : List Comp) ⊆ cs := by first | decide | (refine List.Subset.trans ?_ ‹_ ⊆ _›; decide)) : Keeps cs s₀ (State.readAlone b t lost s) := by
  unfold State.readAlone
  try dsimp only
  with_reducible repeat' (first
    | assumption | exact List.Subset.trans (by decide) hm | apply Keeps.ite | apply State.handOn_keeps
    | apply State.notDelivered_keeps | apply State.readCopy_keeps | refine Keeps.of_pair (by assumption) ?_ | intro _ | split)

theorem execTickRead_keeps {b t : Nat} {lostW lostP : List Nat} {segs : List (Nat × List Byte)} {s : State} (hk : Keeps cs s₀ s)
    (hm : ([.free, .clerk, .hier, .tally, .loom, .store, .flow] : List Comp) ⊆ cs := by first | decide | (refine List.Subset.trans ?_ ‹_ ⊆ _›; decide)) : AnsKeeps cs s₀ (execTickRead b t lostW lostP segs s) := by
  unfold execTickRead
  try dsimp only
  with_reducible repeat' (first
    | assumption | exact List.Subset.trans (by decide) hm | apply Keeps.ite | apply AnsKeeps.ite | apply AnsKeeps.next
    | apply happen_keeps | apply State.readAlone_keeps | apply State.dropFrames_keeps | apply State.takeSegments_keeps
    | apply State.readPair_keeps | refine Keeps.of_pair (by assumption) ?_ | intro _ | split)

theorem execSkewMaxExpiry_keeps {b t : Nat} {s : State} (hk : Keeps cs s₀ s)
    (hm : ([.clerk, .hier, .tally, .loom, .flow] : List Comp) ⊆ cs := by first | decide | (refine List.Subset.trans ?_ ‹_ ⊆ _›; decide)) : AnsKeeps cs s₀ (execSkewMaxExpiry b t s) := by
  unfold execSkewMaxExpiry
  try dsimp only
  with_reducible repeat' (first
    | assumption | exact List.Subset.trans (by decide) hm | apply Keeps.ite | apply AnsKeeps.ite | apply AnsKeeps.next
    | apply State.setBoltRx_keeps | apply State.moveBolt_keeps | apply happen_keeps | apply State.handOn_keeps
    | apply State.notDelivered_keeps | apply State.dropFrames_keeps | refine Keeps.of_pair (by assumption) ?_ | intro _
    | split)

theorem execTxFrameSend_keeps {p : Port} {parity : Nat} {boltPar : List (Nat × Nat)} {under : List Nat} {s : State}
    (hk : Keeps cs s₀ s)
    (hm : ([.free, .out, .tally, .loom] : List Comp) ⊆ cs := by first | decide | (refine List.Subset.trans ?_ ‹_ ⊆ _›; decide)) : AnsKeeps cs s₀ (execTxFrameSend p parity boltPar under s) := by
  unfold execTxFrameSend
  try dsimp only
  with_reducible repeat' (first
    | assumption | exact List.Subset.trans (by decide) hm | apply Keeps.ite | apply AnsKeeps.ite | apply AnsKeeps.next
    | apply State.updLp_keeps | apply withFree_keeps | apply State.emit_keeps | apply State.bump_keeps | apply happen_keeps
    | apply State.pm_keeps | apply foldl_keeps | refine Keeps.of_pair (by assumption) ?_ | intro _ | split)

/-! ### Rate.lean -/

theorem evRaStep_keeps {p : Port} {d : Way} {old new : Nat} {s : State} (hk : Keeps cs s₀ s)
    (hm : ([.clerk, .hier, .tally] : List Comp) ⊆ cs := by first | decide | (refine List.Subset.trans ?_ ‹_ ⊆ _›; decide)) : Keeps cs s₀ (evRaStep p d old new s) := by
  unfold evRaStep
  try dsimp only
  with_reducible repeat' (first
    | assumption | exact List.Subset.trans (by decide) hm | apply State.raise_keeps | refine Keeps.of_pair (by assumption) ?_
    | intro _)

theorem evRaRefused_keeps {p : Port} {d : Way} {far : Bool} {cause code : Nat} {s : State} (hk : Keeps cs s₀ s)
    (hm : ([.clerk, .hier, .tally] : List Comp) ⊆ cs := by first | decide | (refine List.Subset.trans ?_ ‹_ ⊆ _›; decide)) : Keeps cs s₀ (evRaRefused p d far cause code s) := by
  unfold evRaRefused
  try dsimp only
  with_reducible repeat' (first
    | assumption | exact List.Subset.trans (by decide) hm | apply State.raiseAtMost_keeps
    | refine Keeps.of_pair (by assumption) ?_ | intro _)

theorem State.endStep_keeps {p : Port} {job : Option Nat} {status cause code mf : Nat} {s : State} (hk : Keeps cs s₀ s)
    (hm : ([.clerk, .hier, .tally] : List Comp) ⊆ cs := by first | decide | (refine List.Subset.trans ?_ ‹_ ⊆ _›; decide)) : Keeps cs s₀ (State.endStep p job status cause code mf s) := by
  unfold State.endStep
  try dsimp only
  with_reducible repeat' (first
    | assumption | exact List.Subset.trans (by decide) hm | apply State.endJob_keeps | refine Keeps.of_pair (by assumption) ?_
    | intro _ | split)

theorem State.refuseStep_keeps {p : Port} {a : Attempt} {far : Bool} {cause : Nat} {s : State} (hk : Keeps cs s₀ s)
    (hm : ([.clerk, .hier, .tally, .ra] : List Comp) ⊆ cs := by first | decide | (refine List.Subset.trans ?_ ‹_ ⊆ _›; decide)) : Keeps cs s₀ (State.refuseStep p a far cause s) := by
  unfold State.refuseStep
  try dsimp only
  with_reducible repeat' (first
    | assumption | exact List.Subset.trans (by decide) hm | apply Keeps.ite | apply State.updRa_keeps | apply State.bump_keeps
    | apply evRaRefused_keeps | apply State.endStep_keeps | refine Keeps.of_pair (by assumption) ?_ | intro _ | split)

theorem State.propose_keeps {p : Port} {a : Attempt} {s : State} (hk : Keeps cs s₀ s)
    (hm : ([.tally, .ra, .crier] : List Comp) ⊆ cs := by first | decide | (refine List.Subset.trans ?_ ‹_ ⊆ _›; decide)) : Keeps cs s₀ (State.propose p a s) := by
  unfold State.propose
  try dsimp only
  with_reducible repeat' (first
    | assumption | exact List.Subset.trans (by decide) hm | apply Keeps.ite | apply State.updRa_keeps | apply State.bump_keeps
    | apply State.queuePkt_keeps | refine Keeps.of_pair (by assumption) ?_ | intro _ | split)

theorem State.seek_keeps {p : Port} {code : Nat} {s : State} (hk : Keeps cs s₀ s)
    (hm : ([.ra] : List Comp) ⊆ cs := by first | decide | (refine List.Subset.trans ?_ ‹_ ⊆ _›; decide)) : Keeps cs s₀ (State.seek p code s) := by
  unfold State.seek
  try dsimp only
  with_reducible repeat' (first | assumption | exact List.Subset.trans (by decide) hm | apply State.updRa_keeps | intro _)

theorem State.marginAlarm_keeps {p : Port} {s : State} (hk : Keeps cs s₀ s)
    (hm : ([.free, .clerk, .hier, .tally, .ra] : List Comp) ⊆ cs := by first | decide | (refine List.Subset.trans ?_ ‹_ ⊆ _›; decide)) : Keeps cs s₀ (State.marginAlarm p s) := by
  unfold State.marginAlarm
  try dsimp only
  with_reducible repeat' (first
    | assumption | exact List.Subset.trans (by decide) hm | apply Keeps.ite | apply State.take_keeps | apply State.updRa_keeps
    | apply State.raise_keeps | refine Keeps.of_pair (by assumption) ?_ | intro _ | split)

theorem execMarginUpdate_keeps {p : Port} {margin up down : Int} {s : State} (hk : Keeps cs s₀ s)
    (hm : ([.free, .clerk, .hier, .tally, .ra] : List Comp) ⊆ cs := by first | decide | (refine List.Subset.trans ?_ ‹_ ⊆ _›; decide)) : AnsKeeps cs s₀ (execMarginUpdate p margin up down s) := by
  unfold execMarginUpdate
  try dsimp only
  with_reducible repeat' (first
    | assumption | exact List.Subset.trans (by decide) hm | apply Keeps.ite | apply AnsKeeps.ite | apply AnsKeeps.next
    | apply State.updRa_keeps | apply happen_keeps | apply State.seek_keeps | apply State.marginAlarm_keeps
    | refine Keeps.of_pair (by assumption) ?_ | intro _ | split)

theorem execUpHoldExpiry_keeps {p : Port} {s : State} (hk : Keeps cs s₀ s)
    (hm : ([.ra] : List Comp) ⊆ cs := by first | decide | (refine List.Subset.trans ?_ ‹_ ⊆ _›; decide)) : AnsKeeps cs s₀ (execUpHoldExpiry p s) := by
  unfold execUpHoldExpiry
  try dsimp only
  with_reducible repeat' (first
    | assumption | exact List.Subset.trans (by decide) hm | apply AnsKeeps.next | apply happen_keeps | apply State.seek_keeps
    | refine Keeps.of_pair (by assumption) ?_ | intro _)

theorem execStepSeek_keeps {p : Port} {s : State} (hk : Keeps cs s₀ s)
    (hm : ([.clerk, .hier, .tally, .ra, .crier] : List Comp) ⊆ cs := by first | decide | (refine List.Subset.trans ?_ ‹_ ⊆ _›; decide)) : AnsKeeps cs s₀ (execStepSeek p s) := by
  unfold execStepSeek
  try dsimp only
  with_reducible repeat' (first
    | assumption | exact List.Subset.trans (by decide) hm | apply Keeps.ite | apply AnsKeeps.ite | apply AnsKeeps.next
    | apply happen_keeps | apply State.refuseStep_keeps | apply State.propose_keeps | refine Keeps.of_pair (by assumption) ?_
    | intro _ | split)

theorem execRateAnswer_keeps {p : Port} {s : State} (hk : Keeps cs s₀ s)
    (hm : ([.clerk, .hier, .tally, .ra, .crier] : List Comp) ⊆ cs := by first | decide | (refine List.Subset.trans ?_ ‹_ ⊆ _›; decide)) : AnsKeeps cs s₀ (execRateAnswer p s) := by
  unfold execRateAnswer
  try dsimp only
  with_reducible repeat' (first
    | assumption | exact List.Subset.trans (by decide) hm | apply Keeps.ite | apply AnsKeeps.ite | apply AnsKeeps.next
    | refine State.takeLink_keeps ?_ (by assumption) | apply happen_keeps | apply State.bump_keeps
    | apply State.refuseStep_keeps | apply State.updRa_keeps | refine Keeps.of_pair (by assumption) ?_ | intro _ | split)

theorem execAnswerWaitExpiry_keeps {p : Port} {s : State} (hk : Keeps cs s₀ s)
    (hm : ([.clerk, .hier, .tally, .ra, .crier] : List Comp) ⊆ cs := by first | decide | (refine List.Subset.trans ?_ ‹_ ⊆ _›; decide)) : AnsKeeps cs s₀ (execAnswerWaitExpiry p s) := by
  unfold execAnswerWaitExpiry
  try dsimp only
  with_reducible repeat' (first
    | assumption | exact List.Subset.trans (by decide) hm | apply Keeps.ite | apply AnsKeeps.ite | apply AnsKeeps.next
    | apply State.updRa_keeps | apply State.bump_keeps | apply State.raise_keeps | apply happen_keeps
    | apply State.endStep_keeps | apply State.propose_keeps | refine Keeps.of_pair (by assumption) ?_ | intro _ | split)

theorem execHeldExpiry_keeps {p : Port} {s : State} (hk : Keeps cs s₀ s)
    (hm : ([.ra] : List Comp) ⊆ cs := by first | decide | (refine List.Subset.trans ?_ ‹_ ⊆ _›; decide)) : AnsKeeps cs s₀ (execHeldExpiry p s) := by
  unfold execHeldExpiry
  try dsimp only
  with_reducible repeat' (first
    | assumption | exact List.Subset.trans (by decide) hm | apply AnsKeeps.next | apply happen_keeps | apply State.updRa_keeps
    | refine Keeps.of_pair (by assumption) ?_ | intro _)

theorem execFallbackStart_keeps {p : Port} {s : State} (hk : Keeps cs s₀ s)
    (hm : ([.tally, .ra, .crier] : List Comp) ⊆ cs := by first | decide | (refine List.Subset.trans ?_ ‹_ ⊆ _›; decide)) : AnsKeeps cs s₀ (execFallbackStart p s) := by
  unfold execFallbackStart
  try dsimp only
  with_reducible repeat' (first
    | assumption | exact List.Subset.trans (by decide) hm | apply AnsKeeps.next | apply happen_keeps
    | apply State.propose_keeps | refine Keeps.of_pair (by assumption) ?_ | intro _)

theorem execRatePropose_keeps {p : Port} {s : State} (hk : Keeps cs s₀ s)
    (hm : ([.free, .out, .bar0, .clerk, .hier, .tally, .tx, .ra, .crier] : List Comp) ⊆ cs := by first | decide | (refine List.Subset.trans ?_ ‹_ ⊆ _›; decide)) : AnsKeeps cs s₀ (execRatePropose p s) := by
  unfold execRatePropose
  try dsimp only
  with_reducible repeat' (first
    | assumption | exact List.Subset.trans (by decide) hm | apply Keeps.ite | apply AnsKeeps.ite | apply AnsKeeps.next
    | refine State.takeLink_keeps ?_ (by assumption) | apply State.bump_keeps | apply State.take_keeps | apply answer_keeps
    | apply happen_keeps | apply evRaRefused_keeps | apply State.queuePkt_keeps | apply State.updRa_keeps
    | apply State.updTx_keeps | refine Keeps.of_pair (by assumption) ?_ | intro _ | split)

theorem execAnnouncementValid_keeps {p : Port} {s : State} (hk : Keeps cs s₀ s)
    (hm : ([.ra] : List Comp) ⊆ cs := by first | decide | (refine List.Subset.trans ?_ ‹_ ⊆ _›; decide)) : AnsKeeps cs s₀ (execAnnouncementValid p s) := by
  unfold execAnnouncementValid
  try dsimp only
  with_reducible repeat' (first
    | assumption | exact List.Subset.trans (by decide) hm | apply AnsKeeps.next | apply happen_keeps | apply State.updRa_keeps
    | refine Keeps.of_pair (by assumption) ?_ | intro _ | split)

theorem State.moveCode_keeps {p : Port} {code : Nat} {fb : Bool} {s : State} (hk : Keeps cs s₀ s)
    (hm : ([.clerk, .hier, .tally, .rx, .fec, .loom, .ra, .flow] : List Comp) ⊆ cs := by first | decide | (refine List.Subset.trans ?_ ‹_ ⊆ _›; decide)) : Keeps cs s₀ (State.moveCode p code fb s) := by
  unfold State.moveCode
  try dsimp only
  with_reducible repeat' (first
    | assumption | exact List.Subset.trans (by decide) hm | apply Keeps.ite | apply State.updRx_keeps
    | apply State.updRa_keeps | apply evRaStep_keeps | apply State.bump_keeps | apply State.refreshPairs_keeps
    | apply State.downBolts_keeps | apply State.refreshPools_keeps | refine Keeps.of_pair (by assumption) ?_ | intro _ | split)

theorem State.switchRx_keeps {p : Port} {g : Agreement} {s : State} (hk : Keeps cs s₀ s)
    (hm : ([.clerk, .hier, .tally, .rx, .fec, .loom, .ra, .flow] : List Comp) ⊆ cs := by first | decide | (refine List.Subset.trans ?_ ‹_ ⊆ _›; decide)) : Keeps cs s₀ (State.switchRx p g s) := by
  unfold State.switchRx
  try dsimp only
  with_reducible repeat' (first
    | assumption | exact List.Subset.trans (by decide) hm | apply Keeps.ite | apply State.updRa_keeps | apply State.bump_keeps
    | apply State.raise_keeps | apply State.moveCode_keeps | apply State.endJob_keeps
    | refine Keeps.of_pair (by assumption) ?_ | intro _ | split)

theorem State.switchTx_keeps {p : Port} {g : Agreement} {s : State} (hk : Keeps cs s₀ s)
    (hm : ([.clerk, .hier, .tally, .fec, .tx, .ra, .flow] : List Comp) ⊆ cs := by first | decide | (refine List.Subset.trans ?_ ‹_ ⊆ _›; decide)) : Keeps cs s₀ (State.switchTx p g s) := by
  unfold State.switchTx
  try dsimp only
  with_reducible repeat' (first
    | assumption | exact List.Subset.trans (by decide) hm | apply Keeps.ite | apply State.updTx_keeps
    | apply State.updRa_keeps | apply State.bump_keeps | apply evRaStep_keeps | apply State.raise_keeps
    | apply State.settleCredits_keeps | apply State.refreshPools_keeps | refine Keeps.of_pair (by assumption) ?_ | intro _
    | split)

theorem execRateSwitch_keeps {p : Port} {d : Way} {s : State} (hk : Keeps cs s₀ s)
    (hm : ([.clerk, .hier, .tally, .rx, .fec, .tx, .loom, .ra, .flow] : List Comp) ⊆ cs := by first | decide | (refine List.Subset.trans ?_ ‹_ ⊆ _›; decide)) : AnsKeeps cs s₀ (execRateSwitch p d s) := by
  unfold execRateSwitch
  try dsimp only
  with_reducible repeat' (first
    | assumption | exact List.Subset.trans (by decide) hm | apply Keeps.ite | apply AnsKeeps.ite | apply AnsKeeps.next
    | apply happen_keeps | apply State.switchTx_keeps | apply State.switchRx_keeps | refine Keeps.of_pair (by assumption) ?_
    | intro _ | split)

theorem execCandidateSwitch_keeps {p : Port} {s : State} (hk : Keeps cs s₀ s)
    (hm : ([.clerk, .hier, .tally, .rx, .fec, .loom, .ra, .flow] : List Comp) ⊆ cs := by first | decide | (refine List.Subset.trans ?_ ‹_ ⊆ _›; decide)) : AnsKeeps cs s₀ (execCandidateSwitch p s) := by
  unfold execCandidateSwitch
  try dsimp only
  with_reducible repeat' (first
    | assumption | exact List.Subset.trans (by decide) hm | apply AnsKeeps.next | apply State.updRa_keeps | apply happen_keeps
    | apply State.moveCode_keeps | refine Keeps.of_pair (by assumption) ?_ | intro _ | split)

theorem lineRaConfigOp_keeps {c : Cmd} (hk : Keeps cs s₀ s)
    (hm : ([.ra] : List Comp) ⊆ cs := by first | decide | (refine List.Subset.trans ?_ ‹_ ⊆ _›; decide)) : Keeps cs s₀ (lineRaConfigOp.effect c s).2 := by
  unfold lineRaConfigOp
  try dsimp only
  with_reducible repeat' (first
    | assumption | exact List.Subset.trans (by decide) hm | apply Keeps.ite | apply Keeps.ite_snd | apply sets_keeps
    | apply State.updRa_keeps | refine Keeps.of_pair (by assumption) ?_ | intro _ | split)

theorem execLineRaConfig_keeps {c : Cmd} {s : State} (hk : Keeps cs s₀ s)
    (hm : ([.out, .bar0, .clerk, .tally, .ra] : List Comp) ⊆ cs := by first | decide | (refine List.Subset.trans ?_ ‹_ ⊆ _›; decide)) : AnsKeeps cs s₀ (execLineRaConfig c s) := by
  unfold execLineRaConfig
  try dsimp only
  with_reducible repeat' (first
    | assumption | exact List.Subset.trans (by decide) hm | apply AnsKeeps.next | apply serve_keeps
    | apply lineRaConfigOp_keeps | intro _)

theorem lineRaStepOp_keeps {c : Cmd} (hk : Keeps cs s₀ s)
    (hm : ([.clerk, .hier, .tally, .ra] : List Comp) ⊆ cs := by first | decide | (refine List.Subset.trans ?_ ‹_ ⊆ _›; decide)) : Keeps cs s₀ (lineRaStepOp.effect c s).2 := by
  unfold lineRaStepOp
  try dsimp only
  with_reducible repeat' (first
    | assumption | exact List.Subset.trans (by decide) hm | apply Keeps.ite | apply Keeps.ite_snd | apply State.startJob_keeps
    | apply State.endStep_keeps | apply State.updRa_keeps | refine Keeps.of_pair (by assumption) ?_ | intro _ | split)

theorem execLineRaStep_keeps {c : Cmd} {s : State} (hk : Keeps cs s₀ s)
    (hm : ([.out, .bar0, .clerk, .hier, .tally, .ra] : List Comp) ⊆ cs := by first | decide | (refine List.Subset.trans ?_ ‹_ ⊆ _›; decide)) : AnsKeeps cs s₀ (execLineRaStep c s) := by
  unfold execLineRaStep
  try dsimp only
  with_reducible repeat' (first
    | assumption | exact List.Subset.trans (by decide) hm | apply AnsKeeps.next | apply serve_keeps | apply lineRaStepOp_keeps
    | intro _)

theorem lineRaGuardSetOp_keeps {c : Cmd} (hk : Keeps cs s₀ s)
    (hm : ([.clerk, .hier, .tally, .fec, .loom, .ra, .flow] : List Comp) ⊆ cs := by first | decide | (refine List.Subset.trans ?_ ‹_ ⊆ _›; decide)) : Keeps cs s₀ (lineRaGuardSetOp.effect c s).2 := by
  unfold lineRaGuardSetOp
  try dsimp only
  with_reducible repeat' (first
    | assumption | exact List.Subset.trans (by decide) hm | apply Keeps.ite | apply Keeps.ite_snd | apply sets_keeps
    | apply withRa_keeps | apply State.replan_keeps | apply foldl_keeps | refine Keeps.of_pair (by assumption) ?_ | intro _
    | split)

theorem execLineRaGuardSet_keeps {c : Cmd} {s : State} (hk : Keeps cs s₀ s)
    (hm : ([.out, .bar0, .clerk, .hier, .tally, .fec, .loom, .ra, .flow] : List Comp) ⊆ cs := by first | decide | (refine List.Subset.trans ?_ ‹_ ⊆ _›; decide)) : AnsKeeps cs s₀ (execLineRaGuardSet c s) := by
  unfold execLineRaGuardSet
  try dsimp only
  with_reducible repeat' (first
    | assumption | exact List.Subset.trans (by decide) hm | apply AnsKeeps.next | apply serve_keeps
    | apply lineRaGuardSetOp_keeps | intro _)

theorem lineRaPlanReadOp_keeps {c : Cmd} (hk : Keeps cs s₀ s) : Keeps cs s₀ (lineRaPlanReadOp.effect c s).2 := by
  unfold lineRaPlanReadOp
  try dsimp only
  with_reducible repeat' (first
    | assumption | apply Keeps.ite | apply Keeps.ite_snd | apply reads_keeps | refine Keeps.of_pair (by assumption) ?_
    | intro _ | split)

theorem execLineRaPlanRead_keeps {c : Cmd} {s : State} (hk : Keeps cs s₀ s)
    (hm : ([.out, .bar0, .clerk, .tally] : List Comp) ⊆ cs := by first | decide | (refine List.Subset.trans ?_ ‹_ ⊆ _›; decide)) : AnsKeeps cs s₀ (execLineRaPlanRead c s) := by
  unfold execLineRaPlanRead
  try dsimp only
  with_reducible repeat' (first
    | assumption | exact List.Subset.trans (by decide) hm | apply AnsKeeps.next | apply serve_keeps
    | apply lineRaPlanReadOp_keeps | intro _)

theorem lineRaStatusOp_keeps {c : Cmd} (hk : Keeps cs s₀ s)
    (hm : ([.free] : List Comp) ⊆ cs := by first | decide | (refine List.Subset.trans ?_ ‹_ ⊆ _›; decide)) : Keeps cs s₀ (lineRaStatusOp.effect c s).2 := by
  unfold lineRaStatusOp
  try dsimp only
  with_reducible repeat' (first
    | assumption | exact List.Subset.trans (by decide) hm | apply withFree_keeps | refine Keeps.of_pair (by assumption) ?_
    | intro _)

theorem execLineRaStatus_keeps {c : Cmd} {s : State} (hk : Keeps cs s₀ s)
    (hm : ([.free, .out, .bar0, .clerk, .tally] : List Comp) ⊆ cs := by first | decide | (refine List.Subset.trans ?_ ‹_ ⊆ _›; decide)) : AnsKeeps cs s₀ (execLineRaStatus c s) := by
  unfold execLineRaStatus
  try dsimp only
  with_reducible repeat' (first
    | assumption | exact List.Subset.trans (by decide) hm | apply AnsKeeps.next | apply serve_keeps
    | apply lineRaStatusOp_keeps | intro _)

theorem lineRaCountersOp_keeps {c : Cmd} (hk : Keeps cs s₀ s) : Keeps cs s₀ (lineRaCountersOp.effect c s).2 := by
  unfold lineRaCountersOp
  try dsimp only
  with_reducible repeat' (first | assumption | apply reads_keeps | refine Keeps.of_pair (by assumption) ?_ | intro _)

theorem execLineRaCounters_keeps {c : Cmd} {s : State} (hk : Keeps cs s₀ s)
    (hm : ([.out, .bar0, .clerk, .tally] : List Comp) ⊆ cs := by first | decide | (refine List.Subset.trans ?_ ‹_ ⊆ _›; decide)) : AnsKeeps cs s₀ (execLineRaCounters c s) := by
  unfold execLineRaCounters
  try dsimp only
  with_reducible repeat' (first
    | assumption | exact List.Subset.trans (by decide) hm | apply AnsKeeps.next | apply serve_keeps
    | apply lineRaCountersOp_keeps | intro _)

end Sys2Proof.Machine
end

