-- ==== Sys2Proof/Laws/KeepsCrier.lean ====
section
/-!
SUPPORT. What is kept by: the Crier, flow commands, rewind, the Storehouse's commands.
-/

set_option Elab.async false
set_option linter.all false

namespace Sys2Proof.Machine

variable {cs : List Comp} {s₀ s t : State}

/-! ### Crier.lean -/

theorem State.refill_keeps {k : Nat} {s : State} (hk : Keeps cs s₀ s)
    (hm : ([.crier] : List Comp) ⊆ cs := by first | decide | (refine List.Subset.trans ?_ ‹_ ⊆ _›; decide)) : Keeps cs s₀ (State.refill k s) := by
  unfold State.refill
  try dsimp only
  with_reducible repeat' (first
    | assumption | exact List.Subset.trans (by decide) hm | apply Keeps.ite | apply State.setCr_keeps | intro _ | split)

theorem State.feedPkts_keeps {k : Nat} {xs : List CrPkt} {s : State} (hk : Keeps cs s₀ s)
    (hm : ([.crier] : List Comp) ⊆ cs := by first | decide | (refine List.Subset.trans ?_ ‹_ ⊆ _›; decide)) : Keeps cs s₀ (State.feedPkts k xs s) := by
  unfold State.feedPkts
  try dsimp only
  with_reducible repeat' (first
    | assumption | exact List.Subset.trans (by decide) hm | apply Keeps.ite | apply State.updCr_keeps
    | apply State.refill_keeps | refine Keeps.of_pair (by assumption) ?_ | intro _ | split)

theorem State.objectId_keeps {s : State} (hk : Keeps cs s₀ s)
    (hm : ([.crier] : List Comp) ⊆ cs := by first | decide | (refine List.Subset.trans ?_ ‹_ ⊆ _›; decide)) : Keeps cs s₀ (State.objectId s).2 := by
  unfold State.objectId
  try dsimp only
  with_reducible repeat' (first
    | assumption | exact List.Subset.trans (by decide) hm | apply withCrier_keeps | refine Keeps.of_pair (by assumption) ?_
    | intro _)

theorem State.sendLinkObject_keeps {k kind : Nat} {bs : List Byte} {s : State} (hk : Keeps cs s₀ s)
    (hm : ([.crier] : List Comp) ⊆ cs := by first | decide | (refine List.Subset.trans ?_ ‹_ ⊆ _›; decide)) : Keeps cs s₀ (State.sendLinkObject k kind bs s) := by
  unfold State.sendLinkObject
  try dsimp only
  with_reducible repeat' (first
    | assumption | exact List.Subset.trans (by decide) hm | apply State.objectId_keeps | apply State.feedPkts_keeps
    | refine Keeps.of_pair (by assumption) ?_ | intro _)

theorem State.seeKey_keeps {key : List Byte} {s : State} (hk : Keeps cs s₀ s)
    (hm : ([.crier] : List Comp) ⊆ cs := by first | decide | (refine List.Subset.trans ?_ ‹_ ⊆ _›; decide)) : Keeps cs s₀ (State.seeKey key s) := by
  unfold State.seeKey
  try dsimp only
  with_reducible repeat' (first
    | assumption | exact List.Subset.trans (by decide) hm | apply withCrier_keeps | refine Keeps.of_pair (by assumption) ?_
    | intro _)

theorem State.domainPkt_keeps {s : State} {dst : Option Nat} {inner : Nat} {bs : List Byte} (hk : Keeps cs s₀ s)
    (hm : ([.crier] : List Comp) ⊆ cs := by first | decide | (refine List.Subset.trans ?_ ‹_ ⊆ _›; decide)) : Keeps cs s₀ (State.domainPkt s dst inner bs).2 := by
  unfold State.domainPkt
  try dsimp only
  with_reducible repeat' (first
    | assumption | exact List.Subset.trans (by decide) hm | apply Keeps.ite | apply Keeps.ite_snd | apply withCrier_keeps
    | apply State.seeKey_keeps | refine Keeps.of_pair (by assumption) ?_ | intro _ | split)

theorem State.sendDomain_keeps {dst : Option Nat} {inner : Nat} {bs : List Byte} {s : State} (hk : Keeps cs s₀ s)
    (hm : ([.tally, .crier] : List Comp) ⊆ cs := by first | decide | (refine List.Subset.trans ?_ ‹_ ⊆ _›; decide)) : Keeps cs s₀ (State.sendDomain dst inner bs s) := by
  unfold State.sendDomain
  try dsimp only
  with_reducible repeat' (first
    | assumption | exact List.Subset.trans (by decide) hm | apply State.domainPkt_keeps | apply State.queuePkt_keeps
    | refine Keeps.of_pair (by assumption) ?_ | intro _)

theorem State.sendDomainObject_keeps {dst : Option Nat} {kind : Nat} {bs : List Byte} {s : State} (hk : Keeps cs s₀ s)
    (hm : ([.crier] : List Comp) ⊆ cs := by first | decide | (refine List.Subset.trans ?_ ‹_ ⊆ _›; decide)) : Keeps cs s₀ (State.sendDomainObject dst kind bs s) := by
  unfold State.sendDomainObject
  try dsimp only
  with_reducible repeat' (first
    | assumption | exact List.Subset.trans (by decide) hm | apply Keeps.ite | apply State.objectId_keeps
    | apply State.domainPkt_keeps | apply State.feedPkts_keeps | apply foldl_keeps | refine Keeps.of_pair (by assumption) ?_
    | intro _ | split)

theorem execHelloTimer_keeps {k : Fin 4} {s : State} (hk : Keeps cs s₀ s)
    (hm : ([.tally, .crier] : List Comp) ⊆ cs := by first | decide | (refine List.Subset.trans ?_ ‹_ ⊆ _›; decide)) : AnsKeeps cs s₀ (execHelloTimer k s) := by
  unfold execHelloTimer
  try dsimp only
  with_reducible repeat' (first
    | assumption | exact List.Subset.trans (by decide) hm | apply AnsKeeps.next | apply happen_keeps
    | apply State.queuePkt_keeps | refine Keeps.of_pair (by assumption) ?_ | intro _)

theorem execQualityTimer_keeps {k : Fin 4} {s : State} (hk : Keeps cs s₀ s)
    (hm : ([.tally, .crier] : List Comp) ⊆ cs := by first | decide | (refine List.Subset.trans ?_ ‹_ ⊆ _›; decide)) : AnsKeeps cs s₀ (execQualityTimer k s) := by
  unfold execQualityTimer
  try dsimp only
  with_reducible repeat' (first
    | assumption | exact List.Subset.trans (by decide) hm | apply AnsKeeps.next | apply happen_keeps
    | apply State.queuePkt_keeps | refine Keeps.of_pair (by assumption) ?_ | intro _)

theorem execTimeReqTimer_keeps {k : Fin 4} {s : State} (hk : Keeps cs s₀ s)
    (hm : ([.tally, .crier] : List Comp) ⊆ cs := by first | decide | (refine List.Subset.trans ?_ ‹_ ⊆ _›; decide)) : AnsKeeps cs s₀ (execTimeReqTimer k s) := by
  unfold execTimeReqTimer
  try dsimp only
  with_reducible repeat' (first
    | assumption | exact List.Subset.trans (by decide) hm | apply AnsKeeps.next | apply State.queuePkt_keeps
    | apply happen_keeps | apply withCrier_keeps | refine Keeps.of_pair (by assumption) ?_ | intro _)

theorem execPacketSendStart_keeps {k : Fin 4} {s : State} (hk : Keeps cs s₀ s)
    (hm : ([.out, .crier] : List Comp) ⊆ cs := by first | decide | (refine List.Subset.trans ?_ ‹_ ⊆ _›; decide)) : AnsKeeps cs s₀ (execPacketSendStart k s) := by
  unfold execPacketSendStart
  try dsimp only
  with_reducible repeat' (first
    | assumption | exact List.Subset.trans (by decide) hm | apply Keeps.ite | apply AnsKeeps.ite | apply AnsKeeps.next
    | apply State.setCr_keeps | apply State.refill_keeps | apply State.emit_keeps | apply happen_keeps | apply withCrier_keeps
    | refine Keeps.of_pair (by assumption) ?_ | intro _ | split)

theorem execPacketCut_keeps {k : Fin 4} {s : State} (hk : Keeps cs s₀ s)
    (hm : ([.tally, .crier] : List Comp) ⊆ cs := by first | decide | (refine List.Subset.trans ?_ ‹_ ⊆ _›; decide)) : AnsKeeps cs s₀ (execPacketCut k s) := by
  unfold execPacketCut
  try dsimp only
  with_reducible repeat' (first
    | assumption | exact List.Subset.trans (by decide) hm | apply AnsKeeps.next | apply happen_keeps | apply State.crCut_keeps
    | refine Keeps.of_pair (by assumption) ?_ | intro _ | split)

theorem execPacketSendEnd_keeps {k : Fin 4} {s : State} (hk : Keeps cs s₀ s)
    (hm : ([.tally, .crier] : List Comp) ⊆ cs := by first | decide | (refine List.Subset.trans ?_ ‹_ ⊆ _›; decide)) : AnsKeeps cs s₀ (execPacketSendEnd k s) := by
  unfold execPacketSendEnd
  try dsimp only
  with_reducible repeat' (first
    | assumption | exact List.Subset.trans (by decide) hm | apply AnsKeeps.next | apply happen_keeps | apply State.updCr_keeps
    | apply State.bump_keeps | refine Keeps.of_pair (by assumption) ?_ | intro _)

theorem execListenerTrigger_keeps {k : Fin 4} {s : State} (hk : Keeps cs s₀ s)
    (hm : ([.tally, .crier] : List Comp) ⊆ cs := by first | decide | (refine List.Subset.trans ?_ ‹_ ⊆ _›; decide)) : AnsKeeps cs s₀ (execListenerTrigger k s) := by
  unfold execListenerTrigger
  try dsimp only
  with_reducible repeat' (first
    | assumption | exact List.Subset.trans (by decide) hm | apply Keeps.ite | apply AnsKeeps.ite | apply AnsKeeps.next
    | apply happen_keeps | apply State.setCr_keeps | apply State.bump_keeps | refine Keeps.of_pair (by assumption) ?_
    | intro _ | split)

theorem execSyncQualify_keeps {k : Fin 4} {second : Bool} {strength sync : Nat} {s : State} (hk : Keeps cs s₀ s)
    (hm : ([.tally, .crier] : List Comp) ⊆ cs := by first | decide | (refine List.Subset.trans ?_ ‹_ ⊆ _›; decide)) : AnsKeeps cs s₀ (execSyncQualify k second strength sync s) := by
  unfold execSyncQualify
  try dsimp only
  with_reducible repeat' (first
    | assumption | exact List.Subset.trans (by decide) hm | apply Keeps.ite | apply AnsKeeps.ite | apply AnsKeeps.next
    | apply State.bump_keeps | apply happen_keeps | apply State.setCr_keeps | refine Keeps.of_pair (by assumption) ?_
    | intro _ | split)

theorem execQualifyTimeout_keeps {k : Fin 4} {second : Bool} {s : State} (hk : Keeps cs s₀ s)
    (hm : ([.tally, .crier] : List Comp) ⊆ cs := by first | decide | (refine List.Subset.trans ?_ ‹_ ⊆ _›; decide)) : AnsKeeps cs s₀ (execQualifyTimeout k second s) := by
  unfold execQualifyTimeout
  try dsimp only
  with_reducible repeat' (first
    | assumption | exact List.Subset.trans (by decide) hm | apply Keeps.ite | apply AnsKeeps.ite | apply AnsKeeps.next
    | apply happen_keeps | apply State.setCr_keeps | apply State.bump_keeps | refine Keeps.of_pair (by assumption) ?_
    | intro _ | split)

theorem State.padTo_keeps {n : Nat} {bs : List Byte} {s : State} (hk : Keeps cs s₀ s)
    (hm : ([.free] : List Comp) ⊆ cs := by first | decide | (refine List.Subset.trans ?_ ‹_ ⊆ _›; decide)) : Keeps cs s₀ (State.padTo n bs s).2 := by
  unfold State.padTo
  try dsimp only
  with_reducible repeat' (first
    | assumption | exact List.Subset.trans (by decide) hm | apply Keeps.ite | apply Keeps.ite_snd | apply State.take_keeps
    | refine Keeps.of_pair (by assumption) ?_ | intro _ | split)

theorem State.crReject_keeps {k : Nat} {s : State} (hk : Keeps cs s₀ s)
    (hm : ([.tally] : List Comp) ⊆ cs := by first | decide | (refine List.Subset.trans ?_ ‹_ ⊆ _›; decide)) : Keeps cs s₀ (State.crReject k s) := by
  unfold State.crReject
  try dsimp only
  with_reducible repeat' (first
    | assumption | exact List.Subset.trans (by decide) hm | apply State.bump_keeps | refine Keeps.of_pair (by assumption) ?_
    | intro _)

theorem execPacketReceiveEnd_keeps {k : Fin 4} {length type : Byte} {payload : List Byte} {crc : BitVec 16} {chip : Int} {s : State}
    (hk : Keeps cs s₀ s)
    (hm : ([.free, .tally, .crier] : List Comp) ⊆ cs := by first | decide | (refine List.Subset.trans ?_ ‹_ ⊆ _›; decide)) : AnsKeeps cs s₀ (execPacketReceiveEnd k length type payload crc chip s) := by
  unfold execPacketReceiveEnd
  try dsimp only
  with_reducible repeat' (first
    | assumption | exact List.Subset.trans (by decide) hm | apply Keeps.ite | apply AnsKeeps.ite | apply AnsKeeps.next
    | apply State.setCr_keeps | apply State.padTo_keeps | apply State.updCr_keeps | apply State.bump_keeps
    | apply happen_keeps | apply State.crReject_keeps | apply withCrier_keeps | refine Keeps.of_pair (by assumption) ?_
    | intro _ | split)

theorem State.takeOf_keeps {s : State} {k : Fin 4} {y : Nat} {x : CrIn} {t : State}
    (hk : Keeps cs s₀ s) (e : s.takeOf k y = some (x, t))
    (hm : ([.crier] : List Comp) ⊆ cs := by first | decide | (refine List.Subset.trans ?_ ‹_ ⊆ _›; decide)) : Keeps cs s₀ t :=
  State.takeIn_keeps hk e

theorem handle_keeps {k : Fin 4} {t : Nat} {f : CrIn → State → State} {s : State} (hf : ∀ x0 s, Keeps cs s₀ s → Keeps cs s₀ (f x0 s))
    (hk : Keeps cs s₀ s)
    (hm : ([.crier] : List Comp) ⊆ cs := by first | decide | (refine List.Subset.trans ?_ ‹_ ⊆ _›; decide)) : AnsKeeps cs s₀ (handle k t f s) := by
  unfold handle
  try dsimp only
  with_reducible repeat' (first
    | assumption | exact List.Subset.trans (by decide) hm | apply AnsKeeps.next | apply hf
    | refine State.takeOf_keeps ?_ (by assumption) | apply happen_keeps | refine Keeps.of_pair (by assumption) ?_ | intro _
    | split)

theorem handleLink_keeps {k : Fin 4} {t : Nat} {f : Port → CrIn → State → State} {s : State} (hf : ∀ x0 x1 s, Keeps cs s₀ s → Keeps cs s₀ (f x0 x1 s))
    (hk : Keeps cs s₀ s)
    (hm : ([.crier] : List Comp) ⊆ cs := by first | decide | (refine List.Subset.trans ?_ ‹_ ⊆ _›; decide)) : AnsKeeps cs s₀ (handleLink k t f s) := by
  unfold handleLink
  try dsimp only
  with_reducible repeat' (first
    | assumption | exact List.Subset.trans (by decide) hm | apply AnsKeeps.next | apply hf | apply handle_keeps
    | refine Keeps.of_pair (by assumption) ?_ | intro _ | split)

theorem State.pushEntry_keeps {s t : State} {x : CrEntry} (hk : Keeps cs s₀ s) (e : s.pushEntry x = some t)
    (hm : ([.clerk, .hier, .tally, .crier] : List Comp) ⊆ cs := by first | decide | (refine List.Subset.trans ?_ ‹_ ⊆ _›; decide)) : Keeps cs s₀ t := by
  unfold State.pushEntry at e
  split at e
  · cases e
  · dsimp only at e
    cases e
    split
    · exact State.raise_keeps (withCrier_keeps hk)
    · exact withCrier_keeps hk

theorem State.pushHost_keeps {e : CrEntry} {s : State} (hk : Keeps cs s₀ s)
    (hm : ([.clerk, .hier, .tally, .crier] : List Comp) ⊆ cs := by first | decide | (refine List.Subset.trans ?_ ‹_ ⊆ _›; decide)) : Keeps cs s₀ (State.pushHost e s) := by
  unfold State.pushHost
  cases hp : s.pushEntry e with
  | none => exact State.crReject_keeps hk
  | some t => exact State.pushEntry_keeps hk hp

theorem execHostLink_keeps {k : Fin 4} {s : State} (hk : Keeps cs s₀ s)
    (hm : ([.clerk, .hier, .tally, .crier] : List Comp) ⊆ cs := by first | decide | (refine List.Subset.trans ?_ ‹_ ⊆ _›; decide)) : AnsKeeps cs s₀ (execHostLink k s) := by
  unfold execHostLink
  try dsimp only
  with_reducible repeat' (first
    | assumption | exact List.Subset.trans (by decide) hm | apply AnsKeeps.next | apply handle_keeps
    | apply State.pushHost_keeps | refine Keeps.of_pair (by assumption) ?_ | intro _)

theorem evPeer_keeps {heard : Bool} {k : Nat} {x : CrPeer} {s : State} (hk : Keeps cs s₀ s)
    (hm : ([.clerk, .hier, .tally] : List Comp) ⊆ cs := by first | decide | (refine List.Subset.trans ?_ ‹_ ⊆ _›; decide)) : Keeps cs s₀ (evPeer heard k x s) := by
  unfold evPeer
  try dsimp only
  with_reducible repeat' (first
    | assumption | exact List.Subset.trans (by decide) hm | apply State.raise_keeps | refine Keeps.of_pair (by assumption) ?_
    | intro _)

theorem evConflict_keeps {cause a : Nat} {s : State} (hk : Keeps cs s₀ s)
    (hm : ([.clerk, .hier, .tally] : List Comp) ⊆ cs := by first | decide | (refine List.Subset.trans ?_ ‹_ ⊆ _›; decide)) : Keeps cs s₀ (evConflict cause a s) := by
  unfold evConflict
  try dsimp only
  with_reducible repeat' (first
    | assumption | exact List.Subset.trans (by decide) hm | apply State.raiseLimited_keeps
    | refine Keeps.of_pair (by assumption) ?_ | intro _)

theorem State.challenge_keeps {listener : Nat} {link : Option Port} {join : Option Nat} {fp : List Byte} {s : State}
    (hk : Keeps cs s₀ s)
    (hm : ([.free, .hall, .crier] : List Comp) ⊆ cs := by first | decide | (refine List.Subset.trans ?_ ‹_ ⊆ _›; decide)) : Keeps cs s₀ (State.challenge listener link join fp s) := by
  unfold State.challenge
  try dsimp only
  with_reducible repeat' (first
    | assumption | exact List.Subset.trans (by decide) hm | apply State.take_keeps | apply withHall_keeps
    | apply State.sendLinkObject_keeps | apply State.sendDomainObject_keeps | exact Nat.le_refl _ | exact Nat.le_succ _
    | exact State.take_fuses | intro _ | split)

theorem State.conflicts_keeps {p : Port} {x : CrPeer} {registrar : Bool} {s : State} (hk : Keeps cs s₀ s)
    (hm : ([.clerk, .hier, .tally] : List Comp) ⊆ cs := by first | decide | (refine List.Subset.trans ?_ ‹_ ⊆ _›; decide)) : Keeps cs s₀ (State.conflicts p x registrar s) := by
  unfold State.conflicts
  try dsimp only
  with_reducible repeat' (first
    | assumption | exact List.Subset.trans (by decide) hm | apply Keeps.ite | apply evConflict_keeps
    | refine Keeps.of_pair (by assumption) ?_ | intro _ | split)

theorem execHello_keeps {k : Fin 4} {s : State} (hk : Keeps cs s₀ s)
    (hm : ([.free, .clerk, .hier, .tally, .hall, .crier] : List Comp) ⊆ cs := by first | decide | (refine List.Subset.trans ?_ ‹_ ⊆ _›; decide)) : AnsKeeps cs s₀ (execHello k s) := by
  unfold execHello
  try dsimp only
  with_reducible repeat' (first
    | assumption | exact List.Subset.trans (by decide) hm | apply Keeps.ite | apply AnsKeeps.ite | apply AnsKeeps.next
    | apply handleLink_keeps | apply State.updCr_keeps | apply evPeer_keeps | apply State.conflicts_keeps
    | apply State.challenge_keeps | refine Keeps.of_pair (by assumption) ?_ | intro _ | split)

theorem execPeerLost_keeps {k : Fin 4} {s : State} (hk : Keeps cs s₀ s)
    (hm : ([.clerk, .hier, .tally, .crier] : List Comp) ⊆ cs := by first | decide | (refine List.Subset.trans ?_ ‹_ ⊆ _›; decide)) : AnsKeeps cs s₀ (execPeerLost k s) := by
  unfold execPeerLost
  try dsimp only
  with_reducible repeat' (first
    | assumption | exact List.Subset.trans (by decide) hm | apply AnsKeeps.next | apply happen_keeps | apply evPeer_keeps
    | apply State.updCr_keeps | refine Keeps.of_pair (by assumption) ?_ | intro _ | split)

theorem execQuality_keeps {k : Fin 4} {s : State} (hk : Keeps cs s₀ s)
    (hm : ([.crier, .timing] : List Comp) ⊆ cs := by first | decide | (refine List.Subset.trans ?_ ‹_ ⊆ _›; decide)) : AnsKeeps cs s₀ (execQuality k s) := by
  unfold execQuality
  try dsimp only
  with_reducible repeat' (first
    | assumption | exact List.Subset.trans (by decide) hm | apply Keeps.ite | apply AnsKeeps.ite | apply AnsKeeps.next
    | apply handleLink_keeps | apply State.setQl_keeps | refine Keeps.of_pair (by assumption) ?_ | intro _ | split)

theorem execTimeReq_keeps {k : Fin 4} {depart : Nat} {s : State} (hk : Keeps cs s₀ s)
    (hm : ([.tally, .crier] : List Comp) ⊆ cs := by first | decide | (refine List.Subset.trans ?_ ‹_ ⊆ _›; decide)) : AnsKeeps cs s₀ (execTimeReq k depart s) := by
  unfold execTimeReq
  try dsimp only
  with_reducible repeat' (first
    | assumption | exact List.Subset.trans (by decide) hm | apply AnsKeeps.next | apply handleLink_keeps
    | apply State.queuePkt_keeps | refine Keeps.of_pair (by assumption) ?_ | intro _)

theorem execTimeResp_keeps {k : Fin 4} {s : State} (hk : Keeps cs s₀ s)
    (hm : ([.free, .crier] : List Comp) ⊆ cs := by first | decide | (refine List.Subset.trans ?_ ‹_ ⊆ _›; decide)) : AnsKeeps cs s₀ (execTimeResp k s) := by
  unfold execTimeResp
  try dsimp only
  with_reducible repeat' (first
    | assumption | exact List.Subset.trans (by decide) hm | apply Keeps.ite | apply AnsKeeps.ite | apply AnsKeeps.next
    | apply handleLink_keeps | apply State.take_keeps | apply withCrier_keeps | refine Keeps.of_pair (by assumption) ?_
    | intro _ | split)

theorem execExchangeMissed_keeps {k : Fin 4} {s : State} (hk : Keeps cs s₀ s)
    (hm : ([.free, .clerk, .hier, .tally, .crier, .timing] : List Comp) ⊆ cs := by first | decide | (refine List.Subset.trans ?_ ‹_ ⊆ _›; decide)) : AnsKeeps cs s₀ (execExchangeMissed k s) := by
  unfold execExchangeMissed
  try dsimp only
  with_reducible repeat' (first
    | assumption | exact List.Subset.trans (by decide) hm | apply Keeps.ite | apply AnsKeeps.ite | apply AnsKeeps.next
    | apply withCrier_keeps | apply happen_keeps | apply State.loseRef_keeps | refine Keeps.of_pair (by assumption) ?_
    | intro _ | split)

theorem State.answerJoin_keeps {fp : List Byte} {a result : Nat} {s : State} (hk : Keeps cs s₀ s)
    (hm : ([.tally, .crier] : List Comp) ⊆ cs := by first | decide | (refine List.Subset.trans ?_ ‹_ ⊆ _›; decide)) : Keeps cs s₀ (State.answerJoin fp a result s) := by
  unfold State.answerJoin
  try dsimp only
  with_reducible repeat' (first
    | assumption | exact List.Subset.trans (by decide) hm | apply State.sendDomain_keeps
    | refine Keeps.of_pair (by assumption) ?_ | intro _)

theorem State.enrol_keeps {a : Nat} {fp : List Byte} {s : State} (hk : Keeps cs s₀ s)
    (hm : ([.free, .clerk, .hier, .tally, .crier, .store] : List Comp) ⊆ cs := by first | decide | (refine List.Subset.trans ?_ ‹_ ⊆ _›; decide)) : Keeps cs s₀ (State.enrol a fp s) := by
  unfold State.enrol
  try dsimp only
  with_reducible repeat' (first
    | assumption | exact List.Subset.trans (by decide) hm | apply State.updRecord_keeps | apply State.addMember_keeps
    | refine Keeps.of_pair (by assumption) ?_ | intro _)

theorem State.admitJoin_keeps {j : CrJoin} {s : State} (hk : Keeps cs s₀ s)
    (hm : ([.free, .clerk, .hier, .tally, .crier, .store] : List Comp) ⊆ cs := by first | decide | (refine List.Subset.trans ?_ ‹_ ⊆ _›; decide)) : Keeps cs s₀ (State.admitJoin j s) := by
  unfold State.admitJoin
  try dsimp only
  with_reducible repeat' (first
    | assumption | exact List.Subset.trans (by decide) hm | apply Keeps.ite | apply State.readRecord_keeps
    | apply withCrier_keeps | apply State.answerJoin_keeps | apply evMember_keeps | apply State.enrol_keeps
    | refine Keeps.of_pair (by assumption) ?_ | intro _ | split)

theorem State.refuseJoin_keeps {j : CrJoin} {s : State} (hk : Keeps cs s₀ s)
    (hm : ([.tally, .crier] : List Comp) ⊆ cs := by first | decide | (refine List.Subset.trans ?_ ‹_ ⊆ _›; decide)) : Keeps cs s₀ (State.refuseJoin j s) := by
  unfold State.refuseJoin
  try dsimp only
  with_reducible repeat' (first
    | assumption | exact List.Subset.trans (by decide) hm | apply withCrier_keeps | apply State.answerJoin_keeps
    | refine Keeps.of_pair (by assumption) ?_ | intro _)

theorem State.joinProved_keeps {j : CrJoin} {s : State} (hk : Keeps cs s₀ s)
    (hm : ([.free, .clerk, .hier, .tally, .crier, .store] : List Comp) ⊆ cs := by first | decide | (refine List.Subset.trans ?_ ‹_ ⊆ _›; decide)) : Keeps cs s₀ (State.joinProved j s) := by
  unfold State.joinProved
  try dsimp only
  with_reducible repeat' (first
    | assumption | exact List.Subset.trans (by decide) hm | apply Keeps.ite | apply State.admitJoin_keeps
    | refine State.pushEntry_keeps ?_ (by assumption) | apply State.refuseJoin_keeps | apply State.crReject_keeps
    | apply withCrier_keeps | refine Keeps.of_pair (by assumption) ?_ | intro _ | split)

theorem State.proofFailed_keeps {c : Challenge} {cause : Nat} {s : State} (hk : Keeps cs s₀ s)
    (hm : ([.clerk, .hier, .tally, .hall, .crier] : List Comp) ⊆ cs := by first | decide | (refine List.Subset.trans ?_ ‹_ ⊆ _›; decide)) : Keeps cs s₀ (State.proofFailed c cause s) := by
  unfold State.proofFailed
  try dsimp only
  with_reducible repeat' (first
    | assumption | exact List.Subset.trans (by decide) hm | apply withHall_keeps | apply State.crReject_keeps
    | apply withCrier_keeps | apply State.raiseAtMost_keeps | exact Nat.le_refl _ | exact Nat.le_succ _
    | exact State.take_fuses | refine Keeps.of_pair (by assumption) ?_ | intro _ | split)

theorem State.judgeChallenge_keeps {c : Challenge} {s : State} (hk : Keeps cs s₀ s)
    (hm : ([.free, .clerk, .hier, .tally, .hall, .crier, .store] : List Comp) ⊆ cs := by first | decide | (refine List.Subset.trans ?_ ‹_ ⊆ _›; decide)) : Keeps cs s₀ (State.judgeChallenge c s) := by
  unfold State.judgeChallenge
  try dsimp only
  with_reducible repeat' (first
    | assumption | exact List.Subset.trans (by decide) hm | apply Keeps.ite | apply State.proofFailed_keeps
    | apply withHall_keeps | apply State.joinProved_keeps | apply evPeer_keeps | apply State.updCr_keeps | exact Nat.le_refl _
    | exact Nat.le_succ _ | exact State.take_fuses | refine Keeps.of_pair (by assumption) ?_ | intro _ | split)

theorem State.answerObject_keeps {kind : Nat} {bs : List Byte} {mine : Challenge → Bool} {s : State} (hk : Keeps cs s₀ s)
    (hm : ([.free, .clerk, .hier, .tally, .hall, .crier, .store] : List Comp) ⊆ cs := by first | decide | (refine List.Subset.trans ?_ ‹_ ⊆ _›; decide)) : Keeps cs s₀ (State.answerObject kind bs mine s) := by
  unfold State.answerObject
  try dsimp only
  with_reducible repeat' (first
    | assumption | exact List.Subset.trans (by decide) hm | apply Keeps.ite | apply withHall_keeps
    | apply State.judgeChallenge_keeps | exact Nat.le_refl _ | exact Nat.le_succ _ | exact State.take_fuses
    | refine Keeps.of_pair (by assumption) ?_ | intro _ | split)

theorem State.prove_keeps {send : Nat → List Byte → State → State} {obj : List Byte} {domain : Nat} {s : State} (hsend : ∀ x0 x1 s, Keeps cs s₀ s → Keeps cs s₀ (send x0 x1 s))
    (hk : Keeps cs s₀ s) : Keeps cs s₀ (State.prove send obj domain s) := by
  unfold State.prove
  try dsimp only
  with_reducible repeat' (first | assumption | apply hsend | refine Keeps.of_pair (by assumption) ?_ | intro _)

theorem State.objectDone_keeps {k : Nat} {o : CrObject} {s : State} (hk : Keeps cs s₀ s)
    (hm : ([.free, .clerk, .hier, .tally, .hall, .crier, .store] : List Comp) ⊆ cs := by first | decide | (refine List.Subset.trans ?_ ‹_ ⊆ _›; decide)) : Keeps cs s₀ (State.objectDone k o s) := by
  unfold State.objectDone
  try dsimp only
  with_reducible repeat' (first
    | assumption | exact List.Subset.trans (by decide) hm | apply Keeps.ite | apply State.prove_keeps
    | apply State.sendLinkObject_keeps | apply State.sendDomainObject_keeps | apply State.answerObject_keeps
    | refine Keeps.of_pair (by assumption) ?_ | intro _ | split)

theorem State.setObjects_keeps {k : Nat} {os : List CrObject} {s : State} (hk : Keeps cs s₀ s)
    (hm : ([.crier] : List Comp) ⊆ cs := by first | decide | (refine List.Subset.trans ?_ ‹_ ⊆ _›; decide)) : Keeps cs s₀ (State.setObjects k os s) := by
  unfold State.setObjects
  try dsimp only
  with_reducible repeat' (first | assumption | exact List.Subset.trans (by decide) hm | apply State.updCr_keeps | intro _)

theorem State.takePart_keeps {k : Nat} {src : Option Nat} {fp x : List Byte} {s : State} (hk : Keeps cs s₀ s)
    (hm : ([.free, .clerk, .hier, .tally, .hall, .crier, .store] : List Comp) ⊆ cs := by first | decide | (refine List.Subset.trans ?_ ‹_ ⊆ _›; decide)) : Keeps cs s₀ (State.takePart k src fp x s) := by
  unfold State.takePart
  try dsimp only
  with_reducible repeat' (first
    | assumption | exact List.Subset.trans (by decide) hm | apply Keeps.ite | apply Keeps.ite_snd | apply State.crReject_keeps
    | apply State.setObjects_keeps | apply State.objectDone_keeps | refine Keeps.of_pair (by assumption) ?_ | intro _ | split)

theorem execSegment_keeps {k : Fin 4} {s : State} (hk : Keeps cs s₀ s)
    (hm : ([.free, .clerk, .hier, .tally, .hall, .crier, .store] : List Comp) ⊆ cs := by first | decide | (refine List.Subset.trans ?_ ‹_ ⊆ _›; decide)) : AnsKeeps cs s₀ (execSegment k s) := by
  unfold execSegment
  try dsimp only
  with_reducible repeat' (first
    | assumption | exact List.Subset.trans (by decide) hm | apply Keeps.ite | apply AnsKeeps.ite | apply AnsKeeps.next
    | refine State.takeIn_keeps ?_ (by assumption) | apply happen_keeps | apply State.takePart_keeps
    | refine Keeps.of_pair (by assumption) ?_ | intro _ | split)

theorem execObjectTimeout_keeps {k : Fin 4} {s : State} (hk : Keeps cs s₀ s)
    (hm : ([.tally, .crier] : List Comp) ⊆ cs := by first | decide | (refine List.Subset.trans ?_ ‹_ ⊆ _›; decide)) : AnsKeeps cs s₀ (execObjectTimeout k s) := by
  unfold execObjectTimeout
  try dsimp only
  with_reducible repeat' (first
    | assumption | exact List.Subset.trans (by decide) hm | apply AnsKeeps.next | apply happen_keeps
    | apply State.setObjects_keeps | apply State.crReject_keeps | refine Keeps.of_pair (by assumption) ?_ | intro _ | split)

theorem execProofTimeout_keeps {s : State} (hk : Keeps cs s₀ s)
    (hm : ([.clerk, .hier, .tally, .hall, .crier] : List Comp) ⊆ cs := by first | decide | (refine List.Subset.trans ?_ ‹_ ⊆ _›; decide)) : AnsKeeps cs s₀ (execProofTimeout s) := by
  unfold execProofTimeout
  try dsimp only
  with_reducible repeat' (first
    | assumption | exact List.Subset.trans (by decide) hm | apply AnsKeeps.next | apply happen_keeps
    | apply State.proofFailed_keeps | refine Keeps.of_pair (by assumption) ?_ | intro _ | split)

theorem State.noteSeen_keeps {src : Option Nat} {s : State} (hk : Keeps cs s₀ s)
    (hm : ([.free, .clerk, .hier, .tally, .crier, .store] : List Comp) ⊆ cs := by first | decide | (refine List.Subset.trans ?_ ‹_ ⊆ _›; decide)) : Keeps cs s₀ (State.noteSeen src s) := by
  unfold State.noteSeen
  try dsimp only
  with_reducible repeat' (first
    | assumption | exact List.Subset.trans (by decide) hm | apply Keeps.ite | apply State.updRecord_keeps
    | refine Keeps.of_pair (by assumption) ?_ | intro _ | split)

theorem State.deliverDomain_keeps {c : CrIn} {x : List Byte} {src : Option Nat} {s : State} (hk : Keeps cs s₀ s)
    (hm : ([.free, .clerk, .hier, .tally, .crier] : List Comp) ⊆ cs := by first | decide | (refine List.Subset.trans ?_ ‹_ ⊆ _›; decide)) : Keeps cs s₀ (State.deliverDomain c x src s) := by
  unfold State.deliverDomain
  try dsimp only
  with_reducible repeat' (first
    | assumption | exact List.Subset.trans (by decide) hm | apply Keeps.ite | apply State.pushHost_keeps
    | apply State.padTo_keeps | apply withCrier_keeps | refine Keeps.of_pair (by assumption) ?_ | intro _ | split)

theorem execDomain_keeps {k : Fin 4} {s : State} (hk : Keeps cs s₀ s)
    (hm : ([.free, .clerk, .hier, .tally, .crier, .store] : List Comp) ⊆ cs := by first | decide | (refine List.Subset.trans ?_ ‹_ ⊆ _›; decide)) : AnsKeeps cs s₀ (execDomain k s) := by
  unfold execDomain
  try dsimp only
  with_reducible repeat' (first
    | assumption | exact List.Subset.trans (by decide) hm | apply Keeps.ite | apply AnsKeeps.ite | apply AnsKeeps.next
    | apply handle_keeps | apply State.padTo_keeps | apply State.seeKey_keeps | apply State.noteSeen_keeps
    | apply State.deliverDomain_keeps | apply State.queuePkt_keeps | apply foldl_keeps
    | refine Keeps.of_pair (by assumption) ?_ | intro _ | split)

theorem State.moveDomain_keeps {new a : Nat} {s : State} (hk : Keeps cs s₀ s)
    (hm : ([.clerk, .hier, .tally, .crier] : List Comp) ⊆ cs := by first | decide | (refine List.Subset.trans ?_ ‹_ ⊆ _›; decide)) : Keeps cs s₀ (State.moveDomain new a s) := by
  unfold State.moveDomain
  try dsimp only
  with_reducible repeat' (first
    | assumption | exact List.Subset.trans (by decide) hm | apply Keeps.ite | apply withCrier_keeps | apply State.raise_keeps
    | refine Keeps.of_pair (by assumption) ?_ | intro _ | split)

theorem State.sendJoin_keeps {s : State} (hk : Keeps cs s₀ s)
    (hm : ([.tally, .crier] : List Comp) ⊆ cs := by first | decide | (refine List.Subset.trans ?_ ‹_ ⊆ _›; decide)) : Keeps cs s₀ (State.sendJoin s) := by
  unfold State.sendJoin
  try dsimp only
  with_reducible repeat' (first
    | assumption | exact List.Subset.trans (by decide) hm | apply State.sendDomain_keeps
    | refine Keeps.of_pair (by assumption) ?_ | intro _)

theorem execBeacon_keeps {k : Fin 4} {s : State} (hk : Keeps cs s₀ s)
    (hm : ([.clerk, .hier, .tally, .crier] : List Comp) ⊆ cs := by first | decide | (refine List.Subset.trans ?_ ‹_ ⊆ _›; decide)) : AnsKeeps cs s₀ (execBeacon k s) := by
  unfold execBeacon
  try dsimp only
  with_reducible repeat' (first
    | assumption | exact List.Subset.trans (by decide) hm | apply Keeps.ite | apply AnsKeeps.ite | apply AnsKeeps.next
    | apply handle_keeps | apply evConflict_keeps | apply withCrier_keeps | apply State.moveDomain_keeps
    | apply State.sendJoin_keeps | refine Keeps.of_pair (by assumption) ?_ | intro _ | split)

theorem execJoinReq_keeps {k : Fin 4} {s : State} (hk : Keeps cs s₀ s)
    (hm : ([.free, .hall, .crier] : List Comp) ⊆ cs := by first | decide | (refine List.Subset.trans ?_ ‹_ ⊆ _›; decide)) : AnsKeeps cs s₀ (execJoinReq k s) := by
  unfold execJoinReq
  try dsimp only
  with_reducible repeat' (first
    | assumption | exact List.Subset.trans (by decide) hm | apply Keeps.ite | apply AnsKeeps.ite | apply AnsKeeps.next
    | apply handle_keeps | apply withCrier_keeps | apply State.challenge_keeps | refine Keeps.of_pair (by assumption) ?_
    | intro _ | split)

theorem execJoinAnswer_keeps {k : Fin 4} {s : State} (hk : Keeps cs s₀ s)
    (hm : ([.clerk, .hier, .tally, .crier] : List Comp) ⊆ cs := by first | decide | (refine List.Subset.trans ?_ ‹_ ⊆ _›; decide)) : AnsKeeps cs s₀ (execJoinAnswer k s) := by
  unfold execJoinAnswer
  try dsimp only
  with_reducible repeat' (first
    | assumption | exact List.Subset.trans (by decide) hm | apply Keeps.ite | apply AnsKeeps.ite | apply AnsKeeps.next
    | apply handle_keeps | apply State.moveDomain_keeps | apply withCrier_keeps | refine Keeps.of_pair (by assumption) ?_
    | intro _ | split)

theorem execReport_keeps {k : Fin 4} {s : State} (hk : Keeps cs s₀ s)
    (hm : ([.free, .clerk, .hier, .tally, .crier, .store] : List Comp) ⊆ cs := by first | decide | (refine List.Subset.trans ?_ ‹_ ⊆ _›; decide)) : AnsKeeps cs s₀ (execReport k s) := by
  unfold execReport
  try dsimp only
  with_reducible repeat' (first
    | assumption | exact List.Subset.trans (by decide) hm | apply Keeps.ite | apply AnsKeeps.ite | apply AnsKeeps.next
    | apply handle_keeps | apply State.updRecord_keeps | refine Keeps.of_pair (by assumption) ?_ | intro _ | split)

theorem execBeaconTimer_keeps {s : State} (hk : Keeps cs s₀ s)
    (hm : ([.tally, .crier] : List Comp) ⊆ cs := by first | decide | (refine List.Subset.trans ?_ ‹_ ⊆ _›; decide)) : AnsKeeps cs s₀ (execBeaconTimer s) := by
  unfold execBeaconTimer
  try dsimp only
  with_reducible repeat' (first
    | assumption | exact List.Subset.trans (by decide) hm | apply Keeps.ite | apply AnsKeeps.ite | apply AnsKeeps.next
    | apply happen_keeps | apply State.sendDomain_keeps | refine Keeps.of_pair (by assumption) ?_ | intro _ | split)

theorem execReportTimer_keeps {s : State} (hk : Keeps cs s₀ s)
    (hm : ([.tally, .crier] : List Comp) ⊆ cs := by first | decide | (refine List.Subset.trans ?_ ‹_ ⊆ _›; decide)) : AnsKeeps cs s₀ (execReportTimer s) := by
  unfold execReportTimer
  try dsimp only
  with_reducible repeat' (first
    | assumption | exact List.Subset.trans (by decide) hm | apply AnsKeeps.next | apply happen_keeps
    | apply State.sendDomain_keeps | refine Keeps.of_pair (by assumption) ?_ | intro _)

theorem execJoinReqTimer_keeps {s : State} (hk : Keeps cs s₀ s)
    (hm : ([.tally, .crier] : List Comp) ⊆ cs := by first | decide | (refine List.Subset.trans ?_ ‹_ ⊆ _›; decide)) : AnsKeeps cs s₀ (execJoinReqTimer s) := by
  unfold execJoinReqTimer
  try dsimp only
  with_reducible repeat' (first
    | assumption | exact List.Subset.trans (by decide) hm | apply AnsKeeps.next | apply happen_keeps
    | apply State.sendJoin_keeps | refine Keeps.of_pair (by assumption) ?_ | intro _)

theorem execAdmitTimeout_keeps {s : State} (hk : Keeps cs s₀ s)
    (hm : ([.tally, .crier] : List Comp) ⊆ cs := by first | decide | (refine List.Subset.trans ?_ ‹_ ⊆ _›; decide)) : AnsKeeps cs s₀ (execAdmitTimeout s) := by
  unfold execAdmitTimeout
  try dsimp only
  with_reducible repeat' (first
    | assumption | exact List.Subset.trans (by decide) hm | apply AnsKeeps.next | apply happen_keeps
    | apply State.refuseJoin_keeps | refine Keeps.of_pair (by assumption) ?_ | intro _ | split)

theorem execRejoinWaitExpiry_keeps {s : State} (hk : Keeps cs s₀ s)
    (hm : ([.crier] : List Comp) ⊆ cs := by first | decide | (refine List.Subset.trans ?_ ‹_ ⊆ _›; decide)) : AnsKeeps cs s₀ (execRejoinWaitExpiry s) := by
  unfold execRejoinWaitExpiry
  try dsimp only
  with_reducible repeat' (first
    | assumption | exact List.Subset.trans (by decide) hm | apply AnsKeeps.next | apply happen_keeps | apply withCrier_keeps
    | refine Keeps.of_pair (by assumption) ?_ | intro _)

theorem crierPortSetOp_keeps {c : Cmd} (hk : Keeps cs s₀ s)
    (hm : ([.crier] : List Comp) ⊆ cs := by first | decide | (refine List.Subset.trans ?_ ‹_ ⊆ _›; decide)) : Keeps cs s₀ (crierPortSetOp.effect c s).2 := by
  unfold crierPortSetOp
  try dsimp only
  with_reducible repeat' (first
    | assumption | exact List.Subset.trans (by decide) hm | apply Keeps.ite | apply Keeps.ite_snd | apply sets_keeps
    | apply State.setCr_keeps | apply State.crTxOff_keeps | apply State.crAbandon_keeps
    | refine Keeps.of_pair (by assumption) ?_ | intro _ | split)

theorem execCrierPortSet_keeps {c : Cmd} {s : State} (hk : Keeps cs s₀ s)
    (hm : ([.out, .bar0, .clerk, .tally, .crier] : List Comp) ⊆ cs := by first | decide | (refine List.Subset.trans ?_ ‹_ ⊆ _›; decide)) : AnsKeeps cs s₀ (execCrierPortSet c s) := by
  unfold execCrierPortSet
  try dsimp only
  with_reducible repeat' (first
    | assumption | exact List.Subset.trans (by decide) hm | apply AnsKeeps.next | apply serve_keeps
    | apply crierPortSetOp_keeps | intro _)

theorem State.leaveDomain_keeps {s : State} (hk : Keeps cs s₀ s)
    (hm : ([.clerk, .hier, .tally, .hall, .crier] : List Comp) ⊆ cs := by first | decide | (refine List.Subset.trans ?_ ‹_ ⊆ _›; decide)) : Keeps cs s₀ (State.leaveDomain s) := by
  unfold State.leaveDomain
  try dsimp only
  with_reducible repeat' (first
    | assumption | exact List.Subset.trans (by decide) hm | apply State.refuseJoin_keeps | apply withHall_keeps
    | apply State.moveDomain_keeps | apply withCrier_keeps | apply foldl_keeps | exact Nat.le_refl _ | exact Nat.le_succ _
    | exact State.take_fuses | refine Keeps.of_pair (by assumption) ?_ | intro _)

theorem crierUnitSetOp_keeps {c : Cmd} (hk : Keeps cs s₀ s)
    (hm : ([.free, .clerk, .hier, .tally, .hall, .crier, .store] : List Comp) ⊆ cs := by first | decide | (refine List.Subset.trans ?_ ‹_ ⊆ _›; decide)) : Keeps cs s₀ (crierUnitSetOp.effect c s).2 := by
  unfold crierUnitSetOp
  try dsimp only
  with_reducible repeat' (first
    | assumption | exact List.Subset.trans (by decide) hm | apply Keeps.ite | apply Keeps.ite_snd | apply sets_keeps
    | apply State.leaveDomain_keeps | apply withCrier_keeps | apply State.enrol_keeps
    | refine Keeps.of_pair (by assumption) ?_ | intro _ | split)

theorem execCrierUnitSet_keeps {c : Cmd} {s : State} (hk : Keeps cs s₀ s)
    (hm : ([.free, .out, .bar0, .clerk, .hier, .tally, .hall, .crier, .store] : List Comp) ⊆ cs := by first | decide | (refine List.Subset.trans ?_ ‹_ ⊆ _›; decide)) : AnsKeeps cs s₀ (execCrierUnitSet c s) := by
  unfold execCrierUnitSet
  try dsimp only
  with_reducible repeat' (first
    | assumption | exact List.Subset.trans (by decide) hm | apply AnsKeeps.next | apply serve_keeps
    | apply crierUnitSetOp_keeps | intro _)

theorem crierSendOp_keeps {c : Cmd} (hk : Keeps cs s₀ s)
    (hm : ([.tally, .crier] : List Comp) ⊆ cs := by first | decide | (refine List.Subset.trans ?_ ‹_ ⊆ _›; decide)) : Keeps cs s₀ (crierSendOp.effect c s).2 := by
  unfold crierSendOp
  try dsimp only
  with_reducible repeat' (first
    | assumption | exact List.Subset.trans (by decide) hm | apply Keeps.ite | apply Keeps.ite_snd | apply sets_keeps
    | apply State.queuePkt_keeps | apply State.sendDomain_keeps | refine Keeps.of_pair (by assumption) ?_ | intro _ | split)

theorem execCrierSend_keeps {c : Cmd} {s : State} (hk : Keeps cs s₀ s)
    (hm : ([.out, .bar0, .clerk, .tally, .crier] : List Comp) ⊆ cs := by first | decide | (refine List.Subset.trans ?_ ‹_ ⊆ _›; decide)) : AnsKeeps cs s₀ (execCrierSend c s) := by
  unfold execCrierSend
  try dsimp only
  with_reducible repeat' (first
    | assumption | exact List.Subset.trans (by decide) hm | apply AnsKeeps.next | apply serve_keeps | apply crierSendOp_keeps
    | intro _)

theorem crierReceiveOp_keeps {c : Cmd} (hk : Keeps cs s₀ s)
    (hm : ([.crier] : List Comp) ⊆ cs := by first | decide | (refine List.Subset.trans ?_ ‹_ ⊆ _›; decide)) : Keeps cs s₀ (crierReceiveOp.effect c s).2 := by
  unfold crierReceiveOp
  try dsimp only
  with_reducible repeat' (first
    | assumption | exact List.Subset.trans (by decide) hm | apply withCrier_keeps | refine Keeps.of_pair (by assumption) ?_
    | intro _ | split)

theorem execCrierReceive_keeps {c : Cmd} {s : State} (hk : Keeps cs s₀ s)
    (hm : ([.out, .bar0, .clerk, .tally, .crier] : List Comp) ⊆ cs := by first | decide | (refine List.Subset.trans ?_ ‹_ ⊆ _›; decide)) : AnsKeeps cs s₀ (execCrierReceive c s) := by
  unfold execCrierReceive
  try dsimp only
  with_reducible repeat' (first
    | assumption | exact List.Subset.trans (by decide) hm | apply AnsKeeps.next | apply serve_keeps
    | apply crierReceiveOp_keeps | intro _)

theorem crierAdmitOp_keeps {c : Cmd} (hk : Keeps cs s₀ s)
    (hm : ([.free, .clerk, .hier, .tally, .crier, .store] : List Comp) ⊆ cs := by first | decide | (refine List.Subset.trans ?_ ‹_ ⊆ _›; decide)) : Keeps cs s₀ (crierAdmitOp.effect c s).2 := by
  unfold crierAdmitOp
  try dsimp only
  with_reducible repeat' (first
    | assumption | exact List.Subset.trans (by decide) hm | apply Keeps.ite | apply Keeps.ite_snd | apply sets_keeps
    | apply State.updRecord_keeps | apply State.dropMember_keeps | apply State.admitJoin_keeps | apply State.refuseJoin_keeps
    | refine Keeps.of_pair (by assumption) ?_ | intro _ | split)

theorem execCrierAdmit_keeps {c : Cmd} {s : State} (hk : Keeps cs s₀ s)
    (hm : ([.free, .out, .bar0, .clerk, .hier, .tally, .crier, .store] : List Comp) ⊆ cs := by first | decide | (refine List.Subset.trans ?_ ‹_ ⊆ _›; decide)) : AnsKeeps cs s₀ (execCrierAdmit c s) := by
  unfold execCrierAdmit
  try dsimp only
  with_reducible repeat' (first
    | assumption | exact List.Subset.trans (by decide) hm | apply AnsKeeps.next | apply serve_keeps | apply crierAdmitOp_keeps
    | intro _)

theorem readRecords_keeps (hm : ([.clerk, .hier, .tally, .crier, .store] : List Comp) ⊆ cs) : ∀ {l : List Nat} {s : State}, Keeps cs s₀ s → Keeps cs s₀ (readRecords l s).2 := by
  intro l
  induction l with
  | nil => intro s h; exact h
  | cons a r ih => intro s h; exact ih (State.readRecord_keeps h)

theorem crierMemberReadOp_keeps {c : Cmd} (hk : Keeps cs s₀ s)
    (hm : ([.clerk, .hier, .tally, .crier, .store] : List Comp) ⊆ cs := by first | decide | (refine List.Subset.trans ?_ ‹_ ⊆ _›; decide)) : Keeps cs s₀ (crierMemberReadOp.effect c s).2 := by
  unfold crierMemberReadOp
  try dsimp only
  with_reducible repeat' (first
    | assumption | exact List.Subset.trans (by decide) hm | apply readRecords_keeps | refine Keeps.of_pair (by assumption) ?_
    | intro _)

theorem execCrierMemberRead_keeps {c : Cmd} {s : State} (hk : Keeps cs s₀ s)
    (hm : ([.out, .bar0, .clerk, .hier, .tally, .crier, .store] : List Comp) ⊆ cs := by first | decide | (refine List.Subset.trans ?_ ‹_ ⊆ _›; decide)) : AnsKeeps cs s₀ (execCrierMemberRead c s) := by
  unfold execCrierMemberRead
  try dsimp only
  with_reducible repeat' (first
    | assumption | exact List.Subset.trans (by decide) hm | apply AnsKeeps.next | apply serve_keeps
    | apply crierMemberReadOp_keeps | intro _)

theorem crierStatusOp_keeps {c : Cmd} (hk : Keeps cs s₀ s) : Keeps cs s₀ (crierStatusOp.effect c s).2 := by
  unfold crierStatusOp
  try dsimp only
  with_reducible repeat' (first | assumption | apply reads_keeps | refine Keeps.of_pair (by assumption) ?_ | intro _)

theorem execCrierStatus_keeps {c : Cmd} {s : State} (hk : Keeps cs s₀ s)
    (hm : ([.out, .bar0, .clerk, .tally] : List Comp) ⊆ cs := by first | decide | (refine List.Subset.trans ?_ ‹_ ⊆ _›; decide)) : AnsKeeps cs s₀ (execCrierStatus c s) := by
  unfold execCrierStatus
  try dsimp only
  with_reducible repeat' (first
    | assumption | exact List.Subset.trans (by decide) hm | apply AnsKeeps.next | apply serve_keeps
    | apply crierStatusOp_keeps | intro _)

theorem crierCountersOp_keeps {c : Cmd} (hk : Keeps cs s₀ s) : Keeps cs s₀ (crierCountersOp.effect c s).2 := by
  unfold crierCountersOp
  try dsimp only
  with_reducible repeat' (first | assumption | apply reads_keeps | refine Keeps.of_pair (by assumption) ?_ | intro _)

theorem execCrierCounters_keeps {c : Cmd} {s : State} (hk : Keeps cs s₀ s)
    (hm : ([.out, .bar0, .clerk, .tally] : List Comp) ⊆ cs := by first | decide | (refine List.Subset.trans ?_ ‹_ ⊆ _›; decide)) : AnsKeeps cs s₀ (execCrierCounters c s) := by
  unfold execCrierCounters
  try dsimp only
  with_reducible repeat' (first
    | assumption | exact List.Subset.trans (by decide) hm | apply AnsKeeps.next | apply serve_keeps
    | apply crierCountersOp_keeps | intro _)

/-! ### Flow.lean -/

theorem flowIfaceSetOp_keeps {c : Cmd} (hk : Keeps cs s₀ s)
    (hm : ([.flow] : List Comp) ⊆ cs := by first | decide | (refine List.Subset.trans ?_ ‹_ ⊆ _›; decide)) : Keeps cs s₀ (flowIfaceSetOp.effect c s).2 := by
  unfold flowIfaceSetOp
  try dsimp only
  with_reducible repeat' (first
    | assumption | exact List.Subset.trans (by decide) hm | apply sets_keeps | apply State.updFi_keeps
    | refine Keeps.of_pair (by assumption) ?_ | intro _)

theorem execFlowIfaceSet_keeps {c : Cmd} {s : State} (hk : Keeps cs s₀ s)
    (hm : ([.out, .bar0, .clerk, .tally, .flow] : List Comp) ⊆ cs := by first | decide | (refine List.Subset.trans ?_ ‹_ ⊆ _›; decide)) : AnsKeeps cs s₀ (execFlowIfaceSet c s) := by
  unfold execFlowIfaceSet
  try dsimp only
  with_reducible repeat' (first
    | assumption | exact List.Subset.trans (by decide) hm | apply AnsKeeps.next | apply serve_keeps
    | apply flowIfaceSetOp_keeps | intro _)

theorem State.setFlowTx_keeps {e : FlowEntry} {s : State} (hk : Keeps cs s₀ s)
    (hm : ([.free, .clerk, .hier, .tally, .store, .flow] : List Comp) ⊆ cs := by first | decide | (refine List.Subset.trans ?_ ‹_ ⊆ _›; decide)) : Keeps cs s₀ (State.setFlowTx e s) := by
  unfold State.setFlowTx
  try dsimp only
  with_reducible repeat' (first
    | assumption | exact List.Subset.trans (by decide) hm | apply Keeps.ite | apply State.setTxFlow_keeps
    | apply State.dropQueue_keeps | apply State.setTxCtx_keeps | apply withFlow_keeps | apply State.idle_keeps | intro _
    | split)

theorem State.setFlowRx_keeps {e : FlowEntry} {s : State} (hk : Keeps cs s₀ s)
    (hm : ([.flow] : List Comp) ⊆ cs := by first | decide | (refine List.Subset.trans ?_ ‹_ ⊆ _›; decide)) : Keeps cs s₀ (State.setFlowRx e s) := by
  unfold State.setFlowRx
  try dsimp only
  with_reducible repeat' (first
    | assumption | exact List.Subset.trans (by decide) hm | apply Keeps.ite | apply State.setRxCtx_keeps
    | apply withFlow_keeps | refine Keeps.of_pair (by assumption) ?_ | intro _ | split)

theorem flowSetOp_keeps {c : Cmd} (hk : Keeps cs s₀ s)
    (hm : ([.free, .clerk, .hier, .tally, .fec, .store, .flow] : List Comp) ⊆ cs := by first | decide | (refine List.Subset.trans ?_ ‹_ ⊆ _›; decide)) : Keeps cs s₀ (flowSetOp.effect c s).2 := by
  unfold flowSetOp
  try dsimp only
  with_reducible repeat' (first
    | assumption | exact List.Subset.trans (by decide) hm | apply Keeps.ite | apply Keeps.ite_snd | apply sets_keeps
    | apply State.useRecord_keeps | apply State.setFlowTx_keeps | apply State.setFlowRx_keeps | apply State.refreshPools_keeps
    | apply State.runAll_keeps | apply foldl_keeps | refine Keeps.of_pair (by assumption) ?_ | intro _ | split)

theorem execFlowSet_keeps {c : Cmd} {s : State} (hk : Keeps cs s₀ s)
    (hm : ([.free, .out, .bar0, .clerk, .hier, .tally, .fec, .store, .flow] : List Comp) ⊆ cs := by first | decide | (refine List.Subset.trans ?_ ‹_ ⊆ _›; decide)) : AnsKeeps cs s₀ (execFlowSet c s) := by
  unfold execFlowSet
  try dsimp only
  with_reducible repeat' (first
    | assumption | exact List.Subset.trans (by decide) hm | apply AnsKeeps.next | apply serve_keeps | apply flowSetOp_keeps
    | intro _)

theorem flowClassMapOp_keeps {c : Cmd} (hk : Keeps cs s₀ s)
    (hm : ([.flow] : List Comp) ⊆ cs := by first | decide | (refine List.Subset.trans ?_ ‹_ ⊆ _›; decide)) : Keeps cs s₀ (flowClassMapOp.effect c s).2 := by
  unfold flowClassMapOp
  try dsimp only
  with_reducible repeat' (first
    | assumption | exact List.Subset.trans (by decide) hm | apply sets_keeps | apply withFlow_keeps
    | refine Keeps.of_pair (by assumption) ?_ | intro _)

theorem execFlowClassMap_keeps {c : Cmd} {s : State} (hk : Keeps cs s₀ s)
    (hm : ([.out, .bar0, .clerk, .tally, .flow] : List Comp) ⊆ cs := by first | decide | (refine List.Subset.trans ?_ ‹_ ⊆ _›; decide)) : AnsKeeps cs s₀ (execFlowClassMap c s) := by
  unfold execFlowClassMap
  try dsimp only
  with_reducible repeat' (first
    | assumption | exact List.Subset.trans (by decide) hm | apply AnsKeeps.next | apply serve_keeps
    | apply flowClassMapOp_keeps | intro _)

theorem flowThreadSetOp_keeps {c : Cmd} (hk : Keeps cs s₀ s)
    (hm : ([.free, .clerk, .hier, .tally, .store, .flow] : List Comp) ⊆ cs := by first | decide | (refine List.Subset.trans ?_ ‹_ ⊆ _›; decide)) : Keeps cs s₀ (flowThreadSetOp.effect c s).2 := by
  unfold flowThreadSetOp
  try dsimp only
  with_reducible repeat' (first
    | assumption | exact List.Subset.trans (by decide) hm | apply Keeps.ite | apply Keeps.ite_snd | apply sets_keeps
    | apply State.dropQueue_keeps | apply State.updTxThread_keeps | apply State.hunt_keeps | apply withFlow_keeps
    | apply State.updRxThread_keeps | apply foldl_keeps | refine Keeps.of_pair (by assumption) ?_ | intro _ | split)

theorem execFlowThreadSet_keeps {c : Cmd} {s : State} (hk : Keeps cs s₀ s)
    (hm : ([.free, .out, .bar0, .clerk, .hier, .tally, .store, .flow] : List Comp) ⊆ cs := by first | decide | (refine List.Subset.trans ?_ ‹_ ⊆ _›; decide)) : AnsKeeps cs s₀ (execFlowThreadSet c s) := by
  unfold execFlowThreadSet
  try dsimp only
  with_reducible repeat' (first
    | assumption | exact List.Subset.trans (by decide) hm | apply AnsKeeps.next | apply serve_keeps
    | apply flowThreadSetOp_keeps | intro _)

theorem flowStatusOp_keeps {c : Cmd} (hk : Keeps cs s₀ s) : Keeps cs s₀ (flowStatusOp.effect c s).2 := by
  unfold flowStatusOp
  try dsimp only
  with_reducible repeat' (first
    | assumption | apply Keeps.ite | apply Keeps.ite_snd | apply reads_keeps | refine Keeps.of_pair (by assumption) ?_
    | intro _ | split)

theorem execFlowStatus_keeps {c : Cmd} {s : State} (hk : Keeps cs s₀ s)
    (hm : ([.out, .bar0, .clerk, .tally] : List Comp) ⊆ cs := by first | decide | (refine List.Subset.trans ?_ ‹_ ⊆ _›; decide)) : AnsKeeps cs s₀ (execFlowStatus c s) := by
  unfold execFlowStatus
  try dsimp only
  with_reducible repeat' (first
    | assumption | exact List.Subset.trans (by decide) hm | apply AnsKeeps.next | apply serve_keeps | apply flowStatusOp_keeps
    | intro _)

theorem flowCountersOp_keeps {c : Cmd} (hk : Keeps cs s₀ s) : Keeps cs s₀ (flowCountersOp.effect c s).2 := by
  unfold flowCountersOp
  try dsimp only
  with_reducible repeat' (first
    | assumption | apply Keeps.ite | apply Keeps.ite_snd | apply reads_keeps | refine Keeps.of_pair (by assumption) ?_
    | intro _ | split)

theorem execFlowCounters_keeps {c : Cmd} {s : State} (hk : Keeps cs s₀ s)
    (hm : ([.out, .bar0, .clerk, .tally] : List Comp) ⊆ cs := by first | decide | (refine List.Subset.trans ?_ ‹_ ⊆ _›; decide)) : AnsKeeps cs s₀ (execFlowCounters c s) := by
  unfold execFlowCounters
  try dsimp only
  with_reducible repeat' (first
    | assumption | exact List.Subset.trans (by decide) hm | apply AnsKeeps.next | apply serve_keeps
    | apply flowCountersOp_keeps | intro _)

theorem flowRegionCountersOp_keeps {c : Cmd} (hk : Keeps cs s₀ s) : Keeps cs s₀ (flowRegionCountersOp.effect c s).2 := by
  unfold flowRegionCountersOp
  try dsimp only
  with_reducible repeat' (first | assumption | apply reads_keeps | refine Keeps.of_pair (by assumption) ?_ | intro _)

theorem execFlowRegionCounters_keeps {c : Cmd} {s : State} (hk : Keeps cs s₀ s)
    (hm : ([.out, .bar0, .clerk, .tally] : List Comp) ⊆ cs := by first | decide | (refine List.Subset.trans ?_ ‹_ ⊆ _›; decide)) : AnsKeeps cs s₀ (execFlowRegionCounters c s) := by
  unfold execFlowRegionCounters
  try dsimp only
  with_reducible repeat' (first
    | assumption | exact List.Subset.trans (by decide) hm | apply AnsKeeps.next | apply serve_keeps
    | apply flowRegionCountersOp_keeps | intro _)

theorem ciphKeyLoadOp_keeps {c : Cmd} (hk : Keeps cs s₀ s)
    (hm : ([.free, .clerk, .hier, .tally, .store, .flow] : List Comp) ⊆ cs := by first | decide | (refine List.Subset.trans ?_ ‹_ ⊆ _›; decide)) : Keeps cs s₀ (ciphKeyLoadOp.effect c s).2 := by
  unfold ciphKeyLoadOp
  try dsimp only
  with_reducible repeat' (first
    | assumption | exact List.Subset.trans (by decide) hm | apply Keeps.ite | apply Keeps.ite_snd | apply State.bump_keeps
    | apply State.useRecord_keeps | apply State.setTxCtx_keeps | apply State.setRxCtx_keeps
    | refine Keeps.of_pair (by assumption) ?_ | intro _ | split)

theorem execCiphKeyLoad_keeps {c : Cmd} {s : State} (hk : Keeps cs s₀ s)
    (hm : ([.free, .out, .bar0, .clerk, .hier, .tally, .store, .flow] : List Comp) ⊆ cs := by first | decide | (refine List.Subset.trans ?_ ‹_ ⊆ _›; decide)) : AnsKeeps cs s₀ (execCiphKeyLoad c s) := by
  unfold execCiphKeyLoad
  try dsimp only
  with_reducible repeat' (first
    | assumption | exact List.Subset.trans (by decide) hm | apply AnsKeeps.next | apply serve_keeps
    | apply ciphKeyLoadOp_keeps | intro _)

theorem ciphRolloverOp_keeps {c : Cmd} (hk : Keeps cs s₀ s)
    (hm : ([.free, .clerk, .hier, .tally, .store, .flow] : List Comp) ⊆ cs := by first | decide | (refine List.Subset.trans ?_ ‹_ ⊆ _›; decide)) : Keeps cs s₀ (ciphRolloverOp.effect c s).2 := by
  unfold ciphRolloverOp
  try dsimp only
  with_reducible repeat' (first
    | assumption | exact List.Subset.trans (by decide) hm | apply Keeps.ite | apply Keeps.ite_snd | apply sets_keeps
    | apply State.useRecord_keeps | apply State.setTxCtx_keeps | refine Keeps.of_pair (by assumption) ?_ | intro _ | split)

theorem execCiphRollover_keeps {c : Cmd} {s : State} (hk : Keeps cs s₀ s)
    (hm : ([.free, .out, .bar0, .clerk, .hier, .tally, .store, .flow] : List Comp) ⊆ cs := by first | decide | (refine List.Subset.trans ?_ ‹_ ⊆ _›; decide)) : AnsKeeps cs s₀ (execCiphRollover c s) := by
  unfold execCiphRollover
  try dsimp only
  with_reducible repeat' (first
    | assumption | exact List.Subset.trans (by decide) hm | apply AnsKeeps.next | apply serve_keeps
    | apply ciphRolloverOp_keeps | intro _)

theorem ciphCtxStatusOp_keeps {c : Cmd} (hk : Keeps cs s₀ s) : Keeps cs s₀ (ciphCtxStatusOp.effect c s).2 := by
  unfold ciphCtxStatusOp
  try dsimp only
  with_reducible repeat' (first | assumption | apply reads_keeps | refine Keeps.of_pair (by assumption) ?_ | intro _)

theorem execCiphCtxStatus_keeps {c : Cmd} {s : State} (hk : Keeps cs s₀ s)
    (hm : ([.out, .bar0, .clerk, .tally] : List Comp) ⊆ cs := by first | decide | (refine List.Subset.trans ?_ ‹_ ⊆ _›; decide)) : AnsKeeps cs s₀ (execCiphCtxStatus c s) := by
  unfold execCiphCtxStatus
  try dsimp only
  with_reducible repeat' (first
    | assumption | exact List.Subset.trans (by decide) hm | apply AnsKeeps.next | apply serve_keeps
    | apply ciphCtxStatusOp_keeps | intro _)

theorem ciphPoolStatusOp_keeps {c : Cmd} (hk : Keeps cs s₀ s) : Keeps cs s₀ (ciphPoolStatusOp.effect c s).2 := by
  unfold ciphPoolStatusOp
  try dsimp only
  with_reducible repeat' (first | assumption | apply reads_keeps | refine Keeps.of_pair (by assumption) ?_ | intro _)

theorem execCiphPoolStatus_keeps {c : Cmd} {s : State} (hk : Keeps cs s₀ s)
    (hm : ([.out, .bar0, .clerk, .tally] : List Comp) ⊆ cs := by first | decide | (refine List.Subset.trans ?_ ‹_ ⊆ _›; decide)) : AnsKeeps cs s₀ (execCiphPoolStatus c s) := by
  unfold execCiphPoolStatus
  try dsimp only
  with_reducible repeat' (first
    | assumption | exact List.Subset.trans (by decide) hm | apply AnsKeeps.next | apply serve_keeps
    | apply ciphPoolStatusOp_keeps | intro _)

theorem ciphCountersOp_keeps {c : Cmd} (hk : Keeps cs s₀ s) : Keeps cs s₀ (ciphCountersOp.effect c s).2 := by
  unfold ciphCountersOp
  try dsimp only
  with_reducible repeat' (first | assumption | apply reads_keeps | refine Keeps.of_pair (by assumption) ?_ | intro _)

theorem execCiphCounters_keeps {c : Cmd} {s : State} (hk : Keeps cs s₀ s)
    (hm : ([.out, .bar0, .clerk, .tally] : List Comp) ⊆ cs := by first | decide | (refine List.Subset.trans ?_ ‹_ ⊆ _›; decide)) : AnsKeeps cs s₀ (execCiphCounters c s) := by
  unfold execCiphCounters
  try dsimp only
  with_reducible repeat' (first
    | assumption | exact List.Subset.trans (by decide) hm | apply AnsKeeps.next | apply serve_keeps
    | apply ciphCountersOp_keeps | intro _)

theorem State.takeStream_keeps {i : Nat} {bs : List Byte} {s : State} (hk : Keeps cs s₀ s)
    (hm : ([.clerk, .hier, .tally, .flow] : List Comp) ⊆ cs := by first | decide | (refine List.Subset.trans ?_ ‹_ ⊆ _›; decide)) : Keeps cs s₀ (State.takeStream i bs s) := by
  unfold State.takeStream
  try dsimp only
  with_reducible repeat' (first
    | assumption | exact List.Subset.trans (by decide) hm | apply State.ingressDrop_keeps | apply State.updFi_keeps
    | apply State.bump_keeps | refine Keeps.of_pair (by assumption) ?_ | intro _ | split)

theorem execClientFrameArrive_keeps {i : Fin 256} {bytes : List Byte} {s : State} (hk : Keeps cs s₀ s)
    (hm : ([.free, .clerk, .hier, .tally, .store, .flow] : List Comp) ⊆ cs := by first | decide | (refine List.Subset.trans ?_ ‹_ ⊆ _›; decide)) : AnsKeeps cs s₀ (execClientFrameArrive i bytes s) := by
  unfold execClientFrameArrive
  try dsimp only
  with_reducible repeat' (first
    | assumption | exact List.Subset.trans (by decide) hm | apply Keeps.ite | apply AnsKeeps.ite | apply AnsKeeps.next
    | apply happen_keeps | apply State.takeStream_keeps | apply State.ingressDrop_keeps | apply runIngress_keeps
    | apply State.bump_keeps | refine Keeps.of_pair (by assumption) ?_ | intro _ | split)

theorem execRecordFill_keeps {f : Nat} {bad : List Nat} {s : State} (hk : Keeps cs s₀ s)
    (hm : ([.free, .clerk, .hier, .tally, .store, .flow] : List Comp) ⊆ cs := by first | decide | (refine List.Subset.trans ?_ ‹_ ⊆ _›; decide)) : AnsKeeps cs s₀ (execRecordFill f bad s) := by
  unfold execRecordFill
  try dsimp only
  with_reducible repeat' (first
    | assumption | exact List.Subset.trans (by decide) hm | apply Keeps.ite | apply AnsKeeps.ite | apply AnsKeeps.next
    | exact AnsKeeps.fault | apply State.bump_keeps | apply State.readStripe_keeps | apply State.loseRecord_keeps
    | apply happen_keeps | apply State.useRecord_keeps | apply State.runAll_keeps | apply State.resolveAll_keeps
    | refine Keeps.of_pair (by assumption) ?_ | intro _ | split)

theorem execCipherMessageDone_keeps {n : Nat} {s : State} (hk : Keeps cs s₀ s)
    (hm : ([.free, .clerk, .hier, .tally, .store, .flow] : List Comp) ⊆ cs := by first | decide | (refine List.Subset.trans ?_ ‹_ ⊆ _›; decide)) : AnsKeeps cs s₀ (execCipherMessageDone n s) := by
  unfold execCipherMessageDone
  try dsimp only
  with_reducible repeat' (first
    | assumption | exact List.Subset.trans (by decide) hm | apply AnsKeeps.next | apply withFlow_keeps
    | apply State.bump_keeps | apply happen_keeps | apply State.packDone_keeps | apply State.runAll_keeps
    | refine Keeps.of_pair (by assumption) ?_ | intro _ | split)

theorem State.closeTail_keeps {f : Nat} {x : TxFlow} {g : Seg} {s : State} (hk : Keeps cs s₀ s)
    (hm : ([.tally, .flow] : List Comp) ⊆ cs := by first | decide | (refine List.Subset.trans ?_ ‹_ ⊆ _›; decide)) : Keeps cs s₀ (State.closeTail f x g s) := by
  unfold State.closeTail
  try dsimp only
  with_reducible repeat' (first
    | assumption | exact List.Subset.trans (by decide) hm | apply State.setTxFlow_keeps | apply State.settleCredits_keeps
    | apply State.updTxThread_keeps | apply State.bump_keeps | refine Keeps.of_pair (by assumption) ?_ | intro _)

theorem State.issue_keeps {f : Nat} {s : State} (hk : Keeps cs s₀ s)
    (hm : ([.free, .clerk, .hier, .tally, .store, .flow] : List Comp) ⊆ cs := by first | decide | (refine List.Subset.trans ?_ ‹_ ⊆ _›; decide)) : Keeps cs s₀ (State.issue f s) := by
  unfold State.issue
  try dsimp only
  with_reducible repeat' (first
    | assumption | exact List.Subset.trans (by decide) hm | apply State.unitIn_keeps | apply State.setTxFlow_keeps
    | apply State.dropSeg_keeps | refine Keeps.of_pair (by assumption) ?_ | intro _ | split)

theorem execTailWrite_keeps {f : Nat} {why : Fin 3} {s : State} (hk : Keeps cs s₀ s)
    (hm : ([.free, .clerk, .hier, .tally, .store, .flow] : List Comp) ⊆ cs := by first | decide | (refine List.Subset.trans ?_ ‹_ ⊆ _›; decide)) : AnsKeeps cs s₀ (execTailWrite f why s) := by
  unfold execTailWrite
  try dsimp only
  with_reducible repeat' (first
    | assumption | exact List.Subset.trans (by decide) hm | apply AnsKeeps.next | apply happen_keeps | apply State.issue_keeps
    | apply State.packDone_keeps | apply State.runAll_keeps | apply State.closeTail_keeps | apply State.bump_keeps
    | refine Keeps.of_pair (by assumption) ?_ | intro _ | split)

theorem readParcel_keeps {bad : List (Nat × List Nat)} {f a b : Nat} (hm : ([.clerk, .hier, .tally, .store, .flow] : List Comp) ⊆ cs) : ∀ {l : List (Nat × Seg)} {s : State}, Keeps cs s₀ s →
    Keeps cs s₀ (readParcel bad f a b l s).2.2 := by
  intro l
  induction l with
  | nil => intro s h; exact h
  | cons e r ih =>
    intro s h
    unfold readParcel
    dsimp only
    repeat' (first | with_reducible assumption | exact List.Subset.trans (by decide) hm | with_reducible apply ih | with_reducible apply State.readStripe_keeps | with_reducible apply State.setTxFlow_keeps | split)

theorem State.sendParcel_keeps {t f : Nat} {x : TxFlow} {p : Parcel} {bad : List (Nat × List Nat)} {s : State}
    (hk : Keeps cs s₀ s)
    (hm : ([.free, .out, .clerk, .hier, .tally, .store, .flow] : List Comp) ⊆ cs := by first | decide | (refine List.Subset.trans ?_ ‹_ ⊆ _›; decide)) : Keeps cs s₀ (State.sendParcel t f x p bad s) := by
  unfold State.sendParcel
  try dsimp only
  with_reducible repeat' (first
    | assumption | exact List.Subset.trans (by decide) hm | apply Keeps.ite | apply readParcel_keeps
    | apply State.dropQueue_keeps | apply State.emit_keeps | apply State.setTxFlow_keeps | apply State.bump_keeps
    | apply State.trim_keeps | apply State.idle_keeps | refine Keeps.of_pair (by assumption) ?_ | intro _ | split)

theorem State.sendSegment_keeps {t tick : Nat} {s : State} (hk : Keeps cs s₀ s)
    (hm : ([.free, .out, .clerk, .hier, .tally, .flow] : List Comp) ⊆ cs := by first | decide | (refine List.Subset.trans ?_ ‹_ ⊆ _›; decide)) : Keeps cs s₀ (State.sendSegment t tick s) := by
  unfold State.sendSegment
  try dsimp only
  with_reducible repeat' (first
    | assumption | exact List.Subset.trans (by decide) hm | apply Keeps.ite | apply withFree_keeps | apply State.updFi_keeps
    | apply State.emit_keeps | apply State.takeKey_keeps | apply State.bump_keeps | apply State.txDropped_keeps
    | refine Keeps.of_pair (by assumption) ?_ | intro _ | split)

theorem execThreadBytesNeeded_keeps {t tick : Nat} {bad : List (Nat × List Nat)} {s : State} (hk : Keeps cs s₀ s)
    (hm : ([.free, .out, .clerk, .hier, .tally, .store, .flow] : List Comp) ⊆ cs := by first | decide | (refine List.Subset.trans ?_ ‹_ ⊆ _›; decide)) : AnsKeeps cs s₀ (execThreadBytesNeeded t tick bad s) := by
  unfold execThreadBytesNeeded
  try dsimp only
  with_reducible repeat' (first
    | assumption | exact List.Subset.trans (by decide) hm | apply Keeps.ite | apply AnsKeeps.ite | apply AnsKeeps.next
    | apply State.updTxThread_keeps | apply State.sendSegment_keeps | apply State.emit_keeps | apply State.idle_keeps
    | apply State.setTxFlow_keeps | apply State.sendParcel_keeps | apply happen_keeps | apply State.runAll_keeps
    | refine Keeps.of_pair (by assumption) ?_ | intro _ | split)

theorem execKeyRollover_keeps {p : Port} {s : State} (hk : Keeps cs s₀ s)
    (hm : ([.clerk, .hier, .tally, .flow] : List Comp) ⊆ cs := by first | decide | (refine List.Subset.trans ?_ ‹_ ⊆ _›; decide)) : AnsKeeps cs s₀ (execKeyRollover p s) := by
  unfold execKeyRollover
  try dsimp only
  with_reducible repeat' (first
    | assumption | exact List.Subset.trans (by decide) hm | apply AnsKeeps.next | apply happen_keeps
    | apply State.setTxCtx_keeps | apply State.bump_keeps | apply State.raise_keeps | apply foldl_keeps
    | refine Keeps.of_pair (by assumption) ?_ | intro _ | split)

theorem State.takeParcel_keeps {t : Nat} {h : BitVec 64} {body : List Byte} {s : State} (hk : Keeps cs s₀ s)
    (hm : ([.free, .clerk, .hier, .tally, .store, .flow] : List Comp) ⊆ cs := by first | decide | (refine List.Subset.trans ?_ ‹_ ⊆ _›; decide)) : Keeps cs s₀ (State.takeParcel t h body s) := by
  unfold State.takeParcel
  try dsimp only
  with_reducible repeat' (first
    | assumption | exact List.Subset.trans (by decide) hm | apply Keeps.ite | apply State.takeRx_keeps
    | refine Keeps.of_pair (by assumption) ?_ | intro _ | split)

theorem execRxParcel_keeps {t pos : Nat} {hdr : BitVec 64} {body : List Byte} {s : State} (hk : Keeps cs s₀ s)
    (hm : ([.free, .clerk, .hier, .tally, .store, .flow] : List Comp) ⊆ cs := by first | decide | (refine List.Subset.trans ?_ ‹_ ⊆ _›; decide)) : AnsKeeps cs s₀ (execRxParcel t pos hdr body s) := by
  unfold execRxParcel
  try dsimp only
  with_reducible repeat' (first
    | assumption | exact List.Subset.trans (by decide) hm | apply Keeps.ite | apply AnsKeeps.ite | apply AnsKeeps.next
    | apply State.updRxThread_keeps | apply State.takeParcel_keeps | apply State.hunt_keeps | apply State.bump_keeps
    | apply evDelin_keeps | apply happen_keeps | refine Keeps.of_pair (by assumption) ?_ | intro _ | split)

theorem evAuth_keeps {cause ctx : Nat} {s : State} (hk : Keeps cs s₀ s)
    (hm : ([.clerk, .hier, .tally] : List Comp) ⊆ cs := by first | decide | (refine List.Subset.trans ?_ ‹_ ⊆ _›; decide)) : Keeps cs s₀ (evAuth cause ctx s) := by
  unfold evAuth
  try dsimp only
  with_reducible repeat' (first
    | assumption | exact List.Subset.trans (by decide) hm | apply State.raiseAtMost_keeps
    | refine Keeps.of_pair (by assumption) ?_ | intro _)

theorem State.authFail_keeps {n cause ctx : Nat} {m : RxMsg} {s : State} (hk : Keeps cs s₀ s)
    (hm : ([.clerk, .hier, .tally, .flow] : List Comp) ⊆ cs := by first | decide | (refine List.Subset.trans ?_ ‹_ ⊆ _›; decide)) : Keeps cs s₀ (State.authFail n cause ctx m s) := by
  unfold State.authFail
  try dsimp only
  with_reducible repeat' (first
    | assumption | exact List.Subset.trans (by decide) hm | apply Keeps.ite | apply withFlow_keeps
    | apply State.updRxThread_keeps | apply evAuth_keeps | apply State.bump_keeps | refine Keeps.of_pair (by assumption) ?_
    | intro _ | split)

theorem execCipherDecrypt_keeps {n : Nat} {s : State} (hk : Keeps cs s₀ s)
    (hm : ([.free, .clerk, .hier, .tally, .store, .flow] : List Comp) ⊆ cs := by first | decide | (refine List.Subset.trans ?_ ‹_ ⊆ _›; decide)) : AnsKeeps cs s₀ (execCipherDecrypt n s) := by
  unfold execCipherDecrypt
  try dsimp only
  with_reducible repeat' (first
    | assumption | exact List.Subset.trans (by decide) hm | apply Keeps.ite | apply AnsKeeps.ite | apply Keeps.ite_snd
    | apply AnsKeeps.next | apply State.slot_keeps | apply State.authFail_keeps | apply State.nextOrder_keeps
    | apply State.setRxCtx_keeps | apply State.bump_keeps | apply withFlow_keeps | apply State.updRxThread_keeps
    | apply happen_keeps | apply State.resolveAll_keeps | refine Keeps.of_pair (by assumption) ?_ | intro _ | split)

theorem execEgressDeliver_keeps {i : Fin 256} {s : State} (hk : Keeps cs s₀ s)
    (hm : ([.out, .clerk, .hier, .tally, .flow] : List Comp) ⊆ cs := by first | decide | (refine List.Subset.trans ?_ ‹_ ⊆ _›; decide)) : AnsKeeps cs s₀ (execEgressDeliver i s) := by
  unfold execEgressDeliver
  try dsimp only
  with_reducible repeat' (first
    | assumption | exact List.Subset.trans (by decide) hm | apply Keeps.ite | apply AnsKeeps.ite | apply Keeps.ite_snd
    | apply AnsKeeps.next | apply withFlow_keeps | apply State.updFi_keeps | apply happen_keeps | apply State.egressDrop_keeps
    | apply State.bump_keeps | apply State.emit_keeps | refine Keeps.of_pair (by assumption) ?_ | intro _ | split)

/-! ### Rewind.lean -/

theorem lineRwConfigOp_keeps {c : Cmd} (hk : Keeps cs s₀ s)
    (hm : ([.rw] : List Comp) ⊆ cs := by first | decide | (refine List.Subset.trans ?_ ‹_ ⊆ _›; decide)) : Keeps cs s₀ (lineRwConfigOp.effect c s).2 := by
  unfold lineRwConfigOp
  try dsimp only
  with_reducible repeat' (first
    | assumption | exact List.Subset.trans (by decide) hm | apply Keeps.ite | apply Keeps.ite_snd | apply State.commitRw_keeps
    | refine Keeps.of_pair (by assumption) ?_ | intro _ | split)

theorem execLineRwConfig_keeps {c : Cmd} {s : State} (hk : Keeps cs s₀ s)
    (hm : ([.out, .bar0, .clerk, .tally, .rw] : List Comp) ⊆ cs := by first | decide | (refine List.Subset.trans ?_ ‹_ ⊆ _›; decide)) : AnsKeeps cs s₀ (execLineRwConfig c s) := by
  unfold execLineRwConfig
  try dsimp only
  with_reducible repeat' (first
    | assumption | exact List.Subset.trans (by decide) hm | apply AnsKeeps.next | apply serve_keeps
    | apply lineRwConfigOp_keeps | intro _)

theorem lineRwStatusOp_keeps {c : Cmd} (hk : Keeps cs s₀ s) : Keeps cs s₀ (lineRwStatusOp.effect c s).2 := by
  unfold lineRwStatusOp
  try dsimp only
  with_reducible repeat' (first | assumption | apply reads_keeps | intro _)

theorem execLineRwStatus_keeps {c : Cmd} {s : State} (hk : Keeps cs s₀ s)
    (hm : ([.out, .bar0, .clerk, .tally] : List Comp) ⊆ cs := by first | decide | (refine List.Subset.trans ?_ ‹_ ⊆ _›; decide)) : AnsKeeps cs s₀ (execLineRwStatus c s) := by
  unfold execLineRwStatus
  try dsimp only
  with_reducible repeat' (first
    | assumption | exact List.Subset.trans (by decide) hm | apply AnsKeeps.next | apply serve_keeps
    | apply lineRwStatusOp_keeps | intro _)

theorem lineRwCountersOp_keeps {c : Cmd} (hk : Keeps cs s₀ s) : Keeps cs s₀ (lineRwCountersOp.effect c s).2 := by
  unfold lineRwCountersOp
  try dsimp only
  with_reducible repeat' (first | assumption | apply reads_keeps | refine Keeps.of_pair (by assumption) ?_ | intro _)

theorem execLineRwCounters_keeps {c : Cmd} {s : State} (hk : Keeps cs s₀ s)
    (hm : ([.out, .bar0, .clerk, .tally] : List Comp) ⊆ cs := by first | decide | (refine List.Subset.trans ?_ ‹_ ⊆ _›; decide)) : AnsKeeps cs s₀ (execLineRwCounters c s) := by
  unfold execLineRwCounters
  try dsimp only
  with_reducible repeat' (first
    | assumption | exact List.Subset.trans (by decide) hm | apply AnsKeeps.next | apply serve_keeps
    | apply lineRwCountersOp_keeps | intro _)

theorem lineRwInjectOp_keeps {c : Cmd} (hk : Keeps cs s₀ s)
    (hm : ([.rw] : List Comp) ⊆ cs := by first | decide | (refine List.Subset.trans ?_ ‹_ ⊆ _›; decide)) : Keeps cs s₀ (lineRwInjectOp.effect c s).2 := by
  unfold lineRwInjectOp
  try dsimp only
  with_reducible repeat' (first
    | assumption | exact List.Subset.trans (by decide) hm | apply Keeps.ite | apply Keeps.ite_snd | apply sets_keeps
    | apply State.setRw_keeps | refine Keeps.of_pair (by assumption) ?_ | intro _ | split)

theorem execLineRwInject_keeps {c : Cmd} {s : State} (hk : Keeps cs s₀ s)
    (hm : ([.out, .bar0, .clerk, .tally, .rw] : List Comp) ⊆ cs := by first | decide | (refine List.Subset.trans ?_ ‹_ ⊆ _›; decide)) : AnsKeeps cs s₀ (execLineRwInject c s) := by
  unfold execLineRwInject
  try dsimp only
  with_reducible repeat' (first
    | assumption | exact List.Subset.trans (by decide) hm | apply AnsKeeps.next | apply serve_keeps
    | apply lineRwInjectOp_keeps | intro _)

theorem State.addRecomputed_keeps {p : Port} {n : Nat} {s : State} (hk : Keeps cs s₀ s)
    (hm : ([.clerk, .hier, .tally, .rw] : List Comp) ⊆ cs := by first | decide | (refine List.Subset.trans ?_ ‹_ ⊆ _›; decide)) : Keeps cs s₀ (State.addRecomputed p n s) := by
  unfold State.addRecomputed
  try dsimp only
  with_reducible repeat' (first
    | assumption | exact List.Subset.trans (by decide) hm | apply Keeps.ite | apply State.bump_keeps | apply State.slot_keeps
    | apply State.setRw_keeps | apply State.raise_keeps | refine Keeps.of_pair (by assumption) ?_ | intro _ | split)

theorem execRwRateRepeat_keeps {p : Port} {s : State} (hk : Keeps cs s₀ s)
    (hm : ([.clerk, .hier, .tally] : List Comp) ⊆ cs := by first | decide | (refine List.Subset.trans ?_ ‹_ ⊆ _›; decide)) : AnsKeeps cs s₀ (execRwRateRepeat p s) := by
  unfold execRwRateRepeat
  try dsimp only
  with_reducible repeat' (first
    | assumption | exact List.Subset.trans (by decide) hm | apply AnsKeeps.next | apply happen_keeps | apply State.raise_keeps
    | refine Keeps.of_pair (by assumption) ?_ | intro _)

theorem State.lateContradiction_keeps {p : Port} {s : State} (hk : Keeps cs s₀ s)
    (hm : ([.clerk, .hier, .tally] : List Comp) ⊆ cs := by first | decide | (refine List.Subset.trans ?_ ‹_ ⊆ _›; decide)) : Keeps cs s₀ (State.lateContradiction p s) := by
  unfold State.lateContradiction
  try dsimp only
  with_reducible repeat' (first
    | assumption | exact List.Subset.trans (by decide) hm | apply State.bump_keeps | apply State.raiseLimited_keeps
    | refine Keeps.of_pair (by assumption) ?_ | intro _)

theorem State.unreplayable_keeps {p : Port} {contradiction : Bool} {target eraseCause : Nat} {s : State} (hk : Keeps cs s₀ s)
    (hm : ([.clerk, .hier, .tally, .rw, .fec] : List Comp) ⊆ cs := by first | decide | (refine List.Subset.trans ?_ ‹_ ⊆ _›; decide)) : Keeps cs s₀ (State.unreplayable p contradiction target eraseCause s) := by
  unfold State.unreplayable
  try dsimp only
  with_reducible repeat' (first
    | assumption | exact List.Subset.trans (by decide) hm | apply Keeps.ite | apply State.lateContradiction_keeps
    | apply State.eraseSpan_keeps | intro _ | split)

theorem State.squash_keeps {p : Port} {start : Nat} {s : State} (hk : Keeps cs s₀ s)
    (hm : ([.tally, .rw, .fec] : List Comp) ⊆ cs := by first | decide | (refine List.Subset.trans ?_ ‹_ ⊆ _›; decide)) : Keeps cs s₀ (State.squash p start s) := by
  unfold State.squash
  try dsimp only
  with_reducible repeat' (first
    | assumption | exact List.Subset.trans (by decide) hm | apply Keeps.ite | apply State.setRw_keeps | apply State.bump_keeps
    | apply State.slot_keeps | apply State.freeSlot_keeps | apply withFec_keeps | apply foldl_keeps
    | refine Keeps.of_pair (by assumption) ?_ | intro _ | split)

theorem State.beginReplay_keeps {p : Port} {start : Nat} {s : State} (hk : Keeps cs s₀ s)
    (hm : ([.clerk, .hier, .tally, .rw, .fec] : List Comp) ⊆ cs := by first | decide | (refine List.Subset.trans ?_ ‹_ ⊆ _›; decide)) : Keeps cs s₀ (State.beginReplay p start s) := by
  unfold State.beginReplay
  try dsimp only
  with_reducible repeat' (first
    | assumption | exact List.Subset.trans (by decide) hm | apply Keeps.ite | apply State.squash_keeps
    | apply State.setRw_keeps | apply withTally_keeps | apply State.addRecomputed_keeps
    | refine Keeps.tally' (cs := cs) (s₀ := s₀) rfl ?_ | refine Keeps.of_pair (by assumption) ?_ | intro _ | split)

theorem State.rollback_keeps {p : Port} {cause : Option Nat} {target : Nat} {bad : List Nat} {badSample : Bool} {s : State}
    (hk : Keeps cs s₀ s)
    (hm : ([.clerk, .hier, .tally, .rw, .fec] : List Comp) ⊆ cs := by first | decide | (refine List.Subset.trans ?_ ‹_ ⊆ _›; decide)) : Keeps cs s₀ (State.rollback p cause target bad badSample s) := by
  unfold State.rollback
  try dsimp only
  with_reducible repeat' (first
    | assumption | exact List.Subset.trans (by decide) hm | apply Keeps.ite | apply State.bump_keeps
    | apply State.unreplayable_keeps | apply State.beginReplay_keeps | refine Keeps.of_pair (by assumption) ?_ | intro _
    | split)

theorem State.checkClips_keeps {p : Port} {k : Nat} {s : State} (hk : Keeps cs s₀ s)
    (hm : ([.clerk, .hier, .tally] : List Comp) ⊆ cs := by first | decide | (refine List.Subset.trans ?_ ‹_ ⊆ _›; decide)) : Keeps cs s₀ (State.checkClips p k s) := by
  unfold State.checkClips
  try dsimp only
  with_reducible repeat' (first
    | assumption | exact List.Subset.trans (by decide) hm | apply Keeps.ite | apply State.raiseLimited_keeps
    | apply foldl_keeps | refine Keeps.of_pair (by assumption) ?_ | intro _ | split)

theorem execRxSpanFormed_keeps {p : Port} {rms clipped : List Nat} {s : State} (hk : Keeps cs s₀ s)
    (hm : ([.out, .bar0, .clerk, .hier, .tally, .rx, .rw, .fec] : List Comp) ⊆ cs := by first | decide | (refine List.Subset.trans ?_ ‹_ ⊆ _›; decide)) : AnsKeeps cs s₀ (execRxSpanFormed p rms clipped s) := by
  unfold execRxSpanFormed
  try dsimp only
  with_reducible repeat' (first
    | assumption | exact List.Subset.trans (by decide) hm | apply Keeps.ite | apply AnsKeeps.ite | apply AnsKeeps.next
    | apply State.setRx_keeps | apply State.bump_keeps | apply State.setRw_keeps | apply State.slot_keeps | apply happen_keeps
    | apply State.tagForm_keeps | apply State.tagExit_keeps | apply State.tagEnter_keeps | apply State.checkClips_keeps
    | apply State.commitBoundary_keeps | apply foldl_keeps | refine Keeps.of_pair (by assumption) ?_ | intro _ | split)

theorem State.strikeInjection_keeps {p : Port} {k : Nat} {s : State} (hk : Keeps cs s₀ s)
    (hm : ([.clerk, .hier, .tally, .rw, .fec] : List Comp) ⊆ cs := by first | decide | (refine List.Subset.trans ?_ ‹_ ⊆ _›; decide)) : Keeps cs s₀ (State.strikeInjection p k s) := by
  unfold State.strikeInjection
  try dsimp only
  with_reducible repeat' (first
    | assumption | exact List.Subset.trans (by decide) hm | apply Keeps.ite | apply State.setRw_keeps
    | apply State.addRecomputed_keeps | apply State.rollback_keeps | refine Keeps.of_pair (by assumption) ?_ | intro _ | split)

theorem execSpanHandoff_keeps {p : Port} {est : RxEst} {s : State} (hk : Keeps cs s₀ s)
    (hm : ([.clerk, .hier, .tally, .rx, .rw, .fec] : List Comp) ⊆ cs := by first | decide | (refine List.Subset.trans ?_ ‹_ ⊆ _›; decide)) : AnsKeeps cs s₀ (execSpanHandoff p est s) := by
  unfold execSpanHandoff
  try dsimp only
  with_reducible repeat' (first
    | assumption | exact List.Subset.trans (by decide) hm | apply Keeps.ite | apply AnsKeeps.ite | apply AnsKeeps.next
    | apply State.setRw_keeps | apply State.updRx_keeps | apply withFec_keeps | apply State.bump_keeps | apply happen_keeps
    | apply State.tagExit_keeps | apply State.makeReady_keeps | apply State.strikeInjection_keeps
    | refine Keeps.of_pair (by assumption) ?_ | intro _ | split)

theorem execProvisionalArrive_keeps {p : Port} {span : Nat} {s : State} (hk : Keeps cs s₀ s)
    (hm : ([.rw] : List Comp) ⊆ cs := by first | decide | (refine List.Subset.trans ?_ ‹_ ⊆ _›; decide)) : AnsKeeps cs s₀ (execProvisionalArrive p span s) := by
  unfold execProvisionalArrive
  try dsimp only
  with_reducible repeat' (first
    | assumption | exact List.Subset.trans (by decide) hm | apply AnsKeeps.next | apply happen_keeps | apply State.setRw_keeps
    | refine Keeps.of_pair (by assumption) ?_ | intro _ | split)

theorem execFinalDecisionsArrive_keeps {p : Port} {span differing pilotErrors : Nat} {bad : List Nat} {badSample : Bool} {s : State}
    (hk : Keeps cs s₀ s)
    (hm : ([.clerk, .hier, .tally, .rw, .fec] : List Comp) ⊆ cs := by first | decide | (refine List.Subset.trans ?_ ‹_ ⊆ _›; decide)) : AnsKeeps cs s₀ (execFinalDecisionsArrive p span differing pilotErrors bad badSample s) := by
  unfold execFinalDecisionsArrive
  try dsimp only
  with_reducible repeat' (first
    | assumption | exact List.Subset.trans (by decide) hm | apply Keeps.ite | apply AnsKeeps.ite | apply AnsKeeps.next
    | apply State.setRw_keeps | apply State.bump_keeps | apply happen_keeps | apply State.rollback_keeps
    | refine Keeps.of_pair (by assumption) ?_ | intro _ | split)

theorem execCycleSlip_keeps {p : Port} {first : Nat} {bad : List Nat} {badSample : Bool} {s : State} (hk : Keeps cs s₀ s)
    (hm : ([.clerk, .hier, .tally, .rw, .fec] : List Comp) ⊆ cs := by first | decide | (refine List.Subset.trans ?_ ‹_ ⊆ _›; decide)) : AnsKeeps cs s₀ (execCycleSlip p first bad badSample s) := by
  unfold execCycleSlip
  try dsimp only
  with_reducible repeat' (first
    | assumption | exact List.Subset.trans (by decide) hm | apply AnsKeeps.next | apply happen_keeps | apply State.bump_keeps
    | apply State.rollback_keeps | refine Keeps.of_pair (by assumption) ?_ | intro _)

theorem State.lineFailure_keeps {p : Port} {cause : Option Nat} {b span : Nat} {bad : List Nat} {badSample : Bool} {s : State}
    (hk : Keeps cs s₀ s)
    (hm : ([.clerk, .hier, .tally, .serv, .rw, .fec] : List Comp) ⊆ cs := by first | decide | (refine List.Subset.trans ?_ ‹_ ⊆ _›; decide)) : Keeps cs s₀ (State.lineFailure p cause b span bad badSample s) := by
  unfold State.lineFailure
  try dsimp only
  with_reducible repeat' (first
    | assumption | exact List.Subset.trans (by decide) hm | apply Keeps.ite | apply State.addRecomputed_keeps
    | apply State.setRw_keeps | apply State.blockSuspect_keeps | apply State.eraseSpan_keeps | apply State.rollback_keeps
    | refine Keeps.of_pair (by assumption) ?_ | intro _ | split)

theorem State.datapathFailure_keeps {cause : Option Nat} {ha span : Nat} {bad : List Nat} {badSample : Bool} {s : State}
    (hk : Keeps cs s₀ s)
    (hm : ([.clerk, .hier, .tally, .serv, .rw, .fec, .tx] : List Comp) ⊆ cs := by first | decide | (refine List.Subset.trans ?_ ‹_ ⊆ _›; decide)) : Keeps cs s₀ (State.datapathFailure cause ha span bad badSample s) := by
  unfold State.datapathFailure
  try dsimp only
  with_reducible repeat' (first
    | assumption | exact List.Subset.trans (by decide) hm | apply Keeps.ite | apply State.lineFailure_keeps
    | apply State.txFailure_keeps | apply State.slot_keeps | apply State.bump_keeps | refine Keeps.of_pair (by assumption) ?_
    | intro _ | split)

theorem execResidueFailure_keeps {ha : BitVec 20} {span : Nat} {bad : List Nat} {badSample : Bool} {s : State}
    (hk : Keeps cs s₀ s)
    (hm : ([.clerk, .hier, .tally, .serv, .rw, .fec, .tx, .flow] : List Comp) ⊆ cs := by first | decide | (refine List.Subset.trans ?_ ‹_ ⊆ _›; decide)) : AnsKeeps cs s₀ (execResidueFailure ha span bad badSample s) := by
  unfold execResidueFailure
  try dsimp only
  with_reducible repeat' (first
    | assumption | exact List.Subset.trans (by decide) hm | apply Keeps.ite | apply AnsKeeps.ite | apply AnsKeeps.next
    | exact AnsKeeps.fault | apply happen_keeps | apply State.datapathFailure_keeps | apply State.cellFault_keeps
    | apply State.afterFault_keeps | refine Keeps.of_pair (by assumption) ?_ | intro _ | split)

theorem execParityFailure_keeps {ha : BitVec 20} {span : Nat} {bad : List Nat} {badSample : Bool} {s : State}
    (hk : Keeps cs s₀ s)
    (hm : ([.clerk, .hier, .tally, .serv, .rw, .fec, .tx, .flow] : List Comp) ⊆ cs := by first | decide | (refine List.Subset.trans ?_ ‹_ ⊆ _›; decide)) : AnsKeeps cs s₀ (execParityFailure ha span bad badSample s) := by
  unfold execParityFailure
  try dsimp only
  with_reducible repeat' (first
    | assumption | exact List.Subset.trans (by decide) hm | apply Keeps.ite | apply AnsKeeps.ite | apply AnsKeeps.next
    | exact AnsKeeps.fault | apply happen_keeps | apply State.datapathFailure_keeps | apply State.cellFault_keeps
    | apply State.afterFault_keeps | refine Keeps.of_pair (by assumption) ?_ | intro _ | split)

theorem execHandshakeStall_keeps {requester stalled : BitVec 20} {span : Nat} {bad : List Nat} {badSample : Bool} {s : State}
    (hk : Keeps cs s₀ s)
    (hm : ([.clerk, .hier, .tally, .serv, .rw, .fec, .tx, .flow] : List Comp) ⊆ cs := by first | decide | (refine List.Subset.trans ?_ ‹_ ⊆ _›; decide)) : AnsKeeps cs s₀ (execHandshakeStall requester stalled span bad badSample s) := by
  unfold execHandshakeStall
  try dsimp only
  with_reducible repeat' (first
    | assumption | exact List.Subset.trans (by decide) hm | apply Keeps.ite | apply AnsKeeps.ite | apply AnsKeeps.next
    | exact AnsKeeps.fault | apply happen_keeps | apply State.datapathFailure_keeps | apply State.stall_keeps
    | apply State.afterFault_keeps | refine Keeps.of_pair (by assumption) ?_ | intro _ | split)

theorem execReplayEnd_keeps {p : Port} {s : State} (hk : Keeps cs s₀ s)
    (hm : ([.rw] : List Comp) ⊆ cs := by first | decide | (refine List.Subset.trans ?_ ‹_ ⊆ _›; decide)) : AnsKeeps cs s₀ (execReplayEnd p s) := by
  unfold execReplayEnd
  try dsimp only
  with_reducible repeat' (first
    | assumption | exact List.Subset.trans (by decide) hm | apply AnsKeeps.next | apply happen_keeps | apply State.setRw_keeps
    | refine Keeps.of_pair (by assumption) ?_ | intro _ | split)

theorem execCatchupEnd_keeps {p : Port} {s : State} (hk : Keeps cs s₀ s)
    (hm : ([.rw] : List Comp) ⊆ cs := by first | decide | (refine List.Subset.trans ?_ ‹_ ⊆ _›; decide)) : AnsKeeps cs s₀ (execCatchupEnd p s) := by
  unfold execCatchupEnd
  try dsimp only
  with_reducible repeat' (first
    | assumption | exact List.Subset.trans (by decide) hm | apply AnsKeeps.next | apply happen_keeps | apply State.setRw_keeps
    | refine Keeps.of_pair (by assumption) ?_ | intro _)

theorem execReplayOverrun_keeps {p : Port} {s : State} (hk : Keeps cs s₀ s)
    (hm : ([.clerk, .hier, .tally, .rw, .fec] : List Comp) ⊆ cs := by first | decide | (refine List.Subset.trans ?_ ‹_ ⊆ _›; decide)) : AnsKeeps cs s₀ (execReplayOverrun p s) := by
  unfold execReplayOverrun
  try dsimp only
  with_reducible repeat' (first
    | assumption | exact List.Subset.trans (by decide) hm | apply AnsKeeps.next | apply State.setRw_keeps
    | apply State.eraseSpans_keeps | apply State.bump_keeps | apply happen_keeps | apply State.raise_keeps
    | refine Keeps.of_pair (by assumption) ?_ | intro _ | split)

theorem execSpanFinal_keeps {p : Port} {s : State} (hk : Keeps cs s₀ s)
    (hm : ([.clerk, .hier, .tally, .rw, .loom, .flow] : List Comp) ⊆ cs := by first | decide | (refine List.Subset.trans ?_ ‹_ ⊆ _›; decide)) : AnsKeeps cs s₀ (execSpanFinal p s) := by
  unfold execSpanFinal
  try dsimp only
  with_reducible repeat' (first
    | assumption | exact List.Subset.trans (by decide) hm | apply Keeps.ite | apply AnsKeeps.ite | apply AnsKeeps.next
    | apply State.setRw_keeps | apply State.slot_keeps | apply State.tagExit_keeps | apply State.tagEnter_keeps
    | apply State.tagClose_keeps | apply happen_keeps | apply State.moveFramer_keeps | refine Keeps.of_pair (by assumption) ?_
    | intro _ | split)

theorem execErasureSecondExpiry_keeps {s : State} (hk : Keeps cs s₀ s)
    (hm : ([.clerk, .hier, .tally] : List Comp) ⊆ cs := by first | decide | (refine List.Subset.trans ?_ ‹_ ⊆ _›; decide)) : AnsKeeps cs s₀ (execErasureSecondExpiry s) := by
  unfold execErasureSecondExpiry
  try dsimp only
  with_reducible repeat' (first
    | assumption | exact List.Subset.trans (by decide) hm | apply AnsKeeps.next | apply happen_keeps | apply withHier_keeps
    | apply State.refreshHealth_keeps | refine Keeps.hier' (cs := cs) (s₀ := s₀) rfl rfl ?_
    | refine Keeps.of_pair (by assumption) ?_ | intro _)

/-! ### Store.lean -/

theorem tellQueue_keeps {x : List (HeldUnit × Nat) × State} (hk : Keeps cs s₀ x.2)
    (hm : ([.flow] : List Comp) ⊆ cs := by first | decide | (refine List.Subset.trans ?_ ‹_ ⊆ _›; decide)) : Keeps cs s₀ (tellQueue x) :=
  foldl_keeps (fun s w h => State.commitSeg_keeps h) _ hk

theorem State.assignBays_keeps {kind n : Nat} {s : State} (hk : Keeps cs s₀ s)
    (hm : ([.store] : List Comp) ⊆ cs := by first | decide | (refine List.Subset.trans ?_ ‹_ ⊆ _›; decide)) : Keeps cs s₀ (State.assignBays kind n s) := by
  unfold State.assignBays
  try dsimp only
  with_reducible repeat' (first
    | assumption | exact List.Subset.trans (by decide) hm | apply withStore_keeps | apply foldl_keeps
    | refine Keeps.store' (cs := cs) (s₀ := s₀) rfl ?_ | refine Keeps.of_pair (by assumption) ?_ | intro _)

theorem storePartCreateOp_keeps {c : Cmd} (hk : Keeps cs s₀ s)
    (hm : ([.store] : List Comp) ⊆ cs := by first | decide | (refine List.Subset.trans ?_ ‹_ ⊆ _›; decide)) : Keeps cs s₀ (storePartCreateOp.effect c s).2 := by
  unfold storePartCreateOp
  try dsimp only
  with_reducible repeat' (first
    | assumption | exact List.Subset.trans (by decide) hm | apply Keeps.ite | apply Keeps.ite_snd
    | apply State.assignBays_keeps | apply State.setPart_keeps | refine Keeps.of_pair (by assumption) ?_ | intro _ | split)

theorem execStorePartCreate_keeps {c : Cmd} {s : State} (hk : Keeps cs s₀ s)
    (hm : ([.out, .bar0, .clerk, .tally, .store] : List Comp) ⊆ cs := by first | decide | (refine List.Subset.trans ?_ ‹_ ⊆ _›; decide)) : AnsKeeps cs s₀ (execStorePartCreate c s) := by
  unfold execStorePartCreate
  try dsimp only
  with_reducible repeat' (first
    | assumption | exact List.Subset.trans (by decide) hm | apply AnsKeeps.next | apply serve_keeps
    | apply storePartCreateOp_keeps | intro _)

theorem State.mapBays_keeps {kind : Nat} {f : Bay → Bay} {s : State} (hk : Keeps cs s₀ s)
    (hm : ([.store] : List Comp) ⊆ cs := by first | decide | (refine List.Subset.trans ?_ ‹_ ⊆ _›; decide)) : Keeps cs s₀ (State.mapBays kind f s) := by
  unfold State.mapBays
  try dsimp only
  with_reducible repeat' (first
    | assumption | exact List.Subset.trans (by decide) hm | apply withStore_keeps | apply foldl_keeps
    | refine Keeps.store' (cs := cs) (s₀ := s₀) rfl ?_ | refine Keeps.of_pair (by assumption) ?_ | intro _)

theorem storePartResizeOp_keeps {c : Cmd} (hk : Keeps cs s₀ s)
    (hm : ([.free, .clerk, .hier, .tally, .store, .flow] : List Comp) ⊆ cs := by first | decide | (refine List.Subset.trans ?_ ‹_ ⊆ _›; decide)) : Keeps cs s₀ (storePartResizeOp.effect c s).2 := by
  unfold storePartResizeOp
  try dsimp only
  with_reducible repeat' (first
    | assumption | exact List.Subset.trans (by decide) hm | apply Keeps.ite | apply Keeps.ite_snd | apply State.startJob_keeps
    | apply State.assignBays_keeps | apply State.setPart_keeps | apply tellQueue_keeps | apply State.serveWriter_keeps
    | apply State.endJob_keeps | apply withStore_keeps | apply State.refreshFull_keeps | apply foldl_keeps
    | refine Keeps.store' (cs := cs) (s₀ := s₀) rfl ?_ | refine Keeps.of_pair (by assumption) ?_ | intro _ | split)

theorem execStorePartResize_keeps {c : Cmd} {s : State} (hk : Keeps cs s₀ s)
    (hm : ([.free, .out, .bar0, .clerk, .hier, .tally, .store, .flow] : List Comp) ⊆ cs := by first | decide | (refine List.Subset.trans ?_ ‹_ ⊆ _›; decide)) : AnsKeeps cs s₀ (execStorePartResize c s) := by
  unfold execStorePartResize
  try dsimp only
  with_reducible repeat' (first
    | assumption | exact List.Subset.trans (by decide) hm | apply AnsKeeps.next | apply serve_keeps
    | apply storePartResizeOp_keeps | intro _)

theorem State.cancelShrink_keeps {kind : Nat} {s : State} (hk : Keeps cs s₀ s)
    (hm : ([.free, .clerk, .hier, .tally, .store, .flow] : List Comp) ⊆ cs := by first | decide | (refine List.Subset.trans ?_ ‹_ ⊆ _›; decide)) : Keeps cs s₀ (State.cancelShrink kind s) := by
  unfold State.cancelShrink
  try dsimp only
  with_reducible repeat' (first
    | assumption | exact List.Subset.trans (by decide) hm | apply State.mapBays_keeps | apply State.setPart_keeps
    | apply tellQueue_keeps | apply State.serveWriter_keeps | apply State.endJob_keeps
    | refine Keeps.of_pair (by assumption) ?_ | intro _ | split)

theorem storePartDeleteOp_keeps {c : Cmd} (hk : Keeps cs s₀ s)
    (hm : ([.tally, .store] : List Comp) ⊆ cs := by first | decide | (refine List.Subset.trans ?_ ‹_ ⊆ _›; decide)) : Keeps cs s₀ (storePartDeleteOp.effect c s).2 := by
  unfold storePartDeleteOp
  try dsimp only
  with_reducible repeat' (first
    | assumption | exact List.Subset.trans (by decide) hm | apply Keeps.ite | apply Keeps.ite_snd | apply sets_keeps
    | apply State.mapBays_keeps | apply State.bump_keeps | apply withStore_keeps
    | refine Keeps.store' (cs := cs) (s₀ := s₀) rfl ?_ | refine Keeps.of_pair (by assumption) ?_ | intro _ | split)

theorem execStorePartDelete_keeps {c : Cmd} {s : State} (hk : Keeps cs s₀ s)
    (hm : ([.out, .bar0, .clerk, .tally, .store] : List Comp) ⊆ cs := by first | decide | (refine List.Subset.trans ?_ ‹_ ⊆ _›; decide)) : AnsKeeps cs s₀ (execStorePartDelete c s) := by
  unfold execStorePartDelete
  try dsimp only
  with_reducible repeat' (first
    | assumption | exact List.Subset.trans (by decide) hm | apply AnsKeeps.next | apply serve_keeps
    | apply storePartDeleteOp_keeps | intro _)

theorem storePartSetOp_keeps {c : Cmd} (hk : Keeps cs s₀ s)
    (hm : ([.store] : List Comp) ⊆ cs := by first | decide | (refine List.Subset.trans ?_ ‹_ ⊆ _›; decide)) : Keeps cs s₀ (storePartSetOp.effect c s).2 := by
  unfold storePartSetOp
  try dsimp only
  with_reducible repeat' (first
    | assumption | exact List.Subset.trans (by decide) hm | apply Keeps.ite | apply Keeps.ite_snd | apply sets_keeps
    | apply State.setPart_keeps | refine Keeps.of_pair (by assumption) ?_ | intro _ | split)

theorem execStorePartSet_keeps {c : Cmd} {s : State} (hk : Keeps cs s₀ s)
    (hm : ([.out, .bar0, .clerk, .tally, .store] : List Comp) ⊆ cs := by first | decide | (refine List.Subset.trans ?_ ‹_ ⊆ _›; decide)) : AnsKeeps cs s₀ (execStorePartSet c s) := by
  unfold execStorePartSet
  try dsimp only
  with_reducible repeat' (first
    | assumption | exact List.Subset.trans (by decide) hm | apply AnsKeeps.next | apply serve_keeps
    | apply storePartSetOp_keeps | intro _)

theorem storePartStatusOp_keeps {c : Cmd} (hk : Keeps cs s₀ s)
    (hm : ([.store] : List Comp) ⊆ cs := by first | decide | (refine List.Subset.trans ?_ ‹_ ⊆ _›; decide)) : Keeps cs s₀ (storePartStatusOp.effect c s).2 := by
  unfold storePartStatusOp
  try dsimp only
  with_reducible repeat' (first
    | assumption | exact List.Subset.trans (by decide) hm | apply Keeps.ite | apply Keeps.ite_snd | apply State.setPart_keeps
    | refine Keeps.of_pair (by assumption) ?_ | intro _ | split)

theorem execStorePartStatus_keeps {c : Cmd} {s : State} (hk : Keeps cs s₀ s)
    (hm : ([.out, .bar0, .clerk, .tally, .store] : List Comp) ⊆ cs := by first | decide | (refine List.Subset.trans ?_ ‹_ ⊆ _›; decide)) : AnsKeeps cs s₀ (execStorePartStatus c s) := by
  unfold execStorePartStatus
  try dsimp only
  with_reducible repeat' (first
    | assumption | exact List.Subset.trans (by decide) hm | apply AnsKeeps.next | apply serve_keeps
    | apply storePartStatusOp_keeps | intro _)

theorem storeStatusOp_keeps {c : Cmd} (hk : Keeps cs s₀ s)
    (hm : ([.free] : List Comp) ⊆ cs := by first | decide | (refine List.Subset.trans ?_ ‹_ ⊆ _›; decide)) : Keeps cs s₀ (storeStatusOp.effect c s).2 := by
  unfold storeStatusOp
  try dsimp only
  with_reducible repeat' (first
    | assumption | exact List.Subset.trans (by decide) hm | apply Keeps.ite | apply Keeps.ite_snd | apply State.take_keeps
    | refine Keeps.of_pair (by assumption) ?_ | intro _ | split)

theorem execStoreStatus_keeps {c : Cmd} {s : State} (hk : Keeps cs s₀ s)
    (hm : ([.free, .out, .bar0, .clerk, .tally] : List Comp) ⊆ cs := by first | decide | (refine List.Subset.trans ?_ ‹_ ⊆ _›; decide)) : AnsKeeps cs s₀ (execStoreStatus c s) := by
  unfold execStoreStatus
  try dsimp only
  with_reducible repeat' (first
    | assumption | exact List.Subset.trans (by decide) hm | apply AnsKeeps.next | apply serve_keeps
    | apply storeStatusOp_keeps | intro _)

theorem storeCountersOp_keeps {c : Cmd} (hk : Keeps cs s₀ s) : Keeps cs s₀ (storeCountersOp.effect c s).2 := by
  unfold storeCountersOp
  try dsimp only
  with_reducible repeat' (first | assumption | apply reads_keeps | refine Keeps.of_pair (by assumption) ?_ | intro _)

theorem execStoreCounters_keeps {c : Cmd} {s : State} (hk : Keeps cs s₀ s)
    (hm : ([.out, .bar0, .clerk, .tally] : List Comp) ⊆ cs := by first | decide | (refine List.Subset.trans ?_ ‹_ ⊆ _›; decide)) : AnsKeeps cs s₀ (execStoreCounters c s) := by
  unfold execStoreCounters
  try dsimp only
  with_reducible repeat' (first
    | assumption | exact List.Subset.trans (by decide) hm | apply AnsKeeps.next | apply serve_keeps
    | apply storeCountersOp_keeps | intro _)

theorem storeStackRetireOp_keeps {c : Cmd} (hk : Keeps cs s₀ s)
    (hm : ([.free, .clerk, .hier, .tally, .store] : List Comp) ⊆ cs := by first | decide | (refine List.Subset.trans ?_ ‹_ ⊆ _›; decide)) : Keeps cs s₀ (storeStackRetireOp.effect c s).2 := by
  unfold storeStackRetireOp
  try dsimp only
  with_reducible repeat' (first
    | assumption | exact List.Subset.trans (by decide) hm | apply sets_keeps | apply State.loseStack_keeps
    | refine Keeps.of_pair (by assumption) ?_ | intro _)

theorem execStoreStackRetire_keeps {c : Cmd} {s : State} (hk : Keeps cs s₀ s)
    (hm : ([.free, .out, .bar0, .clerk, .hier, .tally, .store] : List Comp) ⊆ cs := by first | decide | (refine List.Subset.trans ?_ ‹_ ⊆ _›; decide)) : AnsKeeps cs s₀ (execStoreStackRetire c s) := by
  unfold execStoreStackRetire
  try dsimp only
  with_reducible repeat' (first
    | assumption | exact List.Subset.trans (by decide) hm | apply AnsKeeps.next | apply serve_keeps
    | apply storeStackRetireOp_keeps | intro _)

theorem storeStackRestoreOp_keeps {c : Cmd} (hk : Keeps cs s₀ s)
    (hm : ([.clerk, .hier, .tally, .store] : List Comp) ⊆ cs := by first | decide | (refine List.Subset.trans ?_ ‹_ ⊆ _›; decide)) : Keeps cs s₀ (storeStackRestoreOp.effect c s).2 := by
  unfold storeStackRestoreOp
  try dsimp only
  with_reducible repeat' (first
    | assumption | exact List.Subset.trans (by decide) hm | apply State.startJob_keeps | apply withStore_keeps
    | apply State.moveStack_keeps | refine Keeps.store' (cs := cs) (s₀ := s₀) rfl ?_ | refine Keeps.of_pair (by assumption) ?_
    | intro _)

theorem execStoreStackRestore_keeps {c : Cmd} {s : State} (hk : Keeps cs s₀ s)
    (hm : ([.out, .bar0, .clerk, .hier, .tally, .store] : List Comp) ⊆ cs := by first | decide | (refine List.Subset.trans ?_ ‹_ ⊆ _›; decide)) : AnsKeeps cs s₀ (execStoreStackRestore c s) := by
  unfold execStoreStackRestore
  try dsimp only
  with_reducible repeat' (first
    | assumption | exact List.Subset.trans (by decide) hm | apply AnsKeeps.next | apply serve_keeps
    | apply storeStackRestoreOp_keeps | intro _)

theorem storeInjectOp_keeps {c : Cmd} (hk : Keeps cs s₀ s)
    (hm : ([.store] : List Comp) ⊆ cs := by first | decide | (refine List.Subset.trans ?_ ‹_ ⊆ _›; decide)) : Keeps cs s₀ (storeInjectOp.effect c s).2 := by
  unfold storeInjectOp
  try dsimp only
  with_reducible repeat' (first
    | assumption | exact List.Subset.trans (by decide) hm | apply sets_keeps | apply withStore_keeps
    | refine Keeps.store' (cs := cs) (s₀ := s₀) rfl ?_ | refine Keeps.of_pair (by assumption) ?_ | intro _)

theorem execStoreInject_keeps {c : Cmd} {s : State} (hk : Keeps cs s₀ s)
    (hm : ([.out, .bar0, .clerk, .tally, .store] : List Comp) ⊆ cs := by first | decide | (refine List.Subset.trans ?_ ‹_ ⊆ _›; decide)) : AnsKeeps cs s₀ (execStoreInject c s) := by
  unfold execStoreInject
  try dsimp only
  with_reducible repeat' (first
    | assumption | exact List.Subset.trans (by decide) hm | apply AnsKeeps.next | apply serve_keeps
    | apply storeInjectOp_keeps | intro _)

theorem State.queueLost_keeps {n : Nat} {s : State} (hk : Keeps cs s₀ s)
    (hm : ([.free, .clerk, .hier, .tally, .store, .flow] : List Comp) ⊆ cs := by first | decide | (refine List.Subset.trans ?_ ‹_ ⊆ _›; decide)) : Keeps cs s₀ (State.queueLost n s) := by
  unfold State.queueLost
  try dsimp only
  with_reducible repeat' (first
    | assumption | exact List.Subset.trans (by decide) hm | apply State.dropQueue_keeps
    | refine Keeps.of_pair (by assumption) ?_ | intro _ | split)

theorem State.recordsLost_keeps {n : Nat} {s : State} (hk : Keeps cs s₀ s)
    (hm : ([.free, .clerk, .hier, .tally, .store, .flow] : List Comp) ⊆ cs := by first | decide | (refine List.Subset.trans ?_ ‹_ ⊆ _›; decide)) : Keeps cs s₀ (State.recordsLost n s) := by
  unfold State.recordsLost
  try dsimp only
  with_reducible repeat' (first
    | assumption | exact List.Subset.trans (by decide) hm | apply Keeps.ite | apply State.loseRecord_keeps | apply foldl_keeps
    | refine Keeps.of_pair (by assumption) ?_ | intro _ | split)

theorem State.sweepStripe_keeps {w : Sweep} {n : Nat} {bad : List Nat} {s : State} (hk : Keeps cs s₀ s)
    (hm : ([.clerk, .hier, .tally, .store] : List Comp) ⊆ cs := by first | decide | (refine List.Subset.trans ?_ ‹_ ⊆ _›; decide)) : Keeps cs s₀ (State.sweepStripe w n bad s) := by
  unfold State.sweepStripe
  try dsimp only
  with_reducible repeat' (first
    | assumption | exact List.Subset.trans (by decide) hm | apply Keeps.ite | apply State.bump_keeps
    | apply State.granted_keeps | apply State.judgeStripe_keeps | apply withHier_keeps
    | refine Keeps.hier' (cs := cs) (s₀ := s₀) rfl rfl ?_ | refine Keeps.of_pair (by assumption) ?_ | intro _ | split)

theorem execStripeRead_keeps {kind : Fin 5} {n : Nat} {bad : List Nat} {s : State} (hk : Keeps cs s₀ s)
    (hm : ([.free, .clerk, .hier, .tally, .crier, .store, .flow] : List Comp) ⊆ cs := by first | decide | (refine List.Subset.trans ?_ ‹_ ⊆ _›; decide)) : AnsKeeps cs s₀ (execStripeRead kind n bad s) := by
  unfold execStripeRead
  try dsimp only
  with_reducible repeat' (first
    | assumption | exact List.Subset.trans (by decide) hm | apply Keeps.ite | apply AnsKeeps.ite | apply AnsKeeps.next
    | exact AnsKeeps.fault | apply happen_keeps | apply State.sweepStripe_keeps | apply State.readStripe_keeps
    | apply State.queueLost_keeps | apply State.recordsLost_keeps | apply State.tableLost_keeps
    | refine Keeps.of_pair (by assumption) ?_ | intro _ | split)

theorem execStripeWrite_keeps {kind : Fin 5} {n : Nat} {p : Port} {tick : Nat} {data : List Byte} {s : State}
    (hk : Keeps cs s₀ s)
    (hm : ([.free, .clerk, .hier, .tally, .loom, .crier, .store] : List Comp) ⊆ cs := by first | decide | (refine List.Subset.trans ?_ ‹_ ⊆ _›; decide)) : AnsKeeps cs s₀ (execStripeWrite kind n p tick data s) := by
  unfold execStripeWrite
  try dsimp only
  with_reducible repeat' (first
    | assumption | exact List.Subset.trans (by decide) hm | apply Keeps.ite | apply AnsKeeps.ite | apply AnsKeeps.next
    | exact AnsKeeps.fault | apply happen_keeps | apply State.bump_keeps | apply State.unitIn_keeps
    | apply State.dropSkew_keeps | apply State.granted_keeps | apply State.writeStripe_keeps | apply State.tableWritten_keeps
    | refine Keeps.of_pair (by assumption) ?_ | intro _ | split)

theorem execReadMergeWrite_keeps {kind : Fin 5} {n : Nat} {cell : Fin 3} {data : List Byte} {bad : List Nat} {s : State}
    (hk : Keeps cs s₀ s)
    (hm : ([.free, .clerk, .hier, .tally, .crier, .store, .flow] : List Comp) ⊆ cs := by first | decide | (refine List.Subset.trans ?_ ‹_ ⊆ _›; decide)) : AnsKeeps cs s₀ (execReadMergeWrite kind n cell data bad s) := by
  unfold execReadMergeWrite
  try dsimp only
  with_reducible repeat' (first
    | assumption | exact List.Subset.trans (by decide) hm | apply Keeps.ite | apply AnsKeeps.ite | apply AnsKeeps.next
    | exact AnsKeeps.fault | apply State.mergeStripe_keeps | apply happen_keeps | apply State.loseZeroed_keeps
    | apply State.tableLost_keeps | apply State.tableWritten_keeps | refine Keeps.of_pair (by assumption) ?_ | intro _ | split)

theorem execCellWriteBack_keeps {s : State} (hk : Keeps cs s₀ s)
    (hm : ([.store] : List Comp) ⊆ cs := by first | decide | (refine List.Subset.trans ?_ ‹_ ⊆ _›; decide)) : AnsKeeps cs s₀ (execCellWriteBack s) := by
  unfold execCellWriteBack
  try dsimp only
  with_reducible repeat' (first
    | assumption | exact List.Subset.trans (by decide) hm | apply Keeps.ite | apply AnsKeeps.ite | apply AnsKeeps.next
    | apply withStore_keeps | apply happen_keeps | apply Store.remake_keeps | refine Keeps.store' (cs := cs) (s₀ := s₀) rfl ?_
    | refine Keeps.store' (cs := cs) (s₀ := s₀) rfl ?_ (by assumption) | refine Keeps.of_pair (by assumption) ?_ | intro _
    | split)

theorem execHoldLimitExpiry_keeps {kind : Fin 5} {s : State} (hk : Keeps cs s₀ s)
    (hm : ([.free, .clerk, .hier, .tally, .loom, .store, .flow] : List Comp) ⊆ cs := by first | decide | (refine List.Subset.trans ?_ ‹_ ⊆ _›; decide)) : AnsKeeps cs s₀ (execHoldLimitExpiry kind s) := by
  unfold execHoldLimitExpiry
  try dsimp only
  with_reducible repeat' (first
    | assumption | exact List.Subset.trans (by decide) hm | apply Keeps.ite | apply AnsKeeps.ite | apply AnsKeeps.next
    | apply State.setPart_keeps | apply State.bump_keeps | apply happen_keeps | apply State.dropSkew_keeps
    | apply State.dropSeg_keeps | apply foldl_keeps | refine Keeps.of_pair (by assumption) ?_ | intro _ | split)

theorem execStripeFree_keeps {kind : Fin 5} {n : Nat} {s : State} (hk : Keeps cs s₀ s)
    (hm : ([.free, .clerk, .hier, .tally, .store] : List Comp) ⊆ cs := by first | decide | (refine List.Subset.trans ?_ ‹_ ⊆ _›; decide)) : AnsKeeps cs s₀ (execStripeFree kind n s) := by
  unfold execStripeFree
  try dsimp only
  with_reducible repeat' (first
    | assumption | exact List.Subset.trans (by decide) hm | apply Keeps.ite | apply AnsKeeps.ite | apply AnsKeeps.next
    | exact AnsKeeps.fault | apply happen_keeps | apply State.freeStripe_keeps | refine Keeps.of_pair (by assumption) ?_
    | intro _ | split)

theorem execStackInterfaceFault_keeps {k : Fin 4} {s : State} (hk : Keeps cs s₀ s)
    (hm : ([.clerk, .hier, .tally, .store] : List Comp) ⊆ cs := by first | decide | (refine List.Subset.trans ?_ ‹_ ⊆ _›; decide)) : AnsKeeps cs s₀ (execStackInterfaceFault k s) := by
  unfold execStackInterfaceFault
  try dsimp only
  with_reducible repeat' (first
    | assumption | exact List.Subset.trans (by decide) hm | apply AnsKeeps.next | apply happen_keeps
    | apply State.moveStack_keeps | apply withStore_keeps | refine Keeps.store' (cs := cs) (s₀ := s₀) rfl ?_
    | refine Keeps.of_pair (by assumption) ?_ | intro _ | split)

theorem execTrainingDone_keeps {k : Fin 4} {s : State} (hk : Keeps cs s₀ s)
    (hm : ([.clerk, .hier, .tally, .store] : List Comp) ⊆ cs := by first | decide | (refine List.Subset.trans ?_ ‹_ ⊆ _›; decide)) : AnsKeeps cs s₀ (execTrainingDone k s) := by
  unfold execTrainingDone
  dsimp only
  refine happen_keeps hk fun _ => ?_
  refine State.moveStack_keeps ?_
  refine State.bump_keeps (withStore_keeps hk ?_)
  exact fun j => foldl_store (fun st n h => Store.remake_keeps h) _ (hk.store j)

theorem execTrainingTimeout_keeps {k : Fin 4} {s : State} (hk : Keeps cs s₀ s)
    (hm : ([.free, .clerk, .hier, .tally, .store] : List Comp) ⊆ cs := by first | decide | (refine List.Subset.trans ?_ ‹_ ⊆ _›; decide)) : AnsKeeps cs s₀ (execTrainingTimeout k s) := by
  unfold execTrainingTimeout
  try dsimp only
  with_reducible repeat' (first
    | assumption | exact List.Subset.trans (by decide) hm | apply AnsKeeps.next | apply happen_keeps
    | apply State.loseStack_keeps | refine Keeps.of_pair (by assumption) ?_ | intro _)

theorem execCrcRateLoss_keeps {k : Fin 4} {s : State} (hk : Keeps cs s₀ s)
    (hm : ([.free, .clerk, .hier, .tally, .store] : List Comp) ⊆ cs := by first | decide | (refine List.Subset.trans ?_ ‹_ ⊆ _›; decide)) : AnsKeeps cs s₀ (execCrcRateLoss k s) := by
  unfold execCrcRateLoss
  try dsimp only
  with_reducible repeat' (first
    | assumption | exact List.Subset.trans (by decide) hm | apply Keeps.ite | apply AnsKeeps.ite | apply AnsKeeps.next
    | apply happen_keeps | apply State.endRestore_keeps | apply State.loseStack_keeps
    | refine Keeps.of_pair (by assumption) ?_ | intro _ | split)

theorem execRestoreTrainDone_keeps {ok : Bool} {s : State} (hk : Keeps cs s₀ s)
    (hm : ([.free, .clerk, .hier, .tally, .store] : List Comp) ⊆ cs := by first | decide | (refine List.Subset.trans ?_ ‹_ ⊆ _›; decide)) : AnsKeeps cs s₀ (execRestoreTrainDone ok s) := by
  unfold execRestoreTrainDone
  try dsimp only
  with_reducible repeat' (first
    | assumption | exact List.Subset.trans (by decide) hm | apply Keeps.ite | apply AnsKeeps.ite | apply AnsKeeps.next
    | apply happen_keeps | apply withStore_keeps | apply State.endRestore_keeps
    | refine Keeps.store' (cs := cs) (s₀ := s₀) rfl ?_ | refine Keeps.of_pair (by assumption) ?_ | intro _ | split)

theorem execRestoreTestDone_keeps {failures : Nat} {s : State} (hk : Keeps cs s₀ s)
    (hm : ([.free, .clerk, .hier, .tally, .store] : List Comp) ⊆ cs := by first | decide | (refine List.Subset.trans ?_ ‹_ ⊆ _›; decide)) : AnsKeeps cs s₀ (execRestoreTestDone failures s) := by
  unfold execRestoreTestDone
  dsimp only
  split
  · exact AnsKeeps.next hk
  · refine happen_keeps hk fun _ => ?_
    split
    · refine withStore_keeps (withStore_keeps hk hk.store) ?_
      exact fun j => foldl_store (fun st n h => Store.remake_keeps h) _ (hk.store j)
    · exact State.endRestore_keeps (withStore_keeps hk hk.store)

theorem execRestoreRebuildDone_keeps {s : State} (hk : Keeps cs s₀ s)
    (hm : ([.free, .clerk, .hier, .tally, .store] : List Comp) ⊆ cs := by first | decide | (refine List.Subset.trans ?_ ‹_ ⊆ _›; decide)) : AnsKeeps cs s₀ (execRestoreRebuildDone s) := by
  unfold execRestoreRebuildDone
  try dsimp only
  with_reducible repeat' (first
    | assumption | exact List.Subset.trans (by decide) hm | apply AnsKeeps.next | apply happen_keeps
    | apply State.endRestore_keeps | refine Keeps.of_pair (by assumption) ?_ | intro _ | split)

theorem execShrinkDrainDone_keeps {kind : Fin 5} {s : State} (hk : Keeps cs s₀ s)
    (hm : ([.clerk, .hier, .tally, .store] : List Comp) ⊆ cs := by first | decide | (refine List.Subset.trans ?_ ‹_ ⊆ _›; decide)) : AnsKeeps cs s₀ (execShrinkDrainDone kind s) := by
  unfold execShrinkDrainDone
  try dsimp only
  with_reducible repeat' (first
    | assumption | exact List.Subset.trans (by decide) hm | apply Keeps.ite | apply AnsKeeps.ite | apply AnsKeeps.next
    | apply State.mapBays_keeps | apply State.setPart_keeps | apply happen_keeps | apply State.refreshFull_keeps
    | apply State.endJob_keeps | refine Keeps.of_pair (by assumption) ?_ | intro _ | split)

end Sys2Proof.Machine
end

