-- ==== Sys2Proof/Laws/KeepsService.lean ====
section
/-!
SUPPORT. What is kept by: diagnosis, in-service change, boot.
-/

set_option Elab.async false
set_option linter.all false

namespace Sys2Proof.Machine

variable {cs : List Comp} {s₀ s t : State}

/-! ### Diag.lean -/

theorem State.updSram_keeps {ha : Nat} {f : Sram → Sram} {s : State} (hk : Keeps cs s₀ s)
    (hm : ([.hier] : List Comp) ⊆ cs := by first | decide | (refine List.Subset.trans ?_ ‹_ ⊆ _›; decide)) : Keeps cs s₀ (State.updSram ha f s) := by
  unfold State.updSram
  try dsimp only
  with_reducible repeat' (first
    | assumption | exact List.Subset.trans (by decide) hm | apply withHier_keeps
    | refine Keeps.hier' (cs := cs) (s₀ := s₀) rfl rfl ?_ | intro _)

theorem State.addDamage_keeps {d : Damage} {s : State} (hk : Keeps cs s₀ s)
    (hm : ([.damage] : List Comp) ⊆ cs := by first | decide | (refine List.Subset.trans ?_ ‹_ ⊆ _›; decide)) : Keeps cs s₀ (State.addDamage d s) := by
  unfold State.addDamage
  try dsimp only
  with_reducible repeat' (first
    | assumption | exact List.Subset.trans (by decide) hm | apply withDamage_keeps | refine Keeps.of_pair (by assumption) ?_
    | intro _)

theorem State.loseEntry_keeps {c : Content} {ha addr : Nat} {s : State} (hk : Keeps cs s₀ s)
    (hm : ([.loom, .ra, .flow, .lanes, .timing, .assay, .damage] : List Comp) ⊆ cs := by first | decide | (refine List.Subset.trans ?_ ‹_ ⊆ _›; decide)) : Keeps cs s₀ (State.loseEntry c ha addr s) := by
  unfold State.loseEntry
  try dsimp only
  with_reducible repeat' (first
    | assumption | exact List.Subset.trans (by decide) hm | apply Keeps.ite | apply withFlow_keeps
    | apply State.addDamage_keeps | apply withLanes_keeps | apply withLoom_keeps | apply withRa_keeps
    | apply State.updDpll_keeps | apply withAssay_keeps | refine Keeps.of_pair (by assumption) ?_ | intro _ | split)

theorem State.restore_keeps {d : Damage} {s : State} (hk : Keeps cs s₀ s)
    (hm : ([.loom, .ra, .flow, .lanes, .timing, .assay] : List Comp) ⊆ cs := by first | decide | (refine List.Subset.trans ?_ ‹_ ⊆ _›; decide)) : Keeps cs s₀ (State.restore d s) := by
  unfold State.restore
  try dsimp only
  with_reducible repeat' (first
    | assumption | exact List.Subset.trans (by decide) hm | apply Keeps.ite | apply withFlow_keeps | apply withLanes_keeps
    | apply withLoom_keeps | apply withRa_keeps | apply State.updDpll_keeps | apply withAssay_keeps
    | refine Keeps.of_pair (by assumption) ?_ | intro _ | split)

theorem State.loseContent_keeps {c : Content} {ha addr : Nat} {s : State} (hk : Keeps cs s₀ s)
    (hm : ([.free, .clerk, .hier, .tally, .serv, .rw, .fec, .loom, .ra, .crier, .store, .flow, .lanes, .timing, .assay, .damage] : List Comp) ⊆ cs := by first | decide | (refine List.Subset.trans ?_ ‹_ ⊆ _›; decide)) : Keeps cs s₀ (State.loseContent c ha addr s) := by
  unfold State.loseContent
  try dsimp only
  with_reducible repeat' (first
    | assumption | exact List.Subset.trans (by decide) hm | apply Keeps.ite | apply State.messageWord_keeps
    | apply withFlow_keeps | apply State.dropSeg_keeps | apply State.updFi_keeps | apply State.txDropped_keeps
    | apply State.egressDrop_keeps | apply State.take_keeps | apply State.coreFaulted_keeps | apply State.updCr_keeps
    | apply State.crReject_keeps | apply State.loseEntry_keeps | refine Keeps.of_pair (by assumption) ?_ | intro _ | split)

theorem State.updSweep_keeps {f : Sweep → Sweep} {s : State} (hk : Keeps cs s₀ s)
    (hm : ([.hier] : List Comp) ⊆ cs := by first | decide | (refine List.Subset.trans ?_ ‹_ ⊆ _›; decide)) : Keeps cs s₀ (State.updSweep f s) := by
  unfold State.updSweep
  try dsimp only
  with_reducible repeat' (first
    | assumption | exact List.Subset.trans (by decide) hm | apply withHier_keeps
    | refine Keeps.hier' (cs := cs) (s₀ := s₀) rfl rfl ?_ | intro _)

theorem State.corrected_keeps {ha addr : Nat} {injected again sweep : Bool} {s : State} (hk : Keeps cs s₀ s)
    (hm : ([.clerk, .hier, .tally] : List Comp) ⊆ cs := by first | decide | (refine List.Subset.trans ?_ ‹_ ⊆ _›; decide)) : Keeps cs s₀ (State.corrected ha addr injected again sweep s) := by
  unfold State.corrected
  try dsimp only
  with_reducible repeat' (first
    | assumption | exact List.Subset.trans (by decide) hm | apply Keeps.ite | apply State.updSram_keeps
    | apply State.bump_keeps | apply State.updSweep_keeps | apply State.raiseLimited_keeps
    | refine Keeps.of_pair (by assumption) ?_ | intro _ | split)

theorem State.uncorrected_keeps {ha addr : Nat} {c : Content} {sweep : Bool} {s : State} (hk : Keeps cs s₀ s)
    (hm : ([.free, .clerk, .hier, .tally, .serv, .rw, .fec, .loom, .ra, .crier, .store, .flow, .lanes, .timing, .assay, .damage] : List Comp) ⊆ cs := by first | decide | (refine List.Subset.trans ?_ ‹_ ⊆ _›; decide)) : Keeps cs s₀ (State.uncorrected ha addr c sweep s) := by
  unfold State.uncorrected
  try dsimp only
  with_reducible repeat' (first
    | assumption | exact List.Subset.trans (by decide) hm | apply Keeps.ite | apply State.updSram_keeps
    | apply State.uncorrectable_keeps | apply State.bump_keeps | apply State.raiseAtMost_keeps | apply State.updSweep_keeps
    | apply State.loseContent_keeps | refine Keeps.of_pair (by assumption) ?_ | intro _ | split)

theorem execSramRead_keeps {cell : BitVec 20} {addr : Nat} {written : Bool} {errors : Fin 3} {again : Bool} {what : Content} {sweep : Bool} {s : State}
    (hk : Keeps cs s₀ s)
    (hm : ([.free, .clerk, .hier, .tally, .serv, .rw, .fec, .loom, .ra, .crier, .store, .flow, .lanes, .timing, .assay, .damage] : List Comp) ⊆ cs := by first | decide | (refine List.Subset.trans ?_ ‹_ ⊆ _›; decide)) : AnsKeeps cs s₀ (execSramRead cell addr written errors again what sweep s) := by
  unfold execSramRead
  try dsimp only
  with_reducible repeat' (first
    | assumption | exact List.Subset.trans (by decide) hm | apply Keeps.ite | apply AnsKeeps.ite | apply AnsKeeps.next
    | exact AnsKeeps.fault | apply withHier_keeps | apply State.updSweep_keeps | apply happen_keeps
    | apply State.updSram_keeps | apply State.bump_keeps | apply State.corrected_keeps | apply State.refreshHealth_keeps
    | apply State.uncorrected_keeps | refine Keeps.hier' (cs := cs) (s₀ := s₀) rfl rfl ?_
    | refine Keeps.of_pair (by assumption) ?_ | intro _ | split)

theorem execConfigRestore_keeps {s : State} (hk : Keeps cs s₀ s)
    (hm : ([.loom, .ra, .flow, .lanes, .timing, .assay, .damage] : List Comp) ⊆ cs := by first | decide | (refine List.Subset.trans ?_ ‹_ ⊆ _›; decide)) : AnsKeeps cs s₀ (execConfigRestore s) := by
  unfold execConfigRestore
  try dsimp only
  with_reducible repeat' (first
    | assumption | exact List.Subset.trans (by decide) hm | apply AnsKeeps.next | apply happen_keeps | apply withDamage_keeps
    | apply State.restore_keeps | refine Keeps.of_pair (by assumption) ?_ | intro _ | split)

theorem State.endSweep_keeps {store : Bool} {status : Nat} {s : State} (hk : Keeps cs s₀ s)
    (hm : ([.free, .clerk, .hier, .tally] : List Comp) ⊆ cs := by first | decide | (refine List.Subset.trans ?_ ‹_ ⊆ _›; decide)) : Keeps cs s₀ (State.endSweep store status s) := by
  unfold State.endSweep
  try dsimp only
  with_reducible repeat' (first
    | assumption | exact List.Subset.trans (by decide) hm | apply Keeps.ite | apply State.take_keeps | apply withHier_keeps
    | apply State.endJob_keeps | refine Keeps.hier' (cs := cs) (s₀ := s₀) rfl rfl ?_
    | refine Keeps.hier' (cs := cs) (s₀ := s₀) rfl rfl ?_ (by assumption) | refine Keeps.of_pair (by assumption) ?_ | intro _
    | split)

theorem execSweepEnd_keeps {store : Bool} {s : State} (hk : Keeps cs s₀ s)
    (hm : ([.free, .clerk, .hier, .tally] : List Comp) ⊆ cs := by first | decide | (refine List.Subset.trans ?_ ‹_ ⊆ _›; decide)) : AnsKeeps cs s₀ (execSweepEnd store s) := by
  unfold execSweepEnd
  try dsimp only
  with_reducible repeat' (first
    | assumption | exact List.Subset.trans (by decide) hm | apply Keeps.ite | apply AnsKeeps.ite | apply AnsKeeps.next
    | apply happen_keeps | apply State.endSweep_keeps | apply State.updSweep_keeps | refine Keeps.of_pair (by assumption) ?_
    | intro _ | split)

theorem diagFaultStatusOp_keeps {c : Cmd} (hk : Keeps cs s₀ s) : Keeps cs s₀ (diagFaultStatusOp.effect c s).2 := by
  unfold diagFaultStatusOp
  try dsimp only
  with_reducible repeat' (first | assumption | apply reads_keeps | intro _)

theorem execDiagFaultStatus_keeps {c : Cmd} {s : State} (hk : Keeps cs s₀ s)
    (hm : ([.out, .bar0, .clerk, .tally] : List Comp) ⊆ cs := by first | decide | (refine List.Subset.trans ?_ ‹_ ⊆ _›; decide)) : AnsKeeps cs s₀ (execDiagFaultStatus c s) := by
  unfold execDiagFaultStatus
  try dsimp only
  with_reducible repeat' (first
    | assumption | exact List.Subset.trans (by decide) hm | apply AnsKeeps.next | apply serve_keeps
    | apply diagFaultStatusOp_keeps | intro _)

theorem diagFaultLogReadOp_keeps {c : Cmd} (hk : Keeps cs s₀ s) : Keeps cs s₀ (diagFaultLogReadOp.effect c s).2 := by
  unfold diagFaultLogReadOp
  try dsimp only
  with_reducible repeat' (first | assumption | apply reads_keeps | refine Keeps.of_pair (by assumption) ?_ | intro _)

theorem execDiagFaultLogRead_keeps {c : Cmd} {s : State} (hk : Keeps cs s₀ s)
    (hm : ([.out, .bar0, .clerk, .tally] : List Comp) ⊆ cs := by first | decide | (refine List.Subset.trans ?_ ‹_ ⊆ _›; decide)) : AnsKeeps cs s₀ (execDiagFaultLogRead c s) := by
  unfold execDiagFaultLogRead
  try dsimp only
  with_reducible repeat' (first
    | assumption | exact List.Subset.trans (by decide) hm | apply AnsKeeps.next | apply serve_keeps
    | apply diagFaultLogReadOp_keeps | intro _)

theorem diagSramCountersOp_keeps {c : Cmd} (hk : Keeps cs s₀ s) : Keeps cs s₀ (diagSramCountersOp.effect c s).2 := by
  unfold diagSramCountersOp
  try dsimp only
  with_reducible repeat' (first | assumption | apply reads_keeps | refine Keeps.of_pair (by assumption) ?_ | intro _)

theorem execDiagSramCounters_keeps {c : Cmd} {s : State} (hk : Keeps cs s₀ s)
    (hm : ([.out, .bar0, .clerk, .tally] : List Comp) ⊆ cs := by first | decide | (refine List.Subset.trans ?_ ‹_ ⊆ _›; decide)) : AnsKeeps cs s₀ (execDiagSramCounters c s) := by
  unfold execDiagSramCounters
  try dsimp only
  with_reducible repeat' (first
    | assumption | exact List.Subset.trans (by decide) hm | apply AnsKeeps.next | apply serve_keeps
    | apply diagSramCountersOp_keeps | intro _)

theorem diagSweepRunOp_keeps {c : Cmd} (hk : Keeps cs s₀ s)
    (hm : ([.clerk, .hier] : List Comp) ⊆ cs := by first | decide | (refine List.Subset.trans ?_ ‹_ ⊆ _›; decide)) : Keeps cs s₀ (diagSweepRunOp.effect c s).2 := by
  unfold diagSweepRunOp
  try dsimp only
  with_reducible repeat' (first
    | assumption | exact List.Subset.trans (by decide) hm | apply Keeps.ite | apply Keeps.ite_snd | apply State.startJob_keeps
    | apply withHier_keeps | refine Keeps.hier' (cs := cs) (s₀ := s₀) rfl rfl ?_
    | refine Keeps.hier' (cs := cs) (s₀ := s₀) rfl rfl ?_ (by assumption) | refine Keeps.of_pair (by assumption) ?_ | intro _
    | split)

theorem execDiagSweepRun_keeps {c : Cmd} {s : State} (hk : Keeps cs s₀ s)
    (hm : ([.out, .bar0, .clerk, .hier, .tally] : List Comp) ⊆ cs := by first | decide | (refine List.Subset.trans ?_ ‹_ ⊆ _›; decide)) : AnsKeeps cs s₀ (execDiagSweepRun c s) := by
  unfold execDiagSweepRun
  try dsimp only
  with_reducible repeat' (first
    | assumption | exact List.Subset.trans (by decide) hm | apply AnsKeeps.next | apply serve_keeps
    | apply diagSweepRunOp_keeps | intro _)

theorem diagInjectOp_keeps {c : Cmd} (hk : Keeps cs s₀ s)
    (hm : ([.clerk, .hier, .tally] : List Comp) ⊆ cs := by first | decide | (refine List.Subset.trans ?_ ‹_ ⊆ _›; decide)) : Keeps cs s₀ (diagInjectOp.effect c s).2 := by
  unfold diagInjectOp
  try dsimp only
  with_reducible repeat' (first
    | assumption | exact List.Subset.trans (by decide) hm | apply Keeps.ite | apply Keeps.ite_snd | apply sets_keeps
    | apply State.swapPairs_keeps | apply State.refreshHealth_keeps | apply withHier_keeps
    | refine Keeps.hier' (cs := cs) (s₀ := s₀) rfl rfl ?_ | refine Keeps.of_pair (by assumption) ?_ | intro _ | split)

theorem execDiagInject_keeps {c : Cmd} {s : State} (hk : Keeps cs s₀ s)
    (hm : ([.out, .bar0, .clerk, .hier, .tally] : List Comp) ⊆ cs := by first | decide | (refine List.Subset.trans ?_ ‹_ ⊆ _›; decide)) : AnsKeeps cs s₀ (execDiagInject c s) := by
  unfold execDiagInject
  try dsimp only
  with_reducible repeat' (first
    | assumption | exact List.Subset.trans (by decide) hm | apply AnsKeeps.next | apply serve_keeps | apply diagInjectOp_keeps
    | intro _)

/-! ### Service.lean -/

theorem State.setSlot_keeps {k : Nat} {ws : List Word} {s : State} (hk : Keeps cs s₀ s)
    (hm : ([.serv] : List Comp) ⊆ cs := by first | decide | (refine List.Subset.trans ?_ ‹_ ⊆ _›; decide)) : Keeps cs s₀ (State.setSlot k ws s) := by
  unfold State.setSlot
  try dsimp only
  with_reducible repeat' (first
    | assumption | exact List.Subset.trans (by decide) hm | apply Keeps.ite | apply withServ_keeps
    | refine Keeps.of_pair (by assumption) ?_ | intro _ | split)

theorem State.setVerified_keeps {v : Option ImageInfo} {s : State} (hk : Keeps cs s₀ s)
    (hm : ([.hall, .serv] : List Comp) ⊆ cs := by first | decide | (refine List.Subset.trans ?_ ‹_ ⊆ _›; decide)) : Keeps cs s₀ (State.setVerified v s) := by
  unfold State.setVerified
  try dsimp only
  with_reducible repeat' (first
    | assumption | exact List.Subset.trans (by decide) hm | apply Keeps.ite | apply withServ_keeps
    | apply State.measureSvn_keeps | refine Keeps.of_pair (by assumption) ?_ | intro _ | split)

theorem serviceImageLoadOp_keeps {c : Cmd} (hk : Keeps cs s₀ s)
    (hm : ([.hall, .serv] : List Comp) ⊆ cs := by first | decide | (refine List.Subset.trans ?_ ‹_ ⊆ _›; decide)) : Keeps cs s₀ (serviceImageLoadOp.effect c s).2 := by
  unfold serviceImageLoadOp
  try dsimp only
  with_reducible repeat' (first
    | assumption | exact List.Subset.trans (by decide) hm | apply Keeps.ite | apply Keeps.ite_snd | apply sets_keeps
    | apply State.setSlot_keeps | apply State.setVerified_keeps | refine Keeps.of_pair (by assumption) ?_ | intro _ | split)

theorem execServiceImageLoad_keeps {c : Cmd} {s : State} (hk : Keeps cs s₀ s)
    (hm : ([.out, .bar0, .clerk, .tally, .hall, .serv] : List Comp) ⊆ cs := by first | decide | (refine List.Subset.trans ?_ ‹_ ⊆ _›; decide)) : AnsKeeps cs s₀ (execServiceImageLoad c s) := by
  unfold execServiceImageLoad
  try dsimp only
  with_reducible repeat' (first
    | assumption | exact List.Subset.trans (by decide) hm | apply AnsKeeps.next | apply serve_keeps
    | apply serviceImageLoadOp_keeps | intro _)

theorem serviceImageVerifyOp_keeps {c : Cmd} (hk : Keeps cs s₀ s)
    (hm : ([.clerk] : List Comp) ⊆ cs := by first | decide | (refine List.Subset.trans ?_ ‹_ ⊆ _›; decide)) : Keeps cs s₀ (serviceImageVerifyOp.effect c s).2 := by
  unfold serviceImageVerifyOp
  try dsimp only
  with_reducible repeat' (first
    | assumption | exact List.Subset.trans (by decide) hm | apply State.startJob_keeps
    | refine Keeps.of_pair (by assumption) ?_ | intro _)

theorem execServiceImageVerify_keeps {c : Cmd} {s : State} (hk : Keeps cs s₀ s)
    (hm : ([.out, .bar0, .clerk, .tally] : List Comp) ⊆ cs := by first | decide | (refine List.Subset.trans ?_ ‹_ ⊆ _›; decide)) : AnsKeeps cs s₀ (execServiceImageVerify c s) := by
  unfold execServiceImageVerify
  try dsimp only
  with_reducible repeat' (first
    | assumption | exact List.Subset.trans (by decide) hm | apply AnsKeeps.next | apply serve_keeps
    | apply serviceImageVerifyOp_keeps | intro _)

theorem execVerifyDone_keeps {readError : Bool} {outside : List Word} {s : State} (hk : Keeps cs s₀ s)
    (hm : ([.clerk, .hier, .tally, .hall, .serv] : List Comp) ⊆ cs := by first | decide | (refine List.Subset.trans ?_ ‹_ ⊆ _›; decide)) : AnsKeeps cs s₀ (execVerifyDone readError outside s) := by
  unfold execVerifyDone
  try dsimp only
  with_reducible repeat' (first
    | assumption | exact List.Subset.trans (by decide) hm | apply Keeps.ite | apply AnsKeeps.ite | apply AnsKeeps.next
    | apply State.slot_keeps | apply State.extend_keeps | apply State.setVerified_keeps | apply State.endJob_keeps
    | apply happen_keeps | apply State.imageRejected_keeps | refine Keeps.of_pair (by assumption) ?_ | intro _ | split)

theorem State.beginStep_keeps {c : Change} {s : State} (hk : Keeps cs s₀ s)
    (hm : ([.serv] : List Comp) ⊆ cs := by first | decide | (refine List.Subset.trans ?_ ‹_ ⊆ _›; decide)) : Keeps cs s₀ (State.beginStep c s) := by
  unfold State.beginStep
  try dsimp only
  with_reducible repeat' (first
    | assumption | exact List.Subset.trans (by decide) hm | apply Keeps.ite | apply State.setChange_keeps | intro _ | split)

theorem State.beginPass_keeps {c : Change} {s : State} (hk : Keeps cs s₀ s)
    (hm : ([.clerk, .hier, .tally, .serv] : List Comp) ⊆ cs := by first | decide | (refine List.Subset.trans ?_ ‹_ ⊆ _›; decide)) : Keeps cs s₀ (State.beginPass c s) := by
  unfold State.beginPass
  try dsimp only
  with_reducible repeat' (first
    | assumption | exact List.Subset.trans (by decide) hm | apply State.setChange_keeps | apply State.finishChange_keeps
    | apply State.setBlock_keeps | refine Keeps.of_pair (by assumption) ?_ | intro _ | split)

theorem State.startChange_keeps {c : Cmd} {s : State} (hk : Keeps cs s₀ s)
    (hm : ([.clerk, .hier, .tally, .serv] : List Comp) ⊆ cs := by first | decide | (refine List.Subset.trans ?_ ‹_ ⊆ _›; decide)) : Keeps cs s₀ (State.startChange c s) := by
  unfold State.startChange
  try dsimp only
  with_reducible repeat' (first
    | assumption | exact List.Subset.trans (by decide) hm | apply Keeps.ite | apply State.startJob_keeps
    | apply withServ_keeps | apply State.beginStep_keeps | apply State.beginPass_keeps | apply State.setBlock_keeps
    | refine Keeps.of_pair (by assumption) ?_ | intro _ | split)

theorem serviceChangeOp_keeps {c : Cmd} (hk : Keeps cs s₀ s)
    (hm : ([.clerk, .hier, .tally, .serv] : List Comp) ⊆ cs := by first | decide | (refine List.Subset.trans ?_ ‹_ ⊆ _›; decide)) : Keeps cs s₀ (serviceChangeOp.effect c s).2 := by
  unfold serviceChangeOp
  try dsimp only
  with_reducible repeat' (first
    | assumption | exact List.Subset.trans (by decide) hm | apply State.startChange_keeps
    | refine Keeps.of_pair (by assumption) ?_ | intro _)

theorem execServiceChange_keeps {c : Cmd} {s : State} (hk : Keeps cs s₀ s)
    (hm : ([.out, .bar0, .clerk, .hier, .tally, .serv] : List Comp) ⊆ cs := by first | decide | (refine List.Subset.trans ?_ ‹_ ⊆ _›; decide)) : AnsKeeps cs s₀ (execServiceChange c s) := by
  unfold execServiceChange
  try dsimp only
  with_reducible repeat' (first
    | assumption | exact List.Subset.trans (by decide) hm | apply AnsKeeps.next | apply serve_keeps
    | apply serviceChangeOp_keeps | intro _)

theorem State.nextStep_keeps {c : Change} {freed : Nat} {s : State} (hk : Keeps cs s₀ s)
    (hm : ([.clerk, .hier, .tally, .serv] : List Comp) ⊆ cs := by first | decide | (refine List.Subset.trans ?_ ‹_ ⊆ _›; decide)) : Keeps cs s₀ (State.nextStep c freed s) := by
  unfold State.nextStep
  try dsimp only
  with_reducible repeat' (first
    | assumption | exact List.Subset.trans (by decide) hm | apply Keeps.ite | apply State.finishChange_keeps
    | apply State.setBlock_keeps | apply State.beginStep_keeps | refine Keeps.of_pair (by assumption) ?_ | intro _ | split)

theorem State.incomingFault_keeps {c : Change} {lost : Bool} {s : State} (hk : Keeps cs s₀ s)
    (hm : ([.clerk, .hier, .tally, .serv, .fec, .flow] : List Comp) ⊆ cs := by first | decide | (refine List.Subset.trans ?_ ‹_ ⊆ _›; decide)) : Keeps cs s₀ (State.incomingFault c lost s) := by
  unfold State.incomingFault
  try dsimp only
  with_reducible repeat' (first
    | assumption | exact List.Subset.trans (by decide) hm | apply Keeps.ite | apply evExhausted_keeps
    | apply State.setRegion_keeps | apply evStepFailed_keeps | apply State.endChange_keeps | apply State.afterFault_keeps
    | apply State.setBlock_keeps | apply State.noteSpareBlock_keeps | refine Keeps.of_pair (by assumption) ?_ | intro _
    | split)

theorem execPrepareDone_keeps {r : Fin 30} {fault lost : Bool} {s : State} (hk : Keeps cs s₀ s)
    (hm : ([.clerk, .hier, .tally, .serv, .fec, .flow] : List Comp) ⊆ cs := by first | decide | (refine List.Subset.trans ?_ ‹_ ⊆ _›; decide)) : AnsKeeps cs s₀ (execPrepareDone r fault lost s) := by
  unfold execPrepareDone
  try dsimp only
  with_reducible repeat' (first
    | assumption | exact List.Subset.trans (by decide) hm | apply Keeps.ite | apply AnsKeeps.ite | apply AnsKeeps.next
    | exact AnsKeeps.fault | apply happen_keeps | apply State.incomingFault_keeps | apply State.setChange_keeps
    | refine Keeps.of_pair (by assumption) ?_ | intro _ | split)

theorem execCopyDone_keeps {r : Fin 30} {fault lost : Bool} {s : State} (hk : Keeps cs s₀ s)
    (hm : ([.clerk, .hier, .tally, .serv, .fec, .flow] : List Comp) ⊆ cs := by first | decide | (refine List.Subset.trans ?_ ‹_ ⊆ _›; decide)) : AnsKeeps cs s₀ (execCopyDone r fault lost s) := by
  unfold execCopyDone
  try dsimp only
  with_reducible repeat' (first
    | assumption | exact List.Subset.trans (by decide) hm | apply Keeps.ite | apply AnsKeeps.ite | apply AnsKeeps.next
    | exact AnsKeeps.fault | apply happen_keeps | apply State.incomingFault_keeps | apply State.setChange_keeps
    | refine Keeps.of_pair (by assumption) ?_ | intro _ | split)

theorem State.drainFifos_keeps {r b : Nat} {s : State} (hk : Keeps cs s₀ s)
    (hm : ([.hier] : List Comp) ⊆ cs := by first | decide | (refine List.Subset.trans ?_ ‹_ ⊆ _›; decide)) : Keeps cs s₀ (State.drainFifos r b s) := by
  unfold State.drainFifos
  try dsimp only
  with_reducible repeat' (first
    | assumption | exact List.Subset.trans (by decide) hm | apply State.setFifo_keeps | apply foldl_keeps
    | refine Keeps.of_pair (by assumption) ?_ | intro _)

theorem State.swapRoles_keeps {c : Change} {s : State} (hk : Keeps cs s₀ s)
    (hm : ([.hier] : List Comp) ⊆ cs := by first | decide | (refine List.Subset.trans ?_ ‹_ ⊆ _›; decide)) : Keeps cs s₀ (State.swapRoles c s) := by
  unfold State.swapRoles
  try dsimp only
  with_reducible repeat' (first
    | assumption | exact List.Subset.trans (by decide) hm | apply State.setRegion_keeps
    | refine Keeps.of_pair (by assumption) ?_ | intro _)

theorem execSwitch_keeps {r : Fin 30} {s : State} (hk : Keeps cs s₀ s)
    (hm : ([.clerk, .hier, .tally, .serv, .fec, .flow] : List Comp) ⊆ cs := by first | decide | (refine List.Subset.trans ?_ ‹_ ⊆ _›; decide)) : AnsKeeps cs s₀ (execSwitch r s) := by
  unfold execSwitch
  try dsimp only
  with_reducible repeat' (first
    | assumption | exact List.Subset.trans (by decide) hm | apply Keeps.ite | apply AnsKeeps.ite | apply Keeps.ite_snd
    | apply AnsKeeps.next | apply State.swapRoles_keeps | apply State.setChange_keeps | apply happen_keeps
    | apply withFlow_keeps | apply State.afterFault_keeps | apply State.drainFifos_keeps | apply State.setBlock_keeps
    | refine Keeps.of_pair (by assumption) ?_ | intro _ | split)

theorem execRetestDone_keeps {r : Fin 30} {bad : List Nat} {s : State} (hk : Keeps cs s₀ s)
    (hm : ([.clerk, .hier, .tally, .serv, .fec, .flow] : List Comp) ⊆ cs := by first | decide | (refine List.Subset.trans ?_ ‹_ ⊆ _›; decide)) : AnsKeeps cs s₀ (execRetestDone r bad s) := by
  unfold execRetestDone
  try dsimp only
  with_reducible repeat' (first
    | assumption | exact List.Subset.trans (by decide) hm | apply Keeps.ite | apply AnsKeeps.ite | apply AnsKeeps.next
    | apply State.retest_keeps | apply happen_keeps | apply State.setBlock_keeps | apply State.beginStep_keeps
    | apply State.afterFault_keeps | apply evStepFailed_keeps | apply State.endChange_keeps | apply evStep_keeps
    | apply State.nextStep_keeps | refine Keeps.of_pair (by assumption) ?_ | intro _ | split)

theorem State.loadRegion_keeps {update : Bool} {r : Nat} {s : State} (hk : Keeps cs s₀ s)
    (hm : ([.hier] : List Comp) ⊆ cs := by first | decide | (refine List.Subset.trans ?_ ‹_ ⊆ _›; decide)) : Keeps cs s₀ (State.loadRegion update r s) := by
  unfold State.loadRegion
  try dsimp only
  with_reducible repeat' (first
    | assumption | exact List.Subset.trans (by decide) hm | apply State.setBlock_keeps | apply foldl_keeps
    | refine Keeps.of_pair (by assumption) ?_ | intro _)

theorem execMigrationLoadDone_keeps {r : Fin 30} {ok : Bool} {s : State} (hk : Keeps cs s₀ s)
    (hm : ([.clerk, .hier, .tally, .serv, .fec, .flow] : List Comp) ⊆ cs := by first | decide | (refine List.Subset.trans ?_ ‹_ ⊆ _›; decide)) : AnsKeeps cs s₀ (execMigrationLoadDone r ok s) := by
  unfold execMigrationLoadDone
  try dsimp only
  with_reducible repeat' (first
    | assumption | exact List.Subset.trans (by decide) hm | apply Keeps.ite | apply AnsKeeps.ite | apply AnsKeeps.next
    | apply evExhausted_keeps | apply State.setRegion_keeps | apply happen_keeps | apply State.loadRegion_keeps
    | apply State.swapRoles_keeps | apply State.setChange_keeps | apply State.afterFault_keeps | apply evStepFailed_keeps
    | apply State.endChange_keeps | refine Keeps.of_pair (by assumption) ?_ | intro _ | split)

theorem execDecodesDrained_keeps {r : Fin 30} {s : State} (hk : Keeps cs s₀ s)
    (hm : ([.hier, .serv] : List Comp) ⊆ cs := by first | decide | (refine List.Subset.trans ?_ ‹_ ⊆ _›; decide)) : AnsKeeps cs s₀ (execDecodesDrained r s) := by
  unfold execDecodesDrained
  try dsimp only
  with_reducible repeat' (first
    | assumption | exact List.Subset.trans (by decide) hm | apply AnsKeeps.next | apply happen_keeps
    | apply State.setRegion_keeps | apply State.setChange_keeps | refine Keeps.of_pair (by assumption) ?_ | intro _ | split)

theorem State.reseat_keeps {r : Nat} {good : List (Nat × Nat)} {s : State} (hk : Keeps cs s₀ s)
    (hm : ([.hier, .flow] : List Comp) ⊆ cs := by first | decide | (refine List.Subset.trans ?_ ‹_ ⊆ _›; decide)) : Keeps cs s₀ (State.reseat r good s) := by
  unfold State.reseat
  try dsimp only
  with_reducible repeat' (first
    | assumption | exact List.Subset.trans (by decide) hm | apply State.idle_keeps | apply State.setBlock_keeps
    | apply foldl_keeps | refine Keeps.of_pair (by assumption) ?_ | intro _ | split)

theorem State.retestRegion_keeps {r : Nat} {update : Bool} {bad : List (Nat × Nat)} {s : State} (hk : Keeps cs s₀ s)
    (hm : ([.clerk, .hier, .tally, .flow] : List Comp) ⊆ cs := by first | decide | (refine List.Subset.trans ?_ ‹_ ⊆ _›; decide)) :
    Keeps cs s₀ (State.retestRegion r update bad s).2 := by
  unfold State.retestRegion
  dsimp only
  refine State.reseat_keeps (foldl_keeps3 ?_ _ hk)
  intro x e h
  exact State.retest_keeps h

theorem execMigrationRetestDone_keeps {r : Fin 30} {bad : List (Nat × Nat)} {s : State} (hk : Keeps cs s₀ s)
    (hm : ([.clerk, .hier, .tally, .serv, .fec, .flow] : List Comp) ⊆ cs := by first | decide | (refine List.Subset.trans ?_ ‹_ ⊆ _›; decide)) : AnsKeeps cs s₀ (execMigrationRetestDone r bad s) := by
  unfold execMigrationRetestDone
  try dsimp only
  with_reducible repeat' (first
    | assumption | exact List.Subset.trans (by decide) hm | apply Keeps.ite | apply AnsKeeps.ite | apply AnsKeeps.next
    | apply State.retestRegion_keeps | apply happen_keeps | apply evStep_keeps | apply State.setRegion_keeps
    | apply State.finishChange_keeps | apply State.afterFault_keeps | apply evStepFailed_keeps | apply State.endChange_keeps
    | refine Keeps.of_pair (by assumption) ?_ | intro _ | split)

theorem State.nextDpll_keeps {c : Change} {s : State} (hk : Keeps cs s₀ s)
    (hm : ([.clerk, .hier, .tally, .serv] : List Comp) ⊆ cs := by first | decide | (refine List.Subset.trans ?_ ‹_ ⊆ _›; decide)) : Keeps cs s₀ (State.nextDpll c s) := by
  unfold State.nextDpll
  try dsimp only
  with_reducible repeat' (first
    | assumption | exact List.Subset.trans (by decide) hm | apply Keeps.ite | apply State.finishChange_keeps
    | apply State.beginStep_keeps | apply State.beginPass_keeps | intro _ | split)

theorem State.swapCore_keeps {d : Nat} {c : Change} {s : State} (hk : Keeps cs s₀ s)
    (hm : ([.clerk, .hier, .tally, .serv, .timing] : List Comp) ⊆ cs := by first | decide | (refine List.Subset.trans ?_ ‹_ ⊆ _›; decide)) : Keeps cs s₀ (State.swapCore d c s) := by
  unfold State.swapCore
  try dsimp only
  with_reducible repeat' (first
    | assumption | exact List.Subset.trans (by decide) hm | apply evStep_keeps | apply State.updDpll_keeps
    | apply State.setChange_keeps | refine Keeps.of_pair (by assumption) ?_ | intro _)

theorem execCoreLoadDone_keeps {d : Fin 4} {ok : Bool} {s : State} (hk : Keeps cs s₀ s)
    (hm : ([.clerk, .hier, .tally, .serv, .timing] : List Comp) ⊆ cs := by first | decide | (refine List.Subset.trans ?_ ‹_ ⊆ _›; decide)) : AnsKeeps cs s₀ (execCoreLoadDone d ok s) := by
  unfold execCoreLoadDone
  try dsimp only
  with_reducible repeat' (first
    | assumption | exact List.Subset.trans (by decide) hm | apply Keeps.ite | apply AnsKeeps.ite | apply AnsKeeps.next
    | exact AnsKeeps.fault | apply evStepFailed_keeps | apply State.updDpll_keeps | apply happen_keeps
    | apply State.endChange_keeps | apply State.setChange_keeps | apply State.nextDpll_keeps | apply State.refreshHealth_keeps
    | apply State.swapCore_keeps | refine Keeps.of_pair (by assumption) ?_ | intro _ | split)

theorem execCoreFollowDone_keeps {d : Fin 4} {ok : Bool} {s : State} (hk : Keeps cs s₀ s)
    (hm : ([.clerk, .hier, .tally, .serv, .timing] : List Comp) ⊆ cs := by first | decide | (refine List.Subset.trans ?_ ‹_ ⊆ _›; decide)) : AnsKeeps cs s₀ (execCoreFollowDone d ok s) := by
  unfold execCoreFollowDone
  try dsimp only
  with_reducible repeat' (first
    | assumption | exact List.Subset.trans (by decide) hm | apply Keeps.ite | apply AnsKeeps.ite | apply AnsKeeps.next
    | apply evStepFailed_keeps | apply State.updDpll_keeps | apply happen_keeps | apply State.endChange_keeps
    | apply State.refreshHealth_keeps | apply State.swapCore_keeps | apply State.nextDpll_keeps
    | refine Keeps.of_pair (by assumption) ?_ | intro _ | split)

theorem State.restartImage_keeps {slot : Nat} {s : State} (hk : Keeps cs s₀ s)
    (hm : ([.out, .tally, .boot] : List Comp) ⊆ cs := by first | decide | (refine List.Subset.trans ?_ ‹_ ⊆ _›; decide)) : Keeps cs s₀ (State.restartImage slot s) :=
  State.emit_keeps (withBoot_keeps hk fun _ => rfl)

theorem serviceHandoverOp_keeps {c : Cmd} (hk : Keeps cs s₀ s)
    (hm : ([.out, .clerk, .hier, .tally, .boot, .serv] : List Comp) ⊆ cs := by first | decide | (refine List.Subset.trans ?_ ‹_ ⊆ _›; decide)) : Keeps cs s₀ (serviceHandoverOp.effect c s).2 := by
  unfold serviceHandoverOp
  try dsimp only
  with_reducible repeat' (first
    | assumption | exact List.Subset.trans (by decide) hm | apply Keeps.ite | apply Keeps.ite_snd | apply State.startJob_keeps
    | apply withServ_keeps | apply withHier_keeps | apply State.refreshHealth_keeps | apply withClerk_keeps
    | apply State.restartImage_keeps | refine Keeps.clerk' (cs := cs) (s₀ := s₀) rfl rfl ?_
    | refine Keeps.hier' (cs := cs) (s₀ := s₀) rfl rfl ?_ | refine Keeps.of_pair (by assumption) ?_ | intro _ | split)

theorem execServiceHandover_keeps {c : Cmd} {s : State} (hk : Keeps cs s₀ s)
    (hm : ([.out, .bar0, .clerk, .hier, .tally, .boot, .serv] : List Comp) ⊆ cs := by first | decide | (refine List.Subset.trans ?_ ‹_ ⊆ _›; decide)) : AnsKeeps cs s₀ (execServiceHandover c s) := by
  unfold execServiceHandover
  try dsimp only
  with_reducible repeat' (first
    | assumption | exact List.Subset.trans (by decide) hm | apply AnsKeeps.next | apply serve_keeps
    | apply serviceHandoverOp_keeps | intro _)

theorem State.endHandover_keeps {h : Handover} {status : Nat} {s : State} (hk : Keeps cs s₀ s)
    (hm : ([.clerk, .hier, .tally, .serv] : List Comp) ⊆ cs := by first | decide | (refine List.Subset.trans ?_ ‹_ ⊆ _›; decide)) : Keeps cs s₀ (State.endHandover h status s) := by
  unfold State.endHandover
  try dsimp only
  with_reducible repeat' (first
    | assumption | exact List.Subset.trans (by decide) hm | apply withServ_keeps | apply State.endJob_keeps
    | refine Keeps.of_pair (by assumption) ?_ | intro _)

theorem State.pairLost_keeps {h : Handover} {s : State} (hk : Keeps cs s₀ s)
    (hm : ([.clerk, .hier, .tally, .serv] : List Comp) ⊆ cs := by first | decide | (refine List.Subset.trans ?_ ‹_ ⊆ _›; decide)) : Keeps cs s₀ (State.pairLost h s) := by
  unfold State.pairLost
  try dsimp only
  with_reducible repeat' (first
    | assumption | exact List.Subset.trans (by decide) hm | apply evStepFailed_keeps | apply evExhausted_keeps
    | apply withHier_keeps | apply State.endHandover_keeps | apply State.refreshHealth_keeps
    | refine Keeps.hier' (cs := cs) (s₀ := s₀) rfl rfl ?_ | refine Keeps.of_pair (by assumption) ?_ | intro _)

theorem execHandoverLoadDone_keeps {ok : Bool} {s : State} (hk : Keeps cs s₀ s)
    (hm : ([.clerk, .hier, .tally, .serv] : List Comp) ⊆ cs := by first | decide | (refine List.Subset.trans ?_ ‹_ ⊆ _›; decide)) : AnsKeeps cs s₀ (execHandoverLoadDone ok s) := by
  unfold execHandoverLoadDone
  try dsimp only
  with_reducible repeat' (first
    | assumption | exact List.Subset.trans (by decide) hm | apply Keeps.ite | apply AnsKeeps.ite | apply AnsKeeps.next
    | apply happen_keeps | apply withHier_keeps | apply withServ_keeps | apply State.refreshHealth_keeps
    | apply State.pairLost_keeps | refine Keeps.hier' (cs := cs) (s₀ := s₀) rfl rfl ?_
    | refine Keeps.of_pair (by assumption) ?_ | intro _ | split)

theorem execHandoverTakeover_keeps {s : State} (hk : Keeps cs s₀ s)
    (hm : ([.out, .clerk, .hier, .tally, .boot, .hall, .serv] : List Comp) ⊆ cs := by first | decide | (refine List.Subset.trans ?_ ‹_ ⊆ _›; decide)) : AnsKeeps cs s₀ (execHandoverTakeover s) := by
  unfold execHandoverTakeover
  try dsimp only
  with_reducible repeat' (first
    | assumption | exact List.Subset.trans (by decide) hm | apply AnsKeeps.next | apply withHier_keeps | apply withBoot_keeps
    | apply State.slot_keeps | apply withServ_keeps | apply State.extend_keeps | apply happen_keeps | apply evStep_keeps
    | apply State.measureSvn_keeps | apply State.emit_keeps | apply State.refreshHealth_keeps
    | refine Keeps.hier' (cs := cs) (s₀ := s₀) rfl rfl ?_ | refine Keeps.boot' (cs := cs) (s₀ := s₀) rfl rfl ?_
    | refine Keeps.of_pair (by assumption) ?_ | intro _ | split)

theorem execFormerPairReady_keeps {ok : Bool} {s : State} (hk : Keeps cs s₀ s)
    (hm : ([.clerk, .hier, .tally, .serv] : List Comp) ⊆ cs := by first | decide | (refine List.Subset.trans ?_ ‹_ ⊆ _›; decide)) : AnsKeeps cs s₀ (execFormerPairReady ok s) := by
  unfold execFormerPairReady
  try dsimp only
  with_reducible repeat' (first
    | assumption | exact List.Subset.trans (by decide) hm | apply Keeps.ite | apply AnsKeeps.ite | apply AnsKeeps.next
    | apply happen_keeps | apply withHier_keeps | apply State.endHandover_keeps | apply State.refreshHealth_keeps
    | apply State.pairLost_keeps | refine Keeps.hier' (cs := cs) (s₀ := s₀) rfl rfl ?_
    | refine Keeps.of_pair (by assumption) ?_ | intro _ | split)

theorem serviceStatusOp_keeps {c : Cmd} (hk : Keeps cs s₀ s) : Keeps cs s₀ (serviceStatusOp.effect c s).2 := by
  unfold serviceStatusOp
  try dsimp only
  with_reducible repeat' (first | assumption | apply reads_keeps | refine Keeps.of_pair (by assumption) ?_ | intro _)

theorem execServiceStatus_keeps {c : Cmd} {s : State} (hk : Keeps cs s₀ s)
    (hm : ([.out, .bar0, .clerk, .tally] : List Comp) ⊆ cs := by first | decide | (refine List.Subset.trans ?_ ‹_ ⊆ _›; decide)) : AnsKeeps cs s₀ (execServiceStatus c s) := by
  unfold execServiceStatus
  try dsimp only
  with_reducible repeat' (first
    | assumption | exact List.Subset.trans (by decide) hm | apply AnsKeeps.next | apply serve_keeps
    | apply serviceStatusOp_keeps | intro _)

theorem serviceAgeingReadOp_keeps {c : Cmd} (hk : Keeps cs s₀ s) : Keeps cs s₀ (serviceAgeingReadOp.effect c s).2 := by
  unfold serviceAgeingReadOp
  try dsimp only
  with_reducible repeat' (first | assumption | apply reads_keeps | intro _)

theorem execServiceAgeingRead_keeps {c : Cmd} {s : State} (hk : Keeps cs s₀ s)
    (hm : ([.out, .bar0, .clerk, .tally] : List Comp) ⊆ cs := by first | decide | (refine List.Subset.trans ?_ ‹_ ⊆ _›; decide)) : AnsKeeps cs s₀ (execServiceAgeingRead c s) := by
  unfold execServiceAgeingRead
  try dsimp only
  with_reducible repeat' (first
    | assumption | exact List.Subset.trans (by decide) hm | apply AnsKeeps.next | apply serve_keeps
    | apply serviceAgeingReadOp_keeps | intro _)

theorem execAgeingDaily_keeps {mv years : Nat} {growth : List (Nat × Nat)} {s : State} (hk : Keeps cs s₀ s)
    (hm : ([.clerk, .hier, .tally, .serv] : List Comp) ⊆ cs := by first | decide | (refine List.Subset.trans ?_ ‹_ ⊆ _›; decide)) : AnsKeeps cs s₀ (execAgeingDaily mv years growth s) := by
  unfold execAgeingDaily
  try dsimp only
  with_reducible repeat' (first
    | assumption | exact List.Subset.trans (by decide) hm | apply Keeps.ite | apply AnsKeeps.ite | apply AnsKeeps.next
    | apply withServ_keeps | apply happen_keeps | apply State.raise_keeps | apply foldl_keeps
    | refine Keeps.of_pair (by assumption) ?_ | intro _ | split)

/-! ### Boot.lean -/

theorem State.coldReset_keeps {s : State} (hk : Keeps cs s₀ s)
    (hm : ([.time, .bar0, .clerk, .hier, .tally, .boot, .hall, .serv, .rx, .rw, .fec, .tx, .loom, .ra, .crier, .store, .flow, .lanes, .timing, .assay, .damage] : List Comp) ⊆ cs := by first | decide | (refine List.Subset.trans ?_ ‹_ ⊆ _›; decide)) : Keeps cs s₀ (State.coldReset s) := by
  refine ⟨hk.queue, hk.fuses, hk.out,
    fun _ => ⟨⟨Nat.zero_le _, Nat.zero_le _, Nat.zero_le _⟩, ⟨Nat.zero_le _, Nat.zero_le _⟩, ⟨rfl, ?_⟩, rfl, rfl⟩, ?_⟩
  · intro e h; cases h
  · intro c hc
    cases c <;> first
      | exact hk.frame _ hc
      | exact absurd (hm (by decide)) hc

theorem State.resetFor_keeps {cause : Nat} {s : State} (hk : Keeps cs s₀ s)
    (hm : ([.time, .bar0, .clerk, .hier, .tally, .boot, .hall, .serv, .rx, .rw, .fec, .tx, .loom, .ra, .crier, .store, .flow, .lanes, .timing, .assay, .damage] : List Comp) ⊆ cs := by first | decide | (refine List.Subset.trans ?_ ‹_ ⊆ _›; decide)) : Keeps cs s₀ (State.resetFor cause s) := by
  unfold State.resetFor
  try dsimp only
  with_reducible repeat' (first
    | assumption | exact List.Subset.trans (by decide) hm | apply Keeps.ite | apply State.coldReset_keeps
    | apply withBoot_keeps | refine Keeps.boot' (cs := cs) (s₀ := s₀) rfl rfl ?_ | intro _ | split)

theorem execPowerOn_keeps {s : State} (hk : Keeps cs s₀ s)
    (hm : ([.time, .bar0, .clerk, .hier, .tally, .boot, .hall, .serv, .rx, .rw, .fec, .tx, .loom, .ra, .crier, .store, .flow, .lanes, .timing, .assay, .damage] : List Comp) ⊆ cs := by first | decide | (refine List.Subset.trans ?_ ‹_ ⊆ _›; decide)) : AnsKeeps cs s₀ (execPowerOn s) := by
  unfold execPowerOn
  try dsimp only
  with_reducible repeat' (first
    | assumption | exact List.Subset.trans (by decide) hm | apply AnsKeeps.next | apply State.coldReset_keeps
    | apply withBoot_keeps | refine Keeps.boot' (cs := cs) (s₀ := s₀) rfl rfl ?_ | refine Keeps.of_pair (by assumption) ?_
    | intro _)

theorem execRstNAssert_keeps {s : State} (hk : Keeps cs s₀ s)
    (hm : ([.time, .bar0, .clerk, .hier, .tally, .boot, .hall, .serv, .rx, .rw, .fec, .tx, .loom, .ra, .crier, .store, .flow, .lanes, .timing, .assay, .damage] : List Comp) ⊆ cs := by first | decide | (refine List.Subset.trans ?_ ‹_ ⊆ _›; decide)) : AnsKeeps cs s₀ (execRstNAssert s) := by
  unfold execRstNAssert
  try dsimp only
  with_reducible repeat' (first
    | assumption | exact List.Subset.trans (by decide) hm | apply AnsKeeps.next | apply State.resetFor_keeps
    | apply withBoot_keeps | refine Keeps.boot' (cs := cs) (s₀ := s₀) rfl rfl ?_ | refine Keeps.of_pair (by assumption) ?_
    | intro _)

theorem execPerstAssert_keeps {s : State} (hk : Keeps cs s₀ s)
    (hm : ([.time, .bar0, .clerk, .hier, .tally, .boot, .hall, .serv, .rx, .rw, .fec, .tx, .loom, .ra, .crier, .store, .flow, .lanes, .timing, .assay, .damage] : List Comp) ⊆ cs := by first | decide | (refine List.Subset.trans ?_ ‹_ ⊆ _›; decide)) : AnsKeeps cs s₀ (execPerstAssert s) := by
  unfold execPerstAssert
  try dsimp only
  with_reducible repeat' (first
    | assumption | exact List.Subset.trans (by decide) hm | apply AnsKeeps.next | apply State.resetFor_keeps
    | apply withBoot_keeps | refine Keeps.boot' (cs := cs) (s₀ := s₀) rfl rfl ?_ | refine Keeps.of_pair (by assumption) ?_
    | intro _)

theorem execBrownOut_keeps {s : State} (hk : Keeps cs s₀ s)
    (hm : ([.time, .bar0, .clerk, .hier, .tally, .boot, .hall, .serv, .rx, .rw, .fec, .tx, .loom, .ra, .crier, .store, .flow, .lanes, .timing, .assay, .damage] : List Comp) ⊆ cs := by first | decide | (refine List.Subset.trans ?_ ‹_ ⊆ _›; decide)) : AnsKeeps cs s₀ (execBrownOut s) := by
  unfold execBrownOut
  try dsimp only
  with_reducible repeat' (first
    | assumption | exact List.Subset.trans (by decide) hm | apply AnsKeeps.next | apply State.resetFor_keeps
    | apply withBoot_keeps | refine Keeps.boot' (cs := cs) (s₀ := s₀) rfl rfl ?_ | refine Keeps.of_pair (by assumption) ?_
    | intro _)

theorem execBootBegin_keeps {x0 x1 : Bool} {s : State} (hk : Keeps cs s₀ s)
    (hm : ([.boot, .timing] : List Comp) ⊆ cs := by first | decide | (refine List.Subset.trans ?_ ‹_ ⊆ _›; decide)) : AnsKeeps cs s₀ (execBootBegin x0 x1 s) :=
  happen_keeps hk fun _ => withTiming_keeps (withBoot_keeps hk fun _ => rfl)

theorem execRomStartDone_keeps {s : State} (hk : Keeps cs s₀ s)
    (hm : ([.boot, .hall] : List Comp) ⊆ cs := by first | decide | (refine List.Subset.trans ?_ ‹_ ⊆ _›; decide)) : AnsKeeps cs s₀ (execRomStartDone s) :=
  happen_keeps hk fun _ => withBoot_keeps (State.extend_keeps hk) fun _ => rfl

theorem Boot.judged_keeps {cause : Nat} {b : Boot} (h : b.ok) : (b.judged cause).ok := by
  unfold Boot.judged
  split <;> exact h

theorem execImageReadDone_keeps {readError : Bool} {outside : List Word} {s : State} (hk : Keeps cs s₀ s)
    (hm : ([.clerk, .hier, .tally, .boot, .hall, .serv] : List Comp) ⊆ cs := by first | decide | (refine List.Subset.trans ?_ ‹_ ⊆ _›; decide)) :
    AnsKeeps cs s₀ (execImageReadDone readError outside s) := by
  unfold execImageReadDone
  dsimp only
  refine happen_keeps hk fun hg => ?_
  have h1 : ∀ c, Keeps cs s₀ (s.withBoot (s.boot.judged c)) := fun c => withBoot_keeps hk fun j => Boot.judged_keeps (hk.boot j)
  refine Keeps.ite (fun _ => ?_) (fun _ => ?_)
  · exact State.measureSvn_keeps (State.extend_keeps (withHier_keeps (withServ_keeps (withBoot_keeps (h1 _) fun _ => rfl)) hk.hier))
  · exact Keeps.ite (fun _ => withBoot_keeps (State.imageRejected_keeps (h1 _)) fun _ => rfl)
      (fun _ => withBoot_keeps (State.imageRejected_keeps (h1 _)) fun _ => rfl)

theorem State.selfTestRegion_keeps {bad : List (Nat × Nat × Nat)} {r : Nat} {s : State} (hk : Keeps cs s₀ s)
    (hm : ([.clerk, .hier, .tally, .boot, .flow] : List Comp) ⊆ cs := by first | decide | (refine List.Subset.trans ?_ ‹_ ⊆ _›; decide)) : Keeps cs s₀ (State.selfTestRegion bad r s) := by
  unfold State.selfTestRegion
  try dsimp only
  with_reducible repeat' (first
    | assumption | exact List.Subset.trans (by decide) hm | apply Keeps.ite | apply State.retestRegion_keeps
    | apply withBoot_keeps | apply State.setRegion_keeps | refine Keeps.boot' (cs := cs) (s₀ := s₀) rfl rfl ?_
    | refine Keeps.of_pair (by assumption) ?_ | intro _ | split)

theorem State.noteRetired_keeps {s : State} (hk : Keeps cs s₀ s)
    (hm : ([.boot] : List Comp) ⊆ cs := by first | decide | (refine List.Subset.trans ?_ ‹_ ⊆ _›; decide)) : Keeps cs s₀ (State.noteRetired s) := withBoot_keeps hk hk.boot

theorem execSelfTestDone_keeps {bad : List (Nat × Nat × Nat)} {lost : List (Fin 4)} {pair0 pair1 : Bool} {s : State}
    (hk : Keeps cs s₀ s)
    (hm : ([.free, .out, .clerk, .hier, .tally, .boot, .fec, .store, .flow] : List Comp) ⊆ cs := by first | decide | (refine List.Subset.trans ?_ ‹_ ⊆ _›; decide)) :
    AnsKeeps cs s₀ (execSelfTestDone bad lost pair0 pair1 s) := by
  unfold execSelfTestDone
  dsimp only
  refine happen_keeps hk fun _ => ?_
  have h1 := State.noteRetired_keeps (foldl_keeps (f := fun s r => State.selfTestRegion bad r s)
    (fun s r h => State.selfTestRegion_keeps h) (List.range 0x1E) hk)
  have h2 := foldl_keeps (f := fun s k => State.loseStack (Fin.val k) 5 s) (fun s k h => State.loseStack_keeps h) lost h1
  split
  · refine State.refreshHealth_keeps (State.refreshPools_keeps (State.emit_keeps (withBoot_keeps ?_ fun _ => .inl rfl)))
    split
    · split
      · exact withHier_keeps h2 h2.hier
      · exact withHier_keeps h2 h2.hier
    · refine evExhausted_keeps ?_
      split
      · exact withHier_keeps h2 h2.hier
      · exact withHier_keeps h2 h2.hier
  · exact withBoot_keeps h1 fun _ => rfl

theorem execEndpointReady_keeps {s : State} (hk : Keeps cs s₀ s)
    (hm : ([.boot] : List Comp) ⊆ cs := by first | decide | (refine List.Subset.trans ?_ ‹_ ⊆ _›; decide)) : AnsKeeps cs s₀ (execEndpointReady s) := by
  unfold execEndpointReady
  try dsimp only
  with_reducible repeat' (first
    | assumption | exact List.Subset.trans (by decide) hm | apply AnsKeeps.next | apply happen_keeps | apply withBoot_keeps
    | refine Keeps.boot' (cs := cs) (s₀ := s₀) rfl rfl ?_ | refine Keeps.of_pair (by assumption) ?_ | intro _)

theorem execEndpointConfiguration_keeps {s : State} (hk : Keeps cs s₀ s)
    (hm : ([.boot] : List Comp) ⊆ cs := by first | decide | (refine List.Subset.trans ?_ ‹_ ⊆ _›; decide)) : AnsKeeps cs s₀ (execEndpointConfiguration s) := by
  unfold execEndpointConfiguration
  try dsimp only
  with_reducible repeat' (first
    | assumption | exact List.Subset.trans (by decide) hm | apply AnsKeeps.next | apply happen_keeps | apply withBoot_keeps
    | refine Keeps.boot' (cs := cs) (s₀ := s₀) rfl rfl ?_ | refine Keeps.of_pair (by assumption) ?_ | intro _)

theorem execTapInstructionUpdate_keeps {code : Byte} {s : State} (hk : Keeps cs s₀ s)
    (hm : ([.time, .bar0, .clerk, .hier, .tally, .boot, .hall, .serv, .rx, .rw, .fec, .tx, .loom, .ra, .crier, .store, .flow, .lanes, .timing, .assay, .damage] : List Comp) ⊆ cs := by first | decide | (refine List.Subset.trans ?_ ‹_ ⊆ _›; decide)) : AnsKeeps cs s₀ (execTapInstructionUpdate code s) := by
  unfold execTapInstructionUpdate
  try dsimp only
  with_reducible repeat' (first
    | assumption | exact List.Subset.trans (by decide) hm | apply Keeps.ite | apply AnsKeeps.ite | apply AnsKeeps.next
    | apply State.resetFor_keeps | apply withBoot_keeps | refine Keeps.boot' (cs := cs) (s₀ := s₀) rfl rfl ?_
    | refine Keeps.of_pair (by assumption) ?_ | intro _ | split)

theorem execTapReset_keeps {s : State} (hk : Keeps cs s₀ s)
    (hm : ([.boot] : List Comp) ⊆ cs := by first | decide | (refine List.Subset.trans ?_ ‹_ ⊆ _›; decide)) : AnsKeeps cs s₀ (execTapReset s) := by
  unfold execTapReset
  try dsimp only
  with_reducible repeat' (first
    | assumption | exact List.Subset.trans (by decide) hm | apply AnsKeeps.next | apply withBoot_keeps
    | refine Keeps.boot' (cs := cs) (s₀ := s₀) rfl rfl ?_ | refine Keeps.of_pair (by assumption) ?_ | intro _)

end Sys2Proof.Machine
end

