-- ==== Sys2Proof/Laws/KeepsTake.lean ====
section
/-!
SUPPORT. What is kept by: client and host lanes, calibration, cancelling, CLERK, taking packets.
-/

set_option Elab.async false
set_option linter.all false

namespace Sys2Proof.Machine

variable {cs : List Comp} {s₀ s t : State}

/-! ### Client.lean -/

theorem clientGroupConfigOp_keeps {c : Cmd} (hk : Keeps cs s₀ s)
    (hm : ([.lanes] : List Comp) ⊆ cs := by first | decide | (refine List.Subset.trans ?_ ‹_ ⊆ _›; decide)) : Keeps cs s₀ (clientGroupConfigOp.effect c s).2 := by
  unfold clientGroupConfigOp
  try dsimp only
  with_reducible repeat' (first
    | assumption | exact List.Subset.trans (by decide) hm | apply Keeps.ite | apply Keeps.ite_snd | apply withLanes_keeps
    | refine Keeps.of_pair (by assumption) ?_ | intro _ | split)

theorem execClientGroupConfig_keeps {c : Cmd} {s : State} (hk : Keeps cs s₀ s)
    (hm : ([.out, .bar0, .clerk, .tally, .lanes] : List Comp) ⊆ cs := by first | decide | (refine List.Subset.trans ?_ ‹_ ⊆ _›; decide)) : AnsKeeps cs s₀ (execClientGroupConfig c s) := by
  unfold execClientGroupConfig
  try dsimp only
  with_reducible repeat' (first
    | assumption | exact List.Subset.trans (by decide) hm | apply AnsKeeps.next | apply serve_keeps
    | apply clientGroupConfigOp_keeps | intro _)

theorem clientIfaceSetOp_keeps {c : Cmd} (hk : Keeps cs s₀ s)
    (hm : ([.clerk, .hier, .tally, .flow, .lanes] : List Comp) ⊆ cs := by first | decide | (refine List.Subset.trans ?_ ‹_ ⊆ _›; decide)) : Keeps cs s₀ (clientIfaceSetOp.effect c s).2 := by
  unfold clientIfaceSetOp
  try dsimp only
  with_reducible repeat' (first
    | assumption | exact List.Subset.trans (by decide) hm | apply Keeps.ite | apply Keeps.ite_snd
    | apply State.deleteIface_keeps | apply State.defineIface_keeps | refine Keeps.of_pair (by assumption) ?_ | intro _
    | split)

theorem execClientIfaceSet_keeps {c : Cmd} {s : State} (hk : Keeps cs s₀ s)
    (hm : ([.out, .bar0, .clerk, .hier, .tally, .flow, .lanes] : List Comp) ⊆ cs := by first | decide | (refine List.Subset.trans ?_ ‹_ ⊆ _›; decide)) : AnsKeeps cs s₀ (execClientIfaceSet c s) := by
  unfold execClientIfaceSet
  try dsimp only
  with_reducible repeat' (first
    | assumption | exact List.Subset.trans (by decide) hm | apply AnsKeeps.next | apply serve_keeps
    | apply clientIfaceSetOp_keeps | intro _)

theorem State.enableClient_keeps {g : Fin 2} {rx tx on : Bool} {s : State} {l : Nat} (hk : Keeps cs s₀ s)
    (hm : ([.clerk, .hier, .tally, .flow, .lanes] : List Comp) ⊆ cs := by first | decide | (refine List.Subset.trans ?_ ‹_ ⊆ _›; decide)) : Keeps cs s₀ (State.enableClient g rx tx on s l) := by
  unfold State.enableClient
  try dsimp only
  with_reducible repeat' (first
    | assumption | exact List.Subset.trans (by decide) hm | apply Keeps.ite | apply State.updCl_keeps
    | apply State.moveClient_keeps | refine Keeps.of_pair (by assumption) ?_ | intro _ | split)

theorem clientLaneEnableOp_keeps {c : Cmd} (hk : Keeps cs s₀ s)
    (hm : ([.clerk, .hier, .tally, .boot, .flow, .lanes] : List Comp) ⊆ cs := by first | decide | (refine List.Subset.trans ?_ ‹_ ⊆ _›; decide)) : Keeps cs s₀ (clientLaneEnableOp.effect c s).2 := by
  unfold clientLaneEnableOp
  try dsimp only
  with_reducible repeat' (first
    | assumption | exact List.Subset.trans (by decide) hm | apply sets_keeps | apply State.enableClient_keeps
    | apply State.refreshBoot_keeps | apply foldl_keeps | refine Keeps.of_pair (by assumption) ?_ | intro _)

theorem execClientLaneEnable_keeps {c : Cmd} {s : State} (hk : Keeps cs s₀ s)
    (hm : ([.out, .bar0, .clerk, .hier, .tally, .boot, .flow, .lanes] : List Comp) ⊆ cs := by first | decide | (refine List.Subset.trans ?_ ‹_ ⊆ _›; decide)) : AnsKeeps cs s₀ (execClientLaneEnable c s) := by
  unfold execClientLaneEnable
  try dsimp only
  with_reducible repeat' (first
    | assumption | exact List.Subset.trans (by decide) hm | apply AnsKeeps.next | apply serve_keeps
    | apply clientLaneEnableOp_keeps | intro _)

theorem clientLaneMuteOp_keeps {c : Cmd} (hk : Keeps cs s₀ s)
    (hm : ([.tally, .lanes] : List Comp) ⊆ cs := by first | decide | (refine List.Subset.trans ?_ ‹_ ⊆ _›; decide)) : Keeps cs s₀ (clientLaneMuteOp.effect c s).2 := by
  unfold clientLaneMuteOp
  try dsimp only
  with_reducible repeat' (first
    | assumption | exact List.Subset.trans (by decide) hm | apply sets_keeps | apply State.updCl_keeps
    | apply State.bump_keeps | apply foldl_keeps | refine Keeps.of_pair (by assumption) ?_ | intro _ | split)

theorem execClientLaneMute_keeps {c : Cmd} {s : State} (hk : Keeps cs s₀ s)
    (hm : ([.out, .bar0, .clerk, .tally, .lanes] : List Comp) ⊆ cs := by first | decide | (refine List.Subset.trans ?_ ‹_ ⊆ _›; decide)) : AnsKeeps cs s₀ (execClientLaneMute c s) := by
  unfold execClientLaneMute
  try dsimp only
  with_reducible repeat' (first
    | assumption | exact List.Subset.trans (by decide) hm | apply AnsKeeps.next | apply serve_keeps
    | apply clientLaneMuteOp_keeps | intro _)

theorem clientEqSetOp_keeps {c : Cmd} (hk : Keeps cs s₀ s)
    (hm : ([.lanes] : List Comp) ⊆ cs := by first | decide | (refine List.Subset.trans ?_ ‹_ ⊆ _›; decide)) : Keeps cs s₀ (clientEqSetOp.effect c s).2 := by
  unfold clientEqSetOp
  try dsimp only
  with_reducible repeat' (first
    | assumption | exact List.Subset.trans (by decide) hm | apply sets_keeps | apply State.updCl_keeps
    | refine Keeps.of_pair (by assumption) ?_ | intro _)

theorem execClientEqSet_keeps {c : Cmd} {s : State} (hk : Keeps cs s₀ s)
    (hm : ([.out, .bar0, .clerk, .tally, .lanes] : List Comp) ⊆ cs := by first | decide | (refine List.Subset.trans ?_ ‹_ ⊆ _›; decide)) : AnsKeeps cs s₀ (execClientEqSet c s) := by
  unfold execClientEqSet
  try dsimp only
  with_reducible repeat' (first
    | assumption | exact List.Subset.trans (by decide) hm | apply AnsKeeps.next | apply serve_keeps
    | apply clientEqSetOp_keeps | intro _)

theorem clientTxSetOp_keeps {c : Cmd} (hk : Keeps cs s₀ s)
    (hm : ([.lanes] : List Comp) ⊆ cs := by first | decide | (refine List.Subset.trans ?_ ‹_ ⊆ _›; decide)) : Keeps cs s₀ (clientTxSetOp.effect c s).2 := by
  unfold clientTxSetOp
  try dsimp only
  with_reducible repeat' (first
    | assumption | exact List.Subset.trans (by decide) hm | apply sets_keeps | apply State.updCl_keeps
    | refine Keeps.of_pair (by assumption) ?_ | intro _)

theorem execClientTxSet_keeps {c : Cmd} {s : State} (hk : Keeps cs s₀ s)
    (hm : ([.out, .bar0, .clerk, .tally, .lanes] : List Comp) ⊆ cs := by first | decide | (refine List.Subset.trans ?_ ‹_ ⊆ _›; decide)) : AnsKeeps cs s₀ (execClientTxSet c s) := by
  unfold execClientTxSet
  try dsimp only
  with_reducible repeat' (first
    | assumption | exact List.Subset.trans (by decide) hm | apply AnsKeeps.next | apply serve_keeps
    | apply clientTxSetOp_keeps | intro _)

theorem clientPatternSetOp_keeps {c : Cmd} (hk : Keeps cs s₀ s)
    (hm : ([.clerk, .hier, .tally, .flow, .lanes] : List Comp) ⊆ cs := by first | decide | (refine List.Subset.trans ?_ ‹_ ⊆ _›; decide)) : Keeps cs s₀ (clientPatternSetOp.effect c s).2 := by
  unfold clientPatternSetOp
  try dsimp only
  with_reducible repeat' (first
    | assumption | exact List.Subset.trans (by decide) hm | apply sets_keeps | apply State.updCl_keeps
    | apply State.refreshLane_keeps | refine Keeps.of_pair (by assumption) ?_ | intro _)

theorem execClientPatternSet_keeps {c : Cmd} {s : State} (hk : Keeps cs s₀ s)
    (hm : ([.out, .bar0, .clerk, .hier, .tally, .flow, .lanes] : List Comp) ⊆ cs := by first | decide | (refine List.Subset.trans ?_ ‹_ ⊆ _›; decide)) : AnsKeeps cs s₀ (execClientPatternSet c s) := by
  unfold execClientPatternSet
  try dsimp only
  with_reducible repeat' (first
    | assumption | exact List.Subset.trans (by decide) hm | apply AnsKeeps.next | apply serve_keeps
    | apply clientPatternSetOp_keeps | intro _)

theorem clientLaneStatusOp_keeps {c : Cmd} (hk : Keeps cs s₀ s)
    (hm : ([.free] : List Comp) ⊆ cs := by first | decide | (refine List.Subset.trans ?_ ‹_ ⊆ _›; decide)) : Keeps cs s₀ (clientLaneStatusOp.effect c s).2 := by
  unfold clientLaneStatusOp
  try dsimp only
  with_reducible repeat' (first
    | assumption | exact List.Subset.trans (by decide) hm | apply withFree_keeps | refine Keeps.of_pair (by assumption) ?_
    | intro _)

theorem execClientLaneStatus_keeps {c : Cmd} {s : State} (hk : Keeps cs s₀ s)
    (hm : ([.free, .out, .bar0, .clerk, .tally] : List Comp) ⊆ cs := by first | decide | (refine List.Subset.trans ?_ ‹_ ⊆ _›; decide)) : AnsKeeps cs s₀ (execClientLaneStatus c s) := by
  unfold execClientLaneStatus
  try dsimp only
  with_reducible repeat' (first
    | assumption | exact List.Subset.trans (by decide) hm | apply AnsKeeps.next | apply serve_keeps
    | apply clientLaneStatusOp_keeps | intro _)

theorem clientCountersOp_keeps {c : Cmd} (hk : Keeps cs s₀ s) : Keeps cs s₀ (clientCountersOp.effect c s).2 := by
  unfold clientCountersOp
  try dsimp only
  with_reducible repeat' (first | assumption | apply reads_keeps | refine Keeps.of_pair (by assumption) ?_ | intro _)

theorem execClientCounters_keeps {c : Cmd} {s : State} (hk : Keeps cs s₀ s)
    (hm : ([.out, .bar0, .clerk, .tally] : List Comp) ⊆ cs := by first | decide | (refine List.Subset.trans ?_ ‹_ ⊆ _›; decide)) : AnsKeeps cs s₀ (execClientCounters c s) := by
  unfold execClientCounters
  try dsimp only
  with_reducible repeat' (first
    | assumption | exact List.Subset.trans (by decide) hm | apply AnsKeeps.next | apply serve_keeps
    | apply clientCountersOp_keeps | intro _)

theorem execClientLosDeclare_keeps {g : Fin 2} {l : Fin 8} {s : State} (hk : Keeps cs s₀ s)
    (hm : ([.clerk, .hier, .tally, .flow, .lanes] : List Comp) ⊆ cs := by first | decide | (refine List.Subset.trans ?_ ‹_ ⊆ _›; decide)) : AnsKeeps cs s₀ (execClientLosDeclare g l s) := by
  unfold execClientLosDeclare
  try dsimp only
  with_reducible repeat' (first
    | assumption | exact List.Subset.trans (by decide) hm | apply AnsKeeps.next | apply happen_keeps | apply State.updCl_keeps
    | apply State.bump_keeps | apply State.moveClient_keeps | refine Keeps.of_pair (by assumption) ?_ | intro _)

theorem execClientLosClear_keeps {g : Fin 2} {l : Fin 8} {s : State} (hk : Keeps cs s₀ s)
    (hm : ([.clerk, .hier, .tally, .flow, .lanes] : List Comp) ⊆ cs := by first | decide | (refine List.Subset.trans ?_ ‹_ ⊆ _›; decide)) : AnsKeeps cs s₀ (execClientLosClear g l s) := by
  unfold execClientLosClear
  try dsimp only
  with_reducible repeat' (first
    | assumption | exact List.Subset.trans (by decide) hm | apply Keeps.ite | apply AnsKeeps.ite | apply AnsKeeps.next
    | apply State.updCl_keeps | apply happen_keeps | apply State.moveClient_keeps | refine Keeps.of_pair (by assumption) ?_
    | intro _ | split)

theorem execClientBringupStepDone_keeps {g : Fin 2} {l peer : Fin 8} {late : Bool} {s : State} (hk : Keeps cs s₀ s)
    (hm : ([.free, .clerk, .hier, .tally, .flow, .lanes] : List Comp) ⊆ cs := by first | decide | (refine List.Subset.trans ?_ ‹_ ⊆ _›; decide)) : AnsKeeps cs s₀ (execClientBringupStepDone g l peer late s) := by
  unfold execClientBringupStepDone
  try dsimp only
  with_reducible repeat' (first
    | assumption | exact List.Subset.trans (by decide) hm | apply Keeps.ite | apply AnsKeeps.ite | apply AnsKeeps.next
    | apply happen_keeps | apply State.updCl_keeps | apply State.freeCause_keeps | apply State.moveClient_keeps
    | refine Keeps.of_pair (by assumption) ?_ | intro _ | split)

theorem execClientBringupExpiry_keeps {g : Fin 2} {l : Fin 8} {s : State} (hk : Keeps cs s₀ s)
    (hm : ([.clerk, .hier, .tally, .flow, .lanes] : List Comp) ⊆ cs := by first | decide | (refine List.Subset.trans ?_ ‹_ ⊆ _›; decide)) : AnsKeeps cs s₀ (execClientBringupExpiry g l s) := by
  unfold execClientBringupExpiry
  try dsimp only
  with_reducible repeat' (first
    | assumption | exact List.Subset.trans (by decide) hm | apply Keeps.ite | apply AnsKeeps.ite | apply AnsKeeps.next
    | apply State.bump_keeps | apply happen_keeps | apply evClientLane_keeps | apply State.updCl_keeps
    | apply State.moveClient_keeps | refine Keeps.of_pair (by assumption) ?_ | intro _ | split)

theorem execClientLol_keeps {g : Fin 2} {l : Fin 8} {s : State} (hk : Keeps cs s₀ s)
    (hm : ([.clerk, .hier, .tally, .flow, .lanes] : List Comp) ⊆ cs := by first | decide | (refine List.Subset.trans ?_ ‹_ ⊆ _›; decide)) : AnsKeeps cs s₀ (execClientLol g l s) := by
  unfold execClientLol
  try dsimp only
  with_reducible repeat' (first
    | assumption | exact List.Subset.trans (by decide) hm | apply AnsKeeps.next | apply happen_keeps | apply State.bump_keeps
    | apply State.moveClient_keeps | refine Keeps.of_pair (by assumption) ?_ | intro _)

theorem State.clientFault_keeps {g : Fin 2} {l : Nat} {adc : Bool} {s : State} (hk : Keeps cs s₀ s)
    (hm : ([.free, .clerk, .hier, .tally, .flow, .lanes] : List Comp) ⊆ cs := by first | decide | (refine List.Subset.trans ?_ ‹_ ⊆ _›; decide)) : Keeps cs s₀ (State.clientFault g l adc s) := by
  unfold State.clientFault
  try dsimp only
  with_reducible repeat' (first
    | assumption | exact List.Subset.trans (by decide) hm | apply Keeps.ite | apply State.updCl_keeps
    | apply State.raise_keeps | apply State.freeCause_keeps | apply State.moveClient_keeps | apply State.refreshHealth_keeps
    | refine Keeps.of_pair (by assumption) ?_ | intro _ | split)

theorem execClientAnalogueFault_keeps {g : Fin 2} {l : Fin 8} {adc : Bool} {s : State} (hk : Keeps cs s₀ s)
    (hm : ([.free, .clerk, .hier, .tally, .flow, .lanes] : List Comp) ⊆ cs := by first | decide | (refine List.Subset.trans ?_ ‹_ ⊆ _›; decide)) : AnsKeeps cs s₀ (execClientAnalogueFault g l adc s) := by
  unfold execClientAnalogueFault
  try dsimp only
  with_reducible repeat' (first
    | assumption | exact List.Subset.trans (by decide) hm | apply Keeps.ite | apply AnsKeeps.ite | apply AnsKeeps.next
    | apply happen_keeps | apply State.clientFault_keeps | refine Keeps.of_pair (by assumption) ?_ | intro _ | split)

theorem execClientLaneFaultEnd_keeps {g : Fin 2} {l : Fin 8} {adc : Bool} {s : State} (hk : Keeps cs s₀ s)
    (hm : ([.free, .clerk, .hier, .tally, .flow, .lanes] : List Comp) ⊆ cs := by first | decide | (refine List.Subset.trans ?_ ‹_ ⊆ _›; decide)) : AnsKeeps cs s₀ (execClientLaneFaultEnd g l adc s) := by
  unfold execClientLaneFaultEnd
  try dsimp only
  with_reducible repeat' (first
    | assumption | exact List.Subset.trans (by decide) hm | apply Keeps.ite | apply AnsKeeps.ite | apply AnsKeeps.next
    | apply State.updCl_keeps | apply happen_keeps | apply State.freeCause_keeps | apply State.moveClient_keeps
    | apply State.refreshHealth_keeps | refine Keeps.of_pair (by assumption) ?_ | intro _ | split)

theorem execClientEyeHold_keeps {g : Fin 2} {l : Fin 8} {below : Bool} {s : State} (hk : Keeps cs s₀ s)
    (hm : ([.clerk, .hier, .tally, .lanes] : List Comp) ⊆ cs := by first | decide | (refine List.Subset.trans ?_ ‹_ ⊆ _›; decide)) : AnsKeeps cs s₀ (execClientEyeHold g l below s) := by
  unfold execClientEyeHold
  try dsimp only
  with_reducible repeat' (first
    | assumption | exact List.Subset.trans (by decide) hm | apply AnsKeeps.next | apply happen_keeps | apply State.updCl_keeps
    | apply State.raise_keeps | refine Keeps.of_pair (by assumption) ?_ | intro _)

/-! ### HostLanes.lean -/

theorem hostEqLoadOp_keeps {c : Cmd} (hk : Keeps cs s₀ s)
    (hm : ([.hall, .lanes] : List Comp) ⊆ cs := by first | decide | (refine List.Subset.trans ?_ ‹_ ⊆ _›; decide)) : Keeps cs s₀ (hostEqLoadOp.effect c s).2 := by
  unfold hostEqLoadOp
  try dsimp only
  with_reducible repeat' (first
    | assumption | exact List.Subset.trans (by decide) hm | apply sets_keeps | apply withLanes_keeps
    | apply State.extend_keeps | apply foldl_keeps | refine Keeps.of_pair (by assumption) ?_ | intro _)

theorem execHostEqLoad_keeps {c : Cmd} {s : State} (hk : Keeps cs s₀ s)
    (hm : ([.out, .bar0, .clerk, .tally, .hall, .lanes] : List Comp) ⊆ cs := by first | decide | (refine List.Subset.trans ?_ ‹_ ⊆ _›; decide)) : AnsKeeps cs s₀ (execHostEqLoad c s) := by
  unfold execHostEqLoad
  try dsimp only
  with_reducible repeat' (first
    | assumption | exact List.Subset.trans (by decide) hm | apply AnsKeeps.next | apply serve_keeps | apply hostEqLoadOp_keeps
    | intro _)

theorem hostIfaceSetOp_keeps {c : Cmd} (hk : Keeps cs s₀ s)
    (hm : ([.clerk, .hier, .tally, .flow, .lanes] : List Comp) ⊆ cs := by first | decide | (refine List.Subset.trans ?_ ‹_ ⊆ _›; decide)) : Keeps cs s₀ (hostIfaceSetOp.effect c s).2 := by
  unfold hostIfaceSetOp
  try dsimp only
  with_reducible repeat' (first
    | assumption | exact List.Subset.trans (by decide) hm | apply Keeps.ite | apply Keeps.ite_snd
    | apply State.deleteIface_keeps | apply State.defineIface_keeps | refine Keeps.of_pair (by assumption) ?_ | intro _
    | split)

theorem execHostIfaceSet_keeps {c : Cmd} {s : State} (hk : Keeps cs s₀ s)
    (hm : ([.out, .bar0, .clerk, .hier, .tally, .flow, .lanes] : List Comp) ⊆ cs := by first | decide | (refine List.Subset.trans ?_ ‹_ ⊆ _›; decide)) : AnsKeeps cs s₀ (execHostIfaceSet c s) := by
  unfold execHostIfaceSet
  try dsimp only
  with_reducible repeat' (first
    | assumption | exact List.Subset.trans (by decide) hm | apply AnsKeeps.next | apply serve_keeps
    | apply hostIfaceSetOp_keeps | intro _)

theorem State.enableHost_keeps {c : Cmd} {s : State} {k : Nat} (hk : Keeps cs s₀ s)
    (hm : ([.clerk, .hier, .tally, .flow, .lanes] : List Comp) ⊆ cs := by first | decide | (refine List.Subset.trans ?_ ‹_ ⊆ _›; decide)) : Keeps cs s₀ (State.enableHost c s k) := by
  unfold State.enableHost
  try dsimp only
  with_reducible repeat' (first
    | assumption | exact List.Subset.trans (by decide) hm | apply Keeps.ite | apply State.updHl_keeps
    | apply State.moveHost_keeps | refine Keeps.of_pair (by assumption) ?_ | intro _ | split)

theorem hostLaneEnableOp_keeps {c : Cmd} (hk : Keeps cs s₀ s)
    (hm : ([.clerk, .hier, .tally, .boot, .flow, .lanes] : List Comp) ⊆ cs := by first | decide | (refine List.Subset.trans ?_ ‹_ ⊆ _›; decide)) : Keeps cs s₀ (hostLaneEnableOp.effect c s).2 := by
  unfold hostLaneEnableOp
  try dsimp only
  with_reducible repeat' (first
    | assumption | exact List.Subset.trans (by decide) hm | apply sets_keeps | apply State.enableHost_keeps
    | apply State.refreshBoot_keeps | apply foldl_keeps | refine Keeps.of_pair (by assumption) ?_ | intro _ | split)

theorem execHostLaneEnable_keeps {c : Cmd} {s : State} (hk : Keeps cs s₀ s)
    (hm : ([.out, .bar0, .clerk, .hier, .tally, .boot, .flow, .lanes] : List Comp) ⊆ cs := by first | decide | (refine List.Subset.trans ?_ ‹_ ⊆ _›; decide)) : AnsKeeps cs s₀ (execHostLaneEnable c s) := by
  unfold execHostLaneEnable
  try dsimp only
  with_reducible repeat' (first
    | assumption | exact List.Subset.trans (by decide) hm | apply AnsKeeps.next | apply serve_keeps
    | apply hostLaneEnableOp_keeps | intro _)

theorem hostLaneSquelchOp_keeps {c : Cmd} (hk : Keeps cs s₀ s)
    (hm : ([.tally, .lanes] : List Comp) ⊆ cs := by first | decide | (refine List.Subset.trans ?_ ‹_ ⊆ _›; decide)) : Keeps cs s₀ (hostLaneSquelchOp.effect c s).2 := by
  unfold hostLaneSquelchOp
  try dsimp only
  with_reducible repeat' (first
    | assumption | exact List.Subset.trans (by decide) hm | apply sets_keeps | apply State.updHl_keeps
    | apply State.bump_keeps | apply foldl_keeps | refine Keeps.of_pair (by assumption) ?_ | intro _ | split)

theorem execHostLaneSquelch_keeps {c : Cmd} {s : State} (hk : Keeps cs s₀ s)
    (hm : ([.out, .bar0, .clerk, .tally, .lanes] : List Comp) ⊆ cs := by first | decide | (refine List.Subset.trans ?_ ‹_ ⊆ _›; decide)) : AnsKeeps cs s₀ (execHostLaneSquelch c s) := by
  unfold execHostLaneSquelch
  try dsimp only
  with_reducible repeat' (first
    | assumption | exact List.Subset.trans (by decide) hm | apply AnsKeeps.next | apply serve_keeps
    | apply hostLaneSquelchOp_keeps | intro _)

theorem hostPatternSetOp_keeps {c : Cmd} (hk : Keeps cs s₀ s)
    (hm : ([.clerk, .hier, .tally, .flow, .lanes] : List Comp) ⊆ cs := by first | decide | (refine List.Subset.trans ?_ ‹_ ⊆ _›; decide)) : Keeps cs s₀ (hostPatternSetOp.effect c s).2 := by
  unfold hostPatternSetOp
  try dsimp only
  with_reducible repeat' (first
    | assumption | exact List.Subset.trans (by decide) hm | apply sets_keeps | apply State.updHl_keeps
    | apply State.refreshLane_keeps | refine Keeps.of_pair (by assumption) ?_ | intro _)

theorem execHostPatternSet_keeps {c : Cmd} {s : State} (hk : Keeps cs s₀ s)
    (hm : ([.out, .bar0, .clerk, .hier, .tally, .flow, .lanes] : List Comp) ⊆ cs := by first | decide | (refine List.Subset.trans ?_ ‹_ ⊆ _›; decide)) : AnsKeeps cs s₀ (execHostPatternSet c s) := by
  unfold execHostPatternSet
  try dsimp only
  with_reducible repeat' (first
    | assumption | exact List.Subset.trans (by decide) hm | apply AnsKeeps.next | apply serve_keeps
    | apply hostPatternSetOp_keeps | intro _)

theorem hostInjectOp_keeps {c : Cmd} (hk : Keeps cs s₀ s)
    (hm : ([.tally, .lanes] : List Comp) ⊆ cs := by first | decide | (refine List.Subset.trans ?_ ‹_ ⊆ _›; decide)) : Keeps cs s₀ (hostInjectOp.effect c s).2 := by
  unfold hostInjectOp
  try dsimp only
  with_reducible repeat' (first
    | assumption | exact List.Subset.trans (by decide) hm | apply Keeps.ite | apply Keeps.ite_snd | apply sets_keeps
    | apply State.bump_keeps | apply State.updHl_keeps | refine Keeps.of_pair (by assumption) ?_ | intro _ | split)

theorem execHostInject_keeps {c : Cmd} {s : State} (hk : Keeps cs s₀ s)
    (hm : ([.out, .bar0, .clerk, .tally, .lanes] : List Comp) ⊆ cs := by first | decide | (refine List.Subset.trans ?_ ‹_ ⊆ _›; decide)) : AnsKeeps cs s₀ (execHostInject c s) := by
  unfold execHostInject
  try dsimp only
  with_reducible repeat' (first
    | assumption | exact List.Subset.trans (by decide) hm | apply AnsKeeps.next | apply serve_keeps | apply hostInjectOp_keeps
    | intro _)

theorem hostLaneStatusOp_keeps {c : Cmd} (hk : Keeps cs s₀ s)
    (hm : ([.free] : List Comp) ⊆ cs := by first | decide | (refine List.Subset.trans ?_ ‹_ ⊆ _›; decide)) : Keeps cs s₀ (hostLaneStatusOp.effect c s).2 := by
  unfold hostLaneStatusOp
  try dsimp only
  with_reducible repeat' (first
    | assumption | exact List.Subset.trans (by decide) hm | apply withFree_keeps | refine Keeps.of_pair (by assumption) ?_
    | intro _)

theorem execHostLaneStatus_keeps {c : Cmd} {s : State} (hk : Keeps cs s₀ s)
    (hm : ([.free, .out, .bar0, .clerk, .tally] : List Comp) ⊆ cs := by first | decide | (refine List.Subset.trans ?_ ‹_ ⊆ _›; decide)) : AnsKeeps cs s₀ (execHostLaneStatus c s) := by
  unfold execHostLaneStatus
  try dsimp only
  with_reducible repeat' (first
    | assumption | exact List.Subset.trans (by decide) hm | apply AnsKeeps.next | apply serve_keeps
    | apply hostLaneStatusOp_keeps | intro _)

theorem hostCountersOp_keeps {c : Cmd} (hk : Keeps cs s₀ s) : Keeps cs s₀ (hostCountersOp.effect c s).2 := by
  unfold hostCountersOp
  try dsimp only
  with_reducible repeat' (first | assumption | apply reads_keeps | refine Keeps.of_pair (by assumption) ?_ | intro _)

theorem execHostCounters_keeps {c : Cmd} {s : State} (hk : Keeps cs s₀ s)
    (hm : ([.out, .bar0, .clerk, .tally] : List Comp) ⊆ cs := by first | decide | (refine List.Subset.trans ?_ ‹_ ⊆ _›; decide)) : AnsKeeps cs s₀ (execHostCounters c s) := by
  unfold execHostCounters
  try dsimp only
  with_reducible repeat' (first
    | assumption | exact List.Subset.trans (by decide) hm | apply AnsKeeps.next | apply serve_keeps
    | apply hostCountersOp_keeps | intro _)

theorem execHostLosDeclare_keeps {l : Fin 128} {s : State} (hk : Keeps cs s₀ s)
    (hm : ([.clerk, .hier, .tally, .flow, .lanes] : List Comp) ⊆ cs := by first | decide | (refine List.Subset.trans ?_ ‹_ ⊆ _›; decide)) : AnsKeeps cs s₀ (execHostLosDeclare l s) := by
  unfold execHostLosDeclare
  try dsimp only
  with_reducible repeat' (first
    | assumption | exact List.Subset.trans (by decide) hm | apply AnsKeeps.next | apply happen_keeps | apply State.updHl_keeps
    | apply State.bump_keeps | apply State.moveHost_keeps | refine Keeps.of_pair (by assumption) ?_ | intro _)

theorem execHostLosClear_keeps {l : Fin 128} {s : State} (hk : Keeps cs s₀ s)
    (hm : ([.clerk, .hier, .tally, .flow, .lanes] : List Comp) ⊆ cs := by first | decide | (refine List.Subset.trans ?_ ‹_ ⊆ _›; decide)) : AnsKeeps cs s₀ (execHostLosClear l s) := by
  unfold execHostLosClear
  try dsimp only
  with_reducible repeat' (first
    | assumption | exact List.Subset.trans (by decide) hm | apply Keeps.ite | apply AnsKeeps.ite | apply AnsKeeps.next
    | apply State.updHl_keeps | apply happen_keeps | apply State.moveHost_keeps | refine Keeps.of_pair (by assumption) ?_
    | intro _ | split)

theorem execHostLockUp_keeps {l : Fin 128} {s : State} (hk : Keeps cs s₀ s)
    (hm : ([.clerk, .hier, .tally, .flow, .lanes] : List Comp) ⊆ cs := by first | decide | (refine List.Subset.trans ?_ ‹_ ⊆ _›; decide)) : AnsKeeps cs s₀ (execHostLockUp l s) := by
  unfold execHostLockUp
  try dsimp only
  with_reducible repeat' (first
    | assumption | exact List.Subset.trans (by decide) hm | apply AnsKeeps.next | apply happen_keeps
    | apply State.moveHost_keeps | refine Keeps.of_pair (by assumption) ?_ | intro _)

theorem execHostLol_keeps {l : Fin 128} {s : State} (hk : Keeps cs s₀ s)
    (hm : ([.clerk, .hier, .tally, .flow, .lanes] : List Comp) ⊆ cs := by first | decide | (refine List.Subset.trans ?_ ‹_ ⊆ _›; decide)) : AnsKeeps cs s₀ (execHostLol l s) := by
  unfold execHostLol
  try dsimp only
  with_reducible repeat' (first
    | assumption | exact List.Subset.trans (by decide) hm | apply AnsKeeps.next | apply happen_keeps | apply State.bump_keeps
    | apply State.moveHost_keeps | refine Keeps.of_pair (by assumption) ?_ | intro _)

theorem execHostLockRestart_keeps {l : Fin 128} {s : State} (hk : Keeps cs s₀ s)
    (hm : ([.clerk, .hier, .tally] : List Comp) ⊆ cs := by first | decide | (refine List.Subset.trans ?_ ‹_ ⊆ _›; decide)) : AnsKeeps cs s₀ (execHostLockRestart l s) := by
  unfold execHostLockRestart
  try dsimp only
  with_reducible repeat' (first
    | assumption | exact List.Subset.trans (by decide) hm | apply AnsKeeps.next | apply happen_keeps | apply evHostLane_keeps
    | apply State.bump_keeps | refine Keeps.of_pair (by assumption) ?_ | intro _)

theorem execHostIfaceAlign_keeps {f : Fin 128} {locked skewed : Bool} {s : State} (hk : Keeps cs s₀ s)
    (hm : ([.clerk, .hier, .tally, .flow, .lanes] : List Comp) ⊆ cs := by first | decide | (refine List.Subset.trans ?_ ‹_ ⊆ _›; decide)) : AnsKeeps cs s₀ (execHostIfaceAlign f locked skewed s) := by
  unfold execHostIfaceAlign
  try dsimp only
  with_reducible repeat' (first
    | assumption | exact List.Subset.trans (by decide) hm | apply Keeps.ite | apply AnsKeeps.ite | apply AnsKeeps.next
    | apply withLanes_keeps | apply happen_keeps | apply State.refreshIface_keeps | refine Keeps.of_pair (by assumption) ?_
    | intro _ | split)

theorem State.hostFault_keeps {l : Nat} {rx : Bool} {s : State} (hk : Keeps cs s₀ s)
    (hm : ([.free, .clerk, .hier, .tally, .flow, .lanes] : List Comp) ⊆ cs := by first | decide | (refine List.Subset.trans ?_ ‹_ ⊆ _›; decide)) : Keeps cs s₀ (State.hostFault l rx s) := by
  unfold State.hostFault
  try dsimp only
  with_reducible repeat' (first
    | assumption | exact List.Subset.trans (by decide) hm | apply Keeps.ite | apply State.updHl_keeps
    | apply State.raise_keeps | apply State.freeCause_keeps | apply State.moveHost_keeps | apply State.refreshHealth_keeps
    | refine Keeps.of_pair (by assumption) ?_ | intro _ | split)

theorem execHostAnalogueFault_keeps {l : Fin 128} {rx : Bool} {s : State} (hk : Keeps cs s₀ s)
    (hm : ([.free, .clerk, .hier, .tally, .flow, .lanes] : List Comp) ⊆ cs := by first | decide | (refine List.Subset.trans ?_ ‹_ ⊆ _›; decide)) : AnsKeeps cs s₀ (execHostAnalogueFault l rx s) := by
  unfold execHostAnalogueFault
  try dsimp only
  with_reducible repeat' (first
    | assumption | exact List.Subset.trans (by decide) hm | apply Keeps.ite | apply AnsKeeps.ite | apply AnsKeeps.next
    | apply happen_keeps | apply State.hostFault_keeps | refine Keeps.of_pair (by assumption) ?_ | intro _ | split)

theorem execHostLaneFaultEnd_keeps {l : Fin 128} {rx : Bool} {s : State} (hk : Keeps cs s₀ s)
    (hm : ([.free, .clerk, .hier, .tally, .flow, .lanes] : List Comp) ⊆ cs := by first | decide | (refine List.Subset.trans ?_ ‹_ ⊆ _›; decide)) : AnsKeeps cs s₀ (execHostLaneFaultEnd l rx s) := by
  unfold execHostLaneFaultEnd
  try dsimp only
  with_reducible repeat' (first
    | assumption | exact List.Subset.trans (by decide) hm | apply Keeps.ite | apply AnsKeeps.ite | apply AnsKeeps.next
    | apply State.updHl_keeps | apply happen_keeps | apply State.freeCause_keeps | apply State.moveHost_keeps
    | apply State.refreshHealth_keeps | refine Keeps.of_pair (by assumption) ?_ | intro _ | split)

theorem execCheckerSync_keeps {l : Fin 128} {s : State} (hk : Keeps cs s₀ s)
    (hm : ([.lanes] : List Comp) ⊆ cs := by first | decide | (refine List.Subset.trans ?_ ‹_ ⊆ _›; decide)) : AnsKeeps cs s₀ (execCheckerSync l s) := by
  unfold execCheckerSync
  try dsimp only
  with_reducible repeat' (first
    | assumption | exact List.Subset.trans (by decide) hm | apply AnsKeeps.next | apply happen_keeps | apply State.updHl_keeps
    | refine Keeps.of_pair (by assumption) ?_ | intro _)

theorem execCheckerSyncLoss_keeps {l : Fin 128} {s : State} (hk : Keeps cs s₀ s)
    (hm : ([.tally, .lanes] : List Comp) ⊆ cs := by first | decide | (refine List.Subset.trans ?_ ‹_ ⊆ _›; decide)) : AnsKeeps cs s₀ (execCheckerSyncLoss l s) := by
  unfold execCheckerSyncLoss
  try dsimp only
  with_reducible repeat' (first
    | assumption | exact List.Subset.trans (by decide) hm | apply AnsKeeps.next | apply happen_keeps | apply State.updHl_keeps
    | apply State.bump_keeps | refine Keeps.of_pair (by assumption) ?_ | intro _)

/-! ### Calibrate.lean -/

theorem State.calCommit_keeps {kind unit : Nat} {vs : List Int} {s : State} (hk : Keeps cs s₀ s)
    (hm : ([.tx, .assay] : List Comp) ⊆ cs := by first | decide | (refine List.Subset.trans ?_ ‹_ ⊆ _›; decide)) : Keeps cs s₀ (State.calCommit kind unit vs s) := by
  unfold State.calCommit
  try dsimp only
  with_reducible repeat' (first
    | assumption | exact List.Subset.trans (by decide) hm | apply Keeps.ite | apply withAssay_keeps | apply State.updTx_keeps
    | apply State.updBias_keeps | apply State.updPwm_keeps | refine Keeps.of_pair (by assumption) ?_ | intro _ | split)

theorem State.calFault_keeps {kind unit : Nat} {vs : List Int} {s : State} (hk : Keeps cs s₀ s)
    (hm : ([.free, .clerk, .hier, .tally, .flow, .lanes] : List Comp) ⊆ cs := by first | decide | (refine List.Subset.trans ?_ ‹_ ⊆ _›; decide)) : Keeps cs s₀ (State.calFault kind unit vs s) := by
  unfold State.calFault
  try dsimp only
  with_reducible repeat' (first
    | assumption | exact List.Subset.trans (by decide) hm | apply Keeps.ite | apply State.clientFault_keeps
    | apply State.hostFault_keeps | refine Keeps.of_pair (by assumption) ?_ | intro _ | split)

theorem evCalDone_keeps {kind cause : Nat} {applied : Bool} {failed : Nat} {s : State} (hk : Keeps cs s₀ s)
    (hm : ([.clerk, .hier, .tally] : List Comp) ⊆ cs := by first | decide | (refine List.Subset.trans ?_ ‹_ ⊆ _›; decide)) : Keeps cs s₀ (evCalDone kind cause applied failed s) := by
  unfold evCalDone
  try dsimp only
  with_reducible repeat' (first
    | assumption | exact List.Subset.trans (by decide) hm | apply Keeps.ite | apply State.raise_keeps
    | refine Keeps.of_pair (by assumption) ?_ | intro _ | split)

theorem State.calEnd_keeps {c : AsCal} {apply : Bool} {status : Nat} {causes : List (Nat × Nat)} {qNew qOld : Nat} {s : State}
    (hk : Keeps cs s₀ s)
    (hm : ([.clerk, .hier, .tally, .assay] : List Comp) ⊆ cs := by first | decide | (refine List.Subset.trans ?_ ‹_ ⊆ _›; decide)) : Keeps cs s₀ (State.calEnd c apply status causes qNew qOld s) := by
  unfold State.calEnd
  try dsimp only
  with_reducible repeat' (first
    | assumption | exact List.Subset.trans (by decide) hm | apply Keeps.ite | apply State.bump_keeps | apply withAssay_keeps
    | apply evCalDone_keeps | apply State.endJob_keeps | refine Keeps.of_pair (by assumption) ?_ | intro _ | split)

theorem State.calInterrupt_keeps {c : AsCal} {status : Nat} {s : State} (hk : Keeps cs s₀ s)
    (hm : ([.clerk, .hier, .tally, .assay] : List Comp) ⊆ cs := by first | decide | (refine List.Subset.trans ?_ ‹_ ⊆ _›; decide)) : Keeps cs s₀ (State.calInterrupt c status s) := by
  unfold State.calInterrupt
  try dsimp only
  with_reducible repeat' (first
    | assumption | exact List.Subset.trans (by decide) hm | apply State.calEnd_keeps | refine Keeps.of_pair (by assumption) ?_
    | intro _)

theorem execCalRunDone_keeps {n : Nat} {results : List (Nat × Nat × List Int)} {qualityNew qualityOld : Nat} {s : State}
    (hk : Keeps cs s₀ s)
    (hm : ([.free, .clerk, .hier, .tally, .tx, .flow, .lanes, .assay] : List Comp) ⊆ cs := by first | decide | (refine List.Subset.trans ?_ ‹_ ⊆ _›; decide)) : AnsKeeps cs s₀ (execCalRunDone n results qualityNew qualityOld s) := by
  unfold execCalRunDone
  try dsimp only
  with_reducible repeat' (first
    | assumption | exact List.Subset.trans (by decide) hm | apply Keeps.ite | apply AnsKeeps.ite | apply Keeps.ite_snd
    | apply AnsKeeps.next | apply State.updBias_keeps | apply State.calCommit_keeps | apply State.calFault_keeps
    | apply happen_keeps | apply State.calInterrupt_keeps | apply State.calEnd_keeps | apply foldl_keeps
    | refine Keeps.of_pair (by assumption) ?_ | intro _ | split)

theorem assayCalRunOp_keeps {c : Cmd} (hk : Keeps cs s₀ s)
    (hm : ([.clerk, .assay] : List Comp) ⊆ cs := by first | decide | (refine List.Subset.trans ?_ ‹_ ⊆ _›; decide)) : Keeps cs s₀ (assayCalRunOp.effect c s).2 := by
  unfold assayCalRunOp
  try dsimp only
  with_reducible repeat' (first
    | assumption | exact List.Subset.trans (by decide) hm | apply State.startJob_keeps | apply withAssay_keeps
    | refine Keeps.of_pair (by assumption) ?_ | intro _)

theorem execAssayCalRun_keeps {c : Cmd} {s : State} (hk : Keeps cs s₀ s)
    (hm : ([.out, .bar0, .clerk, .tally, .assay] : List Comp) ⊆ cs := by first | decide | (refine List.Subset.trans ?_ ‹_ ⊆ _›; decide)) : AnsKeeps cs s₀ (execAssayCalRun c s) := by
  unfold execAssayCalRun
  try dsimp only
  with_reducible repeat' (first
    | assumption | exact List.Subset.trans (by decide) hm | apply AnsKeeps.next | apply serve_keeps
    | apply assayCalRunOp_keeps | intro _)

theorem execCalBackground_keeps {kind : Fin 16} {s : State} (hk : Keeps cs s₀ s)
    (hm : ([.tally, .assay] : List Comp) ⊆ cs := by first | decide | (refine List.Subset.trans ?_ ‹_ ⊆ _›; decide)) : AnsKeeps cs s₀ (execCalBackground kind s) := by
  unfold execCalBackground
  try dsimp only
  with_reducible repeat' (first
    | assumption | exact List.Subset.trans (by decide) hm | apply Keeps.ite | apply AnsKeeps.ite | apply AnsKeeps.next
    | apply State.bump_keeps | apply withAssay_keeps | apply happen_keeps | apply foldl_keeps
    | refine Keeps.of_pair (by assumption) ?_ | intro _ | split)

theorem assayCalSetOp_keeps {c : Cmd} (hk : Keeps cs s₀ s)
    (hm : ([.assay] : List Comp) ⊆ cs := by first | decide | (refine List.Subset.trans ?_ ‹_ ⊆ _›; decide)) : Keeps cs s₀ (assayCalSetOp.effect c s).2 := by
  unfold assayCalSetOp
  try dsimp only
  with_reducible repeat' (first
    | assumption | exact List.Subset.trans (by decide) hm | apply sets_keeps | apply withAssay_keeps
    | refine Keeps.of_pair (by assumption) ?_ | intro _)

theorem execAssayCalSet_keeps {c : Cmd} {s : State} (hk : Keeps cs s₀ s)
    (hm : ([.out, .bar0, .clerk, .tally, .assay] : List Comp) ⊆ cs := by first | decide | (refine List.Subset.trans ?_ ‹_ ⊆ _›; decide)) : AnsKeeps cs s₀ (execAssayCalSet c s) := by
  unfold execAssayCalSet
  try dsimp only
  with_reducible repeat' (first
    | assumption | exact List.Subset.trans (by decide) hm | apply AnsKeeps.next | apply serve_keeps
    | apply assayCalSetOp_keeps | intro _)

theorem evPace_keeps {cause : Nat} {s : State} (hk : Keeps cs s₀ s)
    (hm : ([.free, .clerk, .hier, .tally] : List Comp) ⊆ cs := by first | decide | (refine List.Subset.trans ?_ ‹_ ⊆ _›; decide)) : Keeps cs s₀ (evPace cause s) := by
  unfold evPace
  try dsimp only
  with_reducible repeat' (first
    | assumption | exact List.Subset.trans (by decide) hm | apply Keeps.ite | apply State.take_keeps | apply State.raise_keeps
    | refine Keeps.of_pair (by assumption) ?_ | intro _ | split)

theorem State.avsCommand_keeps {mv : Nat} {ok : Bool} {s : State} (hk : Keeps cs s₀ s)
    (hm : ([.free, .out, .clerk, .hier, .tally, .assay] : List Comp) ⊆ cs := by first | decide | (refine List.Subset.trans ?_ ‹_ ⊆ _›; decide)) : Keeps cs s₀ (State.avsCommand mv ok s) := by
  unfold State.avsCommand
  try dsimp only
  with_reducible repeat' (first
    | assumption | exact List.Subset.trans (by decide) hm | apply Keeps.ite | apply withAssay_keeps | apply State.emit_keeps
    | apply State.bump_keeps | apply evPace_keeps | refine Keeps.of_pair (by assumption) ?_ | intro _ | split)

theorem State.shortfall_keeps {s : State} (hk : Keeps cs s₀ s)
    (hm : ([.free, .bar0, .clerk, .hier, .tally, .assay] : List Comp) ⊆ cs := by first | decide | (refine List.Subset.trans ?_ ‹_ ⊆ _›; decide)) : Keeps cs s₀ (State.shortfall s) := by
  unfold State.shortfall
  try dsimp only
  with_reducible repeat' (first
    | assumption | exact List.Subset.trans (by decide) hm | apply Keeps.ite | apply withBar0_keeps | apply evPace_keeps
    | apply withAssay_keeps | apply State.refreshHealth_keeps | refine Keeps.of_pair (by assumption) ?_ | intro _ | split)

theorem execPaceSample_keeps {readings : List (Nat × Nat × Nat)} {predicted : Nat} {ok : Bool} {readBack : Nat} {s : State}
    (hk : Keeps cs s₀ s)
    (hm : ([.free, .out, .bar0, .clerk, .hier, .tally, .assay] : List Comp) ⊆ cs := by first | decide | (refine List.Subset.trans ?_ ‹_ ⊆ _›; decide)) : AnsKeeps cs s₀ (execPaceSample readings predicted ok readBack s) := by
  unfold execPaceSample
  try dsimp only
  with_reducible repeat' (first
    | assumption | exact List.Subset.trans (by decide) hm | apply Keeps.ite | apply AnsKeeps.ite | apply Keeps.ite_snd
    | apply AnsKeeps.next | apply withAssay_keeps | apply happen_keeps | apply State.avsCommand_keeps
    | apply State.shortfall_keeps | apply foldl_keeps | refine Keeps.of_pair (by assumption) ?_ | intro _ | split)

theorem execPaceLowerStep_keeps {ok : Bool} {s : State} (hk : Keeps cs s₀ s)
    (hm : ([.free, .out, .clerk, .hier, .tally, .assay] : List Comp) ⊆ cs := by first | decide | (refine List.Subset.trans ?_ ‹_ ⊆ _›; decide)) : AnsKeeps cs s₀ (execPaceLowerStep ok s) := by
  unfold execPaceLowerStep
  try dsimp only
  with_reducible repeat' (first
    | assumption | exact List.Subset.trans (by decide) hm | apply AnsKeeps.next | apply happen_keeps
    | apply State.avsCommand_keeps | refine Keeps.of_pair (by assumption) ?_ | intro _ | split)

theorem execPaceRestored_keeps {s : State} (hk : Keeps cs s₀ s)
    (hm : ([.free, .bar0, .clerk, .hier, .tally, .assay] : List Comp) ⊆ cs := by first | decide | (refine List.Subset.trans ?_ ‹_ ⊆ _›; decide)) : AnsKeeps cs s₀ (execPaceRestored s) := by
  unfold execPaceRestored
  try dsimp only
  with_reducible repeat' (first
    | assumption | exact List.Subset.trans (by decide) hm | apply AnsKeeps.next | apply happen_keeps
    | apply State.shortfall_keeps | apply evPace_keeps | apply withAssay_keeps | refine Keeps.of_pair (by assumption) ?_
    | intro _ | split)

theorem execAvsbusRetry_keeps {ok : Bool} {s : State} (hk : Keeps cs s₀ s)
    (hm : ([.free, .out, .clerk, .hier, .tally, .assay] : List Comp) ⊆ cs := by first | decide | (refine List.Subset.trans ?_ ‹_ ⊆ _›; decide)) : AnsKeeps cs s₀ (execAvsbusRetry ok s) := by
  unfold execAvsbusRetry
  try dsimp only
  with_reducible repeat' (first
    | assumption | exact List.Subset.trans (by decide) hm | apply AnsKeeps.next | apply happen_keeps
    | apply State.avsCommand_keeps | refine Keeps.of_pair (by assumption) ?_ | intro _)

theorem execAvsMismatchHold_keeps {readBack : Nat} {s : State} (hk : Keeps cs s₀ s)
    (hm : ([.free, .clerk, .hier, .tally, .assay] : List Comp) ⊆ cs := by first | decide | (refine List.Subset.trans ?_ ‹_ ⊆ _›; decide)) : AnsKeeps cs s₀ (execAvsMismatchHold readBack s) := by
  unfold execAvsMismatchHold
  try dsimp only
  with_reducible repeat' (first
    | assumption | exact List.Subset.trans (by decide) hm | apply AnsKeeps.next | apply happen_keeps | apply evPace_keeps
    | apply withAssay_keeps | refine Keeps.of_pair (by assumption) ?_ | intro _ | split)

theorem assayPaceStatusOp_keeps {c : Cmd} (hk : Keeps cs s₀ s)
    (hm : ([.free, .bar0, .clerk, .hier, .tally, .assay] : List Comp) ⊆ cs := by first | decide | (refine List.Subset.trans ?_ ‹_ ⊆ _›; decide)) : Keeps cs s₀ (assayPaceStatusOp.effect c s).2 := by
  unfold assayPaceStatusOp
  try dsimp only
  with_reducible repeat' (first
    | assumption | exact List.Subset.trans (by decide) hm | apply Keeps.ite | apply Keeps.ite_snd
    | apply State.shortfall_keeps | apply withFree_keeps | apply foldl_keeps | refine Keeps.of_pair (by assumption) ?_
    | intro _ | split)

theorem execAssayPaceStatus_keeps {c : Cmd} {s : State} (hk : Keeps cs s₀ s)
    (hm : ([.free, .out, .bar0, .clerk, .hier, .tally, .assay] : List Comp) ⊆ cs := by first | decide | (refine List.Subset.trans ?_ ‹_ ⊆ _›; decide)) : AnsKeeps cs s₀ (execAssayPaceStatus c s) := by
  unfold execAssayPaceStatus
  try dsimp only
  with_reducible repeat' (first
    | assumption | exact List.Subset.trans (by decide) hm | apply AnsKeeps.next | apply serve_keeps
    | apply assayPaceStatusOp_keeps | intro _)

theorem execQualityUpdate_keeps {m : Fin 16} {index : Nat} {value : Option Int} {reference : Int} {measured : Bool} {s : State}
    (hk : Keeps cs s₀ s)
    (hm : ([.free, .clerk, .hier, .tally, .assay] : List Comp) ⊆ cs := by first | decide | (refine List.Subset.trans ?_ ‹_ ⊆ _›; decide)) : AnsKeeps cs s₀ (execQualityUpdate m index value reference measured s) := by
  unfold execQualityUpdate
  try dsimp only
  with_reducible repeat' (first
    | assumption | exact List.Subset.trans (by decide) hm | apply Keeps.ite | apply AnsKeeps.ite | apply AnsKeeps.next
    | apply State.take_keeps | apply happen_keeps | apply withAssay_keeps | apply State.raise_keeps
    | refine Keeps.of_pair (by assumption) ?_ | intro _ | split)

theorem assayQualityReadOp_keeps {c : Cmd} (hk : Keeps cs s₀ s) : Keeps cs s₀ (assayQualityReadOp.effect c s).2 := by
  unfold assayQualityReadOp
  try dsimp only
  with_reducible repeat' (first | assumption | apply reads_keeps | refine Keeps.of_pair (by assumption) ?_ | intro _)

theorem execAssayQualityRead_keeps {c : Cmd} {s : State} (hk : Keeps cs s₀ s)
    (hm : ([.out, .bar0, .clerk, .tally] : List Comp) ⊆ cs := by first | decide | (refine List.Subset.trans ?_ ‹_ ⊆ _›; decide)) : AnsKeeps cs s₀ (execAssayQualityRead c s) := by
  unfold execAssayQualityRead
  try dsimp only
  with_reducible repeat' (first
    | assumption | exact List.Subset.trans (by decide) hm | apply AnsKeeps.next | apply serve_keeps
    | apply assayQualityReadOp_keeps | intro _)

/-! ### Cancel.lean -/

theorem State.cancelChange_keeps {c : Change} {s : State} (hk : Keeps cs s₀ s)
    (hm : ([.clerk, .hier, .tally, .serv, .fec, .flow] : List Comp) ⊆ cs := by first | decide | (refine List.Subset.trans ?_ ‹_ ⊆ _›; decide)) : Keeps cs s₀ (State.cancelChange c s) := by
  unfold State.cancelChange
  try dsimp only
  with_reducible repeat' (first
    | assumption | exact List.Subset.trans (by decide) hm | apply Keeps.ite | apply State.endChange_keeps
    | apply State.setChange_keeps | apply State.setBlock_keeps | apply State.afterFault_keeps
    | refine Keeps.of_pair (by assumption) ?_ | intro _ | split)

theorem State.cancelHandover_keeps {j : Job} {s : State} (hk : Keeps cs s₀ s)
    (hm : ([.clerk, .hier, .tally, .serv] : List Comp) ⊆ cs := by first | decide | (refine List.Subset.trans ?_ ‹_ ⊆ _›; decide)) : Keeps cs s₀ (State.cancelHandover j s) := by
  unfold State.cancelHandover
  try dsimp only
  with_reducible repeat' (first
    | assumption | exact List.Subset.trans (by decide) hm | apply Keeps.ite | apply State.setJob_keeps | apply withHier_keeps
    | apply withServ_keeps | apply State.endJob_keeps | apply State.refreshHealth_keeps
    | refine Keeps.hier' (cs := cs) (s₀ := s₀) rfl rfl ?_ | refine Keeps.of_pair (by assumption) ?_ | intro _ | split)

theorem State.cancelStep_keeps {j : Job} {s : State} (hk : Keeps cs s₀ s)
    (hm : ([.clerk, .hier, .tally, .ra] : List Comp) ⊆ cs := by first | decide | (refine List.Subset.trans ?_ ‹_ ⊆ _›; decide)) : Keeps cs s₀ (State.cancelStep j s) := by
  unfold State.cancelStep
  try dsimp only
  with_reducible repeat' (first
    | assumption | exact List.Subset.trans (by decide) hm | apply Keeps.ite | apply State.updRa_keeps
    | apply State.endStep_keeps | refine Keeps.of_pair (by assumption) ?_ | intro _ | split)

theorem State.cancelJob_keeps {j : Job} {s : State} (hk : Keeps cs s₀ s)
    (hm : ([.free, .clerk, .hier, .tally, .hall, .serv, .rx, .fec, .ra, .store, .flow, .assay] : List Comp) ⊆ cs := by first | decide | (refine List.Subset.trans ?_ ‹_ ⊆ _›; decide)) : Keeps cs s₀ (State.cancelJob j s) := by
  unfold State.cancelJob
  try dsimp only
  with_reducible repeat' (first
    | assumption | exact List.Subset.trans (by decide) hm | apply Keeps.ite | apply State.calInterrupt_keeps
    | apply State.cancelShrink_keeps | apply State.endRestore_keeps | apply State.updRx_keeps | apply State.endJob_keeps
    | apply State.cancelStep_keeps | apply State.setJob_keeps | apply State.setVerified_keeps
    | apply State.cancelHandover_keeps | apply State.cancelChange_keeps | apply State.endSweep_keeps
    | refine Keeps.of_pair (by assumption) ?_ | intro _ | split)

theorem clerkJobCancelOp_keeps {c : Cmd} (hk : Keeps cs s₀ s)
    (hm : ([.free, .clerk, .hier, .tally, .hall, .serv, .rx, .fec, .ra, .store, .flow, .assay] : List Comp) ⊆ cs := by first | decide | (refine List.Subset.trans ?_ ‹_ ⊆ _›; decide)) : Keeps cs s₀ (clerkJobCancelOp.effect c s).2 := by
  unfold clerkJobCancelOp
  try dsimp only
  with_reducible repeat' (first
    | assumption | exact List.Subset.trans (by decide) hm | apply Keeps.ite | apply Keeps.ite_snd
    | apply State.cancelJob_keeps | refine Keeps.of_pair (by assumption) ?_ | intro _ | split)

theorem execClerkJobCancel_keeps {c : Cmd} {s : State} (hk : Keeps cs s₀ s)
    (hm : ([.free, .out, .bar0, .clerk, .hier, .tally, .hall, .serv, .rx, .fec, .ra, .store, .flow, .assay] : List Comp) ⊆ cs := by first | decide | (refine List.Subset.trans ?_ ‹_ ⊆ _›; decide)) : AnsKeeps cs s₀ (execClerkJobCancel c s) := by
  unfold execClerkJobCancel
  try dsimp only
  with_reducible repeat' (first
    | assumption | exact List.Subset.trans (by decide) hm | apply AnsKeeps.next | apply serve_keeps
    | apply clerkJobCancelOp_keeps | intro _)

/-! ### Clerk.lean -/

theorem clerkNopOp_keeps {c : Cmd} (hk : Keeps cs s₀ s) : Keeps cs s₀ (clerkNopOp.effect c s).2 := by
  unfold clerkNopOp
  try dsimp only
  with_reducible repeat' (first | assumption | apply reads_keeps | intro _)

theorem execClerkNop_keeps {c : Cmd} {s : State} (hk : Keeps cs s₀ s)
    (hm : ([.out, .bar0, .clerk, .tally] : List Comp) ⊆ cs := by first | decide | (refine List.Subset.trans ?_ ‹_ ⊆ _›; decide)) : AnsKeeps cs s₀ (execClerkNop c s) := by
  unfold execClerkNop
  try dsimp only
  with_reducible repeat' (first
    | assumption | exact List.Subset.trans (by decide) hm | apply AnsKeeps.next | apply serve_keeps | apply clerkNopOp_keeps
    | intro _)

theorem clerkJobResultOp_keeps {c : Cmd} (hk : Keeps cs s₀ s) : Keeps cs s₀ (clerkJobResultOp.effect c s).2 := by
  unfold clerkJobResultOp
  try dsimp only
  with_reducible repeat' (first | assumption | apply reads_keeps | refine Keeps.of_pair (by assumption) ?_ | intro _)

theorem execClerkJobResult_keeps {c : Cmd} {s : State} (hk : Keeps cs s₀ s)
    (hm : ([.out, .bar0, .clerk, .tally] : List Comp) ⊆ cs := by first | decide | (refine List.Subset.trans ?_ ‹_ ⊆ _›; decide)) : AnsKeeps cs s₀ (execClerkJobResult c s) := by
  unfold execClerkJobResult
  try dsimp only
  with_reducible repeat' (first
    | assumption | exact List.Subset.trans (by decide) hm | apply AnsKeeps.next | apply serve_keeps
    | apply clerkJobResultOp_keeps | intro _)

theorem clerkProtoCountersOp_keeps {c : Cmd} (hk : Keeps cs s₀ s) : Keeps cs s₀ (clerkProtoCountersOp.effect c s).2 := by
  unfold clerkProtoCountersOp
  try dsimp only
  with_reducible repeat' (first | assumption | apply reads_keeps | refine Keeps.of_pair (by assumption) ?_ | intro _)

theorem execClerkProtoCounters_keeps {c : Cmd} {s : State} (hk : Keeps cs s₀ s)
    (hm : ([.out, .bar0, .clerk, .tally] : List Comp) ⊆ cs := by first | decide | (refine List.Subset.trans ?_ ‹_ ⊆ _›; decide)) : AnsKeeps cs s₀ (execClerkProtoCounters c s) := by
  unfold execClerkProtoCounters
  try dsimp only
  with_reducible repeat' (first
    | assumption | exact List.Subset.trans (by decide) hm | apply AnsKeeps.next | apply serve_keeps
    | apply clerkProtoCountersOp_keeps | intro _)

theorem clerkEventFilterSetOp_keeps {c : Cmd} (hk : Keeps cs s₀ s)
    (hm : ([.clerk] : List Comp) ⊆ cs := by first | decide | (refine List.Subset.trans ?_ ‹_ ⊆ _›; decide)) : Keeps cs s₀ (clerkEventFilterSetOp.effect c s).2 := by
  unfold clerkEventFilterSetOp
  dsimp only [sets, P2.upd]
  refine withEv_keeps hk hk.clerk fun j => ?_
  exact ev_get (x := s.clerk.ev) (i := if (c.p 0).bit 0 then 1 else 0) (hk.clerk j).1 (hk.clerk j).2.1

theorem execClerkEventFilterSet_keeps {c : Cmd} {s : State} (hk : Keeps cs s₀ s)
    (hm : ([.out, .bar0, .clerk, .tally] : List Comp) ⊆ cs := by first | decide | (refine List.Subset.trans ?_ ‹_ ⊆ _›; decide)) : AnsKeeps cs s₀ (execClerkEventFilterSet c s) := by
  unfold execClerkEventFilterSet
  try dsimp only
  with_reducible repeat' (first
    | assumption | exact List.Subset.trans (by decide) hm | apply AnsKeeps.next | apply serve_keeps
    | apply clerkEventFilterSetOp_keeps | intro _)

theorem clerkBootStatusOp_keeps {c : Cmd} (hk : Keeps cs s₀ s) : Keeps cs s₀ (clerkBootStatusOp.effect c s).2 := by
  unfold clerkBootStatusOp
  try dsimp only
  with_reducible repeat' (first | assumption | apply reads_keeps | intro _)

theorem execClerkBootStatus_keeps {c : Cmd} {s : State} (hk : Keeps cs s₀ s)
    (hm : ([.out, .bar0, .clerk, .tally] : List Comp) ⊆ cs := by first | decide | (refine List.Subset.trans ?_ ‹_ ⊆ _›; decide)) : AnsKeeps cs s₀ (execClerkBootStatus c s) := by
  unfold execClerkBootStatus
  try dsimp only
  with_reducible repeat' (first
    | assumption | exact List.Subset.trans (by decide) hm | apply AnsKeeps.next | apply serve_keeps
    | apply clerkBootStatusOp_keeps | intro _)

theorem clerkMapReadOp_keeps {c : Cmd} (hk : Keeps cs s₀ s) : Keeps cs s₀ (clerkMapReadOp.effect c s).2 := by
  unfold clerkMapReadOp
  try dsimp only
  with_reducible repeat' (first | assumption | apply reads_keeps | refine Keeps.of_pair (by assumption) ?_ | intro _)

theorem execClerkMapRead_keeps {c : Cmd} {s : State} (hk : Keeps cs s₀ s)
    (hm : ([.out, .bar0, .clerk, .tally] : List Comp) ⊆ cs := by first | decide | (refine List.Subset.trans ?_ ‹_ ⊆ _›; decide)) : AnsKeeps cs s₀ (execClerkMapRead c s) := by
  unfold execClerkMapRead
  try dsimp only
  with_reducible repeat' (first
    | assumption | exact List.Subset.trans (by decide) hm | apply AnsKeeps.next | apply serve_keeps
    | apply clerkMapReadOp_keeps | intro _)

theorem setIdle_keeps {dir limit : Nat} {cells : List Nat} {s : State} (hk : Keeps cs s₀ s)
    (hm : ([.hier] : List Comp) ⊆ cs := by first | decide | (refine List.Subset.trans ?_ ‹_ ⊆ _›; decide)) : Keeps cs s₀ (setIdle dir limit cells s) := by
  unfold setIdle
  try dsimp only
  with_reducible repeat' (first
    | assumption | exact List.Subset.trans (by decide) hm | apply Keeps.ite | apply State.setFifo_keeps | apply foldl_keeps
    | refine Keeps.of_pair (by assumption) ?_ | intro _ | split)

theorem clerkFifoIdleSetOp_keeps {c : Cmd} (hk : Keeps cs s₀ s)
    (hm : ([.hier] : List Comp) ⊆ cs := by first | decide | (refine List.Subset.trans ?_ ‹_ ⊆ _›; decide)) : Keeps cs s₀ (clerkFifoIdleSetOp.effect c s).2 := by
  unfold clerkFifoIdleSetOp
  try dsimp only
  with_reducible repeat' (first
    | assumption | exact List.Subset.trans (by decide) hm | apply sets_keeps | apply setIdle_keeps
    | refine Keeps.of_pair (by assumption) ?_ | intro _)

theorem execClerkFifoIdleSet_keeps {c : Cmd} {s : State} (hk : Keeps cs s₀ s)
    (hm : ([.out, .bar0, .clerk, .hier, .tally] : List Comp) ⊆ cs := by first | decide | (refine List.Subset.trans ?_ ‹_ ⊆ _›; decide)) : AnsKeeps cs s₀ (execClerkFifoIdleSet c s) := by
  unfold execClerkFifoIdleSet
  try dsimp only
  with_reducible repeat' (first
    | assumption | exact List.Subset.trans (by decide) hm | apply AnsKeeps.next | apply serve_keeps
    | apply clerkFifoIdleSetOp_keeps | intro _)

/-! ### Take.lean -/

theorem opsClerk_keeps (hm : ([.free, .clerk, .hier, .tally, .hall, .serv, .rx, .fec, .ra, .store, .flow, .assay] : List Comp) ⊆ cs) : ∀ op ∈ opsClerk, ∀ c s, Keeps cs s₀ s → Keeps cs s₀ (op.effect c s).2 := by
  unfold opsClerk
  simp only [List.forall_mem_cons, List.not_mem_nil, false_imp_iff, implies_true, and_true]
  exact ⟨fun _ _ h => clerkNopOp_keeps h, fun _ _ h => clerkJobResultOp_keeps h, fun _ _ h => clerkJobCancelOp_keeps h, fun _ _ h => clerkProtoCountersOp_keeps h, fun _ _ h => clerkEventFilterSetOp_keeps h, fun _ _ h => clerkBootStatusOp_keeps h, fun _ _ h => clerkMapReadOp_keeps h, fun _ _ h => clerkFifoIdleSetOp_keeps h⟩

theorem opsTiming_keeps (hm : ([.free, .clerk, .hier, .tally, .timing] : List Comp) ⊆ cs) : ∀ op ∈ opsTiming, ∀ c s, Keeps cs s₀ s → Keeps cs s₀ (op.effect c s).2 := by
  unfold opsTiming
  simp only [List.forall_mem_cons, List.not_mem_nil, false_imp_iff, implies_true, and_true]
  exact ⟨fun _ _ h => timingConfigOp_keeps h, fun _ _ h => timingRefSetOp_keeps h, fun _ _ h => timingDpllSetOp_keeps h, fun _ _ h => timingPrioSetOp_keeps h, fun _ _ h => timingOutSetOp_keeps h, fun _ _ h => timingFpAlignOp_keeps h, fun _ _ h => timingForceOp_keeps h, fun _ _ h => timingTodSetOp_keeps h, fun _ _ h => timingStatusOp_keeps h, fun _ _ h => timingRefStatusOp_keeps h, fun _ _ h => timingDpllStatusOp_keeps h, fun _ _ h => timingCountersOp_keeps h⟩

theorem opsAssay_keeps (hm : ([.free, .bar0, .clerk, .hier, .tally, .assay] : List Comp) ⊆ cs) : ∀ op ∈ opsAssay, ∀ c s, Keeps cs s₀ s → Keeps cs s₀ (op.effect c s).2 := by
  unfold opsAssay
  simp only [List.forall_mem_cons, List.not_mem_nil, false_imp_iff, implies_true, and_true]
  exact ⟨fun _ _ h => assayTimerSetOp_keeps h, fun _ _ h => assaySeqSetOp_keeps h, fun _ _ h => assayChanSetOp_keeps h, fun _ _ h => assayTelemReadOp_keeps h, fun _ _ h => assayPwmSetOp_keeps h, fun _ _ h => assayBiasSetOp_keeps h, fun _ _ h => assayBiasStatusOp_keeps h, fun _ _ h => assayCalRunOp_keeps h, fun _ _ h => assayCalSetOp_keeps h, fun _ _ h => assayQualityReadOp_keeps h, fun _ _ h => assayPaceStatusOp_keeps h, fun _ _ h => assayCountersOp_keeps h⟩

theorem opsCrier_keeps (hm : ([.free, .clerk, .hier, .tally, .hall, .crier, .store] : List Comp) ⊆ cs) : ∀ op ∈ opsCrier, ∀ c s, Keeps cs s₀ s → Keeps cs s₀ (op.effect c s).2 := by
  unfold opsCrier
  simp only [List.forall_mem_cons, List.not_mem_nil, false_imp_iff, implies_true, and_true]
  exact ⟨fun _ _ h => crierPortSetOp_keeps h, fun _ _ h => crierUnitSetOp_keeps h, fun _ _ h => crierSendOp_keeps h, fun _ _ h => crierReceiveOp_keeps h, fun _ _ h => crierAdmitOp_keeps h, fun _ _ h => crierMemberReadOp_keeps h, fun _ _ h => crierStatusOp_keeps h, fun _ _ h => crierCountersOp_keeps h⟩

theorem opsStore_keeps (hm : ([.free, .clerk, .hier, .tally, .store, .flow] : List Comp) ⊆ cs) : ∀ op ∈ opsStore, ∀ c s, Keeps cs s₀ s → Keeps cs s₀ (op.effect c s).2 := by
  unfold opsStore
  simp only [List.forall_mem_cons, List.not_mem_nil, false_imp_iff, implies_true, and_true]
  exact ⟨fun _ _ h => storePartCreateOp_keeps h, fun _ _ h => storePartResizeOp_keeps h, fun _ _ h => storePartDeleteOp_keeps h, fun _ _ h => storePartSetOp_keeps h, fun _ _ h => storePartStatusOp_keeps h, fun _ _ h => storeStatusOp_keeps h, fun _ _ h => storeCountersOp_keeps h, fun _ _ h => storeStackRetireOp_keeps h, fun _ _ h => storeStackRestoreOp_keeps h, fun _ _ h => storeInjectOp_keeps h⟩

theorem opsLoom_keeps (hm : ([.free, .clerk, .hier, .tally, .fec, .loom, .ra, .flow] : List Comp) ⊆ cs) : ∀ op ∈ opsLoom, ∀ c s, Keeps cs s₀ s → Keeps cs s₀ (op.effect c s).2 := by
  unfold opsLoom
  simp only [List.forall_mem_cons, List.not_mem_nil, false_imp_iff, implies_true, and_true]
  exact ⟨fun _ _ h => loomPortConfigOp_keeps h, fun _ _ h => loomBoltSetOp_keeps h, fun _ _ h => loomThreadSetOp_keeps h, fun _ _ h => loomProtSetOp_keeps h, fun _ _ h => loomProtSwitchOp_keeps h, fun _ _ h => loomPortStatusOp_keeps h, fun _ _ h => loomBoltStatusOp_keeps h, fun _ _ h => loomThreadStatusOp_keeps h, fun _ _ h => loomPmReadOp_keeps h, fun _ _ h => loomMapReadOp_keeps h, fun _ _ h => loomCountersOp_keeps h⟩

theorem opsFlow_keeps (hm : ([.free, .clerk, .hier, .tally, .fec, .store, .flow] : List Comp) ⊆ cs) : ∀ op ∈ opsFlow, ∀ c s, Keeps cs s₀ s → Keeps cs s₀ (op.effect c s).2 := by
  unfold opsFlow
  simp only [List.forall_mem_cons, List.not_mem_nil, false_imp_iff, implies_true, and_true]
  exact ⟨fun _ _ h => flowIfaceSetOp_keeps h, fun _ _ h => flowSetOp_keeps h, fun _ _ h => flowClassMapOp_keeps h, fun _ _ h => flowThreadSetOp_keeps h, fun _ _ h => flowStatusOp_keeps h, fun _ _ h => flowCountersOp_keeps h, fun _ _ h => flowRegionCountersOp_keeps h⟩

theorem opsCiph_keeps (hm : ([.free, .clerk, .hier, .tally, .store, .flow] : List Comp) ⊆ cs) : ∀ op ∈ opsCiph, ∀ c s, Keeps cs s₀ s → Keeps cs s₀ (op.effect c s).2 := by
  unfold opsCiph
  simp only [List.forall_mem_cons, List.not_mem_nil, false_imp_iff, implies_true, and_true]
  exact ⟨fun _ _ h => ciphKeyLoadOp_keeps h, fun _ _ h => ciphRolloverOp_keeps h, fun _ _ h => ciphCtxStatusOp_keeps h, fun _ _ h => ciphPoolStatusOp_keeps h, fun _ _ h => ciphCountersOp_keeps h⟩

theorem opsFec_keeps (hm : ([.fec] : List Comp) ⊆ cs) : ∀ op ∈ opsFec, ∀ c s, Keeps cs s₀ s → Keeps cs s₀ (op.effect c s).2 := by
  unfold opsFec
  simp only [List.forall_mem_cons, List.not_mem_nil, false_imp_iff, implies_true, and_true]
  exact ⟨fun _ _ h => fecPortConfigOp_keeps h, fun _ _ h => fecPortStatusOp_keeps h, fun _ _ h => fecPortCountersOp_keeps h, fun _ _ h => fecPoolStatusOp_keeps h, fun _ _ h => fecRegionCountersOp_keeps h, fun _ _ h => fecCodeReadOp_keeps h, fun _ _ h => fecInjectOp_keeps h⟩

theorem opsLine_keeps (hm : ([.free, .out, .bar0, .clerk, .hier, .tally, .boot, .hall, .rx, .rw, .fec, .tx, .loom, .ra, .crier, .flow] : List Comp) ⊆ cs) : ∀ op ∈ opsLine, ∀ c s, Keeps cs s₀ s → Keeps cs s₀ (op.effect c s).2 := by
  unfold opsLine
  simp only [List.forall_mem_cons, List.not_mem_nil, false_imp_iff, implies_true, and_true]
  exact ⟨fun _ _ h => lineRxConfigOp_keeps h, fun _ _ h => lineRxEnableOp_keeps h, fun _ _ h => lineRxCdSetOp_keeps h, fun _ _ h => lineRxCdScanOp_keeps h, fun _ _ h => lineRxEqSetOp_keeps h, fun _ _ h => lineRxLoopSetOp_keeps h, fun _ _ h => lineRxFrontSetOp_keeps h, fun _ _ h => lineRxStatusOp_keeps h, fun _ _ h => lineRxCountersOp_keeps h, fun _ _ h => lineTxConfigOp_keeps h, fun _ _ h => lineTxEnableOp_keeps h, fun _ _ h => lineTxMuteOp_keeps h, fun _ _ h => lineTxRampSetOp_keeps h, fun _ _ h => lineTxPrecompSetOp_keeps h, fun _ _ h => lineTxBackSetOp_keeps h, fun _ _ h => lineTxEmphLoadOp_keeps h, fun _ _ h => lineTxStatusOp_keeps h, fun _ _ h => lineTxCountersOp_keeps h, fun _ _ h => lineRaConfigOp_keeps h, fun _ _ h => lineRaStepOp_keeps h, fun _ _ h => lineRaGuardSetOp_keeps h, fun _ _ h => lineRaPlanReadOp_keeps h, fun _ _ h => lineRaStatusOp_keeps h, fun _ _ h => lineRaCountersOp_keeps h, fun _ _ h => lineRwConfigOp_keeps h, fun _ _ h => lineRwStatusOp_keeps h, fun _ _ h => lineRwCountersOp_keeps h, fun _ _ h => lineRwInjectOp_keeps h⟩

theorem opsClient_keeps (hm : ([.free, .clerk, .hier, .tally, .boot, .flow, .lanes] : List Comp) ⊆ cs) : ∀ op ∈ opsClient, ∀ c s, Keeps cs s₀ s → Keeps cs s₀ (op.effect c s).2 := by
  unfold opsClient
  simp only [List.forall_mem_cons, List.not_mem_nil, false_imp_iff, implies_true, and_true]
  exact ⟨fun _ _ h => clientGroupConfigOp_keeps h, fun _ _ h => clientIfaceSetOp_keeps h, fun _ _ h => clientLaneEnableOp_keeps h, fun _ _ h => clientLaneMuteOp_keeps h, fun _ _ h => clientEqSetOp_keeps h, fun _ _ h => clientTxSetOp_keeps h, fun _ _ h => clientPatternSetOp_keeps h, fun _ _ h => clientLaneStatusOp_keeps h, fun _ _ h => clientCountersOp_keeps h⟩

theorem opsHost_keeps (hm : ([.free, .clerk, .hier, .tally, .boot, .hall, .flow, .lanes] : List Comp) ⊆ cs) : ∀ op ∈ opsHost, ∀ c s, Keeps cs s₀ s → Keeps cs s₀ (op.effect c s).2 := by
  unfold opsHost
  simp only [List.forall_mem_cons, List.not_mem_nil, false_imp_iff, implies_true, and_true]
  exact ⟨fun _ _ h => hostEqLoadOp_keeps h, fun _ _ h => hostIfaceSetOp_keeps h, fun _ _ h => hostLaneEnableOp_keeps h, fun _ _ h => hostLaneSquelchOp_keeps h, fun _ _ h => hostPatternSetOp_keeps h, fun _ _ h => hostInjectOp_keeps h, fun _ _ h => hostLaneStatusOp_keeps h, fun _ _ h => hostCountersOp_keeps h⟩

theorem opsTally_keeps (hm : ([.hier, .tally] : List Comp) ⊆ cs) : ∀ op ∈ opsTally, ∀ c s, Keeps cs s₀ s → Keeps cs s₀ (op.effect c s).2 := by
  unfold opsTally
  simp only [List.forall_mem_cons, List.not_mem_nil, false_imp_iff, implies_true, and_true]
  exact ⟨fun _ _ h => tallyTagSetOp_keeps h, fun _ _ h => tallyTagReadOp_keeps h, fun _ _ h => tallySlotReadOp_keeps h, fun _ _ h => tallyFifoReadOp_keeps h, fun _ _ h => tallyFreezeOp_keeps h⟩

theorem opsHallmark_keeps (hm : ([.free, .clerk, .hier, .tally, .hall] : List Comp) ⊆ cs) : ∀ op ∈ opsHallmark, ∀ c s, Keeps cs s₀ s → Keeps cs s₀ (op.effect c s).2 := by
  unfold opsHallmark
  simp only [List.forall_mem_cons, List.not_mem_nil, false_imp_iff, implies_true, and_true]
  exact ⟨fun _ _ h => hallmarkCertReadOp_keeps h, fun _ _ h => hallmarkMeasureReadOp_keeps h, fun _ _ h => hallmarkAttestOp_keeps h, fun _ _ h => hallmarkKekOfferOp_keeps h, fun _ _ h => hallmarkKekAcceptOp_keeps h, fun _ _ h => hallmarkFuseAdvanceOp_keeps h, fun _ _ h => hallmarkTallyMaskOp_keeps h, fun _ _ h => hallmarkStatusOp_keeps h⟩

theorem opsService_keeps (hm : ([.out, .clerk, .hier, .tally, .boot, .hall, .serv] : List Comp) ⊆ cs) : ∀ op ∈ opsService, ∀ c s, Keeps cs s₀ s → Keeps cs s₀ (op.effect c s).2 := by
  unfold opsService
  simp only [List.forall_mem_cons, List.not_mem_nil, false_imp_iff, implies_true, and_true]
  exact ⟨fun _ _ h => serviceImageLoadOp_keeps h, fun _ _ h => serviceImageVerifyOp_keeps h, fun _ _ h => serviceHandoverOp_keeps h, fun _ _ h => serviceChangeOp_keeps h, fun _ _ h => serviceStatusOp_keeps h, fun _ _ h => serviceAgeingReadOp_keeps h⟩

theorem opsDiag_keeps (hm : ([.clerk, .hier, .tally] : List Comp) ⊆ cs) : ∀ op ∈ opsDiag, ∀ c s, Keeps cs s₀ s → Keeps cs s₀ (op.effect c s).2 := by
  unfold opsDiag
  simp only [List.forall_mem_cons, List.not_mem_nil, false_imp_iff, implies_true, and_true]
  exact ⟨fun _ _ h => diagFaultStatusOp_keeps h, fun _ _ h => diagFaultLogReadOp_keeps h, fun _ _ h => diagSramCountersOp_keeps h, fun _ _ h => diagSweepRunOp_keeps h, fun _ _ h => diagInjectOp_keeps h⟩

theorem opOf_keeps {code : Nat} {op : OpDef} (e : opOf code = some op) (hm : ([.time, .free, .out, .bar0, .clerk, .hier, .tally, .boot, .hall, .serv, .rx, .rw, .fec, .tx, .loom, .ra, .crier, .store, .flow, .lanes, .timing, .assay, .damage] : List Comp) ⊆ cs) : ∀ c s, Keeps cs s₀ s → Keeps cs s₀ (op.effect c s).2 := by
  have hn : op ∈ allOps := List.mem_of_find?_eq_some e
  unfold allOps at hn
  simp only [List.mem_append] at hn
  rcases hn with ((((((((((((((hn | hn) | hn) | hn) | hn) | hn) | hn) | hn) | hn) | hn) | hn) | hn) | hn) | hn) | hn) | hn
  · exact opsClerk_keeps (List.Subset.trans (by decide) hm) op hn
  · exact opsTiming_keeps (List.Subset.trans (by decide) hm) op hn
  · exact opsAssay_keeps (List.Subset.trans (by decide) hm) op hn
  · exact opsCrier_keeps (List.Subset.trans (by decide) hm) op hn
  · exact opsStore_keeps (List.Subset.trans (by decide) hm) op hn
  · exact opsLoom_keeps (List.Subset.trans (by decide) hm) op hn
  · exact opsFlow_keeps (List.Subset.trans (by decide) hm) op hn
  · exact opsCiph_keeps (List.Subset.trans (by decide) hm) op hn
  · exact opsFec_keeps (List.Subset.trans (by decide) hm) op hn
  · exact opsLine_keeps (List.Subset.trans (by decide) hm) op hn
  · exact opsClient_keeps (List.Subset.trans (by decide) hm) op hn
  · exact opsHost_keeps (List.Subset.trans (by decide) hm) op hn
  · exact opsTally_keeps (List.Subset.trans (by decide) hm) op hn
  · exact opsHallmark_keeps (List.Subset.trans (by decide) hm) op hn
  · exact opsService_keeps (List.Subset.trans (by decide) hm) op hn
  · exact opsDiag_keeps (List.Subset.trans (by decide) hm) op hn

theorem State.startHeld_keeps {i : Iface} {q : Queue} {s : State} (hk : Keeps cs s₀ s)
    (hm : ([.time, .free, .out, .bar0, .clerk, .hier, .tally, .boot, .hall, .serv, .rx, .rw, .fec, .tx, .loom, .ra, .crier, .store, .flow, .lanes, .timing, .assay, .damage] : List Comp) ⊆ cs := by first | decide | (refine List.Subset.trans ?_ ‹_ ⊆ _›; decide)) : Keeps cs s₀ (State.startHeld i q s) := by
  unfold State.startHeld
  try dsimp only
  with_reducible repeat' (first
    | assumption | exact List.Subset.trans (by decide) hm | apply Keeps.ite | apply opOf_keeps (by assumption)
    | apply answer_keeps | apply withClerk_keeps | refine Keeps.clerk' (cs := cs) (s₀ := s₀) rfl rfl ?_
    | refine Keeps.of_pair (by assumption) ?_ | intro _ | split)

theorem State.takePacket_keeps {i : Iface} {q : Queue} {ws : List Word} {s : State} (hk : Keeps cs s₀ s)
    (hm : ([.time, .free, .out, .bar0, .clerk, .hier, .tally, .boot, .hall, .serv, .rx, .rw, .fec, .tx, .loom, .ra, .crier, .store, .flow, .lanes, .timing, .assay, .damage] : List Comp) ⊆ cs := by first | decide | (refine List.Subset.trans ?_ ‹_ ⊆ _›; decide)) : AnsKeeps cs s₀ (State.takePacket i q ws s) := by
  unfold State.takePacket
  try dsimp only
  with_reducible repeat' (first
    | assumption | exact List.Subset.trans (by decide) hm | apply Keeps.ite | apply AnsKeeps.ite | apply Keeps.ite_snd
    | apply AnsKeeps.next | apply refuse_keeps | apply State.lose_keeps | apply opOf_keeps (by assumption) | apply serve_keeps
    | refine Keeps.of_pair (by assumption) ?_ | intro _ | split)

theorem execCommandTake_keeps {i : Iface} {q : Queue} {packet : List Word} {s : State} (hk : Keeps cs s₀ s)
    (hm : ([.time, .free, .out, .bar0, .clerk, .hier, .tally, .boot, .hall, .serv, .rx, .rw, .fec, .tx, .loom, .ra, .crier, .store, .flow, .lanes, .timing, .assay, .damage] : List Comp) ⊆ cs := by first | decide | (refine List.Subset.trans ?_ ‹_ ⊆ _›; decide)) : AnsKeeps cs s₀ (execCommandTake i q packet s) := by
  unfold execCommandTake
  try dsimp only
  with_reducible repeat' (first
    | assumption | exact List.Subset.trans (by decide) hm | apply Keeps.ite | apply AnsKeeps.ite | apply AnsKeeps.next
    | apply State.startHeld_keeps | apply withClerk_keeps | apply State.takePacket_keeps | apply State.setRing_keeps
    | refine Keeps.clerk' (cs := cs) (s₀ := s₀) rfl rfl ?_ | refine Keeps.of_pair (by assumption) ?_ | intro _ | split)

theorem execPaceHoldRelease_keeps {s : State} (hk : Keeps cs s₀ s)
    (hm : ([.time, .free, .out, .bar0, .clerk, .hier, .tally, .boot, .hall, .serv, .rx, .rw, .fec, .tx, .loom, .ra, .crier, .store, .flow, .lanes, .timing, .assay, .damage] : List Comp) ⊆ cs := by first | decide | (refine List.Subset.trans ?_ ‹_ ⊆ _›; decide)) : AnsKeeps cs s₀ (execPaceHoldRelease s) := by
  unfold execPaceHoldRelease
  try dsimp only
  with_reducible repeat' (first
    | assumption | exact List.Subset.trans (by decide) hm | apply AnsKeeps.next | apply opOf_keeps (by assumption)
    | apply withClerk_keeps | apply happen_keeps | apply answerWith_keeps
    | refine Keeps.clerk' (cs := cs) (s₀ := s₀) rfl rfl ?_ | refine Keeps.of_pair (by assumption) ?_ | intro _ | split)

end Sys2Proof.Machine
end

