-- ==== Sys2Proof/Tests/Slice0.lean ====
section
/-!
SUPPORT. The model's own tests: well-formedness refuses each ill-formed operand, a witness for the hypotheses of every
statement, and small checks of single commands against figures of the spec.
-/

namespace Sys2Proof.Tests

open Sys2Proof Sys2Proof.Machine

set_option Elab.async false
set_option linter.all false

/-- A packet from SPI, SEQ 7, no flags. -/
def cmd (q : Queue) (ha : Nat) (ps : List Word) : Cmd := ⟨1, q, 7, 0, BitVec.ofNat 20 ha, ps⟩

/-- The same packet from PCI Express, with flags. -/
def cmdP (q : Queue) (ha flags : Nat) (ps : List Word) : Cmd := ⟨0, q, 7, BitVec.ofNat 8 flags, BitVec.ofNat 20 ha, ps⟩

/-- The state after reset. -/
abbrev R : State := State.reset

/-- A packet's state answers a next state that passes a test. -/
def lands (a : Ans) (ok : State → Bool) : Bool :=
  match a with
  | .next t => ok t
  | _ => false

/-! ### Well-formed commands: one ill-formed operand for each check -/

theorem test_wf_packet_length : Instr.wf (.clerkNop (cmd 1 0x00FFF (List.replicate 2046 0))) = false := by decide +kernel
theorem test_wf_packet : Instr.wf (.clerkNop (cmd 1 0x00FFF (List.replicate 2045 0))) = true := by decide +kernel
theorem test_wf_mailbox : Instr.wf (.commandTake 1 1 (List.replicate 2049 0)) = false ∧
    Instr.wf (.spiWriteCmd 1 (List.replicate 2049 0)) = false := by decide +kernel
theorem test_wf_region : Instr.wf (.faultDetected 0x1E000#20 0) = false ∧ Instr.wf (.decisionMismatch 0x1E000#20 0) = false ∧
    Instr.wf (.residueFailure 0x1E000#20 0 [] false) = false ∧ Instr.wf (.parityFailure 0x1E000#20 0 [] false) = false ∧
    Instr.wf (.handshakeStall 0x12000#20 0x1E000#20 0 [] false) = false ∧ Instr.wf (.handshakeStall 0x1E000#20 0x12000#20 0 [] false) = false ∧
    Instr.wf (.sramRead 0x1E000#20 0 true 0 false .payload false) = false := by decide
theorem test_wf_fifo : Instr.wf (.packetCommit 0x1E000#20 .inbound 1) = false ∧ Instr.wf (.packetCommit 0x12000#20 .inbound 0) = false ∧
    Instr.wf (.packetAbort 0x1E000#20 .inbound) = false ∧ Instr.wf (.fifoRead 0x1E000#20 .inbound) = false ∧
    Instr.wf (.writerRelease 0x1E000#20 .inbound) = false ∧ Instr.wf (.fifoIdleExpiry 0x1E000#20 .outbound) = false := by decide
theorem test_wf_store : Instr.wf (.stripeRead 1 33554432 []) = false ∧ Instr.wf (.stripeRead 1 0 [4]) = false ∧
    Instr.wf (.stripeFree 1 33554432) = false ∧ Instr.wf (.stripeWrite 1 33554432 0 0 []) = false ∧
    Instr.wf (.recordFill 1048576 []) = false ∧ Instr.wf (.recordFill 0 [4]) = false ∧
    Instr.wf (.stripeWrite 1 0 0 0 (List.replicate 769 0)) = false ∧
    Instr.wf (.readMergeWrite 1 0 0 (List.replicate 257 0) []) = false := by decide +kernel
theorem test_wf_lists : Instr.wf (.rxSpanFormed 0 [1, 1, 1] [0, 0, 0, 0]) = false ∧ Instr.wf (.clientFrameArrive 0 []) = false ∧
    Instr.wf (.gateEnd [] [0, 0, 0] 0) = false ∧ Instr.wf (.gateEnd [(17, 0)] [0, 0, 0, 0] 0) = false ∧
    Instr.wf (.packetReceiveEnd 0 1 1 [] 0 0) = false ∧ Instr.wf (.frameArrive 0 [] true 0 [(512, 0)]) = false ∧
    Instr.wf (.readMergeWrite 1 33554432 0 [] []) = false ∧ Instr.wf (.readMergeWrite 1 0 0 [] [4]) = false := by decide

/-! ### Witnesses: the protocol (spec/02) -/

/-- A state with a ring as given. -/
def ringed (k : Nat) (x : Ring) : State := R.setRing k x

/-- A command ring of 16 slots holding one packet, and a reply ring of 16 slots. -/
def pcieUp : State :=
  ((R.setRing 1 { enable := true, sizeLog2 := 4, prod := 1 }).setRing 5 { enable := true, sizeLog2 := 4 }).setRing 8
    { enable := true, sizeLog2 := 8, prod := 255, cons := 5 }

/-- A state with a packet of urgent queue 0 in hand, waiting its turn. -/
def inHand : State := R.withClerk { R.clerk with held := [⟨1, 1, 0x0001, cmd 1 0x00FFF [9], none⟩] }

/-- A commit held for the pace margin. -/
def paceHeldState : State := R.withClerk { R.clerk with held := [⟨1, 1, 0x0902, cmd 1 0x12FFF [0], some .paceHold⟩] }

/-- A port whose enabling raises the pace LINE0 must keep, with a pace sample below it. -/
def slowPace : State :=
  (R.withRx (R.rx.set 0 { R.rx.get 0 with symRate := 4000, mod := 1 })).withAssay { R.assay with pace := [(0x12, some (1, 1))] }

theorem witness_step_front : (R.withPending [.tapReset]).pending = [.tapReset] ∧ step (R.withPending [.tapReset]) = exec .tapReset R :=
  ⟨rfl, rfl⟩
theorem witness_step_idle : R.pending = [] ∧ R.boot.phase ≠ .reset ∧ R.timing.clockLost = false ∧ R.coldReset.pending = [] ∧
    R.coldReset.boot.phase = .reset ∧ (R.withTiming { R.timing with clockLost := true }).timing.clockLost = true := by decide +kernel
theorem witness_inv_step : (R.withTime 65536).Inv ∧ ∃ t, step (R.withTime 65536) = .next t := ⟨⟨by unfold Clerk.ok; decide +kernel, by unfold Hier.ok; decide +kernel, by unfold Tally.ok; decide +kernel, by unfold Store.ok; decide +kernel,
    Or.inl rfl⟩, _, rfl⟩
theorem witness_next : ∃ t, exec .tapReset R = .next t := ⟨_, rfl⟩
theorem witness_units : unitsExist .tapReset R = true ∧ unitsExist (.sramRead 0x1E000#20 0 true 0 false .payload false) R = false := by
  decide +kernel
theorem witness_packet_of : packetOf (.clerkNop (cmd 1 0x00FFF [])) = some (clerkNopOp, cmd 1 0x00FFF []) ∧
    clerkNopOp.passes (cmd 1 0x00FFF []) R := ⟨rfl, by unfold OpDef.passes; decide +kernel⟩
theorem witness_refused : R.serves 1 = true ∧ R.queueHeld 1 1 = false ∧
    clerkJobResultOp.judge (cmd 1 0x00FFF [1, 2]) R = some ⟨0x10, 0xFFFF, 0⟩ ∧
    clerkJobResultOp.judge (cmd 1 0x00FFF []) R = some ⟨0x11, 0xFFFF, 0⟩ := by decide +kernel
theorem witness_first_check : R.coldReset.live = false ∧ clerkMapReadOp.recovery = false ∧ R.live = true ∧
    clerkNopOp.recovery = true ∧ clerkMapReadOp.queue = some 1 ∧ clerkNopOp.queue = none ∧
    clerkMapReadOp.targetOk R 0x1EFFF = false ∧ clerkMapReadOp.targetOk R 0x00FFF = true ∧
    clerkFifoIdleSetOp.check (cmd 1 0x12FFF [0]) R = some ⟨0x15, 0, 0⟩ ∧ diagSweepRunOp.check (cmd 3 0x00FFF [0, 0]) R = none ∧
    diagSweepRunOp.long = true ∧ 64 ≤ (R.withClerk { R.clerk with jobs := List.replicate 64 ⟨0, 0, 0, [], 0, false⟩ }).clerk.jobs.length := by decide +kernel
theorem witness_dry : clerkMapReadOp.judge { cmd 1 0x00FFF [] with flags := 1 } R = none ∧ { cmd 1 0x00FFF [] with flags := 1 : Cmd }.dry = true ∧
    (match (clerkMapReadOp.effect { cmd 1 0x00FFF [] with flags := 1 } R).1 with | .refused _ => false | _ => true) = true := by
  decide +kernel
theorem witness_waits : R.coldReset.serves 1 = false ∧ inHand.serves 1 = true ∧ inHand.queueHeld 1 1 = true ∧
    { cmd 0 0x00FFF [] with flags := 2 : Cmd }.fence = true ∧ inHand.unanswered = true := by decide +kernel
theorem witness_pace_hold : lineRxEnableOp.judge (cmd 1 0x12FFF [1]) slowPace = none ∧
    slowPace.paceHolds (lineRxEnableOp.effect (cmd 1 0x12FFF [1]) slowPace).2 = true := by decide +kernel
theorem witness_mailbox : Tab.get [] (R.withClerk { R.clerk with mail := Tab.set [] [] 1 (packetWords 0x0001 (cmd 1 0x00FFF [9])) }).clerk.mail 1 =
    packetWords 0x0001 (cmd 1 0x00FFF [9]) ∧ pcieUp.pcie = true ∧ (pcieUp.ring 1).enable = true ∧ (pcieUp.ring 1).empty = false ∧
    pcieUp.replyRoom 1 = true ∧ pcieUp.clerk.unwritten = [] := by decide +kernel
theorem witness_bad_packets : (w32 (crc32 (bytesOf (padTake 2 [0x00010700#32, 0x00000FFF#32])))) ≠ 0 ∧
    2045 < (0xFFF00FFF : Word).fld 31 20 ∧ (0x00000FFF : Word).fld 31 20 ≤ 2045 ∧ opOf 0xFFFF = none ∧
    (let ws := withCrc [0xFFFF0700#32, 0x00000FFF#32]
     w32 (crc32 (bytesOf (padTake 2 ws))) = ws.getD 2 0) := by decide +kernel
theorem witness_held : opOf 0x0001 = some clerkNopOp ∧ inHand.clerk.held.length = 1 ∧ inHand.serves 1 = true ∧
    opOf 0x0902 = some lineRxEnableOp ∧ (paceHeldState.withClerk { paceHeldState.clerk with held := [] }).paceHolds
      (lineRxEnableOp.effect (cmd 1 0x12FFF [0]) (paceHeldState.withClerk { paceHeldState.clerk with held := [] })).2 = false :=
  ⟨rfl, rfl, rfl, rfl, by decide +kernel⟩
theorem witness_reply_places : (pcieUp.ring 5).enable = true ∧ (pcieUp.ring 5).full = false ∧ (R.ring 5).enable = false ∧
    (ringed 5 { enable := true, sizeLog2 := 4, prod := 15 }).ring 5 = { enable := true, sizeLog2 := 4, prod := 15 } ∧
    ((ringed 5 { enable := true, sizeLog2 := 4, prod := 15 }).ring 5).full = true := by decide +kernel
theorem witness_wrong_queue : clerkMapReadOp.queue = some 1 ∧ (cmd 2 0x00FFF []).queue ≠ 1 ∧ R.live = true ∧
    clerkNopOp.judge (cmd 1 0x00000 []) R = some ⟨0x14, 0xFFFF, 0⟩ := by decide +kernel

/-! ### Witnesses: CLERK and Tally -/

/-- A running job 5, an ended job 6. -/
def withJobs : State :=
  R.withClerk { R.clerk with jobs := [⟨5, 0x0904, 0x12FFF, [], 0, false⟩], ended := [⟨6, 0x0904, 0, [3]⟩] }

theorem witness_clerk : clerkNopOp.passes (cmd 1 0x00FFF [9]) R ∧ clerkJobResultOp.passes (cmd 1 0x00FFF [5]) withJobs ∧
    clerkJobResultOp.passes (cmd 1 0x00FFF [6]) withJobs ∧ clerkJobResultOp.passes (cmd 1 0x00FFF [7]) withJobs ∧
    withJobs.clerk.jobs.find? (fun j => j.num == 5) = some ⟨5, 0x0904, 0x12FFF, [], 0, false⟩ ∧
    withJobs.clerk.ended.find? (fun j => j.num == 6) = some ⟨6, 0x0904, 0, [3]⟩ ∧
    clerkProtoCountersOp.passes (cmd 1 0x00FFF [1]) R ∧ clerkBootStatusOp.passes (cmd 1 0x00FFF []) R ∧
    clerkMapReadOp.passes (cmd 1 0x12FFF []) R ∧ clerkEventFilterSetOp.passes (cmd 1 0x00FFF [0, 0x3, 0]) R ∧
    clerkFifoIdleSetOp.passes (cmd 1 0x12FFF [0x1FFFF]) R ∧ ownsFifo 0x12 = true ∧ 0x12000 ∈ R.cellsNamed 0x12FFF := by
  unfold OpDef.passes; decide +kernel
theorem witness_tally : tallyFreezeOp.passes (cmd 1 0x00FFF [0x8]) R ∧ tallyTagSetOp.passes (cmd 1 0x00FFF [0x80000008, 1]) R ∧
    tallyTagReadOp.passes (cmd 2 0x00FFF [0x02000000]) R ∧ tallySlotReadOp.passes (cmd 1 0x12FFF []) R ∧
    tallyFifoReadOp.passes (cmd 1 0x12000 [1]) R ∧ tallyFifoReadOp.passes (cmd 1 0x12000 [2]) R ∧
    (0x2 : Word).fld 1 0 = dirCode .outbound := by unfold OpDef.passes; decide +kernel
theorem witness_bar2 : R.pcie = true ∧ (0x8#20).toNat % 8 = 0 ∧ (0xC#20).toNat % 8 = 4 ∧
    (R.withTally { R.tally with latch := some (1, 0) }).tally.latch = some (0xC / 8, 0) := by decide +kernel

/-! ### Witnesses: events, rings, registers, SPI -/

/-- A full event buffer on SPI, one event on PCI Express. -/
def eventsHeld : State :=
  R.withClerk { R.clerk with
    ev := ⟨{ R.clerk.ev.a with buf := [⟨0x0901, 1, 0x12FFF, 0, 0⟩] },
      { R.clerk.ev.b with buf := List.replicate 1024 ⟨0x0901, 1, 0x12FFF, 0, 0⟩, least := [(9, 2)] }⟩ }

theorem witness_raise : eventsHeld.Inv ∧ 1 < Tab.get 0 (eventsHeld.clerk.ev.get 1).least (0x0901 / 256) ∧
    Tab.get 0 (eventsHeld.clerk.ev.get 1).least (0x0A01 / 256) ≤ 1 ∧ 1024 ≤ (eventsHeld.clerk.ev.get 1).buf.length ∧
    Tab.get 0 (eventsHeld.clerk.ev.get 0).least (0x0901 / 256) ≤ 1 ∧ (eventsHeld.clerk.ev.get 0).buf.length < 1024 :=
  ⟨⟨by unfold Clerk.ok; decide +kernel, by unfold Hier.ok; decide +kernel, by unfold Tally.ok; decide +kernel, by unfold Store.ok; decide +kernel,
    Or.inl rfl⟩, by decide +kernel⟩
theorem witness_rings : R.pcie = true ∧ pcieUp.pcie = true ∧ (pcieUp.ring 1).size = 16 ∧ (16 : Word).fld 15 0 = 16 ∧
    (15 : Word).fld 15 0 < (pcieUp.ring 1).size ∧ (pcieUp.ring 5).enable = true ∧ (15 : Word).fld 15 0 ≠ (pcieUp.ring 5).cons ∧
    (R.ring 8).enable = false ∧ R.clerk.unwritten = [] ∧ (0x80000008 : Word).bit 31 = true ∧ (0x80000008 : Word).fld 4 0 = 8 ∧
    (0x80000003 : Word).fld 4 0 = 3 ∧ (0x40000000 : Word).bit 31 = false ∧ (0x40000000 : Word).bit 30 = true := by decide +kernel
theorem witness_registers : R.pcie = true ∧ R.spiUp = true ∧ (0x10 : Word).bit 4 = true ∧ (0x8 : Word).bit 3 = true ∧
    (0x220#12).toNat % 4 = 0 ∧ (0x25C#12).toNat < 0x260 ∧ (3 : Word).fld 4 0 < 4 ∧ 4 ≤ (4 : Word).fld 4 0 := by decide +kernel
theorem witness_delivery : pcieUp.pcie = true ∧ (pcieUp.ring 8).enable = true ∧ (pcieUp.ring 8).full = false ∧
    ((pcieUp.raise 0x0901 1 0x12FFF 0).nextEvent 0).isSome = true ∧ ((pcieUp.ring 8).prod + 1) % (pcieUp.ring 8).size = 0 ∧
    0 < ((eventsHeld.raise 0x0A01 1 0x14FFF 0).clerk.ev.get 1).dropped ∧ R.serves 1 = true ∧ R.boundRuns 1 0 = true ∧
    pcieUp.boundRuns 0 1 = true := by decide +kernel
theorem witness_spi : R.spiUp = true ∧ packetWhole [0x00010700#32, 0x00000FFF#32, 0] = true ∧ packetWhole [0x00010700#32, 0x00000FFF#32] = false ∧
    Tab.get [] R.clerk.mail 3 = [] ∧ R.clerk.ev.b = ⟨[], 0, R.clerk.ev.b.least⟩ ∧
    Tab.get [] (R.answered (cmd 1 0x00FFF []) 0x0001 0 [9]).clerk.spiReply 1 = [replyWords 0x0001 0 (cmd 1 0x00FFF []) [9]] ∧
    (R.raise 0x0901 1 0x12FFF 0).clerk.ev.b = ⟨[⟨0x0901, 1, 0x12FFF, 0, 0⟩], 0, R.clerk.ev.b.least⟩ := by decide +kernel

/-! ### Witnesses: boundary FIFOs -/

theorem witness_fifo : R.live = true ∧ targetCell R 0x12000 = true ∧ ownsFifo 0x12 = true ∧ (R.fifo (fifoKey 0x12000 .inbound)).packets.sum + 4096 ≤ 4096 ∧
    (R.setFifo (fifoKey 0x12000 .inbound) { packets := [4096] }).fifo (fifoKey 0x12000 .inbound) = { packets := [4096] } := by decide +kernel

/-! ### Witnesses: the ladder of replacement, the pairs, boot, jobs -/

/-- A cell that has faulted in unit of work 4. -/
def faulted : State := R.withHier { R.hier with faultUnit := [(0x12000, 5)] }

/-- Block 0 of region 0x12 has used its spare cell. -/
def spareUsed : State := R.setBlock 0x12 0 { R.block 0x12 0 with spareCell := 0x3F }

theorem witness_fifo_timer : (R.setFifo (fifoKey 0x12000 .inbound) { packets := [4096], expiries := 1 }).fifo (fifoKey 0x12000 .inbound) =
    { packets := [4096], expiries := 1 } ∧ 4096 < [4096].sum + 1 ∧
    (R.setFifo (fifoKey 0x12000 .inbound) { held := true, packets := [4095] }).fifo (fifoKey 0x12000 .inbound) = { held := true, packets := [4095] } := by
  decide +kernel
theorem witness_ladder : R.live = true ∧ targetCell R 0x12000 = true ∧ Tab.get 0 R.hier.faultUnit 0x12000 = 0 ∧
    0 < Tab.get 0 faulted.hier.faultUnit 0x12000 ∧ (1027 ≠ 5 - 1) ∧ 1027 < 5 - 1 + 1024 ∧ 5 - 1 + 1024 ≤ 1028 ∧
    (R.block 0x12 0).suspect = [] ∧ (R.block 0x12 0).retired = [] ∧ (R.block 0x12 0).spareCell ≠ 0x3F ∧
    (spareUsed.block 0x12 0).spareCell = 0x3F ∧ (spareUsed.block 0x12 0).state = 0 ∧ (spareUsed.spareBlock 0x12).isSome = true ∧
    spareCovers 0x12 (spareUsed.block 0x12 0).serves = true := by decide +kernel
theorem witness_pairs : (R.chipPair true).standby = 0 ∧ (R.chipPair false).standby = 0 ∧ R.hier.ctlStandby = 0 ∧ R.serv.handover = none ∧
    (R.withHier { R.hier with ctlStandby := 1 }).hier.ctlStandby = 1 ∧
    ((R.withHier { R.hier with chip := ⟨⟨0, 1⟩, ⟨0, 1⟩⟩ }).chipPair true).standby = 1 := by decide +kernel

/-- Held in reset, and the phases of the boot that follows it. -/
def inReset : State := R.coldReset
def phased (p : Phase) (fb : Bool) : State := inReset.withBoot { inReset.boot with phase := p, bootState := if p = .selfTest then 2 else 1, fallback := fb }

theorem witness_boot : R.boot.phase ≠ .reset ∧ inReset.boot.phase = .reset ∧ inReset.boot.pinsTaken = false ∧
    (phased .romStart false).boot.phase = .romStart ∧ (phased .image false).timing.clockLost = false ∧
    (phased .image false).boot.fallback = false ∧ (phased .image true).boot.fallback = true ∧ (phased .selfTest false).boot.phase = .selfTest ∧
    (R.withBoot { R.boot with endpointUp := true }).boot.endpointUp = true ∧ (3#8).toNat = 3 ∧ (8#8).toNat = 8 ∧
    imageCause 0 [] = 7 := by decide +kernel
theorem witness_cancel : clerkJobCancelOp.passes (cmd 1 0x00FFF [9]) withJobs ∧ clerkJobCancelOp.passes (cmd 1 0x00FFF [5]) withJobs ∧
    withJobs.clerk.jobs.find? (fun j => j.num == 9) = none ∧
    (R.withClerk { R.clerk with jobs := [⟨5, 0x0D06, 0x00FFF, [0], 0, false⟩] }).clerk.jobs.find? (fun j => j.num == 5) =
      some ⟨5, 0x0D06, 0x00FFF, [0], 0, false⟩ := by unfold OpDef.passes; decide +kernel

/-! ### Witnesses: counter and status reads -/

theorem witness_counter_reads : ∀ x ∈ [(timingCountersOp, cmd 1 0x01FFF [], R),
    (assayCountersOp, cmd 1 0x02FFF [], R),
    (crierCountersOp, cmd 1 0x03FFF [3], R),
    (storeCountersOp, cmd 1 0x04FFF [], R),
    (loomCountersOp, cmd 1 0x05FFF [1], R),
    (flowRegionCountersOp, cmd 1 0x06FFF [], R),
    (flowCountersOp, cmd 1 0x06FFF [0x800FFFFF], R),
    (ciphCountersOp, cmd 1 0x07FFF [], R),
    (fecPortCountersOp, cmd 1 0x13FFF [], R),
    (fecRegionCountersOp, cmd 1 0x11FFF [], R),
    (lineRxCountersOp, cmd 1 0x13FFF [], R),
    (lineTxCountersOp, cmd 1 0x13FFF [], R),
    (lineRaCountersOp, cmd 1 0x13FFF [], R),
    (lineRwCountersOp, cmd 1 0x13FFF [], R),
    (clientCountersOp, cmd 1 0x15FFF [7], R),
    (hostCountersOp, cmd 1 0x1DFFF [15], R)], OpDef.passes x.1 x.2.1 x.2.2 := by
  unfold OpDef.passes; decide +kernel
theorem witness_status_reads_a : ∀ x ∈ [(timingStatusOp, cmd 1 0x01FFF [], R),
    (timingRefStatusOp, cmd 1 0x01FFF [], R),
    (timingDpllStatusOp, cmd 1 0x01FFF [3], R),
    (assayTelemReadOp, cmd 1 0x02FFF [0x01800000], R),
    (assayBiasStatusOp, cmd 1 0x02FFF [23], R),
    (assayPaceStatusOp, cmd 1 0x02FFF [], R),
    (crierStatusOp, cmd 1 0x03FFF [3], R),
    (storePartStatusOp, cmd 1 0x04FFF [0x40000000], R),
    (storeStatusOp, cmd 1 0x04FFF [], R),
    (loomPortStatusOp, cmd 1 0x05FFF [0x80000000], R),
    (loomBoltStatusOp, cmd 1 0x05FFF [2047], R),
    (loomThreadStatusOp, cmd 2 0x05FFF [0x0007FFFF], R),
    (loomPmReadOp, cmd 2 0x05FFF [0x00040000], R),
    (loomMapReadOp, cmd 2 0x05FFF [0x40000000], R)], OpDef.passes x.1 x.2.1 x.2.2 := by
  unfold OpDef.passes; decide +kernel
theorem witness_status_reads_b : ∀ x ∈ [(flowStatusOp, cmd 2 0x06FFF [0x401FFFFF], R),
    (ciphCtxStatusOp, cmd 1 0x07FFF [0x800FFFFF], R),
    (ciphPoolStatusOp, cmd 1 0x0BFFF [], R),
    (fecPortStatusOp, cmd 1 0x12FFF [], R),
    (fecPoolStatusOp, cmd 1 0x0CFFF [], R),
    (fecCodeReadOp, cmd 2 0x0CFFF [0x200], R),
    (lineRxStatusOp, cmd 1 0x12FFF [], R),
    (lineTxStatusOp, cmd 1 0x12FFF [], R),
    (lineRaPlanReadOp, cmd 2 0x12FFF [0x80000080], (R.withTx (R.tx.set 0 { R.tx.get 0 with symRate := 3200, mod := 2 }))),
    (lineRaStatusOp, cmd 1 0x12FFF [], R),
    (lineRwStatusOp, cmd 1 0x12FFF [], R),
    (clientLaneStatusOp, cmd 1 0x14FFF [7], R),
    (hostLaneStatusOp, cmd 1 0x16FFF [15], R)], OpDef.passes x.1 x.2.1 x.2.2 := by
  unfold OpDef.passes; decide +kernel
theorem witness_status_reads_c : ∀ x ∈ [(serviceStatusOp, cmd 1 0x1DFFF [], R),
    (serviceAgeingReadOp, cmd 1 0x00FFF [], R),
    (diagFaultStatusOp, cmd 1 0x00FFF [], R),
    (diagFaultLogReadOp, cmd 1 0x00FFF [0x04000000], R),
    (diagSramCountersOp, cmd 1 0x1203F [], R)], OpDef.passes x.1 x.2.1 x.2.2 := by
  unfold OpDef.passes; decide +kernel

/-! ### Witnesses: the line receiver -/

/-- A receive port in a state, configured. -/
def rxIn (st : RxSt) : State := R.withRx (R.rx.set 0 { R.rx.get 0 with symRate := 3200, mod := 2, entropy := 128, st := st })

theorem witness_rx_commands : lineRxConfigOp.passes (cmd 1 0x12FFF [0x0C802080, 0x1F]) R ∧ lineRxEnableOp.passes (cmd 1 0x12FFF [1]) (rxIn .off) ∧
    lineRxEnableOp.passes (cmd 1 0x12FFF [0]) (rxIn .tracking) ∧ lineRxEnableOp.passes (cmd 1 0x12FFF [0]) (rxIn .off) ∧
    lineRxCdSetOp.passes (cmd 1 0x12FFF [5, 1900000, 0]) (rxIn .off) ∧ lineRxCdSetOp.passes (cmd 1 0x12FFF [5, 1900000, 0]) (rxIn .acquire) ∧
    lineRxCdSetOp.passes (cmd 1 0x12FFF [5, 1900000, 0]) (rxIn .tracking) ∧ ((rxIn .tracking).rxp 0).fade = none ∧
    (rxIn .tracking).cdWaits 0 = false ∧ (5 : Word).sfld 19 0 ≠ ((rxIn .tracking).rxp 0).cd ∧
    (rxIn .tracking).rxp 1 = R.rxp 1 := by unfold OpDef.passes; decide +kernel
theorem witness_rx_commands_b : lineRxCdScanOp.passes (cmd 3 0x12FFF [0, 0]) (rxIn .signalWait) ∧ lineRxEqSetOp.passes (cmd 1 0x12FFF [0xE1]) (rxIn .off) ∧
    lineRxLoopSetOp.passes (cmd 1 0x12FFF [0x00640300]) R ∧ lineRxFrontSetOp.passes (cmd 1 0x12FFF [0, 0, 0x201]) R ∧
    lineRxCdSetOp.passes (cmd 1 0x12FFF [5, 1900000, 0]) ((rxIn .tracking).updRx 0 fun r => { r with fade := some ⟨9, 0, 7, false⟩ }) := by
  unfold OpDef.passes; decide +kernel

/-! ### Witnesses: the line receiver's states -/

/-- Port 0's receiver in a state, with further fields as given. -/
def rxAs (st : RxSt) (f : RxPort → RxPort) : State := (rxIn st).updRx 0 f

/-- A LINE_RX_CD_SET of port 0 waiting for a cross-fade. -/
def cdHeld : State :=
  (rxIn .tracking).withClerk { R.clerk with held := [⟨1, 1, 0x0902, cmd 1 0x12FFF [5, 1900000, 0], some (.rxCd 0)⟩] }

theorem witness_rx_signal : (rxIn .tracking).live = true ∧ ((rxIn .tracking).rxp 0).st ≠ .off ∧ ((rxIn .tracking).rxp 0).los = false ∧
    ((rxAs .signalWait ({ · with los := true })).rxp 0).los = true ∧ ((rxAs .signalWait ({ · with los := true })).rxp 0).st = .signalWait ∧
    (3 : Fin 4).val ∉ ((rxIn .acquire).rxp 0).laneFault ∧ ((rxIn .acquire).rxp 0).st ≠ .tracking ∧
    (3 : Fin 4).val ∈ ((rxAs .acquire ({ · with laneFault := [3] })).rxp 0).laneFault ∧
    ((rxIn .tracking).rxp 0).laneFault = [] := by decide +kernel
theorem witness_rx_acquire : ((rxAs .off ({ · with estimator := .scan 9 })).rxp 0).estimator = .scan 9 ∧
    ((rxAs .acquire ({ · with estimator := .acquisition, acqStep := 1 })).rxp 0).estimator = .acquisition ∧
    ((rxAs .acquire ({ · with estimator := .acquisition, acqStep := 1 })).rxp 0).acqStep = 1 ∧
    ((rxAs .acquire ({ · with acqStep := 1 })).rxp 0).fullScan = false ∧ (-200000 : Int) ≤ -200000 ∧ ¬ 300 ≤ 299 ∧
    ((rxAs .acquire ({ · with acqStep := 5 })).rxp 0).acqStep < 6 ∧ ((rxAs .acquire ({ · with acqStep := 5 })).rxp 0).acqStep ≠ 1 ∧
    6 ≤ ((rxAs .acquire ({ · with acqStep := 6 })).rxp 0).acqStep ∧ ((rxAs .acquire ({ · with acqStep := 6 })).rxp 0).laneFault = [] := by
  decide +kernel
theorem witness_rx_fade : ((rxAs .tracking ({ · with fade := some ⟨0, 3, 9, true⟩, next := 64 })).rxp 0).fade = some ⟨0, 3, 9, true⟩ ∧
    0 + 64 ≤ ((rxAs .tracking ({ · with fade := some ⟨0, 3, 9, true⟩, next := 64 })).rxp 0).next ∧
    ((rxIn .tracking).rxp 0).cdMode = 1 ∧ ((rxIn .tracking).rxp 0).fade = none ∧ (rxIn .tracking).cdWaits 0 = false ∧
    ((rxIn .tracking).rxp 0).residual = none ∧ 100 ≤ (-100 : Int).natAbs ∧ (99 : Int).natAbs < 100 ∧
    ((rxAs .tracking ({ · with residual := some 100 })).rxp 0).residual = some 100 ∧ (0 : Int) < 100 * 100 ∧
    trackCd ((rxAs .tracking ({ · with residual := some 100 })).rxp 0).cd 100 100 ≠ ((rxAs .tracking ({ · with residual := some 100 })).rxp 0).cd := by
  decide +kernel
theorem witness_rx_holds : (3 : Fin 4).val = 3 ∧ (4 : Fin 5).val ≠ 0 ∧ (4 : Fin 5).val ∉ ((rxIn .tracking).rxp 0).tolerance ∧
    4 ∈ ((rxAs .tracking ({ · with tolerance := [4] })).rxp 0).tolerance ∧ (cdHeld.rxp 0).fade = none ∧
    (cdHeld.clerk.held.find? (fun h => h.await == some (.rxCd 0))).isSome = true := by decide +kernel

/-! ### Witnesses: run-ahead and rewind -/

/-- Port 0 tracking at span 20, tracking decisions handed up to 10, with span records and a replay as given. -/
def rwAs (f : RwPort → RwPort) : State :=
  let s := rxAs .tracking ({ · with next := 20 })
  s.setRw 0 (f { s.rwp 0 with track := 10, fin := 5 })

/-- A span that was handed up, decided and not yet checked, consumed by span 7. -/
def span7 : SpanRec := { idx := 5, handed := true, decided := some true, consumer := some 7 }

theorem witness_rw_commands : ∀ x ∈ [(lineRwConfigOp, cmd 1 0x12FFF [0x00000001], rxIn .off), (lineRwConfigOp, cmd 1 0x12FFF [0x10001FFF], rxIn .tracking),
    (lineRwInjectOp, cmd 1 0x12FFF [0x40150000], rxIn .tracking), (lineRwInjectOp, cmd 1 0x12FFF [0], rxIn .tracking)],
    OpDef.passes x.1 x.2.1 x.2.2 := by unfold OpDef.passes; decide +kernel
theorem witness_rw_spans : ((rwAs id).rxp 0).st = .tracking ∧ ((rwAs id).rwp 0).inject = none ∧ ((rwAs id).rwp 0).replay = none ∧
    ((rwAs id).rwp 0).track < ((rwAs id).rxp 0).next ∧
    ((rwAs ({ · with replay := some ⟨7, 9, 9⟩ })).rwp 0).replay = some ⟨7, 9, 9⟩ ∧
    ((rwAs ({ · with spans := [{ idx := 9, handed := true }] })).rwp 0).find 9 = some { idx := 9, handed := true } ∧
    ((rwAs ({ · with spans := [span7] })).rwp 0).find 5 = some span7 ∧ span7.checked = false ∧ span7.erased = false ∧
    span7.decided.isSome = true ∧ span7.consumer = some 7 := by decide +kernel
theorem witness_rw_final : 32 ≤ ((rwAs id).rwp 0).contra ∧ ((rwAs id).rwp 0).contra < 33 ∧ 7 < ((rwAs id).rwp 0).track ∧
    ((rwAs id).rxp 0).next - 1 ≤ 7 + 475 ∧ 9 < ((rwAs id).rwp 0).track ∧
    ((rwAs ({ · with replay := some ⟨7, 9, 8⟩ })).rwp 0).replay = some ⟨7, 9, 8⟩ ∧
    ((rwAs ({ · with replay := some ⟨7, 9, 10⟩ })).rwp 0).replay = some ⟨7, 9, 10⟩ ∧ ((rwAs ({ · with catchUp := true })).rwp 0).catchUp = true ∧
    7 + 475 < (((rwAs ({ · with replay := some ⟨7, 9, 7⟩ })).updRx 0 ({ · with next := 484 })).rxp 0).next - 1 := by decide +kernel
theorem witness_rw_rest : ((rwAs ({ · with rateHigh := true, recomp := [(0, 1049)] })).rwp 0).rateHigh = true ∧
    1048 < ((rwAs ({ · with rateHigh := true, recomp := [(0, 1049)] })).rwp 0).recompCount ∧
    ((rwAs ({ · with spans := [{ span7 with checked := true }] })).rwp 0).find ((rwAs ({ · with spans := [{ span7 with checked := true }] })).rwp 0).fin =
      some { span7 with checked := true } ∧ (R.withHier { R.hier with erasure := true }).hier.erasure = true := by decide +kernel

/-! ### Witnesses: the decoder pool -/

/-- Port 0 tracking with a held span and a running decode as given. -/
def poolAs (held : List HeldSpan) (running : List Decode) : State :=
  let s := rwAs ({ · with spans := [{ idx := 5, handed := true }] })
  { s with fec := { s.fec with held := held, running := running } }

/-- A decode of span 5 in block 0 of region 0x0C. -/
def decode5 : Decode := ⟨0, 5, 0x0C, 0, true, 12, 12, true, false, false, none, 0, [], 0⟩

theorem witness_pool_commands : ∀ x ∈ [(fecPortConfigOp, cmd 1 0x12FFF [0x00030000], rxIn .off), (fecPortConfigOp, cmd 1 0x12FFF [0x010C0100], rxIn .tracking),
    (fecInjectOp, cmd 1 0x12FFF [0x40000000], rxIn .tracking)], OpDef.passes x.1 x.2.1 x.2.2 := by unfold OpDef.passes; decide +kernel
theorem witness_pool_deal : (poolAs [] []).nextToDeal = none ∧ (∃ h ∈ (poolAs [{ port := 0, span := 5 }] []).fec.held, h.port = 0 ∧ h.span = 5 ∧ h.ready = none) ∧
    (poolAs [{ port := 0, span := 5, ready := some 0 }] []).nextToDeal = some { port := 0, span := 5, ready := some 0 } ∧
    ((rxIn .tracking).rxp 0).mod ≠ 4 ∧ ((poolAs [] []).dealRegion none).isSome = true ∧
    ((poolAs [] []).dealBlock none (((poolAs [] []).dealRegion none).getD 0)).isSome = true := by decide +kernel
theorem witness_pool_decode : (poolAs [] [decode5]).findDecode 0 5 = some decode5 ∧ decode5.inject = none ∧ decode5.converged = true ∧
    decode5.early = true ∧ decode5.maxIter ≤ decode5.iter ∧ ((poolAs [] [decode5]).updRx 0 ({ · with mod := 4 })).findDecode 0 5 = some decode5 ∧
    (((poolAs [] [decode5]).updRx 0 ({ · with mod := 4 })).fecp 0).zrBad = 0 ∧ Tab.get 0 decode5.faultBlocks decode5.block ≠ 1 ∧
    decode5.faults < 3 ∧ (poolAs [] [{ decode5 with faults := 3 }]).findDecode 0 5 = some { decode5 with faults := 3 } := by decide +kernel

/-! ### Witnesses: the line transmitter -/

/-- Port 0's transmitter in a state, configured. -/
def txIn (st : TxSt) : State := R.setTx 0 { R.txp 0 with symRate := 3200, mod := 2, entropy := 128, st := st }

theorem witness_tx_commands : ∀ x ∈ [(lineTxConfigOp, cmd 1 0x12FFF [0x0C802080, 0x00000114], R), (lineTxEnableOp, cmd 1 0x12FFF [1], txIn .off),
    (lineTxEnableOp, cmd 1 0x12FFF [0], txIn .muted), (lineTxEnableOp, cmd 1 0x12FFF [1], txIn .on), (lineTxMuteOp, cmd 0 0x12FFF [3], txIn .rampUp),
    (lineTxMuteOp, cmd 0 0x12FFF [1], txIn .on), (lineTxMuteOp, cmd 0 0x12FFF [0], txIn .muted), (lineTxRampSetOp, cmd 1 0x12FFF [1], R),
    (lineTxPrecompSetOp, cmd 1 0x12FFF [50000, 1840000], txIn .muted), (lineTxPrecompSetOp, cmd 1 0x12FFF [500, 2000000], txIn .on),
    (lineTxPrecompSetOp, cmd 1 0x12FFF [5, 2000000], (txIn .on).updTx 0 ({ · with fade := some ⟨0, 0, 9⟩ })),
    (lineTxBackSetOp, cmd 1 0x12FFF [0, 0, 64], R), (lineTxEmphLoadOp, cmd 2 0x12FFF [3, 0, 0, 0, 0, 0, 0, 0, 0], txIn .on)],
    OpDef.passes x.1 x.2.1 x.2.2 := by unfold OpDef.passes; decide +kernel
theorem witness_tx_waits : (txIn .on).txWaits (.txPrecomp 0) = false ∧ ((txIn .on).txp 0).st.driving = true ∧ ((txIn .muted).txp 0).st.driving = false ∧
    ((txIn .muted).txp 0).hardSpan ≠ some ((txIn .muted).txp 0).next ∧ Tab.get none ((txIn .on).txp 0).emphFade 3 = none ∧
    ((txIn .on).withClerk { R.clerk with held := [⟨1, 2, 0x0916, cmd 2 0x12FFF [3], some (.txEmph 0 3)⟩] }).txWaits (.txEmph 0 3) = true := by decide +kernel
theorem witness_tx_ramps : ((txIn .rampUp).updTx 0 ({ · with phiNum := 1 })).live = true ∧
    ((((txIn .rampUp).updTx 0 ({ · with phiNum := 1 })).txp 0).phase 0).1 = ((((txIn .rampUp).updTx 0 ({ · with phiNum := 1 })).txp 0).phase 0).2 ∧
    (((txIn .rampDown).txp 0).phase (txIn .rampDown).time).1 = 0 ∧
    (((txIn .on).updTx 0 ({ · with fade := some ⟨0, 0, 9⟩, next := 64 })).txp 0).fade = some ⟨0, 0, 9⟩ ∧
    5 < (((txIn .on).updTx 0 ({ · with fade := some ⟨0, 0, 9⟩, next := 64 })).txp 0).next ∧
    ((pick (fun h : Held => h.await == some (.txPrecomp 0)) [⟨1, 1, 0x0914, cmd 1 0x12FFF [5, 2000000], some (.txPrecomp 0)⟩]).map fun x =>
      (x.2, precompStep x.1.cmd ((txIn .on).txp 0))) = some ([], none) := by decide +kernel

/-! ### Witnesses: the Loom -/

/-- Both receivers tracking and both framers LOCKED, bolts 1 and 2 defined over the members given, one frame of tick 5 in
from each port listed. -/
def loomAs (m1 m2 : List (Nat × Nat)) (ps : List Pair) (frames0 frames1 : List FrameRec) : State :=
  let s := (rxIn .tracking).withRx ⟨((rxIn .tracking).rxp 0), ((rxIn .tracking).rxp 0)⟩
  let l (f : List FrameRec) : LoomPort := { st := .locked, frames := f, misses := 5, bad := 5 }
  let t : Tab (Option Bolt) := [(1, some ⟨m1, 10⟩), (2, some ⟨m2, 10⟩)]
  s.withLoom { s.loom with ports := ⟨l frames0, l frames1⟩, bolts := ⟨t, t⟩, pairs := ⟨ps, ps⟩ }

/-- The two bolts side by side on port 0. -/
def loomOne (ps : List Pair) : State := loomAs [(0, 0)] [(0, 1)] ps [⟨5, 0, true⟩] []

/-- Bolt 1 protected by bolt 2. -/
def pair12 : Pair := ⟨1, 2, true, 0, false, false, none⟩

theorem witness_loom_commands : ∀ x ∈ [(loomPortConfigOp, cmd 1 0x05FFF [0x80000401], R),
    (loomBoltSetOp, cmd 2 0x05FFF [mkw [(31, 30, 3), (29, 19, 2047), (18, 8, 1), (7, 0, 250)], 0x827F], R),
    (loomBoltSetOp, cmd 2 0x05FFF [mkw [(31, 30, 1), (29, 19, 1)]], loomOne []),
    (loomThreadSetOp, cmd 2 0x05FFF [mkw [(31, 30, 3), (10, 0, 1)], mkw [(28, 18, 1), (17, 0, 262143)], mkw [(31, 24, 255), (19, 0, 512)]], loomOne []),
    (loomProtSetOp, cmd 1 0x05FFF [mkw [(31, 30, 3), (29, 29, 1), (21, 11, 2), (10, 0, 1)]], loomOne []),
    (loomProtSetOp, cmd 1 0x05FFF [mkw [(31, 30, 1), (21, 11, 2), (10, 0, 1)]], loomOne [pair12]),
    (loomProtSwitchOp, cmd 0 0x05FFF [mkw [(31, 28, 4), (10, 0, 1)]], loomOne [pair12])],
    OpDef.passes x.1 x.2.1 x.2.2 := by unfold OpDef.passes; decide +kernel
theorem witness_loom_ways : (0 : Way) ∈ waysOf ((mkw [(31, 30, 3)]).fld 31 30) ∧ (1 : Way) ∉ waysOf ((mkw [(31, 30, 1)]).fld 31 30) ∧
    1 ∈ waysOf ((mkw [(31, 30, 3), (29, 29, 1)]).fld 31 30) ∧ (mkw [(31, 30, 3), (29, 29, 1)]).bit 29 = true := by decide +kernel

/-! ### Witnesses: frames and ticks -/

/-- Port 0's framer as given. -/
def framer (f : LoomPort → LoomPort) : State := (rxIn .tracking).updLp 0 f

theorem witness_framer : ((framer ({ · with st := .search })).updRx 0 ({ · with mod := 4 })).zrRx 0 = true ∧
    (framer ({ · with st := .search, cands := [(9, 2)] })).zrRx 0 = false ∧ aligned ((framer ({ · with st := .search, cands := [(9, 2)] })).lp 0) = false ∧
    ((framer ({ · with st := .search, cands := [(9, 2)] })).lp 0).cands = [(9, 2)] ∧ ((framer ({ · with st := .search })).lp 0).cands = [] ∧
    ((framer ({ · with st := .aligned, good := 3 })).lp 0).st = .aligned ∧ 3 ≤ ((framer ({ · with st := .aligned, good := 3 })).lp 0).good ∧
    ((loomOne []).lp 0).st = .locked ∧ 5 ≤ ((loomOne []).lp 0).misses ∧ 5 ≤ ((loomOne []).lp 0).bad := by decide +kernel
theorem witness_slots : Tab.get {} ((framer ({ · with slots := [(3, ⟨2, 0, false⟩)] })).lp 0).slots 3 = ⟨2, 0, false⟩ ∧
    Tab.get {} ((framer ({ · with slots := [(3, ⟨0, 2, true⟩)] })).lp 0).slots 3 = ⟨0, 2, true⟩ ∧
    (R.withLoom { R.loom with threads := ⟨[(7, some ⟨1, 16, 9, false⟩)], []⟩, labels := [(7, ⟨0, 9, 3, false⟩)] }).thread 0 7 =
      some ⟨1, 16, 9, false⟩ ∧
    Tab.get {} (R.withLoom { R.loom with labels := [(7, ⟨0, 9, 3, false⟩)] }).loom.labels 7 = ⟨0, 9, 3, false⟩ := by decide +kernel
theorem witness_tick : (loomOne []).pairOf 0 1 = none ∧ (loomOne []).bolt 0 1 = some ⟨[(0, 0)], 10⟩ ∧ (loomOne []).boltOk 1 = true ∧
    (loomOne []).complete 1 5 = true ∧ (loomOne []).isNext 1 5 = true ∧ (loomOne []).ready 1 5 = true ∧
    ((loomOne []).boltPorts 0 1).any ((loomOne []).here 1 5) = true ∧ (loomOne [pair12]).pairOf 0 pair12.working = some pair12 ∧
    (loomOne [pair12]).pairReads pair12 5 = true ∧ (loomOne [pair12]).live = true := by decide +kernel
theorem witness_skew : (loomAs [(0, 0), (1, 0)] [(0, 1)] [] [⟨5, 0, true⟩] []).isNext 1 5 = true ∧
    (loomAs [(0, 0), (1, 0)] [(0, 1)] [] [⟨5, 0, true⟩] []).ready 1 5 = false ∧
    ((loomAs [(0, 0), (1, 0)] [(0, 1)] [] [⟨5, 0, true⟩] []).boltPorts 0 1).any ((loomAs [(0, 0), (1, 0)] [(0, 1)] [] [⟨5, 0, true⟩] []).here 1 5) = true ∧
    (((loomAs [(0, 0), (1, 0)] [(0, 1)] [] [⟨5, 0, true⟩] []).setBoltRx 1 { st := 3 }).boltRx 1).st ≠ 1 ∧
    ((loomAs [(0, 0), (1, 0)] [(0, 1)] [] [⟨5, 0, true⟩] []).boltPorts 0 1).length = 2 ∧
    (loomAs [(0, 0), (1, 0)] [(0, 1)] [] [⟨5, 0, true⟩] []).boltUnlocked 1 = false ∧
    ((txIn .on).ra.ports.get 0).txAgreed = none ∧ ((txIn .on).txp 0).st ≠ .off := by decide +kernel

/-! ### Witnesses: rate adaptation -/

/-- Port 0 tracking in a PCS format, with its rate adaptation as given. -/
def raAs (f : RaPort → RaPort) : State := (rxIn .tracking).updRa 0 f

/-- An attempt for code 100 after `n` proposals. -/
def attempt100 (n : Nat) : Attempt := { code := 100, job := some 1, fallback := false, sends := n, id := 4 }

/-- An agreement on code 100, to be switched at multiframe 7. -/
def agree100 : Agreement := ⟨4, 100, 7, 0, false, none, false, false⟩

/-- A packet of LINE0's attached listener waiting to be handled. -/
def linkIn (ty : Nat) (pl : List Byte) (f : RaPort → RaPort) : State :=
  (raAs f).withCrier { R.crier with inbox := [⟨0, ty, pl, 9, 0, none⟩] }

theorem witness_ra_commands : ∀ x ∈ [
    (lineRaConfigOp, cmd 1 0x12FFF [0xA000C040, 0, mkw [(31, 24, 25), (23, 16, 10), (15, 12, 10), (11, 0, 128)], 0x00010001], rxIn .tracking),
    (lineRaStepOp, cmd 3 0x12FFF [128], rxIn .tracking), (lineRaStepOp, cmd 3 0x12FFF [64], rxIn .tracking),
    (lineRaGuardSetOp, cmd 2 0x12FFF [0x80000001, mkw [(31, 30, 1), (17, 0, 262143)], mkw [(31, 20, 5), (19, 0, 655360)]], R),
    (lineRaGuardSetOp, cmd 2 0x12FFF [1, 9, 0], R)], OpDef.passes x.1 x.2.1 x.2.2 := by unfold OpDef.passes; decide +kernel
theorem witness_ra_codes : (rxIn .tracking).codeOf 0 0 = 128 ∧ (64 : Word).fld 7 0 ≠ (rxIn .tracking).codeOf 0 0 ∧
    pcs ((rxIn .tracking).modOf 0 0) = true ∧ ((raAs ({ · with held := true })).rap 0).held = true ∧
    within ((rxIn .tracking).rxBounds 0) 64 = true ∧ ((rxIn .tracking).planAt 0 0 false 64).feasible = true ∧
    within ((rxIn .tracking).rxBounds 0) 193 = false := by decide +kernel
theorem witness_ra_seek : (raAs ({ · with rxAuto := true, upStands := true, avgLog2 := 4, window := List.replicate 16 (300, 300, 300) })).mayseek 0 = true ∧
    ((raAs ({ · with rxAuto := true, upStands := true, avgLog2 := 4, window := List.replicate 16 (300, 300, 300) })).rap 0).upStands = true ∧
    (raAs ({ · with rxAuto := true, upStands := true, avgLog2 := 4, window := List.replicate 16 (300, 300, 300) })).seekable 0 129 = true ∧
    ((raAs ({ · with attempt := some (attempt100 0) })).rap 0).attempt = some (attempt100 0) ∧
    ((raAs ({ · with attempt := some (attempt100 3) })).rap 0).attempt = some (attempt100 3) ∧ 0 < (attempt100 2).sends ∧
    (attempt100 2).sends < 3 ∧ 3 ≤ (attempt100 3).sends ∧ (attempt100 3).cancel = false := by decide +kernel
theorem witness_ra_fallback : ((rxIn .acquire).rxp 0).st = .acquire ∧
    (((rxIn .acquire).updRa 0 ({ · with fallback := true, rxAuto := true })).rap 0).fallback = true ∧
    (((rxIn .acquire).updRa 0 ({ · with fallback := true, rxAuto := true })).rap 0).rxAuto = true ∧
    (((rxIn .acquire).updRa 0 ({ · with fallback := true, rxAuto := true })).rxBounds 0).1 < (rxIn .acquire).codeOf 0 0 := by decide +kernel
theorem witness_ra_packets : ((linkIn 6 [4, 0, 0, 0, 7, 0, 0, 0] ({ · with attempt := some (attempt100 1) })).takeLink 0 6).isSome = true ∧
    (attempt100 1).id = (([4, 0, 0, 0, 7, 0, 0, 0] : List Byte).getD 0 0).toNat ∧
    ((linkIn 6 [4, 3, 0, 0, 7, 0, 0, 0] ({ · with attempt := some (attempt100 1) })).takeLink 0 6).isSome = true ∧
    ((linkIn 5 [4, 0, 0, 100, 0, 0, 0, 0, 0, 0, 0, 0] id).takeLink 0 5).isSome = true ∧
    ((linkIn 5 [] id).judgeProposal 0 0 0 100 0 0).isSome = true := by decide +kernel
/-- Port 0 transmitting and accepting steps. -/
def raTx : State :=
  ((txIn .on).updRa 0 ({ · with txAccept := true })).updLp 0 ({ · with txEver := true, txMfn := 6 })

theorem witness_ra_propose : raTx.judgeProposal 0 0 128 64 22 (raTx.planAt 1 0 false 64).digest = none ∧
    ((raTx.withCrier { R.crier with inbox := [⟨0, 5, [4, 0, 128, 64, 22, 0, 0, 0] ++ leBytes 4 (raTx.planAt 1 0 false 64).digest, 9, 0, none⟩] }).takeLink 0 5).isSome
      = true ∧ leNat ((([4, 0, 128, 64, 22, 0, 0, 0] : List Byte) ++ leBytes 4 (raTx.planAt 1 0 false 64).digest).drop 8) =
      (raTx.planAt 1 0 false 64).digest := by decide +kernel
theorem witness_ra_switch : ((framer ({ · with anns := [1, 2, 3].map fun n => (rateAnn (some agree100) 0 n 0, n, true) })).lp 0).announced =
      some (100, 4, 0, 7) ∧
    (raTx.updRa 0 ({ · with txAgreed := some agree100 })).lp 0 = raTx.lp 0 ∧ (raTx.lp 0).nextTx = (agree100.mf, 0) ∧ (raTx.txp 0).st ≠ .off ∧
    ((raTx.updRa 0 ({ · with txAgreed := some agree100 })).rap 0).txAgreed = some agree100 ∧
    (((framer ({ · with st := .locked, mfn := 6 })).lp 0).mfn + 1) % 2 ^ 32 = agree100.mf ∧
    ((raAs ({ · with candidate := some 64, candBad := 256 })).rap 0).candidate = some 64 ∧
    256 ≤ ((raAs ({ · with candidate := some 64, candBad := 256 })).rap 0).candBad := by decide +kernel

/-! ### Witnesses: the Crier's ports and link packets -/

/-- Listener 1's port as given, LINE1 driven and received. -/
def crAs (f : CrPort → CrPort) : State :=
  let s := (R.setTx 1 { R.txp 1 with st := .on }).updRx 1 ({ · with st := .signalWait })
  s.setCr 1 (f (s.cr 1))

/-- An accepted packet of listener 1 waiting, the Crier otherwise as given. -/
def crIn (ty : Nat) (pl : List Byte) (f : Crier → Crier) : State :=
  R.withCrier { f R.crier with inbox := [⟨1, ty, pl, 9, 0, none⟩] }

theorem witness_crier_commands : ∀ x ∈ [
    (crierPortSetOp, cmd 1 0x03FFF [mkw [(31, 30, 1), (26, 24, 7), (15, 8, 128), (7, 0, 128)],
      mkw [(31, 26, 5), (25, 20, 2), (19, 14, 40), (13, 8, 1)], 0], R),
    (crierPortSetOp, cmd 1 0x03FFF [mkw [(31, 30, 3), (28, 28, 1), (19, 16, 2)], mkw [(31, 26, 40), (25, 20, 40), (19, 14, 2), (13, 8, 63)], 5], R),
    (crierSendOp, cmd 1 0x03FFF [0x20000000, 1, 0], R), (crierSendOp, cmd 1 0x03FFF [mkw [(31, 30, 1), (17, 0, 5)], 4, 0],
      crIn 0 [] ({ · with role := 2 })), (crierReceiveOp, cmd 1 0x03FFF [], R),
    (crierReceiveOp, cmd 1 0x03FFF [], crIn 0 [] ({ · with buffer := [⟨0, 1, 0, 9, [1]⟩] }))],
    OpDef.passes x.1 x.2.1 x.2.2 := by unfold OpDef.passes; decide +kernel
theorem witness_crier_queue : (R.cr 1).txEnable = true ∧ (R.cr 1).queue.length < 32 ∧ (1 : Fin 4).val < 2 ∧
    (0 : Fin 4).val = R.crier.timePort.val ∧ (R.cr 0).timeInt ≠ 0 ∧ (crIn 0 [] ({ · with asked := some (3, 0, 0) })).crier.asked.isSome = true ∧
    nextPkt ((crAs ({ · with queue := [⟨3, [7, 0], false⟩] })).cr 1).queue = some (⟨3, [7, 0], false⟩, []) ∧
    ((crAs ({ · with queue := [⟨3, [7, 0], false⟩] })).cr 1).air = none ∧ (crAs ({ · with queue := [⟨3, [7, 0], false⟩] })).crDriving 1 = true ∧
    ((crAs ({ · with air := some ⟨3, [], false⟩, queue := [⟨5, [], false⟩] })).cr 1).air = some ⟨3, [], false⟩ ∧ 1 < (⟨3, [], false⟩ : CrPkt).cls ∧
    ((crAs ({ · with air := some ⟨3, [], false⟩, queue := [⟨5, [], false⟩] })).cr 1).queue.any (fun x => x.cls == 1) = true := by decide +kernel
theorem witness_listener : (crAs id).hears 1 = true ∧ ((crAs id).cr 1).rx = 1 ∧ ((crAs ({ · with rx := 3 })).cr 1).second = false ∧
    ((crAs ({ · with rx := 2 })).cr 1).rx = 2 ∧ ((crAs ({ · with rx := 3, second := true, strength := 20 })).cr 1).rx ≠ 1 ∧
    ((crAs ({ · with rx := 3, second := true, strength := 20 })).cr 1).second = true ∧
    ((crAs ({ · with rx := 3, second := true, strength := 20 })).cr 1).strength + (crAs id |>.cr 1).capture ≤ sat 255 32 ∧
    ¬(((crAs ({ · with rx := 3, second := true, strength := 20 })).cr 1).rx = 2 ∨
      ((crAs ({ · with rx := 3, second := true, strength := 20 })).cr 1).strength + (crAs id |>.cr 1).capture ≤ sat 255 31) ∧
    ((crAs ({ · with rx := 3 })).cr 1).rx = 3 := by decide +kernel
theorem witness_packet_end : (240#8).toNat ≤ 240 ∧ 241 ≤ (241#8).toNat ∧ knownType (2#8).toNat = true ∧ knownType (9#8).toNat = false ∧
    crc16 (4 :: 2 :: fixBytes 4 [1, 2, 3, 4]) = (BitVec.ofNat 16 (crc16 (4 :: 2 :: fixBytes 4 [1, 2, 3, 4]))).toNat ∧
    (crAs id).listenerPort 1 = some 1 ∧ ((crAs id).cr 1).auth = false ∧ leastBytes (2#8).toNat ≤ (fixBytes 4 ([] : List Byte)).length := by
  decide +kernel
theorem witness_link_packets : (crIn 1 [1] id).listenerPort 1 = some 1 ∧ ((crIn 1 [1] id).takeOf 1 1).isSome = true ∧
    ((crIn 2 [1, 2, 0, 0] id).takeOf 1 2).isSome = true ∧ ((crIn 3 [7, 0] id).takeOf 1 3).isSome = true ∧
    ((crIn 4 [7] ({ · with asked := some (7, 0, 0), timePort := 1 })).takeOf 1 4).isSome = true ∧
    (crIn 4 [7] ({ · with asked := some (7, 0, 0), timePort := 1 })).crier.asked = some (7, 0, 0) ∧
    (crIn 4 [7] ({ · with timePort := 1 })).crier.timePort = 1 ∧ 7 = byteAt [7] 0 ∧ R.time ≤ 0 + 500 * milli ∧
    ((crIn 8 [1] id).takeOf 1 8).isSome = true ∧
    ((crAs ({ · with peer := some ⟨5, 2, 0, 0, none, [], true, false⟩ })).cr 1).peer ≠ none := by decide +kernel

/-! ### Witnesses: the Crier's domain -/

/-- A registrar with a table of members, of domain 9. -/
def registrar : State :=
  (R.setPart 4 {}).withCrier { R.crier with role := 2, domain := 9, domainId := 9, members := [0, 5], joins := [⟨1, [1], [], none, true, 3⟩] }

/-- The registrar with a packet of listener 1 waiting. -/
def regIn (ty : Nat) (pl : List Byte) (src : Option Nat) : State :=
  registrar.withCrier { registrar.crier with inbox := [⟨1, ty, pl, 9, 0, src⟩] }

/-- A host packet broadcast in domain 9, of source 5 and hop count 2. -/
def domainBytes : List Byte := [9, 0, 0, 0, 5, 0, 0, 0, 0, 0, 0x32, 5, 1, 0, 9, 9, 9, 9, 9, 9, 9, 9]

theorem witness_domain_commands : ∀ x ∈ [
    (crierUnitSetOp, cmd 1 0x03FFF [mkw [(31, 30, 2), (27, 24, 1), (15, 0, 1)], 9, 0], registrar),
    (crierUnitSetOp, cmd 1 0x03FFF [mkw [(31, 30, 1), (27, 24, 15), (15, 0, 65535)], 8, 0x80000005], registrar),
    (crierUnitSetOp, cmd 1 0x03FFF [mkw [(31, 30, 2), (27, 24, 15), (15, 0, 65535)], 8, 0], registrar),
    (crierAdmitOp, cmd 1 0x03FFF [mkw [(31, 30, 3), (17, 0, 5)], 0], registrar),
    (crierAdmitOp, cmd 1 0x03FFF [mkw [(31, 30, 1)], 3], registrar), (crierAdmitOp, cmd 1 0x03FFF [mkw [(31, 30, 2)], 3], registrar),
    (crierMemberReadOp, cmd 2 0x03FFF [mkw [(31, 27, 1), (17, 0, 262143)]], registrar)],
    OpDef.passes x.1 x.2.1 x.2.2 := by unfold OpDef.passes; decide +kernel
theorem witness_segments : (((regIn 7 [1, 0, 0, 0, 2, 0, 0, 0, 5] none).takeIn (fun x => x.listener == 1 && (x.type == 7 || x.type == 0x107))).isSome) = true ∧
    ((regIn 7 [] none).cr 1).objects = [] ∧ 2 ≤ leAt [1, 0, 0, 0, 2, 0, 0, 0, 5] 4 2 ∧ (([1, 0, 0, 0, 2, 0, 0, 0, 5] : List Byte).drop 8).length ≤ 16384 ∧
    ((crAs ({ · with objects := [⟨none, [], 1, 0, 2, [], 0⟩] })).cr 1).objects = [⟨none, [], 1, 0, 2, [], 0⟩] := by decide +kernel
theorem witness_domain : ((regIn 0x10 domainBytes none).takeOf 1 0x10).isSome = true ∧ 22 ≤ domainBytes.length ∧
    (regIn 0x10 domainBytes none).acceptsDomain domainBytes = true ∧ R.acceptsDomain domainBytes = false ∧
    ((regIn 0x10 domainBytes none).crier.seen.any fun e => e.1 == domainKey domainBytes && decide (0 < e.2 + 60 * second)) = false ∧
    ([(domainKey domainBytes, 0)].any fun e => e.1 == domainKey domainBytes && decide (60 * second - 1 < e.2 + 60 * second)) = true ∧
    innerOf domainBytes = 5 ∧ byteAt domainBytes 10 / 16 % 2 = 1 ∧ 1 < byteAt domainBytes 10 % 16 ∧ registrar.crier.buffer.length < 64 ∧
    (registrar.listenerPort 1).map (·.val) ≠ some 0 ∧ registrar.inDomain = true := by decide +kernel
theorem witness_joining : ((regIn 0x101 domainBytes none).takeOf 1 0x101).isSome = true ∧ registrar.crier.role = 2 ∧
    registrar.crier.joins.any (fun j => j.fpShort == (domainBytes.drop 14).take 8) = false ∧
    ((regIn 0x103 domainBytes (some 5)).takeOf 1 0x103).isSome = true ∧ registrar.crier.members.contains 5 = true ∧
    ((crIn 0x104 [9, 0, 0, 0] ({ · with role := 1 })).takeOf 1 0x104).isSome = true ∧ (crIn 0 [] ({ · with role := 1 })).crier.state = 0 ∧
    (crIn 0 [] ({ · with role := 1 })).crier.waiting = false := by decide +kernel
theorem witness_join_answer (r : Byte) : ((List.replicate 14 0 ++ ownFpShort ++ [3, 0, 0, r]).drop 14).take 8 = ownFpShort ∧
    byteAt (List.replicate 14 0 ++ ownFpShort ++ [3, 0, 0, r]) 25 = r.toNat ∧
    ((crIn 0x102 (List.replicate 14 0 ++ ownFpShort ++ [3, 0, 0, r]) ({ · with role := 1, state := 1 })).takeOf 1 0x102).isSome = true := by
  have h : ownFpShort.length = 8 := by simp [ownFpShort, ownFp, sha384, fixBytes]
  refine ⟨?_, ?_, rfl⟩
  · rw [List.append_assoc, List.drop_append_of_le_length (by simp), List.drop_eq_nil_of_le (by simp), List.nil_append,
      List.take_append_of_le_length (by omega), List.take_of_length_le (by omega)]
  · simp [byteAt, List.getD_eq_getElem?_getD, h]
theorem witness_domain_timers : (crIn 0 [] ({ · with role := 1, state := 2 })).crier.state = 2 ∧ (crIn 0 [] ({ · with role := 1, state := 1 })).crier.state = 1 ∧
    registrar.crier.joins.find? (·.decide_) = some ⟨1, [1], [], none, true, 3⟩ ∧
    (R.withHall { R.hall with challenges := [⟨1, none, [], [], none, none, none⟩] }).hall.challenges = [⟨1, none, [], [], none, none, none⟩] := by
  decide +kernel

/-! ### Witnesses: the Storehouse -/

/-- Bays given to kinds, each kind with a partition; more of the store as given. -/
def storeAs (bays : Tab Bay) (f : Store → Store) : State :=
  R.withStore (f { R.store with bays := bays, parts := (bays.map fun e => (e.2.kind, some {})).eraseDups })

/-- A partition of a kind over bays 0 and 1. -/
def partOf (kind : Nat) : State := storeAs [(0, ⟨kind, 1, false⟩), (1, ⟨kind, 1, false⟩)] id

theorem witness_stripe_survives : (storeAs [(8191, ⟨3, 1, false⟩)] id).live = true ∧ 33554431 < stripes ∧
    ((storeAs [(8191, ⟨3, 1, false⟩)] id).part 3).isSome = true ∧ (storeAs [(8191, ⟨3, 1, false⟩)] id).ofKind 3 33554431 = true ∧
    (∀ k, k < 4 → ((storeAs [(8191, ⟨3, 1, false⟩)] id).stack k).st = .working) ∧ (storeAs [(8191, ⟨3, 1, false⟩)] id).store.inject = none ∧
    ((partOf 4).part 4).isSome = true ∧ (partOf 4).ofKind 4 0 = true := by decide +kernel
theorem witness_store_commands : ∀ x ∈ [(storePartCreateOp, cmd 1 0x04FFF [mkw [(31, 28, 2), (23, 14, 1), (13, 0, 2)]], R),
    (storePartCreateOp, cmd 1 0x04FFF [mkw [(31, 28, 3)]], storeAs [] ({ · with epochNext := 0x100000000 })),
    (storePartSetOp, cmd 1 0x04FFF [mkw [(31, 28, 3)]], partOf 3), (storePartSetOp, cmd 1 0x04FFF [mkw [(31, 28, 1), (24, 24, 1), (23, 14, 1023)]], partOf 1),
    (storePartResizeOp, cmd 3 0x04FFF [mkw [(31, 28, 1), (13, 0, 3)]], partOf 1),
    (storePartResizeOp, cmd 3 0x04FFF [mkw [(31, 28, 1), (13, 0, 3)]], storeAs [(0, ⟨1, 1, false⟩)] ({ · with epochNext := 0x100000000 })),
    (storePartResizeOp, cmd 3 0x04FFF [mkw [(31, 28, 1), (13, 0, 2)]], partOf 1),
    (storePartResizeOp, cmd 3 0x04FFF [mkw [(31, 28, 2), (13, 0, 1)]], partOf 2), (storePartDeleteOp, cmd 1 0x04FFF [mkw [(31, 28, 4)]], partOf 4),
    (storeStackRetireOp, cmd 1 0x04FFF [3], R), (storeStackRestoreOp, cmd 3 0x04FFF [3], storeAs [] ({ · with dram := [(3, { st := .lost })] })),
    (storeInjectOp, cmd 1 0x04FFF [mkw [(31, 30, 1), (27, 24, 4), (1, 0, 3)]], partOf 4)],
    OpDef.passes x.1 x.2.1 x.2.2 := by unfold OpDef.passes; decide +kernel
theorem witness_store_forms : R.store.epochNext ≤ 0xFFFFFFFF ∧ 0xFFFFFFFF < 0x100000000 ∧ (partOf 3).part 3 = some {} ∧
    kindFixed (cmd 1 0x04FFF [mkw [(31, 28, 3)]]) = true ∧ kindFixed (cmd 1 0x04FFF [mkw [(31, 28, 1)]]) = false ∧
    ((partOf 1).baysOf 1).length = 2 := by decide +kernel
theorem witness_stripe_read : ((partOf 2).readStripe 2 0 [0, 1]).1.mark = 2 ∧ ((partOf 2).readStripe 2 0 []).1.mark ≠ 2 ∧
    ((partOf 3).readStripe 3 0 [0, 1]).1.mark = 2 ∧ ((partOf 4).readStripe 4 0 [2, 3]).1.mark = 2 ∧ R.part 4 = none ∧ (4 : Fin 5).val ≠ 0 ∧
    ((partOf 4).withHier { R.hier with sweepStore := some { job := 1, first := 8191, last := 8191 } }).nextSwept { job := 1, first := 8191, last := 8191 } =
      some 8191 := by decide +kernel
theorem witness_stripe_write : (storeAs [] ({ · with lostFrames := [(1, 9)] })).store.lostFrames.contains (1, 9) = true ∧
    (partOf 1).store.lostFrames.contains (1, 9) = false ∧ (partOf 1).part 1 = some {} ∧ (partOf 1).allocate 1 = some 0 ∧
    ((partOf 1).setPart 1 { held := [⟨0, 1, 0, []⟩], heldDiscard := true, live := [4095] }).part 1 =
      some { held := [⟨0, 1, 0, []⟩], heldDiscard := true, live := [4095] } ∧ R.part 3 = none ∧ (partOf 3).part 3 ≠ none ∧ (partOf 4).part 4 ≠ none ∧
    (storeAs [] ({ · with writeBacks := [(0, 3)] })).store.writeBacks = [(0, 3)] ∧ ([4095] : List Nat).contains 4095 = true := by decide +kernel
theorem witness_stacks : (R.stack 3).st = .working ∧ ((storeAs [] ({ · with dram := [(3, { st := .restoring })] })).stack 3).st = .restoring ∧
    (storeAs [] ({ · with restore := some { stack := 3, job := 1 } })).store.restore = some { stack := 3, job := 1 } ∧
    ((storeAs [] ({ · with dram := [(3, { st := .retraining })] })).stack 3).st = .retraining ∧
    (storeAs [] ({ · with restore := some { stack := 3, job := 1, phase := 1 } })).store.restore = some { stack := 3, job := 1, phase := 1 } ∧
    (storeAs [] ({ · with restore := some { stack := 3, job := 1, phase := 2 } })).store.restore = some { stack := 3, job := 1, phase := 2 } ∧
    ((partOf 1).setPart 1 { shrink := some 1 }).drained 1 = true := by decide +kernel

theorem witness_crc_rate : 256 ≤ (storeAs [] ({ · with dram := [(3, { failed := (List.range 256).map fun n => (0, n) })] })).failedCells 3 ∧
    (∀ j, j < 4 → j ≠ 3 → (storeAs [] ({ · with dram := [(3, { failed := (List.range 256).map fun n => (0, n) })] })).failedCells j < 16) := by
  decide +kernel

/-! ### Witnesses: flows and ciphers -/

/-- Interface 255 of CLIENT1 up in frame mode, interface 0 up in stream mode, threads 7 and 8 of transmit and receive of 16
units on bolt 1, flow 1048575 ciphered on thread 7. -/
def flowAs (f : Flow → Flow) : State :=
  let th (b : Nat) : Thread := ⟨b, 16, 9, false⟩
  let s := R.withLoom { R.loom with bolts := ⟨[(1, some ⟨[(0, 0)], 10⟩)], [(1, some ⟨[(0, 0)], 10⟩)]⟩, threads := ⟨[(7, some (th 1))], [(7, some (th 1))]⟩ }
  (s.withLanes { s.lanes with ifaces := [(0, some ⟨2, 1, 0, true, true⟩), (255, some ⟨1, 1, 0, true, true⟩)] }).withFlow (f { s.flow with
    tx := [(1048575, some { thread := 7, ciph := true, ctx := 3, pin := false, quantum := 64 })], rx := [(1048575, some ⟨7, true, 3, false⟩)] })

/-- A frame of 64 bytes with its FCS. -/
def frame64 : List Byte := List.replicate 60 0 ++ leBytes 4 (crc32 (List.replicate 60 0))

/-- Keys for the context 3. -/
def key3 : RxKey := { id := 5, salt := 0, key := [] }

theorem witness_flow_commands : ∀ x ∈ [(flowIfaceSetOp, cmd 1 0x06FFF [mkw [(31, 24, 255), (23, 22, 2), (19, 0, 1048575)]], flowAs id),
    (flowSetOp, cmd 2 0x06FFF [mkw [(31, 30, 3), (9, 0, 1)], 0x80000009, mkw [(31, 14, 7)], mkw [(31, 12, 9)], mkw [(31, 16, 64)]], flowAs id),
    (flowSetOp, cmd 2 0x06FFF [mkw [(31, 30, 3), (9, 0, 1)], mkw [(19, 0, 1048575)], 0, 0, 0], flowAs id),
    (flowClassMapOp, cmd 2 0x06FFF [1, mkw [(31, 24, 255), (23, 12, 4095), (11, 9, 7)], 9], flowAs id),
    (flowClassMapOp, cmd 2 0x06FFF [1, mkw [(31, 24, 255)], 0x80000000], flowAs id),
    (flowThreadSetOp, cmd 1 0x06FFF [mkw [(31, 30, 3), (27, 26, 2), (25, 18, 255), (17, 0, 7)], 63], flowAs id),
    (ciphKeyLoadOp, cmd 1 0x07FFF (mkw [(31, 30, 1), (27, 20, 255), (19, 0, 3)] :: List.replicate 11 0), R),
    (ciphRolloverOp, cmd 1 0x07FFF [mkw [(31, 31, 1), (19, 0, 3)], 5], flowAs ({ · with txCtx := [(3, { next := some ⟨5, 0, [], 1⟩ })] }))],
    OpDef.passes x.1 x.2.1 x.2.2 := by unfold OpDef.passes; decide +kernel
theorem witness_flow_entries : ∀ e ∈ flowEntries (cmd 2 0x06FFF [mkw [(31, 30, 3), (9, 0, 1)], 9, 0, 0, 0]),
    ∀ e' ∈ flowEntries (cmd 2 0x06FFF [mkw [(31, 30, 3), (9, 0, 1)], 9, 0, 0, 0]), e'.flow = e.flow → e' = e := by
  intro e he e' he' _
  have h : flowEntries (cmd 2 0x06FFF [mkw [(31, 30, 3), (9, 0, 1)], 9, 0, 0, 0]) = [⟨9, false, false, 0, 0, 0⟩] := rfl
  rw [h] at he he'
  rw [List.mem_singleton.mp he, List.mem_singleton.mp he']
theorem witness_ingress : (flowAs id).laneIface 255 = some ⟨1, 1, 0, true, true⟩ ∧ (flowAs id).streams 0 = true ∧ (flowAs id).streams 255 = false ∧
    (flowAs id).esmcOf 255 = [] ∧ frame64.length = 64 ∧ fcsOk frame64 = true ∧ fcsOk (frame64.set 9 1) = false ∧ (flowAs id).classify 255 frame64 = some 0 ∧
    (flowAs ({ · with ifaces := [(255, { classMode := 1 })] })).classify 255 frame64 = none ∧ (flowAs id).flow.shortTx = false ∧
    (((flowAs id).fi 255).ingress.map fun f => f.bytes.length).sum + frame64.length ≤ 65536 := by
  decide +kernel
theorem witness_ingress_full : 65536 < (([⟨0, List.replicate 65473 0⟩] : List InFrame).map fun f => f.bytes.length).sum + frame64.length := by
  have h : frame64.length = 64 := by decide +kernel
  have g : ∀ n, (([⟨0, List.replicate n 0⟩] : List InFrame).map fun f => f.bytes.length).sum = n := by intro n; simp
  rw [g, h]; decide
theorem witness_fill : 1048575 < 1048576 ∧ (flowAs id).cached 1048575 = false ∧
    (flowAs ({ · with txMsgs := [⟨7, 1, none, [], false⟩] })).flow.txMsgs[0]? = some ⟨7, 1, none, [], false⟩ ∧
    ((flowAs id).txFlow 1048575).isSome = true := by decide +kernel

/-- A flow with a closed tail, a flow with an open one to be flushed, and a parcel of 72 bytes. -/
def tailed (segs : List Seg) (flush : Bool) (size credit : Nat) (msgs : List TxMsg) : State :=
  flowAs fun x => { x with
    tx := [(9, some { thread := 7, ciph := false, ctx := 0, pin := false, quantum := 64, segs := segs, flush := flush, parcels := [⟨0, 72, 64⟩] })],
    txThreads := [(7, { active := [9], credit := credit, size := size })], txMsgs := msgs }

/-- The flow of such a state. -/
def tailFlow (segs : List Seg) (flush : Bool) : TxFlow :=
  { thread := 7, ciph := false, ctx := 0, pin := false, quantum := 64, segs := segs, flush := flush, parcels := [⟨0, 72, 64⟩] }

theorem witness_tails : (tailed [⟨.closed, [], 7, 0⟩] false 0 0 []).txFlow 9 = some (tailFlow [⟨.closed, [], 7, 0⟩] false) ∧
    (tailFlow [⟨.closed, [], 7, 0⟩] false).segs.any (·.st == .closed) = true ∧ (tailFlow [⟨.open_, [], 7, 0⟩] true).tail = some ⟨.open_, [], 7, 0⟩ ∧
    (tailed [⟨.open_, [], 7, 0⟩] true 0 (768 * creditByte) []).affords (tailFlow [⟨.open_, [], 7, 0⟩] true) ⟨.open_, [], 7, 0⟩ = true ∧
    (tailed [⟨.open_, [], 7, 0⟩] false 0 (768 * creditByte) []).victim = some 9 := by decide +kernel
theorem witness_scheduler : ((flowAs id).thread 1 7).isSome = true ∧ ((flowAs ({ · with txThreads := [(7, { stream := true })] })).txThread 7).stream = true ∧
    256 % 256 = 0 ∧ (flowAs id).sizeNow 1 7 ≠ 0 ∧ ((flowAs id).txThread 7).active = [] ∧ ((tailed [] false 0 0 []).txThread 7).active = [9] ∧
    (tailFlow [⟨.written 4, [], 7, 0⟩] false).parcels = [⟨0, 72, 64⟩] ∧
    ((tailFlow [⟨.written 4, [], 7, 0⟩] false).stripesOf ⟨0, 72, 64⟩).all (fun e => match e.2.st with | .written _ => true | _ => false) = true ∧
    ((tailFlow [⟨.open_, [], 7, 0⟩] false).stripesOf ⟨0, 72, 64⟩).all (fun e => match e.2.st with | .written _ => true | _ => false) = false ∧
    counted 64 (-63) ≤ 1 ∧ 0 < counted 64 (-64) := by decide +kernel
theorem witness_rollover : ((flowAs ({ · with txCtx := [(3, { next := some ⟨5, 0, [], 1⟩, roll := some (0, 0) })] })).updLp 0 ({ · with txEver := true })).flow.txCtx.filter
    (fun e => match e.2.roll with
      | some r => r.1 == 0 && (((flowAs id).updLp 0 ({ · with txEver := true })).lp 0).mfReached r.2
      | none => false) = [(3, { next := some ⟨5, 0, [], 1⟩, roll := some (0, 0) })] := by decide +kernel

theorem witness_key_load (d : Fin 2) : ciphKeyLoadOp.passes (cmd 1 0x07FFF (mkw [(31, 30, d.val + 1), (27, 20, 255), (19, 0, 1048575)] :: List.replicate 11 0))
    (R.withHall { R.hall with kek := some [] }) := by
  refine ⟨by revert d; decide +kernel, by revert d; decide +kernel, by revert d; decide +kernel, by revert d; decide +kernel, by revert d; decide +kernel, ?_⟩
  dsimp only [ciphKeyLoadOp]
  split
  · rfl
  · split <;> rfl

/-! ### Witnesses: received parcels, egress, lanes -/

/-- Thread 7 received on bolt 1, in SYNC at `pos` or hunting with candidates. -/
def rxThreadAs (sync : Option Nat) (cands : List Nat) (msgs : List RxMsg) : State :=
  let s := loomOne []
  let th : Thread := ⟨1, 16, 9, false⟩
  let s := s.withLoom { s.loom with threads := ⟨[(7, some th)], []⟩, labels := [(7, ⟨10, 9, 3, false⟩)], boltRx := [(1, some { st := 3 })] }
  s.withFlow { s.flow with rxThreads := [(7, { sync := sync, cands := cands, egress := some 255 })], rx := [(1048575, some ⟨7, true, 3, false⟩)],
                           rxMsgs := msgs, rxCtx := [(3, { a := some { id := 5, salt := 0, key := [], highest := 8, bitmap := 1 } })] }

/-- The header of an idle parcel, and one with its CRC wrong. -/
def idleHdr : BitVec 64 := BitVec.ofNat 64 (beNat idleHeader)
def badHdr : BitVec 64 := idleHdr ^^^ 1

/-- A ciphered message of flow 1048575 under key 5 with counter 9, one of an unknown key, a frame. -/
def msg (keyId ctr : Nat) (st : RxEnd) : RxMsg := ⟨7, 1048575, none, [], keyId, beBytes 8 ctr, st⟩

theorem witness_parcels : (rxThreadAs (some 9) [] []).threadServes 7 = true ∧ ((rxThreadAs (some 9) [] []).rxThread 7).stream = false ∧
    ((rxThreadAs (some 9) [] []).rxThread 7).sync = some 9 ∧ hdrOk idleHdr = true ∧ hdrOk badHdr = false ∧
    ((rxThreadAs none [9] []).rxThread 7).sync = none ∧ ((rxThreadAs none [9] []).rxThread 7).cands.contains 9 = true ∧
    ((rxThreadAs none [9] []).rxThread 7).cands.contains 8 = false := by decide +kernel
theorem witness_decrypt : (rxThreadAs none [] [msg 5 9 (.cipher 7)]).flow.rxMsgs[0]? = some (msg 5 9 (.cipher 7)) ∧
    (rxThreadAs none [] []).rxFlow 1048575 = some ⟨7, true, 3, false⟩ ∧ 255 < 256 ∧
    ((rxThreadAs none [] []).rxCtx 3).a = some { id := 5, salt := 0, key := [], highest := 8, bitmap := 1 } ∧ ((rxThreadAs none [] []).rxCtx 3).b = none ∧
    ({ id := 5, salt := 0, key := [], highest := 8, bitmap := 1 } : RxKey).fresh (beNat ((msg 5 9 .nothing).body.take 8)) = true ∧
    ({ id := 5, salt := 0, key := [], highest := 8, bitmap := 1 } : RxKey).fresh (beNat ((msg 5 8 .nothing).body.take 8)) = false ∧
    (msg 5 9 .nothing).segment = none ∧ (5 : Nat) ≠ (msg 6 9 .nothing).keyId := by decide +kernel
theorem witness_egress : (rxThreadAs none [] [msg 256 0 (.frame frame64)]).flow.rxMsgs = [msg 256 0 (.frame frame64)] ∧
    ((rxThreadAs none [] []).rxThread 7).egress = some (255 : Fin 256).val ∧
    (rxThreadAs none [] []).egressLevel 255 + 8 * frame64.length * egressBit ≤ egressMax ∧
    egressMax < ((rxThreadAs none [] []).updFi 255 ({ · with level := egressMax })).egressLevel 255 + 8 * frame64.length * egressBit := by decide +kernel

/-! ### Witnesses: client lanes -/

/-- Lane 7 of CLIENT1 as given, with interfaces as given. -/
def clAs (f : ClientLane → ClientLane) (ifs : Tab (Option LaneIface)) : State :=
  R.withLanes { R.lanes with groups := ⟨{ rate := 1 }, { lanes := [(7, f {})] }⟩, ifaces := ifs }

/-- Interfaces of 3,200 Gb/s on CLIENT1 and of 800 Gb/s on four groups of host lanes. -/
def fullIfaces : Tab (Option LaneIface) :=
  [(0, some { mode := 1, width := 4, rate := 5 }), (4, some { mode := 1, width := 4, rate := 5 }), (8, some { mode := 1, width := 4, rate := 5 }),
   (240, some { mode := 1, width := 8 }), (248, some { mode := 1, width := 8 })]

theorem witness_client_commands : ∀ x ∈ [(clientGroupConfigOp, cmd 1 0x15FFF [0x0000FF00], R), (clientGroupConfigOp, cmd 1 0x14FFF [0x00000100], clAs id fullIfaces),
    (clientIfaceSetOp, cmd 1 0x15FFF [mkw [(31, 30, 1), (5, 3, 4), (1, 0, 2)]], R), (clientIfaceSetOp, cmd 1 0x15FFF [mkw [(31, 30, 0), (5, 3, 0)]], R),
    (clientIfaceSetOp, cmd 1 0x15FFF [mkw [(31, 30, 2), (5, 3, 7)]], clAs id (fullIfaces.dropLast ++ [(16, some { mode := 1, width := 4, rate := 5 }),
      (20, some { mode := 1, width := 4, rate := 5 }), (24, some { mode := 1, width := 4, rate := 5 })])),
    (clientLaneEnableOp, cmd 1 0x15FFF [0x00FF0301], R), (clientLaneEnableOp, cmd 1 0x15FFF [0x00800100], clAs ({ · with rx := .up }) []),
    (clientLaneMuteOp, cmd 0 0x15FFF [0x00FF0001], R), (clientLaneMuteOp, cmd 0 0x15FFF [0x00800000], clAs ({ · with tx := .on }) []),
    (clientEqSetOp, cmd 1 0x15FFF [mkw [(31, 29, 7), (27, 24, 14), (23, 20, 12)]], R),
    (clientTxSetOp, cmd 1 0x15FFF [mkw [(31, 29, 7), (21, 16, 16), (9, 0, 900)], 0x00400000, 0], R), (clientPatternSetOp, cmd 1 0x15FFF [0xF8000002], R),
    (clientLaneStatusOp, cmd 1 0x15FFF [7], R)], OpDef.passes x.1 x.2.1 x.2.2 := by unfold OpDef.passes; decide +kernel
theorem witness_client_aggregate : aggregateMax < ((clAs id fullIfaces).withLanes { (clAs id fullIfaces).lanes with
      groups := ⟨{ rate := 0 }, { lanes := [] }⟩ }).aggregateBut 256 ∧ R.aggregateBut 252 + 4 * clientLaneRate 0 * 1000 ≤ aggregateMax := by decide +kernel
theorem witness_client_lanes : ((clAs ({ · with rx := .signalWait, los := true }) []).cl 1 7).rx ≠ .off ∧ ((clAs ({ · with rx := .signalWait, los := true }) []).cl 1 7).los = true ∧
    ((clAs ({ · with rx := .train }) []).cl 1 7).rx = .train ∧ ((clAs ({ · with rx := .train }) []).cl 1 7).step = 0 ∧
    ((clAs ({ · with rx := .train, step := 1 }) []).cl 1 7).step = 1 ∧ ((clAs ({ · with rx := .align, step := 3 }) []).cl 1 7).step = 3 ∧
    ((clAs ({ · with rx := .up }) []).cl 1 7).rx = .up ∧ ((clAs ({ · with rx := .up }) []).cl 1 7).eyeLow = !true ∧
    ((clAs ({ · with tx := .on }) []).cl 1 7).tx ≠ .off ∧ ((clAs ({ · with tx := .on }) []).cl 1 7).adcFault = false ∧
    ((clAs ({ · with rx := .signalWait, dacFault := true }) []).cl 1 7).dacFault = true := by decide +kernel

/-! ### Witnesses: host lanes -/

/-- Lane 127 of HOST7 as given, lane 0 equalised at every rate, with interfaces as given. -/
def hlAs (f : HostLane → HostLane) (ifs : Tab (Option LaneIface)) : State :=
  R.withLanes { R.lanes with host := [(127, f { rate := 5 })], eq := [(127 * 8 + 5, [0, 0, 0]), (0, [0, 0, 0])], ifaces := ifs }

theorem witness_host_commands : ∀ x ∈ [
    (hostEqLoadOp, cmd 2 0x1DFFF [1, mkw [(31, 25, 127), (24, 22, 5), (19, 14, 36), (13, 8, 48)], 0x00004000, mkw [(31, 24, 120)]], R),
    (hostIfaceSetOp, cmd 1 0x1DFFF [mkw [(31, 30, 3), (6, 3, 15)]], hlAs id []), (hostIfaceSetOp, cmd 1 0x1DFFF [mkw [(6, 3, 15)]], R),
    (hostIfaceSetOp, cmd 1 0x1DFFF [mkw [(31, 30, 3), (6, 3, 15)]], (clAs id fullIfaces).withLanes { (clAs id fullIfaces).lanes with groups := ⟨{}, {}⟩ }),
    (hostLaneEnableOp, cmd 1 0x1DFFF [0x80001701], hlAs id []), (hostLaneEnableOp, cmd 1 0x1DFFF [0xFFFF0300], R),
    (hostLaneSquelchOp, cmd 0 0x1DFFF [0xFFFF0001], R), (hostLaneSquelchOp, cmd 0 0x1DFFF [0x80000000], hlAs ({ · with tx := .on }) []),
    (hostPatternSetOp, cmd 1 0x1DFFF [mkw [(31, 28, 15), (27, 27, 1), (26, 26, 1), (25, 22, 7)]], hlAs ({ · with rx := .up }) []),
    (hostInjectOp, cmd 1 0x1DFFF [mkw [(31, 28, 15), (27, 26, 1)]], hlAs ({ · with tx := .on }) []),
    (hostInjectOp, cmd 1 0x1DFFF [mkw [(31, 28, 15), (27, 26, 2), (25, 20, 40)]], hlAs ({ · with tx := .on }) []),
    (hostLaneStatusOp, cmd 1 0x1DFFF [15], R)], OpDef.passes x.1 x.2.1 x.2.2 := by unfold OpDef.passes; decide +kernel
theorem witness_host_aggregate : R.aggregateBut 127 + hostLaneKbps 5 ≤ aggregateMax ∧
    aggregateMax < ((clAs id fullIfaces).withLanes { (clAs id fullIfaces).lanes with groups := ⟨{}, {}⟩ }).aggregateBut 127 + hostLaneKbps 0 := by decide +kernel
theorem witness_host_lanes : ((hlAs ({ · with rx := .signalWait, los := true }) []).hl 127).rx ≠ .off ∧ ((hlAs ({ · with rx := .signalWait, los := true }) []).hl 127).los = true ∧
    ((hlAs ({ · with rx := .train }) []).hl 127).rx = .train ∧ ((hlAs ({ · with rx := .up, check := true }) []).hl 127).check = true ∧
    ((hlAs ({ · with rx := .up, check := true }) []).hl 127).checkSync = false ∧ ((hlAs ({ · with rx := .up, checkSync := true }) []).hl 127).checkSync = true ∧
    (hlAs ({ · with rx := .up }) [(127, some { mode := 1, width := 1, rate := 5 })]).laneIface 127 = some { mode := 1, width := 1, rate := 5 } ∧
    (∀ l ∈ ifaceLanes 127 { mode := 1, width := 1, rate := 5 }, ((hlAs ({ · with rx := .up }) []).hl l).rx = .up ∧
      ((hlAs ({ · with rx := .up }) []).hl l).gen = false ∧ ((hlAs ({ · with rx := .up }) []).hl l).check = false) ∧
    ((hlAs ({ · with tx := .on }) []).hl 127).tx ≠ .off ∧ ((hlAs ({ · with rx := .signalWait, txFault := true }) []).hl 127).txFault = true := by decide +kernel

/-! ### Witnesses: timing -/

/-- Candidate 3 in a state, DPLL 0 using it. -/
def timeAs (st : RefSt) (f : Dpll → Dpll) : State :=
  R.withTiming { R.timing with cands := [(3, some { st := st, hostQl := 2, freqHz := 1, good := 10 })], dplls := [(0, f { ref := some 3 })] }

theorem witness_timing_commands : ∀ x ∈ [(timingConfigOp, cmd 1 0x01FFF [mkw [(29, 29, 1), (28, 28, 1), (27, 24, 0xF)]], R),
    (timingConfigOp, cmd 1 0x01FFF [mkw [(27, 24, 7), (23, 23, 1)]], R),
    (timingRefSetOp, cmd 1 0x01FFF [mkw [(31, 27, 3), (24, 21, 15), (11, 0, 3600)], mkw [(31, 16, 1), (15, 0, 2)], 800000000, 0], timeAs .qualified id),
    (timingRefSetOp, cmd 1 0x01FFF [mkw [(31, 27, 16), (26, 25, 1), (11, 0, 1)], mkw [(31, 16, 65534), (15, 0, 65535)], 0, 0], R),
    (timingDpllSetOp, cmd 1 0x01FFF [mkw [(31, 30, 3), (19, 0, 1000000)], mkw [(31, 16, 1), (15, 8, 1), (3, 0, 1)], mkw [(31, 20, 1), (19, 10, 1), (9, 0, 1)],
      499999999], R), (timingPrioSetOp, cmd 1 0x01FFF [mkw [(31, 30, 3), (3, 0, 15)], 0, 0xFFFFFFFF], R),
    (timingOutSetOp, cmd 1 0x01FFF [mkw [(31, 28, 7), (27, 27, 1)], 800000000], R),
    (timingOutSetOp, cmd 1 0x01FFF [mkw [(31, 28, 11), (27, 27, 1), (17, 16, 3), (15, 0, 6249)], 0], R),
    (timingFpAlignOp, cmd 1 0x01FFF [0xB0000000], R.withTiming { R.timing with outs := [(11, { enable := true })] }),
    (timingFpAlignOp, cmd 1 0x01FFF [0xB8000001], R.withTiming { R.timing with outs := [(11, { enable := true })] }),
    (timingForceOp, cmd 0 0x01FFF [mkw [(31, 30, 3), (29, 28, 2)]], R), (timingForceOp, cmd 0 0x01FFF [mkw [(31, 30, 3), (29, 28, 1), (4, 0, 3)]], timeAs .qualified id),
    (timingForceOp, cmd 0 0x01FFF [0], timeAs .qualified id), (timingTodSetOp, cmd 1 0x01FFF [0xFFFFFFFF, 0xFFFF], R)],
    OpDef.passes x.1 x.2.1 x.2.2 := by unfold OpDef.passes; decide +kernel
theorem witness_timing_forms : (R.xtal R.timing.xtal).fault = false ∧ (timeAs .qualified id).dpll 0 = { ref := some 3 } ∧
    (R.clkOut 11).err ≠ some 0 ∧ ¬((R.dpll 3).st = .holdover ∧ (R.dpll 3).coreFault = true) := by decide +kernel
theorem witness_xtals : (R.timing.xtals.get 1).still = false ∧ R.timing.clockLost = false ∧ (R.timing.xtals.get 1).off = false ∧ R.boot.phase ≠ .reset ∧
    R.coldReset.boot.phase = .reset ∧ ((1 : Fin 2) == 1) ≠ R.timing.xtal ∧ ((0 : Fin 2) == 1) = R.timing.xtal ∧ R.timing.xtalBackup = false ∧
    (R.withTiming { R.timing with xtalBackup := true }).timing.xtalBackup = true ∧ (R.xtal (!R.timing.xtal)).fault = false ∧
    ((R.withTiming { R.timing with xtals := ⟨{}, { still := true }⟩ }).timing.xtals.get 1).still = true := by decide +kernel
theorem witness_refs : ((timeAs .qualifying id).cand 3).st = .qualifying ∧ ((timeAs .inactive id).cand 3).st = .inactive ∧ (timeAs .inactive id).refReady 3 = true ∧
    ((timeAs .qualifying id).cand 3).qualTime ≤ ((timeAs .qualifying id).cand 3).good ∧ ((timeAs .qualified id).cand 3).st = .qualified := by decide +kernel
theorem witness_dplls : ((timeAs .qualified ({ · with ref := none, prio := [(3, 0)] })).dpll 0).st = .freeRun ∧
    (timeAs .qualified ({ · with ref := none, prio := [(3, 0)] })).choose ((timeAs .qualified ({ · with ref := none, prio := [(3, 0)] })).dpll 0) = (some 3, none) ∧
    ((timeAs .qualified ({ · with st := .acquire })).dpll 0).st = .acquire ∧ ((timeAs .qualified ({ · with st := .locked })).dpll 0).st = .locked ∧
    ((timeAs .qualified ({ · with st := .locked })).dpll 0).bwNow ≠ ((timeAs .qualified ({ · with st := .locked })).dpll 0).bw ∧
    (R.dpll 3).coreFault = false := by decide +kernel
theorem witness_tick_time : R.timing.todNext = none ∧ (R.dpll 0).ref ≠ some 16 ∧ ((timeAs .qualified ({ · with ref := some 16 })).dpll 0).ref = some 16 ∧
    (R.withTiming { R.timing with todNext := some 9 }).timing.todNext = some 9 ∧
    ((flowAs id).withTiming { R.timing with cands := [(11, some { qlSrc := 2, rxQl := 4, lane := 7 })] }).esmcOf 255 ≠ [] ∧
    ((R.withTiming { R.timing with cands := [(16, some { rxQl := 4 })] }).cand 16).rxQl ≠ 0xF ∧
    ((R.withTiming { R.timing with outs := [(11, { slew := 1 })] }).clkOut (8 + (3 : Fin 4).val)).slew ≠ 0 := by decide +kernel

/-! ### Witnesses: Assay -/

/-- Timer 7 running every 20 pulses of a sequence over channels 90 and 5, source 8 + 23 likewise, more of Assay as given. -/
def asAs (f : Assay → Assay) : State :=
  R.withAssay (f { R.assay with timers := [(7, ⟨true, 20⟩)], pwms := [(23, { enable := true })], sources := [(7, { seq := [90, 5] }), (31, { seq := [47] })], biases := [(23, { enable := true, monitor := 47, dutyMin := 0, dutyMax := 1000, d := 500 })] })

theorem witness_assay_commands : ∀ x ∈ [(assayTimerSetOp, cmd 1 0x02FFF [mkw [(31, 29, 7), (28, 28, 1), (23, 0, 1)]], R),
    (assaySeqSetOp, cmd 1 0x02FFF [mkw [(31, 27, 31), (20, 16, 2), (15, 0, 65535)], 0x00005A05], R), (assaySeqSetOp, cmd 1 0x02FFF [0], R),
    (assayChanSetOp, cmd 1 0x02FFF [mkw [(31, 25, 90), (22, 22, 1), (13, 0, 16383)], mkw [(29, 16, 16383), (13, 0, 16383)]], asAs id),
    (assayChanSetOp, cmd 1 0x02FFF [mkw [(31, 25, 5), (24, 23, 3)], 0], asAs id),
    (assayPwmSetOp, cmd 1 0x02FFF [mkw [(31, 27, 23), (15, 0, 256)], 65535], R),
    (assayBiasSetOp, cmd 1 0x02FFF [mkw [(31, 27, 23), (26, 26, 1), (23, 21, 7), (15, 8, 1), (6, 0, 47)], 3, mkw [(27, 16, 1)]], asAs id),
    (assayCalRunOp, cmd 3 0x02FFF [mkw [(31, 28, 3), (27, 27, 1), (19, 0, 1)]], R), (assayCalSetOp, cmd 1 0x02FFF [mkw [(31, 28, 8), (15, 0, 65535)]], R),
    (assayQualityReadOp, cmd 1 0x02FFF [mkw [(31, 24, 7), (15, 8, 128)]], R)], OpDef.passes x.1 x.2.1 x.2.2 := by unfold OpDef.passes; decide +kernel
theorem witness_triggers : ((asAs id).timer 7).enable = true ∧ ((asAs id).pwm 23).enable = true ∧ (asAs id).seqOf 0 = [] ∧ (asAs id).seqOf 7 ≠ [] ∧
    ((asAs id).source 7).hand = false ∧ ((asAs ({ · with sources := [(7, ⟨[5], 0, true, true, 1⟩)] })).source 7).hand = true ∧
    ((asAs ({ · with sources := [(7, ⟨[5], 0, true, true, 1⟩)] })).source 7).delaying = true ∧ (asAs id).assay.running = none ∧
    (asAs ({ · with running := some 7, pending := [(9, 31)] })).assay.running = some 7 ∧ nextPending [(9, 31)] = some (9, 31) ∧
    ((asAs id).seqOf 7).contains 90 = true := by decide +kernel
theorem witness_channels : ((asAs id).chan 90).filterNow = 0 ∧ ((asAs ({ · with chans := [(5, { filterNow := 3 })] })).chan 5).filterNow ≠ 0 ∧
    ((asAs ({ · with chans := [(5, { filterNow := 3 })] })).chan 5).fade = none ∧ ((asAs ({ · with chans := [(90, { window := true, out := true })] })).chan 90).out = true := by
  decide +kernel
theorem witness_bias : ((asAs id).bias 23).able = true ∧ ((asAs id).pwm 23).enable = true ∧ (asAs id).sweeping 23 = false ∧
    (asAs ({ · with chans := [(47, { out := true })] })).biasWrong 23 3 = true ∧ ((asAs id).bias 23).alarms.contains 3 = false ∧
    ((asAs ({ · with biases := [(23, { alarms := [2] })] })).bias 23).alarms ≠ [] := by decide +kernel
theorem witness_bias_clear : ∀ k, 1 ≤ k → k ≤ 3 → (asAs id).biasWrong 23 k = false := by
  intro k h1 h3
  obtain rfl | rfl | rfl : k = 1 ∨ k = 2 ∨ k = 3 := by omega
  all_goals decide +kernel
theorem witness_cal : calPeriodReset 8 = some 60 ∧ R.calPeriod 8 ≠ 0 ∧ R.calSubjects 8 = [0] ∧ R.calRuns 8 0 = false ∧ R.calReady 8 0 = true ∧
    (asAs ({ · with cals := [⟨1, 0, true, none⟩] })).assay.cals[0]? = some ⟨1, 0, true, none⟩ ∧ calCause 1 0 [] = 0 ∧ calCause 1 4 [] ≠ 0 ∧
    ([(0, 0, [])] : List (Nat × Nat × List Int)).find? (fun e => e.1 == 0) = some (0, 0, []) := by decide +kernel
theorem witness_quality : 127 < qualityRange 7 ∧ R.qualityValue 7 127 none = none ∧ R.qualityValue 7 127 (some 5) = some 5 := by decide +kernel

/-- The unit with one pace sensor reading, an AVSBus in fault and a shortfall. -/
def paced (p : Nat) : State := asAs ({ · with pace := [(29, some (p, 1000))], busFault := true, shortfall := true, vddCmd := 551 })

theorem witness_pace : (paced 1180).worstPace = some (29, 1180) ∧ (paced 1139).worstPace = some (29, 1139) ∧ R.worstPace = none ∧
    (paced 1180).paceHeld = false ∧ 550 < (paced 1180).assay.vddCmd ∧ (paced 1180).assay.shortfall = true ∧ (paced 1180).assay.busFault = true ∧
    farOff 800 816 = true ∧ R.assay.mismatch = false ∧ R.assay.vddCmd = 800 := by decide +kernel

/-! ### Witnesses: Hallmark and diagnostics -/

/-- One pending offer, a fuse job to step 2, block 0 of region 0x1D known to sweeps. -/
def offered : State := R.withHall { R.hall with offer := some ⟨5, [1, 2]⟩ }
def fusing (n : Nat) (cancel : Bool) : State := R.withClerk { R.clerk with jobs := [⟨5, 0x0D06, 0x00FFF, [w32 n], 0, cancel⟩] }

theorem witness_hallmark_commands : ∀ x ∈ [(hallmarkCertReadOp, cmd 2 0x00FFF [1], R), (hallmarkMeasureReadOp, cmd 1 0x00FFF [], R),
    (hallmarkAttestOp, cmd 2 0x00FFF (16 :: List.replicate 16 0), R), (hallmarkStatusOp, cmd 1 0x00FFF [], R),
    (hallmarkTallyMaskOp, cmd 1 0x00FFF [0xFFFF], R), (hallmarkKekOfferOp, cmd 2 0x00FFF [], R), (hallmarkFuseAdvanceOp, cmd 3 0x00FFF [0], R),
    (hallmarkFuseAdvanceOp, cmd 3 0x00FFF [64], R.withServ { R.serv with running := ⟨64, 0, []⟩ }),
    (diagSweepRunOp, cmd 3 0x00FFF [0x81FFFFFF, 0x01FFFFFF], R), (diagSweepRunOp, cmd 3 0x00FFF [0, 0x000FFFFF], R),
    (diagInjectOp, cmd 1 0x12000 [0x40000000], R), (diagInjectOp, cmd 1 (pairHa 0) [0xC0000000], R)],
    OpDef.passes x.1 x.2.1 x.2.2 := by unfold OpDef.passes; decide +kernel

/-- Words of whole words' bytes give the bytes back. -/
theorem bytesOf_wordsOf : ∀ l : List Byte, l.length % 4 = 0 → bytesOf (wordsOf l) = l
  | [], _ => rfl
  | a :: b :: c :: d :: r, h => by
    have hr := bytesOf_wordsOf r (by simp at h; omega)
    have ha := a.isLt; have hb := b.isLt; have hc := c.isLt; have hd := d.isLt
    simp only [wordsOf, bytesOf, List.flatMap_cons] at hr ⊢
    rw [hr]
    simp only [Word.bytes, List.cons_append, List.nil_append, List.cons.injEq, and_true]
    refine ⟨?_, ?_, ?_, ?_⟩ <;> apply BitVec.eq_of_toNat_eq <;> simp [Nat.shiftRight_eq_div_pow] <;> omega
  | [_], h => by simp at h
  | [_, _], h => by simp at h
  | [_, _, _], h => by simp at h

/-- CONFIRM of an answer of zeros to the pending offer, and a HALLMARK_KEK_ACCEPT with given CONFIRM words. -/
def goodConfirm : List Byte :=
  (fixBytes 48 (Config.hmacSha384 ((fixBytes 48 (Config.kekOkm (bytesOf [1, 2]) ((bytesOf (List.replicate 25 0)).take 97)
    (bytesOf (List.replicate 272 0)))).drop 32) ((bytesOf (List.replicate 25 0)).take 97 ++ bytesOf (List.replicate 272 0)))).take 16
def accept (confirm : List Word) : Cmd := cmd 2 0x00FFF ([5] ++ (List.replicate 25 0 ++ (List.replicate 272 0 ++ confirm)))

theorem paceHolds_unsampled {s t : State} (h : t.assay.pace = []) : s.paceHolds t = false := by
  refine List.any_eq_false.mpr fun e _ => ?_
  have hn : ∀ l : List Nat, (!(l.map fun r => Tab.get none t.assay.pace r).isEmpty && (l.map fun r => Tab.get none t.assay.pace r).all (·.isSome)) = false := by
    intro l
    cases l with
    | nil => rfl
    | cons a r => rw [h]; rfl
  simp only [State.paceLow, hn, Bool.false_and, Bool.and_false, Bool.false_eq_true, not_false_eq_true]
theorem raise_assay (s : State) (code sev ha data : Nat) : (s.raise code sev ha data).assay = s.assay := by
  have h1 : ∀ (r : EvRec) (u : State), (u.logFault r).assay = u.assay := fun r u => by unfold State.logFault; split <;> rfl
  have h2 : ∀ (i : Fin 2) (r : EvRec) (u : State), (u.offerEvent i r).assay = u.assay := fun i r u => by
    unfold State.offerEvent; dsimp only; split
    · rfl
    · split <;> rfl
  rw [State.raise, h2, h2, h1]; rfl
theorem accept_q (ws : List Word) : acceptQ (accept ws) = (bytesOf (List.replicate 25 0)).take 97 := by
  show (bytesOf ((List.drop 1 ([5] ++ _)).take 25)).take 97 = _
  rw [List.drop_left' (by rfl), List.take_left' List.length_replicate]
theorem accept_c (ws : List Word) : acceptC (accept ws) = bytesOf (List.replicate 272 0) := by
  show bytesOf ((List.drop 26 ([5] ++ (List.replicate 25 0 ++ (List.replicate 272 0 ++ ws)))).take 272) = _
  rw [← List.append_assoc, List.drop_left' (by rw [List.length_append, List.length_replicate]; rfl), List.take_left' List.length_replicate]
theorem accept_confirm {ws : List Word} (h : ws.length = 4) : acceptConfirm (accept ws) = bytesOf ws := by
  show bytesOf ((List.drop 298 ([5] ++ (List.replicate 25 0 ++ (List.replicate 272 0 ++ ws)))).take 4) = _
  rw [← List.append_assoc, ← List.append_assoc, List.drop_left' (by
    rw [List.length_append, List.length_append, List.length_replicate, List.length_replicate]; rfl), List.take_of_length_le (by omega)]
theorem accept_passes {ws : List Word} (h : ws.length = 4) : hallmarkKekAcceptOp.passes (accept ws) offered := by
  have hl : (accept ws).params.length = 302 := by
    show ([5] ++ (List.replicate 25 0 ++ (List.replicate 272 0 ++ ws))).length = 302
    simp only [List.length_append, List.length_replicate, h, List.length_cons, List.length_nil]
  have hp : (accept ws).p 0 = 5 := rfl
  have hf : (accept ws).flags = 0 := rfl
  refine ⟨rfl, rfl, by rw [Cmd.fence, hf]; rfl, ?_, by rw [Cmd.dry, hf]; rfl, ?_⟩
  · simp only [OpDef.judge, hallmarkKekAcceptOp, resv, hl, hp]; rfl
  · refine paceHolds_unsampled ?_
    dsimp only [hallmarkKekAcceptOp]
    split
    · rfl
    · split
      · rw [raise_assay]; rfl
      · rfl
theorem witness_kek_good : ∃ confirm, hallmarkKekAcceptOp.passes (accept confirm) offered ∧
    offered.offerNamed (((accept confirm).p 0).fld 15 0) = some ⟨5, [1, 2]⟩ ∧
    (fixBytes 48 (Config.hmacSha384 ((fixBytes 48 (Config.kekOkm (bytesOf [1, 2]) (acceptQ (accept confirm)) (acceptC (accept confirm)))).drop 32)
      (acceptQ (accept confirm) ++ acceptC (accept confirm)))).take 16 = acceptConfirm (accept confirm) := by
  have h : goodConfirm.length = 16 := by
    rw [goodConfirm, fixBytes, List.length_take, List.length_take, List.length_append, List.length_replicate]; omega
  have e : (wordsOf goodConfirm).length = 4 := by
    match goodConfirm, h with
    | [_, _, _, _, _, _, _, _, _, _, _, _, _, _, _, _], _ => rfl
  refine ⟨wordsOf goodConfirm, accept_passes e, rfl, ?_⟩
  rw [accept_confirm e, accept_q, accept_c, bytesOf_wordsOf _ (by omega), goodConfirm]
theorem witness_kek_bad : ∃ confirm, hallmarkKekAcceptOp.passes (accept confirm) offered ∧ goodConfirm ≠ acceptConfirm (accept confirm) := by
  by_cases h : goodConfirm = acceptConfirm (accept [0, 0, 0, 0])
  · refine ⟨[1, 0, 0, 0], accept_passes rfl, ?_⟩
    rw [h, accept_confirm rfl, accept_confirm rfl]; decide
  · exact ⟨[0, 0, 0, 0], accept_passes rfl, h⟩
theorem witness_fuse : (fusing 2 true).findJob 0x0D06 (fun _ => true) = some ⟨5, 0x0D06, 0x00FFF, [w32 2], 0, true⟩ ∧ R.hall.fuses < (w32 2).fld 6 0 ∧
    R.hall.fuses + 1 = (w32 1).fld 6 0 ∧ R.hall.fuses + 1 ≠ (w32 2).fld 6 0 ∧ ((fusing 1 false).clerk.jobs.head?.map (·.cancel)) = some false := by decide +kernel
theorem witness_sram : (targetCell R 0x12000 && holdsSram 0x12000) = true ∧ (targetCell R 0x16000 && holdsSram 0x16000) = false ∧
    Tab.get 0 R.hier.inject 0x12000 = 0 ∧ Tab.get 0 (R.withHier { R.hier with inject := [(0x12000, 2)] }).hier.inject 0x12000 = 2 ∧
    Tab.get 0 (flowAs ({ · with classes := [(9, 4)] })).flow.classes 9 = 4 ∧ (flowAs id).bolt 1 1 = some ⟨[(0, 0)], 10⟩ ∧
    (flowAs id).thread 0 7 = some ⟨1, 16, 9, false⟩ ∧ (R.withDamage [.cls 9 4]).damage = [.cls 9 4] ∧ Tab.get 0 R.flow.classes 9 = 0 := by decide +kernel
theorem witness_sweep : (R.withHier { R.hier with sweepHa := some { job := 5, first := 0, last := 0xFFFFF } }).sweepMayRead 0x12000 = true ∧
    (fusing 2 false).clerk.jobs.find? (fun k => k.num == 5) = some ⟨5, 0x0D06, 0x00FFF, [w32 2], 0, false⟩ ∧
    (R.withHier { R.hier with sweepStore := some { job := 5, first := 0, last := 9 } }).nextSwept { job := 5, first := 0, last := 9 } = none := by decide +kernel

/-! ### Witnesses: service -/

/-- A change as given, its job running. -/
def changing (k : Change) : State :=
  (R.withServ { R.serv with changes := [k] }).withClerk { R.clerk with jobs := [⟨1, 0x0E04, 0x12FFF, [], 0, false⟩] }

/-- A rolling step of position 0 of region 0x12 onto its spare block, a migration of region 0x0C, a swap of DPLL 2's cores. -/
def rolling (phase : Nat) (rest : List Nat) : Change :=
  ⟨0x12, some 1, 1, false, phase, 0, 1, 0 :: rest, ((R.spareBlock 0x12).getD 0), 0, 0x3F, false, false, false⟩
def migrating (r j phase : Nat) : Change := ⟨r, some 1, 2, false, phase, 0, 1, [], j, r, 0x3F, false, false, false⟩
def swapping (phase outgoing : Nat) (faulted : Bool) : Change := ⟨1, some 1, 3, false, phase, 0, 2, [2], 1, outgoing, 0x3F, false, faulted, false⟩

/-- A verified image on the standby slot and its load by the standby pair. -/
def handing (stage : Nat) : State := R.withServ { R.serv with verified := some ⟨0, 7, []⟩, handover := some ⟨1, 1, stage⟩ }

-- An image that passes every check of Table 16-5 rests on the opaque functions of Config, so no closed term is one; every
-- other hypothesis of its clause is met by `verifying`.
def verifying : State := R.withClerk { R.clerk with jobs := [⟨1, 0x0E02, 0x00FFF, [], 0, false⟩] }

theorem witness_service_commands : ∀ x ∈ [(serviceImageLoadOp, cmd 2 0x00FFF [0x80000000, 9], R), (serviceImageLoadOp, cmd 2 0x00FFF [0, 9], R),
    (serviceImageVerifyOp, cmd 3 0x00FFF [], R), (serviceHandoverOp, cmd 3 0x00FFF [1], R.withServ { R.serv with verified := some ⟨0, 7, []⟩ }),
    (serviceHandoverOp, cmd 3 0x00FFF [1], ((phased .recovery false).withServ { R.serv with verified := some ⟨0, 7, []⟩ }).withBoot
      { (phased .recovery false).boot with record := 1 }),
    (serviceChangeOp, cmd 3 0x0CFFF [0x40000000], R), (serviceChangeOp, cmd 3 0x12FFF [0x80000000], R),
    (serviceChangeOp, cmd 3 0x01FFF [0x40000000], R.withTiming { R.timing with dplls := [0, 1, 2, 3].map fun d => (d, { st := .locked }) }),
    (serviceChangeOp, cmd 3 0x1203F [0x80000000], R), (serviceChangeOp, cmd 3 (haOf 0x12 ((R.spareBlock 0x12).getD 0) 0x3F) [0x80000000], R)],
    OpDef.passes x.1 x.2.1 x.2.2 := by unfold OpDef.passes; decide +kernel
theorem witness_service_forms : R.serv.verified = none ∧ R.standbySlot < 2 ∧ R.change 0x12 = none ∧ (R.migrates (cmd 3 0x0CFFF [0x40000000])).isSome = true ∧
    R.migrates (cmd 3 0x12FFF [0x80000000]) = none ∧ changedDplls (cmd 3 0x12FFF []) = [] ∧ changedDplls (cmd 3 0x01FFF []) ≠ [] ∧
    (R.spareBlock 0x12).isSome = true ∧ (R.block 0x12 0).serves ≠ 0x3F ∧ (R.block 0x12 ((R.spareBlock 0x12).getD 0)).serves = 0x3F ∧
    (phased .recovery false).live = false := by decide +kernel
theorem witness_verify : verifying.live = true ∧ verifying.findJob 0x0E02 (fun _ => true) = some ⟨1, 0x0E02, 0x00FFF, [], 0, false⟩ ∧
    imageCause verifying.hall.fuses ((verifying.slotWords verifying.standbySlot).getD []) ≠ 0 := by decide +kernel
theorem witness_rolling : (changing (rolling 1 [])).change 0x12 = some (rolling 1 []) ∧ (rolling 1 []).method = 1 ∧ (changing (rolling 3 [])).rw.a.replay = none ∧
    (rolling 3 []).incoming ≠ (changing (rolling 3 [])).server 0x12 (rolling 3 []).pos ∧
    (((changing (rolling 0 [])).block 0x12 (rolling 0 []).incoming).retested [7]).2 = true ∧
    (((changing (rolling 0 [])).block 0x12 (rolling 0 []).incoming).retested [0, 8]).2 = false ∧
    (((changing (rolling 4 [])).block 0x12 (rolling 4 []).outgoing).retested []).2 = true ∧ (rolling 4 [1]).positions.tail ≠ [] ∧
    (((changing (rolling 4 [])).block 0x12 (rolling 4 []).outgoing).retested [0, 1]).2 = false ∧ isFec 0x12 = false := by decide +kernel
theorem witness_migrating : (changing (migrating 0x0C 0x11 1)).change 0x0C = some (migrating 0x0C 0x11 1) ∧ (migrating 0x0C 0x11 1).incoming ≠ 0x0C ∧
    isFec 0x0C = true ∧ isCiph 0x07 = true ∧ ((changing (migrating 0x07 0x0B 3)).region 0x07).poolRole = 0 ∧
    (((changing (migrating 0x0C 0x11 3)).setRegion 0x0C ⟨2, false⟩).region 0x0C).poolRole = 2 ∧
    ((changing (migrating 0x0C 0x11 3)).setRegion 0x0C ⟨2, false⟩).drainedRegion 0x0C = true ∧
    ((changing (migrating 0x0C 0x11 4)).retestRegion 0x0C false []).1 = true := by decide +kernel
theorem witness_migration_fails : ((changing (migrating 0x0C 0x11 4)).retestRegion 0x0C false
    ((List.range 64).flatMap fun b => [(b, 0), (b, 1)])).1 = false := by decide +kernel
theorem witness_swapping : (changing (swapping 1 0 false)).change 1 = some (swapping 1 0 false) ∧ (swapping 1 0 true).pos = (2 : Fin 4).val ∧
    (swapping 3 0 false).outgoing = 0 ∧ (swapping 3 1 false).outgoing ≠ 0 ∧ (swapping 3 1 false).positions.tail = [] := by decide +kernel
theorem witness_handover : (handing 1).serv.handover = some ⟨1, 1, 1⟩ ∧ (handing 2).pairReady = true ∧ (handing 2).serv.verified = some ⟨0, 7, []⟩ ∧
    (handing 3).serv.handover = some ⟨1, 1, 3⟩ ∧ R.serv.days = 0 := by decide +kernel

/-! ### The spec's own worked examples: every expected figure below is printed in spec/ -/

/-- The state a command answers, or the state as it was. -/
def after (a : Ans) (s : State) : State :=
  match a with
  | .next t => t
  | _ => s

/-- spec/00 Example 1 to 3: cell 0x1F of block 0x07 of LINE0. -/
theorem test_address : haOf 0x12 7 0x1F = 0x121DF ∧ haRegion 0x121DF = 0x12 ∧ haBlock 0x121DF = 7 ∧ haCell 0x121DF = 0x1F := by decide

/-- spec/02 Example 1: CLERK_JOB_RESULT for job 0x0123 with SEQ 0x2A, and its CRC over the bytes named there. -/
theorem test_packet : (packetWords 0x0002 ⟨0, 1, 0x2A, 0, 0x00FFF, [0x0123]⟩).take 3 = [0x00022A00, 0x00100FFF, 0x00000123] ∧
    (packetWords 0x0002 ⟨0, 1, 0x2A, 0, 0x00FFF, [0x0123]⟩).getD 3 0 =
      w32 (crc32 [0x00, 0x2A, 0x02, 0x00, 0xFF, 0x0F, 0x10, 0x00, 0x23, 0x01, 0x00, 0x00]) := by decide +kernel

/-- spec/02 Table 2-13: the packet corrupted in word 2 is lost with CMD_LOST DATA 0x8001_2A00. -/
theorem test_cmd_lost : lands (exec (.commandTake 0 1 [0x00022A00, 0x00100FFF, 0x00000122,
    w32 (crc32 [0x00, 0x2A, 0x02, 0x00, 0xFF, 0x0F, 0x10, 0x00, 0x23, 0x01, 0x00, 0x00])])
      ((R.setRing 1 { enable := true, sizeLog2 := 4, prod := 7, cons := 5 }).setRing 5 { enable := true, sizeLog2 := 4 }))
    (fun t => (t.clerk.ev.get 0).buf.any fun e => e.data == 0x80012A00) = true := by decide +kernel

/-- spec/03 Example 3 and 4: port 0 received at 400 GBd PCS-64QAM, entropy 5.250, YQ inverted, 69,300 ps/nm at 193.45 THz. -/
theorem test_rx_settings :
    (let t := after (exec (.lineRxConfig (cmd 1 0x12FFF [0x0C8020A8, 0x00000001])) R) R
     (t.rxp 0).symRate = 3200 ∧ (t.rxp 0).mod = 2 ∧ (t.rxp 0).entropy = 168 ∧ (t.rxp 0).invert = 1) ∧
    (let t := after (exec (.lineRxCdSet (cmd 1 0x12FFF [0x00110EB4, 0x001D84A4, 0])) R) R
     (t.rxp 0).cd = 69300 ∧ (t.rxp 0).centre = 1934500 ∧ (t.rxp 0).cdMode = 1) := by decide +kernel

/-- spec/04 Example 3 and 5: a contradiction at span 5,000,000 consumed by 5,000,080 with E at 5,000,299 replays 220 spans. -/
theorem test_rollback : lands (exec (.finalDecisionsArrive 0 5000000 47 0 [] false)
    ((rxAs .tracking ({ · with next := 5000352 })).setRw 0 { track := 5000300, fin := 5000000, spans := [{ idx := 5000000, handed := true, decided := some true, consumer := some 5000080 }] }))
    (fun t => (t.rwp 0).replay == some ⟨5000080, 5000299, 5000080⟩ && (t.rwp 0).backlog == 220) = true := by decide +kernel

/-- spec/05 Example 2 to 5: B_F and S at 400 GBd with 21 % overhead. -/
theorem test_capacity : capacity 3200 2 168 1 = 8484694 ∧ slotsOf 3200 2 168 1 = 640 ∧ capacity 3200 2 164 1 = 8232694 ∧ slotsOf 3200 2 164 1 = 640 ∧
    capacity 3200 2 163 1 = 8169694 ∧ slotsOf 3200 2 163 1 = 636 ∧ slotsOf 3200 2 162 1 = 632 ∧ slotsOf 3200 2 161 1 = 627 ∧
    slotsOf 3200 2 160 1 = 622 ∧ slotsOf 3200 2 159 1 = 617 ∧ slotsOf 3200 2 158 1 = 612 := by decide

/-- spec/05 Table 5-16: φ is 0.25 at 2.5 ms, 0.6 at the soft mute at 6 ms, 0.25 again at 9.5 ms and 0 at 12 ms. -/
theorem test_ramp :
    (let s := txIn .rampUp
     let t := after (exec (.lineTxMute (cmd 0 0x12FFF [1])) (s.withTime (6 * milli))) s
     (s.txp 0).phase (2500 * 1000 * nano) = (1, 4) ∧ (s.txp 0).phase (6 * milli) = (3, 5) ∧ (t.txp 0).st = .rampDown ∧
     (t.txp 0).phase (9500 * 1000 * nano) = (1, 4) ∧ ((t.txp 0).phase (12 * milli)).1 = 0) := by decide +kernel

/-- spec/06 Example 1: FEC_PORT_CONFIG 0x010C_0100; Example 4 and 5: four working regions, LINE1 at 300 GBd. -/
theorem test_fec :
    (let t := after (exec (.fecPortConfig (cmd 1 0x12FFF [0x010C0100])) R) R
     (t.fecp 0).early = true ∧ (t.fecp 0).maxIter = 12 ∧ (t.fecp 0).oh = 1) ∧
    (let s := (((rxIn .tracking).updRx 1 ({ · with symRate := 2400, mod := 2, entropy := 168, st := .tracking })).setRegion 0x0D ⟨3, false⟩).setRegion 0x11 ⟨3, false⟩
     s.fecGuaranteed = 175000000 ∧ s.fecRequired = 191406250 * 409600 ∧ ((fecPoolStatus s).getD 0 0).fld 31 28 = 4 ∧
     ((fecPoolStatus s).getD 0 0).fld 27 20 = 0xFF ∧ s.refreshFec.fec.short = true ∧
     ((s.updRx 1 ({ · with symRate := 1920 })).refreshFec).fec.short = false) := by decide +kernel

/-- spec/07 Example 2 and 3: guard entries, and LINE_RA_CONFIG with every other field at reset. -/
theorem test_ra :
    (let t := after (exec (.lineRaGuardSet (cmd 2 0x12FFF [2, 0x80000200, 0x00A02000, 0xC0000300, 0])) R) R
     Tab.get none (t.ra.guards.get 0) 0x200 = some ⟨2, 10, 8192⟩ ∧ Tab.get none (t.ra.guards.get 0) 0x300 = some ⟨3, 0, 0⟩) ∧
    (let s := rxIn .tracking
     let u := s.setTx 0 { s.txp 0 with mod := 2, symRate := 3200, entropy := 164 }
     (after (exec (.lineRaConfig (cmd 1 0x12FFF [0xC0000000, 0, 0x190A6100, 0x02580032])) u) R).rap 0 =
       { (R.rap 0) with rxAuto := true, txAccept := true }) := by decide +kernel

/-- spec/08 Example 2: parameter word 0 of the LOOM_BOLT_SET names bolt 0x010, 800 members and 15 ms. -/
theorem test_bolt_word : (0xC0832096 : Word).fld 29 19 = 0x010 ∧ (0xC0832096 : Word).fld 18 8 = 800 ∧ (0xC0832096 : Word).fld 7 0 = 150 := by decide

/-- spec/09 Example 2 and 3: FLOW_CONTEXT takes 86 bays; context 1,000 lies in data cell 1 of stripe 4,972,877. -/
theorem test_flow_context :
    (let t := after (exec (.storePartCreate (cmd 1 0x04FFF [0x30000000])) R) R
     (t.baysOf 3).length = 86 ∧ t.store.epochNext = 2 ∧ (t.bay 85).epoch = 1) ∧
    (storeAs [(1214, ⟨3, 2, false⟩)] id).recordAt 3 1000 = (4972877, 1) := by decide +kernel

/-- spec/10 Example 2: FLOW_SET of flow A. -/
theorem test_flow_set :
    (let t := after (exec (.flowSet (cmd 2 0x06FFF [0x80000001, 0x80001234, 0x00800000, 0x01234000, 0x05DC0000])) R) R
     (t.txFlow 0x1234).map (fun x => (x.thread, x.ciph, x.ctx, x.quantum)) = some (0x200, true, 0x1234, 1500) ∧ t.rxFlow 0x1234 = none) := by decide +kernel

/-- spec/11 Example 1 and 2: interface 250 over lanes 2 and 3 of CLIENT1, enabled both ways. -/
theorem test_client :
    (let t := after (exec (.clientIfaceSet (cmd 1 0x15FFF [0x40000011])) R) R
     (t.laneIface 250).map (fun x => (x.mode, x.width)) = some (1, 2) ∧ t.ifaceKbps 250 = 800000000) ∧
    (let t := after (exec (.clientLaneEnable (cmd 1 0x15FFF [0x000C0301])) R) R
     (t.cl 1 2).rx = .signalWait ∧ (t.cl 1 3).tx = .muted ∧ (t.cl 1 1).rx = .off ∧ (t.cl 0 2).rx = .off) := by decide +kernel

/-- spec/12 Example 3 and 5: the table entry of lane 120 at RATE 1, and interface 120. -/
theorem test_host :
    (let c := cmd 2 0x1DFFF [1, 0xF0474C20, 0x00FC34F8, 0x50000000]
     hostEqLoadOp.judge c R = none ∧ eqKey c 0 = 120 * 8 + 1 ∧ (c.p 1).fld 19 14 = 29 ∧ (c.p 1).fld 13 8 = 12 ∧ (c.p 3).fld 31 24 = 80) ∧
    hostLane (cmd 1 0x1DFFF []) 8 = 120 := by decide +kernel

/-- spec/13 Example 1: every field but BW is at reset; DPLL 0 takes BW 1,000. -/
theorem test_dpll : (after (exec (.timingDpllSet (cmd 1 0x01FFF [0x200003E8, 0x012C04BA, 0x0C805064, 0])) R) R).dpll 0 =
    Dpll.setBw 1000 (R.dpll 0) ∧ (Dpll.setBw 1000 (R.dpll 0)).bw = 1000 := by decide +kernel

/-- spec/14 Table 14-12: a second packet at 15.5 dB captures one at 9.0 dB with CAPTURE at 6 dB. -/
theorem test_capture : lands (exec (.syncQualify 1 true 31 9) (crAs ({ · with rx := 3, second := true, strength := 18 })))
    (fun t => (t.cr 1).strength == 31 && (t.cr 1).syncAt == 9) = true := by decide +kernel

/-- spec/15 Example 2: the sequence of source 11 is AIN12, AIN13 after a delay of 91 clocks. -/
theorem test_sequence : (after (exec (.assaySeqSet (cmd 1 0x02FFF [0x5802005B, 0x00000D0C])) R) R).source 11 = { seq := [12, 13], delay := 91 } := by
  decide +kernel

/-- spec/16 Example 1, 2 and 4: with F at 3, image A at SVN 5 and a verified standby at SVN 3, target 5 is SVN_ORDER; at SVN 5 it is accepted. -/
theorem test_fuses :
    (let s (v : Nat) := (R.withHall { R.hall with fuses := 3 }).withServ { R.serv with running := ⟨5, 0, []⟩, verified := some ⟨v, 0, []⟩ }
     (hallmarkStatus (s 3)).head? = some 0x00030503 ∧ hallmarkFuseAdvanceOp.judge (cmd 3 0x00FFF [5]) (s 3) = some ⟨0x19, 0xFFFF, 0x3C⟩ ∧
     hallmarkFuseAdvanceOp.judge (cmd 3 0x00FFF [5]) (s 5) = none) := by decide +kernel

/-- spec/17 Example 2: a word that stays wrong after its write-back raises HEALTH to 0b01. -/
theorem test_repeat : lands (exec (.sramRead 0x06143#20 0x9A40 true 1 true .payload false) R)
    (fun t => (t.sram 0x06143).repeated == 1 && t.hier.health == 1) = true := by decide +kernel

/-- spec/18 Example 3: 17 of 40 steps with block 0x10 freed last. -/
theorem test_change_word : Change.result ⟨0x12, some 1, 1, true, 4, 17, 40, [], 0, 0, 0x10, false, false, false⟩ = 0x11280010 := by decide

/-- spec/20 Example 2: power-on, slot A, FALLBACK, CAUSE_B 1. -/
theorem test_boot_word : (bootStatus { R.boot with cause := 1, slot := 0, fallback := true, causeB := 1 }).head? = some 0x14040000 := by
  decide +kernel

/-- spec/22 Example: LOOM_BOLT_SET of 1,280 members on ROUTINE is WRONG_QUEUE with DETAIL 0xFFFF_0000. -/
theorem test_wrong_queue : loomBoltSetOp.judge (cmd 1 0x05FFF (List.replicate 641 0)) R = some ⟨stWrongQueue, 0xFFFF, 0⟩ ∧ loomBoltSetOp.hi = 641 := by
  decide +kernel

/-! ### Bits on the air and the lanes (spec/11 R331 to R333, spec/14 R396) -/

/-- u and v have period 127 and 64 chips of 1, as sequences of a primitive polynomial of degree 7 have (R396). -/
theorem test_gold_pair : crierU.length = 127 ∧ crierV.length = 127 ∧ crierU.count true = 64 ∧ crierV.count true = 64 ∧
    (crierU.getD 123 false != crierU.getD 120 false) = true := by
  decide +kernel

/-- Code 5 at chip 3 is u(3) + v(0), at chip 2 u(2) + v(126) (R396). -/
theorem test_gold_delay : goldChip 5 3 = (goldChip 0 3 != goldChip 1 0) ∧ goldChip 5 2 = (goldChip 0 2 != goldChip 1 126) := by
  decide +kernel

/-- A codeword has the roots α^0 to α^15 (R331). -/
theorem test_rs_codeword :
    (List.range 16).all (fun j => rsSyndrome ([3, 1000] ++ [1, 2, 1023] ++ rsParity ([3, 1000] ++ [1, 2, 1023])) j == 0) = true := by
  decide +kernel

/-- α^10 = α^3 + 1 (R331), and the Gray map takes 11 to +1 (R333). -/
theorem test_field_and_gray : gfPow 10 = 9 ∧ grayIndex true true = 2 ∧ grayIndex true false = 3 := by decide +kernel

end Sys2Proof.Tests
end

section
/-!
PROOFS. Boundary FIFOs (spec/01 R28 to R33): what one FIFO reads after another is put, what a commit does to a packet that
fits and to one that does not, the answer of each happening at a FIFO that exists, and the statements about them.
-/

namespace Sys2Proof.Machine

/-! ### The FIFOs of the state -/

/-- Reading a FIFO after one of them is put. -/
theorem State.fifo_setFifo (s : State) (k j : Nat) (f : Fifo) :
    (s.setFifo k f).fifo j = if j = k then f else s.fifo j :=
  Tab.get_set s.hier.fifos k j

@[simp] theorem State.fifo_setFifo_same (s : State) (k : Nat) (f : Fifo) : (s.setFifo k f).fifo k = f := by
  simp [State.fifo_setFifo]

theorem State.fifo_setFifo_of_ne {k j : Nat} (s : State) (f : Fifo) (h : j ≠ k) : (s.setFifo k f).fifo j = s.fifo j := by
  simp [State.fifo_setFifo, h]

/-- Nothing changes from a state to itself: where a chain of `_keeps` lemmas begins. -/
theorem Keeps.refl {cs : List Comp} (s : State) : Keeps cs s s :=
  ⟨rfl, Nat.le_refl _, ⟨[], List.append_nil _⟩, id, fun c _ => by cases c <;> rfl⟩

theorem State.only_setFifo (s : State) (k : Nat) (f : Fifo) : s.only [.hier] (s.setFifo k f) :=
  (State.setFifo_keeps (Keeps.refl s)).frame

/-! ### A commit, by whether the packet fits -/

theorem Fifo.commit_of_fits {f : Fifo} {n : Nat} (h : f.packets.sum + n ≤ fifoDepth) :
    f.commit n = { f with packets := f.packets ++ [n], uncommitted := 0, held := false,
                          expiries := if f.packets.isEmpty then 0 else f.expiries,
                          committed := (f.committed + 1) % 2 ^ 48, highWater := max f.highWater (f.packets.sum + n) } :=
  if_pos h

theorem Fifo.commit_of_not_fits {f : Fifo} {n : Nat} (h : fifoDepth < f.packets.sum + n) :
    f.commit n = { f with uncommitted := fifoDepth - f.packets.sum, held := true, highWater := max f.highWater fifoDepth } :=
  if_neg (Nat.not_le.mpr h)

/-! ### The happenings at a FIFO that exists, while the device runs -/

section
variable {s : State} {cell : BitVec 20} {d : Dir} (hl : s.live = true) (hc : targetCell s cell.toNat = true)
  (ho : ownsFifo (haRegion cell.toNat) = true)
include hl hc ho

/-- A happening whose precondition the FIFO meets takes effect on it. -/
theorem atFifo_of_ok {ok : Fifo → Bool} {f : Fifo → State → State} (hok : ok (s.fifo (fifoKey cell.toNat d)) = true) :
    atFifo cell d ok f s = .next (f (s.fifo (fifoKey cell.toNat d)) s) := by
  simp [atFifo, happen, hl, hc, ho, hok]

theorem exec_packetCommit {n : Nat} (h1 : 1 ≤ n) (hn : n ≤ fifoDepth) :
    exec (.packetCommit cell d n) s =
      .next (s.setFifo (fifoKey cell.toNat d) ((s.fifo (fifoKey cell.toNat d)).commit n)) := by
  change execPacketCommit cell d n s = _
  exact atFifo_of_ok hl hc ho (decide_eq_true ⟨h1, hn⟩)

theorem exec_packetAbort :
    exec (.packetAbort cell d) s = .next (s.setFifo (fifoKey cell.toNat d) (s.fifo (fifoKey cell.toNat d)).abort) := by
  change execPacketAbort cell d s = _
  exact atFifo_of_ok hl hc ho rfl

theorem exec_fifoRead (h : (s.fifo (fifoKey cell.toNat d)).packets ≠ []) :
    exec (.fifoRead cell d) s = .next (s.setFifo (fifoKey cell.toNat d) (s.fifo (fifoKey cell.toNat d)).read) := by
  change execFifoRead cell d s = _
  exact atFifo_of_ok hl hc ho (by simpa using h)

theorem exec_writerRelease (hh : (s.fifo (fifoKey cell.toNat d)).held = true)
    (hroom : (s.fifo (fifoKey cell.toNat d)).occupancy < fifoDepth) :
    exec (.writerRelease cell d) s =
      .next (s.setFifo (fifoKey cell.toNat d) { s.fifo (fifoKey cell.toNat d) with held := false }) := by
  change execWriterRelease cell d s = _
  exact atFifo_of_ok hl hc ho (by rw [hh, Bool.true_and]; exact decide_eq_true hroom)

/-- The first expiry without a completed read asks for a drain (R31). -/
theorem exec_fifoIdleExpiry_first (h : (s.fifo (fifoKey cell.toNat d)).packets ≠ [])
    (he : (s.fifo (fifoKey cell.toNat d)).expiries = 0) :
    exec (.fifoIdleExpiry cell d) s =
      .next (s.setFifo (fifoKey cell.toNat d) { s.fifo (fifoKey cell.toNat d) with
        expiries := 1, drains := ((s.fifo (fifoKey cell.toNat d)).drains + 1) % 2 ^ 48 }) := by
  change execFifoIdleExpiry cell d s = _
  rw [execFifoIdleExpiry, atFifo_of_ok hl hc ho (by simpa using h)]
  simp [he]

/-- The second expiry without a completed read raises FIFO_IDLE (R31, Table 17-8). -/
theorem exec_fifoIdleExpiry_second (h : (s.fifo (fifoKey cell.toNat d)).packets ≠ [])
    (he : (s.fifo (fifoKey cell.toNat d)).expiries = 1) :
    exec (.fifoIdleExpiry cell d) s =
      .next ((s.setFifo (fifoKey cell.toNat d) { s.fifo (fifoKey cell.toNat d) with
        expiries := 2, idles := ((s.fifo (fifoKey cell.toNat d)).idles + 1) % 2 ^ 48 }).raise 0x0F09 1 cell.toNat
          (dirCode d * 2 ^ 30 + sat 0xFFFF (s.fifo (fifoKey cell.toNat d)).packets.sum)) := by
  change execFifoIdleExpiry cell d s = _
  rw [execFifoIdleExpiry, atFifo_of_ok hl hc ho (by simpa using h)]
  simp [he, Fifo.words]

end

/-! ### The statements -/

/-- Settles O30: a commit that fits and an abort each put one FIFO, and only the commit touches the packets seen. -/
theorem fifoCommitAndAbort : Obligations.FifoCommitAndAbort := by
  intro s cell d hl hc ho f
  refine ⟨fun n h1 hfit => ?commit, ?abort⟩
  case commit =>
    have hn : n ≤ fifoDepth := Nat.le_trans (Nat.le_add_left n f.packets.sum) hfit
    refine ⟨_, exec_packetCommit hl hc ho h1 hn, State.only_setFifo _ _ _, ?_, ?_, ?_,
      fun k hk => State.fifo_setFifo_of_ne _ _ hk⟩ <;>
    rw [State.fifo_setFifo_same, Fifo.commit_of_fits hfit]
  case abort =>
    refine ⟨_, exec_packetAbort hl hc ho, State.only_setFifo _ _ _, ?_, ?_, ?_, ?_,
      fun k hk => State.fifo_setFifo_of_ne _ _ hk⟩ <;>
    rw [State.fifo_setFifo_same] <;> rfl

/-- Settles O31: a read and an expiry need a packet in the FIFO, a hold a packet that does not fit, a release a held writer
and room. -/
theorem fifoReaderAndTimer : Obligations.FifoReaderAndTimer := by
  intro s cell d hl hc ho f
  refine ⟨fun n r hp => ?reader, fun n h1 hn hover => ?held, fun hh hroom => exec_writerRelease hl hc ho hh hroom⟩
  case reader =>
    have hne : f.packets ≠ [] := by simp [hp]
    have hread : f.read = { f with packets := r, expiries := 0, reading := false } := by simp [Fifo.read, hp]
    exact ⟨hread ▸ exec_fifoRead hl hc ho hne, exec_fifoIdleExpiry_first hl hc ho hne,
      exec_fifoIdleExpiry_second hl hc ho hne⟩
  case held =>
    have hcommit := Fifo.commit_of_not_fits hover
    exact ⟨f.commit n, by rw [hcommit], by rw [hcommit], by rw [hcommit], exec_packetCommit hl hc ho h1 hn⟩

end Sys2Proof.Machine
end

section
/-!
PROOFS. The invariant (spec/02 R55, R62, spec/09 R262, spec/17 R471, R472, spec/19 R499, spec/20 R519): every command keeps
what `Keeps` says within the components of its row of `touches`, so a step does; the state after reset has it.
-/

namespace Sys2Proof.Machine

/-! ### What every command keeps -/

theorem subset_of_decide {a b cs : List Comp} (h : decide (a ⊆ b) = true) (hb : b ⊆ cs) : a ⊆ cs :=
  List.Subset.trans (of_decide_eq_true h) hb

/-- Every command changes at most the components of its row of `touches`, and keeps the queue, the fuses, the record of what
left and the invariant: the lemma of its own meaning, arm by arm. -/
theorem exec_keeps {cs : List Comp} {s₀ s : State} (i : Instr) (hk : Keeps cs s₀ s) (hm : touches i ⊆ cs) :
    AnsKeeps cs s₀ (exec i s) := by
  cases i with
  | clerkNop => exact execClerkNop_keeps hk (subset_of_decide rfl hm)
  | clerkJobResult => exact execClerkJobResult_keeps hk (subset_of_decide rfl hm)
  | clerkJobCancel => exact execClerkJobCancel_keeps hk (subset_of_decide rfl hm)
  | clerkProtoCounters => exact execClerkProtoCounters_keeps hk (subset_of_decide rfl hm)
  | clerkEventFilterSet => exact execClerkEventFilterSet_keeps hk (subset_of_decide rfl hm)
  | clerkBootStatus => exact execClerkBootStatus_keeps hk (subset_of_decide rfl hm)
  | clerkMapRead => exact execClerkMapRead_keeps hk (subset_of_decide rfl hm)
  | clerkFifoIdleSet => exact execClerkFifoIdleSet_keeps hk (subset_of_decide rfl hm)
  | timingConfig => exact execTimingConfig_keeps hk (subset_of_decide rfl hm)
  | timingRefSet => exact execTimingRefSet_keeps hk (subset_of_decide rfl hm)
  | timingDpllSet => exact execTimingDpllSet_keeps hk (subset_of_decide rfl hm)
  | timingPrioSet => exact execTimingPrioSet_keeps hk (subset_of_decide rfl hm)
  | timingOutSet => exact execTimingOutSet_keeps hk (subset_of_decide rfl hm)
  | timingFpAlign => exact execTimingFpAlign_keeps hk (subset_of_decide rfl hm)
  | timingForce => exact execTimingForce_keeps hk (subset_of_decide rfl hm)
  | timingTodSet => exact execTimingTodSet_keeps hk (subset_of_decide rfl hm)
  | timingStatus => exact execTimingStatus_keeps hk (subset_of_decide rfl hm)
  | timingRefStatus => exact execTimingRefStatus_keeps hk (subset_of_decide rfl hm)
  | timingDpllStatus => exact execTimingDpllStatus_keeps hk (subset_of_decide rfl hm)
  | timingCounters => exact execTimingCounters_keeps hk (subset_of_decide rfl hm)
  | assayTimerSet => exact execAssayTimerSet_keeps hk (subset_of_decide rfl hm)
  | assaySeqSet => exact execAssaySeqSet_keeps hk (subset_of_decide rfl hm)
  | assayChanSet => exact execAssayChanSet_keeps hk (subset_of_decide rfl hm)
  | assayTelemRead => exact execAssayTelemRead_keeps hk (subset_of_decide rfl hm)
  | assayPwmSet => exact execAssayPwmSet_keeps hk (subset_of_decide rfl hm)
  | assayBiasSet => exact execAssayBiasSet_keeps hk (subset_of_decide rfl hm)
  | assayBiasStatus => exact execAssayBiasStatus_keeps hk (subset_of_decide rfl hm)
  | assayCalRun => exact execAssayCalRun_keeps hk (subset_of_decide rfl hm)
  | assayCalSet => exact execAssayCalSet_keeps hk (subset_of_decide rfl hm)
  | assayQualityRead => exact execAssayQualityRead_keeps hk (subset_of_decide rfl hm)
  | assayPaceStatus => exact execAssayPaceStatus_keeps hk (subset_of_decide rfl hm)
  | assayCounters => exact execAssayCounters_keeps hk (subset_of_decide rfl hm)
  | crierPortSet => exact execCrierPortSet_keeps hk (subset_of_decide rfl hm)
  | crierUnitSet => exact execCrierUnitSet_keeps hk (subset_of_decide rfl hm)
  | crierSend => exact execCrierSend_keeps hk (subset_of_decide rfl hm)
  | crierReceive => exact execCrierReceive_keeps hk (subset_of_decide rfl hm)
  | crierAdmit => exact execCrierAdmit_keeps hk (subset_of_decide rfl hm)
  | crierMemberRead => exact execCrierMemberRead_keeps hk (subset_of_decide rfl hm)
  | crierStatus => exact execCrierStatus_keeps hk (subset_of_decide rfl hm)
  | crierCounters => exact execCrierCounters_keeps hk (subset_of_decide rfl hm)
  | storePartCreate => exact execStorePartCreate_keeps hk (subset_of_decide rfl hm)
  | storePartResize => exact execStorePartResize_keeps hk (subset_of_decide rfl hm)
  | storePartDelete => exact execStorePartDelete_keeps hk (subset_of_decide rfl hm)
  | storePartSet => exact execStorePartSet_keeps hk (subset_of_decide rfl hm)
  | storePartStatus => exact execStorePartStatus_keeps hk (subset_of_decide rfl hm)
  | storeStatus => exact execStoreStatus_keeps hk (subset_of_decide rfl hm)
  | storeCounters => exact execStoreCounters_keeps hk (subset_of_decide rfl hm)
  | storeStackRetire => exact execStoreStackRetire_keeps hk (subset_of_decide rfl hm)
  | storeStackRestore => exact execStoreStackRestore_keeps hk (subset_of_decide rfl hm)
  | storeInject => exact execStoreInject_keeps hk (subset_of_decide rfl hm)
  | loomPortConfig => exact execLoomPortConfig_keeps hk (subset_of_decide rfl hm)
  | loomBoltSet => exact execLoomBoltSet_keeps hk (subset_of_decide rfl hm)
  | loomThreadSet => exact execLoomThreadSet_keeps hk (subset_of_decide rfl hm)
  | loomProtSet => exact execLoomProtSet_keeps hk (subset_of_decide rfl hm)
  | loomProtSwitch => exact execLoomProtSwitch_keeps hk (subset_of_decide rfl hm)
  | loomPortStatus => exact execLoomPortStatus_keeps hk (subset_of_decide rfl hm)
  | loomBoltStatus => exact execLoomBoltStatus_keeps hk (subset_of_decide rfl hm)
  | loomThreadStatus => exact execLoomThreadStatus_keeps hk (subset_of_decide rfl hm)
  | loomPmRead => exact execLoomPmRead_keeps hk (subset_of_decide rfl hm)
  | loomMapRead => exact execLoomMapRead_keeps hk (subset_of_decide rfl hm)
  | loomCounters => exact execLoomCounters_keeps hk (subset_of_decide rfl hm)
  | flowIfaceSet => exact execFlowIfaceSet_keeps hk (subset_of_decide rfl hm)
  | flowSet => exact execFlowSet_keeps hk (subset_of_decide rfl hm)
  | flowClassMap => exact execFlowClassMap_keeps hk (subset_of_decide rfl hm)
  | flowThreadSet => exact execFlowThreadSet_keeps hk (subset_of_decide rfl hm)
  | flowStatus => exact execFlowStatus_keeps hk (subset_of_decide rfl hm)
  | flowCounters => exact execFlowCounters_keeps hk (subset_of_decide rfl hm)
  | flowRegionCounters => exact execFlowRegionCounters_keeps hk (subset_of_decide rfl hm)
  | ciphKeyLoad => exact execCiphKeyLoad_keeps hk (subset_of_decide rfl hm)
  | ciphRollover => exact execCiphRollover_keeps hk (subset_of_decide rfl hm)
  | ciphCtxStatus => exact execCiphCtxStatus_keeps hk (subset_of_decide rfl hm)
  | ciphPoolStatus => exact execCiphPoolStatus_keeps hk (subset_of_decide rfl hm)
  | ciphCounters => exact execCiphCounters_keeps hk (subset_of_decide rfl hm)
  | fecPortConfig => exact execFecPortConfig_keeps hk (subset_of_decide rfl hm)
  | fecPortStatus => exact execFecPortStatus_keeps hk (subset_of_decide rfl hm)
  | fecPortCounters => exact execFecPortCounters_keeps hk (subset_of_decide rfl hm)
  | fecPoolStatus => exact execFecPoolStatus_keeps hk (subset_of_decide rfl hm)
  | fecRegionCounters => exact execFecRegionCounters_keeps hk (subset_of_decide rfl hm)
  | fecCodeRead => exact execFecCodeRead_keeps hk (subset_of_decide rfl hm)
  | fecInject => exact execFecInject_keeps hk (subset_of_decide rfl hm)
  | lineRxConfig => exact execLineRxConfig_keeps hk (subset_of_decide rfl hm)
  | lineRxEnable => exact execLineRxEnable_keeps hk (subset_of_decide rfl hm)
  | lineRxCdSet => exact execLineRxCdSet_keeps hk (subset_of_decide rfl hm)
  | lineRxCdScan => exact execLineRxCdScan_keeps hk (subset_of_decide rfl hm)
  | lineRxEqSet => exact execLineRxEqSet_keeps hk (subset_of_decide rfl hm)
  | lineRxLoopSet => exact execLineRxLoopSet_keeps hk (subset_of_decide rfl hm)
  | lineRxFrontSet => exact execLineRxFrontSet_keeps hk (subset_of_decide rfl hm)
  | lineRxStatus => exact execLineRxStatus_keeps hk (subset_of_decide rfl hm)
  | lineRxCounters => exact execLineRxCounters_keeps hk (subset_of_decide rfl hm)
  | lineTxConfig => exact execLineTxConfig_keeps hk (subset_of_decide rfl hm)
  | lineTxEnable => exact execLineTxEnable_keeps hk (subset_of_decide rfl hm)
  | lineTxMute => exact execLineTxMute_keeps hk (subset_of_decide rfl hm)
  | lineTxRampSet => exact execLineTxRampSet_keeps hk (subset_of_decide rfl hm)
  | lineTxPrecompSet => exact execLineTxPrecompSet_keeps hk (subset_of_decide rfl hm)
  | lineTxBackSet => exact execLineTxBackSet_keeps hk (subset_of_decide rfl hm)
  | lineTxEmphLoad => exact execLineTxEmphLoad_keeps hk (subset_of_decide rfl hm)
  | lineTxStatus => exact execLineTxStatus_keeps hk (subset_of_decide rfl hm)
  | lineTxCounters => exact execLineTxCounters_keeps hk (subset_of_decide rfl hm)
  | lineRaConfig => exact execLineRaConfig_keeps hk (subset_of_decide rfl hm)
  | lineRaStep => exact execLineRaStep_keeps hk (subset_of_decide rfl hm)
  | lineRaGuardSet => exact execLineRaGuardSet_keeps hk (subset_of_decide rfl hm)
  | lineRaPlanRead => exact execLineRaPlanRead_keeps hk (subset_of_decide rfl hm)
  | lineRaStatus => exact execLineRaStatus_keeps hk (subset_of_decide rfl hm)
  | lineRaCounters => exact execLineRaCounters_keeps hk (subset_of_decide rfl hm)
  | lineRwConfig => exact execLineRwConfig_keeps hk (subset_of_decide rfl hm)
  | lineRwStatus => exact execLineRwStatus_keeps hk (subset_of_decide rfl hm)
  | lineRwCounters => exact execLineRwCounters_keeps hk (subset_of_decide rfl hm)
  | lineRwInject => exact execLineRwInject_keeps hk (subset_of_decide rfl hm)
  | clientGroupConfig => exact execClientGroupConfig_keeps hk (subset_of_decide rfl hm)
  | clientIfaceSet => exact execClientIfaceSet_keeps hk (subset_of_decide rfl hm)
  | clientLaneEnable => exact execClientLaneEnable_keeps hk (subset_of_decide rfl hm)
  | clientLaneMute => exact execClientLaneMute_keeps hk (subset_of_decide rfl hm)
  | clientEqSet => exact execClientEqSet_keeps hk (subset_of_decide rfl hm)
  | clientTxSet => exact execClientTxSet_keeps hk (subset_of_decide rfl hm)
  | clientPatternSet => exact execClientPatternSet_keeps hk (subset_of_decide rfl hm)
  | clientLaneStatus => exact execClientLaneStatus_keeps hk (subset_of_decide rfl hm)
  | clientCounters => exact execClientCounters_keeps hk (subset_of_decide rfl hm)
  | hostEqLoad => exact execHostEqLoad_keeps hk (subset_of_decide rfl hm)
  | hostIfaceSet => exact execHostIfaceSet_keeps hk (subset_of_decide rfl hm)
  | hostLaneEnable => exact execHostLaneEnable_keeps hk (subset_of_decide rfl hm)
  | hostLaneSquelch => exact execHostLaneSquelch_keeps hk (subset_of_decide rfl hm)
  | hostPatternSet => exact execHostPatternSet_keeps hk (subset_of_decide rfl hm)
  | hostInject => exact execHostInject_keeps hk (subset_of_decide rfl hm)
  | hostLaneStatus => exact execHostLaneStatus_keeps hk (subset_of_decide rfl hm)
  | hostCounters => exact execHostCounters_keeps hk (subset_of_decide rfl hm)
  | tallyTagSet => exact execTallyTagSet_keeps hk (subset_of_decide rfl hm)
  | tallyTagRead => exact execTallyTagRead_keeps hk (subset_of_decide rfl hm)
  | tallySlotRead => exact execTallySlotRead_keeps hk (subset_of_decide rfl hm)
  | tallyFifoRead => exact execTallyFifoRead_keeps hk (subset_of_decide rfl hm)
  | tallyFreeze => exact execTallyFreeze_keeps hk (subset_of_decide rfl hm)
  | hallmarkCertRead => exact execHallmarkCertRead_keeps hk (subset_of_decide rfl hm)
  | hallmarkMeasureRead => exact execHallmarkMeasureRead_keeps hk (subset_of_decide rfl hm)
  | hallmarkAttest => exact execHallmarkAttest_keeps hk (subset_of_decide rfl hm)
  | hallmarkKekOffer => exact execHallmarkKekOffer_keeps hk (subset_of_decide rfl hm)
  | hallmarkKekAccept => exact execHallmarkKekAccept_keeps hk (subset_of_decide rfl hm)
  | hallmarkFuseAdvance => exact execHallmarkFuseAdvance_keeps hk (subset_of_decide rfl hm)
  | hallmarkTallyMask => exact execHallmarkTallyMask_keeps hk (subset_of_decide rfl hm)
  | hallmarkStatus => exact execHallmarkStatus_keeps hk (subset_of_decide rfl hm)
  | serviceImageLoad => exact execServiceImageLoad_keeps hk (subset_of_decide rfl hm)
  | serviceImageVerify => exact execServiceImageVerify_keeps hk (subset_of_decide rfl hm)
  | serviceHandover => exact execServiceHandover_keeps hk (subset_of_decide rfl hm)
  | serviceChange => exact execServiceChange_keeps hk (subset_of_decide rfl hm)
  | serviceStatus => exact execServiceStatus_keeps hk (subset_of_decide rfl hm)
  | serviceAgeingRead => exact execServiceAgeingRead_keeps hk (subset_of_decide rfl hm)
  | diagFaultStatus => exact execDiagFaultStatus_keeps hk (subset_of_decide rfl hm)
  | diagFaultLogRead => exact execDiagFaultLogRead_keeps hk (subset_of_decide rfl hm)
  | diagSramCounters => exact execDiagSramCounters_keeps hk (subset_of_decide rfl hm)
  | diagSweepRun => exact execDiagSweepRun_keeps hk (subset_of_decide rfl hm)
  | diagInject => exact execDiagInject_keeps hk (subset_of_decide rfl hm)
  | doorbellWrite => exact execDoorbellWrite_keeps hk (subset_of_decide rfl hm)
  | commandTake => exact execCommandTake_keeps hk (subset_of_decide rfl hm)
  | eventDeliver => exact execEventDeliver_keeps hk (subset_of_decide rfl hm)
  | consWrite => exact execConsWrite_keeps hk (subset_of_decide rfl hm)
  | ringEnable => exact execRingEnable_keeps hk (subset_of_decide rfl hm)
  | ringDisable => exact execRingDisable_keeps hk (subset_of_decide rfl hm)
  | ringStop => exact execRingStop_keeps hk (subset_of_decide rfl hm)
  | stoppedClear => exact execStoppedClear_keeps hk (subset_of_decide rfl hm)
  | tempExcursionClear => exact execTempExcursionClear_keeps hk (subset_of_decide rfl hm)
  | paceShortClear => exact execPaceShortClear_keeps hk (subset_of_decide rfl hm)
  | timeLoRead => exact execTimeLoRead_keeps hk (subset_of_decide rfl hm)
  | registerWrite => exact execRegisterWrite_keeps hk (subset_of_decide rfl hm)
  | boundExpiry => exact execBoundExpiry_keeps hk (subset_of_decide rfl hm)
  | spiWriteCmd => exact execSpiWriteCmd_keeps hk (subset_of_decide rfl hm)
  | spiReadReply => exact execSpiReadReply_keeps hk (subset_of_decide rfl hm)
  | spiReadEvent => exact execSpiReadEvent_keeps hk (subset_of_decide rfl hm)
  | spiReadWindow => exact execSpiReadWindow_keeps hk (subset_of_decide rfl hm)
  | spiWriteWindow => exact execSpiWriteWindow_keeps hk (subset_of_decide rfl hm)
  | spiBadInstruction => exact execSpiBadInstruction_keeps hk (subset_of_decide rfl hm)
  | faultDetected => exact execFaultDetected_keeps hk (subset_of_decide rfl hm)
  | handshakeStall => exact execHandshakeStall_keeps hk (subset_of_decide rfl hm)
  | packetCommit => exact execPacketCommit_keeps hk (subset_of_decide rfl hm)
  | packetAbort => exact execPacketAbort_keeps hk (subset_of_decide rfl hm)
  | fifoRead => exact execFifoRead_keeps hk (subset_of_decide rfl hm)
  | writerRelease => exact execWriterRelease_keeps hk (subset_of_decide rfl hm)
  | fifoIdleExpiry => exact execFifoIdleExpiry_keeps hk (subset_of_decide rfl hm)
  | rxSpanFormed => exact execRxSpanFormed_keeps hk (subset_of_decide rfl hm)
  | losDeclare => exact execLosDeclare_keeps hk (subset_of_decide rfl hm)
  | losClear => exact execLosClear_keeps hk (subset_of_decide rfl hm)
  | laneFaultDeclare => exact execLaneFaultDeclare_keeps hk (subset_of_decide rfl hm)
  | laneFaultEnd => exact execLaneFaultEnd_keeps hk (subset_of_decide rfl hm)
  | acqStepDone => exact execAcqStepDone_keeps hk (subset_of_decide rfl hm)
  | acqBoundExpiry => exact execAcqBoundExpiry_keeps hk (subset_of_decide rfl hm)
  | cdScanDone => exact execCdScanDone_keeps hk (subset_of_decide rfl hm)
  | rxXfadeEnd => exact execRxXfadeEnd_keeps hk (subset_of_decide rfl hm)
  | cdSetDeferredCommit => exact execCdSetDeferredCommit_keeps hk (subset_of_decide rfl hm)
  | trackResidual => exact execTrackResidual_keeps hk (subset_of_decide rfl hm)
  | lolDeclare => exact execLolDeclare_keeps hk (subset_of_decide rfl hm)
  | toleranceHold => exact execToleranceHold_keeps hk (subset_of_decide rfl hm)
  | provisionalArrive => exact execProvisionalArrive_keeps hk (subset_of_decide rfl hm)
  | finalDecisionsArrive => exact execFinalDecisionsArrive_keeps hk (subset_of_decide rfl hm)
  | cycleSlip => exact execCycleSlip_keeps hk (subset_of_decide rfl hm)
  | residueFailure => exact execResidueFailure_keeps hk (subset_of_decide rfl hm)
  | parityFailure => exact execParityFailure_keeps hk (subset_of_decide rfl hm)
  | replayEnd => exact execReplayEnd_keeps hk (subset_of_decide rfl hm)
  | catchupEnd => exact execCatchupEnd_keeps hk (subset_of_decide rfl hm)
  | replayOverrun => exact execReplayOverrun_keeps hk (subset_of_decide rfl hm)
  | rwRateRepeat => exact execRwRateRepeat_keeps hk (subset_of_decide rfl hm)
  | spanFinal => exact execSpanFinal_keeps hk (subset_of_decide rfl hm)
  | txSpanFormed => exact execTxSpanFormed_keeps hk (subset_of_decide rfl hm)
  | rampEnd => exact execRampEnd_keeps hk (subset_of_decide rfl hm)
  | txSpanLate => exact execTxSpanLate_keeps hk (subset_of_decide rfl hm)
  | txUnderrun => exact execTxUnderrun_keeps hk (subset_of_decide rfl hm)
  | txXfadeEnd => exact execTxXfadeEnd_keeps hk (subset_of_decide rfl hm)
  | txDeferredCommit => exact execTxDeferredCommit_keeps hk (subset_of_decide rfl hm)
  | dealTimeout => exact execDealTimeout_keeps hk (subset_of_decide rfl hm)
  | spanDeal => exact execSpanDeal_keeps hk (subset_of_decide rfl hm)
  | decodeIterationEnd => exact execDecodeIterationEnd_keeps hk (subset_of_decide rfl hm)
  | decodeEnd => exact execDecodeEnd_keeps hk (subset_of_decide rfl hm)
  | messageWordUncorrectable => exact execMessageWordUncorrectable_keeps hk (subset_of_decide rfl hm)
  | marginUpdate => exact execMarginUpdate_keeps hk (subset_of_decide rfl hm)
  | stepSeek => exact execStepSeek_keeps hk (subset_of_decide rfl hm)
  | upHoldExpiry => exact execUpHoldExpiry_keeps hk (subset_of_decide rfl hm)
  | heldExpiry => exact execHeldExpiry_keeps hk (subset_of_decide rfl hm)
  | ratePropose => exact execRatePropose_keeps hk (subset_of_decide rfl hm)
  | rateAnswer => exact execRateAnswer_keeps hk (subset_of_decide rfl hm)
  | answerWaitExpiry => exact execAnswerWaitExpiry_keeps hk (subset_of_decide rfl hm)
  | announcementValid => exact execAnnouncementValid_keeps hk (subset_of_decide rfl hm)
  | rateSwitch => exact execRateSwitch_keeps hk (subset_of_decide rfl hm)
  | fallbackStart => exact execFallbackStart_keeps hk (subset_of_decide rfl hm)
  | candidateSwitch => exact execCandidateSwitch_keeps hk (subset_of_decide rfl hm)
  | frameArrive => exact execFrameArrive_keeps hk (subset_of_decide rfl hm)
  | alignDeclare => exact execAlignDeclare_keeps hk (subset_of_decide rfl hm)
  | lockDeclare => exact execLockDeclare_keeps hk (subset_of_decide rfl hm)
  | lofDeclare => exact execLofDeclare_keeps hk (subset_of_decide rfl hm)
  | lomDeclare => exact execLomDeclare_keeps hk (subset_of_decide rfl hm)
  | mapMismatch => exact execMapMismatch_keeps hk (subset_of_decide rfl hm)
  | labelAccept => exact execLabelAccept_keeps hk (subset_of_decide rfl hm)
  | tickRead => exact execTickRead_keeps hk (subset_of_decide rfl hm)
  | skewMaxExpiry => exact execSkewMaxExpiry_keeps hk (subset_of_decide rfl hm)
  | txFrameSend => exact execTxFrameSend_keeps hk (subset_of_decide rfl hm)
  | stripeRead => exact execStripeRead_keeps hk (subset_of_decide rfl hm)
  | stripeWrite => exact execStripeWrite_keeps hk (subset_of_decide rfl hm)
  | readMergeWrite => exact execReadMergeWrite_keeps hk (subset_of_decide rfl hm)
  | cellWriteBack => exact execCellWriteBack_keeps hk (subset_of_decide rfl hm)
  | holdLimitExpiry => exact execHoldLimitExpiry_keeps hk (subset_of_decide rfl hm)
  | stripeFree => exact execStripeFree_keeps hk (subset_of_decide rfl hm)
  | stackInterfaceFault => exact execStackInterfaceFault_keeps hk (subset_of_decide rfl hm)
  | trainingDone => exact execTrainingDone_keeps hk (subset_of_decide rfl hm)
  | trainingTimeout => exact execTrainingTimeout_keeps hk (subset_of_decide rfl hm)
  | crcRateLoss => exact execCrcRateLoss_keeps hk (subset_of_decide rfl hm)
  | restoreTrainDone => exact execRestoreTrainDone_keeps hk (subset_of_decide rfl hm)
  | restoreTestDone => exact execRestoreTestDone_keeps hk (subset_of_decide rfl hm)
  | restoreRebuildDone => exact execRestoreRebuildDone_keeps hk (subset_of_decide rfl hm)
  | shrinkDrainDone => exact execShrinkDrainDone_keeps hk (subset_of_decide rfl hm)
  | clientFrameArrive => exact execClientFrameArrive_keeps hk (subset_of_decide rfl hm)
  | recordFill => exact execRecordFill_keeps hk (subset_of_decide rfl hm)
  | cipherMessageDone => exact execCipherMessageDone_keeps hk (subset_of_decide rfl hm)
  | tailWrite => exact execTailWrite_keeps hk (subset_of_decide rfl hm)
  | threadBytesNeeded => exact execThreadBytesNeeded_keeps hk (subset_of_decide rfl hm)
  | rxParcel => exact execRxParcel_keeps hk (subset_of_decide rfl hm)
  | cipherDecrypt => exact execCipherDecrypt_keeps hk (subset_of_decide rfl hm)
  | egressDeliver => exact execEgressDeliver_keeps hk (subset_of_decide rfl hm)
  | keyRollover => exact execKeyRollover_keeps hk (subset_of_decide rfl hm)
  | clientLosDeclare => exact execClientLosDeclare_keeps hk (subset_of_decide rfl hm)
  | clientLosClear => exact execClientLosClear_keeps hk (subset_of_decide rfl hm)
  | clientBringupStepDone => exact execClientBringupStepDone_keeps hk (subset_of_decide rfl hm)
  | clientBringupExpiry => exact execClientBringupExpiry_keeps hk (subset_of_decide rfl hm)
  | clientLol => exact execClientLol_keeps hk (subset_of_decide rfl hm)
  | clientAnalogueFault => exact execClientAnalogueFault_keeps hk (subset_of_decide rfl hm)
  | clientEyeHold => exact execClientEyeHold_keeps hk (subset_of_decide rfl hm)
  | hostLosDeclare => exact execHostLosDeclare_keeps hk (subset_of_decide rfl hm)
  | hostLosClear => exact execHostLosClear_keeps hk (subset_of_decide rfl hm)
  | hostLockUp => exact execHostLockUp_keeps hk (subset_of_decide rfl hm)
  | hostLol => exact execHostLol_keeps hk (subset_of_decide rfl hm)
  | hostLockRestart => exact execHostLockRestart_keeps hk (subset_of_decide rfl hm)
  | hostIfaceAlign => exact execHostIfaceAlign_keeps hk (subset_of_decide rfl hm)
  | hostAnalogueFault => exact execHostAnalogueFault_keeps hk (subset_of_decide rfl hm)
  | checkerSync => exact execCheckerSync_keeps hk (subset_of_decide rfl hm)
  | checkerSyncLoss => exact execCheckerSyncLoss_keeps hk (subset_of_decide rfl hm)
  | xtalActivityLoss => exact execXtalActivityLoss_keeps hk (subset_of_decide rfl hm)
  | gateEnd => exact execGateEnd_keeps hk (subset_of_decide rfl hm)
  | refFirstEdge => exact execRefFirstEdge_keeps hk (subset_of_decide rfl hm)
  | qualifyComplete => exact execQualifyComplete_keeps hk (subset_of_decide rfl hm)
  | refActivityLoss => exact execRefActivityLoss_keeps hk (subset_of_decide rfl hm)
  | selectionEval => exact execSelectionEval_keeps hk (subset_of_decide rfl hm)
  | dpllLock => exact execDpllLock_keeps hk (subset_of_decide rfl hm)
  | bwStep => exact execBwStep_keeps hk (subset_of_decide rfl hm)
  | coreFault => exact execCoreFault_keeps hk (subset_of_decide rfl hm)
  | oneSecondTick => exact execOneSecondTick_keeps hk (subset_of_decide rfl hm)
  | esmcPduReceive => exact execEsmcPduReceive_keeps hk (subset_of_decide rfl hm)
  | qlTimeout => exact execQlTimeout_keeps hk (subset_of_decide rfl hm)
  | fpSlewEnd => exact execFpSlewEnd_keeps hk (subset_of_decide rfl hm)
  | helloTimer => exact execHelloTimer_keeps hk (subset_of_decide rfl hm)
  | qualityTimer => exact execQualityTimer_keeps hk (subset_of_decide rfl hm)
  | timeReqTimer => exact execTimeReqTimer_keeps hk (subset_of_decide rfl hm)
  | packetSendStart => exact execPacketSendStart_keeps hk (subset_of_decide rfl hm)
  | packetCut => exact execPacketCut_keeps hk (subset_of_decide rfl hm)
  | packetSendEnd => exact execPacketSendEnd_keeps hk (subset_of_decide rfl hm)
  | listenerTrigger => exact execListenerTrigger_keeps hk (subset_of_decide rfl hm)
  | syncQualify => exact execSyncQualify_keeps hk (subset_of_decide rfl hm)
  | qualifyTimeout => exact execQualifyTimeout_keeps hk (subset_of_decide rfl hm)
  | packetReceiveEnd => exact execPacketReceiveEnd_keeps hk (subset_of_decide rfl hm)
  | hello => exact execHello_keeps hk (subset_of_decide rfl hm)
  | quality => exact execQuality_keeps hk (subset_of_decide rfl hm)
  | timeReq => exact execTimeReq_keeps hk (subset_of_decide rfl hm)
  | timeResp => exact execTimeResp_keeps hk (subset_of_decide rfl hm)
  | segment => exact execSegment_keeps hk (subset_of_decide rfl hm)
  | hostLink => exact execHostLink_keeps hk (subset_of_decide rfl hm)
  | domain => exact execDomain_keeps hk (subset_of_decide rfl hm)
  | joinReq => exact execJoinReq_keeps hk (subset_of_decide rfl hm)
  | joinAnswer => exact execJoinAnswer_keeps hk (subset_of_decide rfl hm)
  | report => exact execReport_keeps hk (subset_of_decide rfl hm)
  | beacon => exact execBeacon_keeps hk (subset_of_decide rfl hm)
  | peerLost => exact execPeerLost_keeps hk (subset_of_decide rfl hm)
  | exchangeMissed => exact execExchangeMissed_keeps hk (subset_of_decide rfl hm)
  | objectTimeout => exact execObjectTimeout_keeps hk (subset_of_decide rfl hm)
  | beaconTimer => exact execBeaconTimer_keeps hk (subset_of_decide rfl hm)
  | reportTimer => exact execReportTimer_keeps hk (subset_of_decide rfl hm)
  | joinReqTimer => exact execJoinReqTimer_keeps hk (subset_of_decide rfl hm)
  | admitTimeout => exact execAdmitTimeout_keeps hk (subset_of_decide rfl hm)
  | rejoinWaitExpiry => exact execRejoinWaitExpiry_keeps hk (subset_of_decide rfl hm)
  | proofTimeout => exact execProofTimeout_keeps hk (subset_of_decide rfl hm)
  | fuseBlown => exact execFuseBlown_keeps hk (subset_of_decide rfl hm)
  | assayTimerFire => exact execAssayTimerFire_keeps hk (subset_of_decide rfl hm)
  | pwmPeriodStart => exact execPwmPeriodStart_keeps hk (subset_of_decide rfl hm)
  | internalScan => exact execInternalScan_keeps hk (subset_of_decide rfl hm)
  | triggerDelayEnd => exact execTriggerDelayEnd_keeps hk (subset_of_decide rfl hm)
  | sequenceEnd => exact execSequenceEnd_keeps hk (subset_of_decide rfl hm)
  | conversionResult => exact execConversionResult_keeps hk (subset_of_decide rfl hm)
  | biasLoopUpdate => exact execBiasLoopUpdate_keeps hk (subset_of_decide rfl hm)
  | biasAlarmHold => exact execBiasAlarmHold_keeps hk (subset_of_decide rfl hm)
  | calBackground => exact execCalBackground_keeps hk (subset_of_decide rfl hm)
  | calRunDone => exact execCalRunDone_keeps hk (subset_of_decide rfl hm)
  | qualityUpdate => exact execQualityUpdate_keeps hk (subset_of_decide rfl hm)
  | paceSample => exact execPaceSample_keeps hk (subset_of_decide rfl hm)
  | paceLowerStep => exact execPaceLowerStep_keeps hk (subset_of_decide rfl hm)
  | paceHoldRelease => exact execPaceHoldRelease_keeps hk (subset_of_decide rfl hm)
  | paceRestored => exact execPaceRestored_keeps hk (subset_of_decide rfl hm)
  | avsbusRetry => exact execAvsbusRetry_keeps hk (subset_of_decide rfl hm)
  | avsMismatchHold => exact execAvsMismatchHold_keeps hk (subset_of_decide rfl hm)
  | ageingDaily => exact execAgeingDaily_keeps hk (subset_of_decide rfl hm)
  | sramRead => exact execSramRead_keeps hk (subset_of_decide rfl hm)
  | configRestore => exact execConfigRestore_keeps hk (subset_of_decide rfl hm)
  | decisionMismatch => exact execDecisionMismatch_keeps hk (subset_of_decide rfl hm)
  | chipPairMismatch => exact execChipPairMismatch_keeps hk (subset_of_decide rfl hm)
  | chipPairTestDone => exact execChipPairTestDone_keeps hk (subset_of_decide rfl hm)
  | controlPairSwap => exact execControlPairSwap_keeps hk (subset_of_decide rfl hm)
  | pairTestDone => exact execPairTestDone_keeps hk (subset_of_decide rfl hm)
  | lonePairRestart => exact execLonePairRestart_keeps hk (subset_of_decide rfl hm)
  | sweepEnd => exact execSweepEnd_keeps hk (subset_of_decide rfl hm)
  | prepareDone => exact execPrepareDone_keeps hk (subset_of_decide rfl hm)
  | copyDone => exact execCopyDone_keeps hk (subset_of_decide rfl hm)
  | switch => exact execSwitch_keeps hk (subset_of_decide rfl hm)
  | retestDone => exact execRetestDone_keeps hk (subset_of_decide rfl hm)
  | migrationLoadDone => exact execMigrationLoadDone_keeps hk (subset_of_decide rfl hm)
  | decodesDrained => exact execDecodesDrained_keeps hk (subset_of_decide rfl hm)
  | migrationRetestDone => exact execMigrationRetestDone_keeps hk (subset_of_decide rfl hm)
  | coreLoadDone => exact execCoreLoadDone_keeps hk (subset_of_decide rfl hm)
  | coreFollowDone => exact execCoreFollowDone_keeps hk (subset_of_decide rfl hm)
  | handoverLoadDone => exact execHandoverLoadDone_keeps hk (subset_of_decide rfl hm)
  | handoverTakeover => exact execHandoverTakeover_keeps hk (subset_of_decide rfl hm)
  | formerPairReady => exact execFormerPairReady_keeps hk (subset_of_decide rfl hm)
  | verifyDone => exact execVerifyDone_keeps hk (subset_of_decide rfl hm)
  | bar2LowRead => exact execBar2LowRead_keeps hk (subset_of_decide rfl hm)
  | powerOn => exact execPowerOn_keeps hk (subset_of_decide rfl hm)
  | rstNAssert => exact execRstNAssert_keeps hk (subset_of_decide rfl hm)
  | perstAssert => exact execPerstAssert_keeps hk (subset_of_decide rfl hm)
  | brownOut => exact execBrownOut_keeps hk (subset_of_decide rfl hm)
  | bootBegin => exact execBootBegin_keeps hk (subset_of_decide rfl hm)
  | romStartDone => exact execRomStartDone_keeps hk (subset_of_decide rfl hm)
  | imageReadDone => exact execImageReadDone_keeps hk (subset_of_decide rfl hm)
  | selfTestDone => exact execSelfTestDone_keeps hk (subset_of_decide rfl hm)
  | endpointReady => exact execEndpointReady_keeps hk (subset_of_decide rfl hm)
  | tapInstructionUpdate => exact execTapInstructionUpdate_keeps hk (subset_of_decide rfl hm)
  | tapReset => exact execTapReset_keeps hk (subset_of_decide rfl hm)
  | spanHandoff => exact execSpanHandoff_keeps hk (subset_of_decide rfl hm)
  | xtalActivityReturn => exact execXtalActivityReturn_keeps hk (subset_of_decide rfl hm)
  | endpointConfiguration => exact execEndpointConfiguration_keeps hk (subset_of_decide rfl hm)
  | erasureSecondExpiry => exact execErasureSecondExpiry_keeps hk (subset_of_decide rfl hm)
  | clientLaneFaultEnd => exact execClientLaneFaultEnd_keeps hk (subset_of_decide rfl hm)
  | hostLaneFaultEnd => exact execHostLaneFaultEnd_keeps hk (subset_of_decide rfl hm)

/-- The state a command answers keeps what `touches` allows. -/
theorem keeps_of_exec {i : Instr} {s t : State} (h : exec i s = .next t) : Keeps (touches i) s t :=
  (exec_keeps i (Keeps.refl s) (List.Subset.refl _)).out t h

/-! ### A step -/

theorem step_of_empty {s : State} (h : s.pending = []) : step s = .next s.idle1 := by
  simp [step, h]

theorem step_of_pending {s : State} {c : Instr} {r : List Instr} (h : s.pending = c :: r) :
    step s = exec c (s.withPending r) := by
  simp [step, h]

theorem State.ticking_iff {s : State} : s.ticking = true ↔ s.boot.phase ≠ .reset ∧ s.timing.clockLost = false := by
  simp [State.ticking]

theorem State.idle1_keeps (s : State) : Keeps [.time] s s.idle1 :=
  Keeps.ite (fun _ => withTime_keeps (Keeps.refl s)) fun _ => Keeps.refl s

/-! ### The statements -/

/-- Settles O5: an idle step changes device time alone, and a command keeps the invariant on the state with the rest of the
queue, which the invariant does not speak of. -/
theorem stepKeepsInvariant : Obligations.StepKeepsInvariant := by
  intro s t hinv hstep
  cases hq : s.pending with
  | nil =>
    obtain rfl : s.idle1 = t := by simpa [step_of_empty hq] using hstep
    exact s.idle1_keeps.inv hinv
  | cons c r =>
    have hrest : (s.withPending r).Inv := hinv
    exact (keeps_of_exec (step_of_pending hq ▸ hstep)).inv hrest

/-- Settles O4: after reset every bounded buffer is empty, and the device is ready with BOOT_STATE 0x3. -/
theorem invariantHoldsAtReset : Obligations.InvariantHoldsAtReset := by
  have hclerk : Clerk.reset.ok := ⟨by decide, by decide, by decide⟩
  have hhier : Hier.reset.ok := ⟨by decide, by decide⟩
  have htally : Tally.reset.ok := ⟨rfl, by simp [Tally.reset]⟩
  have hboot : Boot.reset.ok := .inl rfl
  exact ⟨hclerk, hhier, htally, rfl, hboot⟩

/-- Settles O2: the two cases of `State.ticking`. -/
theorem stepIdlesOnEmptyQueue : Obligations.StepIdlesOnEmptyQueue := by
  intro s hq
  rw [step_of_empty hq, State.idle1]
  refine ⟨fun hphase hclock => ?_, fun hstill => ?_⟩
  · rw [if_pos (State.ticking_iff.mpr ⟨hphase, hclock⟩)]
  · rw [if_neg]
    rintro hticking
    obtain ⟨hphase, hclock⟩ := State.ticking_iff.mp hticking
    rcases hstill with hreset | hlost
    · exact hphase hreset
    · simp [hclock] at hlost

end Sys2Proof.Machine
end

section
/-!
PROOFS. Serving a packet (spec/02 R42 to R51, Table 2-4): one rule for each way a packet is answered, the index of opcodes, and
the statements about a packet of any opcode.
-/

namespace Sys2Proof.Machine

/-! ### Counters, and what a change of one component leaves alone -/

/-- Reading a counter after one is advanced. -/
theorem State.counter_bump (s : State) (k n j : Nat) :
    (s.bump k n).counter j = if j = k then (s.counter k + n) % 2 ^ 48 else s.counter j :=
  Tab.get_set s.tally.counters k j

theorem State.counter_bump_same (s : State) (k n : Nat) : (s.bump k n).counter k = (s.counter k + n) % 2 ^ 48 := by
  rw [State.counter_bump, if_pos rfl]

theorem State.counter_bump_of_ne {k j : Nat} (s : State) (n : Nat) (h : j ≠ k) : (s.bump k n).counter j = s.counter j := by
  rw [State.counter_bump, if_neg h]

theorem protoCtr_ne (i : Iface) {j k : Nat} (h : j ≠ k) : protoCtr i j ≠ protoCtr i k := by
  unfold protoCtr ctr; omega

theorem State.only_refl (cs : List Comp) (s : State) : s.only cs s := (Keeps.refl s).frame

theorem State.only_bump (s : State) (k n : Nat) : s.only [.tally] (s.bump k n) := (State.bump_keeps (Keeps.refl s)).frame

theorem State.only_withClerk (s : State) (v : Clerk) : s.only [.clerk] (s.withClerk v) := by
  intro d hd
  cases d
  case clerk => exact absurd (List.mem_singleton.mpr rfl) hd
  all_goals rfl

theorem State.only_withBar0 (s : State) (v : Bar0) : s.only [.bar0] (s.withBar0 v) := by
  intro d hd
  cases d
  case bar0 => exact absurd (List.mem_singleton.mpr rfl) hd
  all_goals rfl

theorem State.only_mono {cs ds : List Comp} {s t : State} (h : s.only cs t) (hsub : cs ⊆ ds) : s.only ds t :=
  fun d hd => h d fun hc => hd (hsub hc)

/-! ### The opcode of a packet -/

theorem exec_of_packetOf {i : Instr} {op : OpDef} {c : Cmd} (h : packetOf i = some (op, c)) (s : State) :
    exec i s = serve op c s := by
  cases i <;> cases h <;> rfl

theorem opOf_of_packetOf {i : Instr} {op : OpDef} {c : Cmd} (h : packetOf i = some (op, c)) : opOf op.code = some op := by
  cases i <;> cases h <;> rfl

/-! ### A refusal -/

/-- The state with a refusal counted on its interface (spec/02 R72): LENGTH_OVER replies, other refusals, and FAULT in neither. -/
def State.countRefusal (i : Iface) (r : Rej) (s : State) : State :=
  if r.status = stLengthOver then s.bump (protoCtr i 1) 1
  else if r.status = stFault then s else s.bump (protoCtr i 2) 1

theorem refuse_eq (code : Nat) (r : Rej) (c : Cmd) (s : State) :
    refuse code r c s = (s.countRefusal c.iface r).answered c code r.status [mkw [(31, 16, r.idx), (15, 0, r.reason)]] :=
  rfl

section
variable {i : Iface} {r : Rej} {s : State}

theorem State.countRefusal_of_lengthOver (h : r.status = 0x10) : s.countRefusal i r = s.bump (protoCtr i 1) 1 := if_pos h

theorem State.countRefusal_of_other (h : r.status ≠ 0x10) (hf : r.status ≠ 0x20) :
    s.countRefusal i r = s.bump (protoCtr i 2) 1 :=
  (if_neg h).trans (if_neg hf)

theorem State.countRefusal_cases :
    s.countRefusal i r = s.bump (protoCtr i 1) 1 ∨ s.countRefusal i r = s ∨ s.countRefusal i r = s.bump (protoCtr i 2) 1 := by
  by_cases h : r.status = 0x10
  · exact .inl (State.countRefusal_of_lengthOver h)
  · by_cases hf : r.status = 0x20
    · exact .inr (.inl ((if_neg h).trans (if_pos hf)))
    · exact .inr (.inr (State.countRefusal_of_other h hf))

theorem State.only_countRefusal : s.only [.tally] (s.countRefusal i r) := by
  rcases State.countRefusal_cases (i := i) (r := r) (s := s) with h | h | h <;> rw [h]
  · exact State.only_bump _ _ _
  · exact State.only_refl _ _
  · exact State.only_bump _ _ _

theorem State.counter_countRefusal_of_ne {k : Nat} (h1 : k ≠ protoCtr i 1) (h2 : k ≠ protoCtr i 2) :
    (s.countRefusal i r).counter k = s.counter k := by
  rcases State.countRefusal_cases (i := i) (r := r) (s := s) with h | h | h <;> rw [h]
  · exact State.counter_bump_of_ne _ _ h1
  · exact State.counter_bump_of_ne _ _ h2

end

/-! ### Serving, by what the packet meets (R44, R48, R51) -/

section
variable {hold : Bool} {op : OpDef} {c : Cmd} {s : State}

theorem serve_of_unserved (h : s.serves c.iface = false) : serve op c s = .next s := by
  simp [serve, h]

theorem serve_of_waits (h : s.serves c.iface = true)
    (hw : s.queueHeld c.iface c.queue = true ∨ (c.fence = true ∧ s.unanswered = true)) :
    serve op c s =
      .next (s.withClerk { s.clerk with held := s.clerk.held ++ [⟨c.iface, c.queue, op.code, c, none⟩] }) := by
  simp [serve, h, hw]

theorem serve_of_turn (h : s.serves c.iface = true) (hq : s.queueHeld c.iface c.queue = false)
    (hf : (c.fence && s.unanswered) = false) : serve op c s = .next (answer op c s) := by
  simp only [serve, h, hq, hf, Bool.not_true, Bool.or_self, Bool.false_eq_true, if_false]

theorem answerWith_of_refused {r : Rej} (h : op.judge c s = some r) : answerWith hold op c s = refuse op.code r c s := by
  simp [answerWith, h]

theorem answerWith_of_dry (h : op.judge c s = none) (hd : c.dry = true) (he : ∀ r, (op.effect c s).1 ≠ .refused r) :
    answerWith hold op c s = s.answered c op.code (if op.long then 1 else 0) [] := by
  cases hr : (op.effect c s).1 with
  | refused r => exact absurd hr (he r)
  | _ => simp only [answerWith, h, hd, hr, if_true]; rfl

theorem answer_of_paceHolds (h : op.judge c s = none) (hd : c.dry = false) (hp : s.paceHolds (op.effect c s).2 = true) :
    answer op c s = s.waiting c op.code .paceHold := by
  simp [answer, answerWith, h, hd, hp, State.waiting]

theorem answer_of_commits (h : op.judge c s = none) (hd : c.dry = false) (hp : s.paceHolds (op.effect c s).2 = false) :
    answer op c s = commit op c s := by
  simp [answer, answerWith, h, hd, hp]

theorem serve_of_passes (h : op.passes c s) : serve op c s = .next (commit op c s) := by
  obtain ⟨hs, hq, hf, hj, hd, hp⟩ := h
  rw [serve_of_turn hs hq hf, answer_of_commits hj hd hp]

theorem commit_of_ok {ws : List Word} {u : State} (h : op.effect c s = (.ok ws, u)) :
    commit op c s = u.answered c op.code 0 ws := by
  simp [commit, h, State.answered, stOk]

/-- A packet that is executed and whose effect is OK is answered with its results on the state the effect leaves. -/
theorem exec_of_ok {i : Instr} {ws : List Word} {u : State} (hi : packetOf i = some (op, c)) (hp : op.passes c s)
    (he : op.effect c s = (.ok ws, u)) : exec i s = .next (u.answered c op.code 0 ws) := by
  rw [exec_of_packetOf hi, serve_of_passes hp, commit_of_ok he]

end

/-! ### The first check that fails -/

theorem firstRej_need_true {b : Bool} {r : Rej} {l : List (Option Rej)} (h : b = true) :
    firstRej (need b r :: l) = firstRej l := by
  simp [need, h, firstRej]

theorem firstRej_need_false {b : Bool} {r : Rej} {l : List (Option Rej)} (h : b = false) :
    firstRej (need b r :: l) = some r := by
  simp [need, h, firstRej]

/-! ### Writing a reply (R57 to R65) -/

section
variable {q : Queue} {ws : List Word} {s : State}

theorem State.replyRoom_eq : s.replyRoom q = ((s.ring (4 + q.val)).enable && !(s.ring (4 + q.val)).full) := rfl

theorem unwritten_any_eq_false {l : List Unwritten} : (l.any fun u => u.queue == q) = false ↔ ∀ x ∈ l, x.queue ≠ q := by
  simp

theorem State.writeReply_spi :
    s.writeReply 1 q ws =
      s.withClerk { s.clerk with spiReply := Tab.upd [] s.clerk.spiReply q.val fun l => l ++ [ws] } := rfl

theorem State.writeReply_posted (hr : s.replyRoom q = true) (hu : ∀ x ∈ s.clerk.unwritten, x.queue ≠ q) :
    s.writeReply 0 q ws = s.postReply q ws := by
  simp [State.writeReply, hr, unwritten_any_eq_false.mpr hu]

theorem State.writeReply_waits (h : s.replyRoom q = false ∨ ∃ x ∈ s.clerk.unwritten, x.queue = q) :
    s.writeReply 0 q ws = s.withClerk { s.clerk with unwritten := s.clerk.unwritten ++ [⟨q, ws⟩] } := by
  have hwait : (s.replyRoom q && !(s.clerk.unwritten.any fun u => u.queue == q)) = false := by
    rcases h with h | ⟨x, hx, hxq⟩
    · simp [h]
    · simpa using fun _ => ⟨x, hx, hxq⟩
  rw [State.writeReply, hwait]
  rfl

end

/-! ### The statements -/

/-- Settles O12: the refusal of the first check that failed, and what counting it does to the two refusal counters. -/
theorem packetRefused : Obligations.PacketRefused := by
  intro i op c s r hi hs hq hf hj
  refine ⟨s.countRefusal c.iface r, ?reply, State.only_countRefusal,
    fun k h1 h2 => State.counter_countRefusal_of_ne h1 h2, fun _ hover => ?lengthOver, fun _ hover hfault => ?other⟩
  case reply => rw [exec_of_packetOf hi, serve_of_turn hs hq hf, answer, answerWith_of_refused hj, refuse_eq]
  case lengthOver =>
    rw [State.countRefusal_of_lengthOver hover]
    exact ⟨State.counter_bump_same _ _ _, State.counter_bump_of_ne _ _ (protoCtr_ne _ (by decide))⟩
  case other =>
    rw [State.countRefusal_of_other hover hfault]
    exact ⟨State.counter_bump_same _ _ _, State.counter_bump_of_ne _ _ (protoCtr_ne _ (by decide))⟩

/-- Settles O13: each check that passes hands on to the next of the list, and the first that fails answers. -/
theorem firstFailedCheckDecides : Obligations.FirstFailedCheckDecides := by
  intro op c s
  refine ⟨fun ⟨hlive, hrec⟩ => firstRej_need_false (by simp [hlive, hrec]), fun hrun => ?_⟩
  have run : op.judge c s = _ := firstRej_need_true (by simpa using hrun)
  refine ⟨fun ⟨q, hq, hne⟩ => run.trans (firstRej_need_false (by simpa [hq] using hne)), fun hqueue => ?_⟩
  have queue := run.trans (firstRej_need_true (decide_eq_true hqueue))
  have fits (hhi : c.params.length ≤ op.hi) := queue.trans (firstRej_need_true (decide_eq_true hhi))
  refine ⟨fun hover => queue.trans (firstRej_need_false (by simpa using hover)),
    fun hhi hshort => (fits hhi).trans (firstRej_need_false (by simpa using hshort)), fun hhi hlo => ?_⟩
  have length := (fits hhi).trans (firstRej_need_true (decide_eq_true hlo))
  refine ⟨fun htarget => length.trans (firstRej_need_false htarget), fun htarget => ?_⟩
  have target := length.trans (firstRej_need_true htarget)
  refine ⟨fun hflags => target.trans (firstRej_need_false (by simpa using hflags)), fun hflags => ?_⟩
  have flags := target.trans (firstRej_need_true (decide_eq_true hflags))
  refine ⟨fun r hcheck => by rw [flags, hcheck]; rfl, fun hcheck hlong hjobs => ?_⟩
  rw [flags, hcheck]
  exact firstRej_need_false (by simpa [hlong] using hjobs)

/-- Settles O14: the dry branch of `answerWith`. -/
theorem dryRunChangesNothing : Obligations.DryRunChangesNothing := by
  intro i op c s hi hs hq hf hj hd he
  rw [exec_of_packetOf hi, serve_of_turn hs hq hf, answer, answerWith_of_dry hj hd he]

/-- Settles O15: the three ways a packet is not executed now. -/
theorem packetWaitsItsTurn : Obligations.PacketWaitsItsTurn := by
  intro i op c s hi
  rw [exec_of_packetOf hi]
  refine ⟨serve_of_unserved, serve_of_waits, fun hs hq hf hj hd hp => ?_⟩
  rw [serve_of_turn hs hq hf, answer_of_paceHolds hj hd hp]

/-- Settles O19: the three branches of `State.writeReply`. -/
theorem repliesAreWritten : Obligations.RepliesAreWritten := by
  intro u c code st ws
  refine ⟨fun hi => ?spi, fun hi => ⟨fun henable hfull hu => ?posted, fun hno => ?waits⟩⟩ <;> rw [State.answered, hi]
  case spi => exact State.writeReply_spi
  case posted => exact State.writeReply_posted (by simp [State.replyRoom_eq, henable, hfull]) hu
  case waits =>
    refine State.writeReply_waits ?_
    rcases hno with henable | hfull | hu
    · exact .inl (by simp [State.replyRoom_eq, henable])
    · exact .inl (by simp [State.replyRoom_eq, hfull])
    · exact .inr hu

end Sys2Proof.Machine
end

section
/-!
PROOFS. Taking packets (spec/02 R42, R43, R51, R58, R66, R441): the words of a packet give back its fields, COMMAND_TAKE by
where the packet stands, a command in hand that starts, and the statements about them.
-/

namespace Sys2Proof.Machine

/-! ### Packets as words (Table 2-1) -/

/-- Word 0 of a packet, given code, SEQ and FLAGS that fit their fields. -/
theorem packetWord0_fields {code seq flags : Nat} (hc : code < 2 ^ 16) (hs : seq < 2 ^ 8) (hf : flags < 2 ^ 8) :
    (mkw [(31, 16, code), (15, 8, seq), (7, 0, flags)]).fld 31 16 = code ∧
    (mkw [(31, 16, code), (15, 8, seq), (7, 0, flags)]).fld 15 8 = seq ∧
    (mkw [(31, 16, code), (15, 8, seq), (7, 0, flags)]).fld 7 0 = flags := by
  simp only [mkw, Word.fld, List.foldl, Nat.shiftLeft_eq, Nat.shiftRight_eq_div_pow, BitVec.toNat_ofNat]
  omega

/-- Word 1 of a packet, given LENGTH and TARGET that fit their fields. -/
theorem packetWord1_fields {n target : Nat} (hn : n < 2 ^ 12) (ht : target < 2 ^ 20) :
    (mkw [(31, 20, n), (19, 0, target)]).fld 31 20 = n ∧ (mkw [(31, 20, n), (19, 0, target)]).fld 19 0 = target := by
  simp only [mkw, Word.fld, List.foldl, Nat.shiftLeft_eq, Nat.shiftRight_eq_div_pow, BitVec.toNat_ofNat]
  omega

/-- The words of a packet that its CRC covers (R43). -/
def packetBody (code : Nat) (c : Cmd) : List Word :=
  mkw [(31, 16, code), (15, 8, c.seq.toNat), (7, 0, c.flags.toNat)] ::
    mkw [(31, 20, c.params.length), (19, 0, c.target.toNat)] :: c.params

theorem packetWords_eq (code : Nat) (c : Cmd) :
    packetWords code c = packetBody code c ++ [w32 (crc32 (bytesOf (packetBody code c)))] := rfl

theorem packetBody_length (code : Nat) (c : Cmd) : (packetBody code c).length = c.params.length + 2 := rfl

theorem packetWords_ne_nil (code : Nat) (c : Cmd) : packetWords code c ≠ [] := List.cons_ne_nil _ _

/-- The first words of a list, no zero added. -/
theorem padTake_append {n : Nat} {a : List Word} (h : a.length = n) (b : List Word) : padTake n (a ++ b) = a := by
  subst h
  simp [padTake]

theorem packetLength_packetWords {code : Nat} {c : Cmd} (hl : c.params.length ≤ 2045) :
    packetLength (packetWords code c) = c.params.length :=
  (packetWord1_fields (by omega) c.target.isLt).1

/-- The command read back from the words of a packet is the packet. -/
theorem packetCmd_packetWords {code : Nat} {c : Cmd} (hc : code < 2 ^ 16) (hl : c.params.length ≤ 2045) :
    packetCmd c.iface c.queue (packetWords code c) c.params.length = c := by
  obtain ⟨-, hseq, hflags⟩ := packetWord0_fields hc c.seq.isLt c.flags.isLt
  obtain ⟨-, htarget⟩ := packetWord1_fields (n := c.params.length) (by omega) c.target.isLt
  have hparams : padTake c.params.length ((packetWords code c).drop 2) = c.params := padTake_append rfl _
  have h0 : (packetWords code c).getD 0 0 = mkw [(31, 16, code), (15, 8, c.seq.toNat), (7, 0, c.flags.toNat)] := rfl
  have h1 : (packetWords code c).getD 1 0 = mkw [(31, 20, c.params.length), (19, 0, c.target.toNat)] := rfl
  simp only [packetCmd, h0, h1, hseq, hflags, htarget, hparams, BitVec.ofNat_toNat, BitVec.setWidth_eq]

/-! ### The first checks of Table 2-4 -/

section
variable {i : Iface} {q : Queue} {ws : List Word} {s : State}

theorem takePacket_of_long (h : 2045 < packetLength ws) :
    s.takePacket i q ws = .next (refuse ((ws.getD 0 0).fld 31 16) ⟨stLengthOver, 0xFFFF, 0⟩ (packetCmd i q ws 0) s) :=
  if_pos h

variable (hn : packetLength ws ≤ 2045)
include hn

theorem takePacket_of_badCrc
    (hcrc : w32 (crc32 (bytesOf (padTake (packetLength ws + 2) ws))) ≠ ws.getD (packetLength ws + 2) 0) :
    s.takePacket i q ws = .next (s.lose i (lostData q.val ws.head?)) :=
  (if_neg (Nat.not_lt.mpr hn)).trans (if_pos hcrc)

variable (hcrc : w32 (crc32 (bytesOf (padTake (packetLength ws + 2) ws))) = ws.getD (packetLength ws + 2) 0)
include hcrc

theorem takePacket_of_unknown (hop : opOf ((ws.getD 0 0).fld 31 16) = none) :
    s.takePacket i q ws =
      .next (refuse ((ws.getD 0 0).fld 31 16) ⟨stBadOpcode, 0xFFFF, 0⟩ (packetCmd i q ws (packetLength ws)) s) := by
  simp only [State.takePacket, if_neg (Nat.not_lt.mpr hn), hcrc, ne_eq, not_true_eq_false, if_false, hop]

theorem takePacket_of_opcode {op : OpDef} (hop : opOf ((ws.getD 0 0).fld 31 16) = some op) :
    s.takePacket i q ws = serve op (packetCmd i q ws (packetLength ws)) s := by
  simp only [State.takePacket, if_neg (Nat.not_lt.mpr hn), hcrc, ne_eq, not_true_eq_false, if_false, hop]

end

theorem code_lt_of_opOf {op : OpDef} (h : opOf op.code = some op) : op.code < 2 ^ 16 := by
  have hall : (allOps.all fun o => decide (o.code < 2 ^ 16)) = true := rfl
  exact of_decide_eq_true (List.all_eq_true.mp hall op (List.mem_of_find?_eq_some h))

/-- A packet taken as its words is served with every field intact. -/
theorem takePacket_packetWords {op : OpDef} {c : Cmd} {s : State} (hop : opOf op.code = some op)
    (hl : c.params.length ≤ 2045) : s.takePacket c.iface c.queue (packetWords op.code c) = serve op c s := by
  have hcode := code_lt_of_opOf hop
  have hlen : packetLength (packetWords op.code c) = c.params.length := packetLength_packetWords hl
  have hword : ((packetWords op.code c).getD 0 0).fld 31 16 = op.code :=
    (packetWord0_fields hcode c.seq.isLt c.flags.isLt).1
  have hbody : padTake (c.params.length + 2) (packetWords op.code c) = packetBody op.code c :=
    padTake_append (packetBody_length op.code c) _
  have hlast : (packetWords op.code c).getD (c.params.length + 2) 0 = w32 (crc32 (bytesOf (packetBody op.code c))) := by
    simp [packetWords_eq, ← packetBody_length op.code c]
  rw [takePacket_of_opcode (Nat.le_trans (Nat.le_of_eq hlen) hl) (by rw [hlen, hbody, hlast]) (hword ▸ hop), hlen,
    packetCmd_packetWords hcode hl]

/-! ### COMMAND_TAKE, by where the next packet stands (R51, R58, R66) -/

section
variable {q : Queue} {w : List Word} {s : State}

theorem exec_commandTake_mail (hs : s.serves 1 = true) (hq : s.queueHeld 1 q = false)
    (hm : Tab.get [] s.clerk.mail q.val ≠ []) :
    exec (.commandTake 1 q w) s =
      (s.withClerk { s.clerk with mail := Tab.set [] s.clerk.mail q.val [] }).takePacket 1 q
        (Tab.get [] s.clerk.mail q.val) := by
  change execCommandTake 1 q w s = _
  simp [execCommandTake, hs, hq, hm]

theorem exec_commandTake_ring (hs : s.serves 0 = true) (hq : s.queueHeld 0 q = false) (hp : s.pcie = true)
    (henable : (s.ring q.val).enable = true) (hempty : (s.ring q.val).empty = false) (hroom : s.replyRoom q = true)
    (hu : ∀ x ∈ s.clerk.unwritten, x.queue ≠ q) :
    exec (.commandTake 0 q w) s =
      (s.setRing q.val { s.ring q.val with cons := ((s.ring q.val).cons + 1) % (s.ring q.val).size }).takePacket 0 q w := by
  change execCommandTake 0 q w s = _
  simp [execCommandTake, hs, hq, hp, henable, hempty, hroom, unwritten_any_eq_false.mpr hu]

theorem exec_commandTake_held {i : Iface} (hs : s.serves i = true) (hq : s.queueHeld i q = true) :
    exec (.commandTake i q w) s = .next (s.startHeld i q) := by
  change execCommandTake i q w s = _
  simp [execCommandTake, hs, hq]

end

/-! ### Commands in hand -/

/-- The first command in hand of a queue, found behind commands of other queues. -/
theorem splitHeld_append {i : Iface} {q : Queue} {h : Held} {r : List Held} (hh : h.iface = i ∧ h.queue = q) :
    ∀ {l : List Held} (before : List Held), (∀ x ∈ l, ¬(x.iface = i ∧ x.queue = q)) →
      splitHeld i q before (l ++ h :: r) = some (before ++ l, h, r)
  | [], before, _ => by rw [List.nil_append, splitHeld, if_pos hh, List.append_nil]
  | x :: l, before, hl => by
    obtain ⟨hx, hrest⟩ := List.forall_mem_cons.mp hl
    rw [List.cons_append, splitHeld, if_neg hx, splitHeld_append hh _ hrest, List.append_assoc]
    rfl

/-- The first element that a test accepts, found behind elements it does not. -/
theorem pick_append {α : Type} {f : α → Bool} {x : α} {r : List α} (hx : f x = true) :
    ∀ {l : List α}, (∀ y ∈ l, f y = false) → pick f (l ++ x :: r) = some (x, l ++ r)
  | [], _ => by simp [pick, hx]
  | y :: l, hl => by
    obtain ⟨hy, hrest⟩ := List.forall_mem_cons.mp hl
    simp [pick, hy, pick_append hx hrest]

section
variable {s : State} {h : Held} {op : OpDef} {l r : List Held} (hop : opOf h.code = some op)
  (hheld : s.clerk.held = l ++ h :: r)
include hop hheld

/-- The first command in hand of its queue starts once nothing keeps it there (R44, R51). -/
theorem startHeld_of_ready (hfirst : ∀ x ∈ l, ¬(x.iface = h.iface ∧ x.queue = h.queue)) (hawait : h.await = none)
    (hfence : h.cmd.fence = true → l = [] ∧ s.clerk.unwritten = []) :
    s.startHeld h.iface h.queue = answer op h.cmd (s.withClerk { s.clerk with held := l ++ r }) := by
  have hfree : (h.cmd.fence && (!l.isEmpty || !s.clerk.unwritten.isEmpty)) = false := by
    cases hf : h.cmd.fence with
    | false => rfl
    | true => simp [hfence hf]
  simp [State.startHeld, hheld, splitHeld_append ⟨rfl, rfl⟩ [] hfirst, hawait, hfree, hop]

/-- The oldest commit held for the pace margin proceeds once the margin suffices (R441). -/
theorem exec_paceHoldRelease (hfirst : ∀ x ∈ l, x.await ≠ some .paceHold) (hawait : h.await = some .paceHold)
    (hlive : s.live = true)
    (hmargin : (s.withClerk { s.clerk with held := l ++ r }).paceHolds
      (op.effect h.cmd (s.withClerk { s.clerk with held := l ++ r })).2 = false) :
    exec .paceHoldRelease s = .next (answerWith false op h.cmd (s.withClerk { s.clerk with held := l ++ r })) := by
  have hpick : pick (fun h : Held => h.await == some .paceHold) s.clerk.held = some (h, l ++ r) := by
    rw [hheld]
    exact pick_append (by simp [hawait]) fun x hx => by simpa using hfirst x hx
  change execPaceHoldRelease s = _
  simp [execPaceHoldRelease, hpick, hop, happen, hlive, hmargin]

end

/-! ### The statements -/

/-- Settles O16: the words of a packet give back its opcode, its checked CRC and every field, wherever they stand. -/
theorem mailboxPacketRuns : Obligations.MailboxPacketRuns := by
  intro i op c s w hi hl hs hq
  have hop := opOf_of_packetOf hi
  refine ⟨fun hspi hmail => ?mailbox, fun hpcie hp henable hempty hroom hu => ?ring⟩
  case mailbox =>
    have htake := takePacket_packetWords
      (s := s.withClerk { s.clerk with mail := Tab.set [] s.clerk.mail c.queue.val [] }) hop hl
    rw [hspi] at hs hq htake
    rw [exec_commandTake_mail hs hq (hmail ▸ packetWords_ne_nil op.code c), hmail, htake, exec_of_packetOf hi]
  case ring =>
    have htake := takePacket_packetWords
      (s := s.setRing c.queue.val
        { s.ring c.queue.val with cons := ((s.ring c.queue.val).cons + 1) % (s.ring c.queue.val).size }) hop hl
    rw [hpcie] at hs hq htake
    rw [exec_commandTake_ring hs hq hp henable hempty hroom hu, htake, exec_of_packetOf hi]

/-- Settles O17: the three first checks of `State.takePacket`, on the state with the mailbox emptied. -/
theorem badPacketsAreTurnedAway : Obligations.BadPacketsAreTurnedAway := by
  rintro q s t w ws hs hq hmail hne ht n code c
  have htake : exec (.commandTake 1 q w) s = t.takePacket 1 q ws := by
    rw [exec_commandTake_mail hs hq (hmail ▸ hne), hmail, ht]
  rw [htake]
  refine ⟨fun hlong => ?lengthOver, fun hn hcrc => takePacket_of_badCrc hn hcrc, fun hn hcrc hop => ?opcode⟩
  case lengthOver => rw [takePacket_of_long hlong, refuse_eq, State.countRefusal_of_lengthOver rfl]; rfl
  case opcode =>
    rw [takePacket_of_unknown hn hcrc hop, refuse_eq, State.countRefusal_of_other (by decide) (by decide)]; rfl

/-- Settles O18: the command found first in hand of its queue, and the first commit held for the pace margin. -/
theorem heldPacketStarts : Obligations.HeldPacketStarts := by
  intro s h op l r hop hheld
  refine ⟨fun w hs hfirst hawait hfence => ?_, exec_paceHoldRelease hop hheld⟩
  have hq : s.queueHeld h.iface h.queue = true := by simp [State.queueHeld, hheld]
  rw [exec_commandTake_held hs hq, startHeld_of_ready hop hheld hfirst hawait hfence]

end Sys2Proof.Machine
end

section
/-!
PROOFS. The opcodes of CLERK (spec/02 R55, R63, R72, spec/01 R24, R31, spec/20 R524) and the jobs they cancel: what each reads,
what its settings read afterwards, and the statements about them.
-/

namespace Sys2Proof.Machine

/-! ### Pairs of like things -/

theorem P2.get_set {α : Type} (x : P2 α) (p q : Fin 2) (v : α) : (x.set p v).get q = if q = p then v else x.get q :=
  match p, q with
  | 0, 0 => rfl
  | 0, 1 => rfl
  | 1, 0 => rfl
  | 1, 1 => rfl

theorem P2.get_upd {α : Type} (x : P2 α) (p q : Fin 2) (f : α → α) :
    (x.upd p f).get q = if q = p then f (x.get p) else x.get q :=
  P2.get_set x p q _

/-- A choice by one condition is the choice by an equivalent one. -/
theorem ite_of_iff {α : Type} {p q : Prop} [Decidable p] [Decidable q] (h : p ↔ q) (a b : α) :
    (if p then a else b) = if q then a else b :=
  ite_congr (propext h) (fun _ => rfl) fun _ => rfl

/-! ### Counters as words (R133) -/

theorem State.counterWords_succ (s : State) (k n : Nat) :
    s.counterWords k (n + 1) = s.counterWords k n ++ words64 (s.counter (k + n)) := by
  simp [State.counterWords, List.range_succ]

theorem State.counterWords_length (s : State) (k n : Nat) : (s.counterWords k n).length = 2 * n := by
  induction n with
  | zero => rfl
  | succ n ih => rw [State.counterWords_succ, List.length_append, ih]; rfl

/-- Each counter stands as its low and then its high word. -/
theorem State.counterWords_get (s : State) (k : Nat) {n j : Nat} (h : j < n) :
    (s.counterWords k n)[2 * j]? = some (w32 (s.counter (k + j))) ∧
    (s.counterWords k n)[2 * j + 1]? = some (w32 (s.counter (k + j) >>> 32)) := by
  induction n with
  | zero => omega
  | succ n ih =>
    have hlen := s.counterWords_length k n
    rw [State.counterWords_succ]
    by_cases hj : j < n
    · rw [List.getElem?_append_left (by omega), List.getElem?_append_left (by omega)]
      exact ih hj
    · obtain rfl : j = n := by omega
      rw [List.getElem?_append_right (by omega), List.getElem?_append_right (by omega), hlen, Nat.sub_self,
        Nat.add_sub_cancel_left]
      exact ⟨rfl, rfl⟩

/-! ### CLERK_JOB_RESULT -/

section
variable {n : Nat} {s : State}

theorem jobResult_of_running {j : Job} (h : s.clerk.jobs.find? (fun j => j.num == n) = some j) :
    jobResult n s = [mkw [(31, 16, j.code)]] := by
  simp [jobResult, h]

theorem jobResult_of_ended {e : JobEnd} (h : s.clerk.jobs.find? (fun j => j.num == n) = none)
    (he : s.clerk.ended.find? (fun j => j.num == n) = some e) :
    jobResult n s = mkw [(31, 16, e.code), (15, 8, e.status), (1, 0, 1)] :: e.results := by
  simp [jobResult, h, he]

theorem jobResult_of_unknown (h : s.clerk.jobs.find? (fun j => j.num == n) = none)
    (he : s.clerk.ended.find? (fun j => j.num == n) = none) : jobResult n s = [mkw [(1, 0, 2)]] := by
  simp [jobResult, h, he]

end

/-! ### CLERK_EVENT_FILTER_SET -/

/-- Reading a table into which the values of the first `n` numbers were put. -/
theorem Tab.get_foldl_set (f : Nat → Nat) (t : Tab Nat) (n g : Nat) :
    Tab.get 0 ((List.range n).foldl (fun t g => Tab.set 0 t g (f g)) t) g = if g < n then f g else Tab.get 0 t g := by
  induction n with
  | zero => rfl
  | succ n ih =>
    rw [List.range_succ, List.foldl_append, List.foldl_cons, List.foldl_nil, Tab.get_set, ih]
    by_cases hg : g = n
    · simp [hg]
    · rw [if_neg hg]
      exact ite_of_iff (by omega) _ _

theorem get_filterTab_low {w1 w2 : Word} {g : Nat} (h : g < 8) :
    Tab.get 0 (filterTab w1 w2) g = w1.fld (4 * g + 3) (4 * g) := by
  rw [filterTab, Tab.get_foldl_set, if_pos (by omega), if_pos h]

theorem get_filterTab_high {w1 w2 : Word} {g : Nat} (h : g < 8) :
    Tab.get 0 (filterTab w1 w2) (g + 8) = w2.fld (4 * g + 3) (4 * g) := by
  rw [filterTab, Tab.get_foldl_set, if_pos (by omega), if_neg (by omega), Nat.add_sub_cancel]

/-- The interface that bit 0 of a word names. -/
theorem iface_of_bit (w : Word) : ((if w.bit 0 then 1 else 0 : Iface)).val = w.fld 0 0 := by
  have hlt : w.fld 0 0 < 2 := Nat.mod_lt _ (by decide)
  by_cases h : w.fld 0 0 = 1
  · simp [Word.bit, h]
  · have h0 : w.fld 0 0 = 0 := by omega
    simp [Word.bit, h0]

/-- The state with the sixteen least severities of an interface set. -/
def State.setFilter (i : Iface) (w1 w2 : Word) (s : State) : State :=
  s.withClerk { s.clerk with ev := s.clerk.ev.upd i fun b => { b with least := filterTab w1 w2 } }

theorem State.only_setFilter (i : Iface) (w1 w2 : Word) (s : State) : s.only [.clerk] (s.setFilter i w1 w2) :=
  s.only_withClerk _

theorem State.setFilter_ev (i : Iface) (w1 w2 : Word) (s : State) :
    (s.setFilter i w1 w2).clerk.ev = s.clerk.ev.upd i fun b => { b with least := filterTab w1 w2 } := rfl

theorem State.setFilter_same (i : Iface) (w1 w2 : Word) (s : State) :
    (s.setFilter i w1 w2).clerk.ev.get i = { s.clerk.ev.get i with least := filterTab w1 w2 } := by
  rw [State.setFilter_ev, P2.get_upd, if_pos rfl]

theorem State.setFilter_least (i : Iface) (w1 w2 : Word) (s : State) :
    ((s.setFilter i w1 w2).clerk.ev.get i).least = filterTab w1 w2 := by
  rw [State.setFilter_same]

theorem State.setFilter_buf (i : Iface) (w1 w2 : Word) (s : State) :
    ((s.setFilter i w1 w2).clerk.ev.get i).buf = (s.clerk.ev.get i).buf := by
  rw [State.setFilter_same]

theorem State.setFilter_of_ne {i k : Iface} (w1 w2 : Word) (s : State) (h : k ≠ i) :
    (s.setFilter i w1 w2).clerk.ev.get k = s.clerk.ev.get k := by
  rw [State.setFilter_ev, P2.get_upd, if_neg h]

/-! ### CLERK_FIFO_IDLE_SET (Table 1-5) -/

/-- A FIFO with its idle limit set. -/
def Fifo.withIdle (limit : Nat) (f : Fifo) : Fifo := { f with idleLimit := limit }

/-- Setting the idle limit under one condition and then under another sets it under either. -/
theorem Fifo.withIdle_either {p q : Prop} [Decidable p] [Decidable q] (limit : Nat) (f : Fifo) :
    (if q then (if p then f.withIdle limit else f).withIdle limit else if p then f.withIdle limit else f) =
      if p ∨ q then f.withIdle limit else f := by
  by_cases hp : p <;> by_cases hq : q <;> simp [hp, hq, Fifo.withIdle]

/-- The idle limit of one FIFO is set where its direction is in DIR. -/
def idleFifo (dir limit ha : Nat) (d : Dir) (s : State) : State :=
  if dir / dirCode d % 2 = 1 then s.setFifo (fifoKey ha d) ((s.fifo (fifoKey ha d)).withIdle limit) else s

/-- The idle limits of the FIFOs of one cell are set. -/
def idleCell (dir limit ha : Nat) (s : State) : State :=
  if ownsFifo (haRegion ha) then idleFifo dir limit ha .outbound (idleFifo dir limit ha .inbound s) else s

theorem setIdle_cons (dir limit ha : Nat) (cells : List Nat) (s : State) :
    setIdle dir limit (ha :: cells) s = setIdle dir limit cells (idleCell dir limit ha s) := rfl

/-- FIFO `k` is one of cell `ha` in a direction of DIR. -/
abbrev idlesFifo (dir ha k : Nat) : Prop :=
  ownsFifo (haRegion ha) = true ∧
    ((k = fifoKey ha .inbound ∧ dir / dirCode .inbound % 2 = 1) ∨ (k = fifoKey ha .outbound ∧ dir / dirCode .outbound % 2 = 1))

theorem idlesFifo_iff {dir ha k : Nat} :
    idlesFifo dir ha k ↔ ownsFifo (haRegion ha) = true ∧ ∃ d, k = fifoKey ha d ∧ dir / dirCode d % 2 = 1 := by
  refine and_congr_right fun _ => ⟨?_, ?_⟩
  · rintro (h | h)
    · exact ⟨_, h⟩
    · exact ⟨_, h⟩
  · rintro ⟨_ | _, h⟩
    · exact .inl h
    · exact .inr h

theorem State.fifo_idleFifo (dir limit ha k : Nat) (d : Dir) (s : State) :
    (idleFifo dir limit ha d s).fifo k =
      if k = fifoKey ha d ∧ dir / dirCode d % 2 = 1 then (s.fifo k).withIdle limit else s.fifo k := by
  unfold idleFifo
  by_cases hd : dir / dirCode d % 2 = 1
  · rw [if_pos hd, State.fifo_setFifo]
    by_cases hk : k = fifoKey ha d
    · rw [if_pos hk, if_pos ⟨hk, hd⟩, hk]
    · rw [if_neg hk, if_neg fun h => hk h.1]
  · rw [if_neg hd, if_neg fun h => hd h.2]

theorem State.fifo_idleCell (dir limit ha k : Nat) (s : State) :
    (idleCell dir limit ha s).fifo k =
      if idlesFifo dir ha k then (s.fifo k).withIdle limit else s.fifo k := by
  unfold idleCell
  by_cases ho : ownsFifo (haRegion ha) = true
  · rw [if_pos ho, State.fifo_idleFifo, State.fifo_idleFifo, Fifo.withIdle_either]
    exact ite_of_iff (and_iff_right ho).symm _ _
  · rw [if_neg ho, if_neg fun h => ho h.1]

/-- Reading a FIFO after the idle limits of the FIFOs of some cells are set. -/
theorem State.fifo_setIdle (dir limit k : Nat) (cells : List Nat) (s : State) :
    (setIdle dir limit cells s).fifo k =
      if ∃ ha ∈ cells, idlesFifo dir ha k then (s.fifo k).withIdle limit else s.fifo k := by
  induction cells generalizing s with
  | nil => simp [setIdle]
  | cons ha cells ih =>
    rw [setIdle_cons, ih, State.fifo_idleCell, Fifo.withIdle_either]
    exact ite_of_iff (by simp only [List.mem_cons, or_and_right, exists_or, exists_eq_left]) _ _

theorem State.only_setIdle (dir limit : Nat) (cells : List Nat) (s : State) : s.only [.hier] (setIdle dir limit cells s) :=
  (setIdle_keeps (Keeps.refl s)).frame

/-! ### Events raised beside what changed -/

section
variable {s : State} {i : Iface} {r : EvRec} {code sev ha data : Nat}

theorem State.logFault_clerk : (s.logFault r).clerk = s.clerk := by
  unfold State.logFault; split <;> rfl

theorem State.offerEvent_clerk : (s.offerEvent i r).clerk = { s.clerk with ev := (s.offerEvent i r).clerk.ev } := by
  unfold State.offerEvent
  dsimp only
  split
  · rfl
  · split <;> rfl

/-- An event that is raised changes the event buffers alone of CLERK. -/
theorem State.raise_clerk :
    (s.raise code sev ha data).clerk = { s.clerk with ev := (s.raise code sev ha data).clerk.ev } := by
  unfold State.raise
  rw [State.offerEvent_clerk, State.offerEvent_clerk (i := 0), State.logFault_clerk]
  rfl

@[simp] theorem State.raise_jobs : (s.raise code sev ha data).clerk.jobs = s.clerk.jobs := by rw [State.raise_clerk]
@[simp] theorem State.raise_ended : (s.raise code sev ha data).clerk.ended = s.clerk.ended := by rw [State.raise_clerk]

end

/-! ### Jobs that end (R55) -/

section
variable {s : State} {num st : Nat} {ws : List Word} {j : Job}
  (h : s.clerk.jobs.find? (fun j => j.num == num) = some j)
include h

theorem State.endJob_of_running :
    s.endJob num st ws =
      (s.withClerk { s.clerk with
        jobs := s.clerk.jobs.filter (fun k => k.num != num),
        ended := (⟨num, j.code, st, ws⟩ :: s.clerk.ended).take 256 }).raise
        0x0003 (if st = 0 then 0 else 3) j.target (st * 2 ^ 24 + num) := by
  simp only [State.endJob, h]

theorem State.endJob_jobs : (s.endJob num st ws).clerk.jobs = s.clerk.jobs.filter fun k => k.num != num := by
  rw [State.endJob_of_running h, State.raise_jobs, State.withClerk_clerk]

theorem State.endJob_ended : (s.endJob num st ws).clerk.ended = (⟨num, j.code, st, ws⟩ :: s.clerk.ended).take 256 := by
  rw [State.endJob_of_running h, State.raise_ended, State.withClerk_clerk]

end

/-! ### Cancelling, by the opcode of the job -/

/-- A port's receiver without a dispersion scan of a job. -/
def RxPort.withoutScan (num : Nat) (r : RxPort) : RxPort :=
  if r.estimator = .scan num then { r with estimator := .free } else r

theorem RxPort.withoutScan_estimator (num : Nat) (r : RxPort) : (r.withoutScan num).estimator ≠ .scan num := by
  unfold RxPort.withoutScan
  split
  · exact nofun
  · assumption

theorem State.rxp_updRx (s : State) (p q : Port) (f : RxPort → RxPort) :
    (s.updRx p f).rxp q = if q = p then f (s.rxp p) else s.rxp q :=
  P2.get_set s.rx p q _

/-- The state with the scans of a job taken from both receivers. -/
def State.withoutScans (num : Nat) (s : State) : State :=
  (s.updRx 0 (RxPort.withoutScan num)).updRx 1 (RxPort.withoutScan num)

theorem State.rxp_withoutScans (s : State) (num : Nat) (p : Port) :
    (s.withoutScans num).rxp p = (s.rxp p).withoutScan num := by
  rw [State.withoutScans, State.rxp_updRx, State.rxp_updRx, State.rxp_updRx]
  match p with
  | 0 => rfl
  | 1 => rfl

section
variable {s : State} {j : Job}

theorem State.cancelJob_scan (h : j.code = 0x0904) : s.cancelJob j = (s.withoutScans j.num).endJob j.num 0x21 [] := by
  simp [State.cancelJob, h]; rfl

theorem State.cancelJob_fuse (h : j.code = 0x0D06) : s.cancelJob j = s.setJob { j with cancel := true } := by
  simp [State.cancelJob, h]

theorem State.cancelJob_verify (h : j.code = 0x0E02) : s.cancelJob j = (s.setVerified none).endJob j.num 0x21 [] := by
  simp [State.cancelJob, h, stAborted]

theorem State.setVerified_clerk (s : State) (v : Option ImageInfo) : (s.setVerified v).clerk = s.clerk :=
  (State.setVerified_keeps (cs := [.hall, .serv]) (Keeps.refl s)).frame .clerk (by decide)

theorem State.endJob_rxp (s : State) (num st : Nat) (ws : List Word) (p : Port) : (s.endJob num st ws).rxp p = s.rxp p :=
  congrArg (P2.get · p) ((State.endJob_keeps (cs := [.clerk, .hier, .tally]) (Keeps.refl s)).frame .rx (by decide))

variable (h : s.clerk.jobs.find? (fun k => k.num == j.num) = some j)
include h

/-- A scan and a verification that are cancelled end ABORTED at once. -/
theorem State.cancelJob_ends (hc : j.code = 0x0904 ∨ j.code = 0x0E02) :
    (s.cancelJob j).clerk.ended = (⟨j.num, j.code, 0x21, []⟩ :: s.clerk.ended).take 256 ∧
    (s.cancelJob j).clerk.jobs = s.clerk.jobs.filter fun k => k.num != j.num := by
  rcases hc with hc | hc
  · rw [State.cancelJob_scan hc]
    exact ⟨State.endJob_ended (s := s.withoutScans j.num) h, State.endJob_jobs (s := s.withoutScans j.num) h⟩
  · have hclerk := s.setVerified_clerk none
    rw [State.cancelJob_verify hc, State.endJob_ended (j := j) (by rw [hclerk, h]),
      State.endJob_jobs (j := j) (by rw [hclerk, h]), hclerk]
    exact ⟨rfl, rfl⟩

omit h in
theorem State.cancelJob_frees (hc : j.code = 0x0904) (p : Port) : ((s.cancelJob j).rxp p).estimator ≠ .scan j.num := by
  rw [State.cancelJob_scan hc, State.endJob_rxp, State.rxp_withoutScans]
  exact RxPort.withoutScan_estimator j.num _

end

/-! ### Each opcode, executed -/

section
variable {c : Cmd} {s : State}

theorem exec_clerkNop (hp : clerkNopOp.passes c s) : exec (.clerkNop c) s = .next (s.answered c 0x0001 0 c.params) :=
  exec_of_ok (op := clerkNopOp) rfl hp rfl

theorem exec_clerkJobResult (hp : clerkJobResultOp.passes c s) :
    exec (.clerkJobResult c) s = .next (s.answered c 0x0002 0 (jobResult ((c.p 0).fld 15 0) s)) :=
  exec_of_ok (op := clerkJobResultOp) rfl hp rfl

theorem exec_clerkProtoCounters (hp : clerkProtoCountersOp.passes c s) :
    exec (.clerkProtoCounters c) s = .next (s.answered c 0x0004 0 (s.counterWords (9 * (c.p 0).fld 0 0) 9)) := by
  have hslot : ctr 0 0 9 ((c.p 0).fld 0 0) 0 = 9 * (c.p 0).fld 0 0 := by simp [ctr]
  rw [← hslot]
  exact exec_of_ok (op := clerkProtoCountersOp) rfl hp rfl

theorem exec_clerkBootStatus (hp : clerkBootStatusOp.passes c s) :
    exec (.clerkBootStatus c) s = .next (s.answered c 0x0006 0 (bootStatus s.boot)) :=
  exec_of_ok (op := clerkBootStatusOp) rfl hp rfl

theorem exec_clerkMapRead (hp : clerkMapReadOp.passes c s) :
    exec (.clerkMapRead c) s = .next (s.answered c 0x0020 0 (mapRead (haRegion c.target.toNat) s)) :=
  exec_of_ok (op := clerkMapReadOp) rfl hp rfl

theorem exec_clerkEventFilterSet (hp : clerkEventFilterSetOp.passes c s) :
    exec (.clerkEventFilterSet c) s =
      .next ((s.setFilter (if (c.p 0).bit 0 then 1 else 0) (c.p 1) (c.p 2)).answered c 0x0005 0 []) :=
  exec_of_ok (op := clerkEventFilterSetOp) rfl hp rfl

theorem exec_clerkFifoIdleSet (hp : clerkFifoIdleSetOp.passes c s) :
    exec (.clerkFifoIdleSet c) s =
      .next ((setIdle ((c.p 0).fld 17 16) ((c.p 0).fld 15 0) (s.cellsNamed c.target.toNat) s).answered c 0x0021 0 []) :=
  exec_of_ok (op := clerkFifoIdleSetOp) rfl hp rfl

theorem exec_clerkJobCancel_of_stopped (hp : clerkJobCancelOp.passes c s)
    (h : s.clerk.jobs.find? (fun j => j.num == (c.p 0).fld 15 0) = none) :
    exec (.clerkJobCancel c) s = .next (s.answered c 0x0003 0
      [mkw [(1, 0, if s.clerk.ended.any (fun j => j.num == (c.p 0).fld 15 0) then 1 else 2)]]) :=
  exec_of_ok (op := clerkJobCancelOp) rfl hp (by simp [clerkJobCancelOp, h])

theorem exec_clerkJobCancel_of_running {j : Job} (hp : clerkJobCancelOp.passes c s)
    (h : s.clerk.jobs.find? (fun j => j.num == (c.p 0).fld 15 0) = some j) :
    exec (.clerkJobCancel c) s = .next ((s.cancelJob j).answered c 0x0003 0 [0]) :=
  exec_of_ok (op := clerkJobCancelOp) rfl hp (by simp [clerkJobCancelOp, h])

end

/-! ### The statements -/

/-- Settles O21, opcode by opcode: the result words or the setting, read back. -/
theorem clerkCommandsAnswer : Obligations.ClerkCommandsAnswer := by
  refine ⟨fun c s hp => exec_clerkNop hp, fun c s hp => ?jobResult,
    fun c s hp => ⟨_, exec_clerkProtoCounters hp, s.counterWords_length _ 9, fun j hj => s.counterWords_get _ hj⟩,
    fun c s hp => exec_clerkBootStatus hp, fun c s hp => ⟨_, exec_clerkMapRead hp, ?mapLength, rfl, fun b hb => ?mapWord⟩,
    fun c s hp => ⟨_, exec_clerkEventFilterSet hp, s.only_setFilter _ _ _, fun i => ⟨fun hi => ?filter, fun hi => ?other⟩⟩,
    fun c s hp => ⟨_, exec_clerkFifoIdleSet hp, s.only_setIdle _ _ _,
      fun ha hha d ho hd => ?idle, fun k => ?rest, fun k hk => ?unnamed⟩⟩
  case jobResult =>
    rw [exec_clerkJobResult hp]
    exact ⟨fun j hj => by rw [jobResult_of_running hj], fun e hj he => by rw [jobResult_of_ended hj he],
      fun hj he => by rw [jobResult_of_unknown hj he]⟩
  case mapLength => simp [mapRead, Nat.add_comm]
  case mapWord => simp [mapRead, hb, Block.mapWord]
  case filter =>
    obtain rfl : i = if (c.p 0).bit 0 then 1 else 0 := Fin.ext (hi.trans (iface_of_bit (c.p 0)).symm)
    rw [State.setFilter_least, State.setFilter_buf]
    exact ⟨fun g hg => get_filterTab_low hg, fun g hg => get_filterTab_high hg, rfl⟩
  case other =>
    refine State.setFilter_of_ne _ _ _ ?_
    rintro rfl
    exact hi (iface_of_bit (c.p 0))
  case idle =>
    rw [State.fifo_setIdle, if_pos ⟨ha, hha, idlesFifo_iff.mpr ⟨ho, d, rfl, hd⟩⟩]
    rfl
  case rest =>
    rw [State.fifo_setIdle]
    split <;> rfl
  case unnamed =>
    rw [State.fifo_setIdle, if_neg]
    rintro ⟨ha, hha, hidles⟩
    obtain ⟨ho, d, hkey, hd⟩ := idlesFifo_iff.mp hidles
    rcases hk ha hha d hkey with hno | hno
    · simp [ho] at hno
    · exact hno hd

/-- Settles O35: CLERK_JOB_CANCEL by whether the job runs, its effect by the opcode of the job, and the end of a job. -/
theorem jobsAreCancelled : Obligations.JobsAreCancelled := by
  refine ⟨fun c s hp => ⟨fun hj => exec_clerkJobCancel_of_stopped hp hj, fun j hj => ?cancel⟩,
    fun s num st ws j hj => ?ends⟩
  case cancel =>
    have hnum : j.num = (c.p 0).fld 15 0 := by simpa using List.find?_some hj
    refine ⟨s.cancelJob j, exec_clerkJobCancel_of_running hp hj, State.cancelJob_fuse,
      State.cancelJob_ends (hnum ▸ hj), State.cancelJob_frees⟩
  case ends => exact ⟨_, State.endJob_of_running hj, s.only_withClerk _, rfl, rfl⟩

end Sys2Proof.Machine
end

section
/-!
PROOFS. The rings of BAR0 (spec/02 R57 to R64): what a ring block reads after one is put, what each write of the host does by the
value written, what enabling changes, and the statement about them.
-/

namespace Sys2Proof.Machine

theorem happen_of {g : Bool} (s t : State) (h : g = true) : happen g s t = .next t := by
  simp [happen, h]

/-! ### Ring blocks -/

/-- Reading a ring block after one of them is put. -/
theorem State.ring_setRing (s : State) (k j : Nat) (r : Ring) : (s.setRing k r).ring j = if j = k then r else s.ring j :=
  Tab.get_set s.bar0.rings k j

@[simp] theorem State.ring_setRing_same (s : State) (k : Nat) (r : Ring) : (s.setRing k r).ring k = r := by
  rw [State.ring_setRing, if_pos rfl]

theorem State.ring_setRing_of_ne {k j : Nat} (s : State) (r : Ring) (h : j ≠ k) : (s.setRing k r).ring j = s.ring j := by
  rw [State.ring_setRing, if_neg h]

theorem Ring.sizeOk_iff {k : Nat} {r : Ring} :
    r.sizeOk k = true ↔
      (k = 8 ∧ 8 ≤ r.sizeLog2 ∧ r.sizeLog2 ≤ 16) ∨ (k ≠ 8 ∧ 4 ≤ r.sizeLog2 ∧ r.sizeLog2 ≤ 12) := by
  unfold Ring.sizeOk
  by_cases hk : k = 8 <;> simp [hk]

/-! ### Writes, by the value written (R58 to R60) -/

section
variable {k : Nat} {v : Word} {s : State}

theorem State.writeProd_stops (hk : k < 4) (h : (s.ring k).enable = true ∧ (s.ring k).size ≤ v.fld 15 0) :
    s.writeProd k v = s.stopRing k :=
  (if_neg (Nat.not_le.mpr hk)).trans (if_pos h)

theorem State.writeProd_sets (hk : k < 4) (h : ¬((s.ring k).enable = true ∧ (s.ring k).size ≤ v.fld 15 0)) :
    s.writeProd k v = s.setRing k { s.ring k with prod := v.fld 15 0 } :=
  (if_neg (Nat.not_le.mpr hk)).trans (if_neg h)

theorem State.writeCons_stops (hk : 4 ≤ k) (h : (s.ring k).enable = true ∧ (s.ring k).size ≤ v.fld 15 0) :
    s.writeCons k v = s.stopRing k :=
  (if_neg (Nat.not_lt.mpr hk)).trans (if_pos h)

theorem State.writeCons_advances (hk : 4 ≤ k) (he : (s.ring k).enable = true) (hin : v.fld 15 0 < (s.ring k).size)
    (hne : v.fld 15 0 ≠ (s.ring k).cons) :
    s.writeCons k v = ((s.setRing k { s.ring k with cons := v.fld 15 0 }).rearmRing k).flushRing k :=
  (if_neg (Nat.not_lt.mpr hk)).trans ((if_neg fun h => Nat.not_le.mpr hin h.2).trans (if_pos ⟨he, hne⟩))

theorem State.writeCons_of_disabled (hk : 4 ≤ k) (he : (s.ring k).enable = false) :
    s.writeCons k v = s.setRing k { s.ring k with cons := v.fld 15 0 } := by
  have hno (p : Prop) : ¬((s.ring k).enable = true ∧ p) := by simp [he]
  exact (if_neg (Nat.not_lt.mpr hk)).trans ((if_neg (hno _)).trans (if_neg (hno _)))

theorem State.writeRingCtl_of_enabled (he : (s.ring k).enable = true) :
    s.writeRingCtl k v =
      s.setRing k { s.ring k with enable := v.bit 31, stopped := (s.ring k).stopped && !v.bit 30 } := by
  simp [State.writeRingCtl, he]

theorem State.writeRingCtl_enables (he : (s.ring k).enable = false) (hv : v.bit 31 = true) :
    s.writeRingCtl k v =
      s.enableRing k { s.ring k with stopped := (s.ring k).stopped && !v.bit 30, sizeLog2 := v.fld 4 0 } := by
  simp [State.writeRingCtl, he, hv]

theorem State.writeRingCtl_of_disabled (he : (s.ring k).enable = false) (hv : v.bit 31 = false) :
    s.writeRingCtl k v =
      s.setRing k { s.ring k with stopped := (s.ring k).stopped && !v.bit 30, sizeLog2 := v.fld 4 0 } := by
  simp [State.writeRingCtl, he, hv]

end

/-! ### What re-arming and flushing leave alone (R58, R59, R64) -/

theorem State.rearm_eq (v : Nat) (s : State) :
    s.rearm v = s.withBar0 { s.bar0 with disarmed := Tab.set false s.bar0.disarmed v false } := rfl

/-- Re-arming some vectors changes what is disarmed alone. -/
theorem foldl_rearm (l : List Nat) (s : State) :
    ∃ d, l.foldl (fun s k => s.rearm (k + 4)) s = s.withBar0 { s.bar0 with disarmed := d } := by
  induction l generalizing s with
  | nil => exact ⟨s.bar0.disarmed, rfl⟩
  | cons k l ih =>
    obtain ⟨d, hd⟩ := ih (s.rearm (k + 4))
    exact ⟨d, hd⟩

theorem State.rearmRing_eq (k : Nat) (s : State) : ∃ d, s.rearmRing k = s.withBar0 { s.bar0 with disarmed := d } := by
  unfold State.rearmRing
  split
  · exact foldl_rearm _ s
  · split
    · exact ⟨_, s.rearm_eq _⟩
    · exact ⟨s.bar0.disarmed, rfl⟩

theorem State.flushReplies_of_none {q : Queue} {s : State} (h : s.clerk.unwritten = []) : s.flushReplies q = s := by
  have hclerk : ({ s.clerk with unwritten := [] } : Clerk) = s.clerk := by rw [← h]
  rw [State.flushReplies, h, flushList, hclerk]
  rfl

theorem State.flushRing_of_none {k : Nat} {s : State} (h : s.clerk.unwritten = []) : s.flushRing k = s := by
  unfold State.flushRing
  split
  · exact State.flushReplies_of_none h
  · rfl

/-! ### Enabling and stopping a ring (R59 to R61) -/

/-- Enabling a ring of a size in its range changes BAR0 alone: the ring, PHASE on the event ring, and what is disarmed. -/
theorem State.enableRing_ok {k : Nat} {r : Ring} {s : State} (hr : r.sizeOk k = true) (hu : s.clerk.unwritten = []) :
    ∃ d, s.enableRing k r =
      s.withBar0 { (s.setRing k { r with enable := true, prod := 0, cons := 0 }).bar0 with
        phase := if k = 8 then true else s.bar0.phase, disarmed := d } := by
  unfold State.enableRing
  rw [if_pos hr]
  by_cases hk : k = 8
  · obtain ⟨d, hd⟩ := State.rearmRing_eq k
      ((s.setRing k { r with enable := true, prod := 0, cons := 0 }).withBar0
        { (s.setRing k { r with enable := true, prod := 0, cons := 0 }).bar0 with phase := true })
    refine ⟨d, ?_⟩
    simp only [if_pos hk, hd]
    exact State.flushRing_of_none hu
  · obtain ⟨d, hd⟩ := State.rearmRing_eq k (s.setRing k { r with enable := true, prod := 0, cons := 0 })
    refine ⟨d, ?_⟩
    simp only [if_neg hk, hd]
    exact State.flushRing_of_none hu

theorem State.enableRing_stops {k : Nat} {r : Ring} {s : State} (hr : r.sizeOk k = false) :
    s.enableRing k r = (s.setRing k { r with prod := 0, cons := 0 }).stopRing k :=
  if_neg (by simp [hr])

section
variable {s : State} {i : Iface} {r : EvRec} {code sev ha data k : Nat}

theorem State.raise_bar0 : (s.raise code sev ha data).bar0 = s.bar0 :=
  (State.raise_keeps (cs := [.clerk, .hier, .tally]) (Keeps.refl s)).frame .bar0 (by decide)

theorem State.counter_logFault : (s.logFault r).counter k = s.counter k := by
  unfold State.logFault
  split <;> rfl

theorem State.counter_offerEvent (h7 : k ≠ protoCtr i 7) (h8 : k ≠ protoCtr i 8) :
    (s.offerEvent i r).counter k = s.counter k := by
  unfold State.offerEvent
  dsimp only
  split
  · exact State.counter_bump_of_ne _ _ h8
  · split
    · rfl
    · exact State.counter_bump_of_ne _ _ h7

/-- No event's counter is a protocol counter (R502). -/
theorem evCtr_ne_protoCtr {j : Nat} (hj : j < 9) : evCtr code ≠ protoCtr i j := by
  have hi := i.isLt
  unfold evCtr protoCtr ctr
  omega

/-- An event that is raised advances its own counter. -/
theorem State.counter_raise : (s.raise code sev ha data).counter (evCtr code) = (s.counter (evCtr code) + 1) % 2 ^ 48 := by
  unfold State.raise
  rw [State.counter_offerEvent (evCtr_ne_protoCtr (by decide)) (evCtr_ne_protoCtr (by decide)),
    State.counter_offerEvent (evCtr_ne_protoCtr (by decide)) (evCtr_ne_protoCtr (by decide)), State.counter_logFault,
    State.counter_bump_same]

theorem State.stopRing_ring : (s.stopRing k).ring k = { s.ring k with enable := false, stopped := true } := by
  rw [State.stopRing, State.ring, State.raise_bar0]
  exact State.ring_setRing_same _ _ _

theorem State.counter_stopRing : (s.stopRing k).counter (evCtr 0x0004) = (s.counter (evCtr 0x0004) + 1) % 2 ^ 48 :=
  State.counter_raise

end

/-! ### The host's writes, where its windows are reached -/

section
variable {s : State} {k : Fin 9} {v : Word} (hp : s.pcie = true)
include hp

theorem exec_doorbellWrite (q : Queue) : exec (.doorbellWrite q v) s = .next (s.writeProd q.val v) :=
  happen_of _ _ hp

theorem exec_consWrite : exec (.consWrite k v) s = .next (s.writeCons k.val v) :=
  happen_of _ _ hp

theorem exec_ringEnable (hv : v.bit 31 = true) (he : (s.ring k.val).enable = false) :
    exec (.ringEnable k v) s = .next (s.writeRingCtl k.val v) :=
  happen_of _ _ (by simp [hp, hv, he])

theorem exec_ringDisable (hv : v.bit 31 = false) (he : (s.ring k.val).enable = true) :
    exec (.ringDisable k v) s = .next (s.writeRingCtl k.val v) :=
  happen_of _ _ (by simp [hp, hv, he])

theorem exec_ringStop (he : (s.ring k.val).enable = true) : exec (.ringStop k) s = .next (s.stopRing k.val) :=
  happen_of _ _ (by simp [hp, he])

theorem exec_stoppedClear (hv : v.bit 30 = true) : exec (.stoppedClear k v) s = .next (s.writeRingCtl k.val v) :=
  happen_of _ _ (by simp [hp, hv])

end

/-! ### The statement -/

/-- Settles O26: each write of the host by the value written. -/
theorem hostWritesToRings : Obligations.HostWritesToRings := by
  refine ⟨fun s q v hp => ?doorbell, fun s k v hp hk => ?cons,
    fun s k v hp hv he hu => ⟨fun hsize => ?enables, fun hsize => ?stops⟩,
    fun s k v hp hv he => ?disable, fun s k hp he => exec_ringStop hp he, fun s k v hp hclear hsame => ?stopped⟩
  case doorbell =>
    rw [exec_doorbellWrite hp]
    exact ⟨fun h => by rw [State.writeProd_stops q.isLt h], fun h => by rw [State.writeProd_sets q.isLt h]⟩
  case cons =>
    rw [exec_consWrite hp]
    exact ⟨fun h => by rw [State.writeCons_stops hk h], fun he hin hne => by rw [State.writeCons_advances hk he hin hne],
      fun he => by rw [State.writeCons_of_disabled hk he]⟩
  case enables =>
    obtain ⟨d, hd⟩ := State.enableRing_ok (k := k.val) (s := s)
      (r := { s.ring k.val with stopped := (s.ring k.val).stopped && !v.bit 30, sizeLog2 := v.fld 4 0 })
      (Ring.sizeOk_iff.mpr hsize) hu
    refine ⟨_, (exec_ringEnable hp hv he).trans (congrArg _ ((State.writeRingCtl_enables he hv).trans hd)),
      State.only_mono (s.only_withBar0 _) (by decide), rfl, ?_, fun j hj => ?_, rfl⟩
    · exact State.ring_setRing_same s _ _
    · exact State.ring_setRing_of_ne s _ hj
  case stops =>
    have hstop := State.enableRing_stops (k := k.val) (s := s)
      (r := { s.ring k.val with stopped := (s.ring k.val).stopped && !v.bit 30, sizeLog2 := v.fld 4 0 })
      (Bool.eq_false_iff.mpr fun h => hsize (Ring.sizeOk_iff.mp h))
    refine ⟨_, (exec_ringEnable hp hv he).trans (congrArg _ ((State.writeRingCtl_enables he hv).trans hstop)), ?_, ?_, ?_⟩
    · rw [State.stopRing_ring]
    · rw [State.stopRing_ring]
    · rw [State.counter_stopRing, State.counter_bump_same]
      rfl
  case disable => rw [exec_ringDisable hp hv he, State.writeRingCtl_of_enabled he, hv]
  case stopped =>
    rw [exec_stoppedClear hp hclear]
    cases he : (s.ring k.val).enable with
    | true => rw [State.writeRingCtl_of_enabled he, hsame, he, hclear]; simp [he]
    | false => rw [State.writeRingCtl_of_disabled he (hsame.trans he), hclear]; simp [he]

end Sys2Proof.Machine
end

section
/-!
PROOFS. Events to the host and the SPI transactions (spec/02 R53, R61 to R67): the next record of an interface, what delivering it
writes, each transaction by what it finds, and the statements about them.
-/

namespace Sys2Proof.Machine

theorem iface_other_ne : ∀ i : Iface, 1 - i ≠ i := by decide

/-! ### The next record (R62) -/

section
variable {i : Iface} {s : State}

theorem State.nextEvent_of_dropped (h : 0 < (s.clerk.ev.get i).dropped) :
    ∃ t, s.nextEvent i = some (⟨0x0002, 3, 0x00FFF, (s.clerk.ev.get i).dropped, s.timeWord⟩, t) ∧
      t.clerk.ev = s.clerk.ev.upd i fun b => { b with dropped := 0 } := by
  refine ⟨_, if_pos h, ?_⟩
  rw [State.withClerk_clerk, State.logFault_clerk]
  rfl

theorem State.nextEvent_of_record {r : EvRec} {l : List EvRec} (h0 : (s.clerk.ev.get i).dropped = 0)
    (hb : (s.clerk.ev.get i).buf = r :: l) :
    s.nextEvent i = some (r, s.withClerk
      { s.clerk with ev := s.clerk.ev.set i { s.clerk.ev.get i with buf := l } }) := by
  simp [State.nextEvent, h0, hb]

theorem State.nextEvent_of_none (h0 : (s.clerk.ev.get i).dropped = 0) (hb : (s.clerk.ev.get i).buf = []) :
    s.nextEvent i = none := by
  simp [State.nextEvent, h0, hb]

theorem State.nextEvent_bar0 {e : EvRec} {t : State} (h : s.nextEvent i = some (e, t)) : t.bar0 = s.bar0 :=
  (State.nextEvent_keeps (cs := [.clerk, .hier, .tally]) (Keeps.refl s) h).frame .bar0 (by decide)

end

/-! ### Delivery to the event ring (R61) -/

/-- A record written to the slot at PROD: PROD advances, PHASE flips at the wrap. -/
def State.postEvent (e : EvRec) (t : State) : State :=
  let p := ((t.ring 8).prod + 1) % (t.ring 8).size
  let u := (t.setRing 8 { t.ring 8 with prod := p }).emit (.event (t.ring 8).prod (e.words t.bar0.phase))
  if p = 0 then u.withBar0 { u.bar0 with phase := !t.bar0.phase } else u

section
variable (e : EvRec) (t : State)

theorem State.only_postEvent : t.only [.out, .bar0] (t.postEvent e) :=
  have posted := State.emit_keeps (cs := [.out, .bar0]) (State.setRing_keeps (Keeps.refl t))
  (Keeps.ite (fun _ => withBar0_keeps posted) fun _ => posted).frame

theorem State.out_postEvent :
    (t.postEvent e).out = t.out ++ [.event (t.ring 8).prod (e.words t.bar0.phase)] := by
  unfold State.postEvent
  dsimp only
  split <;> rfl

theorem State.ring_postEvent :
    (t.postEvent e).ring 8 = { t.ring 8 with prod := ((t.ring 8).prod + 1) % (t.ring 8).size } := by
  unfold State.postEvent
  dsimp only
  split <;> exact State.ring_setRing_same t 8 _

theorem State.phase_postEvent :
    (t.postEvent e).bar0.phase =
      if ((t.ring 8).prod + 1) % (t.ring 8).size = 0 then !t.bar0.phase else t.bar0.phase := by
  unfold State.postEvent
  dsimp only
  split <;> rfl

end

theorem exec_eventDeliver {s t : State} {e : EvRec} (hp : s.pcie = true) (he : (s.ring 8).enable = true)
    (hroom : (s.ring 8).full = false) (hnext : s.nextEvent 0 = some (e, t)) :
    exec .eventDeliver s = .next ((t.postEvent e).signal (Tab.get 4 s.bar0.vector (e.code / 256))) := by
  have hbar := State.nextEvent_bar0 hnext
  have hring : t.ring 8 = s.ring 8 := congrArg (Bar0.ring · 8) hbar
  change execEventDeliver s = _
  simp only [execEventDeliver, hp, he, hroom, hnext, State.postEvent, hring, hbar, Bool.and_true, Bool.not_false, if_true]

theorem exec_boundExpiry {s : State} {i : Iface} {q : Queue} {seq : Byte} (hs : s.serves i = true)
    (hb : s.boundRuns i q = true) :
    exec (.boundExpiry i q seq) s = .next ((s.bump (protoCtr i (3 + q.val)) 1).raise 0x0005 2 0x00FFF
      (i.val * 2 ^ 24 + q.val * 2 ^ 16 + seq.toNat * 2 ^ 8)) :=
  happen_of _ _ (by simp [hs, hb])

/-- Settles O28: what EVENT_DELIVER writes, which record it is, and the bound of a queue. -/
theorem eventsReachTheHost : Obligations.EventsReachTheHost := by
  refine ⟨fun s t e hp he hroom hnext => ?deliver, fun s i => ⟨fun hdropped => ?dropped, fun r l h0 hb => ?oldest⟩,
    fun s i q seq hs hb => exec_boundExpiry hs hb⟩
  case deliver =>
    have hbar := State.nextEvent_bar0 hnext
    have hring : s.ring 8 = t.ring 8 := congrArg (Bar0.ring · 8) hbar.symm
    refine ⟨t.postEvent e, exec_eventDeliver hp he hroom hnext, ?_, t.only_postEvent e, ?_, ?_⟩ <;> rw [hring]
    · rw [State.out_postEvent, hbar]
    · exact t.ring_postEvent e
    · rw [State.phase_postEvent, hbar]
  case dropped =>
    obtain ⟨t, hnext, hev⟩ := State.nextEvent_of_dropped hdropped
    refine ⟨t, hnext, ?_, ?_⟩ <;> rw [hev, P2.get_upd, if_pos rfl]
  case oldest =>
    refine ⟨_, State.nextEvent_of_record h0 hb, ?_, s.only_withClerk _, ?_⟩ <;> rw [State.withClerk_clerk, P2.get_set]
    · rw [if_pos rfl]
    · rw [if_neg (iface_other_ne i)]

/-! ### Words clocked out (R65) -/

theorem padTake_of_le {n : Nat} {ws : List Word} (h : n ≤ ws.length) : padTake n ws = ws.take n :=
  List.take_append_of_le_length h

theorem padTake_of_ge {n : Nat} {ws : List Word} (h : ws.length ≤ n) :
    padTake n ws = ws ++ List.replicate (n - ws.length) 0 := by
  simp [padTake, List.take_append, List.take_of_length_le h]

theorem readEvents_of_none {n part : Nat} {s : State} (h : s.nextEvent 1 = none) :
    readEvents n part s = (List.replicate (4 * n + part) 0, s) := by
  cases n with
  | zero => simp [readEvents, h]
  | succ n => simp [readEvents, h]

theorem readEvents_part {part : Nat} {e : EvRec} {s t : State} (h : s.nextEvent 1 = some (e, t)) :
    readEvents 0 part s = ((e.words false).take part, s) := by
  simp [readEvents, h]

theorem readEvents_nothing (s : State) : readEvents 0 0 s = ([], s) := by
  cases h : s.nextEvent 1 with
  | none => exact readEvents_of_none h
  | some e => exact readEvents_part h

theorem readEvents_succ {n part : Nat} {e : EvRec} {s t : State} (h : s.nextEvent 1 = some (e, t)) :
    readEvents (n + 1) part s = (e.words false ++ (readEvents n part t).1, (readEvents n part t).2) := by
  rw [readEvents, h]

theorem readEvents_whole {e : EvRec} {s t : State} (h : s.nextEvent 1 = some (e, t)) :
    readEvents 1 0 s = (e.words false, t) := by
  rw [readEvents_succ h, readEvents_nothing, List.append_nil]

theorem readWords_one {i : Iface} {off : Nat} (s : State) (h : off ≠ 0x40) :
    readWords i 1 off s = ([s.bar0Word i off], s) := by
  simp [readWords, State.readBar0, h]

/-! ### The transactions, while SPI takes them -/

section
variable {s : State} {k : Byte} {ws : List Word} {n : Nat} (hu : s.spiUp = true)
include hu

theorem exec_spiWriteCmd_whole (hk : k.toNat < 4) (hm : Tab.get [] s.clerk.mail k.toNat = []) (hw : packetWhole ws = true) :
    exec (.spiWriteCmd k ws) s =
      .next (s.withClerk { s.clerk with mail := Tab.set [] s.clerk.mail k.toNat ws }) := by
  change execSpiWriteCmd k ws s = _
  simp [execSpiWriteCmd, hu, Nat.not_lt.mpr (Nat.le_of_lt_succ hk), hm, hw]

theorem exec_spiWriteCmd_cut (hk : k.toNat < 4) (hm : Tab.get [] s.clerk.mail k.toNat = []) (hw : packetWhole ws = false) :
    exec (.spiWriteCmd k ws) s = .next (s.lose 1 (lostData k.toNat ws.head?)) := by
  change execSpiWriteCmd k ws s = _
  simp [execSpiWriteCmd, hu, Nat.not_lt.mpr (Nat.le_of_lt_succ hk), hm, hw]

theorem exec_spiWriteCmd_badIndex (hk : 4 ≤ k.toNat) : exec (.spiWriteCmd k ws) s = .next (s.lose 1 (2 ^ 18)) := by
  change execSpiWriteCmd k ws s = _
  simp [execSpiWriteCmd, hu, Nat.lt_of_succ_le hk]

theorem exec_spiReadReply_zeros (h : 4 ≤ k.toNat ∨ Tab.get [] s.clerk.spiReply k.toNat = []) :
    exec (.spiReadReply k n) s = .next (s.emit (.data (List.replicate n 0))) := by
  change execSpiReadReply k n s = _
  by_cases hk : 3 < k.toNat
  · simp [execSpiReadReply, hu, hk]
  · have hnone := h.resolve_left fun h4 => hk (Nat.lt_of_succ_le h4)
    simp [execSpiReadReply, hu, hk, hnone]

section
variable {r : List Word} {l : List (List Word)} (hk : k.toNat < 4)
  (hr : Tab.get [] s.clerk.spiReply k.toNat = r :: l)
include hk hr

theorem exec_spiReadReply_part (hn : n < r.length) :
    exec (.spiReadReply k n) s = .next (s.emit (.data (r.take n))) := by
  change execSpiReadReply k n s = _
  simp [execSpiReadReply, hu, Nat.not_lt.mpr (Nat.le_of_lt_succ hk), hr, Nat.not_le.mpr hn, padTake_of_le (Nat.le_of_lt hn)]

theorem exec_spiReadReply_whole (hn : r.length ≤ n) :
    exec (.spiReadReply k n) s =
      .next ((s.withClerk { s.clerk with spiReply := Tab.set [] s.clerk.spiReply k.toNat l }).emit
        (.data (r ++ List.replicate (n - r.length) 0))) := by
  change execSpiReadReply k n s = _
  simp [execSpiReadReply, hu, Nat.not_lt.mpr (Nat.le_of_lt_succ hk), hr, hn, padTake_of_ge hn]

end

theorem exec_spiReadEvent {t : State} (h : readEvents (n / 4) (n % 4) s = (ws, t)) :
    exec (.spiReadEvent n) s = .next (t.emit (.data ws)) :=
  (happen_of _ _ hu).trans (by rw [h])

theorem exec_spiReadWindow {o : BitVec 16} {t : State} (h : readWords 1 n o.toNat s = (ws, t)) :
    exec (.spiReadWindow o n) s = .next (t.emit (.data ws)) :=
  (happen_of _ _ hu).trans (by rw [h])

theorem exec_spiWriteWindow {o : BitVec 16} : exec (.spiWriteWindow o ws) s = .next (writeWords o.toNat ws s) :=
  happen_of _ _ hu

theorem exec_spiBadInstruction (hk : k.toNat = 0 ∨ 5 < k.toNat) :
    exec (.spiBadInstruction k) s = .next (s.lose 1 (2 ^ 19)) :=
  happen_of _ _ (by simpa [hu] using hk)

end

/-- Settles O29: each transaction by what it finds. -/
theorem spiTransactions : Obligations.SpiTransactions := by
  refine ⟨fun s k ws hu => ⟨exec_spiWriteCmd_whole hu, exec_spiWriteCmd_cut hu, exec_spiWriteCmd_badIndex hu⟩,
    fun s k n hu => ⟨exec_spiReadReply_zeros hu, fun r l hk hr =>
      ⟨exec_spiReadReply_part hu hk hr, exec_spiReadReply_whole hu hk hr⟩⟩,
    fun s hu => ⟨fun n hev => ?noEvent, fun r l hev => ⟨?wholeEvent, fun n hn => ?partEvent⟩⟩,
    fun s o hu => ⟨fun ho => exec_spiReadWindow hu (readWords_one s ho), fun n ws u hr => exec_spiReadWindow hu hr,
      fun v => exec_spiWriteWindow hu, fun ws => exec_spiWriteWindow hu⟩,
    fun s k hu hk => exec_spiBadInstruction hu hk⟩
  case noEvent =>
    have hnone : s.nextEvent 1 = none :=
      State.nextEvent_of_none (congrArg EvBuf.dropped hev) (congrArg EvBuf.buf hev)
    have hread := readEvents_of_none (n := n / 4) (part := n % 4) hnone
    rw [Nat.div_add_mod] at hread
    exact exec_spiReadEvent hu hread
  case wholeEvent =>
    have hnext := State.nextEvent_of_record (i := 1) (congrArg EvBuf.dropped hev) (congrArg EvBuf.buf hev)
    exact ⟨_, exec_spiReadEvent hu (readEvents_whole hnext), s.only_withClerk _, rfl⟩
  case partEvent =>
    have hnext := State.nextEvent_of_record (i := 1) (congrArg EvBuf.dropped hev) (congrArg EvBuf.buf hev)
    refine exec_spiReadEvent hu ?_
    rw [Nat.div_eq_of_lt hn, Nat.mod_eq_of_lt hn]
    exact readEvents_part hnext

end Sys2Proof.Machine
end

section
/-!
PROOFS. The line receiver's happenings (spec/03 R77 to R107): what a port's receiver reads after each shared operation, HEALTH
after it is re-evaluated, the answer of each happening where it can come about, and the statement about them.
-/

namespace Sys2Proof.Machine

/-! ### A port's receiver, after what leaves the receivers alone -/

theorem Keeps.rxp_eq {cs : List Comp} {s t : State} (h : Keeps cs s t) (hrx : .rx ∉ cs) (p : Port) : t.rxp p = s.rxp p :=
  congrArg (P2.get · p) (h.frame .rx hrx)

section
variable (s : State) (p q : Port)

@[simp] theorem State.rxp_bump (k n : Nat) : (s.bump k n).rxp p = s.rxp p := rfl

@[simp] theorem State.rxp_raise (code sev ha data : Nat) : (s.raise code sev ha data).rxp p = s.rxp p :=
  (State.raise_keeps (cs := [.clerk, .hier, .tally]) (Keeps.refl s)).rxp_eq (by decide) p

@[simp] theorem evRxState_rxp (new old : RxSt) (cause : Nat) : (evRxState p new old cause s).rxp q = s.rxp q :=
  s.rxp_raise q _ _ _ _

@[simp] theorem evLaneFault_rxp (k : Nat) (on : Bool) : (evLaneFault p k on s).rxp q = s.rxp q :=
  s.rxp_raise q _ _ _ _

@[simp] theorem State.rxp_refreshPools : s.refreshPools.rxp p = s.rxp p :=
  (State.refreshPools_keeps (cs := [.clerk, .hier, .tally, .fec, .flow]) (Keeps.refl s)).rxp_eq (by decide) p

@[simp] theorem State.rxp_refreshHealth : s.refreshHealth.rxp p = s.rxp p :=
  (State.refreshHealth_keeps (cs := [.clerk, .hier, .tally]) (Keeps.refl s)).rxp_eq (by decide) p

@[simp] theorem State.rxp_answerAwait (a : Await) (ws : List Word) : (s.answerAwait a ws).rxp p = s.rxp p :=
  (State.answerAwait_keeps (cs := [.out, .bar0, .clerk]) (Keeps.refl s)).rxp_eq (by decide) p

/-! ### A port's receiver, after what changes it -/

@[simp] theorem State.rxp_updRx_same (f : RxPort → RxPort) : (s.updRx p f).rxp p = f (s.rxp p) := by
  rw [State.rxp_updRx, if_pos rfl]

@[simp] theorem State.rxp_moveRx (new : RxSt) (cause : Nat) : (s.moveRx p new cause).rxp p = { s.rxp p with st := new } := by
  simp [State.moveRx]

@[simp] theorem State.rxp_startAcq (step : Nat) (full : Bool) :
    (s.startAcq p step full).rxp p =
      { s.rxp p with acqStep := step, fullScan := full, estimator := if step = 1 then .acquisition else .free } := by
  simp [State.startAcq]

/-- A restart of acquisition is step 1 with a full scan (R96). -/
@[simp] theorem State.rxp_restartAcq :
    (s.restartAcq p).rxp p = { s.rxp p with acqStep := 1, fullScan := true, estimator := .acquisition } := by
  simp [State.restartAcq]

@[simp] theorem State.rxp_endRxFade : (s.endRxFade p).rxp p = { s.rxp p with fade := none } := by
  unfold State.endRxFade
  split
  case h_1 h => rw [← h]
  case h_2 f h => simp

/-- Aborting a scan changes at most what holds the estimator (R103). -/
theorem State.rxp_abortScan : ∃ e, (s.abortScan p).rxp p = { s.rxp p with estimator := e } := by
  unfold State.abortScan
  split
  · exact ⟨.free, by simp [State.endJob_rxp]⟩
  · exact ⟨_, rfl⟩

@[simp] theorem State.rxp_endLaneFaults : (s.endLaneFaults p).rxp p = { s.rxp p with laneFault := [] } := by
  have events (l : List Nat) : ∀ t : State, (l.foldl (fun t k => evLaneFault p k false t) t).rxp p = t.rxp p := by
    induction l with
    | nil => exact fun t => rfl
    | cons k l ih => exact fun t => (ih _).trans (evLaneFault_rxp t p p k false)
  rw [State.endLaneFaults, events, State.rxp_updRx_same]

/-- Leaving TRACKING forgets the estimates, the tolerances and the residual of the receiver (R101). -/
@[simp] theorem State.rxp_leaveTracking :
    (s.leaveTracking p).rxp p = { s.rxp p with est := {}, tolerance := [], residual := none } := by
  have hspans (u : State) : (u.dropHeld p).rxp p = u.rxp p := rfl
  have hframer (u : State) : (u.framerOff p).rxp p = u.rxp p :=
    (State.framerOff_keeps (cs := [.clerk, .hier, .tally, .loom, .flow]) (Keeps.refl u)).rxp_eq (by decide) p
  have htags (u : State) : (u.tagLose p 0).rxp p = u.rxp p :=
    (State.tagLose_keeps (cs := [.tally]) (Keeps.refl u)).rxp_eq (by decide) p
  have hadapt (u : State) : (u.raLeave p).rxp p = u.rxp p := rfl
  rw [State.leaveTracking, htags, State.rxp_updRx_same, hadapt, hframer, hspans]
  rfl

/-- What a loss of lock leaves of the receiver (R95, R107). -/
@[simp] theorem State.rxp_loseLock (cause : Nat) :
    (s.loseLock p cause).rxp p = { s.rxp p with
      fade := none, est := {}, tolerance := [], residual := none, lol := true, st := .acquire, acqStep := 1,
      fullScan := false, estimator := .acquisition } := by
  obtain ⟨e, he⟩ := State.rxp_abortScan (s.endRxFade p) p
  simp [State.loseLock, he]

end

/-! ### TRACKING is entered without a lane fault (R94) -/

/-- The run-ahead machinery of a port as it starts at span `n`. -/
def RwPort.started (n : Nat) (w : RwPort) : RwPort :=
  { w with track := n, fin := n, peak := 0, spans := [], replay := none, catchUp := false, backlog := 0, recomp := [],
           rateHigh := false }

theorem State.enterTracking_of_noFault {s : State} {p : Port} (h : (s.rxp p).laneFault = []) :
    s.enterTracking p = ((s.setRw p ((s.rwp p).started (s.rxp p).next)).moveRx p .tracking 3).updRx p fun r =>
      { r with acqStep := 0, lol := false, estimator := .free, residual := none } := by
  have hrx (w : RwPort) : (s.setRw p w).rxp p = s.rxp p := rfl
  unfold State.enterTracking
  dsimp only
  rw [if_pos (by simp [hrx, h])]
  rfl

theorem State.rwp_enterTracking {s : State} {p : Port} (h : (s.rxp p).laneFault = []) :
    (s.enterTracking p).rwp p = (s.rwp p).started (s.rxp p).next := by
  rw [State.enterTracking_of_noFault h]
  have hrw (u : State) (f : RxPort → RxPort) : ((u.moveRx p .tracking 3).updRx p f).rw = u.rw :=
    (State.updRx_keeps (cs := [.clerk, .hier, .tally, .rx]) (State.moveRx_keeps (Keeps.refl u))).frame .rw (by decide)
  rw [State.rwp, hrw]
  exact (P2.get_set s.rw p p _).trans (if_pos rfl)

theorem State.rxp_enterTracking {s : State} {p : Port} (h : (s.rxp p).laneFault = []) :
    (s.enterTracking p).rxp p =
      { s.rxp p with st := .tracking, acqStep := 0, lol := false, estimator := .free, residual := none } := by
  rw [State.enterTracking_of_noFault h, State.rxp_updRx_same, State.rxp_moveRx]
  rfl

theorem State.rwp_refreshPools (s : State) (p : Port) : s.refreshPools.rwp p = s.rwp p :=
  congrArg (P2.get · p)
    ((State.refreshPools_keeps (cs := [.clerk, .hier, .tally, .fec, .flow]) (Keeps.refl s)).frame .rw (by decide))

/-! ### State, signal and lane faults of a receiver, through what keeps them -/

/-- What HEALTH and the front end know of a receiver: its state, LOS and its lane faults. -/
def RxPort.signal (r : RxPort) : RxSt × Bool × List Nat := (r.st, r.los, r.laneFault)

section
variable (s : State) (p q : Port)

theorem State.signal_moveRx (new : RxSt) (cause : Nat) : ((s.moveRx p new cause).rxp p).signal = (new, (s.rxp p).signal.2) := by
  rw [State.rxp_moveRx, RxPort.signal, RxPort.signal]

theorem State.signal_abortScan : ((s.abortScan p).rxp p).signal = (s.rxp p).signal := by
  obtain ⟨e, he⟩ := State.rxp_abortScan s p
  rw [he, RxPort.signal, RxPort.signal]

theorem State.signal_leaveIfTracking : ((s.leaveIfTracking p).rxp p).signal = (s.rxp p).signal := by
  unfold State.leaveIfTracking
  split
  · rw [State.rxp_leaveTracking, RxPort.signal, RxPort.signal]
  · rfl

theorem State.signal_updRx {s : State} {p : Port} {f : RxPort → RxPort} (hf : (f (s.rxp p)).signal = (s.rxp p).signal)
    (q : Port) :
    ((s.updRx p f).rxp q).signal = (s.rxp q).signal := by
  rw [State.rxp_updRx]
  split
  case isTrue h => rw [hf, h]
  case isFalse => rfl

/-- Whatever its state, a receiver keeps it when a LINE_RX_CD_SET of either port commits (R102). -/
theorem State.signal_commitCd (c : Cmd) : ((s.commitCd c).rxp q).signal = (s.rxp q).signal := by
  have hfields : ((s.updRx c.port (cdFields c)).rxp q).signal = (s.rxp q).signal := State.signal_updRx rfl q
  unfold State.commitCd
  dsimp only
  split
  case h_1 | h_2 => exact (State.signal_updRx rfl q).trans hfields
  case h_3 =>
    rw [evRxState_rxp]
    exact (State.signal_updRx rfl q).trans ((State.signal_updRx rfl q).trans hfields)
  case h_4 =>
    split
    · exact hfields
    · exact (State.signal_updRx rfl q).trans hfields

theorem State.signal_commitWaitingCd : ((s.commitWaitingCd p).rxp q).signal = (s.rxp q).signal := by
  unfold State.commitWaitingCd
  split
  · rfl
  · rw [State.rxp_answerAwait, State.signal_commitCd]

theorem State.signal_commitAllCd : ((s.commitAllCd p).rxp q).signal = (s.rxp q).signal := by
  have commits (l : List Held) : ∀ t : State,
      ((l.foldl (fun t h => if h.await = some (.rxCd p) then t.commitWaitingCd p else t) t).rxp q).signal =
        (t.rxp q).signal := by
    induction l with
    | nil => exact fun t => rfl
    | cons h l ih =>
      intro t
      rw [List.foldl_cons, ih]
      split
      · exact t.signal_commitWaitingCd p q
      · rfl
  exact commits s.clerk.held s

end

/-! ### HEALTH after it is re-evaluated (R471) -/

section
variable {s : State}

theorem State.logFault_hier (r : EvRec) :
    (s.logFault r).hier = { s.hier with logSeq := (s.logFault r).hier.logSeq, log := (s.logFault r).hier.log } := by
  unfold State.logFault
  split <;> rfl

/-- An event that is raised changes the fault log alone of the hierarchy. -/
theorem State.raise_hier (code sev ha data : Nat) : (s.raise code sev ha data).hier =
    { s.hier with logSeq := (s.raise code sev ha data).hier.logSeq, log := (s.raise code sev ha data).hier.log } := by
  have offered (i : Iface) (r : EvRec) (u : State) : (u.offerEvent i r).hier = u.hier :=
    (State.offerEvent_keeps (cs := [.clerk, .tally]) (Keeps.refl u)).frame .hier (by decide)
  unfold State.raise
  rw [offered, offered]
  exact State.logFault_hier _

theorem State.refreshHealth_hier : s.refreshHealth.hier = { s.hier with
    logSeq := s.refreshHealth.hier.logSeq, log := s.refreshHealth.hier.log, health := s.healthNow,
    healthTime := s.refreshHealth.hier.healthTime } := by
  unfold State.refreshHealth
  dsimp only
  split
  case isTrue h => rw [h]
  case isFalse h => rw [State.raise_hier]; rfl

/-- The conditions of Table 17-3 read neither the fault log nor the HEALTH recorded. -/
theorem State.healthNow_of_hier {t : State} {q : Nat} {l : List LogRec} {h w : Nat} (hk : s.only [.clerk, .hier, .tally] t)
    (hh : t.hier = { s.hier with logSeq := q, log := l, health := h, healthTime := w }) :
    t.healthNow = s.healthNow := by
  have hstore : t.store = s.store := hk .store (by decide)
  have htiming : t.timing = s.timing := hk .timing (by decide)
  have hbar0 : t.bar0 = s.bar0 := hk .bar0 (by decide)
  have hrx : t.rx = s.rx := hk .rx (by decide)
  have hlanes : t.lanes = s.lanes := hk .lanes (by decide)
  have hmasked : t.masked = s.masked := by
    simp only [State.masked, noSpareBlock, noJourneyman, State.block, State.region, State.protection, State.stack,
      State.pairReady, hstore, hh]
  have hunmasked : t.unmasked = s.unmasked := by
    simp only [State.unmasked, State.laneFaulted, State.protection, State.stack, htiming, hbar0, hrx, hlanes, hstore, hh]
  rw [State.healthNow, hmasked, hunmasked, State.healthNow]

theorem State.health_refreshHealth : s.refreshHealth.hier.health = s.refreshHealth.healthNow := by
  have hsame : s.refreshHealth.healthNow = s.healthNow :=
    State.healthNow_of_hier (State.refreshHealth_keeps (Keeps.refl s)).frame State.refreshHealth_hier
  rw [hsame, State.refreshHealth_hier]

end

/-! ### The happenings, where they can come about -/

section
variable {s : State} {p : Port} (hl : s.live = true)
include hl

/-- Loss of signal, outside OFF (R77). -/
theorem exec_losDeclare (hst : (s.rxp p).st ≠ .off) (hlos : (s.rxp p).los = false) :
    ∃ t, exec (.losDeclare p) s = .next t ∧ (t.rxp p).st = .signalWait ∧ (t.rxp p).los = true ∧
      (t.rxp p).laneFault = [] ∧ t.hier.health = t.healthNow := by
  have hguard : (s.live && decide ((s.rxp p).st ≠ .off) && !(s.rxp p).los) = true := by simp [hl, hst, hlos]
  obtain ⟨t, ht, hsignal, hhealth⟩ : ∃ t, exec (.losDeclare p) s = .next t ∧
      (t.rxp p).signal = (.signalWait, true, []) ∧ t.hier.health = t.healthNow := by
    refine ⟨_, happen_of _ _ hguard, ?_, State.health_refreshHealth⟩
    rw [State.rxp_refreshHealth, State.rxp_refreshPools, State.signal_commitAllCd, State.signal_updRx rfl p,
      State.signal_moveRx, State.signal_leaveIfTracking, State.signal_abortScan, State.rxp_endLaneFaults]
    simp [RxPort.signal]
  exact ⟨t, ht, congrArg (·.1) hsignal, congrArg (·.2.1) hsignal, congrArg (·.2.2) hsignal, hhealth⟩

/-- The signal is back (R77, R96). -/
theorem exec_losClear (hst : (s.rxp p).st = .signalWait) (hlos : (s.rxp p).los = true) :
    ∃ t, exec (.losClear p) s = .next t ∧ (t.rxp p).st = .acquire ∧ (t.rxp p).los = false ∧ (t.rxp p).acqStep = 1 ∧
      (t.rxp p).estimator = .acquisition := by
  refine ⟨_, happen_of _ _ (by simp [hl, hst, hlos]), ?_⟩
  obtain ⟨e, he⟩ := State.rxp_abortScan ((s.updRx p fun r => { r with los := false }).raise 0x0902 3 (portHa p) 0) p
  simp [he]

/-- A lane fault outside TRACKING (R78). -/
theorem exec_laneFaultDeclare_listed {k : Fin 4} (hoff : (s.rxp p).st ≠ .off) (hlos : (s.rxp p).los = false)
    (hk : k.val ∉ (s.rxp p).laneFault) (hst : (s.rxp p).st ≠ .tracking) :
    ∃ t, exec (.laneFaultDeclare p k) s = .next t ∧
      t.rxp p = { s.rxp p with laneFault := (s.rxp p).laneFault ++ [k.val] } ∧ t.hier.health = t.healthNow := by
  refine ⟨_, happen_of _ _ (by simp [hl, hoff, hlos, hk]), ?_, State.health_refreshHealth⟩
  simp [hst]

/-- A lane fault in TRACKING loses lock (R78, R95). -/
theorem exec_laneFaultDeclare_tracking {k : Fin 4} (hlos : (s.rxp p).los = false)
    (hk : k.val ∉ (s.rxp p).laneFault) (hst : (s.rxp p).st = .tracking) :
    ∃ t, exec (.laneFaultDeclare p k) s = .next t ∧ (t.rxp p).st = .acquire ∧ (t.rxp p).lol = true ∧
      t.hier.health = t.healthNow := by
  refine ⟨_, happen_of _ _ (by simp [hl, hst, hlos, hk]), ?_, ?_, State.health_refreshHealth⟩ <;> simp [hst]

theorem exec_laneFaultEnd {k : Fin 4} (hk : k.val ∈ (s.rxp p).laneFault) :
    ∃ t, exec (.laneFaultEnd p k) s = .next t ∧
      t.rxp p = { s.rxp p with laneFault := (s.rxp p).laneFault.filter (· != k.val) } ∧ t.hier.health = t.healthNow :=
  ⟨_, happen_of _ _ (by simp [hl, hk]), by simp, State.health_refreshHealth⟩

theorem exec_cdScanDone_host {best second : Int} {quality j : Nat} (he : (s.rxp p).estimator = .scan j) :
    exec (.cdScanDone p best quality second) s =
      .next ((s.updRx p fun r => { r with estimator := .free }).endJob j 0
        [mkw [(19, 0, Int.bits 20 best)], mkw [(31, 31, b2n (decide (quality < 300))), (15, 0, sat 0xFFFF quality)],
         mkw [(19, 0, Int.bits 20 second)]]) := by
  change execCdScanDone p best quality second s = _
  simp only [execCdScanDone, he]
  exact happen_of _ _ hl

/-- The scan of acquisition step 1 ends: its best trial is applied, or acquisition restarts when the scan was weak (R83, R96). -/
theorem exec_cdScanDone_acquisition {best second : Int} {quality : Nat} (he : (s.rxp p).estimator = .acquisition)
    (hst : (s.rxp p).st = .acquire) (hstep : (s.rxp p).acqStep = 1) :
    exec (.cdScanDone p best quality second) s =
      .next (if 300 ≤ quality ∧ cdOk best = true then
          (s.updRx p fun r => { r with cd := best, fade := none }).startAcq p 2 (s.rxp p).fullScan
        else s.restartAcq p) := by
  change execCdScanDone p best quality second s = _
  simp only [execCdScanDone, he]
  exact happen_of _ _ (by simp [hl, hst, hstep])

/-- The answer of ACQ_STEP_DONE by the step in hand (R96). -/
theorem exec_acqStepDone {cd : Int} (hst : (s.rxp p).st = .acquire)
    (hstep : (s.rxp p).acqStep = 1 → cdOk cd = true ∧ (s.rxp p).fullScan = false) :
    exec (.acqStepDone p cd) s =
      .next (if (s.rxp p).acqStep = 1 then
          (s.updRx p fun r => { r with cd := cd, fade := none }).startAcq p 2 (s.rxp p).fullScan
        else if (s.rxp p).acqStep < 6 then s.updRx p fun r => { r with acqStep := r.acqStep + 1 }
        else (s.enterTracking p).refreshPools) :=
  happen_of _ _ (by by_cases h : (s.rxp p).acqStep = 1 <;> simp [hl, hst, h, hstep])

theorem exec_acqBoundExpiry (hst : (s.rxp p).st = .acquire) : exec (.acqBoundExpiry p) s = .next (s.restartAcq p) :=
  happen_of _ _ (by simp [hl, hst])

theorem exec_rxXfadeEnd {f : RxFade} (hf : (s.rxp p).fade = some f) (hend : f.start + 64 ≤ (s.rxp p).next) :
    exec (.rxXfadeEnd p) s = .next (((s.updRx p fun r => { r with fade := none }).bump (rxCtr p 10) 1).raise
      0x0904 0 (portHa p) (Int.bits 20 f.new + b2n f.byTrack * 2 ^ 20)) := by
  refine (happen_of _ _ (by simp [hl, hf, hend])).trans ?_
  simp only [State.endRxFade, hf]

theorem exec_lolDeclare {k : Fin 4} (hst : (s.rxp p).st = .tracking) (hk : k.val = 1 ∨ k.val = 3) :
    exec (.lolDeclare p k) s = .next (s.loseLock p k.val).refreshPools :=
  happen_of _ _ (by simpa [State.tracking, hl, hst] using hk)

theorem exec_toleranceHold_entered {e : Fin 5} (hst : (s.rxp p).st ≠ .off) (he : e.val ≠ 0)
    (hin : e.val ∉ (s.rxp p).tolerance) :
    exec (.toleranceHold p e true) s =
      .next ((s.updRx p fun r => { r with tolerance := r.tolerance ++ [e.val] }).raise 0x0906 2 (portHa p) e.val) :=
  happen_of _ _ (by simp [hl, hst, he, hin])

theorem exec_toleranceHold_left {e : Fin 5} (hst : (s.rxp p).st ≠ .off) (he : e.val ≠ 0)
    (hin : e.val ∈ (s.rxp p).tolerance) :
    exec (.toleranceHold p e false) s =
      .next (s.updRx p fun r => { r with tolerance := r.tolerance.filter (· != e.val) }) :=
  happen_of _ _ (by simp [hl, hst, he, hin])

theorem exec_cdSetDeferredCommit {h : Held} (hf : (s.rxp p).fade = none)
    (hh : s.clerk.held.find? (fun h => h.await == some (.rxCd p)) = some h) :
    exec (.cdSetDeferredCommit p) s = .next ((s.commitCd h.cmd).answerAwait (.rxCd p) []) := by
  have hwaits : s.cdWaits p = true :=
    List.any_eq_true.mpr ⟨h, List.mem_of_find?_eq_some hh, by simpa using List.find?_some hh⟩
  refine (happen_of _ _ (by simp [hl, hwaits, hf])).trans ?_
  simp only [State.commitWaitingCd, hh]

/-! ### Residuals in TRACK mode (R82) -/

variable (hst : (s.rxp p).st = .tracking) (hmode : (s.rxp p).cdMode = 1) (hf : (s.rxp p).fade = none)
  (hw : s.cdWaits p = false)
include hst hmode hf hw

/-- With no residual kept, one is kept when it is large. -/
theorem exec_trackResidual_first {x : Int} (hr : (s.rxp p).residual = none) :
    exec (.trackResidual p x) s =
      .next (s.updRx p fun r => { r with residual := if decide (100 ≤ x.natAbs) then some x else none }) := by
  refine (happen_of _ _ (by simp [State.tracking, hl, hst, hmode])).trans ?_
  simp [hf, hw, hr]

/-- The second of two large residuals of one sign loads their mean by a cross-fade. -/
theorem exec_trackResidual_second {a x : Int} (hr : (s.rxp p).residual = some a) (hx : 100 ≤ x.natAbs) (hsign : 0 < a * x)
    (hnew : trackCd (s.rxp p).cd a x ≠ (s.rxp p).cd) :
    exec (.trackResidual p x) s = .next (s.updRx p fun r => { r with
      cd := trackCd r.cd a x, residual := none, fade := some ⟨r.next, r.cd, trackCd r.cd a x, true⟩ }) := by
  refine (happen_of _ _ (by simp [State.tracking, hl, hst, hmode])).trans ?_
  simp [State.updRx, hf, hw, hr, hx, hsign, hnew]

/-- A small residual is not kept, and neither is the one before it. -/
theorem exec_trackResidual_small {x : Int} (hx : x.natAbs < 100) :
    exec (.trackResidual p x) s = .next (s.updRx p fun r => { r with residual := none }) := by
  refine (happen_of _ _ (by simp [State.tracking, hl, hst, hmode])).trans ?_
  cases (s.rxp p).residual <;> simp [hf, hw, Nat.not_le.mpr hx]

end

/-! ### The statement -/

theorem cdOk_of_range {x : Int} (hlo : -200000 ≤ x) (hhi : x ≤ 200000) : cdOk x = true := decide_eq_true ⟨hlo, hhi⟩

theorem State.only_startAcq (s : State) (p : Port) (f : RxPort → RxPort) (step : Nat) (full : Bool) :
    s.only [.rx] ((s.updRx p f).startAcq p step full) :=
  (State.startAcq_keeps (State.updRx_keeps (Keeps.refl s))).frame

/-- Settles O39: each happening of the receiver, by the state it finds the port in. -/
theorem rxStatesFollowTheSignal : Obligations.RxStatesFollowTheSignal := by
  refine ⟨fun s p hl => ⟨exec_losDeclare hl, exec_losClear hl, fun k hoff hlos hk =>
      ⟨exec_laneFaultDeclare_listed hl hoff hlos hk, exec_laneFaultDeclare_tracking hl hlos hk⟩, fun k => exec_laneFaultEnd hl⟩,
    fun s p best second quality j hl => ⟨exec_cdScanDone_host hl, fun he hst hstep => ⟨fun hq hlo hhi => ?strongScan,
      fun hq => ?weakScan⟩⟩,
    fun s p cd hl hst => ⟨fun hstep hfull hlo hhi => ?firstStep, fun hne hlt => ?nextStep, fun hge hfaults => ?lastStep,
      ⟨_, exec_acqBoundExpiry hl hst, by simp [hst]⟩⟩,
    fun s p f hl => exec_rxXfadeEnd hl,
    fun s p x hl hst hmode hf hw => ⟨fun hr hx => ?residualKept, fun a => exec_trackResidual_second hl hst hmode hf hw,
      exec_trackResidual_small hl hst hmode hf hw⟩,
    fun s p k hl hst hk => ⟨_, exec_lolDeclare hl hst hk, by simp⟩,
    fun s p e hl hst he => ⟨exec_toleranceHold_entered hl hst he, exec_toleranceHold_left hl hst he⟩,
    fun s p h hl => exec_cdSetDeferredCommit hl⟩
  case strongScan =>
    refine ⟨_, exec_cdScanDone_acquisition hl he hst hstep, ?_⟩
    rw [if_pos ⟨hq, cdOk_of_range hlo hhi⟩]
    exact ⟨s.only_startAcq p _ _ _, by simp⟩
  case weakScan =>
    refine ⟨_, exec_cdScanDone_acquisition hl he hst hstep, ?_⟩
    rw [if_neg fun h => Nat.not_le.mpr hq h.1]
    simp
  case firstStep =>
    refine ⟨_, exec_acqStepDone hl hst fun _ => ⟨cdOk_of_range hlo hhi, hfull⟩, ?_⟩
    rw [if_pos hstep]
    exact ⟨s.only_startAcq p _ _ _, by simp⟩
  case nextStep =>
    rw [exec_acqStepDone hl hst fun h => absurd h hne, if_neg hne, if_pos hlt]
  case lastStep =>
    have hne : (s.rxp p).acqStep ≠ 1 := by omega
    refine ⟨_, exec_acqStepDone hl hst fun h => absurd h hne, ?_⟩
    rw [if_neg hne, if_neg (Nat.not_lt.mpr hge), State.rxp_refreshPools, State.rwp_refreshPools,
      State.rxp_enterTracking hfaults, State.rwp_enterTracking hfaults]
    exact ⟨rfl, rfl, rfl, rfl⟩
  case residualKept =>
    rw [exec_trackResidual_first hl hst hmode hf hw hr, if_pos (decide_eq_true hx)]

end Sys2Proof.Machine
end

section
/-!
PROOFS. Run-ahead and rewind (spec/04 R109 to R132): what a port's run-ahead machinery reads after each shared operation, a
rollback by what it finds, the answer of each happening where it can come about, and the statement about them.
-/

namespace Sys2Proof.Machine

/-! ### A port's run-ahead machinery, after what leaves it alone -/

theorem Keeps.rwp_eq {cs : List Comp} {s t : State} (h : Keeps cs s t) (hrw : .rw ∉ cs) (p : Port) : t.rwp p = s.rwp p :=
  congrArg (P2.get · p) (h.frame .rw hrw)

section
variable (s : State) (p q : Port)

@[simp] theorem State.rwp_bump (k n : Nat) : (s.bump k n).rwp p = s.rwp p := rfl
@[simp] theorem State.rwp_withFec (v : Fec) : (s.withFec v).rwp p = s.rwp p := rfl
@[simp] theorem State.rwp_withTally (v : Tally) : (s.withTally v).rwp p = s.rwp p := rfl
@[simp] theorem State.rwp_updRx (f : RxPort → RxPort) : (s.updRx q f).rwp p = s.rwp p := rfl

@[simp] theorem State.rwp_raise (code sev ha data : Nat) : (s.raise code sev ha data).rwp p = s.rwp p :=
  (State.raise_keeps (cs := [.clerk, .hier, .tally]) (Keeps.refl s)).rwp_eq (by decide) p

@[simp] theorem State.rwp_answerAwait (a : Await) (ws : List Word) : (s.answerAwait a ws).rwp p = s.rwp p :=
  (State.answerAwait_keeps (cs := [.out, .bar0, .clerk]) (Keeps.refl s)).rwp_eq (by decide) p

@[simp] theorem State.rwp_noteErasure : s.noteErasure.rwp p = s.rwp p :=
  (State.noteErasure_keeps (cs := [.clerk, .hier, .tally]) (Keeps.refl s)).rwp_eq (by decide) p

/-! ### A port's run-ahead machinery, after what changes it -/

theorem State.rwp_setRw (w : RwPort) : (s.setRw p w).rwp q = if q = p then w else s.rwp q := P2.get_set s.rw p q w

@[simp] theorem State.rwp_setRw_same (w : RwPort) : (s.setRw p w).rwp p = w := by rw [State.rwp_setRw, if_pos rfl]

/-- Erasing spans changes only the records of spans (R122). -/
theorem State.rwp_eraseSpans (ks : List Nat) : ∃ l, (s.eraseSpans p ks).rwp p = { s.rwp p with spans := l } := by
  unfold State.eraseSpans
  dsimp only
  rw [State.rwp_noteErasure, State.rwp_bump, State.rwp_withFec, State.rwp_setRw_same]
  exact ⟨_, rfl⟩

/-- Squashing pool work changes only the records of spans (R117). -/
theorem State.rwp_squash (k : Nat) : ∃ l, (s.squash p k).rwp p = { s.rwp p with spans := l } := by
  have frees (l : List Decode) (u : State) : Keeps [.tally, .fec] u
      (l.foldl (fun u d => (u.bump (fecRegionCtr d.region 2) 1).slot d.region 1 1) (l.foldl (fun u d => u.freeSlot d) u)) :=
    foldl_keeps (fun _ _ h => State.slot_keeps (State.bump_keeps h)) l
      (foldl_keeps (fun _ _ h => State.freeSlot_keeps h) l (Keeps.refl u))
  unfold State.squash
  dsimp only
  rw [State.rwp_bump, State.rwp_bump, State.rwp_withFec, (frees _ _).rwp_eq (by decide), State.rwp_setRw_same]
  exact ⟨_, rfl⟩

/-- Recomputed spans count in RECOMP_WINDOW alone (R126). -/
theorem State.rwp_addRecomputed (n : Nat) :
    ∃ l b, (s.addRecomputed p n).rwp p = { s.rwp p with recomp := l, rateHigh := b } := by
  unfold State.addRecomputed
  split
  · exact ⟨_, _, rfl⟩
  · dsimp only
    split
    · exact ⟨_, _, by rw [State.rwp_raise, State.rwp_setRw_same]⟩
    · exact ⟨_, _, by rw [State.rwp_setRw_same]⟩

/-- A replay that begins runs from its first span to E, and E is its backlog (R117). -/
theorem State.rwp_beginReplay (k : Nat) : ∃ l m b, (s.beginReplay p k).rwp p = { s.rwp p with
    spans := l, recomp := m, rateHigh := b, replay := some ⟨k, (s.rwp p).track - 1, k⟩, catchUp := false,
    backlog := (s.rwp p).track - 1 + 1 - k } := by
  obtain ⟨l, hl⟩ := s.rwp_squash p k
  unfold State.beginReplay
  dsimp only
  obtain ⟨m, b, hadd⟩ := State.rwp_addRecomputed _ p _
  refine ⟨l, m, b, hadd.trans ?_⟩
  rw [State.rwp_withTally, State.rwp_setRw_same, hl]

/-- Committing the waiting settings of a port changes only SPEC and the contradiction threshold (R131). -/
theorem State.spans_commitBoundary : ((s.commitBoundary q).rwp p).spans = (s.rwp p).spans := by
  have commitRw (u : State) (c : Cmd) : ((u.commitRw c).rwp p).spans = (u.rwp p).spans := by
    rw [State.commitRw, State.rwp_setRw]
    split
    case isTrue h => rw [h]
    case isFalse => rfl
  refine List.foldlRecOn (motive := fun u : State => (u.rwp p).spans = (s.rwp p).spans) _ _ rfl fun u hu h _ => ?_
  split
  · rw [State.rwp_answerAwait, commitRw, hu]
  · split
    · rw [State.rwp_answerAwait]
      exact hu
    · exact hu

end

/-! ### Rollbacks, by what they find (R117, R120, R123) -/

/-- A checkpoint that reads clean and whose replay is possible is itself the one restored. -/
theorem cleanCheckpoint_of_clean {newest target : Nat} {bad : List Nat} (hbad : target ∉ bad) (hn : newest ≤ target + 475) :
    cleanCheckpoint newest target bad = some target := by
  rw [cleanCheckpoint, List.range_succ_eq_map, List.map_cons]
  exact List.find?_cons_of_pos (by simpa using ⟨hbad, hn⟩)

section
variable {s : State} {p : Port} {k target : Nat} {bad : List Nat}

theorem State.rollback_of_clean (hr : (s.rwp p).replay = none) (hbad : target ∉ bad)
    (hn : (s.rxp p).next - 1 ≤ target + 475) :
    s.rollback p (some k) target bad false = (s.bump (rwCtr p k) 1).beginReplay p target := by
  simp [State.rollback, hr, Nat.not_lt.mpr hn, cleanCheckpoint_of_clean hbad hn]

theorem State.rollback_of_older {lost : Bool} {r : Replay} (hr : (s.rwp p).replay = some r) (hstart : r.start ≤ target) :
    s.rollback p (some k) target bad lost = (s.bump (rwCtr p k) 1).bump (rwCtr p 4) 1 := by
  simp [State.rollback, hr, hstart]

/-- With its samples lost, what is no contradiction erases its span. -/
theorem State.rollback_of_lost (hr : (s.rwp p).replay = none) (hk : k ≠ 0) :
    s.rollback p (some k) target bad true = (s.bump (rwCtr p k) 1).eraseSpan p target 3 := by
  simp [State.rollback, State.unreplayable, hr, hk]

/-- What a rollback to a clean checkpoint leaves: a replay to E, which tracking has reached. -/
theorem State.replay_rollback_of_clean {w : RwPort} (hw : s.rwp p = w) (hr : w.replay = none) (hbad : target ∉ bad)
    (hn : (s.rxp p).next - 1 ≤ target + 475) (ht : target < w.track) :
    ((s.rollback p (some k) target bad false).rwp p).replay = some ⟨target, w.track - 1, target⟩ ∧
    ((s.rollback p (some k) target bad false).rwp p).catchUp = false ∧
    ((s.rollback p (some k) target bad false).rwp p).backlog = w.track - target ∧
    ((s.rollback p (some k) target bad false).rwp p).track = w.track := by
  subst hw
  obtain ⟨l, m, b, hreplay⟩ := State.rwp_beginReplay (s.bump (rwCtr p k) 1) p target
  rw [State.rollback_of_clean hr hbad hn, hreplay, State.rwp_bump, Nat.sub_add_cancel (Nat.one_le_of_lt ht)]
  exact ⟨rfl, rfl, rfl, rfl⟩

end

/-! ### The framer's state -/

theorem Keeps.lp_eq {cs : List Comp} {s t : State} (h : Keeps cs s t) (hloom : .loom ∉ cs) (p : Port) : t.lp p = s.lp p :=
  congrArg (fun l : Loom => l.ports.get p) (h.frame .loom hloom)

section
variable (s : State) (p : Port)

@[simp] theorem State.lp_updLp_same (f : LoomPort → LoomPort) : (s.updLp p f).lp p = f (s.lp p) :=
  (P2.get_set s.loom.ports p p _).trans (if_pos rfl)

@[simp] theorem State.lp_raise (code sev ha data : Nat) : (s.raise code sev ha data).lp p = s.lp p :=
  (State.raise_keeps (cs := [.clerk, .hier, .tally]) (Keeps.refl s)).lp_eq (by decide) p

@[simp] theorem State.lp_moveBolt (b new cause : Nat) : (s.moveBolt b new cause).lp p = s.lp p := by
  unfold State.moveBolt
  dsimp only
  split
  · rfl
  · rw [(State.refreshDelin_keeps (cs := [.clerk, .hier, .tally, .flow]) (Keeps.refl _)).lp_eq (by decide), State.lp_raise]
    rfl

/-- Bolts that go DOWN leave the framers alone (R236). -/
@[simp] theorem State.lp_downBolts : s.downBolts.lp p = s.lp p := by
  refine List.foldlRecOn (motive := fun u : State => u.lp p = s.lp p) _ _ rfl fun u hu e _ => ?_
  split
  · exact hu
  · split
    · rw [State.lp_moveBolt, hu]
    · split
      · rw [State.lp_moveBolt, hu]
      · exact hu

/-- A framer that is moved is in its new state. -/
theorem State.st_moveFramer (new : FrSt) (cause : Nat) : ((s.moveFramer p new cause).lp p).st = new := by
  unfold State.moveFramer
  dsimp only
  split
  · assumption
  · split <;> simp

end

/-! ### RX_SPAN_FORMED in parts -/

/-- A receiver with its next span formed: the RMS values and the clipped samples of its converters (R76). -/
def RxPort.formSpan (rms clipped : List Nat) (r : RxPort) : RxPort :=
  { r with next := r.next + 1, rms := (rms ++ [0, 0, 0, 0]).take 4,
           clips := (r.clips.filter fun e => decide (r.next < e.1 + 65536)) ++
             if clipped.all (· == 0) then [] else [(r.next, clipped)] }

/-- A port's next span is formed and counted, and so are its clipped samples (R105). -/
def State.formSpan (p : Port) (rms clipped : List Nat) (s : State) : State :=
  (List.range 4).foldl (fun s j => s.bump (rxCtr p (3 + j)) (clipped.getD j 0))
    ((s.updRx p (RxPort.formSpan rms clipped)).bump (rxCtr p 0) 1)

/-- A span formed in TRACKING gets a record, one formed elsewhere is discarded (R91, R110, R126). -/
def State.recordSpan (p : Port) (k : Nat) (tracking : Bool) (s : State) : State :=
  let w := s.rwp p
  let recomp := recentRecomp (k + 1) w.recomp
  if tracking then
    s.setRw p { w with spans := w.spans ++ [{ idx := k }], recomp := recomp,
                       rateHigh := w.rateHigh && decide (1048 < (recomp.map (·.2)).sum) }
  else (s.bump (rxCtr p 2) 1).slot (0x12 + p.val) 1 1

/-- A span that forms may be tagged; its first stage ends and its second begins (R507, R508). -/
def State.tagSpan (p : Port) (k : Nat) (draw : Bool) (s : State) : State :=
  ((s.tagForm p 0 k draw).tagExit p 0 k 0).tagEnter p 0 k 1

section
variable (s : State) (p : Port) (k : Nat) (b : Bool) (rms clipped : List Nat)

theorem State.formSpan_keeps : Keeps [.tally] (s.updRx p (RxPort.formSpan rms clipped)) (s.formSpan p rms clipped) :=
  foldl_keeps (fun _ _ h => State.bump_keeps h) _ (State.bump_keeps (Keeps.refl _))

theorem State.rwp_formSpan : (s.formSpan p rms clipped).rwp p = s.rwp p :=
  (s.formSpan_keeps p rms clipped).rwp_eq (by decide) p

theorem State.rxp_formSpan : (s.formSpan p rms clipped).rxp p = (s.rxp p).formSpan rms clipped :=
  ((s.formSpan_keeps p rms clipped).rxp_eq (by decide) p).trans (State.rxp_updRx_same _ _ _)

theorem State.spans_recordSpan :
    ((s.recordSpan p k b).rwp p).spans = (s.rwp p).spans ++ if b = true then [{ idx := k }] else [] := by
  cases b with
  | true => exact congrArg RwPort.spans (s.rwp_setRw_same p _)
  | false => exact (List.append_nil _).symm

theorem State.rxp_recordSpan : (s.recordSpan p k b).rxp p = s.rxp p := by
  cases b <;> rfl

/-- Tags, clip events and waiting settings leave the receiver and the records of spans alone. -/
theorem State.boundary_reads :
    (((s.tagSpan p k b).checkClips p k).commitBoundary p).rxp p = s.rxp p ∧
    ((((s.tagSpan p k b).checkClips p k).commitBoundary p).rwp p).spans = (s.rwp p).spans := by
  have hkeeps : Keeps [.clerk, .hier, .tally] s ((s.tagSpan p k b).checkClips p k) :=
    State.checkClips_keeps (State.tagEnter_keeps (State.tagExit_keeps (State.tagForm_keeps (Keeps.refl s))))
  constructor
  · rw [(State.commitBoundary_keeps (cs := [.out, .bar0, .clerk, .rw, .fec]) (Keeps.refl _)).rxp_eq (by decide),
      hkeeps.rxp_eq (by decide)]
  · rw [State.spans_commitBoundary, hkeeps.rwp_eq (by decide)]

end

/-! ### SPAN_HANDOFF in parts -/

/-- Tracking has reached span `k`: the provisional decisions it consumes, its hand-off, the peak of the run-ahead. -/
def RwPort.handOff (k : Nat) (w : RwPort) : RwPort :=
  let w2 := (w.consume k).updSpan k fun r => { r with handed := true }
  { w2 with peak := max w2.peak w2.runAhead }

theorem RwPort.handOff_eq (k : Nat) (w : RwPort) : ∃ l n, w.handOff k = { w with spans := l, peak := n } := by
  unfold RwPort.handOff RwPort.consume
  split <;> exact ⟨_, _, rfl⟩

/-- A span handed off is held for the pool, unless its decisions stand. -/
def State.holdForPool (p : Port) (h : HeldSpan) (stands : Bool) (s : State) : State :=
  let u := if stands then s else (s.withFec { s.fec with held := s.fec.held ++ [h] }).bump (rxCtr p 1) 1
  (u.tagExit p 0 h.span 1).makeReady p (h.span - 1) false

theorem State.holdForPool_keeps (p : Port) (h : HeldSpan) (stands : Bool) (s : State) :
    Keeps [.tally, .fec] s (s.holdForPool p h stands) :=
  State.makeReady_keeps (State.tagExit_keeps
    (Keeps.ite (fun _ => Keeps.refl s) fun _ => State.bump_keeps (withFec_keeps (Keeps.refl s))))

theorem State.strikeInjection_of_none {p : Port} {k : Nat} {s : State} (h : (s.rwp p).inject = none) :
    s.strikeInjection p k = s := by
  simp [State.strikeInjection, h]

/-- The pool is done with a span that was decided well or erased, and with one that has no record (R118). -/
def RwPort.stands (k : Nat) (w : RwPort) : Bool :=
  match w.find k with
  | some r => r.decided == some true || r.erased
  | none => true

/-- SPAN_HANDOFF of span `k` by a port whose machinery has advanced to `w`, for a first pass or a replay. -/
def State.handOff (p : Port) (k : Nat) (w : RwPort) (est : RxEst) (again : Bool) (s : State) : State :=
  (((s.setRw p (w.handOff k)).updRx p fun r => { r with est := est }).holdForPool p { port := p, span := k, again := again }
    ((s.rwp p).stands k)).strikeInjection p k

section
variable {s : State} {p : Port} {k : Nat} {w : RwPort} {est : RxEst} {again : Bool}

theorem State.handOff_of_none (hi : w.inject = none) :
    s.handOff p k w est again =
      ((s.setRw p (w.handOff k)).updRx p fun r => { r with est := est }).holdForPool p
        { port := p, span := k, again := again } ((s.rwp p).stands k) := by
  obtain ⟨l, n, hw⟩ := w.handOff_eq k
  refine State.strikeInjection_of_none ?_
  rw [(State.holdForPool_keeps _ _ _ _).rwp_eq (by decide), State.rwp_updRx, State.rwp_setRw_same, hw, hi]

/-- With no injection armed, a hand-off leaves the port where tracking has advanced to. -/
theorem State.rwp_handOff (hi : w.inject = none) :
    ∃ l n, (s.handOff p k w est again).rwp p = { w with spans := l, peak := n } := by
  rw [State.handOff_of_none hi, (State.holdForPool_keeps _ _ _ _).rwp_eq (by decide), State.rwp_updRx, State.rwp_setRw_same]
  exact w.handOff_eq k

theorem State.est_handOff (hi : w.inject = none) : ((s.handOff p k w est again).rxp p).est = est := by
  rw [State.handOff_of_none hi, (State.holdForPool_keeps _ _ _ _).rxp_eq (by decide), State.rxp_updRx_same]

end

/-! ### SPAN_FINAL in parts -/

/-- F advances, and the record of the span that became final is dropped (R108). -/
def RwPort.advance (w : RwPort) : RwPort :=
  { w with fin := w.fin + 1, spans := w.spans.filter fun x => x.idx != w.fin }

theorem RwPort.find_advance (w : RwPort) : w.advance.find w.fin = none := by
  rw [RwPort.find, RwPort.advance, List.find?_eq_none]
  intro x hx
  simpa using (List.mem_filter.mp hx).2

/-- A span's payload is released: its last stages end and its tag is closed (R506, R508, R509). -/
def State.releaseSpan (p : Port) (r : SpanRec) (s : State) : State :=
  ((((s.slot (0x12 + p.val) 0 1).tagExit p 0 r.idx 4).tagEnter p 0 r.idx 5).tagExit p 0 r.idx 5).tagClose p 0 r.idx r.erased
    false

/-- The first span released takes the framer to SEARCH (R223). -/
def State.startFramer (p : Port) (s : State) : State := if (s.lp p).st = .off then s.moveFramer p .search 0 else s

section
variable (s : State) (p : Port) (r : SpanRec)

theorem State.releaseSpan_keeps : Keeps [.tally] s (s.releaseSpan p r) :=
  State.tagClose_keeps (State.tagExit_keeps (State.tagEnter_keeps (State.tagExit_keeps (State.slot_keeps (Keeps.refl s)))))

theorem State.rwp_startFramer : (s.startFramer p).rwp p = s.rwp p := by
  have hkeeps : Keeps [.clerk, .hier, .tally, .loom, .flow] s (s.startFramer p) :=
    Keeps.ite (fun _ => State.moveFramer_keeps (Keeps.refl s)) fun _ => Keeps.refl s
  exact hkeeps.rwp_eq (by decide) p

theorem State.st_startFramer (h : (s.lp p).st = .off) : ((s.startFramer p).lp p).st = .search := by
  rw [State.startFramer, if_pos h, State.st_moveFramer]

end

/-! ### The commands, executed (R131, R132) -/

theorem commit_of_wait {op : OpDef} {c : Cmd} {s u : State} {a : Await} (h : op.effect c s = (.wait a, u)) :
    commit op c s = u.waiting c op.code a := by
  simp [commit, h, State.waiting]

/-- A packet that is executed and whose effect waits is kept in hand on the state the effect leaves. -/
theorem exec_of_wait {i : Instr} {op : OpDef} {c : Cmd} {s u : State} {a : Await} (hi : packetOf i = some (op, c))
    (hp : op.passes c s) (he : op.effect c s = (.wait a, u)) : exec i s = .next (u.waiting c op.code a) := by
  rw [exec_of_packetOf hi, serve_of_passes hp, commit_of_wait he]

section
variable {c : Cmd} {s : State}

theorem exec_lineRwConfig_off (hp : lineRwConfigOp.passes c s) (hst : (s.rxp c.port).st = .off) :
    exec (.lineRwConfig c) s = .next ((s.commitRw c).answered c 0x0930 0 []) :=
  exec_of_ok (op := lineRwConfigOp) rfl hp (if_pos hst)

theorem exec_lineRwConfig_waits (hp : lineRwConfigOp.passes c s) (hst : (s.rxp c.port).st ≠ .off) :
    exec (.lineRwConfig c) s = .next (s.waiting c 0x0930 (.rwConfig c.port)) :=
  exec_of_wait (op := lineRwConfigOp) rfl hp (if_neg hst)

theorem exec_lineRwInject (hp : lineRwInjectOp.passes c s) :
    exec (.lineRwInject c) s = .next ((s.setRw c.port { s.rwp c.port with
      inject := some ((c.p 0).fld 31 30, (c.p 0).fld 21 16) }).answered c 0x0933 0 []) :=
  exec_of_ok (op := lineRwInjectOp) rfl hp rfl

end

/-! ### The happenings, where they can come about -/

section
variable {s : State} {p : Port} (hl : s.live = true)
include hl

/-- A span forms, and in TRACKING it gets a record (R110). -/
theorem exec_rxSpanFormed {rms clipped : List Nat} (hst : (s.rxp p).st ≠ .off) :
    exec (.rxSpanFormed p rms clipped) s = .next
      (((((s.formSpan p rms clipped).recordSpan p (s.rxp p).next (s.tracking p)).tagSpan p (s.rxp p).next
        (s.tracking p)).checkClips p (s.rxp p).next).commitBoundary p) :=
  happen_of _ _ (by simp [hl, hst])

theorem exec_provisionalArrive {k : Nat} {r : SpanRec} (hst : (s.rxp p).st = .tracking) (hk : (s.rwp p).find k = some r)
    (hh : r.handed = true) (hd : r.decided = none) :
    exec (.provisionalArrive p k) s = .next (s.setRw p ((s.rwp p).updSpan k fun r => { r with provisional := true })) :=
  happen_of _ _ (by simp [State.tracking, hl, hst, hk, hh, hd])

theorem exec_replayEnd {r : Replay} (hr : (s.rwp p).replay = some r) (hend : r.stop < r.front) :
    exec (.replayEnd p) s = .next (s.setRw p { s.rwp p with replay := none, catchUp := true }) :=
  happen_of _ _ (by simp [hl, hr, hend])

theorem exec_catchupEnd (hc : (s.rwp p).catchUp = true) :
    exec (.catchupEnd p) s = .next (s.setRw p { s.rwp p with catchUp := false, backlog := 0 }) :=
  happen_of _ _ (by simp [hl, hc])

theorem exec_erasureSecondExpiry (he : s.hier.erasure = true) :
    exec .erasureSecondExpiry s = .next (s.withHier { s.hier with erasure := false }).refreshHealth :=
  happen_of _ _ (by simp [hl, he])

variable (hst : (s.rxp p).st = .tracking)
include hst

/-- SPAN_HANDOFF reaches the newest span that is not tracked (R89). -/
theorem exec_spanHandoff_newest {est : RxEst} (hr : (s.rwp p).replay = none) (ht : (s.rwp p).track < (s.rxp p).next) :
    exec (.spanHandoff p est) s = .next
      (s.handOff p (s.rwp p).track { s.rwp p with track := (s.rwp p).track + 1 } est false) := by
  change execSpanHandoff p est s = _
  simp only [execSpanHandoff, hr]
  exact happen_of _ _ (by simp [State.tracking, hl, hst, ht])

/-- SPAN_HANDOFF reaches the front of a replay (R117). -/
theorem exec_spanHandoff_replay {est : RxEst} {r : Replay} (hr : (s.rwp p).replay = some r) (hfront : r.front ≤ r.stop) :
    exec (.spanHandoff p est) s = .next
      (s.handOff p r.front { s.rwp p with replay := some { r with front := r.front + 1 } } est true) := by
  change execSpanHandoff p est s = _
  simp only [execSpanHandoff, hr]
  exact happen_of _ _ (by simp [State.tracking, hl, hst, hfront])

section
variable {k differing pilots : Nat} {bad : List Nat} {lost : Bool} {r : SpanRec} (hk : (s.rwp p).find k = some r)
  (hd : r.decided.isSome = true) (hc : r.checked = false) (hi : (s.rwp p).inject = none)
include hk hd hc hi

/-- The final decisions of a span that no span consumed, or that differ too little (R114). -/
theorem exec_finalDecisionsArrive_agree
    (h : r.consumer = none ∨ r.erased = true ∨ differing ≤ (s.rwp p).contra) :
    exec (.finalDecisionsArrive p k differing pilots bad lost) s =
      .next ((s.setRw p ((s.rwp p).updSpan k fun r => { r with checked := true })).bump (rxCtr p 11) pilots) := by
  change execFinalDecisionsArrive p k differing pilots bad lost s = _
  simp only [execFinalDecisionsArrive, hk]
  refine (happen_of _ _ (by simp [State.tracking, hl, hst, hd, hc])).trans ?_
  cases hcons : r.consumer with
  | none => rfl
  | some e =>
    cases he : r.erased with
    | true => rfl
    | false =>
      have hle : differing ≤ (s.rwp p).contra := by simpa [hcons, he] using h
      simp [hi, RwPort.updSpan, Nat.not_lt.mpr hle]

/-- A contradiction is rolled back to the first consumer (R115). -/
theorem exec_finalDecisionsArrive_contradict {e : Nat} (he : r.erased = false) (hcons : r.consumer = some e)
    (hdiff : (s.rwp p).contra < differing) :
    exec (.finalDecisionsArrive p k differing pilots bad lost) s =
      .next (((s.setRw p ((s.rwp p).updSpan k fun r => { r with checked := true })).bump (rxCtr p 11) pilots).rollback p
        (some 0) e bad lost) := by
  change execFinalDecisionsArrive p k differing pilots bad lost s = _
  simp only [execFinalDecisionsArrive, hk]
  refine (happen_of _ _ (by simp [State.tracking, hl, hst, hd, hc])).trans ?_
  simp [hcons, he, hi, RwPort.updSpan, hdiff]

end

theorem exec_cycleSlip {first : Nat} {bad : List Nat} {lost : Bool} (ht : first < (s.rwp p).track) :
    exec (.cycleSlip p first bad lost) s = .next ((s.bump (rxCtr p 7) 1).rollback p (some 1) first bad lost) :=
  happen_of _ _ (by simp [State.tracking, hl, hst, ht])

/-- A replay whose front falls too far behind is given up (R121). -/
theorem exec_replayOverrun {r : Replay} (hr : (s.rwp p).replay = some r) (hfar : r.front + 475 < (s.rxp p).next - 1) :
    ∃ t, exec (.replayOverrun p) s = .next t ∧ ∃ l, t.rwp p = { s.rwp p with
      replay := none, catchUp := false, backlog := 0, track := (s.rxp p).next - 1 - 36, spans := l } := by
  change ∃ t, execReplayOverrun p s = .next t ∧ _
  simp only [execReplayOverrun, hr]
  refine ⟨_, happen_of _ _ (by simp [State.tracking, hl, hst, hfar]), ?_⟩
  rw [State.rwp_raise, State.rwp_bump]
  refine (State.rwp_eraseSpans _ p _).imp fun l hw => hw.trans ?_
  rw [State.rwp_setRw_same]

/-- The oldest span that is not final is released (R108). -/
theorem exec_spanFinal {r : SpanRec} (hk : (s.rwp p).find (s.rwp p).fin = some r) (hd : r.decided.isSome = true)
    (hc : r.checked = true) (hr : (s.rwp p).replay = none) :
    exec (.spanFinal p) s = .next (((s.setRw p (s.rwp p).advance).releaseSpan p r).startFramer p) := by
  change execSpanFinal p s = _
  simp only [execSpanFinal, hk]
  exact happen_of _ _ (by simp [State.tracking, hl, hst, hd, hc, hr])

theorem exec_rwRateRepeat (hr : (s.rwp p).rateHigh = true) (hn : 1048 < (s.rwp p).recompCount) :
    exec (.rwRateRepeat p) s = .next (s.raise 0x0930 2 (portHa p) (sat 0xFFFF (s.rwp p).recompCount)) :=
  happen_of _ _ (by simp [State.tracking, hl, hst, hr, hn])

end

/-! ### The statement -/

/-- Settles O40: each command and happening by what it finds of the port. -/
theorem rewindActs : Obligations.RewindActs := by
  refine ⟨fun c s hp => ⟨exec_lineRwConfig_off hp, exec_lineRwConfig_waits hp⟩, fun c s hp => exec_lineRwInject hp,
    fun s p rms clipped hl hst => ⟨_, exec_rxSpanFormed hl hst, ?formed⟩,
    fun s p est hl hst hi hr ht => ⟨_, exec_spanHandoff_newest hl hst hr ht, ?newest⟩,
    fun s p est r hl hst hi hr hfront => ⟨_, exec_spanHandoff_replay hl hst hr hfront, ?replayed⟩,
    fun s p k r hl hst hk hh hd => exec_provisionalArrive hl hst hk hh hd,
    fun s p k differing pilots bad lost r hl hst hk hd hc hi => exec_finalDecisionsArrive_agree hl hst hk hd hc hi,
    fun s p k e differing pilots bad r hl hst hk hd hc he hi hr hcons hdiff ht hbad hn =>
      ⟨_, exec_finalDecisionsArrive_contradict hl hst hk hd hc hi he hcons hdiff, ?contradiction⟩,
    fun s p first bad lost hl hst ht => ?slip,
    fun s p hl => ⟨fun r => exec_replayEnd hl, exec_catchupEnd hl, fun r hr hst hfar => ?overrun,
      fun hst => exec_rwRateRepeat hl hst, fun r hk hst hd hc hr => ⟨_, exec_spanFinal hl hst hk hd hc hr, ?final⟩,
      fun he => ⟨_, exec_erasureSecondExpiry hl he, ?expiry, State.health_refreshHealth⟩⟩⟩
  case formed =>
    obtain ⟨hrx, hspans⟩ := State.boundary_reads ((s.formSpan p rms clipped).recordSpan p (s.rxp p).next (s.tracking p)) p
      (s.rxp p).next (s.tracking p)
    rw [hrx, hspans, State.rxp_recordSpan, State.rxp_formSpan, State.spans_recordSpan, State.rwp_formSpan, State.tracking]
    exact ⟨rfl, rfl, rfl, congrArg _ (ite_of_iff decide_eq_true_iff _ _)⟩
  case newest =>
    obtain ⟨l, n, hw⟩ := State.rwp_handOff (s := s) (p := p) (k := (s.rwp p).track)
      (w := { s.rwp p with track := (s.rwp p).track + 1 }) (est := est) (again := false) hi
    rw [hw]
    exact ⟨rfl, rfl, State.est_handOff hi⟩
  case replayed =>
    obtain ⟨l, n, hw⟩ := State.rwp_handOff (s := s) (p := p) (k := r.front)
      (w := { s.rwp p with replay := some { r with front := r.front + 1 } }) (est := est) (again := true) hi
    rw [hw]
    exact ⟨rfl, rfl⟩
  case contradiction =>
    exact State.replay_rollback_of_clean (w := (s.rwp p).updSpan k fun r => { r with checked := true })
      (State.rwp_setRw_same _ _ _) hr hbad hn ht
  case slip =>
    have hslip := exec_cycleSlip (bad := bad) (lost := lost) hl hst ht
    refine ⟨fun hr hlost hbad hn => ⟨_, hslip, ?_⟩, fun r hr hstart => ?_, fun hr hlost => ?_⟩
    · obtain ⟨hreplay, -, hbacklog, -⟩ :=
        State.replay_rollback_of_clean (s := s.bump (rxCtr p 7) 1) (k := 1) rfl hr hbad hn ht
      rw [hlost]
      exact ⟨hreplay, hbacklog⟩
    · rw [hslip, State.rollback_of_older (s := s.bump (rxCtr p 7) 1) hr hstart]
    · rw [hslip, hlost, State.rollback_of_lost (s := s.bump (rxCtr p 7) 1) hr Nat.one_ne_zero]
  case overrun =>
    obtain ⟨t, hexec, l, hw⟩ := exec_replayOverrun hl hst hr hfar
    exact ⟨t, hexec, by rw [hw], by rw [hw], by rw [hw]⟩
  case final =>
    have hkeeps := (s.setRw p (s.rwp p).advance).releaseSpan_keeps p r
    have hlp := hkeeps.lp_eq (by decide) p
    rw [State.rwp_startFramer, hkeeps.rwp_eq (by decide), State.rwp_setRw_same]
    exact ⟨rfl, (s.rwp p).find_advance, fun hoff => State.st_startFramer _ _ ((congrArg LoomPort.st hlp).trans hoff)⟩
  case expiry =>
    rw [State.refreshHealth_hier]
    rfl

end Sys2Proof.Machine
end

section
/-!
PROOFS. The decoder pool (spec/06 R166 to R187): what the pool reads after each shared operation, the best of a list, a decode
dealt, counted, completed and moved, the answer of each happening where it can come about, and the statement about them.
-/

set_option Elab.async false

namespace Sys2Proof.Machine

/-! ### The pool, after what leaves it alone -/

theorem Keeps.fec_eq {cs : List Comp} {s t : State} (h : Keeps cs s t) (hfec : .fec ∉ cs) : t.fec = s.fec :=
  h.frame .fec hfec

section
variable (s : State) (p : Port)

@[simp] theorem State.fec_bump (k n : Nat) : (s.bump k n).fec = s.fec := rfl
@[simp] theorem State.fec_slot (r j n : Nat) : (s.slot r j n).fec = s.fec := rfl
@[simp] theorem State.fec_setRw (w : RwPort) : (s.setRw p w).fec = s.fec := rfl

@[simp] theorem State.fec_tagEnter (d k stage : Nat) : (s.tagEnter p d k stage).fec = s.fec :=
  (State.tagEnter_keeps (cs := [.tally]) (Keeps.refl s)).fec_eq (by decide)

@[simp] theorem State.fec_tagExit (d k stage : Nat) : (s.tagExit p d k stage).fec = s.fec :=
  (State.tagExit_keeps (cs := [.tally]) (Keeps.refl s)).fec_eq (by decide)

@[simp] theorem State.fec_noteDecode (ok : Bool) : (s.noteDecode p ok).fec = s.fec :=
  (State.noteDecode_keeps (cs := [.ra]) (Keeps.refl s)).fec_eq (by decide)

@[simp] theorem State.fec_raise (code sev ha data : Nat) : (s.raise code sev ha data).fec = s.fec :=
  (State.raise_keeps (cs := [.clerk, .hier, .tally]) (Keeps.refl s)).fec_eq (by decide)

@[simp] theorem State.fec_noteErasure : s.noteErasure.fec = s.fec :=
  (State.noteErasure_keeps (cs := [.clerk, .hier, .tally]) (Keeps.refl s)).fec_eq (by decide)

/-! ### A port's records of spans, after what a decode does beside them -/

@[simp] theorem State.rwp_slot (r j n : Nat) : (s.slot r j n).rwp p = s.rwp p := rfl
@[simp] theorem State.rwp_setFecp (q : Port) (f : FecPort) : (s.setFecp q f).rwp p = s.rwp p := rfl
@[simp] theorem State.rwp_fecAcc (q : Port) (k n : Nat) : (s.fecAcc q k n).rwp p = s.rwp p := rfl
@[simp] theorem State.rwp_dropDecode (q : Port) (k : Nat) : (s.dropDecode q k).rwp p = s.rwp p := rfl
@[simp] theorem State.rwp_freeSlot (d : Decode) : (s.freeSlot d).rwp p = s.rwp p := rfl

@[simp] theorem State.rwp_tagEnter (q : Port) (d k stage : Nat) : (s.tagEnter q d k stage).rwp p = s.rwp p :=
  (State.tagEnter_keeps (cs := [.tally]) (Keeps.refl s)).rwp_eq (by decide) p

@[simp] theorem State.rwp_tagExit (q : Port) (d k stage : Nat) : (s.tagExit q d k stage).rwp p = s.rwp p :=
  (State.tagExit_keeps (cs := [.tally]) (Keeps.refl s)).rwp_eq (by decide) p

@[simp] theorem State.rwp_noteDecode (q : Port) (ok : Bool) : (s.noteDecode q ok).rwp p = s.rwp p :=
  (State.noteDecode_keeps (cs := [.ra]) (Keeps.refl s)).rwp_eq (by decide) p

/-! ### The decodes that run, after what a decode's end does beside them -/

@[simp] theorem State.running_setFecp (f : FecPort) : (s.setFecp p f).fec.running = s.fec.running := rfl
@[simp] theorem State.running_fecAcc (k n : Nat) : (s.fecAcc p k n).fec.running = s.fec.running := rfl
@[simp] theorem State.running_freeSlot (d : Decode) : (s.freeSlot d).fec.running = s.fec.running := rfl

@[simp] theorem State.running_dropDecode (k : Nat) :
    (s.dropDecode p k).fec.running = s.fec.running.filter fun e => !(e.port == p && e.span == k) := rfl

end

/-! ### A running decode, found and dropped -/

section
variable {s t : State} {p : Port} {k : Nat} {d : Decode}

theorem State.port_span_of_findDecode (h : s.findDecode p k = some d) : d.port = p ∧ d.span = k := by
  simpa using List.find?_some h

/-- A span runs no decode once its decode is dropped. -/
theorem State.findDecode_of_dropped
    (h : t.fec.running = s.fec.running.filter fun e => !(e.port == p && e.span == k)) : t.findDecode p k = none := by
  rw [State.findDecode, h, List.find?_eq_none]
  intro e he
  simpa only [Bool.not_eq_true, Bool.not_eq_true'] using (List.mem_filter.mp he).2

end

/-! ### A decode that completes (R170, R182) -/

section
variable {s : State} {d : Decode} {passed : Bool} {corrected bits : Nat}

theorem State.running_completeDecode : (s.completeDecode d passed corrected bits).fec.running =
    s.fec.running.filter fun e => !(e.port == d.port && e.span == d.span) := by
  cases passed <;> simp [State.completeDecode]

/-- The outcome of a decode stands in the record of its span, and a port's records change in nothing else. -/
theorem State.rwp_completeDecode : (s.completeDecode d passed corrected bits).rwp d.port =
    (s.rwp d.port).updSpan d.span fun r => { r with decided := some passed } := by
  cases passed <;> simp [State.completeDecode]

theorem State.findDecode_completeDecode : (s.completeDecode d passed corrected bits).findDecode d.port d.span = none :=
  State.findDecode_of_dropped State.running_completeDecode

theorem State.findDecode_giveUp : (s.giveUp d).findDecode d.port d.span = none :=
  State.findDecode_of_dropped (s := s)
    (by rw [State.giveUp, State.fec_noteErasure, State.fec_raise, State.running_completeDecode])

theorem State.rwp_giveUp :
    (s.giveUp d).rwp d.port = (s.rwp d.port).updSpan d.span fun r => { r with decided := some false } := by
  rw [State.giveUp, State.rwp_noteErasure, State.rwp_raise, State.rwp_completeDecode]

theorem State.erasure_noteErasure : s.noteErasure.hier.erasure = true := by
  rw [State.noteErasure, State.refreshHealth_hier]
  rfl

end

/-! ### The dealing rule (R176) -/

theorem bestBy_eq_none {f : Nat → Nat} {l : List Nat} (h : bestBy f l = none) : l = [] := by
  cases l with
  | nil => rfl
  | cons x l =>
    unfold bestBy at h
    split at h
    · cases h
    · split at h <;> cases h

/-- What `bestBy` finds stands in the list, and nothing of the list measures more. -/
theorem bestBy_spec {f : Nat → Nat} {l : List Nat} {r : Nat} (h : bestBy f l = some r) : r ∈ l ∧ ∀ q ∈ l, f q ≤ f r := by
  induction l generalizing r with
  | nil => cases h
  | cons x l ih =>
    cases hbest : bestBy f l with
    | none =>
      have hr : x = r := by simpa [bestBy, hbest] using h
      simp [bestBy_eq_none hbest, hr]
    | some y =>
      obtain ⟨hmem, hmax⟩ := ih hbest
      have hr : (if f x < f y then y else x) = r := by simpa [bestBy, hbest, ← apply_ite some] using h
      subst hr
      rw [List.forall_mem_cons]
      split
      case isTrue hlt => exact ⟨List.mem_cons_of_mem x hmem, Nat.le_of_lt hlt, hmax⟩
      case isFalse hle => exact ⟨List.mem_cons_self, Nat.le_refl _, fun q hq => Nat.le_trans (hmax q hq) (Nat.not_lt.mp hle)⟩

section
variable {s : State}

/-- A span that was not moved goes to the best of all working regions with a free slot. -/
theorem State.dealRegion_none : s.dealRegion none = bestBy s.freeSlots s.dealOrder := by
  have hall : (s.dealOrder.filter fun r => (none : Option Nat) != some r) = s.dealOrder :=
    List.filter_eq_self.mpr fun _ _ => rfl
  cases hbest : bestBy s.freeSlots s.dealOrder <;> simp [State.dealRegion, hall, hbest]

theorem State.mem_dealOrder {r : Nat} :
    r ∈ s.dealOrder ↔ r ∈ s.fec.dealt ∧ (s.region r).poolRole = 0 ∧ 0 < s.freeSlots r := by
  simp [State.dealOrder]

/-- The region dealt to works, has a free slot, and no working region has more. -/
theorem State.dealRegion_none_spec {r : Nat} (h : s.dealRegion none = some r) :
    (s.region r).poolRole = 0 ∧ 0 < s.freeSlots r ∧
      ∀ q ∈ s.fec.dealt, (s.region q).poolRole = 0 → s.freeSlots q ≤ s.freeSlots r := by
  obtain ⟨hmem, hmax⟩ := bestBy_spec (State.dealRegion_none.symm.trans h)
  obtain ⟨-, hrole, hfree⟩ := State.mem_dealOrder.mp hmem
  refine ⟨hrole, hfree, fun q hq hworks => ?_⟩
  rcases (s.freeSlots q).eq_zero_or_pos with hzero | hpos
  · exact hzero ▸ Nat.zero_le _
  · exact hmax q (State.mem_dealOrder.mpr ⟨hq, hworks, hpos⟩)

end

/-! ### A span held, and its decode started (R167, R168) -/

/-- The decode that a held span starts in a block, with the settings of its port (R184). -/
def State.newDecode (h : HeldSpan) (r b : Nat) (s : State) : Decode :=
  ⟨h.port, h.span, r, b, (s.fecp h.port).early, (s.fecp h.port).maxIter, 0, false, false, h.erased, (s.fecp h.port).inject,
    h.faults, h.faultBlocks, s.time⟩

theorem State.fec_startDecode (h : HeldSpan) (r b : Nat) (s : State) : (s.startDecode h r b).fec = { s.fec with
    ports := s.fec.ports.set h.port { s.fecp h.port with inject := none },
    held := s.fec.held.filter fun g => !(g.port == h.port && g.span == h.span),
    running := s.fec.running ++ [s.newDecode h r b],
    dealt := (s.fec.dealt.filter (· != r)) ++ [r],
    turn := if h.port = 0 then 1 else 0 } := by
  unfold State.startDecode
  dsimp only
  split <;> simp [State.setFecp, State.newDecode]

/-- The injection armed on a port goes with the decode (R186). -/
theorem State.inject_startDecode (h : HeldSpan) (r b : Nat) (s : State) : ((s.startDecode h r b).fecp h.port).inject = none := by
  rw [State.fecp, State.fec_startDecode, P2.get_set, if_pos rfl]

section
variable {s : State} {p : Port} {k : Nat} {noGuard : Bool}

theorem State.fec_makeReady (hh : ∃ h ∈ s.fec.held, h.port = p ∧ h.span = k ∧ h.ready = none) :
    (s.makeReady p k noGuard).fec = { s.fec with held := s.fec.held.map fun h =>
      if h.port = p ∧ h.span = k ∧ h.ready = none then { h with ready := some s.time, noGuard := noGuard } else h } := by
  have hany : s.fec.held.any (fun h => h.port == p && h.span == k && h.ready.isNone) = true := by
    simpa [and_assoc] using hh
  simp [State.makeReady, hany]

end

/-! ### Pool faults, by what they find (R181, R182) -/

/-- A decode with one more fault, in the block it runs in. -/
def Decode.faulted (d : Decode) : Decode :=
  { d with faults := d.faults + 1, faultBlocks := Tab.set 0 d.faultBlocks d.block (Tab.get 0 d.faultBlocks d.block + 1) }

section
variable {s : State} {d : Decode}

theorem State.decodeFault_of_unsuspected (hb : Tab.get 0 d.faultBlocks d.block ≠ 1) :
    s.decodeFault d false = (d.faulted, (s.bump (fecRegionCtr d.region 3) 1).fecAcc d.port 6 1) := by
  simp [State.decodeFault, Decode.faulted, hb]

/-- A fault before the fourth deals the span again. -/
theorem State.messageWord_of_few (hi : d.inject = none) (hb : Tab.get 0 d.faultBlocks d.block ≠ 1) (hn : d.faults < 3) :
    s.messageWord d false = ((s.bump (fecRegionCtr d.region 3) 1).fecAcc d.port 6 1).moveDecode d.faulted := by
  have hd : { d with inject := none } = d := by rw [← hi]
  have hfew : ¬ 4 ≤ d.faulted.faults := by simpa [Decode.faulted] using hn
  simp only [State.messageWord, hd, State.decodeFault_of_unsuspected hb, if_neg hfew]

/-- The fourth fault gives the decode up. -/
theorem State.messageWord_of_many (hi : d.inject = none) (hb : Tab.get 0 d.faultBlocks d.block ≠ 1) (hn : 3 ≤ d.faults) :
    s.messageWord d false = ((s.bump (fecRegionCtr d.region 3) 1).fecAcc d.port 6 1).giveUp d.faulted := by
  have hd : { d with inject := none } = d := by rw [← hi]
  have hmany : 4 ≤ d.faulted.faults := by simpa [Decode.faulted] using hn
  simp only [State.messageWord, hd, State.decodeFault_of_unsuspected hb, if_pos hmany]

theorem State.findDecode_moveDecode : (s.moveDecode d).findDecode d.port d.span = none :=
  State.findDecode_of_dropped (s := s) rfl

end

/-! ### The commands, executed (R184, R186) -/

section
variable {c : Cmd} {s : State}

theorem exec_fecPortConfig_off (hp : fecPortConfigOp.passes c s) (hst : (s.rxp c.port).st = .off) :
    exec (.fecPortConfig c) s = .next ((s.commitFec c).answered c 0x0801 0 []) :=
  exec_of_ok (op := fecPortConfigOp) rfl hp (if_pos hst)

theorem exec_fecPortConfig_waits (hp : fecPortConfigOp.passes c s) (hst : (s.rxp c.port).st ≠ .off) :
    exec (.fecPortConfig c) s = .next (s.waiting c 0x0801 (.fecConfig c.port)) :=
  exec_of_wait (op := fecPortConfigOp) rfl hp (if_neg hst)

theorem exec_fecInject (hp : fecInjectOp.passes c s) :
    exec (.fecInject c) s = .next ((s.setFecp c.port { s.fecp c.port with
      inject := some ((c.p 0).fld 31 30) }).answered c 0x0807 0 []) :=
  exec_of_ok (op := fecInjectOp) rfl hp rfl

end

/-! ### The happenings, where they can come about -/

/-- An iteration gives the provisional decisions: at convergence or after iteration 2, once (R170). -/
def Decode.gives (conv : Bool) (d : Decode) : Bool := !d.provisional && (conv || d.iter + 1 == 2)

/-- A decode after an iteration without a fault (R169). -/
def Decode.iterated (conv : Bool) (d : Decode) : Decode :=
  { d with iter := d.iter + 1, converged := conv, provisional := d.provisional || d.gives conv }

section
variable {s : State} {p : Port} {k : Nat} (hl : s.live = true)
include hl

theorem exec_dealTimeout : exec (.dealTimeout p k) s = .next (s.makeReady p k true) := happen_of _ _ hl

theorem exec_spanDeal_none (hn : s.nextToDeal = none) : exec .spanDeal s = .next s := by
  change execSpanDeal s = _
  simp [execSpanDeal, hl, hn]

/-- Outside 400ZR mode the arbiter chooses region and block anew for each span (R176). -/
theorem exec_spanDeal {h : HeldSpan} {r b : Nat} (hn : s.nextToDeal = some h) (hmod : (s.rxp h.port).mod ≠ 4)
    (hr : s.dealRegion h.moved = some r) (hb : s.dealBlock h.moved r = some b) :
    exec .spanDeal s = .next (s.startDecode h r b) := by
  change execSpanDeal s = _
  simp [execSpanDeal, hl, hn, hmod, hr, hb]

variable {d : Decode} (hk : s.findDecode p k = some d) (hi : d.inject = none)
include hk hi

theorem exec_decodeIterationEnd {conv : Bool} :
    exec (.decodeIterationEnd p k false conv) s =
      .next (if d.gives conv = true then ((s.setDecode (d.iterated conv)).bump (fecCtr p 5) 1).bump (fecCtr p 6) 1
        else (s.setDecode (d.iterated conv)).bump (fecCtr p 5) 1) := by
  change execDecodeIterationEnd p k false conv s = _
  simp only [execDecodeIterationEnd, hk]
  refine (happen_of _ _ hl).trans ?_
  simp [hi, Decode.gives, Decode.iterated]

theorem exec_decodeEnd {n zrBits : Nat} {zrOk : Bool} (hend : d.mayEnd ((s.rxp p).mod == 4) = true) :
    exec (.decodeEnd p k n zrBits zrOk) s = .next (s.completeDecode d
      (if (s.rxp p).mod == 4 then zrOk && (s.fecp p).zrBad == 0 else d.converged)
      (min n (if (s.rxp p).mod == 4 then zrBits else codedBits (s.rxp p).mod))
      (if (s.rxp p).mod == 4 then zrBits else codedBits (s.rxp p).mod)) := by
  change execDecodeEnd p k n zrBits zrOk s = _
  simp only [execDecodeEnd, hk]
  exact happen_of _ _ (by simp [hl, hend, hi])

theorem exec_messageWordUncorrectable : exec (.messageWordUncorrectable p k) s = .next (s.messageWord d false) := by
  change execMessageWordUncorrectable p k s = _
  simp only [execMessageWordUncorrectable, hk, hi]
  exact happen_of _ _ hl

end

/-! ### The statement -/

/-- Settles O41: each command and happening by what it finds of the pool. -/
theorem poolActs : Obligations.PoolActs := by
  refine ⟨fun c s hp => ⟨exec_fecPortConfig_off hp, exec_fecPortConfig_waits hp⟩, fun c s hp => exec_fecInject hp,
    fun s p k hl hh => ⟨_, exec_dealTimeout hl, (State.makeReady_keeps (Keeps.refl s)).frame, State.fec_makeReady hh⟩,
    fun s hl hn => exec_spanDeal_none hl hn,
    fun s h r b hl hn hmod hr hb => ⟨_, s.newDecode h r b, exec_spanDeal hl hn hmod hr hb, ?dealt⟩,
    fun s r hr => State.dealRegion_none_spec hr,
    fun s p k conv d hl hk hi => ⟨_, exec_decodeIterationEnd hl hk hi, ?iterationFrame, ?iterationPool⟩,
    fun s p k n zrBits zrOk d hl hk hi hmod hend => ?ends,
    fun s p k n zrBits zrOk d hl hk hi hmod hzr => ?zrEnds,
    fun s p k d hl hk hi hb => ?faults⟩
  case dealt =>
    rw [State.inject_startDecode, State.fec_startDecode]
    exact ⟨rfl, rfl, rfl, rfl, rfl, rfl, rfl, rfl, rfl, rfl, rfl, rfl, rfl⟩
  case iterationFrame =>
    have hset : Keeps [.fec, .tally] s (s.setDecode (d.iterated conv)) := State.setDecode_keeps (Keeps.refl s)
    exact (Keeps.ite (fun _ => State.bump_keeps (State.bump_keeps hset)) fun _ => State.bump_keeps hset).frame
  case iterationPool =>
    split <;> rfl
  case ends =>
    obtain ⟨rfl, rfl⟩ := State.port_span_of_findDecode hk
    refine ⟨_, exec_decodeEnd hl hk hi ?_, State.findDecode_completeDecode, ?_⟩
    · simpa [Decode.mayEnd, hmod] using hend
    · rw [State.rwp_completeDecode]
      simp [hmod]
  case zrEnds =>
    obtain ⟨rfl, rfl⟩ := State.port_span_of_findDecode hk
    refine ⟨_, exec_decodeEnd hl hk hi ?_, State.findDecode_completeDecode, ?_⟩
    · simp [Decode.mayEnd, hmod]
    · rw [State.rwp_completeDecode]
      simp [hmod, hzr]
  case faults =>
    obtain ⟨rfl, rfl⟩ := State.port_span_of_findDecode hk
    have hexec := exec_messageWordUncorrectable hl hk hi
    refine ⟨fun hn => ?_, fun hn => ?_⟩
    · rw [State.messageWord_of_few hi hb hn] at hexec
      exact ⟨_, _, hexec, rfl, State.findDecode_moveDecode, rfl, rfl, rfl, rfl, rfl⟩
    · rw [State.messageWord_of_many hi hb hn] at hexec
      exact ⟨_, hexec, State.findDecode_giveUp, State.rwp_giveUp, State.erasure_noteErasure⟩

end Sys2Proof.Machine
end

section
/-!
PROOFS. The Loom's configuration commands (spec/08 R233, R240, R245, R247, R251 to R254): what the Loom's tables read after each
shared operation, what each command leaves of them, and the statement about them.
-/

namespace Sys2Proof.Machine

/-! ### The Loom after what leaves it alone -/

theorem Keeps.loom_eq {cs : List Comp} {s t : State} (h : Keeps cs s t) (hloom : .loom ∉ cs) : t.loom = s.loom :=
  h.frame .loom hloom

section
variable (s : State)

@[simp] theorem State.loom_raise (code sev ha data : Nat) : (s.raise code sev ha data).loom = s.loom :=
  (State.raise_keeps (cs := [.clerk, .hier, .tally]) (Keeps.refl s)).loom_eq (by decide)

@[simp] theorem State.loom_raiseLimited (key period code sev ha : Nat) (mk : Nat → Nat) :
    (s.raiseLimited key period code sev ha mk).loom = s.loom :=
  (State.raiseLimited_keeps (cs := [.clerk, .hier, .tally]) (Keeps.refl s)).loom_eq (by decide)

@[simp] theorem State.loom_labelEvent (p : Port) (t : Nat) (on : Bool) : (s.labelEvent p t on).loom = s.loom :=
  (State.labelEvent_keeps (cs := [.clerk, .hier, .tally]) (Keeps.refl s)).loom_eq (by decide)

@[simp] theorem State.loom_refreshDelin : s.refreshDelin.loom = s.loom :=
  (State.refreshDelin_keeps (cs := [.clerk, .hier, .tally, .flow]) (Keeps.refl s)).loom_eq (by decide)

@[simp] theorem State.loom_refreshPools : s.refreshPools.loom = s.loom :=
  (State.refreshPools_keeps (cs := [.clerk, .hier, .tally, .fec, .flow]) (Keeps.refl s)).loom_eq (by decide)

@[simp] theorem State.loom_refreshThreads : s.refreshThreads.loom = s.loom :=
  (State.refreshThreads_keeps (cs := [.clerk, .hier, .tally, .flow]) (Keeps.refl s)).loom_eq (by decide)

/-! ### The Loom after what changes it: which of its tables an operation can change -/

/-- A bolt's state changes in its own record alone (R236). -/
theorem State.loom_moveBolt (b new cause : Nat) :
    (s.moveBolt b new cause).loom = { s.loom with boltRx := (s.moveBolt b new cause).loom.boltRx } := by
  unfold State.moveBolt
  dsimp only
  split
  · rfl
  · rw [State.loom_refreshDelin, State.loom_raise]
    rfl

theorem State.loom_downBolts : s.downBolts.loom = { s.loom with boltRx := s.downBolts.loom.boltRx } := by
  refine List.foldlRecOn (motive := fun u : State => u.loom = { s.loom with boltRx := u.loom.boltRx }) _ _ rfl
    fun u hu e _ => ?_
  have hmoved (cause : Nat) : (u.moveBolt e.1 1 cause).loom =
      { s.loom with boltRx := (u.moveBolt e.1 1 cause).loom.boltRx } := by
    rw [State.loom_moveBolt, hu]
  split
  · exact hu
  · split
    · exact hmoved 1
    · split
      · exact hmoved 2
      · exact hu

/-- Judging the pairs' suspension changes neither which bolts work in the receive pairs nor any other table (R248). -/
theorem State.loom_refreshPairs : ∃ l, s.refreshPairs.loom = { s.loom with pairs := ⟨l, s.loom.pairs.b⟩ } ∧
    l.map (·.working) = (s.pairs 0).map (·.working) := by
  refine List.foldlRecOn (motive := fun u : State => ∃ l, u.loom = { s.loom with pairs := ⟨l, s.loom.pairs.b⟩ } ∧
    l.map (·.working) = (s.pairs 0).map (·.working)) _ _ ⟨s.pairs 0, rfl, rfl⟩ fun u hu q _ => ?_
  obtain ⟨l, hu, hl⟩ := hu
  dsimp only
  split
  · exact ⟨l, hu, hl⟩
  · rw [State.loom_raiseLimited, State.withLoom_loom, hu]
    refine ⟨_, rfl, ?_⟩
    rw [← hl, List.map_map]
    refine List.map_congr_left fun x _ => ?_
    rw [Function.comp_apply]
    split
    case isTrue h => exact h.symm
    case isFalse => rfl

/-- A new plan is followed from a state in which only rate adaptation's HELD may have ended (R207). -/
theorem State.replan_eq (ws : List Way) :
    ∃ u : State, u.loom = s.loom ∧ s.replan ws = u.refreshPairs.downBolts.refreshPools.refreshThreads :=
  ⟨if ws.contains 0 then
      s.withRa { s.ra with ports := ⟨{ s.ra.ports.a with held := false }, { s.ra.ports.b with held := false }⟩ }
    else s, by split <;> rfl, rfl⟩

/-- A new plan changes the records of the receive bolts, and of the receive pairs all but their bolts (R233, R248). -/
theorem State.loom_replan (ws : List Way) : ∃ r l, (s.replan ws).loom =
    { s.loom with boltRx := r, pairs := ⟨l, s.loom.pairs.b⟩ } ∧ l.map (·.working) = (s.pairs 0).map (·.working) := by
  obtain ⟨u, hu, hreplan⟩ := s.replan_eq ws
  obtain ⟨l, hpairs, hl⟩ := u.loom_refreshPairs
  rw [State.pairs, hu] at hl
  refine ⟨u.refreshPairs.downBolts.loom.boltRx, l, ?_, hl⟩
  rw [hreplan, State.loom_refreshThreads, State.loom_refreshPools]
  exact (State.loom_downBolts _).trans (by rw [hpairs, hu])

@[simp] theorem State.bolts_replan (ws : List Way) : (s.replan ws).loom.bolts = s.loom.bolts := by
  obtain ⟨r, l, h, -⟩ := s.loom_replan ws
  rw [h]

@[simp] theorem State.bolt_replan (ws : List Way) (d : Way) (b : Nat) : (s.replan ws).bolt d b = s.bolt d b := by
  rw [State.bolt, State.bolts, State.bolts_replan]
  rfl

@[simp] theorem State.threads_replan (ws : List Way) : (s.replan ws).loom.threads = s.loom.threads := by
  obtain ⟨r, l, h, -⟩ := s.loom_replan ws
  rw [h]

@[simp] theorem State.txPairs_replan (ws : List Way) : (s.replan ws).pairs 1 = s.pairs 1 := by
  obtain ⟨r, l, h, -⟩ := s.loom_replan ws
  rw [State.pairs, h]
  rfl

@[simp] theorem State.working_replan (ws : List Way) (d : Way) :
    ((s.replan ws).pairs d).map (·.working) = (s.pairs d).map (·.working) := by
  obtain ⟨r, l, h, hl⟩ := s.loom_replan ws
  match d with
  | 0 => rw [State.pairs, h]; exact hl
  | 1 => rw [State.txPairs_replan]

/-- A change of a thread's label mismatch is noted with its label alone (R241). -/
theorem State.loom_refreshLabel (p : Port) (t : Nat) : (s.refreshLabel p t).loom = { s.loom with
    labels := if s.labelMism t = (Tab.get {} s.loom.labels t).mism then s.loom.labels
      else Tab.set {} s.loom.labels t { Tab.get {} s.loom.labels t with mism := s.labelMism t } } := by
  unfold State.refreshLabel
  dsimp only
  split
  · rfl
  · rw [State.loom_refreshDelin, State.loom_labelEvent]
    rfl

end

/-! ### A change in each direction that a command names (Table 8-10) -/

theorem waysOf_nodup (code : Nat) : (waysOf code).Nodup := by
  unfold waysOf
  split
  · decide
  · split
    · decide
    · split <;> decide

/-- Where a change in one direction leaves what is read of the other, a change in each of several directions makes itself felt
once in each of them and in no other. -/
theorem read_foldl_ways {α : Type} {read : State → Way → α} {put : State → Way → State} (f : α → α) {e : Way}
    (hput : ∀ s d, read (put s d) e = if e = d then f (read s e) else read s e) {ws : List Way} (hws : ws.Nodup) :
    ∀ s : State, read (ws.foldl put s) e = if e ∈ ws then f (read s e) else read s e := by
  induction ws with
  | nil => exact fun s => rfl
  | cons d ws ih =>
    intro s
    obtain ⟨hd, hws⟩ := List.nodup_cons.mp hws
    rw [List.foldl_cons, ih hws, hput]
    by_cases hed : e = d
    · subst hed
      simp [hd]
    · simp [hed]

/-! ### Bolts (R252) -/

/-- What LOOM_BOLT_SET makes of its bolt: its definition, or none where it lists no members. -/
def givenBolt (c : Cmd) : Option Bolt := if (c.p 0).fld 18 8 = 0 then none else some ⟨boltMembers c, (c.p 0).fld 7 0⟩

/-- A bolt is set in each of some directions. -/
def State.setBolts (ws : List Way) (b : Nat) (v : Option Bolt) (s : State) : State :=
  ws.foldl (fun s d => s.setBolt d b v) s

section
variable (s : State)

/-- Setting a bolt changes the bolts of its direction and the records of the receive bolts. -/
theorem State.loom_setBolt (d : Way) (b : Nat) (v : Option Bolt) : (s.setBolt d b v).loom = { s.loom with
    bolts := s.loom.bolts.upd d fun t => Tab.set none t b v, boltRx := (s.setBolt d b v).loom.boltRx } := by
  unfold State.setBolt
  dsimp only
  split
  · rfl
  · split
    · rw [State.loom_raise]; rfl
    · rw [State.loom_raise]; rfl
    · rfl

theorem State.bolt_setBolts {ws : List Way} (hws : ws.Nodup) (b : Nat) (v : Option Bolt) (d : Way) (k : Nat) :
    (s.setBolts ws b v).bolt d k = if d ∈ ws ∧ k = b then v else s.bolt d k := by
  have hbolts : (s.setBolts ws b v).bolts d = if d ∈ ws then Tab.set none (s.bolts d) b v else s.bolts d := by
    refine read_foldl_ways (read := State.bolts) (fun t => Tab.set none t b v) (fun u e => ?_) hws s
    rw [State.bolts, State.loom_setBolt, P2.get_upd]
    split
    case isTrue h => rw [h, State.bolts]
    case isFalse => rfl
  rw [State.bolt, hbolts]
  by_cases hd : d ∈ ws
  · rw [if_pos hd, Tab.get_set]
    exact ite_of_iff (by simp [hd]) _ _
  · rw [if_neg hd, if_neg fun h => hd h.1, State.bolt]

theorem State.threads_setBolts (ws : List Way) (b : Nat) (v : Option Bolt) :
    (s.setBolts ws b v).loom.threads = s.loom.threads := by
  refine List.foldlRecOn (motive := fun u : State => u.loom.threads = s.loom.threads) _ _ rfl fun u hu d _ => ?_
  rw [State.loom_setBolt]
  exact hu

end

/-! ### Threads (R253) -/

/-- What the entries of a LOOM_THREAD_SET make of a direction's thread table. -/
def threadsFrom (c : Cmd) (d : Way) (t : Tab (Option Thread)) : Tab (Option Thread) :=
  (threadEntries c).foldl (fun t e =>
    Tab.set none t e.1 (if e.2.size = 0 then none else some { e.2 with regen := e.2.regen && d == 0 })) t

theorem threadsAfter_eq (c : Cmd) (s : State) (d : Way) : threadsAfter c s d = threadsFrom c d (s.threads d) := rfl

/-- The threads are set in each of some directions. -/
def State.putThreads (c : Cmd) (ws : List Way) (s : State) : State :=
  ws.foldl (fun s d => s.withLoom { s.loom with threads := s.loom.threads.set d (threadsAfter c s d) }) s

/-- After receive threads were set, the label of each is judged afresh, and that of a deleted one forgotten (R241). -/
def State.relabel (es : List (Nat × Thread)) (s : State) : State :=
  es.foldl (fun s x =>
    if (s.thread 0 x.1).isSome then s.refreshLabel 0 x.1
    else s.withLoom { s.loom with labels := Tab.set {} s.loom.labels x.1 {} }) s

/-- What LOOM_THREAD_SET makes of the threads before plans follow. -/
def State.setThreads (c : Cmd) (ws : List Way) (s : State) : State :=
  if ws.contains 0 then (s.putThreads c ws).relabel (threadEntries c) else s.putThreads c ws

section
variable (s : State)

theorem State.loom_relabel (es : List (Nat × Thread)) : (s.relabel es).loom = { s.loom with
    labels := (s.relabel es).loom.labels } := by
  refine List.foldlRecOn (motive := fun u : State => u.loom = { s.loom with labels := u.loom.labels }) _ _ rfl
    fun u hu x _ => ?_
  split
  · rw [State.loom_refreshLabel, hu]
  · rw [State.withLoom_loom, hu]

theorem State.threads_putThreads {ws : List Way} (hws : ws.Nodup) (c : Cmd) (d : Way) :
    (s.putThreads c ws).threads d = if d ∈ ws then threadsAfter c s d else s.threads d := by
  refine read_foldl_ways (read := State.threads) (threadsFrom c d) (fun u e => ?_) hws s
  refine (P2.get_set u.loom.threads e d _).trans ?_
  split
  case isTrue h => rw [h, threadsAfter_eq]
  case isFalse => rfl

theorem State.bolts_putThreads (c : Cmd) (ws : List Way) : (s.putThreads c ws).loom.bolts = s.loom.bolts :=
  List.foldlRecOn (motive := fun u : State => u.loom.bolts = s.loom.bolts) _ _ rfl fun _ hu _ _ => hu

/-- Judging labels leaves both tables as they were put. -/
theorem State.loom_setThreads (c : Cmd) (ws : List Way) :
    (s.setThreads c ws).loom.threads = (s.putThreads c ws).loom.threads ∧
    (s.setThreads c ws).loom.bolts = (s.putThreads c ws).loom.bolts := by
  unfold State.setThreads
  split
  · rw [State.loom_relabel]
    exact ⟨rfl, rfl⟩
  · exact ⟨rfl, rfl⟩

end

/-! ### Pairs (R245, R254) -/

/-- What LOOM_PROT_SET makes of a direction's pairs. -/
def pairsAfter (c : Cmd) (l : List Pair) : List Pair :=
  if (c.p 0).bit 29 then l ++ [⟨(c.p 0).fld 10 0, (c.p 0).fld 21 11, (c.p 0).bit 28, 0, false, false, none⟩]
  else l.filter fun x => x.working != (c.p 0).fld 10 0

/-- A pair is set in each of some directions. -/
def State.setPairs (c : Cmd) (ws : List Way) (s : State) : State :=
  ws.foldl (fun s d => s.withLoom { s.loom with pairs := s.loom.pairs.upd d (pairsAfter c) }) s

section
variable (s : State)

theorem working_pairsAfter (c : Cmd) (l : List Pair) : (pairsAfter c l).map (·.working) =
    if (c.p 0).bit 29 = true then l.map (·.working) ++ [(c.p 0).fld 10 0]
    else (l.map (·.working)).filter (· != (c.p 0).fld 10 0) := by
  unfold pairsAfter
  split
  · rw [List.map_append, List.map_singleton]
  · rw [List.filter_map]
    rfl

theorem State.pairs_setPairs {ws : List Way} (hws : ws.Nodup) (c : Cmd) (d : Way) :
    (s.setPairs c ws).pairs d = if d ∈ ws then pairsAfter c (s.pairs d) else s.pairs d := by
  refine read_foldl_ways (read := State.pairs) (pairsAfter c) (fun u e => ?_) hws s
  refine (P2.get_upd u.loom.pairs e d _).trans ?_
  split
  case isTrue h => rw [h, State.pairs]
  case isFalse => rfl

theorem State.tables_setPairs (c : Cmd) (ws : List Way) :
    (s.setPairs c ws).loom.bolts = s.loom.bolts ∧ (s.setPairs c ws).loom.threads = s.loom.threads :=
  List.foldlRecOn (motive := fun u : State => u.loom.bolts = s.loom.bolts ∧ u.loom.threads = s.loom.threads) _ _
    ⟨rfl, rfl⟩ fun _ hu _ _ => hu

end

/-- A request of the host stands in the receive pair of its working bolt (R247). -/
def Pair.requested (c : Cmd) (q : Pair) : Pair :=
  if q.working = (c.p 0).fld 10 0 then { q with request := (c.p 0).fld 31 28 } else q

def State.requestPair (c : Cmd) (s : State) : State :=
  s.withLoom { s.loom with pairs := s.loom.pairs.upd 0 fun l => l.map (Pair.requested c) }

/-! ### The commands, executed -/

section
variable {c : Cmd} {s : State}

theorem exec_loomPortConfig (hp : loomPortConfigOp.passes c s) : exec (.loomPortConfig c) s =
    .next ((s.updLp (if (c.p 0).bit 31 then 1 else 0) fun l =>
      { l with matchErr := (c.p 0).fld 10 8, labelDown := (c.p 0).bit 0 }).answered c 0x0501 0 []) :=
  exec_of_ok (op := loomPortConfigOp) rfl hp rfl

theorem exec_loomBoltSet (hp : loomBoltSetOp.passes c s) : exec (.loomBoltSet c) s =
    .next (((s.setBolts (waysOf ((c.p 0).fld 31 30)) ((c.p 0).fld 29 19) (givenBolt c)).replan
      (waysOf ((c.p 0).fld 31 30))).answered c 0x0502 0 []) :=
  exec_of_ok (op := loomBoltSetOp) rfl hp rfl

theorem exec_loomThreadSet (hp : loomThreadSetOp.passes c s) : exec (.loomThreadSet c) s =
    .next (((s.setThreads c (waysOf ((c.p 0).fld 31 30))).replan (waysOf ((c.p 0).fld 31 30))).answered c 0x0503 0 []) :=
  exec_of_ok (op := loomThreadSetOp) rfl hp rfl

theorem exec_loomProtSet (hp : loomProtSetOp.passes c s) : exec (.loomProtSet c) s =
    .next (((s.setPairs c (waysOf ((c.p 0).fld 31 30))).replan (waysOf ((c.p 0).fld 31 30))).answered c 0x0504 0 []) :=
  exec_of_ok (op := loomProtSetOp) rfl hp rfl

theorem exec_loomProtSwitch (hp : loomProtSwitchOp.passes c s) : exec (.loomProtSwitch c) s =
    .next ((s.requestPair c).answered c 0x0505 0 []) :=
  exec_of_ok (op := loomProtSwitchOp) rfl hp rfl

end

/-! ### The statement -/

/-- Settles O43: each command's table is put once in each direction it names, and no table is touched by the plans, pairs and
bolt states that follow. -/
theorem loomCommandsAct : Obligations.LoomCommandsAct := by
  refine ⟨fun c s hp => exec_loomPortConfig hp,
    fun c s hp => ⟨_, exec_loomBoltSet hp, fun d hd => ⟨fun hn => ?defined, fun hn => ?deleted⟩, fun d b hne => ?otherBolts,
      (State.threads_replan _ _).trans (s.threads_setBolts _ _ _)⟩,
    fun c s hp => ⟨_, exec_loomThreadSet hp, fun d => ?threads,
      (State.bolts_replan _ _).trans ((s.loom_setThreads c _).2.trans (s.bolts_putThreads c _))⟩,
    fun c s hp => ⟨_, exec_loomProtSet hp, fun d => ?workings, fun hd hadd => ?added,
      (State.bolts_replan _ _).trans (s.tables_setPairs c _).1, (State.threads_replan _ _).trans (s.tables_setPairs c _).2⟩,
    fun c s hp => ⟨_, exec_loomProtSwitch hp, ?request, rfl, rfl⟩⟩
  case defined =>
    rw [State.bolt_replan, s.bolt_setBolts (waysOf_nodup _), if_pos ⟨hd, rfl⟩, givenBolt, if_neg hn]
  case deleted =>
    rw [State.bolt_replan, s.bolt_setBolts (waysOf_nodup _), if_pos ⟨hd, rfl⟩, givenBolt, if_pos hn]
  case otherBolts =>
    rw [State.bolt_replan, s.bolt_setBolts (waysOf_nodup _), if_neg fun h => hne.elim (· h.1) (· h.2)]
  case threads =>
    rw [State.threads, State.threads_replan, (s.loom_setThreads c _).1]
    exact s.threads_putThreads (waysOf_nodup _) c d
  case workings =>
    rw [State.working_replan, s.pairs_setPairs (waysOf_nodup _), apply_ite (List.map fun q : Pair => q.working),
      working_pairsAfter]
    exact (ite_not _ _ _).symm
  case added =>
    rw [State.txPairs_replan, s.pairs_setPairs (waysOf_nodup _), if_pos hd, pairsAfter, if_pos hadd]
  case request =>
    exact (withLoom_keeps (Keeps.refl s)).frame

end Sys2Proof.Machine
end

section
/-!
PROOFS. The Loom's frames and ticks (spec/08 R219, R222, R223, R225, R226, R234 to R237, R241, R245, R246): what a framer and a
bolt's record read after each shared operation, the answer of each happening where it can come about, and the statement about
them.
-/

namespace Sys2Proof.Machine

/-! ### Per-second counts: what only counts changes nothing else (R249) -/

/-- The state with other counts of the second in hand. -/
def State.withCounts (counts : Tab Nat) (s : State) : State := s.withLoom { s.loom with counts := counts }

/-- A later state differs at most in the counts of the second in hand. -/
def State.Counted (s t : State) : Prop := ∃ counts, t = s.withCounts counts

section
variable {s t : State}

theorem State.Counted.refl (s : State) : s.Counted s := ⟨s.loom.counts, rfl⟩

theorem State.Counted.pm (h : s.Counted t) (kind idx word n : Nat) : s.Counted (t.pm kind idx word n) := by
  obtain ⟨counts, rfl⟩ := h
  exact ⟨_, rfl⟩

theorem State.Counted.foldl {α : Type} {f : State → α → State} (hf : ∀ u x, s.Counted u → s.Counted (f u x)) (l : List α)
    (h : s.Counted t) : s.Counted (l.foldl f t) :=
  List.foldlRecOn (motive := fun u : State => s.Counted u) l f h fun u hu x _ => hf u x hu

theorem State.Counted.ite {u : State} {c : Prop} [Decidable c] (ht : s.Counted t) (hu : s.Counted u) :
    s.Counted (if c then t else u) := by
  split
  · exact ht
  · exact hu

theorem State.Counted.handOn (h : s.Counted t) (b : Nat) (present : Bool) (lost : List Nat) :
    s.Counted (t.handOn b present lost) := by
  refine State.Counted.foldl (fun u x hu => ?_) _ h
  split
  · exact hu
  · exact hu.pm _ _ _ _

theorem State.Counted.notDelivered (h : s.Counted t) (b : Nat) : s.Counted (t.notDelivered b) :=
  (h.pm _ _ _ _).pm _ _ _ _

theorem State.Counted.boltRx (h : s.Counted t) (b : Nat) : t.boltRx b = s.boltRx b := by
  obtain ⟨counts, rfl⟩ := h
  rfl

theorem State.Counted.pairs (h : s.Counted t) (d : Way) : t.pairs d = s.pairs d := by
  obtain ⟨counts, rfl⟩ := h
  rfl

theorem State.Counted.lp (h : s.Counted t) (p : Port) : t.lp p = s.lp p := by
  obtain ⟨counts, rfl⟩ := h
  rfl

theorem State.Counted.out (h : s.Counted t) : t.out = s.out := by
  obtain ⟨counts, rfl⟩ := h
  rfl

theorem State.Counted.complete (h : s.Counted t) (b k : Nat) : t.complete b k = s.complete b k := by
  obtain ⟨counts, rfl⟩ := h
  rfl

theorem State.Counted.boltOk (h : s.Counted t) (b : Nat) : t.boltOk b = s.boltOk b := by
  obtain ⟨counts, rfl⟩ := h
  rfl

theorem State.Counted.skewOf (h : s.Counted t) (b k : Nat) : t.skewOf b k = s.skewOf b k := by
  obtain ⟨counts, rfl⟩ := h
  rfl

end

/-! ### The record of a receive bolt (R235, R236) -/

/-- A bolt's record in a new state, its run begun anew. -/
def BoltRx.move (new : Nat) (r : BoltRx) : BoltRx := if r.st = new then r else { r with st := new, run := 0 }

/-- A bolt's record with a tick read whole. -/
def BoltRx.read (t : Nat) (skew : Int) (r : BoltRx) : BoltRx :=
  { r with last := some t, skew := skew, peak := max r.peak skew.natAbs, run := min 64 (r.run + 1) }

section
variable (r : BoltRx) (new : Nat)

@[simp] theorem BoltRx.st_move : (r.move new).st = new := by
  unfold BoltRx.move
  split
  · assumption
  · rfl

@[simp] theorem BoltRx.last_move : (r.move new).last = r.last := by
  unfold BoltRx.move
  split <;> rfl

@[simp] theorem BoltRx.skew_move : (r.move new).skew = r.skew := by
  unfold BoltRx.move
  split <;> rfl

theorem BoltRx.run_move (h : r.run = 0) : (r.move new).run = 0 := by
  unfold BoltRx.move
  split
  · exact h
  · rfl

end

section
variable (s : State) (b : Nat)

@[simp] theorem State.boltRx_setBoltRx_same (r : BoltRx) : (s.setBoltRx b r).boltRx b = r := by
  rw [State.boltRx, State.setBoltRx, State.withLoom_loom, Tab.get_set, if_pos rfl, Option.getD_some]

@[simp] theorem State.boltRx_dropFrames : s.dropFrames.boltRx b = s.boltRx b := rfl

@[simp] theorem State.loom_takeSegments (k tick : Nat) (segs : List (Nat × List Byte)) :
    (s.takeSegments k tick segs).loom = s.loom :=
  (State.takeSegments_keeps (cs := [.free, .clerk, .hier, .tally, .store, .flow]) (Keeps.refl s)).loom_eq (by decide)

@[simp] theorem State.boltRx_takeSegments (k tick : Nat) (segs : List (Nat × List Byte)) :
    (s.takeSegments k tick segs).boltRx b = s.boltRx b := by
  rw [State.boltRx, State.loom_takeSegments, State.boltRx]

@[simp] theorem State.boltRx_moveBolt (new cause : Nat) : (s.moveBolt b new cause).boltRx b = (s.boltRx b).move new := by
  unfold State.moveBolt BoltRx.move
  dsimp only
  split
  · rfl
  · rw [State.boltRx, State.loom_refreshDelin, State.loom_raise]
    exact s.boltRx_setBoltRx_same b _

/-- A tick whose frames are all in, of a bolt that nothing holds DOWN, is read whole: DOWN ends, and SKEW with the 64th in a row
(R236). -/
theorem State.boltRx_readCopy (t : Nat) (hc : s.complete b t = true) (hok : s.boltOk b = true) :
    (s.readCopy b t).boltRx b = if (s.boltRx b).st = 1 ∨ (s.boltRx b).st = 2 ∧ 64 ≤ min 64 ((s.boltRx b).run + 1)
      then ((s.boltRx b).read t (s.skewOf b t)).move 3 else (s.boltRx b).read t (s.skewOf b t) := by
  unfold State.readCopy
  dsimp only
  rw [hc, hok, Bool.and_self, if_pos rfl]
  by_cases hdown : (s.boltRx b).st = 1
  · rw [if_pos hdown, if_pos (.inl hdown), State.boltRx_moveBolt, State.boltRx_setBoltRx_same]
    rfl
  · rw [if_neg hdown]
    split
    case isTrue h => rw [if_pos (.inr h), State.boltRx_moveBolt, State.boltRx_setBoltRx_same]; rfl
    case isFalse h => rw [if_neg fun hor => hor.elim hdown h, State.boltRx_setBoltRx_same]; rfl

/-- Reading a copy changes the records of receive bolts alone of the Loom. -/
theorem State.pairs_readCopy (t : Nat) (d : Way) : (s.readCopy b t).pairs d = s.pairs d := by
  have hmoved (u : State) (new cause : Nat) : (u.moveBolt b new cause).pairs d = u.pairs d := by
    rw [State.pairs, State.loom_moveBolt, State.pairs]
  unfold State.readCopy
  dsimp only
  split
  · split
    · rw [hmoved]; rfl
    · split
      · rw [hmoved]; rfl
      · rfl
  · rfl

end

/-! ### A port's framer -/

/-- The state of a framer and the numbers of its newest frame. -/
def LoomPort.place (l : LoomPort) : FrSt × Nat × Nat × Nat := (l.st, l.fn, l.mfn, l.tick)

section
variable (s : State) (p : Port)

@[simp] theorem State.lp_bump (k n : Nat) : (s.bump k n).lp p = s.lp p := rfl
@[simp] theorem State.lp_pm (kind idx word n : Nat) : (s.pm kind idx word n).lp p = s.lp p := rfl
@[simp] theorem State.lp_emit (o : Out) : (s.emit o).lp p = s.lp p := rfl
@[simp] theorem State.lp_withFree (v : Nat) : (s.withFree v).lp p = s.lp p := rfl

variable {s p}

/-- What leaves state and numbers alone in a port leaves them alone in the state. -/
theorem State.place_updLp {f : LoomPort → LoomPort} (hf : ∀ l, (f l).place = l.place := by exact fun _ => rfl) :
    ((s.updLp p f).lp p).place = (s.lp p).place := by
  rw [State.lp_updLp_same, hf]

/-- A framer that moves keeps the numbers of its newest frame. -/
theorem State.numbers_moveFramer (new : FrSt) (cause : Nat) :
    ((s.moveFramer p new cause).lp p).place.2 = (s.lp p).place.2 := by
  unfold State.moveFramer
  dsimp only
  split
  · rfl
  · have hcounted : ((if new = .locked then s.countLost p
        else if (s.lp p).st = .locked then s.updLp p fun l => { l with lostFrom := s.time } else s).lp p).place =
        (s.lp p).place := by
      split
      · exact State.place_updLp
      · split
        · exact State.place_updLp
        · rfl
    rw [← hcounted]
    split <;> simp [LoomPort.place]

/-! ### SEARCH (R225) -/

/-- A match where the only candidate expects it is its next match. -/
theorem searchMatch_expected {len x n : Nat} (h : (s.lp p).cands = [(x, n)]) :
    searchMatch p len s x = s.updLp p fun l => { l with cands := [(x + len, n + 1)] } := by
  simp [searchMatch, h]

/-- A match without any candidate is a new one. -/
theorem searchMatch_first {len x : Nat} (h : (s.lp p).cands = []) :
    searchMatch p len s x = (s.updLp p fun l => { l with cands := [(x + len, 1)] }).bump (loomCtr p 0) 1 := by
  simp [searchMatch, h]

end

/-- SEARCH through matching positions, in order, until a candidate has three matches. -/
def State.search (p : Port) (found : List Nat) (s : State) : State :=
  found.foldl (fun u x => if aligned (u.lp p) then u
    else searchMatch p (capacity (s.rxp p).symRate (s.rxp p).mod (s.rxp p).entropy (s.fecp p).oh) u x) s

/-- A framer that has found its alignment is ALIGNED, with the numbers of the newest of its frames. -/
def State.declareAligned (p : Port) (heads : List (Nat × Nat × Nat)) (s : State) : State :=
  let last := heads.getLast?.getD (0, 0, 0)
  ((s.updLp p fun l => { l with cands := [], good := goodRun 1 heads, fn := last.1, mfn := last.2.1, tick := last.2.2 }).bump
    (loomCtr p 2) 1).moveFramer p .aligned 1

theorem State.numbers_declareAligned (s : State) (p : Port) (h : Nat × Nat × Nat) :
    ((s.declareAligned p [h]).lp p).place.2 = h := by
  rw [State.declareAligned, State.numbers_moveFramer, State.lp_bump, State.lp_updLp_same]
  rfl

theorem State.search_singleton {s : State} {p : Port} {x : Nat} (h : aligned (s.lp p) = false) : s.search p [x] =
    searchMatch p (capacity (s.rxp p).symRate (s.rxp p).mod (s.rxp p).entropy (s.fecp p).oh) s x := by
  rw [State.search, List.foldl_cons, List.foldl_nil, h, if_neg Bool.false_ne_true]

section
variable {s : State} {p : Port} {found : List Nat} {heads : List (Nat × Nat × Nat)} (hl : s.live = true)
  (hst : (s.lp p).st = .search)
include hl hst

theorem exec_alignDeclare_aligned (h : s.zrRx p = true ∨ aligned ((s.search p found).lp p) = true) :
    exec (.alignDeclare p found heads) s = .next ((s.search p found).declareAligned p heads) := by
  change execAlignDeclare p found heads s = _
  refine (happen_of _ _ (by rw [hl, hst]; rfl)).trans (congrArg _ (if_pos ?_))
  rwa [Bool.or_eq_true]

theorem exec_alignDeclare_searching (hz : s.zrRx p = false) (h : aligned ((s.search p found).lp p) = false) :
    exec (.alignDeclare p found heads) s = .next (s.search p found) := by
  change execAlignDeclare p found heads s = _
  refine (happen_of _ _ (by rw [hl, hst]; rfl)).trans (congrArg _ (if_neg ?_))
  rw [hz, Bool.false_or]
  exact ne_true_of_eq_false h

end

/-! ### The framer's other moves (R226) -/

section
variable {s : State} {p : Port} (hl : s.live = true)
include hl

theorem exec_lockDeclare (hst : (s.lp p).st = .aligned) (hg : 3 ≤ (s.lp p).good) :
    exec (.lockDeclare p) s = .next (s.moveFramer p .locked 3) := by
  change execLockDeclare p s = _
  exact happen_of _ _ (by simp [hl, hst, hg])

theorem exec_lofDeclare (hst : (s.lp p).st = .aligned ∨ (s.lp p).st = .locked) (hm : 5 ≤ (s.lp p).misses) :
    exec (.lofDeclare p) s = .next ((s.bump (loomCtr p 3) 1).moveFramer p .search 2) := by
  change execLofDeclare p s = _
  exact happen_of _ _ (by simp [hl, hst, hm])

theorem exec_lomDeclare (hst : (s.lp p).st = .locked) (hb : 5 ≤ (s.lp p).bad) :
    exec (.lomDeclare p) s = .next ((s.bump (loomCtr p 4) 1).moveFramer p .aligned 4) := by
  change execLomDeclare p s = _
  exact happen_of _ _ (by simp [hl, hst, hb])

end

/-! ### Frames arrive (R226, R228, R234, R240, R243, R244) -/

/-- A frame that was judged in LOCKED is kept for the bolts to read, and counted. -/
def State.keepFrame (p : Port) (clean : Bool) (s : State) : State :=
  let l := s.lp p
  let lost := s.store.lostFrames.contains (p.val, l.tick)
  let s1 := s.withStore { s.store with lostFrames := s.store.lostFrames.filter (· != (p.val, l.tick)) }
  let s2 := (s1.updLp p fun l => if lost then l else { l with frames := l.frames ++ [⟨l.tick, s.time, clean⟩] }).bump
    (loomCtr p 5) 1
  if clean then s2 else (s2.bump (loomCtr p 6) 1).pm 0 p.val 5 1

/-- Its overhead is read: member map, section, bolts, announcement, labels. -/
def State.readOverhead (p : Port) (ws : List Word) (clean : Bool) (parity : Nat) (boltPar : List (Nat × Nat))
    (s : State) : State :=
  ((ws.drop 19).take 256).foldl (State.takeLabel p)
    ((((s.checkMap p ws).checkSection p ws parity).checkBolts p ws boltPar).updLp p fun l => { l with
      anns := (((ws.getD 5 0).toNat * 2 ^ 32 + (ws.getD 6 0).toNat, l.mfn % 2 ^ 32, clean) :: l.anns).take 3 })

/-- The last frame of a multiframe counts where some slot is in mismatch. -/
def State.countMismatch (p : Port) (l : LoomPort) (s : State) : State :=
  if l.fn = 255 ∧ l.slots.any (fun e => e.2.mism) = true then s.bump (loomCtr p 7) 1 else s

section
variable {s : State} {p : Port} {ws : List Word}

/-- In LOCKED a framer numbers frames by its own count, whatever arrives (notes/assumptions/16). -/
theorem LoomPort.place_judge {l : LoomPort} (h : l.st = .locked) :
    (l.judge ws).place = (.locked, nextHead (l.fn, l.mfn, l.tick)) := by
  rw [LoomPort.place, LoomPort.judge]
  dsimp only
  rw [h, if_pos (.inl rfl)]

theorem State.place_keepFrame (clean : Bool) : ((s.keepFrame p clean).lp p).place = (s.lp p).place := by
  unfold State.keepFrame
  dsimp only
  split
  · rw [State.lp_bump]
    exact State.place_updLp (by intro l; split <;> rfl)
  · rw [State.lp_pm, State.lp_bump, State.lp_bump]
    exact State.place_updLp (by intro l; split <;> rfl)

theorem State.place_checkMap : ((s.checkMap p ws).lp p).place = (s.lp p).place := by
  unfold State.checkMap
  dsimp only
  split
  · rfl
  · exact List.foldlRecOn (motive := fun u : State => (u.lp p).place = (s.lp p).place) _ _ rfl
      fun u hu i _ => Eq.trans State.place_updLp hu

theorem State.place_checkSection (parity : Nat) : ((s.checkSection p ws parity).lp p).place = (s.lp p).place := by
  unfold State.checkSection
  dsimp only
  rw [State.lp_pm, State.lp_pm, State.lp_pm, State.lp_pm]
  exact State.place_updLp

theorem State.place_checkBolts (boltPar : List (Nat × Nat)) :
    ((s.checkBolts p ws boltPar).lp p).place = (s.lp p).place := by
  refine Eq.trans State.place_updLp ?_
  refine List.foldlRecOn (motive := fun u : State => (u.lp p).place = (s.lp p).place) _ _ rfl fun u hu i _ => ?_
  dsimp only
  split
  · split
    · refine Eq.trans State.place_updLp ?_
      rw [State.lp_pm, State.lp_pm, State.lp_pm, State.lp_pm, hu]
    · rw [State.lp_pm, State.lp_pm, hu]
  · rw [State.lp_pm, State.lp_pm, hu]

theorem State.lp_takeLabel (e : Word) : (s.takeLabel p e).lp p = s.lp p := by
  unfold State.takeLabel
  dsimp only
  split
  · split <;> rfl
  · rfl

theorem State.place_readOverhead (clean : Bool) (parity : Nat) (boltPar : List (Nat × Nat)) :
    ((s.readOverhead p ws clean parity boltPar).lp p).place = (s.lp p).place := by
  refine List.foldlRecOn (motive := fun u : State => (u.lp p).place = (s.lp p).place) _ _ ?_
    fun u hu e _ => by rw [State.lp_takeLabel, hu]
  exact Eq.trans State.place_updLp ((State.place_checkBolts _).trans ((State.place_checkSection _).trans
    State.place_checkMap))

theorem State.place_countMismatch (l : LoomPort) : ((s.countMismatch p l).lp p).place = (s.lp p).place := by
  unfold State.countMismatch
  split <;> rfl

variable {clean : Bool} {parity : Nat} {boltPar : List (Nat × Nat)} (hl : s.live = true)
  (hrx : (s.rxp p).st = .tracking) (hz : s.zrRx p = false)
include hl hrx hz

theorem exec_frameArrive_aligned (hst : (s.lp p).st = .aligned) :
    exec (.frameArrive p ws clean parity boltPar) s = .next (s.updLp p fun l => l.judge ws) := by
  change execFrameArrive p ws clean parity boltPar s = _
  unfold execFrameArrive
  dsimp only
  rw [happen_of _ _ (by simp [hl, State.tracking, hrx, hst]), hst, hz]
  rfl

theorem exec_frameArrive_locked (hst : (s.lp p).st = .locked) : exec (.frameArrive p ws clean parity boltPar) s =
    .next ((((s.updLp p fun l => l.judge ws).keepFrame p clean).readOverhead p ws clean parity boltPar).countMismatch p
      ((s.updLp p fun l => l.judge ws).lp p)) := by
  change execFrameArrive p ws clean parity boltPar s = _
  unfold execFrameArrive
  dsimp only
  rw [happen_of _ _ (by simp [hl, State.tracking, hrx, hst]), hst, hz]
  rfl

theorem exec_frameArrive_numbers (hst : (s.lp p).st = .locked) :
    ∃ t, exec (.frameArrive p ws clean parity boltPar) s = .next t ∧
      (t.lp p).place = (.locked, nextHead ((s.lp p).fn, (s.lp p).mfn, (s.lp p).tick)) := by
  refine ⟨_, exec_frameArrive_locked hl hrx hz hst, ?_⟩
  rw [State.place_countMismatch, State.place_readOverhead, State.place_keepFrame, State.lp_updLp_same,
    LoomPort.place_judge hst]

end

/-! ### Member map and labels (R234, R241) -/

section
variable {s : State} {p : Port} (hl : s.live = true)
include hl

theorem exec_mapMismatch_raised {k : Nat} (hm : (Tab.get {} (s.lp p).slots k).mism = false)
    (hd : 2 ≤ (Tab.get {} (s.lp p).slots k).differ) : ∃ t, exec (.mapMismatch p k) s = .next t ∧
      (t.lp p).slots = Tab.set {} (s.lp p).slots k { Tab.get {} (s.lp p).slots k with mism := true } := by
  change ∃ t, execMapMismatch p k s = .next t ∧ _
  refine ⟨_, happen_of _ _ (by simp [hl, hm, hd]), ?_⟩
  simp [hm]

theorem exec_mapMismatch_cleared {k : Nat} (hm : (Tab.get {} (s.lp p).slots k).mism = true)
    (ha : 2 ≤ (Tab.get {} (s.lp p).slots k).agree) : ∃ t, exec (.mapMismatch p k) s = .next t ∧
      (t.lp p).slots = Tab.set {} (s.lp p).slots k { Tab.get {} (s.lp p).slots k with mism := false } := by
  change ∃ t, execMapMismatch p k s = .next t ∧ _
  refine ⟨_, happen_of _ _ (by simp [hl, hm, ha]), ?_⟩
  simp [hm]

theorem exec_labelAccept {k : Nat} (hk : (s.thread 0 k).isSome = true) (h3 : 3 ≤ (Tab.get {} s.loom.labels k).count)
    (hne : (Tab.get {} s.loom.labels k).accepted ≠ (Tab.get {} s.loom.labels k).value + 1) :
    exec (.labelAccept p k) s = .next ((s.withLoom { s.loom with labels := Tab.upd {} s.loom.labels k fun l =>
      { l with accepted := l.value + 1 } }).refreshLabel p k) := by
  change execLabelAccept p k s = _
  exact happen_of _ _ (by simp [hl, hk, h3, hne])

end

/-- A thread's label that is judged afresh is still accepted. -/
theorem State.accepted_refreshLabel (s : State) (p : Port) (k : Nat) :
    (Tab.get {} (s.refreshLabel p k).loom.labels k).accepted = (Tab.get {} s.loom.labels k).accepted := by
  rw [State.loom_refreshLabel]
  dsimp only
  split
  · rfl
  · rw [Tab.get_set, if_pos rfl]

/-! ### Ticks (R235 to R237, R245, R246) -/

section
variable {s : State} {b k : Nat}

/-- A tick all of whose frames are in is handed on and read whole. -/
theorem State.boltRx_readAlone (lost : List Nat) (hc : s.complete b k = true) (hok : s.boltOk b = true) :
    (s.readAlone b k lost).boltRx b = (s.readCopy b k).boltRx b := by
  have hcounted : s.Counted (s.handOn b true lost) := (State.Counted.refl s).handOn b true lost
  unfold State.readAlone
  dsimp only
  rw [hc, if_pos rfl, State.boltRx_readCopy _ _ _ ((hcounted.complete b k).trans hc) ((hcounted.boltOk b).trans hok),
    State.boltRx_readCopy _ _ _ hc hok, hcounted.boltRx, hcounted.skewOf]

/-- A tick that is read is the newest of its bolt, gives its skew, and ends DOWN. -/
theorem State.readCopy_reads (hc : s.complete b k = true) (hok : s.boltOk b = true) :
    ((s.readCopy b k).boltRx b).last = some k ∧ ((s.boltRx b).st = 1 → ((s.readCopy b k).boltRx b).st = 3) ∧
    ((s.readCopy b k).boltRx b).skew = s.skewOf b k := by
  rw [State.boltRx_readCopy _ _ _ hc hok]
  split
  case isTrue => exact ⟨BoltRx.last_move _ _, fun _ => BoltRx.st_move _ _, BoltRx.skew_move _ _⟩
  case isFalse h => exact ⟨rfl, fun hdown => absurd (.inl hdown) h, rfl⟩

/-- The copy that a pair reads a tick from, and the cause of a change (Table 8-5). -/
def State.selected (s : State) (q : Pair) (k : Nat) (lostW lostP : List Nat) : Bool × Nat :=
  selectCopy q (s.cleanCopy q.working k lostW) (s.cleanCopy q.protect k lostP)

/-- A pair with a tick read from a copy. -/
def Pair.selects (w : Nat) (sel : Bool) (k : Nat) (x : Pair) : Pair :=
  if x.working = w then { x with sel := sel, last := some k } else x

/-- A protected tick is counted; both copies read it; the pair keeps the selection, and a change of it is reported. -/
theorem State.readPair_eq (q : Pair) (lostW lostP : List Nat) : ∃ u t : State, s.Counted u ∧
    t.loom = { ((u.readCopy q.working k).readCopy q.protect k).loom with
      pairs := ((u.readCopy q.working k).readCopy q.protect k).loom.pairs.upd 0
        (List.map (Pair.selects q.working (s.selected q k lostW lostP).1 k)) } ∧
    s.readPair q k lostW lostP = if (s.selected q k lostW lostP).1 = q.sel then t
      else evProt q (s.selected q k lostW lostP).1 (s.selected q k lostW lostP).2 t := by
  have hhanded (b : Nat) (present : Bool) (lost : List Nat) := (State.Counted.refl s).handOn b present lost
  exact ⟨_, _, (hhanded _ _ _).ite (((hhanded _ _ _).notDelivered _).notDelivered _), rfl, rfl⟩

/-- After a protected tick is read, its pair holds the selected copy and the tick; the other pairs are as they were. -/
theorem State.pairs_readPair (q : Pair) (lostW lostP : List Nat) : (s.readPair q k lostW lostP).pairs 0 =
    (s.pairs 0).map (Pair.selects q.working (s.selected q k lostW lostP).1 k) := by
  obtain ⟨u, t, hcounted, ht, heq⟩ := s.readPair_eq q lostW lostP
  have hloom : (s.readPair q k lostW lostP).loom = t.loom := by
    rw [heq, apply_ite State.loom, evProt, State.loom_raiseLimited, ite_self]
  have hread : ((u.readCopy q.working k).readCopy q.protect k).pairs 0 = s.pairs 0 := by
    rw [State.pairs_readCopy, State.pairs_readCopy, hcounted.pairs]
  rw [State.pairs, hloom, ht, ← hread]
  exact (P2.get_upd _ 0 0 _).trans (if_pos rfl)

variable (hl : s.live = true)
include hl

theorem exec_tickRead_alone {lw lp : List Nat} {segs : List (Nat × List Byte)} (hpair : s.pairOf 0 b = none)
    (hb : (s.bolt 0 b).isSome = true) (hok : s.boltOk b = true) (hnext : s.isNext b k = true) (hready : s.ready b k = true)
    (hhere : (s.boltPorts 0 b).any (s.here b k) = true) :
    exec (.tickRead b k lw lp segs) s = .next ((s.readAlone b k lw).dropFrames.takeSegments b k segs) := by
  change execTickRead b k lw lp segs s = _
  rw [execTickRead, hpair]
  exact happen_of _ _ (by simp only [hl, hb, hok, hnext, hready, hhere, Bool.and_self])

theorem exec_tickRead_pair {q : Pair} {lw lp : List Nat} {segs : List (Nat × List Byte)}
    (hpair : s.pairOf 0 q.working = some q) (hs : q.suspended = false) (hreads : s.pairReads q k = true) :
    exec (.tickRead q.working k lw lp segs) s =
      .next ((s.readPair q k lw lp).dropFrames.takeSegments q.working k segs) := by
  change execTickRead q.working k lw lp segs s = _
  rw [execTickRead, hpair]
  dsimp only
  rw [hs, if_neg Bool.false_ne_true]
  exact happen_of _ _ (by simp [hl, hreads])

end

/-- A bolt skips a tick that it held too long; a bolt that is not DOWN and whose two ports are LOCKED goes to SKEW (R236). -/
def State.skipTick (b k : Nat) (s : State) : State :=
  let s1 := s.setBoltRx b { s.boltRx b with last := some k, run := 0 }
  if (s.boltRx b).st != 1 && (s.boltPorts 0 b).length == 2 && !s.boltUnlocked b then s1.moveBolt b 2 3 else s1

section
variable {s : State} {b k : Nat}

theorem State.skipTick_skips : ((s.skipTick b k).boltRx b).last = some k ∧ ((s.skipTick b k).boltRx b).run = 0 ∧
    ((s.boltRx b).st ≠ 1 → (s.boltPorts 0 b).length = 2 → s.boltUnlocked b = false →
      ((s.skipTick b k).boltRx b).st = 2) := by
  unfold State.skipTick
  dsimp only
  split
  case isTrue =>
    rw [State.boltRx_moveBolt, State.boltRx_setBoltRx_same]
    exact ⟨BoltRx.last_move _ _, BoltRx.run_move _ _ rfl, fun _ _ _ => BoltRx.st_move _ _⟩
  case isFalse h =>
    rw [State.boltRx_setBoltRx_same]
    exact ⟨rfl, rfl, fun hst hlen hun => absurd (by simp [hst, hlen, hun]) h⟩

/-- Whether the other bolt of the pair has the tick or not, the bolt skips it. -/
theorem exec_skewMaxExpiry (hl : s.live = true) (hb : (s.bolt 0 b).isSome = true) (hnext : s.isNext b k = true)
    (hready : s.ready b k = false) (hhere : (s.boltPorts 0 b).any (s.here b k) = true) :
    ∃ t, exec (.skewMaxExpiry b k) s = .next t ∧ t.boltRx b = (s.skipTick b k).boltRx b := by
  change ∃ t, execSkewMaxExpiry b k s = .next t ∧ _
  refine ⟨_, happen_of _ _ (by simp only [hl, hb, hnext, hready, hhere, Bool.and_false, Bool.not_false, Bool.and_self]), ?_⟩
  rw [State.boltRx_dropFrames, apply_ite (State.boltRx · b), (((State.Counted.refl _).handOn _ _ _).notDelivered b).boltRx,
    ite_self]
  rfl

end

/-! ### Frames are sent (R219 to R222) -/

/-- A frame that is sent carries the next number and tick of its port, and leaves the device. -/
theorem exec_txFrameSend {s : State} {p : Port} {parity : Nat} {boltPar : List (Nat × Nat)} {under : List Nat}
    (hl : s.live = true) (hst : (s.txp p).st ≠ .off) (hnone : (s.ra.ports.get p).txAgreed = none) :
    ∃ t, exec (.txFrameSend p parity boltPar under) s = .next t ∧ ((t.lp p).txMfn, (t.lp p).txFn) = (s.lp p).nextTx ∧
      (t.lp p).txTick = (s.lp p).nextTxTick s.time ∧ (t.lp p).txSent = true ∧ t.out.length = s.out.length + 1 := by
  change ∃ t, execTxFrameSend p parity boltPar under s = .next t ∧ _
  unfold execTxFrameSend
  dsimp only
  rw [hnone]
  refine ⟨_, happen_of _ _ (by simp [hl, hst]), ?_⟩
  have hcounted (u : State) : u.Counted (under.foldl (fun s t => s.pm 2 t 2 1) u) :=
    State.Counted.foldl (fun _ _ h => h.pm _ _ _ _) under (State.Counted.refl u)
  rw [(hcounted _).lp, (hcounted _).out]
  rw [State.lp_bump, State.lp_emit, State.lp_withFree, State.lp_updLp_same]
  exact ⟨rfl, rfl, rfl, List.length_append⟩

/-! ### The statement -/

/-- Settles O44: each happening's answer, and what of the framer, the bolt's record or the pair it leaves; that a framer in
LOCKED numbers frames by its own count is notes/assumptions/16. -/
theorem framesAndTicks : Obligations.FramesAndTicks := by
  refine ⟨fun s p found heads hl hst hz => ⟨_, exec_alignDeclare_aligned hl hst (.inl hz), State.st_moveFramer _ _ _ _⟩,
    fun s p x n h hl hst ha hz => ⟨fun hc hn => ?third, fun hc => ?first⟩,
    fun s p hl => ⟨fun hst hg => ⟨_, exec_lockDeclare hl hst hg, State.st_moveFramer _ _ _ _⟩,
      fun hst hm => ⟨_, exec_lofDeclare hl hst hm, State.st_moveFramer _ _ _ _⟩,
      fun hst hb => ⟨_, exec_lomDeclare hl hst hb, State.st_moveFramer _ _ _ _⟩⟩,
    fun s p ws clean par bpar hl hrx hz => ⟨exec_frameArrive_aligned hl hrx hz, fun hst => ?locked⟩,
    fun s p k r hl hr => ⟨fun hm hd => ?raised, fun hm ha => ?cleared⟩,
    fun s p th x l hl hx hlab h3 hne => ?label,
    fun s b k v lw lp segs hl hpair hb hok hc hnext hready hhere => ?alone,
    fun s q k lw lp segs hl hpair hs hreads => ?pair,
    fun s b k v hl hb hnext hready hhere => ?skipped,
    fun s p par bpar under hl hst hnone => exec_txFrameSend hl hst hnone⟩
  case third =>
    have hmatch : s.search p [x] = s.updLp p fun l => { l with cands := [(x + _, n + 1)] } :=
      (State.search_singleton ha).trans (searchMatch_expected hc)
    have haligned : aligned ((s.search p [x]).lp p) = true := by
      rw [hmatch, State.lp_updLp_same]
      simp [aligned, hn]
    have hnumbers := State.numbers_declareAligned (s.search p [x]) p h
    exact ⟨_, exec_alignDeclare_aligned hl hst (.inr haligned), State.st_moveFramer _ _ _ _,
      congrArg (·.1) hnumbers, congrArg (·.2.1) hnumbers, congrArg (·.2.2) hnumbers⟩
  case first =>
    have hmatch := (State.search_singleton (x := x) ha).trans (searchMatch_first hc)
    have hlp := congrArg (State.lp · p) hmatch
    rw [State.lp_bump, State.lp_updLp_same] at hlp
    refine ⟨_, exec_alignDeclare_searching hl hst hz ?_, ?_, ?_⟩
    · rw [hlp]; rfl
    · rw [hlp]; exact hst
    · rw [hlp]
  case locked =>
    obtain ⟨t, hexec, hplace⟩ := exec_frameArrive_numbers hl hrx hz hst
    exact ⟨t, hexec, congrArg (·.1) hplace, congrArg (·.2) hplace⟩
  case raised =>
    subst hr
    obtain ⟨t, hexec, hslots⟩ := exec_mapMismatch_raised hl hm hd
    exact ⟨t, hexec, by rw [hslots, Tab.get_set, if_pos rfl]⟩
  case cleared =>
    subst hr
    obtain ⟨t, hexec, hslots⟩ := exec_mapMismatch_cleared hl hm ha
    exact ⟨t, hexec, by rw [hslots, Tab.get_set, if_pos rfl]⟩
  case label =>
    subst hlab
    refine ⟨_, exec_labelAccept hl (by rw [hx]; rfl) h3 hne, ?_⟩
    rw [State.accepted_refreshLabel, State.withLoom_loom, Tab.upd, Tab.get_set, if_pos rfl]
  case alone =>
    refine ⟨_, exec_tickRead_alone hl hpair (by rw [hb]; rfl) hok hnext hready hhere, ?_⟩
    rw [State.boltRx_takeSegments, State.boltRx_dropFrames, State.boltRx_readAlone lw hc hok]
    exact State.readCopy_reads hc hok
  case pair =>
    refine ⟨_, exec_tickRead_pair hl hpair hs hreads, ?_⟩
    rw [State.pairs, State.loom_takeSegments]
    exact State.pairs_readPair q lw lp
  case skipped =>
    obtain ⟨t, hexec, hrec⟩ := exec_skewMaxExpiry hl (by rw [hb]; rfl) hnext hready hhere
    refine ⟨t, hexec, ?_⟩
    rw [hrec]
    exact State.skipTick_skips

end Sys2Proof.Machine
end

section
/-!
PROOFS. The stripes of the Storehouse (spec/09 R262 to R265): what bytes, cells and epochs read after a write, the parity of a
stripe's cells, a read judged where one cell fails, and the statement that a write survives it.
-/

namespace Sys2Proof.Machine

/-! ### Bytes and cells (R262) -/

/-- Reading a byte after a run of bytes is written. -/
theorem Memory.read_writeAll (bs : List Byte) (m : List Host.Cell) (a c : Nat) :
    Memory.read (Memory.writeAll m a bs) c = if a ≤ c ∧ c < a + bs.length then bs.getD (c - a) 0 else Memory.read m c := by
  induction bs generalizing m a with
  | nil => rw [Memory.writeAll, if_neg (by rw [List.length_nil]; omega)]
  | cons b r ih =>
    rw [Memory.writeAll, ih, Memory.read_write, List.length_cons]
    by_cases hc : c = a
    · rw [if_neg (by omega), if_pos hc, if_pos (by omega), hc, Nat.sub_self, List.getD_cons_zero]
    · rw [if_neg hc]
      by_cases hin : a + 1 ≤ c ∧ c < a + 1 + r.length
      · obtain ⟨d, rfl⟩ : ∃ d, c = a + 1 + d := ⟨c - (a + 1), by omega⟩
        rw [if_pos hin, if_pos (by omega), Nat.add_sub_cancel_left, show a + 1 + d - a = d + 1 by omega, List.getD_cons_succ]
      · rw [if_neg hin, if_neg (by omega)]

/-- Byte `i` of the cell of stripe `n` on stack `k`. -/
def Store.byte (st : Store) (n k i : Nat) : Byte := Memory.read st.mem (cellAddr n k + i)

theorem Store.cell_eq_map (st : Store) (n k : Nat) : st.cell n k = (List.range 256).map (st.byte n k) := rfl

@[simp] theorem Store.length_cell (st : Store) (n k : Nat) : (st.cell n k).length = 256 := by simp [Store.cell]

theorem map_range_getD {l : List Byte} {m : Nat} (h : l.length = m) : ((List.range m).map fun i => l.getD i 0) = l := by
  refine List.ext_getElem (by simp [h]) fun i h1 h2 => ?_
  simp [h2]

section
variable (st : Store) {n j k epoch : Nat} {bs : List Byte}

theorem Store.byte_setCell {i : Nat} (hi : i < 256) (hbs : bs.length = 256) :
    (st.setCell n k epoch bs).byte n j i = if j = k then bs.getD i 0 else st.byte n j i := by
  rw [Store.byte, Store.setCell, Memory.read_writeAll, hbs, Store.byte]
  unfold cellAddr
  by_cases hjk : j = k
  · rw [if_pos hjk, if_pos (by omega), hjk, Nat.add_sub_cancel_left]
  · rw [if_neg hjk, if_neg (by omega)]

/-- Reading a cell of a stripe after one of its cells is written. -/
theorem Store.cell_setCell (hbs : bs.length = 256) :
    (st.setCell n k epoch bs).cell n j = if j = k then bs else st.cell n j := by
  have hbytes : (st.setCell n k epoch bs).cell n j =
      (List.range 256).map fun i => if j = k then bs.getD i 0 else st.byte n j i :=
    List.map_congr_left fun i hi => st.byte_setCell (List.mem_range.mp hi) hbs
  rw [hbytes]
  split
  · exact map_range_getD hbs
  · rfl

theorem Store.epoch_setCell : (st.setCell n k epoch bs).epoch n j = if j = k then epoch else st.epoch n j := by
  rw [Store.epoch, Store.setCell, Tab.get_set]
  by_cases hjk : j = k
  · rw [if_pos (by rw [hjk]), if_pos hjk]
  · rw [if_neg (by omega), if_neg hjk]
    rfl

end

/-! ### The cells of a stripe's data (R262) -/

/-- The 256 bytes of a stripe's data that its data cell `i` holds. -/
def dataCell (data : List Byte) (i : Nat) : List Byte := ((fixData data).drop (256 * i)).take 256

section
variable (data : List Byte)

@[simp] theorem length_fixData : (fixData data).length = 768 := by
  rw [fixData, List.length_take, List.length_append, List.length_replicate]
  omega

@[simp] theorem fixData_fixData : fixData (fixData data) = fixData data :=
  List.take_left' (length_fixData data)

theorem length_dataCell {i : Nat} (h : i < 3) : (dataCell data i).length = 256 := by
  rw [dataCell, List.length_take, List.length_drop, length_fixData]
  omega

/-- The three data cells side by side are the stripe's data. -/
theorem dataCells_append : dataCell data 0 ++ (dataCell data 1 ++ dataCell data 2) = fixData data := by
  have hlast : dataCell data 2 = (fixData data).drop 512 := List.take_of_length_le (by simp)
  have hmid : dataCell data 1 = ((fixData data).drop 256).take 256 := rfl
  have hfirst : dataCell data 0 = (fixData data).take 256 := rfl
  have hdrop : (fixData data).drop 512 = ((fixData data).drop 256).drop 256 := (List.drop_drop (i := 256) (j := 256)).symm
  rw [hlast, hmid, hfirst, hdrop, List.take_append_drop, List.take_append_drop]

theorem eq_of_lt_four {k : Nat} (h : k < 4) : k = 0 ∨ k = 1 ∨ k = 2 ∨ k = 3 := by omega

theorem flatMap_congr_of_mem {l : List Nat} {f g : Nat → List Byte} (h : ∀ k ∈ l, f k = g k) : l.flatMap f = l.flatMap g :=
  congrArg List.flatten (List.map_congr_left h)

theorem lt_four_of_mem_dataStacks {n k : Nat} (h : k ∈ dataStacks n) : k < 4 := List.mem_range.mp (List.mem_filter.mp h).1

theorem dataStacks_findIdx : ∀ p < 4, ∀ k < 4, ((List.range 4).filter fun j => j != p).findIdx? (· == k) =
    if k = p then none else some (if k < p then k else k - 1) := by
  decide

theorem stripeCell_eq {n k : Nat} (hk : k < 4) : stripeCell n k data =
    if k = n % 4 then xorBytes (xorBytes (dataCell data 0) (dataCell data 1)) (dataCell data 2)
    else dataCell data (if k < n % 4 then k else k - 1) := by
  rw [stripeCell, dataStacks, dataStacks_findIdx (n % 4) (Nat.mod_lt n (by decide)) k hk]
  by_cases hkp : k = n % 4
  · rw [if_pos hkp, if_pos hkp]
    rfl
  · rw [if_neg hkp, if_neg hkp]
    rfl

theorem length_stripeCell {n k : Nat} (hk : k < 4) : (stripeCell n k data).length = 256 := by
  rw [stripeCell_eq data hk]
  split
  · simp [xorBytes, length_dataCell]
  · exact length_dataCell data (by split <;> omega)

/-- What the data cells of a stripe hold is the stripe's data, whichever stack holds the parity. -/
theorem flatMap_stripeCell (n : Nat) : ((dataStacks n).flatMap fun k => stripeCell n k data) = fixData data := by
  have hp : n % 4 < 4 := Nat.mod_lt n (by decide)
  rw [flatMap_congr_of_mem fun k hk => stripeCell_eq data (lt_four_of_mem_dataStacks hk), dataStacks, ← dataCells_append]
  generalize n % 4 = p at hp
  rcases eq_of_lt_four hp with rfl | rfl | rfl | rfl <;> simp [List.range_succ]

theorem getD_xorBytes {a b : List Byte} (h : a.length = b.length) (i : Nat) :
    (xorBytes a b).getD i 0 = a.getD i 0 ^^^ b.getD i 0 := by
  rw [xorBytes, List.getD_eq_getElem?_getD, List.getD_eq_getElem?_getD, List.getD_eq_getElem?_getD, List.getElem?_zipWith]
  by_cases hi : i < a.length
  · rw [List.getElem?_eq_getElem hi, List.getElem?_eq_getElem (h ▸ hi)]
    rfl
  · rw [List.getElem?_eq_none (Nat.le_of_not_lt hi), List.getElem?_eq_none (h ▸ Nat.le_of_not_lt hi)]
    rfl

/-- The bytes of a stripe's four cells at one place cancel: the parity cell is the XOR of the others. -/
theorem stripeCell_parity (n i : Nat) : (stripeCell n 0 data).getD i 0 ^^^ (stripeCell n 1 data).getD i 0 ^^^
    (stripeCell n 2 data).getD i 0 ^^^ (stripeCell n 3 data).getD i 0 = 0 := by
  have h0 := length_dataCell data (i := 0) (by decide)
  have h1 := length_dataCell data (i := 1) (by decide)
  have h2 := length_dataCell data (i := 2) (by decide)
  have hbyte (k : Nat) (hk : k < 4) : (stripeCell n k data).getD i 0 =
      if k = n % 4 then (dataCell data 0).getD i 0 ^^^ (dataCell data 1).getD i 0 ^^^ (dataCell data 2).getD i 0
      else (dataCell data (if k < n % 4 then k else k - 1)).getD i 0 := by
    rw [stripeCell_eq data hk]
    split
    · rw [getD_xorBytes (by simp [xorBytes, h0, h1, h2]), getD_xorBytes (h0.trans h1.symm)]
    · rfl
  have hp : n % 4 < 4 := Nat.mod_lt n (by decide)
  rw [hbyte 0 (by decide), hbyte 1 (by decide), hbyte 2 (by decide), hbyte 3 (by decide)]
  generalize (dataCell data) = d
  generalize n % 4 = p at hp
  have hself := BitVec.xor_self (x := (d 0).getD i 0 ^^^ (d 1).getD i 0 ^^^ (d 2).getD i 0)
  refine Eq.trans ?_ hself
  rcases eq_of_lt_four hp with rfl | rfl | rfl | rfl <;> simp only [Nat.reduceEqDiff, Nat.reduceLT, Nat.reduceSub, if_true, if_false] <;> ac_rfl

end

/-! ### A cell from the other three (R265) -/

theorem xorBytes_map {α : Type} (l : List α) (f g : α → Byte) : xorBytes (l.map f) (l.map g) = l.map fun i => f i ^^^ g i := by
  simp [xorBytes, List.zipWith_map, List.zipWith_self]

theorem Store.foldl_xorBytes (st : Store) (n : Nat) (ks : List Nat) (f : Nat → Byte) :
    ks.foldl (fun x j => xorBytes x (st.cell n j)) ((List.range 256).map f) =
      (List.range 256).map fun i => ks.foldl (fun x j => x ^^^ st.byte n j i) (f i) := by
  induction ks generalizing f with
  | nil => rfl
  | cons j r ih => rw [List.foldl_cons, Store.cell_eq_map, xorBytes_map, ih]; rfl

/-- Where the bytes of the four cells cancel, each cell is the XOR of the other three. -/
theorem Store.rebuilt_of_parity {st : Store} {n k : Nat} (hk : k < 4)
    (h : ∀ i < 256, st.byte n 0 i ^^^ st.byte n 1 i ^^^ st.byte n 2 i ^^^ st.byte n 3 i = 0) : st.rebuilt n k = st.cell n k := by
  have hzero : List.replicate 256 (0 : Byte) = (List.range 256).map fun _ => 0 := by rw [List.map_const', List.length_range]
  rw [Store.rebuilt, hzero, Store.foldl_xorBytes, Store.cell_eq_map]
  refine List.map_congr_left fun i hi => ?_
  have hcancel := h i (List.mem_range.mp hi)
  refine BitVec.xor_eq_zero_iff.mp (Eq.trans ?_ hcancel)
  rcases eq_of_lt_four hk with rfl | rfl | rfl | rfl <;> simp [List.range_succ] <;> ac_rfl

/-! ### Cells of a stripe written and made anew (R264, R271, R273) -/

/-- At most payloads and epochs of cells differ. -/
def Store.Rewritten (a b : Store) : Prop := ∃ m e, b = { a with mem := m, epochs := e }

theorem Store.Rewritten.refl (st : Store) : st.Rewritten st := ⟨_, _, rfl⟩

theorem Store.Rewritten.setCell {a b : Store} (h : a.Rewritten b) (n k epoch : Nat) (bs : List Byte) :
    a.Rewritten (b.setCell n k epoch bs) := by
  obtain ⟨m, e, rfl⟩ := h
  exact ⟨_, _, rfl⟩

theorem Store.Rewritten.foldl {α : Type} {f : Store → α → Store} {a b : Store} (h : a.Rewritten b)
    (hf : ∀ u x, a.Rewritten u → a.Rewritten (f u x)) (l : List α) : a.Rewritten (l.foldl f b) :=
  List.foldlRecOn (motive := fun u : Store => a.Rewritten u) l f h fun u hu x _ => hf u x hu

section
variable {a b : Store} (h : a.Rewritten b)
include h

theorem Store.Rewritten.dram : b.dram = a.dram := by
  obtain ⟨m, e, rfl⟩ := h
  rfl

theorem Store.Rewritten.bays : b.bays = a.bays := by
  obtain ⟨m, e, rfl⟩ := h
  rfl

theorem Store.Rewritten.parts : b.parts = a.parts := by
  obtain ⟨m, e, rfl⟩ := h
  rfl

theorem Store.Rewritten.inject : b.inject = a.inject := by
  obtain ⟨m, e, rfl⟩ := h
  rfl

end

theorem Store.Rewritten.remakes {a b : Store} (h : a.Rewritten b) (k : Nat) (l : List Nat) :
    a.Rewritten (l.foldl (fun st n => st.remake k n) b) :=
  h.foldl (fun _ _ hu => hu.setCell _ _ _ _) l

/-- The cells of a stripe on some stacks are written with its data. -/
def Store.putCells (n epoch : Nat) (data : List Byte) (ks : List Nat) (st : Store) : Store :=
  ks.foldl (fun st k => st.setCell n k epoch (stripeCell n k data)) st

theorem Store.putCells_rewritten (n epoch : Nat) (data : List Byte) (ks : List Nat) (st : Store) :
    st.Rewritten (st.putCells n epoch data ks) :=
  (Store.Rewritten.refl st).foldl (fun _ _ hu => hu.setCell _ _ _ _) ks

section
variable {n epoch j : Nat} {data : List Byte} {ks : List Nat}

theorem Store.cell_putCells (hks : ∀ k ∈ ks, k < 4) (st : Store) :
    (st.putCells n epoch data ks).cell n j = if j ∈ ks then stripeCell n j data else st.cell n j := by
  induction ks generalizing st with
  | nil => rfl
  | cons k r ih =>
    have hk := hks k List.mem_cons_self
    have hcell := st.cell_setCell (n := n) (j := j) (k := k) (epoch := epoch) (length_stripeCell data (n := n) hk)
    rw [Store.putCells, List.foldl_cons, ← Store.putCells, ih fun x hx => hks x (List.mem_cons_of_mem k hx), hcell]
    by_cases hj : j = k <;> simp [hj]

theorem Store.epoch_putCells (st : Store) :
    (st.putCells n epoch data ks).epoch n j = if j ∈ ks then epoch else st.epoch n j := by
  induction ks generalizing st with
  | nil => rfl
  | cons k r ih =>
    rw [Store.putCells, List.foldl_cons, ← Store.putCells, ih, Store.epoch_setCell]
    by_cases hj : j = k <;> simp [hj]

end

/-! ### A whole-stripe write and a read with every stack WORKING (R264, R265) -/

/-- Every stack is WORKING. -/
def State.allWork (s : State) : Prop := ∀ k, k < 4 → (s.stack k).st = .working

theorem State.allWork.of_dram {s t : State} (h : s.allWork) (hd : t.store.dram = s.store.dram) : t.allWork := by
  intro k hk
  rw [State.stack, hd]
  exact h k hk

theorem State.logStripe_of_allWork {s : State} (h : s.allWork) (n : Nat) : s.logStripe n = s := by
  refine List.foldlRecOn (motive := fun u : State => u = s) _ _ rfl fun u hu k hk => ?_
  rw [hu, if_neg]
  rintro ⟨hst, -⟩
  rw [h k (List.mem_range.mp hk)] at hst
  cases hst

theorem State.writeStripe_of_allWork {s : State} (h : s.allWork) (n epoch : Nat) (data : List Byte) :
    s.writeStripe n epoch data = s.withStore { s.store.putCells n epoch data (List.range 4) with
      writeBacks := s.store.writeBacks.filter fun e => e.1 != n } := by
  have hnone : ((List.range 4).filter fun k => (s.stack k).st != .working) = [] :=
    List.filter_eq_nil_iff.mpr fun k hk => by simp [h k (List.mem_range.mp hk)]
  have hall : ((List.range 4).filter fun k => (s.stack k).st == .working || (s.stack k).st == .restoring) = List.range 4 :=
    List.filter_eq_self.mpr fun k hk => by simp [h k (List.mem_range.mp hk)]
  have hprot : s.protection ≠ 2 := by rw [State.protection, hnone]; decide
  rw [State.writeStripe, if_neg hprot]
  dsimp only
  rw [hall, ← Store.putCells]
  exact State.logStripe_of_allWork (h.of_dram (s.store.putCells_rewritten n epoch data _).dram) n

/-- A stripe whose four cells hold its data under one epoch. -/
structure Store.Holds (st : Store) (n epoch : Nat) (data : List Byte) : Prop where
  cell : ∀ k, k < 4 → st.cell n k = stripeCell n k data
  epoch : ∀ k, k < 4 → st.epoch n k = epoch

theorem Store.holds_putCells (st : Store) (n epoch : Nat) (data : List Byte) :
    (st.putCells n epoch data (List.range 4)).Holds n epoch data where
  cell k hk := by rw [Store.cell_putCells fun _ => List.mem_range.mp, if_pos (List.mem_range.mpr hk)]
  epoch k hk := by rw [Store.epoch_putCells, if_pos (List.mem_range.mpr hk)]

/-- Each cell of a stripe that holds its data is the XOR of the other three (R262). -/
theorem Store.Holds.rebuilt {st : Store} {n epoch : Nat} {data : List Byte} (h : st.Holds n epoch data) {k : Nat} (hk : k < 4) :
    st.rebuilt n k = st.cell n k := by
  refine Store.rebuilt_of_parity hk fun i hi => ?_
  have hbyte (j : Nat) (hj : j < 4) : st.byte n j i = (stripeCell n j data).getD i 0 := by
    rw [← h.cell j hj, Store.cell_eq_map]
    simp [hi]
  rw [hbyte 0 (by decide), hbyte 1 (by decide), hbyte 2 (by decide), hbyte 3 (by decide)]
  exact stripeCell_parity data n i

/-- At most one of the four stacks' cells fails its CRC. -/
def oneFails (bad : List Nat) : Prop := bad = [] ∨ ∃ k, k < 4 ∧ bad = [k]

theorem oneFails_counts {bad : List Nat} (h : oneFails bad) :
    3 ≤ ((List.range 4).filter fun k => !bad.contains k).length ∧ ((List.range 4).filter fun k => bad.contains k).length < 2 := by
  obtain rfl | ⟨k, hk, rfl⟩ := h
  · decide
  · rcases eq_of_lt_four hk with rfl | rfl | rfl | rfl <;> decide

theorem commonEpoch_replicate {m : Nat} (h : 3 ≤ m) (e : Nat) : commonEpoch (List.replicate m e) = some e := by
  obtain ⟨r, rfl⟩ := Nat.exists_eq_add_of_le' (Nat.le_trans (by decide : 1 ≤ 3) h)
  rw [commonEpoch, List.replicate_succ, List.find?_cons_of_pos]
  rw [← List.replicate_succ, List.filter_eq_self.mpr fun x hx => by simp [List.eq_of_mem_replicate hx], List.length_replicate]
  exact decide_eq_true h

/-- A read of a stripe that holds its data, of which at most one cell fails its CRC, is judged good data (Table 9-2). -/
theorem State.judgeStripe_of_holds {s : State} {kind n epoch : Nat} {data : List Byte} {bad : List Nat}
    (hinj : s.store.inject = none) (hwork : s.allWork) (hst : s.store.Holds n epoch data) (hbad : oneFails bad) :
    (s.judgeStripe kind n epoch bad).1 = ⟨0, fixData data, []⟩ := by
  have haway (k : Nat) (hk : k < 4) : s.away k = false := by rw [State.away, hwork k hk]
  have hfetched : ((List.range 4).filter fun k => !s.away k) = List.range 4 :=
    List.filter_eq_self.mpr fun k hk => by simp [haway k (List.mem_range.mp hk)]
  obtain ⟨hthree, hfew⟩ := oneFails_counts hbad
  have hlt {k : Nat} (hk : k ∈ (List.range 4).filter fun k => !bad.contains k) : k < 4 :=
    List.mem_range.mp (List.mem_filter.mp hk).1
  have hcommon : commonEpoch (((List.range 4).filter fun k => !bad.contains k).map (s.store.epoch n)) = some epoch := by
    rw [List.map_congr_left fun k hk => hst.epoch k (hlt hk), List.map_const', commonEpoch_replicate hthree]
  have hodd : (((List.range 4).filter fun k => !bad.contains k).filter fun k => s.store.epoch n k != epoch) = [] :=
    List.filter_eq_nil_iff.mpr fun k hk => by simp [hst.epoch k (hlt hk)]
  have hwrong : ((List.range 4).filter fun k => !((List.range 4).filter fun k => !bad.contains k).contains k) =
      (List.range 4).filter fun k => bad.contains k :=
    List.filter_congr fun k hk => by simp [List.mem_range.mp hk]
  have hdata : ((dataStacks n).flatMap fun k => if ((List.range 4).filter fun k => bad.contains k).contains k
      then s.store.rebuilt n k else s.store.cell n k) = fixData data := by
    rw [← flatMap_stripeCell data n]
    refine flatMap_congr_of_mem fun k hk => ?_
    have hk := lt_four_of_mem_dataStacks hk
    rw [hst.rebuilt hk, ite_self, hst.cell k hk]
  unfold State.judgeStripe
  simp only [hinj, List.isEmpty_nil, if_true, hfetched, List.contains_nil, Bool.not_false, Bool.and_true, hcommon, hodd,
    Bool.or_false, hwrong, hdata, Option.isNone_some, Bool.false_or, decide_eq_true_eq, if_neg (Nat.not_le.mpr hfew)]

/-! ### The granted reads and writes of a stripe (R264, R268) -/

/-- The state after a read: where it reads uncorrectable, without what its partition held in the stripe (R309). -/
def State.afterRead (kind n : Nat) (r : Judged × State) : State :=
  if r.1.mark = 2 then (if kind = 2 then r.2.queueLost n else if kind = 3 then r.2.recordsLost n
    else if kind = 4 then r.2.tableLost n [0, 1, 2] else r.2) else r.2

/-- A whole-stripe write to a partition of a fixed kind. -/
def State.writeFixed (kind n : Nat) (data : List Byte) (s : State) : State :=
  let u := ((s.bump (storeCtr 1) 1).granted 1).writeStripe n (s.bay (n / bayStripes)).epoch data
  if kind = 4 then u.tableWritten n data else u

section
variable {s : State} {kind : Fin 5} {n : Nat} (hl : s.live = true) (hn : n < stripes)
include hl hn

theorem exec_stripeRead {bad : List Nat} (hk : kind.val ≠ 0) (ho : s.part kind.val = none ∨ s.ofKind kind.val n = true) :
    exec (.stripeRead kind n bad) s = .next (State.afterRead kind.val n (s.readStripe kind.val n bad)) := by
  change execStripeRead kind n bad s = _
  rw [execStripeRead, if_neg (Nat.not_le.mpr hn), if_neg hk]
  exact happen_of _ _ (by rcases ho with ho | ho <;> simp [hl, ho])

theorem exec_stripeWrite_fixed {p : Port} {tick : Nat} {data : List Byte} (hk : 3 ≤ kind.val)
    (hp : (s.part kind.val).isSome = true) (ho : s.ofKind kind.val n = true) :
    exec (.stripeWrite kind n p tick data) s = .next (s.writeFixed kind.val n (fixData data)) := by
  change execStripeWrite kind n p tick data s = _
  obtain ⟨q, hq⟩ := Option.isSome_iff_exists.mp hp
  rw [execStripeWrite, if_neg (by omega), if_neg (by omega), if_neg (by omega), hq]
  exact happen_of _ _ (by rw [hl, ho]; rfl)

end

/-! ### What a whole-stripe write stores, a read delivers -/

theorem State.store_writeFixed_of_allWork {s : State} (h : s.allWork) (kind n : Nat) (data : List Byte) :
    ∃ d w, (s.writeFixed kind n data).store =
      { { s.store with demand := d }.putCells n (s.bay (n / bayStripes)).epoch data (List.range 4) with writeBacks := w } := by
  have hwrite := State.writeStripe_of_allWork (s := (s.bump (storeCtr 1) 1).granted 1) h n (s.bay (n / bayStripes)).epoch data
  refine ⟨(s.time, 1) :: s.store.demand.filter fun e => decide (s.time < e.1 + milli),
    s.store.writeBacks.filter fun e => e.1 != n, ?_⟩
  rw [State.writeFixed, hwrite]
  dsimp only
  split
  · exact (State.tableWritten_keeps (cs := [.crier]) (Keeps.refl _)).frame .store (by decide)
  · rfl

theorem State.readStripe_of_holds {s : State} {kind n : Nat} {data : List Byte} {bad : List Nat}
    (hp : (s.part kind).isSome = true) (hinj : s.store.inject = none) (hwork : s.allWork)
    (hst : s.store.Holds n (s.bay (n / bayStripes)).epoch data) (hbad : oneFails bad) :
    (s.readStripe kind n bad).1.mark = 0 ∧
      (s.readStripe kind n bad).2.store.delivered = some ⟨kind, n, 0, fixData data⟩ := by
  obtain ⟨q, hq⟩ := Option.isSome_iff_exists.mp hp
  have hj := State.judgeStripe_of_holds (s := (s.bump (storeCtr 0) 1).granted 1) (kind := kind) hinj hwork
    ⟨hst.cell, hst.epoch⟩ hbad
  rw [State.readStripe, hq]
  dsimp only
  rw [State.withStore_store, hj]
  exact ⟨rfl, rfl⟩

theorem Keeps.live_eq {cs : List Comp} {s t : State} (h : Keeps cs s t) (hboot : .boot ∉ cs) (htiming : .timing ∉ cs) :
    t.live = s.live := by
  rw [State.live, h.frame .boot hboot, h.frame .timing htiming, State.live]

/-- Settles O48: the write leaves the stripe holding its data in the epoch of its bay, with every stack WORKING, and such a
stripe reads as its data where at most one cell fails. -/
theorem stripeSurvivesAFailedCell : Obligations.StripeSurvivesAFailedCell := by
  intro s kind n p tick data hl hn hkind hp ho hwork hinj
  have hk : 3 ≤ kind.val := by rcases hkind with rfl | rfl <;> decide
  have hwrite := exec_stripeWrite_fixed hl hn (p := p) (tick := tick) (data := data) hk hp ho
  refine ⟨_, hwrite, fun bad hbad => ?_⟩
  obtain ⟨d, w, ht⟩ := State.store_writeFixed_of_allWork hwork kind.val n (fixData data)
  have hput := { s.store with demand := d }.putCells_rewritten n (s.bay (n / bayStripes)).epoch (fixData data) (List.range 4)
  have hholds := { s.store with demand := d }.holds_putCells n (s.bay (n / bayStripes)).epoch (fixData data)
  have hframe := keeps_of_exec hwrite
  generalize s.writeFixed kind.val n (fixData data) = t at *
  have hbay (b : Nat) : t.bay b = s.bay b := by rw [State.bay, ht, hput.bays]; rfl
  have hpart : t.part kind.val = s.part kind.val := by rw [State.part, ht, hput.parts]; rfl
  have hlive : t.live = s.live := hframe.live_eq (of_decide_eq_true rfl) (of_decide_eq_true rfl)
  obtain ⟨hmark, hdelivered⟩ := State.readStripe_of_holds (s := t) (kind := kind.val) (n := n) (data := fixData data) (bad := bad)
    (by rw [hpart, hp]) (by rw [ht, hput.inject, hinj]) (State.allWork.of_dram hwork (by rw [ht, hput.dram]))
    (by rw [ht, hbay]; exact ⟨hholds.cell, hholds.epoch⟩) hbad
  have hof : t.ofKind kind.val n = true := by rw [State.ofKind, hbay, ← State.ofKind, ho]
  have hread := exec_stripeRead (hlive.trans hl) hn (bad := bad) (by omega) (.inr hof)
  rw [State.afterRead, if_neg (by rw [hmark]; decide)] at hread
  exact ⟨_, hread, by rw [hdelivered, fixData_fixData]⟩

end Sys2Proof.Machine
end

section
/-!
PROOFS. The Storehouse's partitions, bays and stacks (spec/09 R267 to R278): what leaves the Storehouse alone, what each reads after
one is changed, a stack's change of state, the end of a restore and the loss of a stack, and what held writers leave unchanged.
-/

namespace Sys2Proof.Machine

/-! ### The Storehouse after what leaves it alone -/

theorem Keeps.store_eq {cs : List Comp} {s t : State} (h : Keeps cs s t) (hstore : .store ∉ cs) : t.store = s.store :=
  h.frame .store hstore

section
variable (s : State)

@[simp] theorem State.store_bump (k n : Nat) : (s.bump k n).store = s.store := rfl

@[simp] theorem State.store_raise (code sev ha data : Nat) : (s.raise code sev ha data).store = s.store :=
  (State.raise_keeps (cs := [.clerk, .hier, .tally]) (Keeps.refl s)).store_eq (by decide)

@[simp] theorem State.store_raiseAtMost (most key code sev ha data : Nat) :
    (s.raiseAtMost most key code sev ha data).store = s.store :=
  (State.raiseAtMost_keeps (cs := [.clerk, .hier, .tally]) (Keeps.refl s)).store_eq (by decide)

@[simp] theorem State.store_refreshHealth : s.refreshHealth.store = s.store :=
  (State.refreshHealth_keeps (cs := [.clerk, .hier, .tally]) (Keeps.refl s)).store_eq (by decide)

@[simp] theorem State.store_endJob (num status : Nat) (ws : List Word) : (s.endJob num status ws).store = s.store :=
  (State.endJob_keeps (cs := [.clerk, .hier, .tally]) (Keeps.refl s)).store_eq (by decide)

@[simp] theorem State.store_commitSeg (u : HeldUnit) (n : Nat) : (s.commitSeg u n).store = s.store :=
  (State.commitSeg_keeps (cs := [.flow]) (Keeps.refl s)).store_eq (by decide)

end

/-! ### Partitions, bays and stacks after one is changed -/

section
variable (s : State)

/-- Reading a partition after one is put. -/
theorem State.part_setPart (k j : Nat) (p : Part) : (s.setPart k p).part j = if j = k then some p else s.part j :=
  Tab.get_set s.store.parts k j

@[simp] theorem State.part_setPart_same (k : Nat) (p : Part) : (s.setPart k p).part k = some p := by
  rw [State.part_setPart, if_pos rfl]

/-- Reading a stack after one is changed. -/
theorem State.stack_updStack (k j : Nat) (f : Stack → Stack) :
    (s.updStack k f).stack j = if j = k then f (s.stack k) else s.stack j :=
  Tab.get_set s.store.dram k j

/-- Changing some entries of a table, each perhaps more than once, by a change that does nothing the second time. -/
theorem Tab.get_foldl_upd {α : Type} [DecidableEq α] {d : α} {f : α → α} (hf : ∀ x, f (f x) = f x) (l : List Nat) (t : Tab α)
    (b : Nat) : Tab.get d (l.foldl (fun t b => Tab.upd d t b f) t) b = if b ∈ l then f (Tab.get d t b) else Tab.get d t b := by
  induction l generalizing t with
  | nil => rfl
  | cons a r ih =>
    rw [List.foldl_cons, ih, Tab.upd, Tab.get_set]
    by_cases hb : b = a
    · simp [hb, hf]
    · simp [hb]

/-- Reading a bay after those of a kind are changed. -/
theorem State.bay_mapBays {f : Bay → Bay} (hf : ∀ x, f (f x) = f x) (k b : Nat) :
    (s.mapBays k f).bay b = if b ∈ s.baysOf k then f (s.bay b) else s.bay b :=
  Tab.get_foldl_upd hf _ _ _

/-- Reading a bay after the lowest free ones are given to a partition (R267, R274). -/
theorem State.bay_assignBays (k n b : Nat) : (s.assignBays k n).bay b =
    if b ∈ ((List.range bayCount).filter fun b => (s.bay b).kind == 0).take n then ⟨k, s.store.epochNext, false⟩ else s.bay b :=
  Tab.get_foldl_upd (d := ({} : Bay)) (f := fun _ => (⟨k, s.store.epochNext, false⟩ : Bay)) (fun _ => rfl) _ _ _

end

/-! ### Stacks that change state (R269, R270, R273) -/

section
variable (s : State) (k : Nat) (new : StackSt) (cause : Nat)

theorem State.store_moveStack : (s.moveStack k new cause).store =
    if (s.stack k).st = new then s.store else (s.updStack k fun x => { x with st := new, log := [] }).store := by
  unfold State.moveStack
  dsimp only
  split
  · rfl
  · rw [State.store_refreshHealth, State.store_raise]

/-- A stack's change of state stays in the table of stacks. -/
theorem State.dram_moveStack : ∃ d, (s.moveStack k new cause).store = { s.store with dram := d } := by
  rw [State.store_moveStack]
  split
  · exact ⟨_, rfl⟩
  · exact ⟨_, rfl⟩

@[simp] theorem State.restore_moveStack : (s.moveStack k new cause).store.restore = s.store.restore := by
  obtain ⟨d, h⟩ := s.dram_moveStack k new cause
  rw [h]

theorem State.st_moveStack_same : ((s.moveStack k new cause).stack k).st = new := by
  rw [State.stack, State.store_moveStack]
  split
  · assumption
  · exact congrArg Stack.st ((s.stack_updStack k k _).trans (if_pos rfl))

theorem State.stack_moveStack_of_ne {j : Nat} (h : j ≠ k) : (s.moveStack k new cause).stack j = s.stack j := by
  rw [State.stack, State.store_moveStack]
  split
  · rfl
  · exact (s.stack_updStack k j _).trans (if_neg h)

end

/-- A restore that ends leaves the Storehouse as its stack's last change of state does (R273). -/
theorem State.store_endRestore {s : State} {r : Restore} (h : s.store.restore = some r) (status : Nat) :
    ∃ (u : State) (cause : Nat), u.store = { s.store with restore := none } ∧
      (s.endRestore status).store = (u.moveStack r.stack (if status = 0 then .working else .lost) cause).store := by
  unfold State.endRestore
  rw [h]
  dsimp only
  rw [State.store_endJob]
  have hfree : (if status ≠ 0 ∧ r.phase = 2 then s.take.2 else s).store = s.store := by split <;> rfl
  exact ⟨_, _, congrArg (fun st : Store => { st with restore := none }) hfree, rfl⟩

section
variable {s : State} {r : Restore} (h : s.store.restore = some r) (status : Nat)
include h

theorem State.restore_endRestore : (s.endRestore status).store.restore = none := by
  obtain ⟨u, cause, hu, hend⟩ := State.store_endRestore h status
  rw [hend, State.restore_moveStack, hu]

theorem State.st_endRestore :
    ((s.endRestore status).stack r.stack).st = if status = 0 then .working else .lost := by
  obtain ⟨u, cause, hu, hend⟩ := State.store_endRestore h status
  rw [State.stack, hend]
  exact u.st_moveStack_same _ _ _

theorem State.stack_endRestore_of_ne {j : Nat} (hj : j ≠ r.stack) : (s.endRestore status).stack j = s.stack j := by
  obtain ⟨u, cause, hu, hend⟩ := State.store_endRestore h status
  rw [State.stack, hend]
  exact (u.stack_moveStack_of_ne _ _ _ hj).trans (by rw [State.stack, hu, State.stack])

end

/-- The stack that is lost is LOST, whether or not the loss ends the restore of another (R270, R273). -/
theorem State.st_loseStack (s : State) (k cause : Nat) : ((s.loseStack k cause).stack k).st = .lost := by
  have hst := (s.bump (storeCtr 10) 1).st_moveStack_same k .lost cause
  have hrestore := (s.bump (storeCtr 10) 1).restore_moveStack k .lost cause
  unfold State.loseStack
  dsimp only
  split
  next r hr =>
    split
    · exact hst
    · rw [State.stack_endRestore_of_ne (hrestore.trans hr) _ (Ne.symm ‹_›)]
      exact hst
  next => exact hst

/-! ### What no stack's state, no cell and no grant touches: partitions, bays and the next epoch -/

/-- The partitions, the bays and the epoch that the next partition or growth takes. -/
def Store.layout (st : Store) : Tab (Option Part) × Tab Bay × Nat := (st.parts, st.bays, st.epochNext)

/-- The bays and the next epoch. -/
def Store.plan (st : Store) : Tab Bay × Nat := (st.bays, st.epochNext)

section
variable {s t : State}

theorem State.part_of_layout (h : t.store.layout = s.store.layout) (k : Nat) : t.part k = s.part k := by
  rw [State.part, show t.store.parts = s.store.parts from congrArg (·.1) h, State.part]

theorem State.plan_of_layout (h : t.store.layout = s.store.layout) : t.store.plan = s.store.plan := congrArg (·.2) h

theorem State.bay_of_plan (h : t.store.plan = s.store.plan) (b : Nat) : t.bay b = s.bay b := by
  rw [State.bay, show t.store.bays = s.store.bays from congrArg (·.1) h, State.bay]

theorem State.epochNext_of_plan (h : t.store.plan = s.store.plan) : t.store.epochNext = s.store.epochNext := congrArg (·.2) h

end

theorem Store.Rewritten.layout {a b : Store} (h : a.Rewritten b) : b.layout = a.layout := by
  obtain ⟨m, e, rfl⟩ := h
  rfl

section
variable (s : State)

@[simp] theorem State.layout_moveStack (k : Nat) (new : StackSt) (cause : Nat) :
    (s.moveStack k new cause).store.layout = s.store.layout := by
  obtain ⟨d, h⟩ := s.dram_moveStack k new cause
  rw [h]
  rfl

@[simp] theorem State.layout_endRestore (status : Nat) : (s.endRestore status).store.layout = s.store.layout := by
  cases h : s.store.restore with
  | none => rw [State.endRestore, h]
  | some r =>
    obtain ⟨u, cause, hu, hend⟩ := State.store_endRestore h status
    rw [hend, State.layout_moveStack, hu]
    rfl

@[simp] theorem State.layout_loseStack (k cause : Nat) : (s.loseStack k cause).store.layout = s.store.layout := by
  unfold State.loseStack
  dsimp only
  split
  · split <;> simp
  · simp

@[simp] theorem State.layout_logStripe (n : Nat) : (s.logStripe n).store.layout = s.store.layout := by
  refine List.foldlRecOn (motive := fun u : State => u.store.layout = s.store.layout) _ _ rfl fun u hu k _ => ?_
  rw [← hu]
  split
  · dsimp only
    split
    · rw [State.layout_loseStack]
      rfl
    · rfl
  · rfl

@[simp] theorem State.layout_writeStripe (n epoch : Nat) (data : List Byte) :
    (s.writeStripe n epoch data).store.layout = s.store.layout := by
  unfold State.writeStripe
  split
  · rfl
  · exact (State.layout_logStripe _ n).trans (s.store.putCells_rewritten n epoch data _).layout

end

/-! ### Stripes that are allocated, freed and written by a held writer (R274 to R277) -/

section
variable {s : State} {k : Nat} {p : Part} (hp : s.part k = some p)
include hp

/-- A unit written into a stripe leaves its partition with that stripe live. -/
theorem State.part_commitStripe (n : Nat) (data : List Byte) : (s.commitStripe k n data).part k =
    some { p with live := insertNat n p.live, highWater := max p.highWater (insertNat n p.live).length } := by
  rw [State.commitStripe, hp]
  exact (State.part_of_layout (State.layout_writeStripe _ _ _ _) k).trans (s.part_setPart_same k _)

/-- STORE_FULL changes nothing of its partition but whether it stands raised. -/
theorem State.part_refreshFull : ∃ b, (s.refreshFull k).part k = some { p with saidFull := b } := by
  have hsay (b : Bool) (most key code sev ha data : Nat) :
      ((s.setPart k { p with saidFull := b }).raiseAtMost most key code sev ha data).part k = some { p with saidFull := b } := by
    rw [State.part, State.store_raiseAtMost]
    exact s.part_setPart_same k _
  unfold State.refreshFull
  rw [hp]
  dsimp only
  split
  · exact ⟨_, hp⟩
  · split
    · exact ⟨_, hsay ..⟩
    · split
      · exact ⟨_, hsay ..⟩
      · exact ⟨_, hp⟩

end

section
variable (s : State) (k : Nat)

@[simp] theorem State.plan_refreshFull : (s.refreshFull k).store.plan = s.store.plan := by
  unfold State.refreshFull
  dsimp only
  split
  · rfl
  · split
    · rfl
    · split
      · exact (congrArg Store.plan (State.store_raiseAtMost ..)).trans rfl
      · split
        · exact (congrArg Store.plan (State.store_raiseAtMost ..)).trans rfl
        · rfl

@[simp] theorem State.plan_commitStripe (n : Nat) (data : List Byte) : (s.commitStripe k n data).store.plan = s.store.plan := by
  unfold State.commitStripe
  split
  · rfl
  · dsimp only
    exact (State.plan_of_layout (State.layout_writeStripe _ _ _ _)).trans rfl

theorem plan_serveHeld (l : List HeldUnit) (s : State) : (serveHeld k l s).2.store.plan = s.store.plan := by
  induction l generalizing s with
  | nil => rfl
  | cons u r ih =>
    unfold serveHeld
    split
    · exact (ih _).trans (State.plan_commitStripe _ _ _ _)
    · rfl
    · rfl

@[simp] theorem State.plan_serveWriter : (s.serveWriter k).2.store.plan = s.store.plan := by
  unfold State.serveWriter
  split
  · rfl
  · split
    · rfl
    · exact (State.plan_refreshFull _ _).trans (plan_serveHeld _ _ _)

@[simp] theorem store_tellQueue (x : List (HeldUnit × Nat) × State) : (tellQueue x).store = x.2.store :=
  List.foldlRecOn (motive := fun u : State => u.store = x.2.store) _ _ rfl fun u hu _ _ => (u.store_commitSeg _ _).trans hu

end

end Sys2Proof.Machine
end

section
/-!
PROOFS. The Storehouse's commands (spec/09 R267, R274, R278, R287 to R291): the effect of each on partitions, bays and stacks, and the
statement about them.
-/

namespace Sys2Proof.Machine

/-! ### A packet that starts a job, and one that is declined in execution (R45, R47, R48) -/

section
variable {i : Instr} {op : OpDef} {c : Cmd} {s u : State}

theorem exec_of_accepted {j : Nat} (hi : packetOf i = some (op, c)) (hp : op.passes c s)
    (he : op.effect c s = (.accepted j, u)) : exec i s = .next (u.answered c op.code 1 [w32 j]) := by
  rw [exec_of_packetOf hi, serve_of_passes hp]
  simp [commit, he, State.answered, stAccepted]

theorem exec_of_declined {r : Rej} (hi : packetOf i = some (op, c)) (hp : op.passes c s)
    (he : op.effect c s = (.refused r, u)) : exec i s = .next (refuse op.code r c u) := by
  rw [exec_of_packetOf hi, serve_of_passes hp]
  simp [commit, he]

end

/-! ### The partitions (R267, R274, R278, R287 to R289) -/

/-- The partition that STORE_PART_CREATE makes. -/
def createdPart (c : Cmd) (s : State) : Part :=
  { discard := (c.p 0).bit 24, limit := (c.p 0).fld 23 14, epochLast := s.store.epochNext }

/-- A partition created with its bays. -/
def State.createPart (c : Cmd) (s : State) : State :=
  (s.assignBays (kindOf c) ((fixedBays (kindOf c)).getD ((c.p 0).fld 13 0))).setPart (kindOf c) (createdPart c s)

/-- A partition that grows: it takes free bays in the next epoch, its held writer goes on, the job ends. -/
def State.growPart (c : Cmd) (q : Part) (s : State) : State :=
  (tellQueue ((((s.startJob 0x0402 c).assignBays (kindOf c) ((c.p 0).fld 13 0 - (s.baysOf (kindOf c)).length)).setPart (kindOf c)
    { q with epochLast := s.store.epochNext }).serveWriter (kindOf c))).endJob s.clerk.nextJob stOk [w32 ((c.p 0).fld 13 0)]

theorem State.plan_growPart (c : Cmd) (q : Part) (s : State) : (s.growPart c q).store.plan =
    (s.assignBays (kindOf c) ((c.p 0).fld 13 0 - (s.baysOf (kindOf c)).length)).store.plan := by
  rw [State.growPart, State.store_endJob, store_tellQueue, State.plan_serveWriter]
  rfl

/-- Some bays take no new stripes. -/
def State.drainBays (l : List Nat) (s : State) : State :=
  l.foldl (fun s b => s.withStore { s.store with bays := Tab.upd {} s.store.bays b fun x => { x with draining := true } }) s

/-- A partition that shrinks under a job: its bays above the new size drain. -/
def State.shrinkPart (c : Cmd) (q : Part) (s : State) : State :=
  (((s.startJob 0x0402 c).drainBays ((s.baysOf (kindOf c)).drop ((c.p 0).fld 13 0))).setPart (kindOf c)
    { q with shrink := some s.clerk.nextJob }).refreshFull (kindOf c)

theorem State.store_drainBays (l : List Nat) (s : State) : (s.drainBays l).store =
    { s.store with bays := l.foldl (fun t b => Tab.upd {} t b fun x => { x with draining := true }) s.store.bays } := by
  induction l generalizing s with
  | nil => rfl
  | cons b r ih => exact ih _

theorem State.bay_drainBays (l : List Nat) (b : Nat) (s : State) :
    (s.drainBays l).bay b = if b ∈ l then { s.bay b with draining := true } else s.bay b := by
  rw [State.bay, State.store_drainBays]
  exact Tab.get_foldl_upd (d := ({} : Bay)) (f := fun x => { x with draining := true }) (fun _ => rfl) l _ b

theorem State.bay_shrinkPart (c : Cmd) (q : Part) (s : State) (b : Nat) : (s.shrinkPart c q).bay b =
    if b ∈ (s.baysOf (kindOf c)).drop ((c.p 0).fld 13 0) then { s.bay b with draining := true } else s.bay b :=
  (State.bay_of_plan (State.plan_refreshFull _ _) b).trans ((s.startJob 0x0402 c).bay_drainBays _ b)

/-- A partition deleted: its bays are free, its held units are lost (R289). -/
def State.deletePart (k : Nat) (s : State) : State :=
  let n := match s.part k with | some p => p.held.length | none => 0
  let u := (s.mapBays k fun _ => {}).bump (storeCtr 8) n
  u.withStore { u.store with parts := Tab.set none u.store.parts k none }

section
variable {c : Cmd} {s : State}

theorem exec_storePartCreate (hp : storePartCreateOp.passes c s) (he : s.store.epochNext ≤ 0xFFFFFFFF) :
    exec (.storePartCreate c) s = .next ((s.createPart c).answered c 0x0401 0 [w32 s.store.epochNext]) :=
  exec_of_ok (op := storePartCreateOp) rfl hp (if_neg (Nat.not_lt.mpr he))

theorem exec_storePartCreate_exhausted (hp : storePartCreateOp.passes c s) (he : 0xFFFFFFFF < s.store.epochNext) :
    exec (.storePartCreate c) s = .next (refuse 0x0401 ⟨stRefused, 0xFFFF, 0x1C⟩ c s) :=
  exec_of_declined (op := storePartCreateOp) rfl hp (if_pos he)

theorem exec_storePartSet {q : Part} (hp : storePartSetOp.passes c s) (hq : s.part (kindOf c) = some q) :
    exec (.storePartSet c) s = .next ((if kindFixed c then s else s.setPart (kindOf c)
      { q with discard := (c.p 0).bit 24, limit := (c.p 0).fld 23 14 }).answered c 0x0404 0 []) :=
  exec_of_ok (op := storePartSetOp) rfl hp (by simp only [storePartSetOp, sets, hq])

theorem exec_storePartDelete (hp : storePartDeleteOp.passes c s) :
    exec (.storePartDelete c) s = .next ((s.deletePart (kindOf c)).answered c 0x0403 0 []) :=
  exec_of_ok (op := storePartDeleteOp) rfl hp rfl

section
variable {q : Part} (hp : storePartResizeOp.passes c s) (hq : s.part (kindOf c) = some q)
include hp hq

theorem exec_storePartResize_grows (hn : (s.baysOf (kindOf c)).length < (c.p 0).fld 13 0) (he : s.store.epochNext ≤ 0xFFFFFFFF) :
    exec (.storePartResize c) s = .next ((s.growPart c q).answered c 0x0402 1 [w32 s.clerk.nextJob]) :=
  exec_of_accepted (op := storePartResizeOp) rfl hp (by
    simp only [storePartResizeOp, hq, if_pos hn, if_neg (Nat.not_lt.mpr he)]
    rfl)

theorem exec_storePartResize_exhausted (hn : (s.baysOf (kindOf c)).length < (c.p 0).fld 13 0)
    (he : 0xFFFFFFFF < s.store.epochNext) :
    exec (.storePartResize c) s = .next (refuse 0x0402 ⟨stRefused, 0xFFFF, 0x1C⟩ c s) :=
  exec_of_declined (op := storePartResizeOp) rfl hp (by simp only [storePartResizeOp, hq, if_pos hn, if_pos he])

theorem exec_storePartResize_same (hn : (c.p 0).fld 13 0 = (s.baysOf (kindOf c)).length) :
    exec (.storePartResize c) s = .next (((s.startJob 0x0402 c).endJob s.clerk.nextJob 0 [w32 ((c.p 0).fld 13 0)]).answered
      c 0x0402 1 [w32 s.clerk.nextJob]) :=
  exec_of_accepted (op := storePartResizeOp) rfl hp (by
    simp only [storePartResizeOp, hq, if_neg (Nat.not_lt.mpr (Nat.le_of_eq hn)), if_pos hn]
    rfl)

theorem exec_storePartResize_shrinks (hn : (c.p 0).fld 13 0 < (s.baysOf (kindOf c)).length) :
    exec (.storePartResize c) s = .next ((s.shrinkPart c q).answered c 0x0402 1 [w32 s.clerk.nextJob]) :=
  exec_of_accepted (op := storePartResizeOp) rfl hp (by
    simp only [storePartResizeOp, hq, if_neg (Nat.not_lt.mpr (Nat.le_of_lt hn)), if_neg (Nat.ne_of_lt hn)]
    rfl)

end

/-! ### The stacks and the injection (R270, R273, R290, R291) -/

/-- A lost stack whose restore begins under a job. -/
def State.restoreStack (c : Cmd) (s : State) : State :=
  let u := s.startJob 0x0409 c
  (u.withStore { u.store with restore := some { stack := (c.p 0).fld 1 0, job := s.clerk.nextJob } }).moveStack
    ((c.p 0).fld 1 0) .restoring 0

theorem exec_storeStackRetire (hp : storeStackRetireOp.passes c s) :
    exec (.storeStackRetire c) s = .next ((s.loseStack ((c.p 0).fld 1 0) 0).answered c 0x0408 0 []) :=
  exec_of_ok (op := storeStackRetireOp) rfl hp rfl

theorem exec_storeStackRestore (hp : storeStackRestoreOp.passes c s) :
    exec (.storeStackRestore c) s = .next ((s.restoreStack c).answered c 0x0409 1 [w32 s.clerk.nextJob]) :=
  exec_of_accepted (op := storeStackRestoreOp) rfl hp rfl

theorem exec_storeInject (hp : storeInjectOp.passes c s) :
    exec (.storeInject c) s = .next ((s.withStore { s.store with
      inject := some ((c.p 0).fld 31 30, (c.p 0).fld 27 24, (c.p 0).fld 1 0) }).answered c 0x040A 0 []) :=
  exec_of_ok (op := storeInjectOp) rfl hp rfl

end

/-! ### The statement -/

/-- Settles O49: each command's effect, by the size asked for where it resizes; no work of a held writer moves a bay. -/
theorem storeCommandsAct : Obligations.StoreCommandsAct := by
  refine ⟨fun c s hp => ⟨fun he => ?create, exec_storePartCreate_exhausted hp⟩,
    fun c s q hp hq => ⟨fun hf => ?fixed, fun hf => ?settings⟩,
    fun c s q hp hq => ⟨fun hn he => ?grows, exec_storePartResize_exhausted hp hq, exec_storePartResize_same hp hq,
      fun hn => ?shrinks⟩,
    fun c s hp => ?delete, fun c s hp => ⟨_, exec_storeStackRetire hp, State.st_loseStack _ _ _⟩,
    fun c s hp => ?restore, fun c s hp => exec_storeInject hp⟩
  case create =>
    exact ⟨_, exec_storePartCreate hp he, rfl, State.part_setPart_same _ _ _,
      fun k hk => (State.part_setPart _ _ _ _).trans (if_neg hk), fun b => s.bay_assignBays _ _ b⟩
  case fixed => rw [exec_storePartSet hp hq, if_pos hf]
  case settings => rw [exec_storePartSet hp hq, if_neg (by simp [hf])]
  case grows =>
    have hplan := s.plan_growPart c q
    exact ⟨_, exec_storePartResize_grows hp hq hn he, State.epochNext_of_plan hplan, State.bay_of_plan hplan⟩
  case shrinks =>
    obtain ⟨b, hb⟩ := State.part_refreshFull (State.part_setPart_same
      ((s.startJob 0x0402 c).drainBays ((s.baysOf (kindOf c)).drop ((c.p 0).fld 13 0))) (kindOf c)
      { q with shrink := some s.clerk.nextJob })
    exact ⟨_, _, exec_storePartResize_shrinks hp hq hn, hb, rfl, rfl, fun b hb => (s.bay_shrinkPart c q b).trans (if_pos hb)⟩
  case delete =>
    have hpart (k : Nat) : (s.deletePart (kindOf c)).part k = if k = kindOf c then none else s.part k :=
      Tab.get_set s.store.parts (kindOf c) k
    exact ⟨_, exec_storePartDelete hp, (hpart _).trans (if_pos rfl), fun k hk => (hpart k).trans (if_neg hk),
      s.bay_mapBays (f := fun _ => {}) (fun _ => rfl) (kindOf c)⟩
  case restore =>
    exact ⟨_, exec_storeStackRestore hp, State.st_moveStack_same _ _ _ _, State.restore_moveStack _ _ _ _⟩

end Sys2Proof.Machine
end

section
/-!
PROOFS. The Storehouse's stripes and stacks (spec/09 R264 to R278): what reads, writes and units that wait leave of their partition,
the answer of each happening where it can come about, and the statement about them.
-/

namespace Sys2Proof.Machine

/-! ### Reads (R265, R268, R309, spec/17 R473) -/

section
variable {kind n : Nat} {r : Judged × State}

theorem State.afterRead_of_correctable (h : r.1.mark ≠ 2 ∨ kind = 1) : State.afterRead kind n r = r.2 := by
  rcases h with h | rfl
  · exact if_neg h
  · exact ite_self _

theorem State.afterRead_queue (h : r.1.mark = 2) (hk : kind = 2) : State.afterRead kind n r = r.2.queueLost n := by
  subst hk
  exact if_pos h

theorem State.afterRead_context (h : r.1.mark = 2) (hk : kind = 3) : State.afterRead kind n r = r.2.recordsLost n := by
  subst hk
  exact if_pos h

theorem State.afterRead_table (h : r.1.mark = 2) (hk : kind = 4) : State.afterRead kind n r = r.2.tableLost n [0, 1, 2] := by
  subst hk
  exact if_pos h

/-- A partition that is not there reads never-written (R276). -/
theorem State.readStripe_of_none {s : State} {bad : List Nat} (h : s.part kind = none) :
    (s.readStripe kind n bad).1.mark = 1 ∧
      (s.readStripe kind n bad).2.store.delivered = some ⟨kind, n, 1, List.replicate 768 0⟩ := by
  rw [State.readStripe, h]
  exact ⟨rfl, rfl⟩

end

/-! ### Units that come to SKEW (R276, R277) -/

section
variable {s : State} {k : Nat} {q : Part} {u : HeldUnit} (hq : s.part k = some q)
include hq

theorem State.unitIn_of_free {m : Nat} (hh : q.held = []) (hm : s.allocate k = some m) :
    s.unitIn k u = (.stripe m, (s.commitStripe k m u.data).refreshFull k) := by
  simp [State.unitIn, hq, hh, hm]

theorem State.unitIn_of_held (hh : q.held ≠ []) :
    s.unitIn k u = (.held, s.setPart k { q with held := q.held ++ [u] }) := by
  simp [State.unitIn, hq, hh]

/-- A unit for which a stripe is free is live in its partition. -/
theorem State.part_unitIn_of_free {m : Nat} (hh : q.held = []) (hm : s.allocate k = some m) :
    ∃ x, (s.unitIn k u).2.part k = some x ∧ x.live = insertNat m q.live := by
  rw [State.unitIn_of_free hq hh hm]
  obtain ⟨b, hb⟩ := State.part_refreshFull (State.part_commitStripe hq m u.data)
  exact ⟨_, hb, rfl⟩

/-- With no unit held, a writer served leaves the live stripes as they are. -/
theorem State.part_serveWriter_of_noneHeld (hh : q.held = []) : ∃ x, (s.serveWriter k).2.part k = some x ∧ x.live = q.live := by
  unfold State.serveWriter
  rw [hq]
  dsimp only
  split
  · exact ⟨q, hq, rfl⟩
  · have hnone (u : State) : serveHeld k q.held u = ([], u) := by rw [hh, serveHeld]
    rw [hnone]
    obtain ⟨b, hb⟩ := State.part_refreshFull (s.part_setPart_same k { q with dropping := false })
    exact ⟨_, hb, rfl⟩

theorem State.part_freeStripe_of_noneHeld (n : Nat) (hh : q.held = []) :
    ∃ x, (s.freeStripe k n).2.part k = some x ∧ x.live = q.live.filter (· != n) := by
  unfold State.freeStripe
  rw [hq]
  exact State.part_serveWriter_of_noneHeld (s.part_setPart_same k { q with live := q.live.filter (· != n) }) hh

end

@[simp] theorem State.layout_dropSkew (s : State) (port tick : Nat) : (s.dropSkew port tick).store.layout = s.store.layout := by
  unfold State.dropSkew
  dsimp only
  generalize (if port = 1 then 1 else 0 : Port) = p
  split
  · rfl
  · split <;> rfl

/-- What a unit of SKEW that is written leaves: a dropped one costs its frame (R277). -/
def State.skewIn (port tick : Nat) (data : List Byte) (s : State) : State :=
  let r := s.unitIn 1 ⟨port, tick, 0, fixData data⟩
  if r.1 = .dropped then r.2.dropSkew port tick else r.2

theorem State.part_skewIn (port tick k : Nat) (data : List Byte) (s : State) :
    (s.skewIn port tick data).part k = (s.unitIn 1 ⟨port, tick, 0, fixData data⟩).2.part k := by
  unfold State.skewIn
  dsimp only
  split
  · exact State.part_of_layout (State.layout_dropSkew _ _ _) k
  · rfl

/-- Units of SKEW that are discarded, each with its frame (R277). -/
def State.dropUnits (l : List HeldUnit) (s : State) : State := l.foldl (fun s u => s.dropSkew u.port u.tick) s

theorem State.layout_dropUnits (l : List HeldUnit) (s : State) : (s.dropUnits l).store.layout = s.store.layout :=
  List.foldlRecOn (motive := fun u : State => u.store.layout = s.store.layout) l _ rfl
    fun u hu _ _ => (u.layout_dropSkew _ _).trans hu

/-! ### The cells that are written back (R266) -/

theorem Store.length_rebuilt (st : Store) (n k : Nat) : (st.rebuilt n k).length = 256 :=
  List.foldlRecOn (motive := fun x : List Byte => x.length = 256) _ _ List.length_replicate
    fun x hx j _ => by simp [xorBytes, hx]

theorem Store.cell_remake (st : Store) (n k : Nat) : (st.remake k n).cell n k = st.rebuilt n k :=
  (st.cell_setCell (st.length_rebuilt n k)).trans (if_pos rfl)

/-! ### Each happening, where it can come about -/

/-- The record of FLOW_CONTEXT in a data cell of a stripe (R275). -/
def State.ownRecord (n cell : Nat) (s : State) : Nat :=
  match (s.baysOf 3).findIdx? (· == n / bayStripes) with
  | some k => 3 * (k * bayStripes + n % bayStripes) + cell
  | none => 0

/-- A partial write of a data cell, by the kind of its partition: the records that the merge takes as zeros are lost, and a
written table says who has joined (R264). -/
def State.writeMerged (kind n cell : Nat) (data : List Byte) (bad : List Nat) (s : State) : State :=
  let r := s.mergeStripe kind n bad (putRecord cell data)
  let lost := r.1.zeroed.filter (· != cell)
  if kind = 3 ∧ (s.part 3).isSome then r.2.loseZeroed (s.ownRecord n cell) lost
  else if kind = 4 ∧ (s.part 4).isSome then (r.2.tableLost n lost).tableWritten n (putRecord cell data r.1.data)
  else r.2

/-- A rebuilt cell that no longer waits to be written back is written where its stack works (R266). -/
def State.writeBackCell (n k : Nat) (r : List (Nat × Nat)) (s : State) : State :=
  let u := s.withStore { s.store with writeBacks := r }
  if (s.stack k).st = .working then u.withStore (u.store.remake k n) else u

/-- A writer held too long is discarded with all that waits behind it (R277). -/
def State.discardHeld (q : Part) (s : State) : State :=
  ((s.setPart 1 { q with held := [], dropping := true }).bump (storeCtr 8) q.held.length).dropUnits q.held

/-- A bay that drains is free, another as it was. -/
def Bay.released (x : Bay) : Bay := if x.draining then {} else x

theorem Bay.released_of_draining {x : Bay} (h : x.draining = true) : x.released = {} := if_pos h

theorem Bay.released_of_used {x : Bay} (h : x.draining = false) : x.released = x := if_neg (by simp [h])

theorem Bay.released_released (x : Bay) : x.released.released = x.released := by
  cases h : x.draining
  · rw [Bay.released_of_used h, Bay.released_of_used h]
  · rw [Bay.released_of_draining h]
    rfl

/-- A shrink whose bays are drained ends: they are free, its job ends OK (R278). -/
def State.endShrink (k : Nat) (q : Part) (job : Nat) (s : State) : State :=
  let u := (s.mapBays k Bay.released).setPart k { q with shrink := none }
  (u.refreshFull k).endJob job stOk [w32 (u.baysOf k).length]

theorem State.bay_endShrink (s : State) (k : Nat) (q : Part) (job b : Nat) :
    (s.endShrink k q job).bay b = if b ∈ s.baysOf k then (s.bay b).released else s.bay b := by
  have hplan := State.plan_refreshFull ((s.mapBays k Bay.released).setPart k { q with shrink := none }) k
  refine (State.bay_of_plan (Eq.trans ?_ hplan) b).trans (s.bay_mapBays Bay.released_released k b)
  rw [State.endShrink, State.store_endJob]

theorem State.part_endShrink (s : State) (k : Nat) (q : Part) (job : Nat) :
    ∃ x, (s.endShrink k q job).part k = some x ∧ x.shrink = none := by
  obtain ⟨b, hb⟩ := State.part_refreshFull ((s.mapBays k Bay.released).part_setPart_same k { q with shrink := none })
  refine ⟨_, Eq.trans ?_ hb, rfl⟩
  rw [State.part, State.endShrink, State.store_endJob, State.part]

section
variable {s : State} (hl : s.live = true)
include hl

section
variable {kind : Fin 5} {n : Nat} (hn : n < stripes)
include hn

theorem exec_stripeRead_sweep {bad : List Nat} {w : Sweep} (hk : kind.val = 0) (hw : s.hier.sweepStore = some w)
    (hnext : s.nextSwept w = some n) : exec (.stripeRead kind n bad) s = .next (s.sweepStripe w n bad) := by
  change execStripeRead kind n bad s = _
  rw [execStripeRead, if_neg (Nat.not_le.mpr hn), if_pos hk, hw]
  exact happen_of _ _ (by simp [hl, hnext])

section
variable {p : Port} {tick : Nat} {data : List Byte}

omit hl in
theorem exec_stripeWrite_queue (hk : kind.val = 2) : exec (.stripeWrite kind n p tick data) s = .next s := by
  change execStripeWrite kind n p tick data s = _
  rw [execStripeWrite, if_neg (by omega), if_pos hk]

theorem exec_stripeWrite_lost (hk : kind.val = 1) (hlost : s.store.lostFrames.contains (p.val, tick) = true) :
    exec (.stripeWrite kind n p tick data) s = .next (s.bump (storeCtr 8) 1) := by
  change execStripeWrite kind n p tick data s = _
  rw [execStripeWrite, if_neg (by omega), if_neg (by omega), if_pos hk, if_pos hlost]
  exact happen_of _ _ hl

theorem exec_stripeWrite_skew (hk : kind.val = 1) (hlost : s.store.lostFrames.contains (p.val, tick) = false) :
    exec (.stripeWrite kind n p tick data) s = .next (s.skewIn p.val tick data) := by
  change execStripeWrite kind n p tick data s = _
  rw [execStripeWrite, if_neg (by omega), if_neg (by omega), if_pos hk, if_neg (Bool.eq_false_iff.mp hlost)]
  exact happen_of _ _ hl

theorem exec_stripeWrite_none (hk : 3 ≤ kind.val) (hp : s.part kind.val = none) :
    exec (.stripeWrite kind n p tick data) s = .next (s.bump (storeCtr 8) 1) := by
  change execStripeWrite kind n p tick data s = _
  rw [execStripeWrite, if_neg (by omega), if_neg (by omega), if_neg (by omega), hp]
  exact happen_of _ _ hl

end

theorem exec_readMergeWrite {cell : Fin 3} {data : List Byte} {bad : List Nat} (hk : kind.val ≠ 0)
    (ho : s.part kind.val = none ∨ s.ofKind kind.val n = true) :
    exec (.readMergeWrite kind n cell data bad) s = .next (s.writeMerged kind.val n cell.val data bad) := by
  change execReadMergeWrite kind n cell data bad s = _
  rw [execReadMergeWrite, if_neg (by omega)]
  exact happen_of _ _ (by rcases ho with ho | ho <;> simp [hl, ho])

theorem exec_stripeFree {q : Part} (hk : kind.val = 1) (hq : s.part 1 = some q) (hlive : q.live.contains n = true) :
    exec (.stripeFree kind n) s = .next (s.freeStripe 1 n).2 := by
  change execStripeFree kind n s = _
  rw [execStripeFree, if_neg (Nat.not_le.mpr hn), hq]
  exact happen_of _ _ (by rw [hl, hk]; exact hlive)

end

theorem exec_cellWriteBack {n k : Nat} {r : List (Nat × Nat)} (hw : s.store.writeBacks = (n, k) :: r) :
    exec .cellWriteBack s = .next (s.writeBackCell n k r) := by
  change execCellWriteBack s = _
  rw [execCellWriteBack, hw]
  exact happen_of _ _ hl

theorem exec_holdLimitExpiry {kind : Fin 5} {q : Part} (hk : kind.val = 1) (hq : s.part 1 = some q)
    (hd : q.heldDiscard = true) (hh : q.held ≠ []) : exec (.holdLimitExpiry kind) s = .next (s.discardHeld q) := by
  obtain rfl : kind = 1 := Fin.ext hk
  change execHoldLimitExpiry 1 s = _
  unfold execHoldLimitExpiry
  change (match s.part 1 with | none => _ | some p => _) = _
  rw [hq]
  exact happen_of _ _ (by simp [hl, hd, hh])

section
variable {k : Fin 4}

theorem exec_stackInterfaceFault_working (hst : (s.stack k.val).st = .working) :
    exec (.stackInterfaceFault k) s = .next (s.moveStack k.val .retraining 1) := by
  change execStackInterfaceFault k s = _
  rw [execStackInterfaceFault, hst]
  exact happen_of _ _ hl

theorem exec_stackInterfaceFault_restoring {r : Restore} (hst : (s.stack k.val).st = .restoring)
    (hr : s.store.restore = some r) : exec (.stackInterfaceFault k) s =
      .next (s.withStore { s.store with restore := some { r with phase := 0, failures := 0 } }) := by
  change execStackInterfaceFault k s = _
  rw [execStackInterfaceFault, hst, hr]
  exact happen_of _ _ hl

/-- A retrained stack works on the state in which each stripe of its log has its cell rebuilt (R271). -/
theorem exec_trainingDone (hst : (s.stack k.val).st = .retraining) :
    ∃ u : State, exec (.trainingDone k) s = .next (u.moveStack k.val .working 3) := by
  change ∃ u : State, execTrainingDone k s = _
  exact ⟨_, happen_of _ _ (by rw [hl, hst]; rfl)⟩

theorem exec_trainingTimeout (hst : (s.stack k.val).st = .retraining) :
    exec (.trainingTimeout k) s = .next (s.loseStack k.val 1) := by
  change execTrainingTimeout k s = _
  exact happen_of _ _ (by rw [hl, hst]; rfl)

theorem exec_crcRateLoss (hmany : 256 ≤ s.failedCells k.val) (hfew : ∀ j, j < 4 → j ≠ k.val → s.failedCells j < 16)
    (hlost : (s.stack k.val).st ≠ .lost) (hrest : (s.stack k.val).st ≠ .restoring) :
    exec (.crcRateLoss k) s = .next (s.loseStack k.val 2) := by
  change execCrcRateLoss k s = _
  have hothers : ((List.range 4).all fun j => j == k.val || decide (s.failedCells j < 16)) = true := by
    refine List.all_eq_true.mpr fun j hj => ?_
    by_cases hjk : j = k.val
    · simp [hjk]
    · simp [hfew j (List.mem_range.mp hj) hjk]
  rw [execCrcRateLoss, hothers, if_neg hrest]
  exact happen_of _ _ (by simp [hl, hmany, hlost])

end

section
variable {r : Restore} (hr : s.store.restore = some r)
include hr

theorem exec_restoreTrainDone (ok : Bool) (hp : r.phase = 0) : exec (.restoreTrainDone ok) s =
    .next (if ok then s.withStore { s.store with restore := some { r with phase := 1 } } else s.endRestore stFault) := by
  change execRestoreTrainDone ok s = _
  rw [execRestoreTrainDone, hr]
  exact happen_of _ _ (by rw [hl, hp]; rfl)

/-- A test without a failing cell begins the rebuild, after which each touched stripe has its cell again (R273). -/
theorem exec_restoreTestDone_passed (hp : r.phase = 1) : ∃ st : Store,
    { s.store with restore := some { r with phase := 2, failures := 0 } }.Rewritten st ∧
      exec (.restoreTestDone 0) s = .next (s.withStore st) := by
  change ∃ st : Store, _ ∧ execRestoreTestDone 0 s = _
  rw [execRestoreTestDone, hr]
  exact ⟨_, (Store.Rewritten.refl _).remakes _ _, happen_of _ _ (by rw [hl, hp]; rfl)⟩

theorem exec_restoreTestDone_failed {f : Nat} (hp : r.phase = 1) (hf : 0 < f) : exec (.restoreTestDone f) s =
    .next ((s.withStore { s.store with restore := some { r with failures := f } }).endRestore stFault) := by
  change execRestoreTestDone f s = _
  rw [execRestoreTestDone, hr]
  dsimp only
  rw [if_neg (Nat.ne_of_gt hf)]
  exact happen_of _ _ (by rw [hl, hp]; rfl)

theorem exec_restoreRebuildDone (hp : r.phase = 2) : exec .restoreRebuildDone s = .next (s.endRestore stOk) := by
  change execRestoreRebuildDone s = _
  rw [execRestoreRebuildDone, hr]
  exact happen_of _ _ (by rw [hl, hp]; rfl)

end

theorem exec_shrinkDrainDone {kind : Fin 5} {q : Part} {job : Nat} (hq : s.part kind.val = some q) (hs : q.shrink = some job)
    (hd : s.drained kind.val = true) : exec (.shrinkDrainDone kind) s =
      .next (s.endShrink kind.val q job) := by
  change execShrinkDrainDone kind s = _
  rw [execShrinkDrainDone, hq]
  dsimp only
  rw [hs]
  exact happen_of _ _ (by rw [hl, hd]; rfl)

end

/-! ### The statement -/

/-- Settles O50: the answer of each access and happening, and what of the partition, the stack or the restore it leaves. -/
theorem stripesAndStacks : Obligations.StripesAndStacks := by
  refine ⟨fun s kind n bad hl hn => ⟨fun hk ho => ?read, fun w hk hw hnext => ?swept⟩,
    fun s kind n p tick data hl hn => ⟨exec_stripeWrite_queue hn, exec_stripeWrite_lost hl hn,
      fun q hk hlost hq => ⟨fun m hh hm => ?allocated, fun hh => ?held⟩, exec_stripeWrite_none hl hn⟩,
    fun s kind n cell data bad hl hn hk ho => ?merged,
    fun s n k r hl hw hk => ⟨_, exec_cellWriteBack hl hw, ?writeBack⟩,
    fun s kind q hl hk hq hd hh => ⟨_, exec_holdLimitExpiry hl hk hq hd hh, ?discarded⟩,
    fun s kind n q hl hn hk hq hlive => ⟨exec_stripeFree hl hn hk hq hlive, State.part_freeStripe_of_noneHeld hq n⟩,
    fun s k hl => ⟨fun hst => ⟨_, exec_stackInterfaceFault_working hl hst, State.st_moveStack_same _ _ _ _⟩,
      fun r hst hr => ⟨_, exec_stackInterfaceFault_restoring hl hst hr, rfl⟩,
      fun hst => ⟨?trained, _, exec_trainingTimeout hl hst, State.st_loseStack _ _ _⟩,
      fun hmany hfew hlost hrest => ⟨_, exec_crcRateLoss hl hmany hfew hlost hrest, State.st_loseStack _ _ _⟩⟩,
    fun s r hl hr => ⟨fun hp => ⟨⟨_, exec_restoreTrainDone hl hr true hp, rfl⟩,
        _, exec_restoreTrainDone hl hr false hp, ?untrained⟩,
      fun hp => ⟨?tested, fun f hf => ⟨_, exec_restoreTestDone_failed hl hr hp hf, ?failed⟩⟩,
      fun hp => ⟨_, exec_restoreRebuildDone hl hr hp, State.restore_endRestore hr _, State.st_endRestore hr _⟩⟩,
    fun s kind q job hl hq hs hd => ?drained⟩
  case read =>
    rw [exec_stripeRead hl hn hk ho]
    exact ⟨fun h => by rw [State.afterRead_of_correctable h],
      fun h => ⟨fun hk => by rw [State.afterRead_queue h hk], fun hk => by rw [State.afterRead_context h hk],
        fun hk => by rw [State.afterRead_table h hk]⟩, State.readStripe_of_none⟩
  case swept => exact ⟨_, _, exec_stripeRead_sweep hl hn hk hw hnext, rfl, rfl, rfl⟩
  case allocated =>
    obtain ⟨x, hx, hlive⟩ := State.part_unitIn_of_free (u := ⟨p.val, tick, 0, fixData data⟩) hq hh hm
    exact ⟨_, x, exec_stripeWrite_skew hl hn hk hlost, (State.part_skewIn _ _ _ _ _).trans hx, hlive⟩
  case held =>
    refine ⟨_, exec_stripeWrite_skew hl hn hk hlost, ?_⟩
    rw [State.part_skewIn, State.unitIn_of_held hq hh, State.part_setPart_same]
  case merged =>
    rw [exec_readMergeWrite hl hn hk ho]
    refine ⟨fun hle => ?_, fun h3 hp => ?_, fun h4 hp => ?_⟩
    · rw [State.writeMerged, if_neg (by omega), if_neg (by omega)]
    · rw [State.writeMerged, if_pos ⟨h3, Option.isSome_iff_ne_none.mpr hp⟩]
      rfl
    · rw [State.writeMerged, if_neg (by omega), if_pos ⟨h4, Option.isSome_iff_ne_none.mpr hp⟩]
  case writeBack =>
    unfold State.writeBackCell
    dsimp only
    split
    next hst => exact ⟨rfl, fun _ => Store.cell_remake _ n k, fun h => absurd hst h⟩
    next hst => exact ⟨rfl, fun h => absurd h hst, fun _ => rfl⟩
  case discarded =>
    exact (State.part_of_layout (State.layout_dropUnits _ _) 1).trans (s.part_setPart_same 1 _)
  case trained =>
    obtain ⟨u, hu⟩ := exec_trainingDone hl hst
    exact ⟨_, hu, u.st_moveStack_same _ _ _⟩
  case untrained => exact ⟨State.restore_endRestore hr _, State.st_endRestore hr _⟩
  case tested =>
    obtain ⟨st, ⟨m, e, rfl⟩, hexec⟩ := exec_restoreTestDone_passed hl hr hp
    exact ⟨_, hexec, rfl⟩
  case failed =>
    have hr' : (s.withStore { s.store with restore := some { r with failures := f } }).store.restore =
        some { r with failures := f } := rfl
    exact ⟨State.restore_endRestore hr' _, State.st_endRestore hr' _⟩
  case drained =>
    obtain ⟨x, hx, hshrink⟩ := s.part_endShrink kind.val q job
    refine ⟨_, x, exec_shrinkDrainDone hl hq hs hd, hx, hshrink, fun b hb hdr => ?_, fun b hdr => ?_⟩
    · rw [State.bay_endShrink, if_pos hb, Bay.released_of_draining hdr]
    · rw [State.bay_endShrink, Bay.released_of_used hdr, ite_self]

end Sys2Proof.Machine
end

section
/-!
PROOFS. FLOW and CIPH after what leaves them alone and after what changes them (spec/10): interfaces, flows, cipher contexts and
threads, each read back after one of its kind is put; the binding of a transmit flow, which no work of its queue changes.
-/

namespace Sys2Proof.Machine

/-! ### FLOW and CIPH after what leaves them alone -/

theorem Keeps.flow_eq {cs : List Comp} {s t : State} (h : Keeps cs s t) (hflow : .flow ∉ cs) : t.flow = s.flow :=
  h.frame .flow hflow

section
variable (s : State)

@[simp] theorem State.flow_bump (k n : Nat) : (s.bump k n).flow = s.flow := rfl

@[simp] theorem State.flow_raise (code sev ha data : Nat) : (s.raise code sev ha data).flow = s.flow :=
  (State.raise_keeps (cs := [.clerk, .hier, .tally]) (Keeps.refl s)).flow_eq (by decide)

@[simp] theorem State.flow_evDelin (t : Nat) (hunt : Bool) : (evDelin t hunt s).flow = s.flow :=
  (evDelin_keeps (cs := [.clerk, .hier, .tally]) (Keeps.refl s)).flow_eq (by decide)

@[simp] theorem State.flow_egressDrop (i : Option Nat) : (s.egressDrop i).flow = s.flow :=
  (State.egressDrop_keeps (cs := [.clerk, .hier, .tally]) (Keeps.refl s)).flow_eq (by decide)

@[simp] theorem State.out_egressDrop (i : Option Nat) : (s.egressDrop i).out = s.out :=
  (State.egressDrop_keeps (cs := [.clerk, .hier, .tally]) (Keeps.refl s)).frame .out (by decide)

@[simp] theorem State.flow_freeStripe (kind n : Nat) : (s.freeStripe kind n).2.flow = s.flow :=
  (State.freeStripe_keeps (cs := [.free, .clerk, .hier, .tally, .store]) (Keeps.refl s)).flow_eq (by decide)

end

/-! ### Interfaces, contexts and threads after one of them is put -/

section
variable (s : State)

theorem State.fi_updFi (i j : Nat) (f : FlowIface → FlowIface) :
    (s.updFi i f).fi j = if j = i then f (s.fi i) else s.fi j :=
  Tab.get_set s.flow.ifaces i j

theorem State.txFlow_setTxFlow (f g : Nat) (x : TxFlow) :
    (s.setTxFlow f x).txFlow g = if g = f then some x else s.txFlow g :=
  Tab.get_set s.flow.tx f g

theorem State.txCtx_setTxCtx (c d : Nat) (x : TxCtx) : (s.setTxCtx c x).txCtx d = if d = c then x else s.txCtx d :=
  Tab.get_set s.flow.txCtx c d

@[simp] theorem State.txCtx_setTxCtx_same (c : Nat) (x : TxCtx) : (s.setTxCtx c x).txCtx c = x := by
  rw [State.txCtx_setTxCtx, if_pos rfl]

@[simp] theorem State.rxCtx_setRxCtx_same (c : Nat) (x : RxCtx) : (s.setRxCtx c x).rxCtx c = x :=
  (Tab.get_set s.flow.rxCtx c c).trans (if_pos rfl)

@[simp] theorem State.txThread_updTxThread_same (t : Nat) (f : TxThread → TxThread) :
    (s.updTxThread t f).txThread t = f (s.txThread t) :=
  (Tab.get_set s.flow.txThreads t t).trans (if_pos rfl)

@[simp] theorem State.rxThread_updRxThread_same (t : Nat) (f : RxThread → RxThread) :
    (s.updRxThread t f).rxThread t = f (s.rxThread t) :=
  (Tab.get_set s.flow.rxThreads t t).trans (if_pos rfl)

/-- A thread that goes to HUNT changes its own delineation alone of FLOW (R303). -/
theorem State.flow_hunt (t : Nat) :
    (s.hunt t).flow = (s.updRxThread t fun r => { r with sync := none, cands := [] }).flow := by
  unfold State.hunt
  dsimp only
  split
  · rw [State.flow_evDelin]
  · rfl

theorem State.rxThread_hunt (t : Nat) : (s.hunt t).rxThread t = { s.rxThread t with sync := none, cands := [] } := by
  rw [State.rxThread, State.flow_hunt]
  exact s.rxThread_updRxThread_same t _

end

/-! ### The binding of a transmit flow (Table 10-7) -/

/-- What FLOW_SET gives a flow at transmit: its thread, CIPH, its context, PIN, its quantum. -/
def TxFlow.binding (x : TxFlow) : Nat × Bool × Nat × Bool × Nat := (x.thread, x.ciph, x.ctx, x.pin, x.quantum)

/-- The binding of a transmit flow, none where the flow is undefined. -/
def State.txBinding (s : State) (f : Nat) : Option (Nat × Bool × Nat × Bool × Nat) := (s.txFlow f).map TxFlow.binding

section
variable {s : State}

theorem State.txBinding_of_tx {u : State} (h : u.flow.tx = s.flow.tx) (f : Nat) : u.txBinding f = s.txBinding f := by
  rw [State.txBinding, State.txFlow, h]
  rfl

theorem State.txBinding_of_flow {u : State} (h : u.flow = s.flow) (f : Nat) : u.txBinding f = s.txBinding f :=
  State.txBinding_of_tx (congrArg Flow.tx h) f

theorem State.txBinding_setTxFlow (f g : Nat) (x : TxFlow) :
    (s.setTxFlow f x).txBinding g = if g = f then some x.binding else s.txBinding g := by
  rw [State.txBinding, State.txFlow_setTxFlow]
  split <;> rfl

/-- A flow that keeps its binding is put: no binding changes. -/
theorem State.txBinding_setTxFlow_kept {f : Nat} {x y : TxFlow} (hx : s.txFlow f = some x) (hy : y.binding = x.binding) (g : Nat) :
    (s.setTxFlow f y).txBinding g = s.txBinding g := by
  rw [State.txBinding_setTxFlow]
  split
  next hg => rw [hg, State.txBinding, hx, hy, Option.map_some]
  next => rfl

theorem State.txBinding_commitSeg (w : HeldUnit) (n g : Nat) : (s.commitSeg w n).txBinding g = s.txBinding g := by
  unfold State.commitSeg
  split
  next => rfl
  next hx => exact State.txBinding_setTxFlow_kept hx (by rfl) g

theorem State.txBinding_freeQueue (g : Nat) (ns : List Nat) : ∀ s : State, (freeQueue ns s).txBinding g = s.txBinding g := by
  induction ns with
  | nil => exact fun s => rfl
  | cons n r ih =>
    intro s
    refine (ih _).trans ?_
    refine List.foldlRecOn (motive := fun u : State => u.txBinding g = s.txBinding g) _ _
      (State.txBinding_of_flow (s.flow_freeStripe 2 n) g) fun u hu w _ => ?_
    rw [State.txBinding_commitSeg, hu]

theorem State.txBinding_idle (f g : Nat) : (s.idle f).txBinding g = s.txBinding g := by
  unfold State.idle
  split
  next => rfl
  next x hx => exact State.txBinding_setTxFlow_kept (y := { x with deficit := 0 }) hx rfl g

theorem State.txBinding_dropQueue (f g : Nat) : (s.dropQueue f).txBinding g = s.txBinding g := by
  unfold State.dropQueue
  split
  next => rfl
  next x hx =>
    dsimp only
    rw [State.txBinding_freeQueue]
    have hdropped (y : TxFlow) (hy : y.binding = x.binding) :
        ((((s.txDropped f x.parcels.length).setTxFlow f y).idle f).txBinding g) = s.txBinding g := by
      rw [State.txBinding_idle]
      exact State.txBinding_setTxFlow_kept (s := s.txDropped f x.parcels.length) hx hy g
    split
    · exact hdropped _ rfl
    · exact (State.txBinding_of_flow rfl g).trans (hdropped _ rfl)

end

end Sys2Proof.Machine
end

section
/-!
PROOFS. The commands of FLOW and CIPH (spec/10 R315 to R324): the state each leaves, where it is executed, what of it is read back,
and the statement about them.
-/

namespace Sys2Proof.Machine

/-! ### The directions a command names (Table 10-7) -/

/-- Bits 31 and 30 name the transmit and the receive direction. -/
theorem contains_waysOf (w : Word) :
    (waysOf (w.fld 31 30)).contains 1 = w.bit 31 ∧ (waysOf (w.fld 31 30)).contains 0 = w.bit 30 := by
  have hcode : ∀ n < 4, (waysOf n).contains 1 = (n / 2 == 1) ∧ (waysOf n).contains 0 = (n % 2 == 1) := by decide
  have hfld : w.fld 31 30 < 4 := Nat.mod_lt _ (by decide)
  have hhigh : w.fld 31 31 = w.fld 31 30 / 2 := by simp only [Word.fld, Nat.shiftRight_eq_div_pow]; omega
  have hlow : w.fld 30 30 = w.fld 31 30 % 2 := by simp only [Word.fld, Nat.shiftRight_eq_div_pow]; omega
  rw [Word.bit, Word.bit, hhigh, hlow]
  exact hcode _ hfld

/-! ### FLOW_SET, entry by entry (R319) -/

/-- What an entry binds at transmit: nothing where its quantum is 0. -/
def FlowEntry.txBinding (e : FlowEntry) : Option (Nat × Bool × Nat × Bool × Nat) :=
  if e.quantum = 0 then none else some (e.thread, e.ciph, e.ctx, e.pin, e.quantum)

/-- What an entry binds at receive: nothing where its quantum is 0. -/
def FlowEntry.rxFlow (e : FlowEntry) : Option RxFlow :=
  if e.quantum = 0 then none else some ⟨e.thread, e.ciph, e.ctx, e.pin⟩

section
variable (s : State) (e : FlowEntry)

theorem State.txBinding_setFlowTx (g : Nat) :
    (s.setFlowTx e).txBinding g = if g = e.flow then e.txBinding else s.txBinding g := by
  unfold State.setFlowTx FlowEntry.txBinding
  split
  next hnone =>
    split
    next =>
      split
      next hg => rw [hg, State.txBinding, hnone, Option.map_none]
      next => rfl
    next => exact State.txBinding_setTxFlow _ _ _
  next x hx =>
    split
    next =>
      have hdelete (u : State) : (u.withFlow { u.flow with tx := Tab.set none u.flow.tx e.flow none }).txBinding g =
          if g = e.flow then none else u.txBinding g := by
        rw [State.txBinding, State.txFlow, State.withFlow_flow, Tab.get_set]
        split <;> rfl
      have hqueue := State.txBinding_dropQueue (s := s) e.flow g
      refine (hdelete _).trans ?_
      split
      next => rfl
      next =>
        split
        · exact hqueue
        · exact hqueue
    next =>
      refine (State.txBinding_setTxFlow _ _ _).trans ?_
      split
      next => rfl
      next =>
        split
        · rfl
        · exact State.txBinding_idle _ _

theorem State.tx_setFlowRx : (s.setFlowRx e).flow.tx = s.flow.tx := by
  unfold State.setFlowRx
  dsimp only
  split
  · split <;> rfl
  · rfl

theorem State.rxFlow_setFlowRx (g : Nat) :
    (s.setFlowRx e).rxFlow g = if g = e.flow then e.rxFlow else s.rxFlow g := by
  have hput (u : State) : (u.withFlow { u.flow with rx := Tab.set none u.flow.rx e.flow e.rxFlow }).rxFlow g =
      if g = e.flow then e.rxFlow else u.rxFlow g := Tab.get_set u.flow.rx e.flow g
  refine (hput _).trans ?_
  split
  · rfl
  · split
    · split <;> rfl
    · rfl

end

/-- Entries put one after another: what an entry gives its flow is read back at the end where it is among them or was read before,
and none differs from it in the same flow. -/
theorem read_foldl_entries {β : Type} {read : State → Nat → β} {put : State → FlowEntry → State} {val : FlowEntry → β}
    (hput : ∀ s e g, read (put s e) g = if g = e.flow then val e else read s g) {es : List FlowEntry} {e : FlowEntry}
    (hone : ∀ e' ∈ es, e'.flow = e.flow → e' = e) (s : State) (hgiven : e ∈ es ∨ read s e.flow = val e) :
    read (es.foldl put s) e.flow = val e := by
  induction es generalizing s with
  | nil => exact hgiven.resolve_left List.not_mem_nil
  | cons a es ih =>
    refine ih (fun e' he' => hone e' (List.mem_cons_of_mem a he')) (put s a) ?_
    rw [hput]
    by_cases ha : e.flow = a.flow
    · rw [if_pos ha, hone a List.mem_cons_self ha.symm]
      exact .inr rfl
    · rw [if_neg ha]
      exact hgiven.imp_left fun he => (List.mem_cons.mp he).resolve_left fun h => ha (congrArg FlowEntry.flow h)

/-- The records of the entries' flows are used. -/
def State.useEntries (es : List FlowEntry) (s : State) : State := es.foldl (fun s e => s.useRecord e.flow) s

/-- The entries commit at transmit, in their order. -/
def State.setFlowsTx (es : List FlowEntry) (s : State) : State := es.foldl (fun s e => s.setFlowTx e) s

/-- The entries commit at receive, in their order. -/
def State.setFlowsRx (es : List FlowEntry) (s : State) : State := es.foldl (fun s e => s.setFlowRx e) s

/-- What FLOW_SET makes of the flows, before pools and queues follow. -/
def State.setFlows (c : Cmd) (s : State) : State :=
  let ways := waysOf ((c.p 0).fld 31 30)
  let used := s.useEntries (flowEntries c)
  let sent := if ways.contains 1 then used.setFlowsTx (flowEntries c) else used
  if ways.contains 0 then sent.setFlowsRx (flowEntries c) else sent

section
variable (c : Cmd) (s : State)

theorem State.txBinding_setFlowsRx (es : List FlowEntry) (g : Nat) : (s.setFlowsRx es).txBinding g = s.txBinding g :=
  List.foldlRecOn (motive := fun u : State => u.txBinding g = s.txBinding g) _ _ rfl
    fun u hu e _ => (State.txBinding_of_tx (u.tx_setFlowRx e) g).trans hu

variable {e : FlowEntry} (he : e ∈ flowEntries c) (hone : ∀ e' ∈ flowEntries c, e'.flow = e.flow → e' = e)
include he hone

theorem State.txBinding_setFlows (hway : (c.p 0).bit 31 = true) : (s.setFlows c).txBinding e.flow = e.txBinding := by
  have hset (u : State) : (u.setFlowsTx (flowEntries c)).txBinding e.flow = e.txBinding :=
    read_foldl_entries State.txBinding_setFlowTx hone u (.inl he)
  rw [State.setFlows, (contains_waysOf _).1, hway]
  split
  · exact (State.txBinding_setFlowsRx _ _ _).trans (hset _)
  · exact hset _

theorem State.rxFlow_setFlows (hway : (c.p 0).bit 30 = true) : (s.setFlows c).rxFlow e.flow = e.rxFlow := by
  rw [State.setFlows, (contains_waysOf _).2, hway]
  exact read_foldl_entries State.rxFlow_setFlowRx hone _ (.inl he)

end

/-! ### FLOW_THREAD_SET, direction by direction (R320) -/

/-- Whether FLOW_THREAD_SET gives the kind STREAM. -/
def givesStream (c : Cmd) : Bool := (c.p 0).fld 29 28 == 1

/-- The queues of a transmit thread's flows are discarded. -/
def State.dropThread (t : Nat) (s : State) : State :=
  (s.bindings 1).foldl (fun s x => if x.2.1 = t then s.dropQueue x.1 else s) s

/-- A receive thread hunts, and what it received is discarded. -/
def State.dropReceived (t : Nat) (s : State) : State :=
  (s.hunt t).withFlow { (s.hunt t).flow with rxMsgs := (s.hunt t).flow.rxMsgs.filter fun m => m.thread != t }

/-- The settings of a transmit thread, after what a change of its kind discards. -/
def State.setThreadTx (c : Cmd) (t : Nat) (s : State) : State :=
  (if givesStream c != (s.txThread t).stream then s.dropThread t else s).updTxThread t fun r =>
    { r with stream := givesStream c, lenAdj := (c.p 1).sfld 6 0 }

/-- The settings of a receive thread, after what a change of its kind discards. -/
def State.setThreadRx (c : Cmd) (t : Nat) (changed : Bool) (s : State) : State :=
  (if changed then s.dropReceived t else s).updRxThread t fun r =>
    { r with stream := givesStream c, replace := (c.p 0).fld 27 26, egress := some ((c.p 0).fld 25 18) }

/-- What FLOW_THREAD_SET makes of its thread. -/
def State.setThread (c : Cmd) (s : State) : State :=
  let ways := waysOf ((c.p 0).fld 31 30)
  let t := (c.p 0).fld 17 0
  let sent := if ways.contains 1 then s.setThreadTx c t else s
  if ways.contains 0 then sent.setThreadRx c t (givesStream c != (s.rxThread t).stream) else sent

section
variable (c : Cmd) (s : State)

theorem State.txThread_setThreadRx (t : Nat) (changed : Bool) (k : Nat) :
    (s.setThreadRx c t changed).txThread k = s.txThread k := by
  cases changed
  · rfl
  · change Tab.get {} (s.hunt t).flow.txThreads k = _
    rw [State.flow_hunt]
    rfl

theorem State.txThread_setThread (hway : (c.p 0).bit 31 = true) : ∃ r : TxThread, (s.setThread c).txThread ((c.p 0).fld 17 0) =
    { r with stream := givesStream c, lenAdj := (c.p 1).sfld 6 0 } := by
  rw [State.setThread, (contains_waysOf _).1, hway]
  split
  · exact ⟨_, (State.txThread_setThreadRx _ _ _ _ _).trans (State.txThread_updTxThread_same _ _ _)⟩
  · exact ⟨_, State.txThread_updTxThread_same _ _ _⟩

theorem State.rxThread_setThread (hway : (c.p 0).bit 30 = true) : ∃ r : RxThread, (s.setThread c).rxThread ((c.p 0).fld 17 0) =
    { r with stream := givesStream c, replace := (c.p 0).fld 27 26, egress := some ((c.p 0).fld 25 18) } := by
  rw [State.setThread, (contains_waysOf _).2, hway]
  exact ⟨_, State.rxThread_updRxThread_same _ _ _⟩

end

/-! ### Keys and rollovers (R315, R316) -/

/-- The key that CIPH_KEY_LOAD carries, wrapped. -/
def wrappedKey (c : Cmd) : List Byte := bytesOf ((c.params.drop 2).take 10)

/-- A receive key goes into the slot the context has for it. -/
def RxCtx.load (x : RxCtx) (k : RxKey) : RxCtx := if x.slotFor then { x with a := some k } else { x with b := some k }

theorem RxCtx.load_or (x : RxCtx) (k : RxKey) : (x.load k).a = some k ∨ (x.load k).b = some k := by
  unfold RxCtx.load
  split
  · exact .inl rfl
  · exact .inr rfl

/-- What CIPH_KEY_LOAD makes of its context with a key that unwraps. -/
def State.loadKey (c : Cmd) (key : List Byte) (s : State) : State :=
  let x := (c.p 0).fld 19 0
  let u := (s.useRecord x).bump (ciphCtr 7) 1
  if (c.p 0).fld 31 30 = 2 then u.setTxCtx x { u.txCtx x with next := some ⟨(c.p 0).fld 27 20, c.p 1, key, 1⟩ }
  else u.setRxCtx x ((u.rxCtx x).load ⟨(c.p 0).fld 27 20, c.p 1, key, 0, 0, 0⟩)

/-- The port and multiframe of CIPH_ROLLOVER. -/
def rolloverOf (c : Cmd) : Port × Nat := (if (c.p 0).bit 31 then 1 else 0, (c.p 1).toNat)

/-! ### What a classification and a key load put, read back -/

section
variable (c : Cmd) (s : State)

/-- A classification of one entry puts its key alone (Table 10-8). -/
theorem get_classesAfter_one (hn : (c.p 0).fld 9 0 = 1) (k : Nat) : Tab.get 0 (classesAfter c s) k =
    if k = classKey c 0 then (if (c.p 2).bit 31 then 0 else (c.p 2).fld 19 0 + 1) else Tab.get 0 s.flow.classes k := by
  rw [classesAfter, hn]
  exact Tab.get_set s.flow.classes (classKey c 0) k

theorem State.next_loadKey {key : List Byte} (hd : (c.p 0).fld 31 30 = 2) :
    ((s.loadKey c key).txCtx ((c.p 0).fld 19 0)).next = some ⟨(c.p 0).fld 27 20, c.p 1, key, 1⟩ := by
  rw [State.loadKey, if_pos hd, State.txCtx_setTxCtx_same]

theorem State.rxCtx_loadKey {key : List Byte} (hd : (c.p 0).fld 31 30 ≠ 2) : ∃ x : RxCtx,
    (s.loadKey c key).rxCtx ((c.p 0).fld 19 0) = x.load ⟨(c.p 0).fld 27 20, c.p 1, key, 0, 0, 0⟩ := by
  rw [State.loadKey, if_neg hd, State.rxCtx_setRxCtx_same]
  exact ⟨_, rfl⟩

end

/-! ### The commands, executed -/

section
variable {c : Cmd} {s : State}

theorem exec_flowIfaceSet (hp : flowIfaceSetOp.passes c s) : exec (.flowIfaceSet c) s =
    .next ((s.updFi ((c.p 0).fld 31 24) fun x => { x with
      classMode := (c.p 0).fld 23 22, missDiscard := (c.p 0).bit 21, defaultFlow := (c.p 0).fld 19 0 }).answered c 0x0601 0 []) :=
  exec_of_ok (op := flowIfaceSetOp) rfl hp rfl

theorem exec_flowSet (hp : flowSetOp.passes c s) :
    exec (.flowSet c) s = .next (((s.setFlows c).refreshPools.runAll).answered c 0x0602 0 []) :=
  exec_of_ok (op := flowSetOp) rfl hp rfl

theorem exec_flowClassMap (hp : flowClassMapOp.passes c s) : exec (.flowClassMap c) s =
    .next ((s.withFlow { s.flow with classes := classesAfter c s }).answered c 0x0603 0 []) :=
  exec_of_ok (op := flowClassMapOp) rfl hp rfl

theorem exec_flowThreadSet (hp : flowThreadSetOp.passes c s) :
    exec (.flowThreadSet c) s = .next ((s.setThread c).answered c 0x0604 0 []) :=
  exec_of_ok (op := flowThreadSetOp) rfl hp rfl

theorem exec_ciphKeyLoad {k key : List Byte} (hp : ciphKeyLoadOp.passes c s) (hk : s.hall.kek = some k)
    (hkey : Config.aesUnwrap k (wrappedKey c) = some key) :
    exec (.ciphKeyLoad c) s = .next ((s.loadKey c key).answered c 0x0701 0 []) := by
  unfold wrappedKey at hkey
  exact exec_of_ok (op := ciphKeyLoadOp) rfl hp (by simp only [ciphKeyLoadOp, hk, hkey]; rfl)

/-- A key that does not unwrap is declined, and counted. -/
theorem exec_ciphKeyLoad_declined {k : List Byte} (hp : ciphKeyLoadOp.passes c s) (hk : s.hall.kek = some k)
    (hkey : Config.aesUnwrap k (wrappedKey c) = none) : exec (.ciphKeyLoad c) s =
      .next (refuse 0x0701 ⟨stRefused, 0xFFFF, 0x25⟩ c (s.bump (ciphCtr 8) 1)) := by
  unfold wrappedKey at hkey
  exact exec_of_declined (op := ciphKeyLoadOp) rfl hp (by simp only [ciphKeyLoadOp, hk, hkey])

/-- Without a key encryption key no key unwraps. -/
theorem exec_ciphKeyLoad_of_no_kek (hp : ciphKeyLoadOp.passes c s) (hk : s.hall.kek = none) : exec (.ciphKeyLoad c) s =
    .next (refuse 0x0701 ⟨stRefused, 0xFFFF, 0x25⟩ c (s.bump (ciphCtr 8) 1)) :=
  exec_of_declined (op := ciphKeyLoadOp) rfl hp (by simp only [ciphKeyLoadOp, hk])

theorem exec_ciphRollover (hp : ciphRolloverOp.passes c s) : exec (.ciphRollover c) s =
    .next (((s.useRecord ((c.p 0).fld 19 0)).setTxCtx ((c.p 0).fld 19 0)
      { s.txCtx ((c.p 0).fld 19 0) with roll := some (rolloverOf c) }).answered c 0x0702 0 []) :=
  exec_of_ok (op := ciphRolloverOp) rfl hp rfl

end

/-! ### The statement -/

/-- Settles O51: the state each command leaves, and what of the interface, the flows, the thread or the context it puts is read
back. -/
theorem flowCommandsAct : Obligations.FlowCommandsAct := by
  refine ⟨fun c s hp => ⟨_, exec_flowIfaceSet hp, fun i => ?iface⟩,
    fun c s hp => ⟨_, exec_flowSet hp, fun e he hone => ⟨s.txBinding_setFlows c he hone, s.rxFlow_setFlows c he hone⟩⟩,
    fun c s hp => ⟨exec_flowClassMap hp, get_classesAfter_one c s⟩,
    fun c s hp => ⟨_, exec_flowThreadSet hp, fun hway => ?sent, fun hway => ?received⟩,
    fun c s k hp hk => ⟨exec_ciphKeyLoad_declined hp hk, fun key hkey =>
      ⟨_, exec_ciphKeyLoad hp hk hkey, s.next_loadKey c, fun hd => ?slot⟩⟩,
    fun c s hp hk => exec_ciphKeyLoad_of_no_kek hp hk,
    fun c s hp => ⟨_, exec_ciphRollover hp, State.txCtx_setTxCtx_same _ _ _⟩⟩
  case iface =>
    rw [State.fi_updFi]
    split
    next hi => rw [hi]
    next => rfl
  case sent =>
    obtain ⟨r, hr⟩ := s.txThread_setThread c hway
    rw [hr]
    exact ⟨rfl, rfl⟩
  case received =>
    obtain ⟨r, hr⟩ := s.rxThread_setThread c hway
    rw [hr]
    exact ⟨rfl, rfl, rfl⟩
  case slot =>
    obtain ⟨x, hx⟩ := s.rxCtx_loadKey c hd
    rw [hx]
    exact x.load_or _

end Sys2Proof.Machine
end

section
/-!
PROOFS. The happenings of FLOW and CIPH (spec/10 R296 to R317): the answer of each, where it can come about, by what it finds of the
interface, the flow, the thread, the context or the message; and the statement about them.
-/

namespace Sys2Proof.Machine

/-! ### Client frames and streams (R296 to R298, R304) -/

/-- A frame is not an ESMC PDU that TIMING takes (spec/13 R373). -/
theorem not_esmc {b e : Bool} (up : Bool) (h : ¬(b = true ∧ e = false)) : (!(up && b && !e)) = true := by
  cases b with
  | false => simp
  | true =>
    cases e with
    | false => exact absurd ⟨rfl, rfl⟩ h
    | true => simp

/-- The bytes that wait in an ingress buffer. -/
def FlowIface.held (x : FlowIface) : Nat := (x.ingress.map fun f => f.bytes.length).sum

section
variable {s : State} {i : Fin 256} {bytes : List Byte} {y : LaneIface}
  (hl : s.live = true) (hy : s.laneIface i.val = some y) (hup : y.up = true)
include hl hy hup

theorem exec_clientFrameArrive_stream (hs : s.streams i.val = true) :
    exec (.clientFrameArrive i bytes) s = .next (s.takeStream i.val bytes) := by
  change execClientFrameArrive i bytes s = _
  rw [execClientFrameArrive, hy]
  dsimp only
  rw [if_pos hs]
  exact happen_of _ _ (by simp [hl, hup, hs])

variable (hs : s.streams i.val = false) (hesmc : ¬(esmcFrame bytes = true ∧ (s.esmcOf i.val).isEmpty = false))
include hs hesmc

theorem exec_clientFrameArrive_bad (hbad : bytes.length < 64 ∨ 16000 < bytes.length ∨ fcsOk bytes = false) :
    exec (.clientFrameArrive i bytes) s = .next (s.ingressDrop i.val 2) := by
  change execClientFrameArrive i bytes s = _
  rw [execClientFrameArrive, hy]
  dsimp only
  rw [if_neg (by simp [hs])]
  refine (happen_of _ _ (by rw [hl, hup]; exact not_esmc _ hesmc)).trans (congrArg _ ?_)
  by_cases hlen : bytes.length < 64 ∨ 16000 < bytes.length
  · rw [if_pos hlen]
  · obtain ⟨hmin, hmax⟩ := not_or.mp hlen
    have hfcs : fcsOk bytes = false := (hbad.resolve_left hmin).resolve_left hmax
    rw [if_neg hlen, if_pos (by simp [hfcs])]

section
variable (hmin : 64 ≤ bytes.length) (hmax : bytes.length ≤ 16000) (hfcs : fcsOk bytes = true)
include hmin hmax hfcs

theorem exec_clientFrameArrive_unmatched (hc : s.classify i.val bytes = none) :
    exec (.clientFrameArrive i bytes) s = .next (s.ingressDrop i.val 1) := by
  change execClientFrameArrive i bytes s = _
  rw [execClientFrameArrive, hy, hc]
  dsimp only
  rw [if_neg (by simp [hs]), if_neg (by omega), if_neg (by simp [hfcs])]
  exact happen_of _ _ (by rw [hl, hup]; exact not_esmc _ hesmc)

variable {f : Nat} (hc : s.classify i.val bytes = some f)
include hc

theorem exec_clientFrameArrive_full (hfull : 65536 < (s.fi i.val).held + bytes.length) :
    exec (.clientFrameArrive i bytes) s = .next (s.ingressDrop i.val 3) := by
  change execClientFrameArrive i bytes s = _
  unfold FlowIface.held at hfull
  rw [execClientFrameArrive, hy, hc]
  dsimp only
  rw [if_neg (by simp [hs]), if_neg (by omega), if_neg (by simp [hfcs]), if_pos hfull]
  exact happen_of _ _ (by rw [hl, hup]; exact not_esmc _ hesmc)

theorem exec_clientFrameArrive_joins (hroom : (s.fi i.val).held + bytes.length ≤ 65536) (hpool : s.flow.shortTx = false) :
    exec (.clientFrameArrive i bytes) s = .next (runIngress i.val ((s.fi i.val).ingress ++ [⟨f, bytes⟩]) s) := by
  change execClientFrameArrive i bytes s = _
  unfold FlowIface.held at hroom
  rw [execClientFrameArrive, hy, hc, hpool]
  dsimp only
  rw [if_neg (by simp [hs]), if_neg (by omega), if_neg (by simp [hfcs]), if_neg (by omega), if_neg (by simp)]
  exact happen_of _ _ (by rw [hl, hup]; exact not_esmc _ hesmc)

end

end

section
variable {s : State} (hl : s.live = true)
include hl

/-! ### Records, messages done and tails (R299, R300, R306, R307) -/

theorem exec_recordFill {f : Nat} {bad : List Nat} (hf : f < 1048576) (hmiss : s.cached f = false) :
    exec (.recordFill f bad) s = .next ((((if ((s.bump (flowCtr 8) 1).readStripe 3 (s.recordAt 3 f).1 bad).1.mark = 0
      then ((s.bump (flowCtr 8) 1).readStripe 3 (s.recordAt 3 f).1 bad).2
      else ((s.bump (flowCtr 8) 1).readStripe 3 (s.recordAt 3 f).1 bad).2.loseRecord f).useRecord f).runAll).resolveAll) := by
  change execRecordFill f bad s = _
  rw [execRecordFill, if_neg (Nat.not_le.mpr hf)]
  exact happen_of _ _ (by simp [hl, hmiss])

theorem exec_cipherMessageDone {n : Nat} {m : TxMsg} (hm : s.flow.txMsgs[n]? = some m) (hd : m.done = false) :
    exec (.cipherMessageDone n) s = .next ((((s.withFlow { s.flow with
      txMsgs := s.flow.txMsgs.set n { m with done := true } }).bump (ciphCtr 0) 1).packDone).runAll) := by
  change execCipherMessageDone n s = _
  rw [execCipherMessageDone, hm]
  exact happen_of _ _ (by simp [hl, hd])

section
variable {f : Nat} {x : TxFlow} (hx : s.txFlow f = some x)
include hx

theorem exec_tailWrite_full (hc : x.segs.any (·.st == .closed) = true) :
    exec (.tailWrite f 0) s = .next (((s.issue f).packDone).runAll) := by
  change execTailWrite f 0 s = _
  rw [execTailWrite, hx]
  exact happen_of _ _ (by rw [hl, hc]; rfl)

variable {g : Seg} (hc : x.segs.any (·.st == .closed) = false) (hg : x.tail = some g)
include hc hg

theorem exec_tailWrite_flush (hflush : x.flush = true) (ha : s.affords x g = true) : exec (.tailWrite f 1) s =
    .next (((((s.closeTail f x g).bump (flowCtr 5) 1).issue f).packDone).runAll) := by
  change execTailWrite f 1 s = _
  rw [execTailWrite, hx]
  dsimp only
  rw [hg]
  exact happen_of _ _ (by rw [hl, hc, hflush, ha]; rfl)

theorem exec_tailWrite_evict (hb : s.tailBlocked = true) (hr : s.tailRegion = none) (hv : s.victim = some f) :
    exec (.tailWrite f 2) s = .next (((((s.closeTail f x g).bump (flowCtr 7) 1).issue f).packDone).runAll) := by
  change execTailWrite f 2 s = _
  rw [execTailWrite, hx]
  dsimp only
  rw [hg]
  exact happen_of _ _ (by simp [hl, hb, hr, hv, hc])

end

/-! ### The scheduler of a transmit thread (R304, R306, R309, R310) -/

/-- A stripe of a queue has been written. -/
def Seg.isWritten (g : Seg) : Bool := match g.st with | .written _ => true | _ => false

section
variable {t tick : Nat} {bad : List (Nat × List Nat)} (ht : (s.thread 1 t).isSome = true)
include ht

theorem exec_threadBytesNeeded_stream (hk : (s.txThread t).stream = true) (htick : tick % 256 = 0) :
    exec (.threadBytesNeeded t tick bad) s = .next (s.sendSegment t tick).runAll := by
  change execThreadBytesNeeded t tick bad s = _
  rw [execThreadBytesNeeded]
  dsimp only
  rw [if_pos hk, if_pos htick]
  exact happen_of _ _ (by rw [hl, ht]; rfl)

section
variable (hk : (s.txThread t).stream = false) (hsize : s.sizeNow 1 t ≠ 0)
include hk hsize

theorem exec_threadBytesNeeded_idle (ha : (s.txThread t).active = []) :
    exec (.threadBytesNeeded t tick bad) s = .next (s.emit (.thread t idleHeader)).runAll := by
  change execThreadBytesNeeded t tick bad s = _
  rw [execThreadBytesNeeded]
  dsimp only
  rw [if_neg (by simp [hk]), if_neg hsize, ha]
  exact happen_of _ _ (by rw [hl, ht]; rfl)

variable {f : Nat} {r : List Nat} {x : TxFlow} {p : Parcel} {ps : List Parcel}
  (ha : (s.txThread t).active = f :: r) (hx : s.txFlow f = some x) (hps : x.parcels = p :: ps)
include ha hx hps

/-- The parcel at the head of a thread's list: its flow goes to the end of the list while stripes are awaited or the deficit is
short, else the parcel is sent. -/
theorem exec_threadBytesNeeded_parcel : exec (.threadBytesNeeded t tick bad) s = .next (State.runAll
    (if (!(x.stripesOf p).all fun e => e.2.isWritten) = true then
      (s.setTxFlow f { x with flush := x.flush || (x.stripesOf p).any fun e => e.2.st == .open_ }).updTxThread t fun z =>
        { z with active := z.active.drop 1 ++ [f] }
    else if x.deficit < counted p.frame (s.txThread t).lenAdj then
      (s.setTxFlow f { x with deficit := x.deficit + s.quantumNow x }).updTxThread t fun z =>
        { z with active := z.active.drop 1 ++ [f] }
    else s.sendParcel t f x p bad)) := by
  change execThreadBytesNeeded t tick bad s = _
  simp only [execThreadBytesNeeded, hk, hsize, ha, hx, hps, Bool.false_eq_true, if_false]
  exact happen_of _ _ (by rw [hl, ht]; rfl)

theorem exec_threadBytesNeeded_waits (hready : ((x.stripesOf p).all fun e => e.2.isWritten) = false) :
    exec (.threadBytesNeeded t tick bad) s = .next (((s.setTxFlow f { x with
      flush := x.flush || (x.stripesOf p).any fun e => e.2.st == .open_ }).updTxThread t fun z =>
        { z with active := z.active.drop 1 ++ [f] }).runAll) := by
  rw [exec_threadBytesNeeded_parcel hl ht hk hsize ha hx hps, if_pos (by rw [hready]; rfl)]

section
variable (hready : ((x.stripesOf p).all fun e => e.2.isWritten) = true)
include hready

theorem exec_threadBytesNeeded_adds (hd : x.deficit < counted p.frame (s.txThread t).lenAdj) :
    exec (.threadBytesNeeded t tick bad) s = .next (((s.setTxFlow f { x with deficit := x.deficit + s.quantumNow x }).updTxThread t
      fun z => { z with active := z.active.drop 1 ++ [f] }).runAll) := by
  rw [exec_threadBytesNeeded_parcel hl ht hk hsize ha hx hps, if_neg (by simp [hready]), if_pos hd]

theorem exec_threadBytesNeeded_sends (hd : counted p.frame (s.txThread t).lenAdj ≤ x.deficit) :
    exec (.threadBytesNeeded t tick bad) s = .next (s.sendParcel t f x p bad).runAll := by
  rw [exec_threadBytesNeeded_parcel hl ht hk hsize ha hx hps, if_neg (by simp [hready]), if_neg (Nat.not_lt.mpr hd)]

end

end

end

/-! ### Rollovers (R316) -/

/-- A context's rollover names a multiframe that a port has reached. -/
def TxCtx.dueAt (s : State) (p : Port) (x : TxCtx) : Bool :=
  match x.roll with | some r => r.1 == p && (s.lp p).mfReached r.2 | none => false

/-- The one rollover that is due puts its context with the next key current, counts and raises its event. -/
theorem exec_keyRollover {p : Port} {c : Nat} {x : TxCtx} (hdue : (s.flow.txCtx.filter fun e => e.2.dueAt s p) = [(c, x)]) :
    ∃ data, exec (.keyRollover p) s =
      .next (((s.setTxCtx c { cur := x.next }).bump (ciphCtr 6) 1).raise 0x0702 0 ciphHa data) := by
  change ∃ data, execKeyRollover p s = _
  unfold execKeyRollover
  generalize hd : List.filter _ s.flow.txCtx = due
  obtain rfl : due = [(c, x)] := hd.symm.trans hdue
  exact ⟨_, happen_of _ _ (by rw [hl]; rfl)⟩

/-! ### Parcels received (R303, R311) -/

section
variable {t pos : Nat} {hdr : BitVec 64} {body : List Byte} (ht : s.threadServes t = true) (hk : (s.rxThread t).stream = false)
include ht hk

theorem exec_rxParcel_inSync (hsync : (s.rxThread t).sync = some pos) (hok : hdrOk hdr = true) :
    exec (.rxParcel t pos hdr body) s =
      .next ((s.updRxThread t fun r => { r with sync := some (pos + parcelLen hdr) }).takeParcel t hdr body) := by
  change execRxParcel t pos hdr body s = _
  simp only [execRxParcel, hsync, hok, ne_eq, not_true_eq_false, if_false, if_true]
  exact happen_of _ _ (by rw [hl, ht, hk]; rfl)

theorem exec_rxParcel_losesSync (hsync : (s.rxThread t).sync = some pos) (hok : hdrOk hdr = false) :
    exec (.rxParcel t pos hdr body) s = .next ((s.hunt t).bump (flowCtr 11) 1) := by
  change execRxParcel t pos hdr body s = _
  simp only [execRxParcel, hsync, hok, ne_eq, not_true_eq_false, Bool.false_eq_true, if_false]
  exact happen_of _ _ (by rw [hl, ht, hk]; rfl)

theorem exec_rxParcel_newCandidate (hsync : (s.rxThread t).sync = none) (hok : hdrOk hdr = true)
    (hc : (s.rxThread t).cands.contains pos = false) : exec (.rxParcel t pos hdr body) s =
      .next (s.updRxThread t fun r => { r with cands := r.cands ++ [pos + parcelLen hdr] }) := by
  change execRxParcel t pos hdr body s = _
  simp only [execRxParcel, hsync, hok, hc, Bool.not_true, Bool.false_eq_true, if_false]
  exact happen_of _ _ (by rw [hl, ht, hk]; rfl)

theorem exec_rxParcel_gainsSync (hsync : (s.rxThread t).sync = none) (hok : hdrOk hdr = true)
    (hc : (s.rxThread t).cands.contains pos = true) : exec (.rxParcel t pos hdr body) s =
      .next ((evDelin t false (s.updRxThread t fun r =>
        { r with sync := some (pos + parcelLen hdr), cands := [] })).takeParcel t hdr body) := by
  change execRxParcel t pos hdr body s = _
  simp only [execRxParcel, hsync, hok, hc, Bool.not_true, Bool.false_eq_true, if_false, if_true]
  exact happen_of _ _ (by rw [hl, ht, hk]; rfl)

end

end

/-! ### Decryption (R312, R313) -/

/-- A slot of a receive context holds the key of an ID. -/
def keyNamed (id : Nat) (o : Option RxKey) : Bool := match o with | some k => k.id == id | none => false

theorem keyNamed_eq_false {id : Nat} {o : Option RxKey} (h : ∀ k, o = some k → k.id ≠ id) : ¬keyNamed id o = true := by
  cases o with
  | none => exact Bool.false_ne_true
  | some k => simpa [keyNamed] using h k rfl

/-- A message that opened is a frame, its counter accepted by the key of slot 0 (R313). -/
def State.decrypted (n : Nat) (m : RxMsg) (ctx : Nat) (k : RxKey) (plain : List Byte) (s : State) : State :=
  let u := (s.nextOrder.setRxCtx ctx { s.rxCtx ctx with a := some (k.accept (beNat (m.body.take 8)) (s.flow.order + 1)) }).bump
    (ciphCtr 1) 1
  u.withFlow { u.flow with rxMsgs := u.flow.rxMsgs.set n { m with state := .frame plain } }

section
variable {s : State} {n r : Nat} {m : RxMsg} {x : RxFlow} (hl : s.live = true)
  (hm : s.flow.rxMsgs[n]? = some m) (hst : m.state = .cipher r) (hx : s.rxFlow m.flow = some x) (hid : m.keyId < 256)
include hl hm hst hx hid

theorem exec_cipherDecrypt_unknown (ha : ∀ y, (s.rxCtx x.ctx).a = some y → y.id ≠ m.keyId)
    (hb : ∀ y, (s.rxCtx x.ctx).b = some y → y.id ≠ m.keyId) :
    exec (.cipherDecrypt n) s = .next (s.authFail n 3 x.ctx m).resolveAll := by
  have hparcel : m.keyId ≠ 257 := by omega
  change execCipherDecrypt n s = _
  simp only [execCipherDecrypt, hm, hx, hparcel, hst, if_false, Option.isSome_some, if_true, false_and]
  rw [if_neg, if_neg]
  · exact happen_of _ _ (by rw [hl]; rfl)
  · exact keyNamed_eq_false hb
  · exact keyNamed_eq_false ha

section
variable {k : RxKey} (ha : (s.rxCtx x.ctx).a = some k) (hk : k.id = m.keyId)
include ha hk

theorem exec_cipherDecrypt_badTag (ho : m.open_ k = none) :
    exec (.cipherDecrypt n) s = .next (s.authFail n 1 x.ctx m).resolveAll := by
  have hparcel : m.keyId ≠ 257 := by omega
  change execCipherDecrypt n s = _
  simp only [execCipherDecrypt, hm, hx, hparcel, hst, ha, hk, ho, if_false, Option.isSome_some, if_true, beq_self_eq_true,
    Option.map_some]
  exact happen_of _ _ (by rw [hl]; rfl)

variable {plain : List Byte} (ho : m.open_ k = some plain)
include ho

theorem exec_cipherDecrypt_replayed (hf : k.fresh (beNat (m.body.take 8)) = false) :
    exec (.cipherDecrypt n) s = .next (s.authFail n 2 x.ctx m).resolveAll := by
  have hparcel : m.keyId ≠ 257 := by omega
  change execCipherDecrypt n s = _
  simp only [execCipherDecrypt, hm, hx, hparcel, hst, ha, hk, ho, hf, if_false, Option.isSome_some, if_true, beq_self_eq_true,
    Option.map_some, Bool.not_false]
  exact happen_of _ _ (by rw [hl]; rfl)

theorem exec_cipherDecrypt_accepted (hf : k.fresh (beNat (m.body.take 8)) = true) (hseg : m.segment = none) :
    exec (.cipherDecrypt n) s = .next (s.decrypted n m x.ctx k plain).resolveAll := by
  have hparcel : m.keyId ≠ 257 := by omega
  have hwhole : m.segment.isSome = false := by rw [hseg]; rfl
  change execCipherDecrypt n s = _
  simp only [execCipherDecrypt, hm, hx, hparcel, hst, ha, hk, ho, hf, hwhole, if_false, Option.isSome_some,
    if_true, beq_self_eq_true, Option.map_some, Bool.not_true, Bool.false_eq_true]
  exact happen_of _ _ (by rw [hl]; rfl)

end

end

/-! ### Egress (R311) -/

/-- The one message in hand is taken for an interface, whose turn passes to its thread. -/
def State.takenFor (i : Nat) (m : RxMsg) (s : State) : State :=
  (s.withFlow { s.flow with rxMsgs := [] }).updFi i fun x => { x with lastThread := m.thread }

/-- A frame leaves on an interface, whose egress buffer held `level`. -/
def State.deliver (i level : Nat) (m : RxMsg) (bs : List Byte) (s : State) : State :=
  ((((s.updFi i fun x => { x with level := level + 8 * bs.length * egressBit, since := s.time }).bump (flowCtr 9) 1).bump
    (oneFlowCtr 0 m.flow 0) 1).bump (oneFlowCtr 0 m.flow 1) bs.length).emit (.client i m.flow bs)

/-- A frame that finds the egress buffer of an interface full is discarded and counted. -/
def State.discardAt (i : Nat) (m : RxMsg) (s : State) : State := (s.egressDrop (some i)).bump (oneFlowCtr 0 m.flow 3) 1

section
variable (s : State)

theorem State.out_deliver (i level : Nat) (m : RxMsg) (bs : List Byte) :
    ((s.takenFor i m).deliver i level m bs).out = s.out ++ [.client i m.flow bs] := by
  have hbump (u : State) (k n : Nat) : (u.bump k n).out = u.out := rfl
  rw [State.deliver, State.emit, State.withOut_out, hbump, hbump, hbump]
  rfl

theorem State.out_discardAt (i : Nat) (m : RxMsg) : ((s.takenFor i m).discardAt i m).out = s.out :=
  State.out_egressDrop _ _

theorem State.rxMsgs_discardAt (i : Nat) (m : RxMsg) : ((s.takenFor i m).discardAt i m).flow.rxMsgs = [] :=
  congrArg Flow.rxMsgs (State.flow_egressDrop _ _)

end

section
variable {s : State} {i : Fin 256} {m : RxMsg} {bs : List Byte} (hl : s.live = true)
  (hone : s.flow.rxMsgs = [m]) (hst : m.state = .frame bs) (he : (s.rxThread m.thread).egress = some i.val)
include hl hone hst he

theorem exec_egressDeliver : exec (.egressDeliver i) s = .next
    (if egressMax < s.egressLevel i.val + 8 * bs.length * egressBit then (s.takenFor i.val m).discardAt i.val m
     else (s.takenFor i.val m).deliver i.val (s.egressLevel i.val) m bs) := by
  change execEgressDeliver i s = _
  unfold execEgressDeliver
  rw [hone]
  generalize hmine : List.filter _ (heads [] 0 [m]) = mine
  obtain rfl : mine = [(0, m)] := hmine.symm.trans (by simp [heads, he, hst])
  by_cases hlast : (s.fi i.val).lastThread < m.thread
  · simp only [List.filter_cons, List.filter_nil, hlast, decide_true, if_true, leastBy, hst]
    exact happen_of _ _ hl
  · simp only [List.filter_cons, List.filter_nil, hlast, decide_false, Bool.false_eq_true, if_false, leastBy, hst]
    exact happen_of _ _ hl

end

/-! ### The statement -/

/-- Settles O52: each happening's answer, where it can come about, by what it finds. -/
theorem flowHappenings : Obligations.FlowHappenings := by
  refine ⟨fun s i bytes y hl hy hup => ⟨exec_clientFrameArrive_stream hl hy hup, fun hs hesmc =>
      ⟨exec_clientFrameArrive_bad hl hy hup hs hesmc, fun hmin hmax hfcs =>
        ⟨exec_clientFrameArrive_unmatched hl hy hup hs hesmc hmin hmax hfcs, fun f hc =>
          ⟨exec_clientFrameArrive_full hl hy hup hs hesmc hmin hmax hfcs hc,
            exec_clientFrameArrive_joins hl hy hup hs hesmc hmin hmax hfcs hc⟩⟩⟩⟩,
    fun s f bad hl hf hmiss => exec_recordFill hl hf hmiss,
    fun s n m hl hm hd => exec_cipherMessageDone hl hm hd,
    fun s f x g hl hx => ⟨exec_tailWrite_full hl hx, fun hc hg =>
      ⟨exec_tailWrite_flush hl hx hc hg, exec_tailWrite_evict hl hx hc hg⟩⟩,
    fun s t tick bad hl ht => ⟨exec_threadBytesNeeded_stream hl ht, fun hk hsize =>
      ⟨exec_threadBytesNeeded_idle hl ht hk hsize, fun f r x p ps ha hx hps =>
        ⟨fun hready => ⟨exec_threadBytesNeeded_adds hl ht hk hsize ha hx hps hready,
          exec_threadBytesNeeded_sends hl ht hk hsize ha hx hps hready⟩,
          exec_threadBytesNeeded_waits hl ht hk hsize ha hx hps⟩⟩⟩,
    fun s p c x hl hdue => ?rollover,
    fun s t pos hdr body hl ht hk => ⟨exec_rxParcel_inSync hl ht hk,
      fun hsync hok => ⟨exec_rxParcel_losesSync hl ht hk hsync hok, s.rxThread_hunt t⟩,
      fun hsync hok hc => ⟨_, exec_rxParcel_newCandidate hl ht hk hsync hok hc, ?candidate⟩,
      exec_rxParcel_gainsSync hl ht hk⟩,
    fun s n m r x k hl hm hst hx hid => ⟨exec_cipherDecrypt_unknown hl hm hst hx hid, fun ha hk =>
      ⟨exec_cipherDecrypt_badTag hl hm hst hx hid ha hk, fun plain ho =>
        ⟨exec_cipherDecrypt_replayed hl hm hst hx hid ha hk ho, fun hf hseg =>
          ⟨_, exec_cipherDecrypt_accepted hl hm hst hx hid ha hk ho hf hseg, rfl, State.rxCtx_setRxCtx_same _ _ _⟩⟩⟩⟩,
    fun s i m bs hl hone hst he => ⟨_, exec_egressDeliver hl hone hst he, ?taken, fun hfits => ?delivered, fun hfull => ?full⟩⟩
  case rollover =>
    obtain ⟨data, hexec⟩ := exec_keyRollover hl hdue
    have hput (d : Nat) : (((s.setTxCtx c { cur := x.next }).bump (ciphCtr 6) 1).raise 0x0702 0 ciphHa data).txCtx d =
        if d = c then { cur := x.next } else s.txCtx d := by
      rw [State.txCtx, State.flow_raise]
      exact s.txCtx_setTxCtx c d _
    exact ⟨_, hexec, (hput c).trans (if_pos rfl), fun d hd => (hput d).trans (if_neg hd)⟩
  case candidate => rw [State.rxThread_updRxThread_same]
  case taken =>
    split
    · exact s.rxMsgs_discardAt _ _
    · rfl
  case delivered =>
    rw [if_neg (Nat.not_lt.mpr hfits)]
    exact s.out_deliver _ _ _ _
  case full =>
    rw [if_pos hfull]
    exact s.out_discardAt _ _

end Sys2Proof.Machine
end

section
/-!
PROOFS. The client lanes (spec/11 R336 to R347): lanes and interfaces after what leaves them alone and after what changes them,
what each command and each happening leaves of a lane, and the statement about them.
-/

namespace Sys2Proof.Machine

/-! ### Lanes after what leaves them alone -/

theorem Keeps.lanes_eq {cs : List Comp} {s t : State} (h : Keeps cs s t) (hlanes : .lanes ∉ cs) : t.lanes = s.lanes :=
  h.frame .lanes hlanes

section
variable (s : State)

@[simp] theorem State.lanes_bump (k n : Nat) : (s.bump k n).lanes = s.lanes := rfl

@[simp] theorem State.lanes_raise (code sev ha data : Nat) : (s.raise code sev ha data).lanes = s.lanes :=
  (State.raise_keeps (cs := [.clerk, .hier, .tally]) (Keeps.refl s)).lanes_eq (by decide)

@[simp] theorem State.lanes_evIface (i : Nat) (up : Bool) (cause : Nat) : (evIface i up cause s).lanes = s.lanes :=
  (evIface_keeps (cs := [.clerk, .hier, .tally]) (Keeps.refl s)).lanes_eq (by decide)

@[simp] theorem State.lanes_evClientLane (g : Fin 2) (l : Nat) (old new : LaneRx) (cause : Nat) :
    (evClientLane g l old new cause s).lanes = s.lanes :=
  s.lanes_raise _ _ _ _

@[simp] theorem State.lanes_refreshHealth : s.refreshHealth.lanes = s.lanes :=
  (State.refreshHealth_keeps (cs := [.clerk, .hier, .tally]) (Keeps.refl s)).lanes_eq (by decide)

@[simp] theorem State.lanes_refreshBoot : s.refreshBoot.lanes = s.lanes :=
  (State.refreshBoot_keeps (cs := [.boot]) (Keeps.refl s)).lanes_eq (by decide)

@[simp] theorem State.lanes_freeCause : s.freeCause.2.lanes = s.lanes :=
  (State.freeCause_keeps (cs := [.free]) (Keeps.refl s)).lanes_eq (by decide)

end

/-! ### Interfaces (R340, R344, R354) -/

section
variable (s : State) (i : Nat)

theorem State.laneIface_of_ifaces {t : State} (h : t.lanes.ifaces = s.lanes.ifaces) : t.laneIface i = s.laneIface i :=
  congrArg (Tab.get none · i) h

@[simp] theorem State.laneIface_evIface (j : Nat) (up : Bool) (cause : Nat) :
    (evIface j up cause s).laneIface i = s.laneIface i :=
  s.laneIface_of_ifaces i (congrArg Lanes.ifaces (s.lanes_evIface j up cause))

@[simp] theorem State.laneIface_setIfaceUp (x : LaneIface) (up : Bool) :
    (s.setIfaceUp i x up).laneIface i = some { x with up := up } :=
  (Tab.get_set s.lanes.ifaces i i).trans (if_pos rfl)

/-- Following its lanes, an interface is put with the state it had, or is told up or down. -/
theorem State.refreshIface_cases {x : LaneIface} (h : s.laneIface i = some x) (cause : Nat) : ∃ aligned,
    s.refreshIface i cause = s.withLanes { s.lanes with
      ifaces := Tab.set none s.lanes.ifaces i (some { x with aligned := aligned }) } ∨
    ∃ up why, s.refreshIface i cause = evIface i up why (s.setIfaceUp i { x with aligned := aligned } up) := by
  unfold State.refreshIface
  rw [h]
  dsimp only
  generalize (if 240 ≤ i then s.clientIfaceCause i x else s.hostIfaceCause i x) = why
  by_cases hup : (why == 0) = x.up
  · exact ⟨_, .inl (if_pos hup)⟩
  · exact ⟨_, .inr ⟨_, _, if_neg hup⟩⟩

/-- Following its lanes, an interface keeps its mode, its width and its rate. -/
theorem State.laneIface_refreshIface {x : LaneIface} (h : s.laneIface i = some x) (cause : Nat) :
    ∃ up aligned, (s.refreshIface i cause).laneIface i = some { x with up := up, aligned := aligned } := by
  obtain ⟨aligned, hkept | ⟨up, why, htold⟩⟩ := s.refreshIface_cases i h cause
  · rw [hkept]
    exact ⟨x.up, aligned, (Tab.get_set s.lanes.ifaces i i).trans (if_pos rfl)⟩
  · rw [htold, State.laneIface_evIface, State.laneIface_setIfaceUp]
    exact ⟨up, aligned, rfl⟩

/-- A defined interface has the mode, the width and the rate it was given, whether or not it keeps its state. -/
theorem State.laneIface_defineIface (x : LaneIface) :
    ∃ y, (s.defineIface i x).laneIface i = some y ∧ y.mode = x.mode ∧ y.width = x.width ∧ y.rate = x.rate := by
  have hfollows {u : State} (hu : u.laneIface i = some { x with up := false }) :
      ∃ y, (u.refreshIface i 0).laneIface i = some y ∧ y.mode = x.mode ∧ y.width = x.width ∧ y.rate = x.rate := by
    obtain ⟨up, aligned, h⟩ := u.laneIface_refreshIface i hu 0
    exact ⟨_, h, rfl, rfl, rfl⟩
  unfold State.defineIface
  split
  next y _ =>
    split
    case isTrue hsame =>
      obtain ⟨hwidth, hrate, -⟩ := hsame
      exact ⟨{ y with mode := x.mode }, (Tab.get_set s.lanes.ifaces i i).trans (if_pos rfl), rfl, hwidth, hrate⟩
    case isFalse =>
      apply hfollows
      split
      · rw [State.laneIface_evIface, State.laneIface_setIfaceUp]
      · exact s.laneIface_setIfaceUp i x false
  next => exact hfollows (s.laneIface_setIfaceUp i x false)

theorem State.laneIface_deleteIface : (s.deleteIface i).laneIface i = none := by
  unfold State.deleteIface
  split
  next h => exact h
  next y _ =>
    have hgone (u : State) : (u.withLanes { u.lanes with ifaces := Tab.set none u.lanes.ifaces i none }).laneIface i = none :=
      (Tab.get_set u.lanes.ifaces i i).trans (if_pos rfl)
    dsimp only
    split
    · rw [State.laneIface_evIface, hgone]
    · exact hgone _

end

/-! ### The groups of client lanes, which no interface changes -/

section
variable (s : State)

@[simp] theorem State.groups_setIfaceUp (i : Nat) (x : LaneIface) (up : Bool) :
    (s.setIfaceUp i x up).lanes.groups = s.lanes.groups := rfl

@[simp] theorem State.groups_refreshIface (i cause : Nat) : (s.refreshIface i cause).lanes.groups = s.lanes.groups := by
  cases h : s.laneIface i with
  | none => rw [State.refreshIface, h]
  | some x =>
    obtain ⟨aligned, hkept | ⟨up, why, htold⟩⟩ := s.refreshIface_cases i h cause
    · rw [hkept, State.withLanes_lanes]
    · rw [htold, State.lanes_evIface, State.groups_setIfaceUp]

@[simp] theorem State.groups_refreshLane (client : Bool) (n : Nat) :
    (s.refreshLane client n).lanes.groups = s.lanes.groups := by
  refine List.foldlRecOn (motive := fun u : State => u.lanes.groups = s.lanes.groups) _ _ rfl fun u hu e _ => ?_
  split
  case h_1 x _ =>
    dsimp only
    generalize (if client = true then _ else _ : Bool) = mine
    cases mine with
    | true => exact (u.groups_refreshIface e.1 0).trans hu
    | false => exact hu
  case h_2 => exact hu

theorem State.cl_of_groups {t : State} (h : t.lanes.groups = s.lanes.groups) (g : Fin 2) (l : Nat) : t.cl g l = s.cl g l :=
  congrArg (fun x : P2 ClientGroup => Tab.get ({} : ClientLane) (x.get g).lanes l) h

end

/-! ### A client lane after what leaves it alone and after what changes it -/

/-- A lane whose receive direction goes to a state: from another state, the step, the peer and the lateness start anew. -/
def ClientLane.moved (new : LaneRx) (x : ClientLane) : ClientLane :=
  if x.rx = new then x
  else { x with rx := new, step := if new = .align then 2 else 0, peer := if new = .up then x.peer else 0xFF,
                late := x.late && decide (new = .up) }

section
variable (new : LaneRx) (x : ClientLane)

theorem ClientLane.moved_of_ne {new : LaneRx} {x : ClientLane} (h : x.rx ≠ new) : x.moved new =
    { x with rx := new, step := if new = .align then 2 else 0, peer := if new = .up then x.peer else 0xFF,
             late := x.late && decide (new = .up) } :=
  if_neg h

@[simp] theorem ClientLane.moved_rx : (x.moved new).rx = new := by
  unfold ClientLane.moved
  split
  case isTrue h => exact h
  case isFalse => rfl

@[simp] theorem ClientLane.moved_tx : (x.moved new).tx = x.tx := by unfold ClientLane.moved; split <;> rfl
@[simp] theorem ClientLane.moved_los : (x.moved new).los = x.los := by unfold ClientLane.moved; split <;> rfl
@[simp] theorem ClientLane.moved_adcFault : (x.moved new).adcFault = x.adcFault := by unfold ClientLane.moved; split <;> rfl
@[simp] theorem ClientLane.moved_dacFault : (x.moved new).dacFault = x.dacFault := by unfold ClientLane.moved; split <;> rfl

end

section
variable (s : State) (g : Fin 2) (l k : Nat)

@[simp] theorem State.cl_bump (j n : Nat) : (s.bump j n).cl g l = s.cl g l := rfl

@[simp] theorem State.cl_raise (code sev ha data : Nat) : (s.raise code sev ha data).cl g l = s.cl g l :=
  s.cl_of_groups (congrArg Lanes.groups (s.lanes_raise code sev ha data)) g l

@[simp] theorem State.cl_evClientLane (h : Fin 2) (old new : LaneRx) (cause : Nat) :
    (evClientLane h k old new cause s).cl g l = s.cl g l :=
  s.cl_raise g l _ _ _ _

@[simp] theorem State.cl_refreshHealth : s.refreshHealth.cl g l = s.cl g l :=
  s.cl_of_groups (congrArg Lanes.groups s.lanes_refreshHealth) g l

@[simp] theorem State.cl_refreshBoot : s.refreshBoot.cl g l = s.cl g l :=
  s.cl_of_groups (congrArg Lanes.groups s.lanes_refreshBoot) g l

@[simp] theorem State.cl_freeCause : s.freeCause.2.cl g l = s.cl g l :=
  s.cl_of_groups (congrArg Lanes.groups s.lanes_freeCause) g l

@[simp] theorem State.cl_refreshLane (client : Bool) (n : Nat) : (s.refreshLane client n).cl g l = s.cl g l :=
  s.cl_of_groups (s.groups_refreshLane client n) g l

/-- Reading a lane of a group after one of its lanes is changed. -/
theorem State.cl_updCl (f : ClientLane → ClientLane) :
    (s.updCl g l f).cl g k = if k = l then f (s.cl g l) else s.cl g k := by
  rw [State.cl, State.updCl, State.withLanes_lanes, P2.get_upd, if_pos rfl]
  exact Tab.get_set _ l k

@[simp] theorem State.cl_updCl_same (f : ClientLane → ClientLane) : (s.updCl g l f).cl g l = f (s.cl g l) := by
  rw [State.cl_updCl, if_pos rfl]

/-- Reading a lane of a group after the receive direction of one of its lanes goes to a state. -/
theorem State.cl_moveClient (new : LaneRx) (cause : Nat) :
    (s.moveClient g l new cause).cl g k = if k = l then (s.cl g l).moved new else s.cl g k := by
  unfold State.moveClient
  dsimp only
  split
  case isTrue h =>
    rw [ClientLane.moved, if_pos h]
    split
    case isTrue hk => rw [hk]
    case isFalse => rfl
  case isFalse h => rw [State.cl_refreshLane, State.cl_evClientLane, State.cl_updCl, ClientLane.moved_of_ne h]

@[simp] theorem State.cl_moveClient_same (new : LaneRx) (cause : Nat) :
    (s.moveClient g l new cause).cl g l = (s.cl g l).moved new := by
  rw [State.cl_moveClient, if_pos rfl]

end

/-! ### The lanes of a mask (R345) -/

theorem maskLanes_nodup (n mask : Nat) : (maskLanes n mask).Nodup :=
  List.Pairwise.filter _ List.nodup_range

/-- Reading one of several units of a kind after a list of them, none twice, is put unit by unit. -/
theorem read_foldl_units {α : Type} {read : State → Nat → α} {put : State → Nat → State} (f : α → α)
    (hput : ∀ s l k, read (put s l) k = if k = l then f (read s l) else read s k) {ls : List Nat} (hls : ls.Nodup) (k : Nat) :
    ∀ s : State, read (ls.foldl put s) k = if k ∈ ls then f (read s k) else read s k := by
  induction ls with
  | nil => exact fun s => rfl
  | cons l ls ih =>
    intro s
    obtain ⟨hl, hls⟩ := List.nodup_cons.mp hls
    rw [List.foldl_cons, ih hls, hput]
    by_cases hk : k = l
    · subst hk
      simp [hl]
    · simp [hk]

/-- The receive direction of a lane of the mask, which CLIENT_LANE_ENABLE may select. -/
def LaneRx.enable (selected on : Bool) (x : LaneRx) : LaneRx :=
  if selected = false then x else if on = false then .off else if x = .off then .signalWait else x

/-- The transmit direction of a lane of the mask, which CLIENT_LANE_ENABLE may select. -/
def LaneTx.enable (selected on : Bool) (x : LaneTx) : LaneTx :=
  if selected = false then x else if on = false then .off else if x = .off then .muted else x

/-- A lane whose receive direction CLIENT_LANE_ENABLE may select: enabled it waits for a signal, disabled it forgets the loss. -/
def ClientLane.enableRx (selected on : Bool) (x : ClientLane) : ClientLane :=
  if selected = false then x else if on = false then { x.moved .off with los := false }
  else if x.rx = .off then ClientLane.moved .signalWait { x with los := true } else x

theorem ClientLane.enableRx_rx (selected on : Bool) (x : ClientLane) :
    (x.enableRx selected on).rx = x.rx.enable selected on := by
  simp only [ClientLane.enableRx, LaneRx.enable, apply_ite ClientLane.rx, ClientLane.moved_rx]

theorem ClientLane.enableRx_tx (selected on : Bool) (x : ClientLane) : (x.enableRx selected on).tx = x.tx := by
  simp only [ClientLane.enableRx, apply_ite ClientLane.tx, ClientLane.moved_tx, ite_self]

/-- CLIENT_LANE_ENABLE at the receive direction of one lane. -/
def State.enableClientRx (g : Fin 2) (selected on : Bool) (s : State) (l : Nat) : State :=
  if selected = false then s else if on = false then (s.moveClient g l .off 0).updCl g l fun x => { x with los := false }
  else if (s.cl g l).rx = .off then (s.updCl g l fun x => { x with los := true }).moveClient g l .signalWait 0 else s

/-- A transmitter of the mask after CLIENT_LANE_MUTE: one that is OFF stays so. -/
def LaneTx.mute (muted : Bool) (x : LaneTx) : LaneTx := if x ≠ .off then (if muted then .muted else .on) else x

/-- CLIENT_LANE_MUTE at one lane. -/
def State.muteClient (g : Fin 2) (muted : Bool) (s : State) (l : Nat) : State :=
  match (s.cl g l).tx, muted with
  | .on, true => (s.updCl g l fun x => { x with tx := .muted }).bump (clientCtr g l 10) 1
  | .muted, false => s.updCl g l fun x => { x with tx := .on }
  | _, _ => s

section
variable (g : Fin 2) (s : State) (l k : Nat)

theorem State.cl_enableClientRx (selected on : Bool) : (s.enableClientRx g selected on l).cl g k =
    if k = l then (s.cl g l).enableRx selected on else s.cl g k := by
  have hsame : s.cl g k = if k = l then s.cl g l else s.cl g k := by
    split
    case isTrue hk => rw [hk]
    case isFalse => rfl
  unfold State.enableClientRx ClientLane.enableRx
  by_cases hselected : selected = false
  · rw [if_pos hselected, if_pos hselected, ← hsame]
  rw [if_neg hselected, if_neg hselected]
  by_cases hon : on = false
  · rw [if_pos hon, if_pos hon, State.cl_updCl, State.cl_moveClient_same, State.cl_moveClient]
    split <;> rfl
  rw [if_neg hon, if_neg hon]
  by_cases hoff : (s.cl g l).rx = .off
  · rw [if_pos hoff, if_pos hoff, State.cl_moveClient, State.cl_updCl_same, State.cl_updCl]
    split <;> rfl
  · rw [if_neg hoff, if_neg hoff, ← hsame]

theorem State.enableClient_eq (rx tx on : Bool) : s.enableClient g rx tx on l =
    if tx = false then s.enableClientRx g rx on l
    else (s.enableClientRx g rx on l).updCl g l fun x => { x with tx := x.tx.enable tx on } := by
  cases rx <;> cases tx <;> cases on <;> rfl

/-- CLIENT_LANE_ENABLE at one lane enables each direction by its own selection. -/
theorem State.cl_enableClient (rx tx on : Bool) : (s.enableClient g rx tx on l).cl g k =
    if k = l then { (s.cl g l).enableRx rx on with tx := (s.cl g l).tx.enable tx on } else s.cl g k := by
  have hkept : { (s.cl g l).enableRx rx on with tx := (s.cl g l).tx } = (s.cl g l).enableRx rx on := by
    rw [← ClientLane.enableRx_tx rx on (s.cl g l)]
  rw [State.enableClient_eq]
  split
  case isTrue h => rw [State.cl_enableClientRx, LaneTx.enable, if_pos h, hkept]
  case isFalse h =>
    rw [State.cl_updCl, State.cl_enableClientRx, State.cl_enableClientRx, if_pos rfl, ClientLane.enableRx_tx]
    split <;> rfl

theorem State.rx_enableClient (rx tx on : Bool) : ((s.enableClient g rx tx on l).cl g k).rx =
    if k = l then (s.cl g l).rx.enable rx on else (s.cl g k).rx := by
  rw [State.cl_enableClient, apply_ite ClientLane.rx, ClientLane.enableRx_rx]

theorem State.tx_enableClient (rx tx on : Bool) : ((s.enableClient g rx tx on l).cl g k).tx =
    if k = l then (s.cl g l).tx.enable tx on else (s.cl g k).tx := by
  rw [State.cl_enableClient, apply_ite ClientLane.tx]

theorem State.tx_muteClient (muted : Bool) : ((s.muteClient g muted l).cl g k).tx =
    if k = l then (s.cl g l).tx.mute muted else (s.cl g k).tx := by
  by_cases hk : k = l
  · subst hk
    rw [if_pos rfl]
    cases h : (s.cl g k).tx <;> cases muted <;> simp [State.muteClient, LaneTx.mute, h]
  · rw [if_neg hk]
    unfold State.muteClient
    split <;> simp [State.cl_updCl, hk]

/-- CLIENT_LANE_ENABLE over the lanes of its mask. -/
def State.enableLanes (c : Cmd) (s : State) : State :=
  (maskLanes 8 ((c.p 0).fld 23 16)).foldl
    (State.enableClient (clientGroup c) ((c.p 0).bit 8) ((c.p 0).bit 9) ((c.p 0).bit 0)) s

/-- CLIENT_LANE_MUTE over the lanes of its mask. -/
def State.muteLanes (c : Cmd) (s : State) : State :=
  (maskLanes 8 ((c.p 0).fld 23 16)).foldl (State.muteClient (clientGroup c) ((c.p 0).bit 0)) s

variable (c : Cmd)

theorem State.rx_enableLanes : ((s.enableLanes c).cl (clientGroup c) l).rx =
    if l ∈ maskLanes 8 ((c.p 0).fld 23 16) then (s.cl (clientGroup c) l).rx.enable ((c.p 0).bit 8) ((c.p 0).bit 0)
    else (s.cl (clientGroup c) l).rx :=
  read_foldl_units (read := fun u k => (u.cl (clientGroup c) k).rx) _
    (fun u l k => State.rx_enableClient _ u l k _ _ _) (maskLanes_nodup _ _) l s

theorem State.tx_enableLanes : ((s.enableLanes c).cl (clientGroup c) l).tx =
    if l ∈ maskLanes 8 ((c.p 0).fld 23 16) then (s.cl (clientGroup c) l).tx.enable ((c.p 0).bit 9) ((c.p 0).bit 0)
    else (s.cl (clientGroup c) l).tx :=
  read_foldl_units (read := fun u k => (u.cl (clientGroup c) k).tx) _
    (fun u l k => State.tx_enableClient _ u l k _ _ _) (maskLanes_nodup _ _) l s

theorem State.tx_muteLanes : ((s.muteLanes c).cl (clientGroup c) l).tx =
    if l ∈ maskLanes 8 ((c.p 0).fld 23 16) then (s.cl (clientGroup c) l).tx.mute ((c.p 0).bit 0)
    else (s.cl (clientGroup c) l).tx :=
  read_foldl_units (read := fun u k => (u.cl (clientGroup c) k).tx) _
    (fun u l k => State.tx_muteClient _ u l k _) (maskLanes_nodup _ _) l s

end

/-! ### The commands, executed -/

/-- The settings of a CLIENT_GROUP_CONFIG in its group (Table 11-7). -/
def State.setGroup (c : Cmd) (s : State) : State :=
  s.withLanes { s.lanes with
    groups := s.lanes.groups.upd (clientGroup c) fun x => { x with eyeMin := (c.p 0).fld 15 8, rate := (c.p 0).fld 0 0 } }

/-- The rate in kb/s that the interface of a CLIENT_IFACE_SET adds to the client aggregate. -/
def clientIfaceKbps (c : Cmd) (s : State) : Nat :=
  (clientIfaceOf c).2.width * clientLaneRate (s.lanes.groups.get (clientGroup c)).rate * 1000

section
variable {c : Cmd} {s : State}

theorem exec_clientGroupConfig (hp : clientGroupConfigOp.passes c s)
    (h : (c.p 0).fld 0 0 = (s.lanes.groups.get (clientGroup c)).rate ∨ (s.setGroup c).aggregateBut 256 ≤ aggregateMax) :
    exec (.clientGroupConfig c) s = .next ((s.setGroup c).answered c 0x0A01 0 []) :=
  exec_of_ok (op := clientGroupConfigOp) rfl hp
    (if_neg fun hover => h.elim hover.1 (Nat.not_le.mpr hover.2))

theorem exec_clientGroupConfig_refused (hp : clientGroupConfigOp.passes c s)
    (hrate : (c.p 0).fld 0 0 ≠ (s.lanes.groups.get (clientGroup c)).rate)
    (hover : aggregateMax < (s.setGroup c).aggregateBut 256) :
    exec (.clientGroupConfig c) s = .next (refuse 0x0A01 ⟨stRefused, 0xFFFF, 0x2D⟩ c s) :=
  exec_of_declined (op := clientGroupConfigOp) rfl hp (if_pos ⟨hrate, hover⟩)

theorem exec_clientIfaceSet_deleted (hp : clientIfaceSetOp.passes c s) (hmode : (clientIfaceOf c).2.mode = 0) :
    exec (.clientIfaceSet c) s = .next ((s.deleteIface (clientIfaceOf c).1).answered c 0x0A02 0 []) :=
  exec_of_ok (op := clientIfaceSetOp) rfl hp (if_pos hmode)

theorem exec_clientIfaceSet_defined (hp : clientIfaceSetOp.passes c s) (hmode : (clientIfaceOf c).2.mode ≠ 0)
    (hfits : s.aggregateBut (clientIfaceOf c).1 + clientIfaceKbps c s ≤ aggregateMax) :
    exec (.clientIfaceSet c) s =
      .next ((s.defineIface (clientIfaceOf c).1 (clientIfaceOf c).2).answered c 0x0A02 0 []) :=
  exec_of_ok (op := clientIfaceSetOp) rfl hp ((if_neg hmode).trans (if_neg (Nat.not_lt.mpr hfits)))

theorem exec_clientIfaceSet_refused (hp : clientIfaceSetOp.passes c s) (hmode : (clientIfaceOf c).2.mode ≠ 0)
    (hover : aggregateMax < s.aggregateBut (clientIfaceOf c).1 + clientIfaceKbps c s) :
    exec (.clientIfaceSet c) s = .next (refuse 0x0A02 ⟨stRefused, 0xFFFF, 0x2D⟩ c s) :=
  exec_of_declined (op := clientIfaceSetOp) rfl hp ((if_neg hmode).trans (if_pos hover))

theorem exec_clientLaneEnable (hp : clientLaneEnableOp.passes c s) :
    exec (.clientLaneEnable c) s = .next ((s.enableLanes c).refreshBoot.answered c 0x0A03 0 []) :=
  exec_of_ok (op := clientLaneEnableOp) rfl hp rfl

theorem exec_clientLaneMute (hp : clientLaneMuteOp.passes c s) :
    exec (.clientLaneMute c) s = .next ((s.muteLanes c).answered c 0x0A04 0 []) :=
  exec_of_ok (op := clientLaneMuteOp) rfl hp rfl

theorem exec_clientEqSet (hp : clientEqSetOp.passes c s) :
    exec (.clientEqSet c) s = .next ((s.updCl (clientGroup c) ((c.p 0).fld 31 29) fun x => { x with
      adapt := (c.p 0).bit 28, mu := (c.p 0).fld 27 24, main := (c.p 0).fld 23 20, dfe := (c.p 0).bit 19,
      rxPrecode := (c.p 0).bit 18 }).answered c 0x0A05 0 []) :=
  exec_of_ok (op := clientEqSetOp) rfl hp rfl

theorem exec_clientTxSet (hp : clientTxSetOp.passes c s) :
    exec (.clientTxSet c) s = .next ((s.updCl (clientGroup c) ((c.p 0).fld 31 29) fun x => { x with
      txPrecode := (c.p 0).bit 28, swing := (c.p 0).fld 21 16, rlm := (c.p 0).fld 9 0, taps := txTaps c }).answered
        c 0x0A06 0 []) :=
  exec_of_ok (op := clientTxSetOp) rfl hp rfl

theorem exec_clientPatternSet (hp : clientPatternSetOp.passes c s) :
    exec (.clientPatternSet c) s = .next (((s.updCl (clientGroup c) ((c.p 0).fld 31 29) fun x => { x with
      gen := (c.p 0).bit 28, check := (c.p 0).bit 27, pattern := (c.p 0).fld 3 0 }).refreshLane true
        (8 * (clientGroup c).val + (c.p 0).fld 31 29)).answered c 0x0A07 0 []) :=
  exec_of_ok (op := clientPatternSetOp) rfl hp rfl

theorem exec_clientLaneStatus (hp : clientLaneStatusOp.passes c s) :
    exec (.clientLaneStatus c) s = .next ((s.withFree (s.free + 5)).answered c 0x0A08 0
      (clientLaneStatus (s.cl (clientGroup c) ((c.p 0).fld 2 0)) fun k => Config.freeValue (s.free + k))) :=
  exec_of_ok (op := clientLaneStatusOp) rfl hp rfl

end

/-! ### The happenings, where they can come about -/

/-- A lane whose converter, the ADC or the DAC, is in fault or not. -/
def ClientLane.fault (adc v : Bool) (x : ClientLane) : ClientLane :=
  if adc then { x with adcFault := v } else { x with dacFault := v }

/-- A converter, the ADC or the DAC, is in fault. -/
def ClientLane.faulty (adc : Bool) (x : ClientLane) : Bool := if adc then x.adcFault else x.dacFault

section
variable (adc v : Bool) (x : ClientLane) (new : LaneRx)

@[simp] theorem ClientLane.fault_rx : (x.fault adc v).rx = x.rx := by cases adc <;> rfl
@[simp] theorem ClientLane.fault_los : (x.fault adc v).los = x.los := by cases adc <;> rfl
@[simp] theorem ClientLane.faulty_fault : (x.fault adc v).faulty adc = v := by cases adc <;> rfl

/-- With one converter's fault ended, a lane stands in no fault unless the other converter does. -/
theorem ClientLane.fault_false_iff : ((x.fault adc false).adcFault = false ∧ (x.fault adc false).dacFault = false) ↔
    (if adc then x.dacFault else x.adcFault) = false := by
  cases adc <;> simp [ClientLane.fault]

@[simp] theorem ClientLane.faulty_moved : (x.moved new).faulty adc = x.faulty adc := by simp [ClientLane.faulty]

end

section
variable (s : State) (g : Fin 2) (l : Nat) (adc : Bool)

/-- A fault sends a receive direction that is not OFF to SIGNAL_WAIT (R339). -/
theorem State.cl_clientFault : (s.clientFault g l adc).cl g l =
    if (s.cl g l).rx = .off then (s.cl g l).fault adc true else ((s.cl g l).fault adc true).moved .signalWait := by
  have hfault (u : State) : (u.updCl g l fun x => if adc then { x with adcFault := true } else { x with dacFault := true }).cl
      g l = (u.cl g l).fault adc true := u.cl_updCl_same g l _
  unfold State.clientFault
  dsimp only
  rw [State.cl_refreshHealth, State.cl_raise, hfault, ClientLane.fault_rx]
  by_cases hoff : (s.cl g l).rx = .off
  · rw [if_pos (.inl hoff), if_pos hoff, State.cl_raise, hfault]
  · rw [if_neg hoff]
    by_cases hwait : (s.cl g l).rx = .signalWait
    · rw [if_pos (.inr hwait), State.cl_raise, hfault, ClientLane.moved, if_pos (by rw [ClientLane.fault_rx, hwait])]
    · rw [if_neg (not_or.mpr ⟨hoff, hwait⟩), State.cl_moveClient_same, State.cl_freeCause, State.cl_raise, hfault]

end

section
variable {s : State} {g : Fin 2} {l : Fin 8} (hl : s.live = true)
include hl

/-- LOS, outside OFF (R336). -/
theorem exec_clientLosDeclare (hrx : (s.cl g l.val).rx ≠ .off) (hlos : (s.cl g l.val).los = false) :
    ∃ t, exec (.clientLosDeclare g l) s = .next t ∧ (t.cl g l.val).rx = .signalWait ∧ (t.cl g l.val).los = true :=
  ⟨_, happen_of _ _ (by simp [hl, hrx, hlos]), by simp, by simp⟩

/-- LOS ends: bring-up starts, unless an analogue fault stands (R336, R350). -/
theorem exec_clientLosClear (hrx : (s.cl g l.val).rx ≠ .off) (hlos : (s.cl g l.val).los = true) :
    ∃ t, exec (.clientLosClear g l) s = .next t ∧ (t.cl g l.val).los = false ∧
      (t.cl g l.val).rx = if (s.cl g l.val).adcFault || (s.cl g l.val).dacFault then (s.cl g l.val).rx else .train := by
  refine ⟨_, happen_of _ _ (by simp [hl, hrx, hlos]), ?_⟩
  split <;> simp

section
variable {peer : Fin 8} {late : Bool}

/-- The answer of CLIENT_BRINGUP_STEP_DONE by the step in hand (R337). -/
theorem exec_clientBringupStepDone (hrx : (s.cl g l.val).rx = .train ∨ (s.cl g l.val).rx = .align) :
    exec (.clientBringupStepDone g l peer late) s =
      .next (if (s.cl g l.val).step = 0 ∨ (s.cl g l.val).step = 2 then s.updCl g l.val fun x => { x with step := x.step + 1 }
        else if (s.cl g l.val).step = 1 then s.freeCause.2.moveClient g l.val .align s.freeCause.1
        else (s.updCl g l.val fun x => { x with peer := peer.val, late := late }).moveClient g l.val .up 3) :=
  happen_of _ _ (by simpa [hl] using hrx)

theorem exec_clientBringupStepDone_first (hrx : (s.cl g l.val).rx = .train) (hstep : (s.cl g l.val).step = 0) :
    ∃ t, exec (.clientBringupStepDone g l peer late) s = .next t ∧ t.cl g l.val = { s.cl g l.val with step := 1 } := by
  refine ⟨_, exec_clientBringupStepDone hl (.inl hrx), ?_⟩
  rw [if_pos (.inl hstep), State.cl_updCl_same, hstep]

theorem exec_clientBringupStepDone_aligns (hrx : (s.cl g l.val).rx = .train) (hstep : (s.cl g l.val).step = 1) :
    ∃ t, exec (.clientBringupStepDone g l peer late) s = .next t ∧ (t.cl g l.val).rx = .align ∧ (t.cl g l.val).step = 2 := by
  refine ⟨_, exec_clientBringupStepDone hl (.inl hrx), ?_⟩
  rw [if_neg (by simp [hstep]), if_pos hstep, State.cl_moveClient_same, State.cl_freeCause,
    ClientLane.moved_of_ne (by simp [hrx])]
  exact ⟨rfl, rfl⟩

theorem exec_clientBringupStepDone_last (hrx : (s.cl g l.val).rx = .align) (hstep : (s.cl g l.val).step = 3) :
    ∃ t, exec (.clientBringupStepDone g l peer late) s = .next t ∧ (t.cl g l.val).rx = .up ∧
      (t.cl g l.val).peer = peer.val := by
  refine ⟨_, exec_clientBringupStepDone hl (.inr hrx), ?_⟩
  rw [if_neg (by simp [hstep]), if_neg (by simp [hstep]), State.cl_moveClient_same, State.cl_updCl_same,
    ClientLane.moved_of_ne (by simp [hrx])]
  exact ⟨rfl, rfl⟩

end

/-- A step that misses its bound starts bring-up again (R337). -/
theorem exec_clientBringupExpiry (hrx : (s.cl g l.val).rx = .train ∨ (s.cl g l.val).rx = .align) :
    ∃ t, exec (.clientBringupExpiry g l) s = .next t ∧ (t.cl g l.val).rx = .train ∧ (t.cl g l.val).step = 0 := by
  refine ⟨_, happen_of _ _ (by simpa [hl] using hrx), ?_⟩
  rcases hrx with htrain | halign
  · simp [htrain]
  · rw [if_neg (by simp [halign]), State.cl_moveClient_same, State.cl_bump, ClientLane.moved_of_ne (by simp [halign])]
    exact ⟨rfl, rfl⟩

/-- A lane in UP that loses lock trains again and has no peer (R338). -/
theorem exec_clientLol (hrx : (s.cl g l.val).rx = .up) :
    ∃ t, exec (.clientLol g l) s = .next t ∧ (t.cl g l.val).rx = .train ∧ (t.cl g l.val).peer = 0xFF := by
  refine ⟨_, happen_of _ _ (by simp [hl, hrx]), ?_⟩
  rw [State.cl_moveClient_same, State.cl_bump, ClientLane.moved_of_ne (by simp [hrx])]
  exact ⟨rfl, rfl⟩

theorem exec_clientEyeHold {below : Bool} (hrx : (s.cl g l.val).rx = .up) (heye : (s.cl g l.val).eyeLow = !below) :
    ∃ t, exec (.clientEyeHold g l below) s = .next t ∧ t.cl g l.val = { s.cl g l.val with eyeLow := below } :=
  ⟨_, happen_of _ _ (by simp [hl, hrx, heye]), by simp⟩

variable {adc : Bool}

/-- A converter of a lane that is not OFF fails (R339). -/
theorem exec_clientAnalogueFault (hon : (s.cl g l.val).rx ≠ .off ∨ (s.cl g l.val).tx ≠ .off)
    (hnone : (s.cl g l.val).faulty adc = false) :
    ∃ t, exec (.clientAnalogueFault g l adc) s = .next t ∧ (t.cl g l.val).faulty adc = true ∧
      (t.cl g l.val).rx = if (s.cl g l.val).rx = .off then .off else .signalWait := by
  have hguard : (!(if adc then (s.cl g l.val).adcFault else (s.cl g l.val).dacFault)) = true := by
    rw [← ClientLane.faulty, hnone]
    rfl
  refine ⟨_, happen_of _ _ (by simpa [hl, hguard] using hon), ?_⟩
  rw [State.cl_clientFault]
  split
  case isTrue hoff => simp [hoff]
  case isFalse => simp

/-- A converter's fault ends; the last one to end lets a lane with a signal train (R339). -/
theorem exec_clientLaneFaultEnd (hfault : (s.cl g l.val).faulty adc = true) :
    ∃ t, exec (.clientLaneFaultEnd g l adc) s = .next t ∧ (t.cl g l.val).faulty adc = false ∧
      (t.cl g l.val).rx = if (s.cl g l.val).rx = .signalWait ∧ (s.cl g l.val).los = false ∧
        (if adc then (s.cl g l.val).dacFault else (s.cl g l.val).adcFault) = false then .train else (s.cl g l.val).rx := by
  have hend : (s.updCl g l.val fun x => if adc then { x with adcFault := false } else { x with dacFault := false }).cl
      g l.val = (s.cl g l.val).fault adc false := s.cl_updCl_same g l.val _
  refine ⟨_, happen_of _ _ (by rw [hl]; exact hfault), ?_⟩
  generalize State.updCl g l.val _ s = u at hend ⊢
  rw [hend]
  simp only [ClientLane.fault_rx, ClientLane.fault_los, ClientLane.fault_false_iff]
  by_cases htrains : (s.cl g l.val).rx = .signalWait ∧ (s.cl g l.val).los = false ∧
      (if adc then (s.cl g l.val).dacFault else (s.cl g l.val).adcFault) = false
  · rw [if_pos htrains, if_pos htrains, State.cl_refreshHealth, State.cl_moveClient_same, State.cl_freeCause, hend]
    exact ⟨by simp, ClientLane.moved_rx _ _⟩
  · rw [if_neg htrains, if_neg htrains, State.cl_refreshHealth, hend]
    exact ⟨by simp, ClientLane.fault_rx _ _ _⟩

end

/-! ### The statement -/

/-- Settles O53: each command and each happening by the state it leaves, and what of a lane or an interface is read back
from it. -/
theorem clientLanesAct : Obligations.ClientLanesAct := by
  refine ⟨fun c s hp => ⟨exec_clientGroupConfig hp, exec_clientGroupConfig_refused hp⟩,
    fun c s hp => ⟨fun hmode => ⟨_, exec_clientIfaceSet_deleted hp hmode, s.laneIface_deleteIface _⟩,
      fun hmode hfits => ?defined, exec_clientIfaceSet_refused hp⟩,
    fun c s hp => ⟨_, exec_clientLaneEnable hp, fun l => ?enabled⟩,
    fun c s hp => ⟨_, exec_clientLaneMute hp, fun l => ?muted⟩,
    fun c s hp => ⟨_, exec_clientEqSet hp, s.cl_updCl_same _ _ _⟩,
    fun c s hp => ⟨_, exec_clientTxSet hp, s.cl_updCl_same _ _ _⟩,
    fun c s hp => ⟨_, exec_clientPatternSet hp, by rw [State.cl_refreshLane, State.cl_updCl_same]⟩,
    fun c s hp => exec_clientLaneStatus hp,
    fun s g l hl hrx => ⟨exec_clientLosDeclare hl hrx, exec_clientLosClear hl hrx⟩,
    fun s g l peer late hl => ⟨exec_clientBringupStepDone_first hl, exec_clientBringupStepDone_aligns hl,
      exec_clientBringupStepDone_last hl⟩,
    fun s g l hl => exec_clientBringupExpiry hl,
    fun s g l hl hrx => ⟨exec_clientLol hl hrx, fun below => exec_clientEyeHold hl hrx⟩,
    fun s g l adc hl => ⟨exec_clientAnalogueFault hl, exec_clientLaneFaultEnd hl⟩⟩
  case defined =>
    obtain ⟨y, hy, hm, hw, -⟩ := s.laneIface_defineIface (clientIfaceOf c).1 (clientIfaceOf c).2
    exact ⟨_, y, exec_clientIfaceSet_defined hp hmode hfits, hy, hm, hw⟩
  case enabled =>
    rw [State.cl_refreshBoot, State.rx_enableLanes, State.tx_enableLanes]
    split <;> rfl
  case muted =>
    rw [State.tx_muteLanes]
    by_cases hl : l ∈ maskLanes 8 ((c.p 0).fld 23 16)
    · rw [if_pos hl]
      exact ite_of_iff (and_iff_right hl).symm _ _
    · rw [if_neg hl, if_neg fun h => hl h.1]

end Sys2Proof.Machine
end

section
/-!
PROOFS. The host lanes (spec/12 R354 to R363): lanes and interfaces after what leaves them alone and after what changes them,
what each command and each happening leaves of a lane, and the statement about them.
-/

namespace Sys2Proof.Machine

/-! ### The host lanes after what leaves them alone -/

section
variable (s : State) (i cause : Nat)

/-- Following its lanes, an interface changes nothing of the lanes but the interfaces. -/
theorem State.lanes_refreshIface : ∃ v, (s.refreshIface i cause).lanes = { s.lanes with ifaces := v } := by
  cases h : s.laneIface i with
  | none => exact ⟨s.lanes.ifaces, by rw [State.refreshIface, h]⟩
  | some x =>
    obtain ⟨aligned, hkept | ⟨up, why, htold⟩⟩ := s.refreshIface_cases i h cause
    · exact ⟨_, by rw [hkept, State.withLanes_lanes]⟩
    · exact ⟨_, by rw [htold, State.lanes_evIface]; rfl⟩

theorem State.lanes_refreshLane (client : Bool) (n : Nat) :
    ∃ v, (s.refreshLane client n).lanes = { s.lanes with ifaces := v } := by
  refine List.foldlRecOn (motive := fun u : State => ∃ v, u.lanes = { s.lanes with ifaces := v }) _ _ ⟨_, rfl⟩
    fun u hu e _ => ?_
  split
  case h_1 x _ =>
    dsimp only
    generalize (if client = true then _ else _ : Bool) = mine
    cases mine with
    | true =>
      obtain ⟨v, hv⟩ := hu
      obtain ⟨w, hw⟩ := u.lanes_refreshIface e.1 0
      exact ⟨w, hw.trans (by rw [hv])⟩
    | false => exact hu
  case h_2 => exact hu

theorem State.hl_of_lanes {t : State} (h : t.lanes = s.lanes) : t.hl = s.hl := by
  funext l
  rw [State.hl, h, State.hl]

@[simp] theorem State.hl_bump (j n : Nat) : (s.bump j n).hl = s.hl := s.hl_of_lanes (s.lanes_bump j n)

@[simp] theorem State.hl_evHostLane (l : Nat) (old new : LaneRx) : (evHostLane l old new cause s).hl = s.hl :=
  s.hl_of_lanes (s.lanes_raise _ _ _ _)

@[simp] theorem State.hl_raise (code sev ha data : Nat) : (s.raise code sev ha data).hl = s.hl :=
  s.hl_of_lanes (s.lanes_raise code sev ha data)

@[simp] theorem State.hl_refreshHealth : s.refreshHealth.hl = s.hl := s.hl_of_lanes s.lanes_refreshHealth

@[simp] theorem State.hl_refreshBoot : s.refreshBoot.hl = s.hl := s.hl_of_lanes s.lanes_refreshBoot

@[simp] theorem State.hl_freeCause : s.freeCause.2.hl = s.hl := s.hl_of_lanes s.lanes_freeCause

@[simp] theorem State.hl_refreshLane (client : Bool) (n : Nat) : (s.refreshLane client n).hl = s.hl := by
  obtain ⟨v, hv⟩ := s.lanes_refreshLane client n
  funext l
  rw [State.hl, hv, State.hl]

end

/-! ### A host lane after what changes it -/

/-- A lane whose receive direction goes to a state: from another state, the checker loses sync unless it goes to UP. -/
def HostLane.moved (new : LaneRx) (x : HostLane) : HostLane :=
  if x.rx = new then x else { x with rx := new, checkSync := x.checkSync && decide (new = .up) }

section
variable {new : LaneRx} {x : HostLane}

theorem HostLane.moved_of_eq (h : x.rx = new) : x.moved new = x := if_pos h

theorem HostLane.moved_of_ne (h : x.rx ≠ new) :
    x.moved new = { x with rx := new, checkSync := x.checkSync && decide (new = .up) } := if_neg h

@[simp] theorem HostLane.moved_rx : (x.moved new).rx = new := by
  unfold HostLane.moved
  split
  case isTrue h => exact h
  case isFalse => rfl

@[simp] theorem HostLane.moved_tx : (x.moved new).tx = x.tx := by unfold HostLane.moved; split <;> rfl
@[simp] theorem HostLane.moved_rate : (x.moved new).rate = x.rate := by unfold HostLane.moved; split <;> rfl
@[simp] theorem HostLane.moved_los : (x.moved new).los = x.los := by unfold HostLane.moved; split <;> rfl
@[simp] theorem HostLane.moved_rxFault : (x.moved new).rxFault = x.rxFault := by unfold HostLane.moved; split <;> rfl
@[simp] theorem HostLane.moved_txFault : (x.moved new).txFault = x.txFault := by unfold HostLane.moved; split <;> rfl

end

/-- A state in which host lane `l` is `x` and every other host lane is as in `s`. -/
def State.HostPut (s : State) (l : Nat) (x : HostLane) (t : State) : Prop :=
  ∀ k, t.hl k = if k = l then x else s.hl k

section
variable {s t u : State} {l : Nat} {x y : HostLane}

theorem State.HostPut.refl : s.HostPut l (s.hl l) s := by
  intro k
  split
  case isTrue hk => rw [hk]
  case isFalse => rfl

theorem State.HostPut.same (h : s.HostPut l x t) : t.hl l = x := (h l).trans (if_pos rfl)

theorem State.HostPut.trans (h : s.HostPut l x t) (h' : t.HostPut l y u) : s.HostPut l y u := by
  intro k
  rw [h' k, h k]
  split <;> rfl

theorem State.HostPut.updHl (h : s.HostPut l x t) (f : HostLane → HostLane) : s.HostPut l (f x) (t.updHl l f) := by
  refine h.trans fun k => ?_
  rw [← h.same, State.hl, State.updHl, State.withLanes_lanes]
  exact Tab.get_set t.lanes.host l k

theorem State.HostPut.moveHost (h : s.HostPut l x t) (new : LaneRx) (cause : Nat) :
    s.HostPut l (x.moved new) (t.moveHost l new cause) := by
  unfold State.moveHost
  dsimp only
  rw [h.same]
  split
  case isTrue hrx => rwa [HostLane.moved_of_eq hrx]
  case isFalse hrx =>
    intro k
    rw [State.hl_refreshLane, State.hl_evHostLane, HostLane.moved_of_ne hrx]
    exact h.updHl _ k

end

section
variable (s : State) (l k : Nat)

/-- Reading a host lane after one of them is changed. -/
theorem State.hl_updHl (f : HostLane → HostLane) :
    (s.updHl l f).hl k = if k = l then f (s.hl l) else s.hl k :=
  HostPut.refl.updHl f k

@[simp] theorem State.hl_updHl_same (f : HostLane → HostLane) : (s.updHl l f).hl l = f (s.hl l) :=
  (HostPut.refl.updHl f).same

@[simp] theorem State.hl_moveHost_same (new : LaneRx) (cause : Nat) :
    (s.moveHost l new cause).hl l = (s.hl l).moved new :=
  (HostPut.refl.moveHost new cause).same

end

/-! ### The lanes of a mask (R363) -/

/-- A lane of the mask of HOST_LANE_ENABLE takes its RATE when it leaves OFF. -/
def HostLane.takeRate (on : Bool) (rate : Nat) (x : HostLane) : HostLane :=
  if on = true ∧ x.rx = .off ∧ x.tx = .off then { x with rate := rate } else x

/-- A lane whose receive direction HOST_LANE_ENABLE may select: enabled it waits for a signal, disabled it forgets the loss. -/
def HostLane.enableRx (selected on : Bool) (x : HostLane) : HostLane :=
  if selected = false then x else if on = false then { x.moved .off with los := false }
  else if x.rx = .off then HostLane.moved .signalWait { x with los := true } else x

/-- A lane whose transmit direction HOST_LANE_ENABLE may select: enabled it is squelched, disabled it injects no errors. -/
def HostLane.enableTx (selected on : Bool) (x : HostLane) : HostLane :=
  if selected = false then x
  else { x with tx := x.tx.enable selected on, inject := if on then x.inject else none }

/-- A lane of the mask of HOST_LANE_ENABLE. -/
def HostLane.enable (rx tx on : Bool) (rate : Nat) (x : HostLane) : HostLane :=
  ((x.takeRate on rate).enableRx rx on).enableTx tx on

section
variable (rx tx selected on : Bool) (rate : Nat) (x : HostLane)

@[simp] theorem HostLane.takeRate_rx : (x.takeRate on rate).rx = x.rx := by unfold HostLane.takeRate; split <;> rfl
@[simp] theorem HostLane.takeRate_tx : (x.takeRate on rate).tx = x.tx := by unfold HostLane.takeRate; split <;> rfl

@[simp] theorem HostLane.takeRate_rate : (x.takeRate on rate).rate =
    if on = true ∧ x.rx = .off ∧ x.tx = .off then rate else x.rate :=
  apply_ite HostLane.rate _ _ _

@[simp] theorem HostLane.enableRx_rx : (x.enableRx selected on).rx = x.rx.enable selected on := by
  simp only [HostLane.enableRx, LaneRx.enable, apply_ite HostLane.rx, HostLane.moved_rx]

@[simp] theorem HostLane.enableRx_tx : (x.enableRx selected on).tx = x.tx := by
  simp only [HostLane.enableRx, apply_ite HostLane.tx, HostLane.moved_tx, ite_self]

@[simp] theorem HostLane.enableRx_rate : (x.enableRx selected on).rate = x.rate := by
  simp only [HostLane.enableRx, apply_ite HostLane.rate, HostLane.moved_rate, ite_self]

@[simp] theorem HostLane.enableTx_rx : (x.enableTx selected on).rx = x.rx := by unfold HostLane.enableTx; split <;> rfl
@[simp] theorem HostLane.enableTx_rate : (x.enableTx selected on).rate = x.rate := by
  unfold HostLane.enableTx; split <;> rfl

@[simp] theorem HostLane.enableTx_tx : (x.enableTx selected on).tx = x.tx.enable selected on := by
  unfold HostLane.enableTx
  split
  case isTrue h => exact (if_pos h).symm
  case isFalse => rfl

theorem HostLane.enable_rx : (x.enable rx tx on rate).rx = x.rx.enable rx on := by simp [HostLane.enable]
theorem HostLane.enable_tx : (x.enable rx tx on rate).tx = x.tx.enable tx on := by simp [HostLane.enable]
theorem HostLane.enable_rate : (x.enable rx tx on rate).rate =
    if on = true ∧ x.rx = .off ∧ x.tx = .off then rate else x.rate := by simp [HostLane.enable]

end

/-- HOST_LANE_ENABLE takes the RATE at one lane. -/
def State.takeHostRate (on : Bool) (rate : Nat) (s : State) (l : Nat) : State :=
  if on = true ∧ (s.hl l).rx = .off ∧ (s.hl l).tx = .off then s.updHl l fun x => { x with rate := rate } else s

/-- HOST_LANE_ENABLE at the receive direction of one lane. -/
def State.enableHostRx (selected on : Bool) (s : State) (l : Nat) : State :=
  if selected = false then s else if on = false then (s.moveHost l .off 0).updHl l fun x => { x with los := false }
  else if (s.hl l).rx = .off then (s.updHl l fun x => { x with los := true }).moveHost l .signalWait 0 else s

/-- HOST_LANE_ENABLE at the transmit direction of one lane. -/
def State.enableHostTx (selected on : Bool) (s : State) (l : Nat) : State :=
  if selected = false then s else s.updHl l (HostLane.enableTx selected on)

/-- HOST_LANE_ENABLE at one lane. -/
def State.enableHostLane (rx tx on : Bool) (rate : Nat) (s : State) (l : Nat) : State :=
  ((s.takeHostRate on rate l).enableHostRx rx on l).enableHostTx tx on l

/-- HOST_LANE_SQUELCH at one lane. -/
def State.squelchHost (squelched : Bool) (s : State) (l : Nat) : State :=
  match (s.hl l).tx, squelched with
  | .on, true => (s.updHl l fun x => { x with tx := .muted }).bump (hostCtr l 11) 1
  | .muted, false => s.updHl l fun x => { x with tx := .on }
  | _, _ => s

section
variable (s : State) (l k : Nat) (rx tx selected on : Bool) (rate : Nat)

theorem State.HostPut.takeHostRate : s.HostPut l ((s.hl l).takeRate on rate) (s.takeHostRate on rate l) := by
  unfold State.takeHostRate HostLane.takeRate
  split
  · exact refl.updHl _
  · exact refl

theorem State.HostPut.enableHostRx : s.HostPut l ((s.hl l).enableRx selected on) (s.enableHostRx selected on l) := by
  unfold State.enableHostRx HostLane.enableRx
  by_cases hselected : selected = false
  · rw [if_pos hselected, if_pos hselected]
    exact refl
  rw [if_neg hselected, if_neg hselected]
  by_cases hon : on = false
  · rw [if_pos hon, if_pos hon]
    exact (refl.moveHost _ _).updHl _
  rw [if_neg hon, if_neg hon]
  by_cases hoff : (s.hl l).rx = .off
  · rw [if_pos hoff, if_pos hoff]
    exact (refl.updHl _).moveHost _ _
  · rw [if_neg hoff, if_neg hoff]
    exact refl

theorem State.HostPut.enableHostTx : s.HostPut l ((s.hl l).enableTx selected on) (s.enableHostTx selected on l) := by
  unfold State.enableHostTx
  split
  case isTrue h =>
    rw [HostLane.enableTx, if_pos h]
    exact refl
  case isFalse => exact refl.updHl _

/-- HOST_LANE_ENABLE at one lane changes that lane alone. -/
theorem State.HostPut.enableHostLane :
    s.HostPut l ((s.hl l).enable rx tx on rate) (s.enableHostLane rx tx on rate l) := by
  have hrate := takeHostRate s l on rate
  have hrx := hrate.trans (enableHostRx _ l rx on)
  have htx := hrx.trans (enableHostTx _ l tx on)
  rwa [hrx.same, hrate.same] at htx

theorem State.enableHost_eq (c : Cmd) : s.enableHost c k =
    s.enableHostLane ((c.p 0).bit 8) ((c.p 0).bit 9) ((c.p 0).bit 0) ((c.p 0).fld 12 10) (hostLane c k) := by
  unfold State.enableHost
  generalize hostLane c k = l
  cases (c.p 0).bit 8 <;> cases (c.p 0).bit 9 <;> cases (c.p 0).bit 0 <;> rfl

theorem State.tx_squelchHost (squelched : Bool) : ((s.squelchHost squelched l).hl k).tx =
    if k = l then (s.hl l).tx.mute squelched else (s.hl k).tx := by
  by_cases hk : k = l
  · subst hk
    rw [if_pos rfl]
    cases h : (s.hl k).tx <;> cases squelched <;> simp [State.squelchHost, LaneTx.mute, h]
  · rw [if_neg hk]
    unfold State.squelchHost
    split <;> simp [State.hl_updHl, hk]

end

/-- The lanes that the mask of a HOST_LANE_ENABLE or a HOST_LANE_SQUELCH names. -/
def hostMask (c : Cmd) : List Nat := (maskLanes 16 ((c.p 0).fld 31 16)).map (hostLane c)

theorem hostMask_nodup (c : Cmd) : (hostMask c).Nodup :=
  List.Pairwise.map _ (fun _ _ hne h => hne (Nat.add_left_cancel h)) (maskLanes_nodup _ _)

/-- HOST_LANE_ENABLE over the lanes of its mask. -/
def State.enableHostLanes (c : Cmd) (s : State) : State :=
  (hostMask c).foldl (State.enableHostLane ((c.p 0).bit 8) ((c.p 0).bit 9) ((c.p 0).bit 0) ((c.p 0).fld 12 10)) s

/-- HOST_LANE_SQUELCH over the lanes of its mask. -/
def State.squelchHostLanes (c : Cmd) (s : State) : State := (hostMask c).foldl (State.squelchHost ((c.p 0).bit 0)) s

section
variable (c : Cmd) (s : State) (l : Nat)

theorem State.hl_enableHostLanes : (s.enableHostLanes c).hl l =
    if l ∈ hostMask c then
      (s.hl l).enable ((c.p 0).bit 8) ((c.p 0).bit 9) ((c.p 0).bit 0) ((c.p 0).fld 12 10)
    else s.hl l :=
  read_foldl_units (read := State.hl) _ (fun u l => State.HostPut.enableHostLane u l _ _ _ _)
    (hostMask_nodup c) l s

theorem State.tx_squelchHostLanes : ((s.squelchHostLanes c).hl l).tx =
    if l ∈ hostMask c then (s.hl l).tx.mute ((c.p 0).bit 0) else (s.hl l).tx :=
  read_foldl_units (read := fun u k => (u.hl k).tx) _ (fun u l k => u.tx_squelchHost l k _) (hostMask_nodup c) l s

end

/-! ### The equalisation table (R356) -/

/-- The equalisation table after a HOST_EQ_LOAD. -/
def eqTable (c : Cmd) (t : Tab (List Word)) : Tab (List Word) :=
  (List.range ((c.p 0).fld 9 0)).foldl (fun t e => Tab.set [] t (eqKey c e) (eqEntry c e)) t

/-- Reading the table after a HOST_EQ_LOAD of one entry. -/
theorem get_eqTable_of_one {c : Cmd} (h : (c.p 0).fld 9 0 = 1) (t : Tab (List Word)) (k : Nat) :
    Tab.get [] (eqTable c t) k = if k = eqKey c 0 then eqEntry c 0 else Tab.get [] t k := by
  rw [eqTable, h]
  exact Tab.get_set t (eqKey c 0) k

/-! ### The commands, executed -/

/-- The rate in kb/s that the interface of a HOST_IFACE_SET adds to the client aggregate. -/
def hostIfaceKbps (x : LaneIface) : Nat :=
  if x.mode = 3 then hostLaneKbps x.rate else (signalRate x.width x.rate).getD 0 * 1000000

section
variable {c : Cmd} {s : State}

theorem exec_hostEqLoad (hp : hostEqLoadOp.passes c s) :
    exec (.hostEqLoad c) s = .next (((s.withLanes { s.lanes with eq := eqTable c s.lanes.eq }).extend 4
      (bytesOf c.params)).answered c 0x0B01 0 []) :=
  exec_of_ok (op := hostEqLoadOp) rfl hp rfl

theorem exec_hostIfaceSet_deleted (hp : hostIfaceSetOp.passes c s) (hmode : (hostIfaceOf c s).2.mode = 0) :
    exec (.hostIfaceSet c) s = .next ((s.deleteIface (hostIfaceOf c s).1).answered c 0x0B02 0 []) :=
  exec_of_ok (op := hostIfaceSetOp) rfl hp (if_pos hmode)

theorem exec_hostIfaceSet_defined (hp : hostIfaceSetOp.passes c s) (hmode : (hostIfaceOf c s).2.mode ≠ 0)
    (hfits : s.aggregateBut (hostIfaceOf c s).1 + hostIfaceKbps (hostIfaceOf c s).2 ≤ aggregateMax) :
    exec (.hostIfaceSet c) s =
      .next ((s.defineIface (hostIfaceOf c s).1 (hostIfaceOf c s).2).answered c 0x0B02 0 []) :=
  exec_of_ok (op := hostIfaceSetOp) rfl hp ((if_neg hmode).trans (if_neg (Nat.not_lt.mpr hfits)))

theorem exec_hostIfaceSet_refused (hp : hostIfaceSetOp.passes c s) (hmode : (hostIfaceOf c s).2.mode ≠ 0)
    (hover : aggregateMax < s.aggregateBut (hostIfaceOf c s).1 + hostIfaceKbps (hostIfaceOf c s).2) :
    exec (.hostIfaceSet c) s = .next (refuse 0x0B02 ⟨stRefused, 0xFFFF, 0x2D⟩ c s) :=
  exec_of_declined (op := hostIfaceSetOp) rfl hp ((if_neg hmode).trans (if_pos hover))

theorem exec_hostLaneEnable (hp : hostLaneEnableOp.passes c s) :
    exec (.hostLaneEnable c) s = .next ((s.enableHostLanes c).refreshBoot.answered c 0x0B03 0 []) := by
  rw [State.enableHostLanes, hostMask, List.foldl_map]
  simp only [← State.enableHost_eq]
  exact exec_of_ok (op := hostLaneEnableOp) rfl hp rfl

theorem exec_hostLaneSquelch (hp : hostLaneSquelchOp.passes c s) :
    exec (.hostLaneSquelch c) s = .next ((s.squelchHostLanes c).answered c 0x0B04 0 []) := by
  rw [State.squelchHostLanes, hostMask, List.foldl_map]
  exact exec_of_ok (op := hostLaneSquelchOp) rfl hp rfl

theorem exec_hostPatternSet (hp : hostPatternSetOp.passes c s) :
    exec (.hostPatternSet c) s = .next (((s.updHl (hostLane c ((c.p 0).fld 31 28)) fun x => { x with
      gen := (c.p 0).bit 27, check := (c.p 0).bit 26, pattern := (c.p 0).fld 25 22,
      checkSync := x.checkSync && (c.p 0).bit 26 && x.pattern == (c.p 0).fld 25 22 }).refreshLane false
        (hostLane c ((c.p 0).fld 31 28))).answered c 0x0B05 0 []) :=
  exec_of_ok (op := hostPatternSetOp) rfl hp rfl

theorem exec_hostInject_single (hp : hostInjectOp.passes c s) (hkind : (c.p 0).fld 27 26 = 1) :
    exec (.hostInject c) s =
      .next ((s.bump (hostCtr (hostLane c ((c.p 0).fld 31 28)) 10) 1).answered c 0x0B06 0 []) :=
  exec_of_ok (op := hostInjectOp) rfl hp (congrArg (Prod.mk _) (if_pos hkind))

theorem exec_hostInject_rate (hp : hostInjectOp.passes c s) (hkind : (c.p 0).fld 27 26 ≠ 1) :
    exec (.hostInject c) s = .next ((s.updHl (hostLane c ((c.p 0).fld 31 28)) fun x =>
      { x with inject := if (c.p 0).fld 27 26 = 2 then some ((c.p 0).fld 25 20) else none }).answered c 0x0B06 0 []) :=
  exec_of_ok (op := hostInjectOp) rfl hp (congrArg (Prod.mk _) (if_neg hkind))

theorem exec_hostLaneStatus (hp : hostLaneStatusOp.passes c s) :
    exec (.hostLaneStatus c) s = .next ((s.withFree (s.free + 4)).answered c 0x0B07 0
      (hostLaneStatus (hostLane c ((c.p 0).fld 3 0)) (fun k => Config.freeValue (s.free + k)) s)) :=
  exec_of_ok (op := hostLaneStatusOp) rfl hp rfl

end

/-! ### Signal, lock and checker (R358, R360) -/

/-- An event that is raised leaves alone every counter but its own and those of the events not delivered. -/
theorem State.counter_raise_of_ne {k code : Nat} (s : State) (sev ha data : Nat) (hcode : k ≠ evCtr code)
    (hproto : ∀ (i : Iface) (j : Nat), j < 9 → k ≠ protoCtr i j) : (s.raise code sev ha data).counter k = s.counter k := by
  unfold State.raise
  rw [State.counter_offerEvent (hproto 1 7 (by decide)) (hproto 1 8 (by decide)),
    State.counter_offerEvent (hproto 0 7 (by decide)) (hproto 0 8 (by decide)), State.counter_logFault,
    State.counter_bump_of_ne _ _ hcode]

/-- A report of a lane's state leaves the counters of the lanes alone (R364, R502). -/
theorem State.counter_evHostLane (s : State) {l j : Nat} (hlane : l < 128) (hj : j < 12) (old new : LaneRx) (cause : Nat) :
    (evHostLane l old new cause s).counter (hostCtr l j) = s.counter (hostCtr l j) := by
  refine s.counter_raise_of_ne _ _ _ ?_ fun i n hn => ?_
  · unfold hostCtr evCtr ctr
    omega
  · have hi := i.isLt
    unfold hostCtr protoCtr ctr
    omega

section
variable {s : State} {l : Fin 128} (hl : s.live = true)
include hl

/-- LOS, outside OFF. -/
theorem exec_hostLosDeclare (hrx : (s.hl l.val).rx ≠ .off) (hlos : (s.hl l.val).los = false) :
    ∃ t, exec (.hostLosDeclare l) s = .next t ∧ (t.hl l.val).rx = .signalWait ∧ (t.hl l.val).los = true :=
  ⟨_, happen_of _ _ (by simp [hl, hrx, hlos]), by simp, by simp⟩

/-- LOS ends: the lane enters LOCK, unless an analogue fault stands (R359). -/
theorem exec_hostLosClear (hrx : (s.hl l.val).rx ≠ .off) (hlos : (s.hl l.val).los = true) :
    ∃ t, exec (.hostLosClear l) s = .next t ∧ (t.hl l.val).los = false ∧
      (t.hl l.val).rx = if (s.hl l.val).rxFault || (s.hl l.val).txFault then (s.hl l.val).rx else .train := by
  refine ⟨_, happen_of _ _ (by simp [hl, hrx, hlos]), ?_⟩
  split <;> simp

theorem exec_hostLockUp (hrx : (s.hl l.val).rx = .train) :
    ∃ t, exec (.hostLockUp l) s = .next t ∧ (t.hl l.val).rx = .up :=
  ⟨_, happen_of _ _ (by simp [hl, hrx]), by simp⟩

/-- A restart is counted and moves nothing of the lane. -/
theorem exec_hostLockRestart (hrx : (s.hl l.val).rx = .train) :
    ∃ t, exec (.hostLockRestart l) s = .next t ∧ t.hl l.val = s.hl l.val ∧
      t.counter (hostCtr l.val 2) = (s.counter (hostCtr l.val 2) + 1) % 2 ^ 48 :=
  ⟨_, happen_of _ _ (by simp [hl, hrx]), by simp,
    by rw [State.counter_evHostLane _ l.isLt (by decide), State.counter_bump_same]⟩

/-- A lane that loses lock returns to LOCK, and its checker loses sync. -/
theorem exec_hostLol (hrx : (s.hl l.val).rx = .up) :
    ∃ t, exec (.hostLol l) s = .next t ∧ (t.hl l.val).rx = .train ∧ (t.hl l.val).checkSync = false := by
  refine ⟨_, happen_of _ _ (by simp [hl, hrx]), ?_⟩
  rw [State.hl_moveHost_same, State.hl_bump, HostLane.moved_of_ne (by simp [hrx])]
  exact ⟨rfl, by simp⟩

theorem exec_checkerSync (hrx : (s.hl l.val).rx = .up) (hcheck : (s.hl l.val).check = true)
    (hsync : (s.hl l.val).checkSync = false) :
    ∃ t, exec (.checkerSync l) s = .next t ∧ t.hl l.val = { s.hl l.val with checkSync := true } :=
  ⟨_, happen_of _ _ (by simp [hl, hrx, hcheck, hsync]), by simp⟩

theorem exec_checkerSyncLoss (hsync : (s.hl l.val).checkSync = true) :
    ∃ t, exec (.checkerSyncLoss l) s = .next t ∧ t.hl l.val = { s.hl l.val with checkSync := false } :=
  ⟨_, happen_of _ _ (by simp [hl, hsync]), by simp⟩

end

/-! ### Alignment of a host interface (R354) -/

/-- The Ethernet alignment of an interface locks or is lost. -/
def State.alignIface (i : Nat) (x : LaneIface) (locked : Bool) (s : State) : State :=
  s.withLanes { s.lanes with ifaces := Tab.set none s.lanes.ifaces i (some { x with aligned := locked }) }

section
variable {s : State} {i : Nat} {x : LaneIface}

theorem State.laneIface_alignIface (locked : Bool) :
    (s.alignIface i x locked).laneIface i = some { x with aligned := locked } :=
  (Tab.get_set s.lanes.ifaces i i).trans (if_pos rfl)

/-- With every lane UP and no pattern on, an interface is down only while its alignment is lost. -/
theorem State.hostIfaceCause_of_up
    (hup : ∀ l ∈ ifaceLanes i x, (s.hl l).rx = .up ∧ (s.hl l).gen = false ∧ (s.hl l).check = false) :
    s.hostIfaceCause i x = if x.mode ≠ 3 ∧ x.aligned = false then 3 else 0 := by
  have hpattern : ((ifaceLanes i x).map s.hl).any (fun l => l.gen || l.check) = false := by
    simpa using fun l h => (hup l h).2
  have hlanes : ((ifaceLanes i x).map s.hl).any (fun l => l.rx != .up) = false := by
    simpa using fun l h => (hup l h).1
  unfold State.hostIfaceCause
  simp [hpattern, hlanes]

/-- Following its lanes, a host interface is up where no cause keeps it down, and stays aligned unless a lane is not UP. -/
theorem State.laneIface_refreshIface_host (hi : i < 240) (h : s.laneIface i = some x) (cause : Nat) :
    (s.refreshIface i cause).laneIface i = some { x with
      up := s.hostIfaceCause i x == 0
      aligned := x.aligned && (s.hostIfaceCause i x == 0 || s.hostIfaceCause i x == 3 || s.hostIfaceCause i x == 5) } := by
  unfold State.refreshIface
  rw [h]
  simp only [if_neg (Nat.not_le.mpr hi), decide_eq_false (Nat.not_le.mpr hi), Bool.or_false]
  generalize s.hostIfaceCause i x = why
  split
  case isTrue hup => rw [hup]; exact (Tab.get_set s.lanes.ifaces i i).trans (if_pos rfl)
  case isFalse => rw [State.laneIface_evIface, State.laneIface_setIfaceUp]

/-- Alignment of an interface with all its lanes UP and no pattern on locks or is lost, and the interface follows it. -/
theorem exec_hostIfaceAlign {f : Fin 128} {locked skewed : Bool} (hl : s.live = true) (hx : s.laneIface f.val = some x)
    (hmode : x.mode ≠ 3) (hturns : x.aligned = !locked)
    (hup : ∀ l ∈ ifaceLanes f.val x, (s.hl l).rx = .up ∧ (s.hl l).gen = false ∧ (s.hl l).check = false) :
    ∃ t, exec (.hostIfaceAlign f locked skewed) s = .next t ∧
      t.laneIface f.val = some { x with aligned := locked, up := locked } := by
  have hready : ((ifaceLanes f.val x).all fun l => (s.hl l).rx == .up) = true := by
    simpa using fun l h => (hup l h).1
  have hcause : (s.alignIface f.val x locked).hostIfaceCause f.val { x with aligned := locked } =
      if x.mode ≠ 3 ∧ locked = false then 3 else 0 := State.hostIfaceCause_of_up hup
  refine ⟨(s.alignIface f.val x locked).refreshIface f.val (if skewed then 2 else 3), ?_, ?_⟩
  · change execHostIfaceAlign f locked skewed s = _
    unfold execHostIfaceAlign
    rw [hx]
    exact happen_of _ _ (by simp [hl, hmode, hturns, hready])
  · rw [State.laneIface_refreshIface_host (Nat.lt_trans f.isLt (by decide)) (State.laneIface_alignIface locked), hcause]
    cases locked <;> simp [hmode]

end

/-! ### Analogue faults (R359) -/

/-- A lane whose receiver, or transmitter, is in fault or not. -/
def HostLane.fault (rx v : Bool) (x : HostLane) : HostLane :=
  if rx then { x with rxFault := v } else { x with txFault := v }

/-- The receiver, or the transmitter, is in fault. -/
def HostLane.faulty (rx : Bool) (x : HostLane) : Bool := if rx then x.rxFault else x.txFault

section
variable (rx v : Bool) (x : HostLane) (new : LaneRx)

@[simp] theorem HostLane.fault_rx : (x.fault rx v).rx = x.rx := by cases rx <;> rfl
@[simp] theorem HostLane.fault_los : (x.fault rx v).los = x.los := by cases rx <;> rfl
@[simp] theorem HostLane.faulty_fault : (x.fault rx v).faulty rx = v := by cases rx <;> rfl
@[simp] theorem HostLane.faulty_moved : (x.moved new).faulty rx = x.faulty rx := by simp [HostLane.faulty]

/-- With the fault of one half ended, a lane stands in no fault unless the other half does. -/
theorem HostLane.fault_false_iff : ((x.fault rx false).rxFault = false ∧ (x.fault rx false).txFault = false) ↔
    (if rx then x.txFault else x.rxFault) = false := by
  cases rx <;> simp [HostLane.fault]

end

section
variable (s : State) (l : Nat) (rx : Bool)

/-- A fault sends a receive direction that is not OFF to SIGNAL_WAIT. -/
theorem State.hl_hostFault : (s.hostFault l rx).hl l =
    if (s.hl l).rx = .off then (s.hl l).fault rx true else ((s.hl l).fault rx true).moved .signalWait := by
  have hfault : (s.updHl l fun x => if rx then { x with rxFault := true } else { x with txFault := true }).hl l =
      (s.hl l).fault rx true := s.hl_updHl_same l _
  unfold State.hostFault
  dsimp only
  rw [State.hl_refreshHealth, State.hl_raise, hfault, HostLane.fault_rx]
  by_cases hoff : (s.hl l).rx = .off
  · rw [if_pos (.inl hoff), if_pos hoff, State.hl_raise, hfault]
  rw [if_neg hoff]
  by_cases hwait : (s.hl l).rx = .signalWait
  · rw [if_pos (.inr hwait), State.hl_raise, hfault, HostLane.moved_of_eq (by rw [HostLane.fault_rx, hwait])]
  · rw [if_neg (not_or.mpr ⟨hoff, hwait⟩), State.hl_moveHost_same, State.hl_freeCause, State.hl_raise, hfault]

end

section
variable {s : State} {l : Fin 128} {rx : Bool} (hl : s.live = true)
include hl

/-- The receiver or the transmitter of a lane that is not OFF fails. -/
theorem exec_hostAnalogueFault (hon : (s.hl l.val).rx ≠ .off ∨ (s.hl l.val).tx ≠ .off)
    (hnone : (s.hl l.val).faulty rx = false) :
    ∃ t, exec (.hostAnalogueFault l rx) s = .next t ∧ (t.hl l.val).faulty rx = true ∧
      (t.hl l.val).rx = if (s.hl l.val).rx = .off then .off else .signalWait := by
  have hguard : (!(if rx then (s.hl l.val).rxFault else (s.hl l.val).txFault)) = true := by
    rw [← HostLane.faulty, hnone]
    rfl
  refine ⟨_, happen_of _ _ (by simpa [hl, hguard] using hon), ?_⟩
  rw [State.hl_hostFault]
  split
  case isTrue hoff => simp [hoff]
  case isFalse => simp

/-- A fault ends; the last one to end lets a lane with a signal enter LOCK. -/
theorem exec_hostLaneFaultEnd (hfault : (s.hl l.val).faulty rx = true) :
    ∃ t, exec (.hostLaneFaultEnd l rx) s = .next t ∧ (t.hl l.val).faulty rx = false ∧
      (t.hl l.val).rx = if (s.hl l.val).rx = .signalWait ∧ (s.hl l.val).los = false ∧
        (if rx then (s.hl l.val).txFault else (s.hl l.val).rxFault) = false then .train else (s.hl l.val).rx := by
  have hend : (s.updHl l.val fun x => if rx then { x with rxFault := false } else { x with txFault := false }).hl l.val =
      (s.hl l.val).fault rx false := s.hl_updHl_same l.val _
  refine ⟨_, happen_of _ _ (by rw [hl]; exact hfault), ?_⟩
  generalize State.updHl l.val _ s = u at hend ⊢
  rw [hend]
  simp only [HostLane.fault_rx, HostLane.fault_los, HostLane.fault_false_iff]
  by_cases hlocks : (s.hl l.val).rx = .signalWait ∧ (s.hl l.val).los = false ∧
      (if rx then (s.hl l.val).txFault else (s.hl l.val).rxFault) = false
  · rw [if_pos hlocks, if_pos hlocks, State.hl_refreshHealth, State.hl_moveHost_same, State.hl_freeCause, hend]
    exact ⟨by simp, HostLane.moved_rx⟩
  · rw [if_neg hlocks, if_neg hlocks, State.hl_refreshHealth, hend]
    exact ⟨by simp, HostLane.fault_rx _ _ _⟩

end

/-! ### The statement -/

/-- Settles O54: each command and each happening by the state it leaves, and what of a lane or an interface is read back
from it. -/
theorem hostLanesAct : Obligations.HostLanesAct := by
  refine ⟨fun c s hp => ⟨exec_hostEqLoad hp, fun hone => get_eqTable_of_one hone s.lanes.eq⟩,
    fun c s hp => ⟨fun hmode => ⟨_, exec_hostIfaceSet_deleted hp hmode, s.laneIface_deleteIface _⟩,
      fun hmode hfits => ?defined, exec_hostIfaceSet_refused hp⟩,
    fun c s hp => ⟨_, exec_hostLaneEnable hp, fun l => ?enabled⟩,
    fun c s hp => ⟨_, exec_hostLaneSquelch hp, fun l => ?squelched⟩,
    fun c s hp => ⟨_, exec_hostPatternSet hp, by rw [State.hl_refreshLane, State.hl_updHl_same]⟩,
    fun c s hp => ⟨exec_hostInject_single hp, exec_hostInject_rate hp⟩,
    fun c s hp => exec_hostLaneStatus hp,
    fun s l hl hrx => ⟨exec_hostLosDeclare hl hrx, exec_hostLosClear hl hrx⟩,
    fun s l hl => ⟨fun hrx => ⟨exec_hostLockUp hl hrx, exec_hostLockRestart hl hrx⟩,
      fun hrx => ⟨exec_hostLol hl hrx, exec_checkerSync hl hrx⟩, exec_checkerSyncLoss hl⟩,
    fun s f locked skewed x hl hx hmode hturns hup => ?aligned,
    fun s l rx hl => ⟨exec_hostAnalogueFault hl, exec_hostLaneFaultEnd hl⟩⟩
  case defined =>
    obtain ⟨y, hy, hm, hw, hr⟩ := s.laneIface_defineIface (hostIfaceOf c s).1 (hostIfaceOf c s).2
    exact ⟨_, y, exec_hostIfaceSet_defined hp hmode hfits, hy, hm, hw, hr⟩
  case enabled =>
    rw [State.hl_refreshBoot, State.hl_enableHostLanes]
    change _ = if l ∈ hostMask c then _ else _
    split
    · rw [HostLane.enable_rx, HostLane.enable_tx, HostLane.enable_rate]
      rfl
    · rfl
  case squelched =>
    rw [State.tx_squelchHostLanes]
    by_cases hl : l ∈ hostMask c
    · rw [if_pos hl]
      exact ite_of_iff (and_iff_right hl).symm _ _
    · rw [if_neg hl]
      exact (if_neg fun h => hl h.1).symm
  case aligned =>
    obtain ⟨t, ht, hy⟩ := exec_hostIfaceAlign (skewed := skewed) hl hx hmode hturns hup
    exact ⟨t, _, ht, hy, rfl, rfl⟩

end Sys2Proof.Machine
end

section
/-!
PROOFS. Candidates, DPLLs and outputs of TIMING (spec/13): what a crystal, a candidate, a DPLL and an output read after each
shared operation.
-/

namespace Sys2Proof.Machine

/-! ### TIMING after what leaves it alone -/

theorem Keeps.timing_eq {cs : List Comp} {s t : State} (h : Keeps cs s t) (htiming : .timing ∉ cs) : t.timing = s.timing :=
  h.frame .timing htiming

section
variable (s : State)

@[simp] theorem State.timing_bump (k n : Nat) : (s.bump k n).timing = s.timing := rfl

@[simp] theorem State.timing_raise (code sev ha data : Nat) : (s.raise code sev ha data).timing = s.timing :=
  (State.raise_keeps (cs := [.clerk, .hier, .tally]) (Keeps.refl s)).timing_eq (by decide)

@[simp] theorem State.timing_evSelect (d : Nat) (old : Option Nat) (cause : Nat) :
    (evSelect d old cause s).timing = s.timing :=
  s.timing_raise _ _ _ _

@[simp] theorem State.timing_evXtal (sev cause x : Nat) : (evXtal sev cause x s).timing = s.timing :=
  s.timing_raise _ _ _ _

@[simp] theorem State.timing_refreshHealth : s.refreshHealth.timing = s.timing :=
  (State.refreshHealth_keeps (cs := [.clerk, .hier, .tally]) (Keeps.refl s)).timing_eq (by decide)

@[simp] theorem State.timing_swapFaulted (d : Nat) : (s.swapFaulted d).timing = s.timing :=
  (State.swapFaulted_keeps (cs := [.clerk, .hier, .tally, .serv]) (Keeps.refl s)).timing_eq (by decide)

@[simp] theorem State.timing_latchLoom : s.latchLoom.timing = s.timing :=
  (State.latchLoom_keeps (cs := [.loom]) (Keeps.refl s)).timing_eq (by decide)

@[simp] theorem State.timing_latchFec (p : Port) : (s.latchFec p).timing = s.timing :=
  (State.latchFec_keeps (cs := [.clerk, .hier, .tally, .fec]) (Keeps.refl s)).timing_eq (by decide)

@[simp] theorem State.timing_latchLanes : s.latchLanes.timing = s.timing :=
  (State.latchLanes_keeps (cs := [.lanes]) (Keeps.refl s)).timing_eq (by decide)

end

section
variable {s t : State}

theorem State.cand_of_cands (h : t.timing.cands = s.timing.cands) : t.cand = s.cand := by
  funext c
  rw [State.cand, h, State.cand]

theorem State.dpll_of_dplls (h : t.timing.dplls = s.timing.dplls) : t.dpll = s.dpll := by
  funext d
  rw [State.dpll, h, State.dpll]

theorem State.clkOut_of_outs (h : t.timing.outs = s.timing.outs) : t.clkOut = s.clkOut := by
  funext o
  rw [State.clkOut, h, State.clkOut]

end

section
variable (s : State)

@[simp] theorem State.cand_bump (k n : Nat) : (s.bump k n).cand = s.cand := rfl
@[simp] theorem State.dpll_bump (k n : Nat) : (s.bump k n).dpll = s.dpll := rfl
@[simp] theorem State.clkOut_bump (k n : Nat) : (s.bump k n).clkOut = s.clkOut := rfl

@[simp] theorem State.cand_raise (code sev ha data : Nat) : (s.raise code sev ha data).cand = s.cand :=
  State.cand_of_cands (congrArg Timing.cands (s.timing_raise code sev ha data))

@[simp] theorem State.dpll_raise (code sev ha data : Nat) : (s.raise code sev ha data).dpll = s.dpll :=
  State.dpll_of_dplls (congrArg Timing.dplls (s.timing_raise code sev ha data))

@[simp] theorem State.cand_evSelect (d : Nat) (old : Option Nat) (cause : Nat) : (evSelect d old cause s).cand = s.cand :=
  s.cand_raise _ _ _ _

@[simp] theorem State.dpll_evSelect (d : Nat) (old : Option Nat) (cause : Nat) : (evSelect d old cause s).dpll = s.dpll :=
  s.dpll_raise _ _ _ _

@[simp] theorem State.dpll_refreshHealth : s.refreshHealth.dpll = s.dpll :=
  State.dpll_of_dplls (congrArg Timing.dplls s.timing_refreshHealth)

@[simp] theorem State.dpll_swapFaulted (d : Nat) : (s.swapFaulted d).dpll = s.dpll :=
  State.dpll_of_dplls (congrArg Timing.dplls (s.timing_swapFaulted d))

end

/-! ### A candidate, a DPLL or an output put -/

section
variable (s : State) (i k : Nat)

/-- Reading a candidate after one of them is changed. -/
theorem State.cand_updCand (f : RefCand → RefCand) :
    (s.updCand i f).cand k = if k = i then f (s.cand i) else s.cand k := by
  rw [State.cand, State.updCand, State.setCand, State.withTiming_timing, Tab.get_set]
  split
  case isTrue hk =>
    rw [hk]
    split
    case isTrue hinitial => exact hinitial.symm
    case isFalse => rfl
  case isFalse => rfl

@[simp] theorem State.cand_updCand_same (f : RefCand → RefCand) : (s.updCand i f).cand i = f (s.cand i) := by
  rw [State.cand_updCand, if_pos rfl]

@[simp] theorem State.cand_updDpll (f : Dpll → Dpll) : (s.updDpll i f).cand = s.cand := rfl
@[simp] theorem State.dpll_updCand (f : RefCand → RefCand) : (s.updCand i f).dpll = s.dpll := rfl

/-- Reading a DPLL after one of them is changed. -/
theorem State.dpll_updDpll (f : Dpll → Dpll) : (s.updDpll i f).dpll k = if k = i then f (s.dpll i) else s.dpll k :=
  Tab.get_set s.timing.dplls i k

@[simp] theorem State.dpll_updDpll_same (f : Dpll → Dpll) : (s.updDpll i f).dpll i = f (s.dpll i) := by
  rw [State.dpll_updDpll, if_pos rfl]

/-- Reading an output after one of them is changed. -/
theorem State.clkOut_updOut (f : ClkOut → ClkOut) :
    (s.updOut i f).clkOut k = if k = i then f (s.clkOut i) else s.clkOut k :=
  Tab.get_set s.timing.outs i k

@[simp] theorem State.clkOut_updOut_same (f : ClkOut → ClkOut) : (s.updOut i f).clkOut i = f (s.clkOut i) := by
  rw [State.clkOut_updOut, if_pos rfl]

end

/-! ### A candidate that changes its state (R372) -/

/-- A candidate that goes to a state: from another state, its good gates are counted anew. -/
def RefCand.moved (new : RefSt) (x : RefCand) : RefCand := if x.st = new then x else { x with st := new, good := 0 }

@[simp] theorem RefCand.moved_st (new : RefSt) (x : RefCand) : (x.moved new).st = new := by
  unfold RefCand.moved
  split
  case isTrue h => exact h
  case isFalse => rfl

section
variable (s : State) (c k : Nat) (new : RefSt)

theorem State.cand_moveRef : (s.moveRef c new).cand k = if k = c then (s.cand c).moved new else s.cand k := by
  unfold State.moveRef
  dsimp only
  split
  case isTrue h =>
    rw [RefCand.moved, if_pos h]
    split
    case isTrue hk => rw [hk]
    case isFalse => rfl
  case isFalse h => rw [State.cand_raise, State.cand_updCand, RefCand.moved, if_neg h]

@[simp] theorem State.cand_moveRef_same : (s.moveRef c new).cand c = (s.cand c).moved new := by
  rw [State.cand_moveRef, if_pos rfl]

@[simp] theorem State.dpll_moveRef : (s.moveRef c new).dpll = s.dpll := by
  unfold State.moveRef
  dsimp only
  split
  · rfl
  · rw [State.dpll_raise, State.dpll_updCand]

end

/-! ### Every DPLL in turn -/

/-- What each step keeps holds after the four of them. -/
theorem State.eachDpll_rec {P : State → Prop} {f : Nat → State → State} {s : State} (hs : P s)
    (hf : ∀ d u, P u → P (f d u)) : P (s.eachDpll f) :=
  List.foldlRecOn (motive := P) _ _ hs fun u hu d _ => hf d u hu

/-- What one step of a fold brings about, from what every step keeps, holds after the fold when every step keeps it too. -/
theorem foldl_establishes {α : Type} {f : State → α → State} {P Q : State → Prop} {x : α} (hP : ∀ u y, P u → P (f u y))
    (hx : ∀ u, P u → Q (f u x)) (hQ : ∀ u y, Q u → Q (f u y)) {l : List α} (hmem : x ∈ l) {s : State} (hs : P s) :
    Q (l.foldl f s) := by
  obtain ⟨before, after, rfl⟩ := List.append_of_mem hmem
  rw [List.foldl_append, List.foldl_cons]
  have hbefore : P (before.foldl f s) := List.foldlRecOn (motive := P) _ _ hs fun u hu y _ => hP u y hu
  exact List.foldlRecOn (motive := Q) _ _ (hx _ hbefore) fun u hu y _ => hQ u y hu

theorem State.eachDpll_establishes {P Q : State → Prop} {f : Nat → State → State} {d : Nat} (hP : ∀ k u, P u → P (f k u))
    (hd : ∀ u, P u → Q (f d u)) (hQ : ∀ k u, Q u → Q (f k u)) (hlt : d < 4) {s : State} (hs : P s) : Q (s.eachDpll f) :=
  foldl_establishes (fun u k => hP k u) hd (fun u k => hQ k u) (by simp; omega) hs

@[simp] theorem State.cand_noteQl (s : State) : s.noteQl.cand = s.cand :=
  State.eachDpll_rec (P := fun u => u.cand = s.cand) rfl fun _ _ hu => hu

/-! ### HOLDOVER (R377, R379, R380) -/

/-- A DPLL that is in HOLDOVER stays as it is; any other enters it at an output offset. -/
def Dpll.held (cause : Nat) (now : Bool) (freq : Int) (x : Dpll) : Dpll :=
  if x.st = .holdover then x
  else { x with st := .holdover, last := x.ref, ref := none, cause := cause, pend := !now, freq := freq, atGate := 0, seen := [] }

section
variable (cause : Nat) (now : Bool) (freq : Int) (x : Dpll)

@[simp] theorem Dpll.held_st : (x.held cause now freq).st = .holdover := by
  unfold Dpll.held
  split
  case isTrue h => exact h
  case isFalse => rfl

@[simp] theorem Dpll.held_forced : (x.held cause now freq).forced = x.forced := by unfold Dpll.held; split <;> rfl
@[simp] theorem Dpll.held_forcedRef : (x.held cause now freq).forcedRef = x.forcedRef := by unfold Dpll.held; split <;> rfl
@[simp] theorem Dpll.held_coreFault : (x.held cause now freq).coreFault = x.coreFault := by unfold Dpll.held; split <;> rfl

end

/-- The output offset that a DPLL holds in HOLDOVER: the estimate, else that of the latest gate in LOCKED, else the master's. -/
def State.heldFreq (s : State) (d : Nat) : Int :=
  if (s.dpll d).estValid then (s.dpll d).estimate s.take.1 else (s.dpll d).lockGate.getD (s.masterOffset * 10)

section
variable (s : State) (d cause k : Nat) (now : Bool)

/-- Reading a DPLL after one of them enters HOLDOVER. -/
theorem State.dpll_enterHoldover :
    (s.enterHoldover d cause now).dpll k = if k = d then (s.dpll d).held cause now (s.heldFreq d) else s.dpll k := by
  unfold State.enterHoldover
  dsimp only
  split
  case isTrue hst =>
    rw [Dpll.held, if_pos hst]
    split
    case isTrue hk => rw [hk]
    case isFalse => rfl
  case isFalse hst =>
    rw [Dpll.held, if_neg hst]
    split
    · rw [State.dpll_evSelect, State.dpll_bump]
      exact State.dpll_updDpll _ d k _
    · rw [State.dpll_bump]
      exact State.dpll_updDpll _ d k _

@[simp] theorem State.dpll_enterHoldover_same :
    (s.enterHoldover d cause now).dpll d = (s.dpll d).held cause now (s.heldFreq d) := by
  rw [State.dpll_enterHoldover, if_pos rfl]

@[simp] theorem State.cand_enterHoldover : (s.enterHoldover d cause now).cand = s.cand := by
  unfold State.enterHoldover
  dsimp only
  split
  · rfl
  · split
    · rw [State.cand_evSelect, State.cand_bump]
      exact State.cand_updDpll _ d _
    · rw [State.cand_bump]
      exact State.cand_updDpll _ d _

@[simp] theorem State.cand_dropRef (c : Nat) : (s.dropRef c cause).cand = s.cand := by
  refine State.eachDpll_rec (P := fun u => u.cand = s.cand) rfl fun k u hu => ?_
  split
  · rw [State.cand_enterHoldover, hu]
  · exact hu

end

/-- A DPLL in HOLDOVER stays in it when any DPLL enters it. -/
theorem State.holdover_enterHoldover {s : State} {k : Nat} (h : (s.dpll k).st = .holdover) (d cause : Nat) (now : Bool) :
    ((s.enterHoldover d cause now).dpll k).st = .holdover := by
  rw [State.dpll_enterHoldover]
  split
  · exact Dpll.held_st _ _ _ _
  · exact h

/-- A DPLL that used a candidate which stops being QUALIFIED is in HOLDOVER (R379). -/
theorem State.holdover_dropRef {s : State} {c d : Nat} (cause : Nat) (hd : d < 4) (href : (s.dpll d).ref = some c) :
    ((s.dropRef c cause).dpll d).st = .holdover := by
  refine State.eachDpll_establishes (P := fun u => (u.dpll d).ref = some c ∨ (u.dpll d).st = .holdover)
    (Q := fun u => (u.dpll d).st = .holdover) (fun k u hu => ?untouched) (fun u hu => ?entered) (fun k u hu => ?stays) hd
    (.inl href)
  case untouched =>
    split
    · rw [State.dpll_enterHoldover]
      split
      · exact .inr (Dpll.held_st _ _ _ _)
      · exact hu
    · exact hu
  case entered =>
    split
    case isTrue => rw [State.dpll_enterHoldover_same, Dpll.held_st]
    case isFalse hother => exact hu.resolve_left hother
  case stays =>
    split
    · exact State.holdover_enterHoldover hu _ _ _
    · exact hu

/-! ### A reference taken into use (R377, R378, R381) -/

/-- A DPLL that uses a candidate from here on: ACQUIRE from FREE_RUN, LOCKED from HOLDOVER. -/
def Dpll.follow (c : Nat) (x : Dpll) : Dpll :=
  let y : Dpll := { x with ref := some c, seen := [], cause := 0, pend := false }
  if x.st = .freeRun then { y with st := .acquire, bwNow := 1000000 }
  else if x.st = .holdover then { y with st := .locked, gates := [], atGate := 0 }
  else y

section
variable (c : Nat) (x : Dpll)

@[simp] theorem Dpll.follow_ref : (x.follow c).ref = some c := by unfold Dpll.follow; split_ifs <;> rfl
@[simp] theorem Dpll.follow_forced : (x.follow c).forced = x.forced := by unfold Dpll.follow; split_ifs <;> rfl
@[simp] theorem Dpll.follow_forcedRef : (x.follow c).forcedRef = x.forcedRef := by unfold Dpll.follow; split_ifs <;> rfl

theorem Dpll.follow_st_of_freeRun {x : Dpll} (h : x.st = .freeRun) : (x.follow c).st = .acquire := by
  rw [Dpll.follow, if_pos h]

end

section
variable (s : State) (d k : Nat)

@[simp] theorem State.dpll_realign : (s.realign d).dpll = s.dpll :=
  List.foldlRecOn (motive := fun u : State => u.dpll = s.dpll) _ _ rfl fun _ hu _ _ => hu

/-- Reading a DPLL after one of them takes a candidate into use. -/
theorem State.dpll_useRef (c cause : Nat) :
    (s.useRef d c cause).dpll k = if k = d then (s.dpll d).follow c else s.dpll k := by
  unfold State.useRef
  simp only [State.dpll_evSelect, apply_ite State.dpll, State.dpll_realign, State.dpll_bump, ite_self, State.dpll_updDpll]
  unfold Dpll.follow
  cases (s.dpll d).st <;> rfl

/-- Reading a DPLL after a disagreement of one of them is noted. -/
theorem State.dpll_noteDisagree (now : Option Nat) :
    (s.noteDisagree d now).dpll k = if k = d then { s.dpll d with other := now } else s.dpll k := by
  unfold State.noteDisagree
  dsimp only
  split
  case isTrue hsame =>
    rw [← hsame]
    split
    case isTrue hk => rw [hk]
    case isFalse => rfl
  case isFalse =>
    cases (s.dpll d).other <;> cases now <;>
      simp only [State.dpll_bump, State.dpll_raise, State.dpll_updDpll]

end

/-! ### The crystals (R367, R368) -/

/-- In a later state TIMING differs at most in what was measured: the offsets that candidates and DPLLs hold. -/
def State.Measured (s t : State) : Prop :=
  ∃ cands dplls, t.timing = { s.timing with cands := cands, dplls := dplls }

section
variable {s t : State}

theorem State.Measured.refl : s.Measured s := ⟨s.timing.cands, s.timing.dplls, rfl⟩

theorem State.Measured.updCand (h : s.Measured t) (c : Nat) (f : RefCand → RefCand) : s.Measured (t.updCand c f) := by
  obtain ⟨cands, dplls, ht⟩ := h
  exact ⟨_, _, by rw [State.updCand, State.setCand, State.withTiming_timing, ht]⟩

theorem State.Measured.updDpll (h : s.Measured t) (d : Nat) (f : Dpll → Dpll) : s.Measured (t.updDpll d f) := by
  obtain ⟨cands, dplls, ht⟩ := h
  exact ⟨_, _, by rw [State.updDpll, State.withTiming_timing, ht]⟩

end

section
variable (s : State)

theorem State.measured_carryOver (diff : Int) : s.Measured (s.carryOver diff) := by
  refine State.eachDpll_rec (P := s.Measured) ?_ fun d u hu => hu.updDpll d _
  refine List.foldlRecOn (motive := s.Measured) _ _ .refl fun u hu c _ => ?_
  split
  · exact hu.updCand c _
  · exact hu

/-- The other crystal becomes the active one, and every offset held is carried over to it. -/
theorem State.timing_changeXtal : ∃ cands dplls,
    s.changeXtal.timing = { s.timing with xtal := !s.timing.xtal, cands := cands, dplls := dplls } :=
  State.measured_carryOver _ _

variable {i : Bool}

/-- A fault of the crystal that is not the active one is reported alone. -/
theorem State.timing_xtalFaulted_spare (h : i ≠ s.timing.xtal) : (s.xtalFaulted i).timing = s.timing := by
  rw [State.xtalFaulted, if_pos h, State.timing_evXtal]

/-- A fault of the active crystal hands over to the other where that is permitted and the other is whole. -/
theorem State.timing_xtalFaulted_handover (h : i = s.timing.xtal) (hbackup : s.timing.xtalBackup = true)
    (hother : (s.xtal (!i)).fault = false) : ∃ cands dplls,
    (s.xtalFaulted i).timing = { s.timing with xtal := !s.timing.xtal, cands := cands, dplls := dplls } := by
  rw [State.xtalFaulted, if_neg (not_not.mpr h), if_pos (by rw [hbackup, hother]; rfl), State.timing_bump,
    State.timing_evXtal, State.timing_evXtal]
  exact s.timing_changeXtal

/-- A fault of the active crystal with no other to take its place loses the clock. -/
theorem State.timing_xtalFaulted_lost (h : i = s.timing.xtal)
    (hnone : s.timing.xtalBackup = false ∨ (s.xtal (!i)).fault = true) :
    (s.xtalFaulted i).timing = { s.timing with clockLost := true } := by
  rw [State.xtalFaulted, if_neg (not_not.mpr h), if_neg (by rcases hnone with h | h <;> simp [h]),
    State.timing_refreshHealth, State.withTiming_timing]

end

end Sys2Proof.Machine
end

section
/-!
PROOFS. The timing commands (spec/13 R368, R369, R373, R381 to R390): what each command leaves of the crystals, candidates,
DPLLs and outputs, and the statement about them.
-/

namespace Sys2Proof.Machine

/-! ### What the commands put -/

/-- The settings of a TIMING_CONFIG, the active crystal as it was. -/
def State.configure (c : Cmd) (s : State) : State :=
  s.withTiming { s.timing with
    xtalPref := (c.p 0).bit 29, xtalBackup := (c.p 0).bit 28, master := (c.p 0).fld 27 24, option2 := (c.p 0).bit 23,
    tickSrc := (c.p 0).bit 22, tickNow := (c.p 0).bit 22 }

/-- The settings of a TIMING_CONFIG, and the change to the preferred crystal while the active one is whole (R368). -/
def State.preferXtal (c : Cmd) (s : State) : State :=
  if (c.p 0).bit 29 ≠ s.timing.xtal ∧ (s.xtal s.timing.xtal).fault = false then
    (evXtal 2 1 (b2n ((c.p 0).bit 29)) (s.configure c).changeXtal).bump (timingCtr 6) 1
  else s.configure c

/-- The settings of a TIMING_REF_SET on a candidate that was `was`: a received QL stays where its source does (R373, R387). -/
def RefCand.configure (c : Cmd) (was x : RefCand) : RefCand :=
  { x with
    qlSrc := (c.p 0).fld 26 25, hostQl := (c.p 0).fld 24 21, lane := (c.p 0).fld 20 14
    rxQl := if (c.p 0).fld 31 27 < 10 ∨ (c.p 0).fld 31 27 = 16 ∨
      ((c.p 0).fld 26 25 = was.qlSrc ∧ (c.p 0).fld 20 14 = was.lane) then was.rxQl else 0xF
    qualTime := (c.p 0).fld 11 0, accept := (c.p 1).fld 31 16, reject := (c.p 1).fld 15 0
    freqHz := (c.p 2).fld 29 0, freqFrac := (c.p 3).toNat, offset := 0, good := 0 }

/-- The state with a candidate set by TIMING_REF_SET and left by the DPLLs that used it. -/
def State.setRef (c : Cmd) (s : State) : State :=
  ((s.moveRef ((c.p 0).fld 31 27) .inactive).updCand ((c.p 0).fld 31 27)
    (RefCand.configure c (s.cand ((c.p 0).fld 31 27)))).dropRef ((c.p 0).fld 31 27) 0

/-- The settings of a TIMING_DPLL_SET (R388). -/
def Dpll.configure (c : Cmd) (x : Dpll) : Dpll :=
  { Dpll.setBw ((c.p 0).fld 19 0) x with
    pbo := (c.p 0).bit 29, holdAvg := (c.p 1).fld 31 16, holdDelay := (c.p 1).fld 15 8, holdQl := (c.p 1).fld 7 4,
    window := (c.p 1).fld 3 0, driftLimit := (c.p 2).fld 31 20, driftRate := (c.p 2).fld 19 10,
    disagree := (c.p 2).fld 9 0, fpOffset := (c.p 3).sfld 29 0 }

/-- The settings of a TIMING_OUT_SET, on a clock output or a frame-pulse output (R382, R389). -/
def ClkOut.configure (c : Cmd) : ClkOut → ClkOut :=
  if (c.p 0).fld 31 28 < 8 then fun x => { x with
    enable := (c.p 0).bit 27, dpll := (c.p 0).fld 26 25, freqHz := (c.p 1).fld 29 0 }
  else ClkOut.setFp ((c.p 0).bit 27) ((c.p 0).fld 26 25) ((c.p 0).fld 17 16) ((c.p 0).fld 15 0)

/-- A frame-pulse output that TIMING_FP_ALIGN slews or steps: a slew of an output already aligned has nothing to do (R383). -/
def ClkOut.align (c : Cmd) (x : ClkOut) : ClkOut :=
  if (c.p 0).bit 27 then (if x.err = some 0 then { x with slew := 0 } else { x with slew := (c.p 0).fld 15 0, err := none })
  else { x with err := some 0, slew := 0 }

/-- The state with the force of a TIMING_FORCE put (R390). -/
def State.force (c : Cmd) (s : State) : State :=
  s.updDpll ((c.p 0).fld 31 30) fun x => { x with forced := (c.p 0).fld 29 28, forcedRef := (c.p 0).fld 4 0 }

/-- The DPLL of a TIMING_FORCE takes the forced reference into use: it is not in use, and no fault of a core holds the DPLL. -/
def State.takesForced (c : Cmd) (s : State) : Bool :=
  decide ((c.p 0).fld 29 28 = 1 ∧ (s.dpll ((c.p 0).fld 31 30)).ref ≠ some ((c.p 0).fld 4 0) ∧
    ¬((s.dpll ((c.p 0).fld 31 30)).st = .holdover ∧ (s.dpll ((c.p 0).fld 31 30)).coreFault = true))

/-- The state with the force of a TIMING_FORCE put, and a forced reference taken into use (R390). -/
def State.forceRef (c : Cmd) (s : State) : State :=
  if s.takesForced c then (s.force c).useRef ((c.p 0).fld 31 30) ((c.p 0).fld 4 0) 1 else s.force c

section
variable (c : Cmd) (s : State)

/-- After TIMING_CONFIG the preferred crystal is the active one, unless the active one was in FAULT. -/
theorem State.timing_preferXtal : ∃ cands dplls, (s.preferXtal c).timing = { (s.configure c).timing with
    xtal := if (s.xtal s.timing.xtal).fault = false then (c.p 0).bit 29 else s.timing.xtal, cands := cands, dplls := dplls } := by
  unfold State.preferXtal
  split
  case isTrue h =>
    obtain ⟨hpref, hwhole⟩ := h
    obtain ⟨cands, dplls, hchange⟩ := (s.configure c).timing_changeXtal
    have hflip : (!(s.configure c).timing.xtal) = (c.p 0).bit 29 := (Bool.eq_not.mpr hpref).symm
    exact ⟨cands, dplls, by rw [State.timing_bump, State.timing_evXtal, hchange, if_pos hwhole, hflip]⟩
  case isFalse h =>
    have hkept : (if (s.xtal s.timing.xtal).fault = false then (c.p 0).bit 29 else s.timing.xtal) = s.timing.xtal := by
      split
      case isTrue hwhole => exact Decidable.byContradiction fun hpref => h ⟨hpref, hwhole⟩
      case isFalse => rfl
    exact ⟨_, _, by rw [hkept]; rfl⟩

/-- Reading a candidate after TIMING_REF_SET. -/
theorem State.cand_setRef (k : Nat) : (s.setRef c).cand k = if k = (c.p 0).fld 31 27 then
    RefCand.configure c (s.cand k) ((s.cand k).moved .inactive) else s.cand k := by
  rw [State.setRef, State.cand_dropRef, State.cand_updCand]
  split
  case isTrue hk => rw [State.cand_moveRef_same, hk]
  case isFalse hk => rw [State.cand_moveRef, if_neg hk]

/-- The DPLLs that used the candidate of a TIMING_REF_SET are in HOLDOVER. -/
theorem State.holdover_setRef {d : Nat} (hd : d < 4) (href : (s.dpll d).ref = some ((c.p 0).fld 31 27)) :
    ((s.setRef c).dpll d).st = .holdover :=
  State.holdover_dropRef 0 hd (by rw [State.dpll_updCand, State.dpll_moveRef, href])

theorem State.dpll_force : (s.force c).dpll ((c.p 0).fld 31 30) =
    { s.dpll ((c.p 0).fld 31 30) with forced := (c.p 0).fld 29 28, forcedRef := (c.p 0).fld 4 0 } :=
  State.dpll_updDpll_same _ _ _

theorem State.dpll_forceRef : (s.forceRef c).dpll ((c.p 0).fld 31 30) =
    if s.takesForced c then ((s.force c).dpll ((c.p 0).fld 31 30)).follow ((c.p 0).fld 4 0)
    else (s.force c).dpll ((c.p 0).fld 31 30) := by
  unfold State.forceRef
  split
  · rw [State.dpll_useRef, if_pos rfl]
  · rfl

variable {c s}

/-- A DPLL whose force names a reference uses it, unless a fault of a core holds it in HOLDOVER (R390). -/
theorem State.ref_forceRef (hmode : (c.p 0).fld 29 28 = 1)
    (hfree : ¬((s.dpll ((c.p 0).fld 31 30)).st = .holdover ∧ (s.dpll ((c.p 0).fld 31 30)).coreFault = true)) :
    ((s.forceRef c).dpll ((c.p 0).fld 31 30)).ref = some ((c.p 0).fld 4 0) := by
  rw [State.dpll_forceRef]
  split
  case isTrue => exact Dpll.follow_ref _ _
  case isFalse h =>
    rw [State.dpll_force]
    exact Decidable.byContradiction fun href => h (decide_eq_true ⟨hmode, href, hfree⟩)

/-- A force of no mode leaves a DPLL's state and reference. -/
theorem State.dpll_forceRef_of_clear (hmode : (c.p 0).fld 29 28 ≠ 1) :
    (s.forceRef c).dpll ((c.p 0).fld 31 30) = (s.force c).dpll ((c.p 0).fld 31 30) := by
  rw [State.dpll_forceRef, if_neg fun h => hmode (of_decide_eq_true h).1]

theorem State.forced_forceRef : ((s.forceRef c).dpll ((c.p 0).fld 31 30)).forced = (c.p 0).fld 29 28 ∧
    ((s.forceRef c).dpll ((c.p 0).fld 31 30)).forcedRef = (c.p 0).fld 4 0 := by
  rw [State.dpll_forceRef]
  split
  · rw [Dpll.follow_forced, Dpll.follow_forcedRef, State.dpll_force]
    exact ⟨rfl, rfl⟩
  · rw [State.dpll_force]
    exact ⟨rfl, rfl⟩

end

/-! ### The commands, executed -/

section
variable {c : Cmd} {s : State}

theorem exec_timingConfig (hp : timingConfigOp.passes c s) :
    exec (.timingConfig c) s = .next ((s.preferXtal c).answered c 0x0101 0 []) :=
  exec_of_ok (op := timingConfigOp) rfl hp rfl

theorem exec_timingRefSet (hp : timingRefSetOp.passes c s) :
    exec (.timingRefSet c) s = .next ((s.setRef c).answered c 0x0102 0 []) :=
  exec_of_ok (op := timingRefSetOp) rfl hp rfl

theorem exec_timingDpllSet (hp : timingDpllSetOp.passes c s) : ∃ u : State,
    exec (.timingDpllSet c) s = .next (u.answered c 0x0103 0 []) ∧
      u.dpll = (s.updDpll ((c.p 0).fld 31 30) (Dpll.configure c)).dpll := by
  refine ⟨_, exec_of_ok (op := timingDpllSetOp) rfl hp rfl, ?_⟩
  dsimp only
  split
  · split
    · exact State.dpll_realign _ _
    · rfl
  · rfl

theorem exec_timingPrioSet (hp : timingPrioSetOp.passes c s) :
    exec (.timingPrioSet c) s = .next ((s.updDpll ((c.p 0).fld 31 30) fun x =>
      { x with revert := (c.p 0).bit 29, prio := prioTab c }).answered c 0x0104 0 []) :=
  exec_of_ok (op := timingPrioSetOp) rfl hp rfl

theorem exec_timingOutSet (hp : timingOutSetOp.passes c s) : ∃ u : State,
    exec (.timingOutSet c) s = .next (u.answered c 0x0105 0 []) ∧
      u.clkOut = (s.updOut ((c.p 0).fld 31 28) (ClkOut.configure c)).clkOut := by
  by_cases hclock : (c.p 0).fld 31 28 < 8
  · refine ⟨_, exec_of_ok (op := timingOutSetOp) rfl hp (congrArg (Prod.mk _) (if_pos hclock)), ?_⟩
    rw [ClkOut.configure, if_pos hclock]
  · refine ⟨_, exec_of_ok (op := timingOutSetOp) rfl hp (congrArg (Prod.mk _) (if_neg hclock)), ?_⟩
    rw [ClkOut.configure, if_neg hclock]
    split <;> rfl

theorem exec_timingFpAlign (hp : timingFpAlignOp.passes c s) :
    exec (.timingFpAlign c) s =
      .next (((s.updOut ((c.p 0).fld 31 28) (ClkOut.align c)).bump (timingCtr 8) 1).answered c 0x0106 0 []) :=
  exec_of_ok (op := timingFpAlignOp) rfl hp rfl

theorem exec_timingForce_holdover (hp : timingForceOp.passes c s) (hmode : (c.p 0).fld 29 28 = 2) :
    exec (.timingForce c) s =
      .next (((s.force c).enterHoldover ((c.p 0).fld 31 30) 1 true).answered c 0x0107 0 []) :=
  exec_of_ok (op := timingForceOp) rfl hp (congrArg (Prod.mk _) (if_pos hmode))

theorem exec_timingForce_reference (hp : timingForceOp.passes c s) (hmode : (c.p 0).fld 29 28 ≠ 2) :
    exec (.timingForce c) s = .next ((s.forceRef c).answered c 0x0107 0 []) := by
  refine exec_of_ok (op := timingForceOp) rfl hp (congrArg (Prod.mk _) ((if_neg hmode).trans (ite_of_iff ?_ _ _)))
  simp [State.takesForced, imp_iff_not_or]

theorem exec_timingTodSet (hp : timingTodSetOp.passes c s) :
    exec (.timingTodSet c) s = .next ((s.withTiming { s.timing with
      todNext := some ((c.p 0).toNat + (c.p 1).fld 15 0 * 2 ^ 32) }).answered c 0x0108 0 []) :=
  exec_of_ok (op := timingTodSetOp) rfl hp rfl

end

/-! ### The statement -/

/-- Settles O55: each command by the state it leaves, in which the unit it names reads as set. -/
theorem timingCommandsAct : Obligations.TimingCommandsAct := by
  refine ⟨fun c s hp => ?config, fun c s hp => ⟨_, exec_timingRefSet hp, fun k hk => ?others, ?candidate,
      fun d hd => State.holdover_setRef c s hd⟩,
    fun c s hp => ?dpll, fun c s hp => ⟨_, exec_timingPrioSet hp, fun d => ?prio⟩, fun c s hp => ?output,
    fun c s hp => ⟨_, exec_timingFpAlign hp, fun hstep => ?step, fun hslew herr => ?slew⟩,
    fun c s hp => ?force, fun c s hp => exec_timingTodSet hp⟩
  case config =>
    obtain ⟨cands, dplls, htiming⟩ := s.timing_preferXtal c
    refine ⟨_, exec_timingConfig hp, ?_⟩
    rw [htiming]
    exact ⟨rfl, rfl, rfl, rfl, rfl, rfl⟩
  case others => rw [State.cand_setRef, if_neg hk]
  case candidate =>
    rw [State.cand_setRef, if_pos rfl]
    exact ⟨RefCand.moved_st _ _, rfl, rfl, rfl, rfl, rfl, rfl, rfl, rfl, rfl, rfl⟩
  case dpll =>
    obtain ⟨u, hexec, hu⟩ := exec_timingDpllSet hp
    refine ⟨u, hexec, fun d => ?_⟩
    rw [hu, State.dpll_updDpll]
    exact ite_congr rfl (fun hd => by rw [hd]; rfl) fun _ => rfl
  case prio =>
    rw [State.dpll_updDpll]
    exact ite_congr rfl (fun hd => by rw [hd]) fun _ => rfl
  case output =>
    obtain ⟨u, hexec, hu⟩ := exec_timingOutSet hp
    refine ⟨u, hexec, fun o => ?_⟩
    rw [hu, State.clkOut_updOut]
    by_cases ho : o = (c.p 0).fld 31 28
    · rw [if_pos ho, if_neg (not_not.mpr ho), ho, ClkOut.configure]
      split <;> rfl
    · rw [if_neg ho, if_pos ho]
  case step => rw [State.clkOut_bump, State.clkOut_updOut_same, ClkOut.align, hstep]; rfl
  case slew => rw [State.clkOut_bump, State.clkOut_updOut_same, ClkOut.align, if_pos hslew, if_neg herr]
  case force =>
    by_cases hmode : (c.p 0).fld 29 28 = 2
    · refine ⟨_, exec_timingForce_holdover hp hmode, ?_⟩
      rw [State.dpll_enterHoldover_same, Dpll.held_forced, Dpll.held_forcedRef, Dpll.held_st, State.dpll_force]
      exact ⟨rfl, rfl, fun _ => rfl, fun h => absurd (h.symm.trans hmode) (by decide),
        fun h => absurd (h.symm.trans hmode) (by decide)⟩
    · obtain ⟨hforced, href⟩ := State.forced_forceRef (c := c) (s := s)
      refine ⟨_, exec_timingForce_reference hp hmode, hforced, href, fun h => absurd h hmode, State.ref_forceRef,
        fun hclear => ?_⟩
      rw [State.dpll_forceRef_of_clear (by rw [hclear]; decide), State.dpll_force]
      exact ⟨rfl, rfl⟩

end Sys2Proof.Machine
end

section
/-!
PROOFS. The happenings of TIMING (spec/13 R367 to R385): what each happening leaves of the crystals, candidates, DPLLs, outputs
and the time of day, where it can come about, and the statement about them.
-/

namespace Sys2Proof.Machine

/-! ### A crystal that shows no edge, or edges again (R367, R368) -/

/-- The state with a crystal that shows no edge. -/
def State.stilled (x : Fin 2) (s : State) : State :=
  s.withTiming { s.timing with xtals := s.timing.xtals.set x { s.timing.xtals.get x with still := true } }

section
variable {s : State} {x : Fin 2}

theorem State.still_stilled : ((s.stilled x).timing.xtals.get x).still = true := by
  rw [State.stilled, State.withTiming_timing, P2.get_set, if_pos rfl]

/-- The crystal beside the one that shows no edge is as it was. -/
theorem State.xtal_stilled_other : (s.stilled x).xtal (!(x == 1)) = s.xtal (!(x == 1)) :=
  match x with
  | 0 => rfl
  | 1 => rfl

theorem State.xtals_xtalFaulted (i : Bool) : (s.xtalFaulted i).timing.xtals = s.timing.xtals := by
  by_cases hactive : i = s.timing.xtal
  · by_cases hover : s.timing.xtalBackup = true ∧ (s.xtal (!i)).fault = false
    · obtain ⟨cands, dplls, h⟩ := s.timing_xtalFaulted_handover hactive hover.1 hover.2
      rw [h]
    · rw [s.timing_xtalFaulted_lost hactive (by rwa [not_and_or, Bool.not_eq_true, Bool.not_eq_false] at hover)]
  · rw [s.timing_xtalFaulted_spare hactive]

section
variable (hstill : (s.timing.xtals.get x).still = false) (hclock : s.timing.clockLost = false)
include hstill hclock

theorem exec_xtalActivityLoss_quiet (hquiet : (s.timing.xtals.get x).off = true ∨ s.boot.phase = .reset) :
    exec (.xtalActivityLoss x) s = .next (s.stilled x) :=
  (happen_of _ _ (by simp [hstill, hclock])).trans (congrArg _ (if_pos hquiet))

theorem exec_xtalActivityLoss_fault (hon : (s.timing.xtals.get x).off = false) (hboot : s.boot.phase ≠ .reset) :
    exec (.xtalActivityLoss x) s = .next ((s.stilled x).xtalFaulted (x == 1)) :=
  (happen_of _ _ (by simp [hstill, hclock])).trans (congrArg _ (if_neg (by simp [hon, hboot])))

end

theorem exec_xtalActivityReturn (hstill : (s.timing.xtals.get x).still = true) : ∃ t,
    exec (.xtalActivityReturn x) s = .next t ∧ t.timing.xtals.get x = { s.timing.xtals.get x with still := false } :=
  ⟨_, happen_of _ _ hstill, (P2.get_upd _ x x _).trans (if_pos rfl)⟩

end

/-! ### Gates and candidates (R370 to R373) -/

section
variable {s : State}

/-- The gate of a candidate that qualifies counts towards its time, or starts it anew (R372). -/
theorem State.cand_refGate_of_qualifying {c : Nat} (hst : (s.cand c).st = .qualifying) (master : Bool) (m o : Int) :
    (s.refGate master m c o).cand c = { s.cand c with
      offset := o, good := if o.natAbs ≤ (s.cand c).accept * 1000 then (s.cand c).good + (if c = 16 then 16 else 1) else 0 } := by
  unfold State.refGate
  simp only [hst, State.cand_updCand_same]

theorem State.loseRef_of_active {c : Nat} (h : (s.cand c).st = .qualifying ∨ (s.cand c).st = .qualified) : s.loseRef c =
    (((s.moveRef c .inactive).bump (timingCtr 2) 1).updCand c fun x => { x with offset := 0 }).dropRef c 2 :=
  if_pos h

/-- Reading a candidate after one of them is given a QL. -/
theorem State.cand_setQl (c k ql : Nat) :
    (s.setQl c ql).cand k = if k = c then { s.cand c with rxQl := ql } else s.cand k := by
  unfold State.setQl
  dsimp only
  split
  · exact s.cand_updCand c k _
  · rw [State.cand_noteQl]
    exact s.cand_updCand c k _

/-- Every candidate of a list that is given a QL has it. -/
theorem State.rxQl_foldl_setQl {cs : List Nat} {c : Nat} (hc : c ∈ cs) (ql : Nat) :
    ((cs.foldl (fun u k => u.setQl k ql) s).cand c).rxQl = ql := by
  refine foldl_establishes (P := fun _ => True) (Q := fun u => (u.cand c).rxQl = ql) (fun _ _ _ => trivial) (fun u _ => ?_)
    (fun u k hu => ?_) hc trivial
  · rw [State.cand_setQl, if_pos rfl]
  · rw [State.cand_setQl]
    split
    · rfl
    · exact hu

end

section
variable {s : State} {c : Fin 17} (hl : s.live = true)
include hl

theorem exec_refFirstEdge (hst : (s.cand c.val).st = .inactive) (hready : s.refReady c.val = true) : ∃ t,
    exec (.refFirstEdge c) s = .next t ∧ (t.cand c.val).st = .qualifying :=
  ⟨_, happen_of _ _ (by rw [hl, hst, hready]; rfl), by rw [State.cand_moveRef_same, RefCand.moved_st]⟩

theorem exec_qualifyComplete (hst : (s.cand c.val).st = .qualifying) (hgood : (s.cand c.val).qualTime ≤ (s.cand c.val).good) :
    ∃ t, exec (.qualifyComplete c) s = .next t ∧ (t.cand c.val).st = .qualified :=
  ⟨_, happen_of _ _ (by rw [hl, hst, decide_eq_true hgood]; rfl), by rw [State.cand_moveRef_same, RefCand.moved_st]⟩

/-- A candidate that loses activity is INACTIVE, and the DPLLs that used it are in HOLDOVER (R370, R379). -/
theorem exec_refActivityLoss (hst : (s.cand c.val).st = .qualifying ∨ (s.cand c.val).st = .qualified) : ∃ t,
    exec (.refActivityLoss c) s = .next t ∧ (t.cand c.val).st = .inactive ∧ (t.cand c.val).offset = 0 ∧
      ∀ d, d < 4 → (s.dpll d).ref = some c.val → (t.dpll d).st = .holdover := by
  refine ⟨_, happen_of _ _ hl, ?_⟩
  rw [State.loseRef_of_active hst]
  refine ⟨?_, ?_, fun d hd href => State.holdover_dropRef 2 hd ?_⟩
  · rw [State.cand_dropRef, State.cand_updCand_same, State.cand_bump, State.cand_moveRef_same]
    exact RefCand.moved_st _ _
  · rw [State.cand_dropRef, State.cand_updCand_same]
  · rw [State.dpll_updCand, State.dpll_bump, State.dpll_moveRef, href]

theorem exec_esmcPduReceive {i : Fin 256} {ql : Fin 16} (hof : s.esmcOf i.val ≠ []) : ∃ t,
    exec (.esmcPduReceive i ql) s = .next t ∧ ∀ c ∈ s.esmcOf i.val, (t.cand c).rxQl = ql.val :=
  ⟨_, happen_of _ _ (by simpa [hl] using hof), fun _ hc => State.rxQl_foldl_setQl hc ql.val⟩

theorem exec_qlTimeout (hc : 8 ≤ c.val) (hql : (s.cand c.val).rxQl ≠ 0xF) : ∃ t,
    exec (.qlTimeout c) s = .next t ∧ (t.cand c.val).rxQl = 0xF :=
  ⟨_, happen_of _ _ (by simp [hl, hc, hql]), by rw [State.cand_setQl, if_pos rfl]⟩

end

/-! ### Selection, lock, bandwidth and core faults (R374, R377, R378, R380) -/

section
variable {s : State}

/-- Selection takes the candidate it chose for a DPLL in FREE_RUN that is not forced and uses none. -/
theorem State.select_of_freeRun {d c : Nat} (hforced : (s.dpll d).forced = 0) (hst : (s.dpll d).st = .freeRun)
    (href : (s.dpll d).ref = none) (hchoose : s.choose (s.dpll d) = (some c, none)) :
    ∃ cause now, s.select d = (s.useRef d c cause).noteDisagree d now := by
  unfold State.select
  simp only [hforced, hst, href, hchoose]
  exact ⟨_, _, rfl⟩

/-- A core fault puts its DPLL in HOLDOVER (R380). -/
theorem State.dpll_coreFaulted (d : Nat) (diff : Int) : ((s.coreFaulted d diff).dpll d).coreFault = true ∧
    ((s.coreFaulted d diff).dpll d).st = .holdover := by
  unfold State.coreFaulted
  dsimp only
  rw [State.dpll_refreshHealth, State.dpll_swapFaulted, State.dpll_updDpll_same, State.dpll_enterHoldover_same]
  dsimp only
  rw [Dpll.held_coreFault, Dpll.held_st, State.dpll_raise, State.dpll_bump, State.dpll_updDpll_same]
  exact ⟨rfl, rfl⟩

end

section
variable {s : State} {d : Fin 4} (hl : s.live = true)
include hl

theorem exec_dpllLock (hst : (s.dpll d.val).st = .acquire) : ∃ t, exec (.dpllLock d) s = .next t ∧
    t.dpll d.val = { s.dpll d.val with st := .locked, gates := [], atGate := 0 } :=
  ⟨_, happen_of _ _ (by rw [hl, hst]; rfl), s.dpll_updDpll_same _ _⟩

theorem exec_bwStep (hst : (s.dpll d.val).st = .locked) (hbw : (s.dpll d.val).bwNow ≠ (s.dpll d.val).bw) : ∃ t,
    exec (.bwStep d) s = .next t ∧
      t.dpll d.val = { s.dpll d.val with bwNow := nextBw (s.dpll d.val).bwNow (s.dpll d.val).bw, atGate := 0 } :=
  ⟨_, happen_of _ _ (by simp [hl, hst, hbw]), s.dpll_updDpll_same _ _⟩

theorem exec_coreFault (diff : Int) (hwhole : (s.dpll d.val).coreFault = false) : ∃ t,
    exec (.coreFault d diff) s = .next t ∧ (t.dpll d.val).coreFault = true ∧ (t.dpll d.val).st = .holdover :=
  ⟨_, happen_of _ _ (by rw [hl, hwhole]; rfl), State.dpll_coreFaulted d.val diff⟩

theorem exec_fpSlewEnd {o : Fin 4} (hslew : (s.clkOut (8 + o.val)).slew ≠ 0) : ∃ t, exec (.fpSlewEnd o) s = .next t ∧
    t.clkOut (8 + o.val) = { s.clkOut (8 + o.val) with slew := 0, err := some 0 } :=
  ⟨_, happen_of _ _ (by simp [hl, hslew]), s.clkOut_updOut_same _ _⟩

end

/-! ### The one-second tick (R249, R385) -/

/-- The TAI seconds at the next tick: as set, else of the Crier where DPLL 0 follows it, else one more. -/
def State.nextTod (crierSec : Nat) (s : State) : Nat :=
  match s.timing.todNext with
  | some v => v
  | none => if (s.dpll 0).ref = some 16 then crierSec % 2 ^ 48 else (s.timing.tod + 1) % 2 ^ 48

section
variable {s : State} (crierSec : Nat)

theorem State.nextTod_of_set {v : Nat} (h : s.timing.todNext = some v) : s.nextTod crierSec = v := by
  rw [State.nextTod, h]

theorem State.nextTod_of_own (h : s.timing.todNext = none) (hown : (s.dpll 0).ref ≠ some 16) :
    s.nextTod crierSec = (s.timing.tod + 1) % 2 ^ 48 := by
  rw [State.nextTod, h]
  exact if_neg hown

theorem State.nextTod_of_crier (h : s.timing.todNext = none) (hcrier : (s.dpll 0).ref = some 16) :
    s.nextTod crierSec = crierSec % 2 ^ 48 := by
  rw [State.nextTod, h]
  exact if_pos hcrier

end

/-- The state with the tick counted and the time of day moved on, before the figures of the second are latched. -/
def State.ticked (crierSec : Nat) (s : State) : State :=
  (s.withTiming { s.timing with
    tickSeq := (s.timing.tickSeq + 1) % 2 ^ 32, tickTime := s.time64, tod := s.nextTod crierSec,
    todSet := s.timing.todSet || s.timing.todNext.isSome || (s.dpll 0).ref == some 16, todNext := none }).bump (timingCtr 11) 1

/-- The state with every figure of the second latched. -/
def State.latched (s : State) : State := ((s.latchLoom.latchFec 0).latchFec 1).latchLanes

section
variable (s : State)

@[simp] theorem State.timing_latched : s.latched.timing = s.timing := by simp [State.latched]

theorem State.loom_latched : s.latched.loom = s.latchLoom.loom := by
  have hfec (u : State) (p : Port) : (u.latchFec p).loom = u.loom :=
    (State.latchFec_keeps (cs := [.clerk, .hier, .tally, .fec]) (Keeps.refl u)).loom_eq (by decide)
  have hlanes (u : State) : u.latchLanes.loom = u.loom :=
    (State.latchLanes_keeps (cs := [.lanes]) (Keeps.refl u)).loom_eq (by decide)
  rw [State.latched, hlanes, hfec, hfec]

/-- The Loom latches its counts: those of the second in hand start anew, those latched before become the previous ones. -/
theorem State.loom_latchLoom : s.latchLoom.loom.counts = [] ∧ s.latchLoom.loom.previous = s.loom.latest := by
  refine ⟨rfl, ?_⟩
  refine List.foldlRecOn (motive := fun u : State => u.loom.latest = s.loom.latest) _ _ rfl fun u hu p _ => ?_
  split
  · exact hu
  · exact hu

variable {s}

theorem exec_oneSecondTick (hl : s.live = true) (crierSec : Nat) :
    exec (.oneSecondTick crierSec []) s = .next (s.ticked crierSec).latched :=
  happen_of _ _ hl

end

/-! ### The statement -/

/-- Settles O56: each happening's answer where it can come about, and what of the crystal, the candidate, the DPLL, the output or
the time of day it leaves. -/
theorem timingHappenings : Obligations.TimingHappenings := by
  refine ⟨fun s x hstill hclock => ⟨exec_xtalActivityLoss_quiet hstill hclock, fun hon hboot =>
      ⟨_, exec_xtalActivityLoss_fault hstill hclock hon hboot, ?still, fun hspare => ?spare, fun hactive hbackup hother =>
        ?handover, fun hactive hnone => ?lost⟩⟩,
    fun s x => exec_xtalActivityReturn, fun s offsets freqs xdiff hl => happen_of _ _ hl,
    fun s master m o c hst => State.cand_refGate_of_qualifying hst master m o,
    fun s c hl => ⟨exec_refFirstEdge hl, exec_qualifyComplete hl, exec_refActivityLoss hl⟩,
    fun s hl => happen_of _ _ hl, fun s d c hforced hst href hchoose => ?selected,
    fun s d hl => ⟨exec_dpllLock hl, exec_bwStep hl, exec_coreFault hl⟩,
    fun s crierSec hl => ⟨_, exec_oneSecondTick hl crierSec, ?tick⟩, fun s i ql hl => exec_esmcPduReceive hl,
    fun s c hl => exec_qlTimeout hl, fun s o hl => exec_fpSlewEnd hl⟩
  case still => rw [State.xtals_xtalFaulted, State.still_stilled]
  case spare =>
    rw [(s.stilled x).timing_xtalFaulted_spare hspare]
    exact ⟨rfl, hclock⟩
  case handover =>
    obtain ⟨cands, dplls, h⟩ := (s.stilled x).timing_xtalFaulted_handover hactive hbackup
      (by rw [State.xtal_stilled_other, hactive, hother])
    rw [h]
    exact ⟨rfl, hclock⟩
  case lost =>
    rw [(s.stilled x).timing_xtalFaulted_lost hactive (by rw [State.xtal_stilled_other, hactive]; exact hnone)]
    exact ⟨rfl, rfl⟩
  case selected =>
    obtain ⟨cause, now, h⟩ := State.select_of_freeRun hforced hst href hchoose
    rw [h, State.dpll_noteDisagree, if_pos rfl, State.dpll_useRef, if_pos rfl]
    exact ⟨Dpll.follow_st_of_freeRun _ hst, Dpll.follow_ref _ _⟩
  case tick =>
    rw [State.timing_latched, State.loom_latched]
    exact ⟨rfl, rfl, rfl, fun v => State.nextTod_of_set crierSec, State.nextTod_of_own crierSec,
      State.nextTod_of_crier crierSec, (s.ticked crierSec).loom_latchLoom⟩

end Sys2Proof.Machine
end

section
/-!
PROOFS. What every command keeps (spec/02, spec/16 R453): the frame of `touches`, the queue, the fuses and the record of what left,
each read off `keeps_of_exec`; and which commands are answered, by the units they name.
-/

set_option Elab.async false

namespace Sys2Proof.Machine

/-! ### Which commands are answered -/

/-- The meaning answers a next state. -/
def Answers (a : Ans) : Prop := ∃ t, a = .next t

/-- The meaning answers where the units named exist, and stops by name where they do not. -/
def AnswersIf (b : Bool) (a : Ans) : Prop := (b = true → Answers a) ∧ (b = false → a = .fault .noSuchUnit)

theorem answers_ite {g : Prop} [Decidable g] {a b : Ans} (ha : Answers a) (hb : Answers b) :
    Answers (if g then a else b) := by
  split
  · exact ha
  · exact hb

theorem answersIf_true {a : Ans} (h : Answers a) : AnswersIf true a := ⟨fun _ => h, nofun⟩

section
variable {g : Prop} [Decidable g] {b : Bool} {a : Ans} (h : Answers a)
include h

/-- A meaning that is guarded by the units it names. -/
theorem answersIf_guarded (hg : b = true ↔ g) : AnswersIf b (if g then a else .fault .noSuchUnit) := by
  refine ⟨fun hb => ?_, fun hb => ?_⟩
  · rwa [if_pos (hg.mp hb)]
  · rw [if_neg fun hyes => by simp [hg.mpr hyes] at hb]

/-- A meaning that stops first where a unit it names does not exist. -/
theorem answersIf_stopped (hg : b = true ↔ ¬g) : AnswersIf b (if g then .fault .noSuchUnit else a) := by
  rw [← ite_not]
  exact answersIf_guarded h hg

end

theorem below_iff {n m : Nat} : decide (n < m) = true ↔ ¬m ≤ n := by simp

theorem granted_iff {k n m : Nat} : decide (k ≠ 0 ∧ n < m) = true ↔ ¬(k = 0 ∨ m ≤ n) := by simp

theorem atFifo_answersIf (ha : BitVec 20) (d : Dir) (ok : Fifo → Bool) (f : Fifo → State → State) (s : State) :
    AnswersIf (targetCell s ha.toNat && ownsFifo (haRegion ha.toNat)) (atFifo ha d ok f s) :=
  answersIf_guarded ⟨_, rfl⟩ Iff.rfl

theorem execStripeRead_answersIf (kind : Fin 5) (n : Nat) (bad : List Nat) (s : State) :
    AnswersIf (decide (n < stripes)) (execStripeRead kind n bad s) := by
  unfold execStripeRead
  refine answersIf_stopped (answers_ite ?_ ⟨_, rfl⟩) below_iff
  cases s.hier.sweepStore with
  | none => exact ⟨_, rfl⟩
  | some w => exact ⟨_, rfl⟩

theorem execStripeWrite_answersIf (kind : Fin 5) (n : Nat) (p : Port) (tick : Nat) (data : List Byte) (s : State) :
    AnswersIf (decide (kind.val ≠ 0 ∧ n < stripes)) (execStripeWrite kind n p tick data s) := by
  unfold execStripeWrite
  refine answersIf_stopped ?_ granted_iff
  refine answers_ite ⟨_, rfl⟩ (answers_ite (answers_ite ⟨_, rfl⟩ ⟨_, rfl⟩) ?_)
  cases s.part kind.val with
  | none => exact ⟨_, rfl⟩
  | some _ => exact ⟨_, rfl⟩

theorem takePacket_answers (i : Iface) (q : Queue) (ws : List Word) (s : State) : Answers (s.takePacket i q ws) := by
  unfold State.takePacket
  refine answers_ite ⟨_, rfl⟩ (answers_ite ⟨_, rfl⟩ ?_)
  cases opOf ((ws.getD 0 0).fld 31 16) with
  | none => exact ⟨_, rfl⟩
  | some op => exact ⟨_, rfl⟩

theorem execCommandTake_answers (i : Iface) (q : Queue) (packet : List Word) (s : State) :
    Answers (execCommandTake i q packet s) := by
  unfold execCommandTake
  exact answers_ite ⟨_, rfl⟩ (answers_ite ⟨_, rfl⟩ (answers_ite (answers_ite ⟨_, rfl⟩ (takePacket_answers _ _ _ _))
    (answers_ite (takePacket_answers _ _ _ _) ⟨_, rfl⟩)))

theorem handle_answers (k : Fin 4) (t : Nat) (f : CrIn → State → State) (s : State) : Answers (handle k t f s) := by
  unfold handle
  split <;> exact ⟨_, rfl⟩

/-- The sixteen meanings that name a unit are guarded by it; every other meaning answers. -/
theorem exec_answersIf (i : Instr) (s : State) : AnswersIf (unitsExist i s) (exec i s) := by
  cases i
  case faultDetected | decisionMismatch | residueFailure | parityFailure | handshakeStall | sramRead =>
    exact answersIf_guarded ⟨_, rfl⟩ Iff.rfl
  case packetCommit | packetAbort | fifoRead | writerRelease | fifoIdleExpiry =>
    dsimp only [exec, execPacketCommit, execPacketAbort, execFifoRead, execWriterRelease, execFifoIdleExpiry, unitsExist]
    exact atFifo_answersIf _ _ _ _ _
  case stripeRead => exact execStripeRead_answersIf _ _ _ _
  case stripeWrite => exact execStripeWrite_answersIf _ _ _ _ _ _
  case readMergeWrite => exact answersIf_stopped ⟨_, rfl⟩ granted_iff
  case stripeFree | recordFill => exact answersIf_stopped ⟨_, rfl⟩ below_iff
  case commandTake => exact answersIf_true <| execCommandTake_answers _ _ _ _
  case hello | quality | timeReq | timeResp | hostLink | domain | joinReq | joinAnswer | report | beacon =>
    exact answersIf_true <| handle_answers _ _ _ _
  case admitTimeout | announcementValid | answerWaitExpiry | calRunDone | candidateSwitch | cdScanDone | cellWriteBack |
      cipherDecrypt | cipherMessageDone | configRestore | copyDone | coreFollowDone | coreLoadDone | decodeEnd |
      decodeIterationEnd | decodesDrained | finalDecisionsArrive | formerPairReady | fuseBlown | handoverLoadDone |
      handoverTakeover | holdLimitExpiry | hostIfaceAlign | messageWordUncorrectable | migrationLoadDone | migrationRetestDone |
      objectTimeout | packetSendStart | peerLost | prepareDone | proofTimeout | rampEnd | ratePropose | replayOverrun |
      restoreRebuildDone | restoreTestDone | restoreTrainDone | segment | sequenceEnd | spanFinal | stepSeek |
      txDeferredCommit | txXfadeEnd | verifyDone =>
    refine answersIf_true ?_
    dsimp only [exec, execAdmitTimeout, execAnnouncementValid, execAnswerWaitExpiry, execCalRunDone, execCandidateSwitch,
      execCdScanDone, execCellWriteBack, execCipherDecrypt, execCipherMessageDone, execConfigRestore, execCopyDone,
      execCoreFollowDone, execCoreLoadDone, execDecodeEnd, execDecodeIterationEnd, execDecodesDrained, execFinalDecisionsArrive,
      execFormerPairReady, execFuseBlown, execHandoverLoadDone, execHandoverTakeover, execHoldLimitExpiry, execHostIfaceAlign,
      execMessageWordUncorrectable, execMigrationLoadDone, execMigrationRetestDone, execObjectTimeout, execPacketSendStart,
      execPeerLost, execPrepareDone, execProofTimeout, execRampEnd, execRatePropose, execReplayOverrun, execRestoreRebuildDone,
      execRestoreTestDone, execRestoreTrainDone, execSegment, execSequenceEnd, execSpanFinal, execStepSeek,
      execTxDeferredCommit, execTxXfadeEnd, execVerifyDone]
    split <;> exact ⟨_, rfl⟩
  case biasAlarmHold | egressDeliver | rateAnswer | shrinkDrainDone | switch | tailWrite | paceHoldRelease =>
    refine answersIf_true ?_
    dsimp only [exec, execBiasAlarmHold, execEgressDeliver, execRateAnswer, execShrinkDrainDone, execSwitch, execTailWrite,
      execPaceHoldRelease]
    split
    · exact ⟨_, rfl⟩
    · split <;> exact ⟨_, rfl⟩
  case rateSwitch =>
    refine answersIf_true ?_
    dsimp only [exec, execRateSwitch]
    split <;> split <;> exact ⟨_, rfl⟩
  case retestDone =>
    refine answersIf_true ?_
    dsimp only [exec, execRetestDone]
    split
    · exact ⟨_, rfl⟩
    · split <;> exact ⟨_, rfl⟩
  case sweepEnd | tickRead =>
    refine answersIf_true ?_
    dsimp only [exec, execSweepEnd, execTickRead]
    split
    · split <;> exact ⟨_, rfl⟩
    · exact ⟨_, rfl⟩
  all_goals exact answersIf_true ⟨_, rfl⟩

/-! ### The statements -/

/-- Settles O1: the branch of `step` for a queue that is not empty. -/
theorem stepServesFrontCommand : Obligations.StepServesFrontCommand := fun _ _ _ => step_of_pending

/-- Settles O6: the frame that every command keeps. -/
theorem commandsChangeOnlyTheirUnits : Obligations.CommandsChangeOnlyTheirUnits := fun _ _ _ h => (keeps_of_exec h).frame

/-- Settles O7: no command writes the queue. -/
theorem commandsLeaveQueueAlone : Obligations.CommandsLeaveQueueAlone := fun _ _ _ h => (keeps_of_exec h).queue

/-- Settles O8: every update of Hallmark, that of a cold reset among them, carries the fuse count on or advances it. -/
theorem fusesAreNeverRestored : Obligations.FusesAreNeverRestored := fun _ _ _ h => (keeps_of_exec h).fuses

/-- Settles O9: an idle step changes device time alone, and a command only appends to the record. -/
theorem stepNeverRecalls : Obligations.StepNeverRecalls := by
  intro s t hstep
  cases hq : s.pending with
  | nil =>
    obtain rfl : s.idle1 = t := by simpa [step_of_empty hq] using hstep
    exact s.idle1_keeps.out
  | cons c r =>
    have hkeeps : Keeps (touches c) (s.withPending r) t := keeps_of_exec (step_of_pending hq ▸ hstep)
    exact hkeeps.out

/-- Settles O10: the guard of each command is `unitsExist`. -/
theorem everyCommandIsAnswered : Obligations.EveryCommandIsAnswered := exec_answersIf

end Sys2Proof.Machine
end

section
/-!
PROOFS. The index of opcodes (spec/22 R542, R544, R545): its rows, its codes, which no two opcodes share, and the queue on which a
packet is executed.
-/

set_option Elab.async false

namespace Sys2Proof.Machine

/-! ### The codes of the index -/

/-- The index is in the order of its codes. -/
theorem allOps_codes_rise : (allOps.map fun o => o.code).Pairwise (· < ·) :=
  List.isChain_iff_pairwise.mp (by decide +kernel)

theorem allOps_codes_nodup : (allOps.map fun o => o.code).Nodup := allOps_codes_rise.imp Nat.ne_of_lt

/-! ### The check of the queue (Table 2-4) -/

theorem mem_of_firstRej {l : List (Option Rej)} {r : Rej} (h : firstRej l = some r) : some r ∈ l := by
  induction l with
  | nil => cases h
  | cons a l ih =>
    cases a with
    | none => exact List.mem_cons_of_mem _ (ih h)
    | some x => cases h; exact List.mem_cons_self

theorem of_need_eq_some {b : Bool} {r x : Rej} (h : some x = need b r) : b = false ∧ x = r := by
  cases b with
  | false => cases h; exact ⟨rfl, rfl⟩
  | true => cases h

section
variable {op : OpDef} {c : Cmd} {s : State}

theorem OpDef.judge_of_wrongQueue {q : Queue} (hrun : s.live = true ∨ op.recovery = true) (hq : op.queue = some q)
    (hne : q ≠ c.queue) : op.judge c s = some ⟨0x13, 0xFFFF, 0⟩ :=
  ((firstFailedCheckDecides op c s).2 hrun).1 ⟨q, hq, hne⟩

/-- A packet that passes its checks arrived on its opcode's queue. -/
theorem OpDef.queue_of_judge (h : op.judge c s = none) : op.queue = none ∨ op.queue = some c.queue := by
  by_cases hrun : s.live = true ∨ op.recovery = true
  · cases hq : op.queue with
    | none => exact .inl rfl
    | some q =>
      by_cases hne : q = c.queue
      · exact .inr (congrArg some hne)
      · exact absurd (h.symm.trans (OpDef.judge_of_wrongQueue hrun hq hne)) nofun
  · have hrec : op.judge c s = some _ := (firstFailedCheckDecides op c s).1 (by simpa using hrun)
    exact absurd (h.symm.trans hrec) nofun

/-- An opcode of every queue is refused for no queue, unless its own check does so. -/
theorem OpDef.judge_status_of_anyQueue {r : Rej} (hq : op.queue = none) (hcheck : ∀ x, op.check c s = some x → x.status ≠ 0x13)
    (h : op.judge c s = some r) : r.status ≠ 0x13 := by
  have hmem := mem_of_firstRej h
  simp only [List.mem_cons, List.not_mem_nil, or_false] at hmem
  rcases hmem with h | h | h | h | h | h | h | h | h
  case inr.inl =>
    have hfails := (of_need_eq_some h).1
    simp [hq] at hfails
  case inr.inr.inr.inr.inr.inr.inl => exact hcheck r h.symm
  all_goals rw [(of_need_eq_some h).2]; decide

end

/-! ### The statements -/

/-- Settles O11: the index is in the order of its codes, so no two are the same. -/
theorem opcodesAreIndexed : Obligations.OpcodesAreIndexed :=
  ⟨fun _ _ _ => opOf_of_packetOf, rfl, allOps_codes_nodup⟩

/-- Settles O20: the table is read off the opcodes' records; the queue is the second check of Table 2-4. -/
theorem opcodeIndexRows : Obligations.OpcodeIndexRows := by
  refine ⟨rfl, rfl, rfl, rfl, rfl, rfl, rfl, fun i op c s _ hp => ?executed, fun i op c s q _ hq hne hlive => ?other,
    fun c s q r => ?nop⟩
  case executed =>
    obtain ⟨-, -, -, hjudge, -, -⟩ := hp
    exact OpDef.queue_of_judge hjudge
  case other => exact OpDef.judge_of_wrongQueue (.inl hlive) hq hne.symm
  case nop => exact OpDef.judge_status_of_anyQueue rfl nofun

end Sys2Proof.Machine
end

section
/-!
PROOFS. The counters (spec/19 R502 to R504): captures of TALLY_FREEZE, reads of the counter window with its latch, the counter
opcodes of the chapters; and the state after reset (spec/20 R523).
-/

set_option Elab.async false

namespace Sys2Proof.Machine

/-! ### Captures (R504) -/

theorem Tab.get_filter {α : Type} {d : α} (t : Tab α) (f : Nat → Bool) (k : Nat) :
    Tab.get d (t.filter fun e => f e.1) k = if f k then Tab.get d t k else d := by
  induction t with
  | nil => simp [Tab.get]
  | cons e r ih =>
    obtain ⟨i, v⟩ := e
    by_cases hi : f i = true
    · simp only [List.filter_cons, hi, if_true, Tab.get, ih]
      by_cases hk : k = i
      · simp [hk, hi]
      · simp [hk]
    · simp only [List.filter_cons, hi, Bool.false_eq_true, if_false, Tab.get, ih]
      by_cases hk : k = i
      · simp [hk, hi]
      · simp [hk]

/-- The groups of MASK that a capture holds. -/
def freezeGroups (w : Word) : List Nat := (List.range 16).filter fun g => w.bit g

theorem slotGroup_lt {k : Nat} (h : k < 0x20000) : slotGroup k < 16 := by
  unfold slotGroup
  omega

theorem freezeGroups_contains (w : Word) {g : Nat} (h : g < 16) : (freezeGroups w).contains g = w.bit g := by
  rw [Bool.eq_iff_iff, List.contains_iff_mem]
  simp [freezeGroups, h]

/-- The state with the counters of the groups of MASK captured. -/
def State.freeze (w : Word) (s : State) : State :=
  s.withTally { s.tally with
    frozen := freezeGroups w, capture := s.tally.counters.filter fun e => (freezeGroups w).contains (slotGroup e.1) }

section
variable {s t : State} {k : Nat}

theorem State.only_withTally (s : State) (v : Tally) : s.only [.tally] (s.withTally v) := by
  intro d hd
  cases d
  case tally => exact absurd (List.mem_singleton.mpr rfl) hd
  all_goals rfl

theorem exec_tallyFreeze {c : Cmd} (hp : tallyFreezeOp.passes c s) :
    exec (.tallyFreeze c) s = .next ((s.freeze (c.p 0)).answered c 0x0C05 0 []) :=
  exec_of_ok (op := tallyFreezeOp) rfl hp rfl

theorem State.slotValue_of_closed (h : s.hall.tallyMask / 2 ^ slotGroup k % 2 = 0) : s.slotValue k = 0 := if_pos h

theorem State.slotValue_of_open (h : s.hall.tallyMask / 2 ^ slotGroup k % 2 ≠ 0) :
    s.slotValue k = if s.tally.frozen.contains (slotGroup k) then Tab.get 0 s.tally.capture k else s.counter k := if_neg h

/-- What a slot of an open group reads while a freeze stands. -/
theorem State.slotValue_of_frozen {w : Word} (hfrozen : t.tally.frozen = (s.freeze w).tally.frozen)
    (hcapture : t.tally.capture = (s.freeze w).tally.capture) (hk : k < 0x20000)
    (hopen : t.hall.tallyMask / 2 ^ slotGroup k % 2 ≠ 0) :
    t.slotValue k = if w.bit (slotGroup k) then s.counter k else t.counter k := by
  have hgroup := freezeGroups_contains w (slotGroup_lt hk)
  have hread : Tab.get 0 (s.freeze w).tally.capture k = if w.bit (slotGroup k) then s.counter k else 0 := by
    rw [← hgroup]
    exact Tab.get_filter s.tally.counters (fun i => (freezeGroups w).contains (slotGroup i)) k
  rw [State.slotValue_of_open hopen, hfrozen, hcapture, hread]
  show (if (freezeGroups w).contains (slotGroup k) then _ else _) = _
  rw [hgroup]
  split <;> rfl

/-! ### The counter window (R503) -/

variable {o : BitVec 20} (hp : s.pcie = true)
include hp

theorem exec_bar2LowRead_wide (ho : o.toNat % 8 = 0) :
    exec (.bar2LowRead o true) s = .next (s.emit (.data (words64 (s.slotValue (o.toNat / 8))))) := by
  refine (happen_of _ _ hp).trans ?_
  simp [ho]

theorem exec_bar2LowRead_low (ho : o.toNat % 8 = 0) :
    exec (.bar2LowRead o false) s =
      .next ((s.withTally { s.tally with latch := some (o.toNat / 8, s.slotValue (o.toNat / 8) / 2 ^ 32) }).emit
        (.data [w32 (s.slotValue (o.toNat / 8))])) := by
  refine (happen_of _ _ hp).trans ?_
  simp [ho]

theorem exec_bar2LowRead_high_latched {h : Nat} (ho : o.toNat % 8 = 4) (hl : s.tally.latch = some (o.toNat / 8, h)) :
    exec (.bar2LowRead o false) s = .next (s.emit (.data [w32 h])) := by
  refine (happen_of _ _ hp).trans ?_
  simp [ho, hl]

theorem exec_bar2LowRead_high (ho : o.toNat % 8 = 4) (hl : ∀ h, s.tally.latch ≠ some (o.toNat / 8, h)) :
    exec (.bar2LowRead o false) s = .next (s.emit (.data [w32 (s.slotValue (o.toNat / 8) / 2 ^ 32)])) := by
  refine (happen_of _ _ hp).trans ?_
  cases hlatch : s.tally.latch with
  | none => simp [ho]
  | some x =>
    obtain ⟨a, h⟩ := x
    have ha : a ≠ o.toNat / 8 := fun e => hl h (e ▸ hlatch)
    simp [ho, ha]

end

/-! ### After reset (R523) -/

/-- Of two things alike, each is the one. -/
theorem P2.get_alike {α : Type} (x : α) (p : Fin 2) : (⟨x, x⟩ : P2 α).get p = x := ite_self _

/-! ### The statements -/

/-- Settles O22: what the capture holds of a group of MASK, and the ways a slot is read. -/
theorem tallyFreezeCaptures : Obligations.TallyFreezeCaptures := by
  intro c s hp
  refine ⟨s.freeze (c.p 0), exec_tallyFreeze hp, s.only_withTally _, fun k => rfl, fun t k hfrozen hcapture hk =>
    ⟨State.slotValue_of_closed, fun hopen => ?_⟩⟩
  rw [State.slotValue_of_frozen hfrozen hcapture hk hopen]
  exact ⟨fun hmask => if_pos hmask, fun hmask => if_neg (by simp [hmask])⟩

/-- Settles O23, by the width and the half read. -/
theorem bar2ReadsAreConsistent : Obligations.Bar2ReadsAreConsistent :=
  ⟨rfl, fun _ => rfl, fun s _ hp => ⟨fun ho => ⟨exec_bar2LowRead_wide hp ho, _, exec_bar2LowRead_low hp ho, s.only_withTally _, rfl⟩,
    fun ho => ⟨fun _ => exec_bar2LowRead_high_latched hp ho, exec_bar2LowRead_high hp ho⟩⟩⟩

/-- Settles O36: each opcode's effect reads its counters as `State.counterWords` does. -/
theorem counterReadsAnswer : Obligations.CounterReadsAnswer := by
  refine ⟨?_, ?_, ?_, ?_, ?_, ?_, ?_, ?_, ?_, ?_, ?_, ?_, ?_, ?_, ?_, ?_⟩
  case refine_5 =>
    intro c s hp
    have hslot : loomCtr (if (c.p 0).bit 0 then 1 else 0) 0 = ctr 5 0 12 (b2n ((c.p 0).bit 0)) 0 := by
      cases (c.p 0).bit 0 <;> rfl
    exact exec_of_ok rfl hp (congrArg (fun k => (Reply.ok (s.counterWords k 12), s)) hslot)
  all_goals exact fun c s hp => exec_of_ok rfl hp rfl

/-- Settles O3: every field of the state after reset computes; the tables read alike at every number. -/
theorem resetReadyWithTrafficOff : Obligations.ResetReadyWithTrafficOff := by
  refine ⟨by decide, by decide, fun k => rfl, fun p => ?ports, fun g l => ?client, fun l => ⟨rfl, rfl⟩, fun k => ⟨rfl, rfl, rfl⟩,
    fun d n => ?loom, fun f => ⟨rfl, rfl⟩, fun c => ?cand, fun d => rfl, fun i g hi => ?filter, rfl, rfl, rfl, rfl, rfl,
    fun k => rfl, rfl, by decide⟩
  case ports => match p with
    | 0 => exact ⟨rfl, rfl, rfl⟩
    | 1 => exact ⟨rfl, rfl, rfl⟩
  case client => match g with
    | 0 => exact ⟨rfl, rfl⟩
    | 1 => exact ⟨rfl, rfl⟩
  case loom => match d with
    | 0 => exact ⟨rfl, rfl⟩
    | 1 => exact ⟨rfl, rfl⟩
  case cand => rfl
  case filter =>
    rw [show State.reset.clerk.ev = ⟨EvBuf.reset, EvBuf.reset⟩ from rfl, P2.get_alike]
    rfl

end Sys2Proof.Machine
end

section
/-!
PROOFS. HIER after what leaves it alone (spec/01, spec/17): events and HEALTH change no block, region, pair, SRAM word, injection or
sweep; the pairs of the chip level (R467 to R471), and the statement about them.
-/

set_option Elab.async false

namespace Sys2Proof.Machine

/-! ### What neither events nor HEALTH change -/

/-- The hierarchy without the fault log and HEALTH, which events and HEALTH write. -/
def Hier.core (h : Hier) : Hier := { h with health := 0, healthTime := 0, logSeq := 0, log := [] }

section
variable (s : State)

@[simp] theorem State.hier_bump (k n : Nat) : (s.bump k n).hier = s.hier := rfl

@[simp] theorem State.core_raise (code sev ha data : Nat) : (s.raise code sev ha data).hier.core = s.hier.core := by
  rw [State.raise_hier]
  rfl

@[simp] theorem State.core_refreshHealth : s.refreshHealth.hier.core = s.hier.core := by
  rw [State.refreshHealth_hier]
  rfl

@[simp] theorem State.core_refreshFec : s.refreshFec.hier.core = s.hier.core := by
  refine (apply_ite (fun u : State => u.hier.core) _ _ _).trans ?_
  rw [State.core_raise, State.withFec_hier, ite_self]

@[simp] theorem State.core_refreshCiphWay (d : Way) : (s.refreshCiphWay d).hier.core = s.hier.core := by
  refine (apply_ite (fun u : State => u.hier.core) _ _ _).trans ?_
  rw [State.core_raise, State.withFlow_hier, ite_self]

@[simp] theorem State.core_refreshPools : s.refreshPools.hier.core = s.hier.core := by
  rw [State.refreshPools, State.core_refreshCiphWay, State.core_refreshCiphWay, State.core_refreshFec]

@[simp] theorem State.core_afterFault : s.afterFault.hier.core = s.hier.core := by
  rw [State.afterFault, State.core_refreshHealth, State.core_refreshPools]

@[simp] theorem State.core_endJob (num status : Nat) (ws : List Word) : (s.endJob num status ws).hier.core = s.hier.core := by
  unfold State.endJob
  split
  · rfl
  · rw [State.core_raise]
    rfl

@[simp] theorem State.core_evExhausted (level ha : Nat) : (evExhausted level ha s).hier.core = s.hier.core :=
  s.core_raise _ _ _ _

@[simp] theorem State.core_evCtlSwap (cause active : Nat) : (evCtlSwap cause active s).hier.core = s.hier.core :=
  s.core_raise _ _ _ _

end

/-! ### What is read of the rest -/

/-- What is read of the hierarchy without the fault log and HEALTH is read of it. -/
theorem Hier.eq_of_core {α : Type} (f : Hier → α) (hf : ∀ x : Hier, f x.core = f x) {x y : Hier} (h : x.core = y.core) :
    f x = f y := by
  rw [← hf x, h, hf y]

section
variable {s t : State} (h : t.hier.core = s.hier.core)
include h

theorem State.ctlActive_of_core : t.hier.ctlActive = s.hier.ctlActive := Hier.eq_of_core (fun x => x.ctlActive) (fun _ => rfl) h
theorem State.ctlStandby_of_core : t.hier.ctlStandby = s.hier.ctlStandby := Hier.eq_of_core (fun x => x.ctlStandby) (fun _ => rfl) h
theorem State.inject_of_core : t.hier.inject = s.hier.inject := Hier.eq_of_core (fun x => x.inject) (fun _ => rfl) h
theorem State.chip_of_core : t.hier.chip = s.hier.chip := Hier.eq_of_core (fun x => x.chip) (fun _ => rfl) h

theorem State.chipPair_of_core (sup : Bool) : t.chipPair sup = s.chipPair sup := by
  rw [State.chipPair, State.chip_of_core h, State.chipPair]

theorem State.block_of_core (r b : Nat) : t.block r b = s.block r b :=
  Hier.eq_of_core (fun x => (Tab.get none x.blocks (r * 64 + b)).getD (Block.initial r b)) (fun _ => rfl) h

theorem State.region_of_core (r : Nat) : t.region r = s.region r :=
  Hier.eq_of_core (fun x => (Tab.get none x.regions r).getD (Region.initial r)) (fun _ => rfl) h

theorem State.sram_of_core (ha : Nat) : t.sram ha = s.sram ha :=
  Hier.eq_of_core (fun x => Tab.get ({} : Sram) x.sram ha) (fun _ => rfl) h

end

/-! ### Pairs (R468 to R470) -/

section
variable {s : State} {sup : Bool}

theorem State.chipPair_setChip (s : State) (sup x : Bool) (v : ChipPair) :
    (s.setChip sup v).chipPair x = if x = sup then v else s.chipPair x := by
  cases sup <;> cases x <;> rfl

/-- A chip pair changes, an event may be raised, and HEALTH is evaluated again. -/
theorem State.chipPair_changed {t : State} {v : ChipPair} (h : t.hier.core = (s.setChip sup v).hier.core) :
    t.refreshHealth.chipPair sup = v ∧ t.refreshHealth.chipPair (!sup) = s.chipPair (!sup) ∧
      t.refreshHealth.hier.health = t.refreshHealth.healthNow := by
  have hcore : t.refreshHealth.hier.core = (s.setChip sup v).hier.core := t.core_refreshHealth.trans h
  rw [State.chipPair_of_core hcore, State.chipPair_of_core hcore, State.chipPair_setChip, State.chipPair_setChip,
    if_pos rfl, if_neg (by simp)]
  exact ⟨rfl, rfl, State.health_refreshHealth⟩

theorem exec_chipPairMismatch (hl : s.live = true) (hst : (s.chipPair sup).standby = 0) :
    exec (.chipPairMismatch sup) s = .next (((s.setChip sup ⟨1 - (s.chipPair sup).active, 1⟩).raise 0x0F07 3 clerkHa
      ((if sup then 3 else 2) * 2 ^ 28 + 2 ^ 24 + (1 - (s.chipPair sup).active))).refreshHealth) :=
  happen_of _ _ (by simp [hl, hst])

/-- What follows the test of a pair: nothing more where it passed, exhaustion reported where it failed. -/
theorem State.core_tested (ok : Bool) (ha : Nat) (t : State) :
    (if ok then t else evExhausted 3 ha t).hier.core = t.hier.core := by
  cases ok
  · exact t.core_evExhausted _ _
  · rfl

theorem exec_chipPairTestDone (hl : s.live = true) (ok : Bool) (hst : (s.chipPair sup).standby = 1) :
    exec (.chipPairTestDone sup ok) s =
      .next ((if ok then s.setChip sup { s.chipPair sup with standby := if ok then 0 else 2 }
        else evExhausted 3 clerkHa (s.setChip sup { s.chipPair sup with standby := if ok then 0 else 2 })).refreshHealth) :=
  happen_of _ _ (by simp [hl, hst])

/-- The state in which the standby control pair is in test. -/
def State.testStandby (s : State) : State := s.withHier { s.hier with ctlStandby := 1 }

/-- The state with the control pairs' roles exchanged. -/
def State.otherPair (s : State) : State := s.withHier { s.hier with ctlActive := 1 - s.hier.ctlActive, ctlStandby := 1 }

theorem State.core_swapPairs (s : State) (cause : Nat) : (s.swapPairs cause).hier.core = s.otherPair.hier.core :=
  State.core_evCtlSwap _ _ _

/-- The control pairs of a state after one that fixes them, with HEALTH evaluated again. -/
theorem State.pairs_refreshHealth {t u : State} (h : t.hier.core = u.hier.core) :
    t.refreshHealth.hier.ctlActive = u.hier.ctlActive ∧ t.refreshHealth.hier.ctlStandby = u.hier.ctlStandby ∧
      t.refreshHealth.hier.health = t.refreshHealth.healthNow := by
  have hcore : t.refreshHealth.hier.core = u.hier.core := t.core_refreshHealth.trans h
  exact ⟨State.ctlActive_of_core hcore, State.ctlStandby_of_core hcore, State.health_refreshHealth⟩

theorem exec_controlPairSwap_active (hl : s.live = true) (hst : s.hier.ctlStandby = 0) :
    exec (.controlPairSwap false) s = .next (s.swapPairs 1).refreshHealth :=
  happen_of _ _ (by simp [hl, State.pairReady, hst])

theorem exec_controlPairSwap_standby (hl : s.live = true) (hst : s.hier.ctlStandby = 0) :
    exec (.controlPairSwap true) s = .next s.testStandby.refreshHealth :=
  happen_of _ _ (by simp [hl, State.pairReady, hst])

theorem exec_pairTestDone (hl : s.live = true) (ok : Bool) (hst : s.hier.ctlStandby = 1) (hh : s.serv.handover = none) :
    exec (.pairTestDone ok) s =
      .next ((if ok then s.withHier { s.hier with ctlStandby := if ok then 0 else 2 }
        else evExhausted 3 (haOf 0 (1 - s.hier.ctlActive) 0x3F)
          (s.withHier { s.hier with ctlStandby := if ok then 0 else 2 })).refreshHealth) :=
  happen_of _ _ (by simp [hl, hst, hh])

theorem exec_lonePairRestart (hl : s.live = true) (hst : s.hier.ctlStandby ≠ 0) :
    exec .lonePairRestart s = .next (evCtlSwap 4 s.hier.ctlActive s) :=
  happen_of _ _ (by simp [hl, State.pairReady, hst])

end

/-! ### The statement -/

/-- Settles O33: each happening puts its pair, and HEALTH evaluated again leaves the pairs as they are. -/
theorem pairsOfTheChipLevel : Obligations.PairsOfTheChipLevel := by
  refine ⟨fun s sup hl => ⟨fun hst => ⟨_, exec_chipPairMismatch hl hst, State.chipPair_changed (State.core_raise _ _ _ _ _)⟩,
      fun ok hst => ⟨_, exec_chipPairTestDone hl ok hst, State.chipPair_changed (State.core_tested _ _ _)⟩⟩,
    fun s hl => ⟨fun hst => ⟨⟨_, exec_controlPairSwap_active hl hst, ?active⟩, _, exec_controlPairSwap_standby hl hst, ?standby⟩,
      fun ok hst hh => ⟨_, exec_pairTestDone hl ok hst hh, ?tested⟩, fun hst => exec_lonePairRestart hl hst⟩⟩
  case active =>
    obtain ⟨hactive, hstandby, hhealth⟩ := State.pairs_refreshHealth (s.core_swapPairs 1)
    exact ⟨hactive, hstandby, by rw [State.pairReady, hstandby]; rfl, hhealth⟩
  case standby => exact State.pairs_refreshHealth (t := s.testStandby) rfl
  case tested =>
    obtain ⟨hactive, hstandby, hhealth⟩ := State.pairs_refreshHealth (State.core_tested ok (haOf 0 (1 - s.hier.ctlActive) 0x3F)
      (s.withHier { s.hier with ctlStandby := if ok then 0 else 2 }))
    exact ⟨hstandby, hactive, hhealth⟩

end Sys2Proof.Machine
end

section
/-!
PROOFS. Assay's telemetry (spec/15 R429 to R435): its tables read after a put, what its triggers, sequences, results and windows
leave, and the statement about them.
-/

set_option Elab.async false

namespace Sys2Proof.Machine

/-! ### What keeps Assay's state -/

theorem Keeps.assay_eq {cs : List Comp} {s t : State} (h : Keeps cs s t) (hassay : .assay ∉ cs) : t.assay = s.assay :=
  h.frame .assay hassay

section
variable (s : State)

@[simp] theorem State.assay_bump (k n : Nat) : (s.bump k n).assay = s.assay := rfl

@[simp] theorem State.assay_take : s.take.2.assay = s.assay := rfl

@[simp] theorem State.assay_raise (code sev ha data : Nat) : (s.raise code sev ha data).assay = s.assay :=
  (State.raise_keeps (cs := [.clerk, .hier, .tally]) (Keeps.refl s)).assay_eq (by decide)

@[simp] theorem State.assay_raiseLimited (key period code sev ha : Nat) (mk : Nat → Nat) :
    (s.raiseLimited key period code sev ha mk).assay = s.assay :=
  (State.raiseLimited_keeps (cs := [.clerk, .hier, .tally]) (Keeps.refl s)).assay_eq (by decide)

/-! ### Tables after a put -/

theorem State.timer_setTimer (c : Cmd) (t : Nat) : (setTimer c s).timer t =
    if t = (c.p 0).fld 31 29 then ⟨(c.p 0).bit 28, (c.p 0).fld 23 0⟩ else s.timer t :=
  Tab.get_set _ _ _

theorem State.source_updSource (k j : Nat) (f : AsSource → AsSource) :
    (s.updSource k f).source j = if j = k then f (s.source k) else s.source j :=
  Tab.get_set _ _ _

theorem State.source_updSource_same (k : Nat) (f : AsSource → AsSource) : (s.updSource k f).source k = f (s.source k) :=
  (s.source_updSource k k f).trans (if_pos rfl)

theorem State.chan_updChan (k j : Nat) (f : AsChan → AsChan) :
    (s.updChan k f).chan j = if j = k then f (s.chan k) else s.chan j :=
  Tab.get_set _ _ _

theorem State.chan_updChan_same (k : Nat) (f : AsChan → AsChan) : (s.updChan k f).chan k = f (s.chan k) :=
  (s.chan_updChan k k f).trans (if_pos rfl)

theorem State.pwm_updPwm (l j : Nat) (f : AsPwm → AsPwm) :
    (s.updPwm l f).pwm j = if j = l then f (s.pwm l) else s.pwm j :=
  Tab.get_set _ _ _

theorem State.bias_updBias (l j : Nat) (f : AsBias → AsBias) :
    (s.updBias l f).bias j = if j = l then f (s.bias l) else s.bias j :=
  Tab.get_set _ _ _

end

/-! ### Settings (R430, R433, R434) -/

/-- A table that changes at the number `i` alone, put as the statements have it. -/
theorem ite_of_same {α : Type} {f g : Nat → α} {i : Nat} {h : α → α} (hf : ∀ j, f j = if j = i then h (g i) else g j) (j : Nat) :
    f j = if j = i then h (g j) else g j := by
  rw [hf]
  split
  · next hj => rw [hj]
  · rfl

/-- A preset that takes over changes the filter in force and the cross-fade alone. -/
theorem AsChan.take_eq (x : AsChan) : x.take = { x with filterNow := x.take.filterNow, fade := x.take.fade } := by
  unfold AsChan.take
  split <;> rfl

/-- The channel set, with the preset in force left open. -/
theorem State.chan_setChan (c : Cmd) (s : State) : ∃ (now : Nat) (fade : Option (Nat × Nat)),
    (setChan c s).chan ((c.p 0).fld 31 25) = { s.chan ((c.p 0).fld 31 25) with
      filter := (c.p 0).fld 24 23, window := (c.p 0).bit 22, hyst := (c.p 0).fld 13 0, low := (c.p 1).fld 29 16,
      high := (c.p 1).fld 13 0, filterNow := now, fade := fade,
      out := (s.chan ((c.p 0).fld 31 25)).out && decide ((c.p 1).fld 29 16 = (s.chan ((c.p 0).fld 31 25)).low ∧
        (c.p 1).fld 13 0 = (s.chan ((c.p 0).fld 31 25)).high ∧ (c.p 0).fld 13 0 = (s.chan ((c.p 0).fld 31 25)).hyst) } :=
  ⟨_, _, (s.chan_updChan_same _ _).trans (AsChan.take_eq _)⟩

/-! ### Triggers (R430, R431) -/

section
variable {s : State} {k : Nat}

/-- A source fires without a sequence: the firing counts alone. -/
theorem State.source_fire_of_nil (h : s.seqOf k = []) : (s.fire k).source k = { s.source k with fired := (s.source k).fired + 1 } := by
  simp [State.fire, h, State.source_updSource_same]

/-- A source fires with no trigger in hand: the trigger is in hand, and its delay runs. -/
theorem State.source_fire_of_free (h : s.seqOf k ≠ []) (hhand : (s.source k).hand = false) : (s.fire k).source k =
    { s.source k with fired := (s.source k).fired + 1, hand := true, delaying := true } := by
  simp [State.fire, h, hhand, State.source_updSource_same]

theorem State.counter_raiseLimited_of_ne {j key period code sev ha : Nat} {mk : Nat → Nat} (s : State) (hcode : j ≠ evCtr code)
    (hproto : ∀ (i : Iface) (n : Nat), n < 9 → j ≠ protoCtr i n) :
    (s.raiseLimited key period code sev ha mk).counter j = s.counter j := by
  unfold State.raiseLimited
  dsimp only
  split
  · rfl
  · exact State.counter_raise_of_ne _ _ _ _ hcode hproto

theorem assayCtr_ne_protoCtr {j n : Nat} (i : Iface) (hj : j < 12) (hn : n < 9) : assayCtr j ≠ protoCtr i n := by
  have hi := i.isLt
  unfold assayCtr protoCtr ctr
  omega

/-- A source fires with a trigger in hand: an overrun is counted. -/
theorem State.fire_of_hand (h : s.seqOf k ≠ []) (hhand : (s.source k).hand = true) :
    (s.fire k).source k = { s.source k with fired := (s.source k).fired + 1 } ∧
      (s.fire k).counter (assayCtr 4) = (s.counter (assayCtr 4) + 1) % 2 ^ 48 := by
  unfold State.fire
  dsimp only
  rw [if_neg (by simpa using h), if_pos hhand]
  constructor
  · rw [State.source, State.assay_raiseLimited]
    exact s.source_updSource_same k fun x => { x with fired := x.fired + 1 }
  · rw [State.counter_raiseLimited_of_ne _ (by decide) fun i n hn => assayCtr_ne_protoCtr i (by decide) hn,
      State.counter_bump_of_ne _ _ (by decide), State.counter_bump_same]
    rfl

theorem exec_pwmPeriodStart {l : Fin 24} (hl : s.live = true) (hon : (s.pwm l.val).enable = true) :
    exec (.pwmPeriodStart l) s =
      .next ((s.updPwm l.val fun x => { x with periodNow := x.period }).fire (8 + l.val)) :=
  happen_of _ _ (by rw [hl, hon]; rfl)

/-! ### Sequences (R431) -/

theorem State.source_startSeq : (s.startSeq k).source k = { s.source k with hand := false, delaying := false } :=
  s.source_updSource_same k fun x => { x with hand := false, delaying := false }

theorem exec_triggerDelayEnd_idle {k : Fin 33} (hl : s.live = true) (hdelay : (s.source k.val).delaying = true)
    (hrun : s.assay.running = none) : exec (.triggerDelayEnd k) s = .next ((s.startSeq k.val).bump (assayCtr 2) 1) := by
  refine (happen_of _ _ (by rw [hl, hdelay]; rfl)).trans ?_
  rw [hrun]

theorem exec_triggerDelayEnd_busy {k : Fin 33} {r : Nat} (hl : s.live = true) (hdelay : (s.source k.val).delaying = true)
    (hrun : s.assay.running = some r) : exec (.triggerDelayEnd k) s =
      .next ((s.updSource k.val fun x => { x with delaying := false }).withAssay
        { (s.updSource k.val fun x => { x with delaying := false }).assay with
          pending := s.assay.pending ++ [(s.converterClock, k.val)] }) := by
  refine (happen_of _ _ (by rw [hl, hdelay]; rfl)).trans ?_
  rw [hrun]
  rfl

/-- The comparison of the junction channels writes its own alarm alone. -/
theorem State.assay_judgeJunctions : s.judgeJunctions.assay = { s.assay with tempOut := s.judgeJunctions.assay.tempOut } := by
  unfold State.judgeJunctions
  cases extreme s.junctions with
  | none => rfl
  | some e =>
    dsimp only
    split
    · rfl
    · simp only [State.assay_raise]
      split <;> rfl

/-- The state in which the next sequence is chosen: the internal scan has compared the junction channels. -/
def State.seqEnded (k : Nat) (s : State) : State := if k = 32 then s.judgeJunctions else s

theorem State.pending_seqEnded : (s.seqEnded k).assay.pending = s.assay.pending := by
  unfold State.seqEnded
  split
  · rw [State.assay_judgeJunctions]
  · rfl

theorem exec_sequenceEnd_idle (hl : s.live = true) (hrun : s.assay.running = some k) (hnext : nextPending s.assay.pending = none) :
    exec .sequenceEnd s = .next ((s.seqEnded k).withAssay { (s.seqEnded k).assay with running := none }) := by
  rw [← State.pending_seqEnded (k := k)] at hnext
  show execSequenceEnd s = _
  unfold execSequenceEnd
  rw [hrun]
  refine (happen_of _ _ hl).trans ?_
  unfold State.seqEnded at hnext ⊢
  rw [hnext]

theorem exec_sequenceEnd_next {e : Nat × Nat} (hl : s.live = true) (hrun : s.assay.running = some k)
    (hnext : nextPending s.assay.pending = some e) : exec .sequenceEnd s =
      .next ((((s.seqEnded k).withAssay { (s.seqEnded k).assay with
        pending := dropFirst (· == e) (s.seqEnded k).assay.pending }).startSeq e.2).bump (assayCtr 3) 1) := by
  rw [← State.pending_seqEnded (k := k)] at hnext
  show execSequenceEnd s = _
  unfold execSequenceEnd
  rw [hrun]
  refine (happen_of _ _ hl).trans ?_
  unfold State.seqEnded at hnext ⊢
  rw [hnext]

/-! ### Results and windows (R432 to R434) -/

/-- Whether a channel's window alarm stands after its value `v` is compared (R434). -/
def AsChan.outAt (x : AsChan) (v : Nat) : Bool :=
  if x.window = false then x.out
  else if x.out = false then decide (v < 4 * x.low) || decide (4 * x.high < v)
  else !(decide (4 * x.low + 4 * x.hyst ≤ v) && decide (v + 4 * x.hyst ≤ 4 * x.high))

section
variable {x : AsChan} {v : Nat} (hwin : ¬(!x.window) = true)
include hwin

theorem AsChan.outAt_of_leaves (hbad : (!x.out && (decide (v < 4 * x.low) || decide (4 * x.high < v))) = true) :
    x.outAt v = true := by
  simp_all [AsChan.outAt]

theorem AsChan.outAt_of_returns
    (hgood : (x.out && decide (4 * x.low + 4 * x.hyst ≤ v) && decide (v + 4 * x.hyst ≤ 4 * x.high)) = true) :
    x.outAt v = false := by
  simp_all [AsChan.outAt]

theorem AsChan.outAt_of_stays (hbad : ¬(!x.out && (decide (v < 4 * x.low) || decide (4 * x.high < v))) = true)
    (hgood : ¬(x.out && decide (4 * x.low + 4 * x.hyst ≤ v) && decide (v + 4 * x.hyst ≤ 4 * x.high)) = true) :
    x.outAt v = x.out := by
  cases ho : x.out <;> simp_all [AsChan.outAt, imp_iff_not_or]

end

theorem State.chan_raise (code sev ha data c : Nat) : (s.raise code sev ha data).chan c = s.chan c := by
  rw [State.chan, State.assay_raise, State.chan]

/-- The comparison leaves the channel with its alarm as its window says. -/
theorem State.chan_compare {c v : Nat} (hv : (s.chan c).value = some v) :
    (s.compare c).chan c = { s.chan c with out := (s.chan c).outAt v } := by
  have hkeep (h : (s.chan c).outAt v = (s.chan c).out) : s.chan c = { s.chan c with out := (s.chan c).outAt v } := by rw [h]
  unfold State.compare
  dsimp only
  split
  · next hnone => simp [hv] at hnone
  · next w hw =>
    obtain rfl : v = w := Option.some.inj (hv.symm.trans hw)
    split
    · next hwin => exact hkeep (if_pos (by simpa using hwin))
    · next hwin =>
      split
      · next hbad =>
        rw [State.chan_raise, AsChan.outAt_of_leaves hwin hbad]
        exact s.chan_updChan_same c fun x => { x with out := true }
      · next hbad =>
        split
        · next hgood =>
          rw [AsChan.outAt_of_returns hwin hgood]
          exact s.chan_updChan_same c fun x => { x with out := false }
        · next hgood => exact hkeep (AsChan.outAt_of_stays hwin hbad hgood)

section
variable {ch : Fin 96} (hl : s.live = true) (hrun : s.assay.running = some k) (hon : (s.seqOf k).contains ch.val = true)
include hl hon

/-- A result of the running sequence is taken. -/
theorem exec_conversionResult (code : BitVec 14) (fo : Option (BitVec 16 × BitVec 16)) {t : State}
    (h : execConversionResult ch code fo s = happen (s.live && (s.seqOf k).contains ch.val) s t) :
    exec (.conversionResult ch code fo) s = .next t :=
  h.trans (happen_of _ _ (by rw [hl, hon]; rfl))

include hrun

theorem exec_conversionResult_direct (code : BitVec 14) (fo : Option (BitVec 16 × BitVec 16)) (hf : (s.chan ch.val).filterNow = 0) :
    exec (.conversionResult ch code fo) s = .next (((s.bump (assayCtr 0) 1).updChan ch.val fun x =>
      { x with value := some (4 * code.toNat), filtered := false }).compare ch.val) :=
  exec_conversionResult hl hon code fo (by unfold execConversionResult; rw [hrun]; simp only [hf, if_true])

theorem exec_conversionResult_filtered (code : BitVec 14) {new old : BitVec 16} (hf : (s.chan ch.val).filterNow ≠ 0)
    (hfade : (s.chan ch.val).fade = none) : exec (.conversionResult ch code (some (new, old))) s =
      .next (((s.bump (assayCtr 0) 1).updChan ch.val fun x => { x with value := some new.toNat, filtered := true }).compare ch.val) :=
  exec_conversionResult hl hon code _ (by unfold execConversionResult; rw [hrun]; simp only [hf, hfade, if_false])

theorem exec_conversionResult_none (code : BitVec 14) (hf : (s.chan ch.val).filterNow ≠ 0) :
    exec (.conversionResult ch code none) s = .next (s.bump (assayCtr 0) 1) :=
  exec_conversionResult hl hon code _ (by unfold execConversionResult; rw [hrun]; simp only [hf, if_false])

end
end

/-! ### The statement -/

/-- Settles O57: settings put their entry; a source that fires, a delay or sequence that ends and a result that arrives leave Assay's
tables by their cases. -/
theorem assayTelemetryActs : Obligations.AssayTelemetryActs := by
  refine ⟨fun c s hp => ⟨_, exec_of_ok (op := assayTimerSetOp) rfl hp rfl, s.timer_setTimer c⟩,
    fun c s hp => ⟨_, exec_of_ok (op := assaySeqSetOp) rfl hp rfl, ite_of_same fun j => s.source_updSource _ j _⟩,
    fun c s hp => ⟨_, exec_of_ok (op := assayChanSetOp) rfl hp rfl, fun k hk => (s.chan_updChan _ k _).trans (if_neg hk), ?chanSet⟩,
    fun c s hp => ⟨_, exec_of_ok (op := assayPwmSetOp) rfl hp rfl, ite_of_same fun j => s.pwm_updPwm _ j _⟩,
    fun c s hp => ⟨_, exec_of_ok (op := assayBiasSetOp) rfl hp rfl, ?biasSet⟩,
    fun s t hl hon => happen_of _ _ (by rw [hl, hon]; rfl),
    fun s l hl hon => ⟨_, exec_pwmPeriodStart hl hon, (s.pwm_updPwm _ _ _).trans (if_pos rfl), fun _ => rfl⟩,
    fun s hl => happen_of _ _ hl,
    fun s k => ⟨State.source_fire_of_nil, State.source_fire_of_free, State.fire_of_hand⟩, ?delay, ?ended, ?result⟩
  case chanSet =>
    obtain ⟨now, fade, h⟩ := State.chan_setChan c s
    refine h ▸ ⟨rfl, rfl, rfl, rfl, rfl, rfl, ?_⟩
    simp
  case biasSet =>
    refine fun l => (s.bias_updBias _ l _).trans ?_
    split
    · next h => rw [h]
    · rfl
  case delay =>
    intro s k hl hdelay
    cases hrun : s.assay.running with
    | none =>
      exact ⟨_, exec_triggerDelayEnd_idle hl hdelay hrun, congrArg AsSource.delaying State.source_startSeq,
        fun _ => ⟨rfl, congrArg AsSource.hand State.source_startSeq⟩, nofun⟩
    | some r =>
      exact ⟨_, exec_triggerDelayEnd_busy hl hdelay hrun, congrArg AsSource.delaying (s.source_updSource_same k.val fun x => { x with delaying := false }), nofun,
        fun r' hr' => ⟨hrun.trans hr', rfl⟩⟩
  case ended =>
    intro s k hl hrun
    cases hnext : nextPending s.assay.pending with
    | none => exact ⟨_, exec_sequenceEnd_idle hl hrun hnext, fun _ => rfl, nofun⟩
    | some e =>
      refine ⟨_, exec_sequenceEnd_next hl hrun hnext, fun hnil => ?_, fun e' he' => ?_⟩
      · rw [hnil] at hnext
        cases hnext
      · cases he'
        exact ⟨rfl, congrArg (dropFirst _) State.pending_seqEnded⟩
  case result =>
    intro s ch code fo k hl hrun hon
    refine ⟨fun hf => ⟨_, exec_conversionResult_direct hl hrun hon code fo hf, ?_⟩, fun hf hfade new old hfo => ?_, fun hf hfo => ?_⟩
    · have hx := (s.bump (assayCtr 0) 1).chan_updChan_same ch.val fun x => { x with value := some (4 * code.toNat), filtered := false }
      rw [State.chan_compare (v := 4 * code.toNat) (by rw [hx]), hx]
      exact ⟨rfl, rfl, rfl⟩
    · subst hfo
      have hx := (s.bump (assayCtr 0) 1).chan_updChan_same ch.val fun x => { x with value := some new.toNat, filtered := true }
      refine ⟨_, exec_conversionResult_filtered hl hrun hon code hf hfade, ?_⟩
      rw [State.chan_compare (v := new.toNat) (by rw [hx]), hx]
      exact ⟨rfl, rfl⟩
    · subst hfo
      exact exec_conversionResult_none hl hrun hon code hf

end Sys2Proof.Machine
end

section
/-!
PROOFS. Assay's loops (spec/15 R436 to R442): bias loops and their alarms, calibrations, quality records, the pace monitor and the
supply, and the statement about them.
-/

set_option Elab.async false

namespace Sys2Proof.Machine

/-! ### What keeps Assay's state -/

section
variable (s : State)

@[simp] theorem State.assay_refreshHealth : s.refreshHealth.assay = s.assay :=
  (State.refreshHealth_keeps (cs := [.clerk, .hier, .tally]) (Keeps.refl s)).assay_eq (by decide)

@[simp] theorem State.assay_endJob (num status : Nat) (ws : List Word) : (s.endJob num status ws).assay = s.assay :=
  (State.endJob_keeps (cs := [.clerk, .hier, .tally]) (Keeps.refl s)).assay_eq (by decide)

@[simp] theorem State.assay_evCalDone (kind cause failed : Nat) (applied : Bool) :
    (evCalDone kind cause applied failed s).assay = s.assay :=
  s.assay_raise _ _ _ _

@[simp] theorem State.assay_evPace (cause : Nat) : (evPace cause s).assay = s.assay :=
  s.take.2.assay_raise _ _ _ _

@[simp] theorem State.assay_clientFault (g : Fin 2) (l : Nat) (adc : Bool) : (s.clientFault g l adc).assay = s.assay :=
  (State.clientFault_keeps (cs := [.free, .clerk, .hier, .tally, .flow, .lanes]) (Keeps.refl s)).assay_eq (by decide)

@[simp] theorem State.assay_hostFault (l : Nat) (rx : Bool) : (s.hostFault l rx).assay = s.assay :=
  (State.hostFault_keeps (cs := [.free, .clerk, .hier, .tally, .flow, .lanes]) (Keeps.refl s)).assay_eq (by decide)

theorem State.bias_updBias_same (l : Nat) (f : AsBias → AsBias) : (s.updBias l f).bias l = f (s.bias l) :=
  (s.bias_updBias l l f).trans (if_pos rfl)

theorem State.bias_raise (code sev ha data l : Nat) : (s.raise code sev ha data).bias l = s.bias l := by
  rw [State.bias, State.assay_raise, State.bias]

end

/-! ### Bias loops (R436) -/

section
variable {s : State} {l : Fin 24}

theorem exec_biasLoopUpdate (hl : s.live = true) (hable : (s.bias l.val).able = true) (hpwm : (s.pwm l.val).enable = true)
    (hsweep : s.sweeping l.val = false) (plus minus : Nat) {v : Rat × Rat} (hv : v = (s.bias l.val).update
      ((plus : Rat) / ((s.bias l.val).ditherPeriods : Rat)) ((minus : Rat) / ((s.bias l.val).ditherPeriods : Rat))) :
    exec (.biasLoopUpdate l plus minus) s = .next ((s.updBias l.val fun x => { x with
      d := if v.1 < (s.bias l.val).lo then (s.bias l.val).lo else if (s.bias l.val).hi < v.1 then (s.bias l.val).hi else v.1,
      clamped := v.1 < (s.bias l.val).lo || (s.bias l.val).hi < v.1, err := v.2 }).bump (assayCtr 9) 1) := by
  subst hv
  exact happen_of _ _ (by rw [hl, hable, hpwm, hsweep]; rfl)

theorem exec_biasAlarmHold_holds {cause : Fin 5} (hl : s.live = true) (hlo : 1 ≤ cause.val) (hhi : cause.val ≤ 3)
    (hable : (s.bias l.val).able = true) (hwrong : s.biasWrong l.val cause.val = true)
    (hnew : (s.bias l.val).alarms.contains cause.val = false) : exec (.biasAlarmHold l cause) s =
      .next ((s.updBias l.val fun x => { x with alarms := x.alarms ++ [cause.val] }).raise 0x0204 2 assayHa
        (cause.val * 2 ^ 28 + l.val)) := by
  show execBiasAlarmHold l cause s = _
  unfold execBiasAlarmHold
  dsimp only
  rw [if_neg (by omega), if_neg (by omega)]
  exact happen_of _ _ (by rw [hl, hable, hwrong, hnew]; rfl)

theorem exec_biasAlarmHold_clears {cause : Fin 5} (hl : s.live = true) (hcause : cause.val = 4) (hstand : (s.bias l.val).alarms ≠ [])
    (hfine : ∀ k, 1 ≤ k → k ≤ 3 → s.biasWrong l.val k = false) : exec (.biasAlarmHold l cause) s =
      .next ((s.updBias l.val fun x => { x with alarms := [] }).raise 0x0204 2 assayHa (4 * 2 ^ 28 + l.val)) := by
  show execBiasAlarmHold l cause s = _
  unfold execBiasAlarmHold
  dsimp only
  rw [if_neg (by omega), if_pos hcause]
  exact happen_of _ _ (by simp [hl, hstand, hfine])

end

/-! ### Calibrations (R437, R438) -/

section
variable (s : State)

/-- A run that ends leaves the list, whatever its causes. -/
theorem State.assay_calEnd (c : AsCal) (apply : Bool) (status : Nat) (causes : List (Nat × Nat)) (qn qo : Nat) :
    (s.calEnd c apply status causes qn qo).assay = { s.assay with cals := dropFirst (· == c) s.assay.cals } := by
  unfold State.calEnd
  dsimp only
  cases c.job with
  | some j => rw [State.assay_endJob, State.assay_evCalDone]; rfl
  | none => exact (apply_ite State.assay _ _ _).trans (by rw [State.assay_evCalDone, ite_self]; rfl)

theorem State.cals_calCommit (kind unit : Nat) (vs : List Int) : (s.calCommit kind unit vs).assay.cals = s.assay.cals := by
  unfold State.calCommit
  dsimp only
  split
  · rfl
  · split
    · split
      · split <;> rfl
      · rfl
    · rfl

/-- A kind other than LINE_DAC and BIAS_SWEEP commits its values and nothing else. -/
theorem State.calCommit_of_plain {kind : Nat} (h4 : kind ≠ 4) (h7 : kind ≠ 7) (unit : Nat) (vs : List Int) :
    s.calCommit kind unit vs = s.withAssay { s.assay with values := Tab.set [] s.assay.values (calKey kind unit) vs } := by
  simp [State.calCommit, h4, h7]

theorem State.assay_calFault (kind unit : Nat) (vs : List Int) : (s.calFault kind unit vs).assay = s.assay := by
  unfold State.calFault
  split
  · exact s.assay_clientFault _ _ _
  · split
    · exact s.assay_hostFault _ _
    · rfl

end

/-- What a run's measurement reports of a subject, and its values; without a result it has not converged. -/
def calFind (results : List (Nat × Nat × List Int)) (u : Nat) : Nat × List Int :=
  ((results.find? fun e => e.1 == u).map fun (e : Nat × Nat × List Int) => e.2).getD (3, [])

/-- The causes of a run by subject. -/
def calCauses (c : AsCal) (results : List (Nat × Nat × List Int)) : List (Nat × Nat) :=
  (calUnits c.kind c.subject).map fun u => (u, calCause c.kind (calFind results u).1 (calFind results u).2)

/-- One subject of a run that ends: committed, in fault, or left as it is. -/
def State.calSettle (c : AsCal) (results : List (Nat × Nat × List Int)) (s : State) (e : Nat × Nat) : State :=
  if e.2 = 0 then (if c.apply then s.calCommit c.kind e.1 (calFind results e.1).2 else s)
  else if e.2 = 1 then s.calFault c.kind e.1 (calFind results e.1).2 else s

/-- The state with a run's sweep noted. -/
def State.calSwept (c : AsCal) (results : List (Nat × Nat × List Int)) (s : State) : State :=
  if c.kind = 7 then s.updBias c.subject fun x => { x with sweep := some (sweepOf (calFind results c.subject).2) } else s

section
variable {s : State} {c : AsCal} {res : List (Nat × Nat × List Int)} {n qn qo : Nat}

theorem exec_calRunDone (hl : s.live = true) (hn : s.assay.cals[n]? = some c) : exec (.calRunDone n res qn qo) s =
    .next (if !s.calReady c.kind c.subject then s.calInterrupt c stFault
      else ((calCauses c res).foldl (State.calSettle c res) (s.calSwept c res)).calEnd c c.apply stOk (calCauses c res) qn qo) := by
  show execCalRunDone n res qn qo s = _
  unfold execCalRunDone
  rw [hn]
  exact happen_of _ _ hl

theorem State.cals_calSettle (s : State) (e : Nat × Nat) : (s.calSettle c res e).assay.cals = s.assay.cals := by
  unfold State.calSettle
  split
  · split
    · exact s.cals_calCommit _ _ _
    · rfl
  · split
    · rw [State.assay_calFault]
    · rfl

theorem State.cals_calSwept (s : State) : (s.calSwept c res).assay.cals = s.assay.cals := by
  unfold State.calSwept
  split <;> rfl

theorem State.cals_calRunDone : (if !s.calReady c.kind c.subject then s.calInterrupt c stFault
      else ((calCauses c res).foldl (State.calSettle c res) (s.calSwept c res)).calEnd c c.apply stOk (calCauses c res) qn qo).assay.cals =
    dropFirst (· == c) s.assay.cals := by
  split
  · rw [State.calInterrupt, State.assay_calEnd]
  · have hsettled : ((calCauses c res).foldl (State.calSettle c res) (s.calSwept c res)).assay.cals = s.assay.cals :=
      List.foldlRecOn (motive := fun u : State => u.assay.cals = s.assay.cals) _ _ (State.cals_calSwept s)
        fun u hu e _ => (State.cals_calSettle u e).trans hu
    rw [State.assay_calEnd, hsettled]

/-- The one subject of VT_MONITOR is settled by its own result. -/
theorem State.values_calRunDone {said : Nat} {vs : List Int} (hkind : c.kind = 1) (happly : c.apply = true)
    (hres : res.find? (fun e => e.1 == 0) = some (0, said, vs)) :
    (if !s.calReady c.kind c.subject then s.calInterrupt c stFault
      else ((calCauses c res).foldl (State.calSettle c res) (s.calSwept c res)).calEnd c c.apply stOk (calCauses c res) qn qo).assay.values =
    if calCause 1 said vs = 0 then Tab.set [] s.assay.values (calKey 1 0) vs else s.assay.values := by
  have hfind : calFind res 0 = (said, vs) := by rw [calFind, hres]; rfl
  have hcauses : calCauses c res = [(0, calCause 1 said vs)] := by
    rw [calCauses, hkind, ← show (calFind res 0).1 = said by rw [hfind], ← show (calFind res 0).2 = vs by rw [hfind]]
    rfl
  have hready : s.calReady c.kind c.subject = true := by rw [hkind]; rfl
  have hswept : s.calSwept c res = s := if_neg (by omega)
  rw [hready, if_neg (by decide), State.assay_calEnd, hcauses, hswept, List.foldl_cons, List.foldl_nil]
  unfold State.calSettle
  split
  · rw [hkind, State.calCommit_of_plain _ (by decide) (by decide), hfind]
    rfl
  · split
    · rw [State.assay_calFault]
    · rfl

/-! ### Background runs (R437) -/

/-- A subject of a background run: started where its precondition holds and no run is at it, else skipped. -/
def State.calStart (k : Nat) (s : State) (u : Nat) : State :=
  if (k = 5 ∨ k = 6) ∧ u % 65536 = 0 ∨ s.calReady k u = false ∨ s.calRuns k u = true then s.bump (assayCtr 8) 1
  else s.withAssay { s.assay with cals := s.assay.cals ++ [⟨k, u, true, none⟩] }

theorem exec_calBackground {kind : Fin 16} {p : Nat} (hl : s.live = true) (hkind : calPeriodReset kind.val = some p)
    (hperiod : s.calPeriod kind.val ≠ 0) :
    exec (.calBackground kind) s = .next ((s.calSubjects kind.val).foldl (State.calStart kind.val) s) :=
  happen_of _ _ (by simp [hl, hkind, hperiod])

/-- Every run after a start is one from before it, or one of the kind in the background. -/
theorem State.mem_cals_calStart {k u : Nat} {x : AsCal} (h : x ∈ (s.calStart k u).assay.cals) :
    x ∈ s.assay.cals ∨ (x.kind = k ∧ x.apply = true ∧ x.job = none) := by
  unfold State.calStart at h
  split at h
  · exact .inl h
  · rcases List.mem_append.mp h with hold | hnew
    · exact .inl hold
    · rw [List.mem_singleton.mp hnew]
      exact .inr ⟨rfl, rfl, rfl⟩

end

/-! ### Quality records (R439) -/

section
variable {s : State} {m : Fin 16} {i : Nat} {value : Option Int} {r : Int} {measured : Bool} (hl : s.live = true)
  (hi : i < qualityRange m.val)
include hl hi

theorem exec_qualityUpdate_none (h : s.qualityValue m.val i value = none) : exec (.qualityUpdate m i value r measured) s =
    .next (s.take.2.withAssay { s.assay with
      quality := Tab.set {} s.assay.quality (m.val * 256 + i) { s.qualityAt m.val i with valid := false } }) := by
  refine (happen_of _ _ (by simp [hl, hi])).trans ?_
  rw [h]
  rfl

theorem exec_qualityUpdate_some {v : Int} (h : s.qualityValue m.val i value = some v) :
    ∃ t, exec (.qualityUpdate m i value r measured) s = .next t ∧
      t.assay.quality = Tab.set {} s.assay.quality (m.val * 256 + i) ⟨true, if m.val = 1 then measured else true, v,
        (s.qualityRef m.val i r).1, qualityGap m.val v (s.qualityRef m.val i r).1, (s.qualityRef m.val i r).2, s.timeWord,
        (s.qualityRef m.val i r).2 != 0 && decide ((s.qualityRef m.val i r).2 < qualityGap m.val v (s.qualityRef m.val i r).1)⟩ := by
  refine ⟨_, happen_of _ _ (by simp [hl, hi]), ?_⟩
  rw [h]
  dsimp only
  split
  · rfl
  · rw [State.assay_raise]
    rfl

end

/-! ### The pace monitor and the supply (R441, R442) -/

section
variable {s : State}

/-- A command over AVSBus notes its voltage and whether its transaction failed. -/
theorem State.assay_avsCommand (mv : Nat) (ok : Bool) :
    (s.avsCommand mv ok).assay = { s.assay with vddCmd := mv, busFault := !ok } := by
  unfold State.avsCommand
  cases ok with
  | true => rfl
  | false =>
    dsimp only
    rw [if_neg (by decide)]
    split
    · rfl
    · rw [State.assay_evPace]
      rfl

theorem State.bar0_evPace (cause : Nat) : (evPace cause s).bar0 = s.bar0 :=
  State.raise_bar0

/-- A shortfall is noted, and PACE_SHORT stands. -/
theorem State.assay_shortfall : s.shortfall.assay = { s.assay with shortfall := true } := by
  unfold State.shortfall
  dsimp only
  rw [State.assay_refreshHealth]
  split
  · next h => rw [← h]; rfl
  · rw [State.assay_evPace]
    rfl

theorem State.paceShort_shortfall : s.shortfall.bar0.paceShort = true := by
  have hkeep (u : State) : u.refreshHealth.bar0 = u.bar0 :=
    (State.refreshHealth_keeps (cs := [.clerk, .hier, .tally]) (Keeps.refl u)).frame .bar0 (by decide)
  unfold State.shortfall
  dsimp only
  rw [hkeep]
  split
  · rfl
  · rw [State.bar0_evPace]
    rfl

/-- The state in which a sample of the pace sensors and the read-back stand. -/
def State.paceRead (readings : List (Nat × Nat × Nat)) (readBack : Nat) (s : State) : State :=
  s.withAssay { s.assay with
    pace := (readings.filter fun e => decide (e.1 < 30)).foldl (fun t (e : Nat × Nat × Nat) => Tab.set none t e.1 (some e.2)) [],
    vddRead := readBack, mismatch := s.assay.mismatch && farOff s.assay.vddCmd readBack }

/-- The voltage after a sample: never below the present one, the predicted one held to 550 and 800 mV. -/
def State.raised (predicted : Nat) (s : State) : Nat := max s.assay.vddCmd (min 800 (max 550 predicted))

/-- The state after the voltage is raised where the margin asks it. -/
def State.paceRaised (readings : List (Nat × Nat × Nat)) (predicted readBack : Nat) (ok : Bool) (m : Rat) (s : State) : State :=
  if m < 1140 ∧ s.raised predicted ≠ s.assay.vddCmd then (s.paceRead readings readBack).avsCommand (s.raised predicted) ok
  else s.paceRead readings readBack

section
variable {readings : List (Nat × Nat × Nat)} {predicted readBack : Nat} {ok : Bool} (hl : s.live = true)
include hl

theorem exec_paceSample_none (h : (s.paceRead readings readBack).worstPace = none) :
    exec (.paceSample readings predicted ok readBack) s = .next (s.paceRead readings readBack) := by
  refine (happen_of _ _ hl).trans ?_
  unfold State.paceRead at h ⊢
  rw [h]

theorem exec_paceSample_some {g : Nat} {m : Rat} (h : (s.paceRead readings readBack).worstPace = some (g, m)) :
    exec (.paceSample readings predicted ok readBack) s = .next
      (if m < 1120 ∧ (s.assay.vddCmd = 800 ∨ (s.paceRaised readings predicted readBack ok m).assay.busFault = true ∨
          (s.paceRaised readings predicted readBack ok m).assay.mismatch = true) then
        (s.paceRaised readings predicted readBack ok m).shortfall
      else s.paceRaised readings predicted readBack ok m) := by
  refine (happen_of _ _ hl).trans ?_
  unfold State.paceRaised State.paceRead at *
  rw [h]
  rfl

theorem exec_paceLowerStep (hample : ∀ g w, s.worstPace = some (g, w) → 1180 ≤ w) (hheld : s.paceHeld = false)
    (hhigh : 550 < s.assay.vddCmd) :
    exec (.paceLowerStep ok) s = .next (s.avsCommand (max 550 (s.assay.vddCmd - 5)) ok) := by
  refine happen_of _ _ ?_
  cases hw : s.worstPace with
  | none => simp [hl, hheld, hhigh]
  | some e => simp [hl, hheld, hhigh, hample e.1 e.2 hw]

theorem exec_paceRestored (hshort : s.assay.shortfall = true) (hfine : ∀ g w, s.worstPace = some (g, w) → 1120 ≤ w) :
    exec .paceRestored s = .next (evPace 4 (s.withAssay { s.assay with shortfall := false })) := by
  refine happen_of _ _ ?_
  cases hw : s.worstPace with
  | none => simp [hl, hshort]
  | some e => simp [hl, hshort, hfine e.1 e.2 hw]

end

theorem State.vddCmd_paceRaised {readings : List (Nat × Nat × Nat)} {predicted readBack : Nat} {ok : Bool} {m : Rat} (hm : m < 1140) :
    (s.paceRaised readings predicted readBack ok m).assay.vddCmd = s.raised predicted := by
  unfold State.paceRaised
  split
  · rw [State.assay_avsCommand]
  · next h => exact (not_not.mp fun hne => h ⟨hm, hne⟩).symm

end

/-! ### The statement -/

/-- Settles O58: each update, run and command over AVSBus writes its own fields of Assay; events, HEALTH and jobs leave them. -/
theorem assayLoopsActs : Obligations.AssayLoopsActs := by
  refine ⟨fun s l plus minus hl hable hpwm hsweep => ⟨_, exec_biasLoopUpdate hl hable hpwm hsweep plus minus rfl, s.bias_updBias_same _ _⟩,
    fun s l cause hl => ⟨fun hlo hhi hable hwrong hnew => ⟨_, exec_biasAlarmHold_holds hl hlo hhi hable hwrong hnew, ?holds⟩,
      fun hcause hstand hfine => ⟨_, exec_biasAlarmHold_clears hl hcause hstand hfine, ?clears⟩⟩,
    fun c s hp => ⟨_, exec_of_accepted (op := assayCalRunOp) rfl hp rfl, rfl, rfl⟩,
    fun c s hp => exec_of_ok (op := assayCalSetOp) rfl hp rfl, fun c s hp => exec_of_ok (op := assayQualityReadOp) rfl hp rfl,
    fun s kind p hl hkind hperiod => ⟨⟨_, exec_calBackground hl hkind hperiod, ?background⟩, fun honly h5 h6 hruns hready => ?one⟩,
    fun s n c res qn qo hl hn => ⟨_, exec_calRunDone hl hn, State.cals_calRunDone, fun said vs hkind happly hres => ?values⟩,
    fun s m i value r measured hl hi => ⟨fun hnone => ⟨_, exec_qualityUpdate_none hl hi hnone, rfl⟩,
      fun v hv => exec_qualityUpdate_some hl hi hv⟩,
    fun s readings predicted readBack ok hl => ⟨exec_paceSample_none hl, fun g w hworst =>
      ⟨fun hhigh => (exec_paceSample_some hl hworst).trans ?ample, fun hlow => ⟨_, exec_paceSample_some hl hworst, ?command, ?short⟩⟩⟩,
    fun s ok hl => ⟨fun hample hheld hhigh => ⟨_, exec_paceLowerStep hl hample hheld hhigh, ?lower⟩,
      fun hshort hfine => ⟨_, exec_paceRestored hl hshort hfine, ?restored⟩, fun hbus => ⟨_, happen_of _ _ (by rw [hl, hbus]; rfl), ?retry⟩,
      fun readBack hfar hmis => ⟨_, happen_of _ _ (by rw [hl, hfar, hmis]; rfl), ?mismatch⟩⟩⟩
  case holds => rw [State.bias_raise, State.bias_updBias_same]
  case clears => rw [State.bias_raise, State.bias_updBias_same]
  case background =>
    refine List.foldlRecOn (motive := fun u : State => ∀ x ∈ u.assay.cals,
      x ∈ s.assay.cals ∨ (x.kind = kind.val ∧ x.apply = true ∧ x.job = none)) _ _ (fun x hx => .inl hx) fun u hu k _ x hx => ?_
    rcases State.mem_cals_calStart hx with hold | hnew
    · exact hu x hold
    · exact .inr hnew
  case one =>
    refine (exec_calBackground hl hkind hperiod).trans ?_
    rw [honly, List.foldl_cons, List.foldl_nil, State.calStart, if_neg (by simp [h5, h6, hruns, hready])]
  case values =>
    rw [State.values_calRunDone hkind happly hres]
    exact ⟨fun h => if_pos h, fun h => if_neg h⟩
  case ample =>
    have hraised : s.paceRaised readings predicted readBack ok w = s.paceRead readings readBack :=
      if_neg fun h => absurd h.1 (not_lt.mpr hhigh)
    rw [hraised, if_neg fun h => absurd (h.1.trans (by norm_num)) (not_lt.mpr hhigh)]
    rfl
  case command =>
    refine Eq.trans ?_ (State.vddCmd_paceRaised (readings := readings) (readBack := readBack) (ok := ok) hlow)
    split
    · rw [State.assay_shortfall]
    · rfl
  case short =>
    intro hvlow hfull
    rw [if_pos ⟨hvlow, .inl hfull⟩]
    exact ⟨State.paceShort_shortfall, by rw [State.assay_shortfall]⟩
  case lower => rw [State.assay_avsCommand]
  case restored => rw [State.assay_evPace]; rfl
  case retry => rw [State.assay_avsCommand]; exact ⟨rfl, rfl⟩
  case mismatch => rw [State.assay_evPace]; exact ⟨rfl, rfl⟩

end Sys2Proof.Machine
end

section
/-!
PROOFS. Service (spec/18): the record of a running change after what puts, ends and leaves it; blocks and regions after a put; a
retest; Hallmark's registers after an extension.
-/

set_option Elab.async false

namespace Sys2Proof.Machine

/-! ### Blocks and regions -/

section
variable (s : State) (r b : Nat)

theorem State.block_setBlock (b' : Nat) (v : Block) :
    (s.setBlock r b v).block r b' = if b' = b then v else s.block r b' := by
  unfold State.setBlock State.block
  rw [State.withHier_hier, Tab.get_set]
  by_cases h : b' = b
  · rw [if_pos (by rw [h]), if_pos h]
    rfl
  · rw [if_neg (by omega), if_neg h]

@[simp] theorem State.block_setBlock_same (v : Block) : (s.setBlock r b v).block r b = v :=
  (s.block_setBlock r b b v).trans (if_pos rfl)

theorem State.region_setRegion (r' : Nat) (v : Region) : (s.setRegion r v).region r' = if r' = r then v else s.region r' := by
  unfold State.setRegion State.region
  rw [State.withHier_hier, Tab.get_set]
  split <;> rfl

@[simp] theorem State.region_setRegion_same (v : Region) : (s.setRegion r v).region r = v :=
  (s.region_setRegion r r v).trans (if_pos rfl)

@[simp] theorem State.block_raise (code sev ha data : Nat) : (s.raise code sev ha data).block r b = s.block r b :=
  State.block_of_core (s.core_raise _ _ _ _) r b

@[simp] theorem State.block_afterFault : s.afterFault.block r b = s.block r b := State.block_of_core s.core_afterFault r b

@[simp] theorem State.region_raise (code sev ha data : Nat) : (s.raise code sev ha data).region r = s.region r :=
  State.region_of_core (s.core_raise _ _ _ _) r

@[simp] theorem State.region_afterFault : s.afterFault.region r = s.region r := State.region_of_core s.core_afterFault r

theorem State.core_noteSpareBlock : (s.noteSpareBlock r).hier.core = s.hier.core := by
  refine (apply_ite (fun u : State => u.hier.core) _ _ _).trans ?_
  rw [State.core_evExhausted, ite_self]

@[simp] theorem State.block_noteSpareBlock (r' b : Nat) : (s.noteSpareBlock r).block r' b = s.block r' b :=
  State.block_of_core (s.core_noteSpareBlock r) r' b

end

/-! ### What keeps the service state and the jobs -/

theorem Keeps.serv_eq {cs : List Comp} {s t : State} (h : Keeps cs s t) (hserv : .serv ∉ cs) : t.serv = s.serv :=
  h.frame .serv hserv

theorem State.change_of_serv {s t : State} (h : t.serv = s.serv) (r : Nat) : t.change r = s.change r := by
  rw [State.change, h, State.change]

section
variable (s : State)

@[simp] theorem State.serv_raise (code sev ha data : Nat) : (s.raise code sev ha data).serv = s.serv :=
  (State.raise_keeps (cs := [.clerk, .hier, .tally]) (Keeps.refl s)).serv_eq (by decide)

@[simp] theorem State.serv_refreshHealth : s.refreshHealth.serv = s.serv :=
  (State.refreshHealth_keeps (cs := [.clerk, .hier, .tally]) (Keeps.refl s)).serv_eq (by decide)

@[simp] theorem State.serv_afterFault : s.afterFault.serv = s.serv :=
  (State.afterFault_keeps (cs := [.clerk, .hier, .tally, .fec, .flow]) (Keeps.refl s)).serv_eq (by decide)

@[simp] theorem State.serv_endJob (num status : Nat) (ws : List Word) : (s.endJob num status ws).serv = s.serv :=
  (State.endJob_keeps (cs := [.clerk, .hier, .tally]) (Keeps.refl s)).serv_eq (by decide)

@[simp] theorem State.serv_retest (r b : Nat) (bad : List Nat) (image : Option Nat) : (s.retest r b bad image).2.serv = s.serv :=
  (State.retest_keeps (cs := [.clerk, .hier, .tally]) (Keeps.refl s)).serv_eq (by decide)

@[simp] theorem State.jobs_refreshHealth : s.refreshHealth.clerk.jobs = s.clerk.jobs := by
  refine (apply_ite (fun u : State => u.clerk.jobs) _ _ _).trans ?_
  rw [State.raise_jobs, State.withHier_clerk, ite_self]

@[simp] theorem State.jobs_afterFault : s.afterFault.clerk.jobs = s.clerk.jobs := by
  have hfec (u : State) : u.refreshFec.clerk.jobs = u.clerk.jobs := by
    refine (apply_ite (fun u : State => u.clerk.jobs) _ _ _).trans ?_
    rw [State.raise_jobs, State.withFec_clerk, ite_self]
  have hciph (u : State) (d : Way) : (u.refreshCiphWay d).clerk.jobs = u.clerk.jobs := by
    refine (apply_ite (fun u : State => u.clerk.jobs) _ _ _).trans ?_
    rw [State.raise_jobs, State.withFlow_clerk, ite_self]
  rw [State.afterFault, State.jobs_refreshHealth, State.refreshPools, hciph, hciph, hfec]

@[simp] theorem State.change_raise (code sev ha data r : Nat) : (s.raise code sev ha data).change r = s.change r :=
  State.change_of_serv (s.serv_raise _ _ _ _) r

@[simp] theorem State.change_refreshHealth (r : Nat) : s.refreshHealth.change r = s.change r :=
  State.change_of_serv s.serv_refreshHealth r

@[simp] theorem State.change_afterFault (r : Nat) : s.afterFault.change r = s.change r := State.change_of_serv s.serv_afterFault r

@[simp] theorem State.change_setBlock (r b r' : Nat) (v : Block) : (s.setBlock r b v).change r' = s.change r' := rfl
@[simp] theorem State.change_setRegion (r r' : Nat) (v : Region) : (s.setRegion r v).change r' = s.change r' := rfl
@[simp] theorem State.change_updDpll (d r : Nat) (f : Dpll → Dpll) : (s.updDpll d f).change r = s.change r := rfl
@[simp] theorem State.block_setChange (c : Change) (r b : Nat) : (s.setChange c).block r b = s.block r b := rfl
@[simp] theorem State.region_setChange (c : Change) (r : Nat) : (s.setChange c).region r = s.region r := rfl

end

/-! ### The change of a region -/

section
variable {s : State} {c c' : Change} {r n : Nat} {ok : Change → Bool}

theorem State.region_of_change (h : s.change r = some c) : c.region = r := by
  simpa using List.find?_some h

/-- A change that is put in place of its region's stands. -/
theorem State.change_setChange (h : s.change r = some c) (hr : c'.region = r) : (s.setChange c').change r = some c' := by
  have hsame (k : Change) : ((if k.region = c'.region then c' else k).region == r) = (k.region == r) := by
    split
    · next hk => rw [hk]
    · rfl
  unfold State.change State.setChange
  rw [State.withServ_serv, List.find?_map]
  have hfind : s.serv.changes.find? ((fun k => k.region == r) ∘ fun k => if k.region = c'.region then c' else k) = some c :=
    (congrArg (List.find? · s.serv.changes) (funext hsame)).trans h
  rw [hfind, Option.map_some, if_pos ((State.region_of_change h).trans hr.symm)]

theorem State.inPhase_of (h : s.change r = some c) (hphase : c.phase = n) (hok : ok c = true) : s.inPhase r n ok = some c := by
  rw [State.inPhase, h]
  exact if_pos ⟨hphase, hok⟩

theorem State.inPhase_of_ne (h : s.change r = some c) (hphase : c.phase ≠ n) : s.inPhase r n ok = none := by
  rw [State.inPhase, h]
  exact if_neg fun hyes => hphase hyes.1

theorem State.change_dropChange (s : State) (r : Nat) : (s.dropChange r).change r = none := by
  unfold State.change State.dropChange
  simp

/-- A change that ends is in its region's place no more. -/
@[simp] theorem State.change_endChange (s : State) (c : Change) (st : Nat) : (s.endChange c st).change c.region = none := by
  unfold State.endChange
  dsimp only
  split
  · exact s.change_dropChange _
  · exact (State.change_of_serv (State.serv_endJob _ _ _ _) _).trans (s.change_dropChange _)

theorem State.change_endChange_of {s : State} {st : Nat} (hr : c.region = r) : (s.endChange c st).change r = none :=
  hr ▸ s.change_endChange c st

theorem State.core_endChange (s : State) (c : Change) (st : Nat) : (s.endChange c st).hier.core = s.hier.core := by
  unfold State.endChange
  dsimp only
  split
  · rfl
  · rw [State.core_endJob]; rfl

@[simp] theorem State.block_endChange (s : State) (c : Change) (st r b : Nat) : (s.endChange c st).block r b = s.block r b :=
  State.block_of_core (s.core_endChange c st) r b

@[simp] theorem State.region_endChange (s : State) (c : Change) (st r : Nat) : (s.endChange c st).region r = s.region r :=
  State.region_of_core (s.core_endChange c st) r

theorem State.timing_endChange (s : State) (c : Change) (st : Nat) : (s.endChange c st).timing = s.timing :=
  (State.endChange_keeps (cs := [.clerk, .hier, .tally, .serv]) (Keeps.refl s)).timing_eq (by decide)

@[simp] theorem State.dpll_endChange (s : State) (c : Change) (st : Nat) : (s.endChange c st).dpll = s.dpll :=
  State.dpll_of_dplls (congrArg Timing.dplls (s.timing_endChange c st))

/-- No job of a number is left after it ends. -/
theorem State.num_ne_of_endJob {num st : Nat} {ws : List Word} {s : State} : ∀ j ∈ (s.endJob num st ws).clerk.jobs, j.num ≠ num := by
  cases hfind : s.clerk.jobs.find? (fun j => j.num == num) with
  | none =>
    rw [State.endJob, hfind]
    simpa using hfind
  | some j =>
    rw [State.endJob_jobs hfind]
    simp

/-- The job of a change ends with it. -/
theorem State.num_ne_of_endChange {st : Nat} (hjob : c.job = some n) : ∀ j ∈ (s.endChange c st).clerk.jobs, j.num ≠ n := by
  unfold State.endChange
  rw [hjob]
  exact State.num_ne_of_endJob

end

/-! ### Retest (R485) -/

section
variable (s : State) (r b : Nat) (bad : List Nat) (image : Option Nat)

/-- The state in which a block goes through RETEST: its FIFOs are reset and its injections dropped. -/
def State.retesting : State :=
  let s1 := (s.fifosOf r b).foldl (fun s f => s.setFifo f (s.fifo f).resetFifo) s
  s1.withHier { s1.hier with
    inject := (List.range (s.block r b).cells).foldl (fun t c => Tab.set 0 t (haOf r b c) 0) s1.hier.inject }

theorem State.retest_eq : s.retest r b bad image =
    (let t := (s.block r b).retested bad
     let note (s' : State) : State :=
       if t.1.spareCell = 0x3F ∧ (s.block r b).spareCell ≠ 0x3F then evExhausted 0 (haOf r b 0x3F) s' else s'
     if t.2 then (true, note ((s.retesting r b).setBlock r b { t.1 with state := 1, serves := 0x3F, image := image }))
     else (false, ((s.retesting r b).setBlock r b { t.1 with state := 3, serves := 0x3F, image := image }).noteSpareBlock r)) := rfl

variable {s r b bad}

/-- A block that passes its retest is the spare, without suspect cells, loaded with the image. -/
theorem State.retest_of_pass (h : ((s.block r b).retested bad).2 = true) : (s.retest r b bad image).1 = true ∧
    (s.retest r b bad image).2.block r b = { ((s.block r b).retested bad).1 with state := 1, serves := 0x3F, image := image } := by
  rw [State.retest_eq]
  dsimp only
  rw [if_pos h]
  refine ⟨rfl, ?_⟩
  refine (State.block_of_core ?_ r b).trans (State.block_setBlock_same (s.retesting r b) r b _)
  refine (apply_ite (fun u : State => u.hier.core) _ _ _).trans ?_
  rw [State.core_evExhausted, ite_self]

/-- A block that fails its retest is retired. -/
theorem State.retest_of_fail (h : ((s.block r b).retested bad).2 = false) : (s.retest r b bad image).1 = false ∧
    ((s.retest r b bad image).2.block r b).state = 3 := by
  rw [State.retest_eq]
  dsimp only
  rw [if_neg (by rw [h]; decide)]
  exact ⟨rfl, by rw [State.block_noteSpareBlock, State.block_setBlock_same]⟩

end

/-! ### Hallmark's registers (R450) -/

section
variable (s : State) (k j : Nat) (item : List Byte)

theorem State.measure_extend : (s.extend k item).measure j = if j = k then sha384 (s.measure k ++ sha384 item) else s.measure j :=
  Tab.get_set _ _ _

@[simp] theorem State.measure_extend_same : (s.extend k item).measure k = sha384 (s.measure k ++ sha384 item) :=
  (s.measure_extend k k item).trans (if_pos rfl)

theorem State.measure_extend_of_ne {k j : Nat} (h : j ≠ k) : (s.extend k item).measure j = s.measure j :=
  (s.measure_extend k j item).trans (if_neg h)

theorem State.measure_measureSvn {k : Nat} (h : k ≠ 3) : s.measureSvn.measure k = s.measure k := s.measure_extend_of_ne _ h

theorem State.measure_of_hall {s t : State} (h : t.hall = s.hall) (k : Nat) : t.measure k = s.measure k := by
  rw [State.measure, h, State.measure]

theorem Keeps.hall_eq {cs : List Comp} {s t : State} (h : Keeps cs s t) (hhall : .hall ∉ cs) : t.hall = s.hall :=
  h.frame .hall hhall

@[simp] theorem State.hall_raise (code sev ha data : Nat) : (s.raise code sev ha data).hall = s.hall :=
  (State.raise_keeps (cs := [.clerk, .hier, .tally]) (Keeps.refl s)).hall_eq (by decide)

@[simp] theorem State.hall_refreshHealth : s.refreshHealth.hall = s.hall :=
  (State.refreshHealth_keeps (cs := [.clerk, .hier, .tally]) (Keeps.refl s)).hall_eq (by decide)

@[simp] theorem State.hall_endJob (num status : Nat) (ws : List Word) : (s.endJob num status ws).hall = s.hall :=
  (State.endJob_keeps (cs := [.clerk, .hier, .tally]) (Keeps.refl s)).hall_eq (by decide)

end

end Sys2Proof.Machine
end

section
/-!
PROOFS. Service (spec/18 R480 to R496): images and their check, handover of the control firmware, the start of a change, rolling
changes, and ageing.
-/

set_option Elab.async false

namespace Sys2Proof.Machine

/-! ### Image slots and their check (R450, R480, R494) -/

section
variable {s : State}

theorem State.slotWords_setSlot_same (s : State) (k : Nat) (ws : List Word) : (s.setSlot k ws).slotWords k = some ws := by
  unfold State.slotWords State.setSlot
  split <;> rfl

theorem State.slotWords_setSlot_other (s : State) {k : Nat} (ws : List Word) (h : k < 2) :
    (s.setSlot k ws).slotWords (1 - k) = s.slotWords (1 - k) := by
  match k with
  | 0 => rfl
  | 1 => rfl

theorem State.verified_setVerified (s : State) (v : Option ImageInfo) : (s.setVerified v).serv.verified = v := by
  unfold State.setVerified
  split
  · assumption
  · rfl

theorem State.slotWords_setVerified (s : State) (v : Option ImageInfo) (k : Nat) : (s.setVerified v).slotWords k = s.slotWords k := by
  unfold State.setVerified
  split <;> rfl

theorem State.measure_setVerified (s : State) (v : Option ImageInfo) {k : Nat} (hk : k ≠ 3) : (s.setVerified v).measure k = s.measure k := by
  unfold State.setVerified
  split
  · rfl
  · exact State.measure_measureSvn _ hk

/-- Register 3 follows a verification that ends. -/
theorem State.measure_setVerified_none (s : State) : (s.setVerified none).measure 3 =
    if s.serv.verified = none then s.measure 3
    else sha384 (s.measure 3 ++ sha384 (svnItem s.hall.fuses s.serv.running.svn none)) := by
  unfold State.setVerified
  split
  · rfl
  · exact State.measure_extend_same _ _ _

/-- Writing words into a slot leaves everything else of the service state. -/
theorem State.setSlot_frame (s : State) (k : Nat) (ws : List Word) :
    (s.setSlot k ws).serv.verified = s.serv.verified ∧ (s.setSlot k ws).serv.running = s.serv.running := by
  unfold State.setSlot
  split <;> exact ⟨rfl, rfl⟩

theorem State.measure_imageLoaded (s : State) (k : Nat) (ws : List Word) : ((s.setSlot k ws).setVerified none).measure 3 =
    if s.serv.verified = none then s.measure 3
    else sha384 (s.measure 3 ++ sha384 (svnItem s.hall.fuses s.serv.running.svn none)) := by
  obtain ⟨hverified, hrunning⟩ := s.setSlot_frame k ws
  rw [State.measure_setVerified_none, hverified, hrunning]
  rfl

section
variable {readError : Bool} {outside : List Word} {j : Job} (hup : (s.live || s.rom) = true)
  (hj : s.findJob 0x0E02 (fun _ => true) = some j)
include hup hj

theorem exec_verifyDone_good (hgood : (if readError then 6 else imageCause s.hall.fuses ((s.slotWords s.standbySlot).getD outside)) = 0) :
    exec (.verifyDone readError outside) s = .next
      (((s.extend 2 (imageInfo ((s.slotWords s.standbySlot).getD outside)).digest).setVerified
        (some (imageInfo ((s.slotWords s.standbySlot).getD outside)))).endJob j.num stOk
          [mkw [(6, 0, (imageInfo ((s.slotWords s.standbySlot).getD outside)).svn)],
            w32 (imageInfo ((s.slotWords s.standbySlot).getD outside)).version]) := by
  show execVerifyDone readError outside s = _
  unfold execVerifyDone
  rw [hj]
  exact (happen_of _ _ hup).trans (congrArg Host.Outcome.next (if_pos hgood))

theorem exec_verifyDone_bad (hbad : (if readError then 6 else imageCause s.hall.fuses ((s.slotWords s.standbySlot).getD outside)) ≠ 0) :
    exec (.verifyDone readError outside) s = .next
      (((s.setVerified none).imageRejected (if readError then 6 else imageCause s.hall.fuses ((s.slotWords s.standbySlot).getD outside))
        s.standbySlot).endJob j.num stRefused []) := by
  show execVerifyDone readError outside s = _
  unfold execVerifyDone
  rw [hj]
  exact (happen_of _ _ hup).trans (congrArg Host.Outcome.next (if_neg hbad))

end

/-- The job found by its opcode is found by its number. -/
theorem State.find_num_of_findJob {code : Nat} {f : Job → Bool} {j : Job} (h : s.findJob code f = some j) :
    ∃ k, s.clerk.jobs.find? (fun i => i.num == j.num) = some k := by
  have hmem : j ∈ s.clerk.jobs := List.mem_of_find?_eq_some h
  exact Option.isSome_iff_exists.mp (List.find?_isSome.mpr ⟨j, hmem, by simp⟩)

/-- A job that ends is the latest of those that have ended. -/
theorem State.endJob_leaves {num st : Nat} {ws : List Word} {k : Job} (h : s.clerk.jobs.find? (fun i => i.num == num) = some k) :
    (s.endJob num st ws).clerk.jobs = s.clerk.jobs.filter (fun k => k.num != num) ∧
      ((s.endJob num st ws).clerk.ended.head?.map fun e => (e.num, e.status)) = some (num, st) := by
  refine ⟨State.endJob_jobs h, ?_⟩
  rw [State.endJob_ended h]
  rfl

/-! ### Handover (R491) -/

section
variable {h : Handover}

theorem State.handoverAt_of {n : Nat} (hh : s.serv.handover = some h) (hstage : h.stage = n) : s.handoverAt n = some h := by
  rw [State.handoverAt, hh]
  exact if_pos hstage

theorem exec_handoverLoadDone (hl : s.live = true) (hh : s.handoverAt 1 = some h) (ok : Bool) : exec (.handoverLoadDone ok) s =
    .next (if ok then ((s.withHier { s.hier with ctlStandby := 0 }).withServ { s.serv with handover := some { h with stage := 2 } }).refreshHealth
      else s.pairLost h) := by
  show execHandoverLoadDone ok s = _
  unfold execHandoverLoadDone
  rw [hh]
  exact happen_of _ _ hl

theorem exec_formerPairReady (hl : s.live = true) (hh : s.handoverAt 3 = some h) (ok : Bool) : exec (.formerPairReady ok) s =
    .next (if ok then ((s.withHier { s.hier with ctlStandby := 0 }).endHandover h
        (if s.clerk.jobs.any fun j => j.num == h.job && j.cancel then stAborted else stOk)).refreshHealth
      else s.pairLost h) := by
  show execFormerPairReady ok s = _
  unfold execFormerPairReady
  rw [hh]
  exact happen_of _ _ hl

/-- The state in which the standby pair has taken over on image `v`, with registers 1 and 3 extended. -/
def State.takenOver (h : Handover) (v : ImageInfo) (s : State) : State :=
  let s1 := s.withHier { s.hier with ctlActive := 1 - s.hier.ctlActive, ctlStandby := 1 }
  let s2 := s1.withBoot { s1.boot with fwImage := h.slot, fwVersion := v.version, record := h.slot }
  ((s2.withServ { s2.serv with running := v, verified := none, handover := some { h with stage := 3 } }).extend 1 v.digest).measureSvn

theorem exec_handoverTakeover {v : ImageInfo} (hl : s.live = true) (hh : s.handoverAt 2 = some h) (hv : s.serv.verified = some v)
    (hready : s.pairReady = true) : exec .handoverTakeover s = .next
      ((evStep 4 0 (1 - s.hier.ctlActive) s.hier.ctlActive clerkHa (s.takenOver h v)).emit (.bootRecord h.slot)).refreshHealth := by
  show execHandoverTakeover s = _
  unfold execHandoverTakeover
  rw [hh, hv]
  exact happen_of _ _ (by rw [hl, hready]; rfl)

theorem State.hier_pairLost : (s.pairLost h).hier.ctlStandby = 2 ∧ (s.pairLost h).serv.handover = none := by
  unfold State.pairLost State.endHandover evStepFailed evExhausted
  refine ⟨State.ctlStandby_of_core (s := s.withHier { s.hier with ctlStandby := 2 }) ?_, ?_⟩
  · rw [State.core_refreshHealth, State.core_endJob, State.withServ_hier, State.core_raise, State.core_raise]
  · rw [State.serv_refreshHealth, State.serv_endJob]
    rfl

theorem State.measure_takenOver (v : ImageInfo) :
    (s.takenOver h v).measure 1 = sha384 (s.measure 1 ++ sha384 v.digest) ∧
      (s.takenOver h v).measure 3 = sha384 (s.measure 3 ++ sha384 (svnItem s.hall.fuses v.svn none)) := by
  refine ⟨(State.measure_measureSvn _ (by decide)).trans (State.measure_extend_same _ _ _), ?_⟩
  refine (State.measure_extend_same _ _ _).trans ?_
  rw [State.measure_extend_of_ne _ _ (by decide)]
  rfl

end
end

/-! ### The start of a change (R481 to R490) -/

/-- The record that SERVICE_CHANGE makes, before its method is chosen. -/
def State.newChange (c : Cmd) (s : State) : Change :=
  { region := haRegion c.target.toNat, job := some s.clerk.nextJob, method := 1, update := (c.p 0).fld 31 30 == 1, phase := 1,
    done := 0, total := 1, positions := [], incoming := 0, outgoing := 0, lastFreed := 0, cancelled := false }

/-- The state with a change added and its job started. -/
def State.addChange (c : Cmd) (k : Change) (s : State) : State :=
  (s.startJob 0x0E04 c).withServ { s.serv with changes := s.serv.changes ++ [k] }

/-- The record of a change of DPLLs, and of the rolling positions after them. -/
def State.swapChange (c : Cmd) (s : State) : Change :=
  { s.newChange c with
    method := 3
    positions := changedDplls c ++ (if haBlock c.target.toNat = 0x3F then s.passPositions (haRegion c.target.toNat) else [])
    total := ((changedDplls c).map fun d => if (s.dpll d).coreFault then 1 else 2).sum +
      (if haBlock c.target.toNat = 0x3F then s.passPositions (haRegion c.target.toNat) else []).length }

/-- The record of a pass over a region's positions. -/
def State.passChange (c : Cmd) (s : State) : Change :=
  { s.newChange c with positions := s.passPositions (haRegion c.target.toNat), total := (s.passPositions (haRegion c.target.toNat)).length }

section
variable {c : Cmd} {s : State}

theorem State.change_addChange {k : Change} {r : Nat} (h : s.change r = none) (hr : k.region = r) : (s.addChange c k).change r = some k := by
  unfold State.change at h ⊢
  unfold State.addChange
  rw [State.withServ_serv, List.find?_append, h]
  simp [hr]

theorem State.startChange_of_migrates {m : Nat} (h : s.migrates c = some m) : s.startChange c = s.addChange c { s.newChange c with
    method := 2, incoming := m, outgoing := haRegion c.target.toNat, lastFreed := haRegion c.target.toNat } := by
  unfold State.startChange
  dsimp only
  rw [h]
  rfl

variable (h : s.migrates c = none)
include h

theorem State.startChange_of_dplls (hd : changedDplls c ≠ []) :
    s.startChange c = (s.addChange c (s.swapChange c)).beginStep (s.swapChange c) := by
  unfold State.startChange
  dsimp only
  rw [h]
  exact if_pos hd

variable (hd : changedDplls c = [])
include hd

theorem State.startChange_of_pass (hb : haBlock c.target.toNat = 0x3F) :
    s.startChange c = (s.addChange c (s.passChange c)).beginPass (s.passChange c) := by
  unfold State.startChange
  dsimp only
  rw [h]
  exact (if_neg (not_not.mpr hd)).trans (if_pos hb)

variable (hb : haBlock c.target.toNat ≠ 0x3F)
include hb

theorem State.startChange_of_idle (hserves : (s.block (haRegion c.target.toNat) (haBlock c.target.toNat)).serves = 0x3F) :
    s.startChange c = (s.addChange c { s.newChange c with phase := 4, incoming := haBlock c.target.toNat, outgoing := haBlock c.target.toNat }).setBlock
      (haRegion c.target.toNat) (haBlock c.target.toNat) { s.block (haRegion c.target.toNat) (haBlock c.target.toNat) with state := 4 } := by
  unfold State.startChange
  dsimp only
  rw [h]
  exact (if_neg (not_not.mpr hd)).trans ((if_neg hb).trans (if_pos hserves))

theorem State.startChange_of_step (hserves : (s.block (haRegion c.target.toNat) (haBlock c.target.toNat)).serves ≠ 0x3F) {sp : Nat}
    (hsp : (s.spareBlock (haRegion c.target.toNat)).getD 0 = sp) :
    s.startChange c = (s.addChange c { s.newChange c with
        positions := [(s.block (haRegion c.target.toNat) (haBlock c.target.toNat)).serves], incoming := sp }).setBlock
      (haRegion c.target.toNat) sp { s.block (haRegion c.target.toNat) sp with state := 4 } := by
  subst hsp
  unfold State.startChange
  dsimp only
  rw [h]
  exact (if_neg (not_not.mpr hd)).trans ((if_neg hb).trans (if_neg hserves))

end

/-! ### What a check that passes says -/

theorem eq_none_of_firstRej {l : List (Option Rej)} (h : firstRej l = none) : ∀ x ∈ l, x = none := by
  induction l with
  | nil => exact nofun
  | cons a l ih =>
    cases a with
    | none => exact List.forall_mem_cons.mpr ⟨rfl, ih h⟩
    | some x => cases h

theorem of_need_eq_none {b : Bool} {r : Rej} (h : need b r = none) : b = true := by
  cases b with
  | false => cases h
  | true => rfl

section
variable {c : Cmd} {s : State}

/-- A command that passes its checks has its opcode's own check passed. -/
theorem OpDef.check_of_passes {op : OpDef} (hp : op.passes c s) : op.check c s = none := by
  obtain ⟨_, _, _, hjudge, _, _⟩ := hp
  exact eq_none_of_firstRej hjudge _ (by simp)

/-- A pass over a region starts only where it has a spare block. -/
theorem spareBlock_of_serviceChange_passes (hp : serviceChangeOp.passes c s) (h : s.migrates c = none)
    (hb : haBlock c.target.toNat = 0x3F) : ∃ sp, s.spareBlock (haRegion c.target.toNat) = some sp := by
  have hcheck : need (!s.needsSpare c || (s.spareBlock (haRegion c.target.toNat)).isSome) ⟨stState, 0xFFFF, 0x41⟩ = none :=
    eq_none_of_firstRej (OpDef.check_of_passes hp) _ (by simp [stateErr])
  have hneeds : s.needsSpare c = true := by simp [State.needsSpare, hb, h]
  have hsome := of_need_eq_none hcheck
  rw [hneeds] at hsome
  exact Option.isSome_iff_exists.mp hsome

end

end Sys2Proof.Machine
end

section
/-!
PROOFS. Changes in service (spec/18 R482 to R496): rolling steps, migration in a pool, DPLL core swaps, ageing; and the statement
about Service.
-/

set_option Elab.async false

namespace Sys2Proof.Machine

/-! ### Rolling steps (R482, R484, R485) -/

section
variable {s : State} {r : Fin 30} {c : Change} (hl : s.live = true) (hc : s.change r.val = some c)
include hl hc

theorem exec_copyDone_good (hphase : c.phase = 2) (lost : Bool) :
    exec (.copyDone r false lost) s = .next (s.setChange { c with phase := 3 }) := by
  show execCopyDone r false lost s = _
  unfold execCopyDone
  rw [State.inPhase_of hc hphase rfl]
  exact (happen_of _ _ hl).trans (congrArg Host.Outcome.next (if_neg (by decide)))

theorem exec_copyDone_fault (hphase : c.phase = 2) (lost : Bool) : exec (.copyDone r true lost) s = .next (s.incomingFault c lost) := by
  show execCopyDone r true lost s = _
  unfold execCopyDone
  rw [State.inPhase_of hc hphase rfl]
  exact (happen_of _ _ hl).trans (congrArg Host.Outcome.next (if_pos rfl))

variable (hm : c.method = 1)
include hm

theorem exec_prepareDone_good (hphase : c.phase = 1) (lost : Bool) :
    exec (.prepareDone r false lost) s = .next (s.setChange { c with phase := 2 }) := by
  show execPrepareDone r false lost s = _
  unfold execPrepareDone
  rw [State.inPhase_of hc hphase (by simp [hm])]
  exact (happen_of _ _ hl).trans (congrArg Host.Outcome.next (if_neg (by decide)))

theorem exec_prepareDone_fault (hphase : c.phase = 1) (lost : Bool) :
    exec (.prepareDone r true lost) s = .next (s.incomingFault c lost) := by
  show execPrepareDone r true lost s = _
  unfold execPrepareDone
  rw [State.inPhase_of hc hphase (by simp [hm])]
  exact (happen_of _ _ hl).trans (congrArg Host.Outcome.next (if_pos rfl))

theorem exec_retestDone_spare (hphase : c.phase = 0) (bad : List Nat) : exec (.retestDone r bad) s =
    .next (if (s.retest r.val c.incoming bad (s.imageFor c.update r.val c.incoming)).1 then
        (((s.retest r.val c.incoming bad (s.imageFor c.update r.val c.incoming)).2.setBlock r.val c.incoming
          { (s.retest r.val c.incoming bad (s.imageFor c.update r.val c.incoming)).2.block r.val c.incoming with state := 4 }).beginStep c).afterFault
      else ((evStepFailed 1 c.pos c.incoming (haOf r.val c.incoming 0x3F)
        (s.retest r.val c.incoming bad (s.imageFor c.update r.val c.incoming)).2).endChange c stFault).afterFault) := by
  show execRetestDone r bad s = _
  unfold execRetestDone
  rw [State.inPhase_of hc hphase (by simp [hm])]
  exact happen_of _ _ hl

theorem exec_retestDone_freed (hphase : c.phase = 4) (hidle : isFec r.val = true → s.blockBusy r.val c.outgoing = 0) (bad : List Nat) :
    exec (.retestDone r bad) s = .next
      (if (s.retest r.val c.outgoing bad (s.imageFor c.update r.val c.outgoing)).1 then
        ((evStep 1 c.pos c.incoming c.outgoing (haOf r.val c.outgoing 0x3F)
          (s.retest r.val c.outgoing bad (s.imageFor c.update r.val c.outgoing)).2).nextStep c c.outgoing).afterFault
      else ((evStepFailed 3 c.pos c.outgoing (haOf r.val c.outgoing 0x3F)
        (s.retest r.val c.outgoing bad (s.imageFor c.update r.val c.outgoing)).2).endChange c stFault).afterFault) := by
  show execRetestDone r bad s = _
  unfold execRetestDone
  rw [State.inPhase_of_ne hc (by omega), State.inPhase_of hc hphase (by simp [hm])]
  refine happen_of _ _ ?_
  cases hfec : isFec r.val with
  | false => simp [hl]
  | true => simp [hl, hidle hfec]

end

/-- The state in which the incoming block of a step serves its position, and the block before it is in RETEST. -/
def State.switched (r : Nat) (c : Change) (s : State) : State :=
  let x := s.server r c.pos
  let s1 := (s.drainFifos r x).setBlock r x { s.block r x with state := 4, serves := 0x3F }
  let s2 := s1.setBlock r c.incoming { s1.block r c.incoming with state := 0, serves := c.pos }
  (s2.setChange { c with phase := 4, outgoing := x, done := c.done + 1, lastFreed := x }).afterFault

theorem exec_switch_rolling {s : State} {c : Change} {r : Fin 30} (hl : s.live = true) (hc : s.change r.val = some c) (hm : c.method = 1) (hphase : c.phase = 3)
    (ha : r.val = 0x12 → s.rw.a.replay = none) (hb : r.val = 0x13 → s.rw.b.replay = none) :
    exec (.switch r) s = .next (s.switched r.val c) := by
  show execSwitch r s = _
  unfold execSwitch
  dsimp only
  rw [State.inPhase_of hc hphase (by simp [hm])]
  refine (if_neg (by omega)).trans (happen_of _ _ ?_)
  by_cases h12 : r.val = 0x12
  · simp [hl, h12, ha h12]
  · by_cases h13 : r.val = 0x13
    · simp [hl, h13, hb h13]
    · simp [hl, h12, h13]

theorem State.serv_drainFifos (s : State) (r b : Nat) : (s.drainFifos r b).serv = s.serv :=
  List.foldlRecOn (motive := fun u : State => u.serv = s.serv) _ _ rfl fun _ hu _ _ => hu

theorem State.block_switched (s : State) (r : Nat) (c : Change) (b : Nat) (hne : c.incoming ≠ s.server r c.pos) :
    (b = c.incoming → ((s.switched r c).block r b).state = 0 ∧ ((s.switched r c).block r b).serves = c.pos) ∧
      (b = s.server r c.pos → ((s.switched r c).block r b).state = 4 ∧ ((s.switched r c).block r b).serves = 0x3F) := by
  unfold State.switched
  rw [State.block_afterFault, State.block_setChange, State.block_setBlock]
  refine ⟨fun hb => ?_, fun hb => ?_⟩
  · rw [if_pos hb]
    exact ⟨rfl, rfl⟩
  · rw [if_neg (hb ▸ hne.symm), hb, State.block_setBlock_same]
    exact ⟨rfl, rfl⟩

section
variable {s : State} {c : Change} {r : Nat} (hc : s.change r = some c)
include hc

theorem State.change_switched : (s.switched r c).change r = some { c with
    phase := 4, outgoing := s.server r c.pos, done := c.done + 1, lastFreed := s.server r c.pos } := by
  unfold State.switched
  rw [State.change_afterFault]
  refine State.change_setChange (c := c) ?_ (State.region_of_change hc :)
  exact (State.change_of_serv (State.serv_drainFifos s _ _) r).trans hc

/-- A fault in the incoming block ends the change and its job. -/
theorem State.incomingFault_leaves (hm : c.method = 1) (lost : Bool) : (s.incomingFault c lost).change r = none ∧
    ((s.incomingFault c lost).block r c.incoming).state = (if lost then 3 else 1) ∧
      ∀ n, c.job = some n → ∀ j ∈ (s.incomingFault c lost).clerk.jobs, j.num ≠ n := by
  obtain rfl := State.region_of_change hc
  unfold State.incomingFault
  rw [if_neg (by omega)]
  dsimp only
  refine ⟨by rw [State.change_afterFault, State.change_endChange], ?_, fun n hn => ?_⟩
  · rw [State.block_afterFault, State.block_endChange, evStepFailed, State.block_raise]
    cases lost with
    | false => exact congrArg Block.state (State.block_setBlock_same _ _ _ _)
    | true => exact congrArg Block.state ((State.block_noteSpareBlock _ _ _ _).trans (State.block_setBlock_same _ _ _ _))
  · rw [State.jobs_afterFault]
    exact State.num_ne_of_endChange hn

end

/-- A step of a rolling change begins. -/
theorem State.beginStep_rolling {u : State} {c : Change} (hm : c.method = 1) : u.beginStep c = u.setChange { c with phase := 1 } := by
  unfold State.beginStep
  exact if_neg (by omega)

section
variable {u : State} {c : Change} {r b : Nat} (hu : u.change r = some c)
include hu

/-- The block just freed is the next incoming block. -/
theorem State.nextStep_goes (hm : c.method = 1) (hmore : c.positions.tail ≠ []) (hgo : c.cancelled = false) :
    (u.nextStep c b).change r = some { c with phase := 1, positions := c.positions.tail, incoming := b } ∧
      ((u.nextStep c b).block r b).state = 4 := by
  obtain rfl := State.region_of_change hu
  unfold State.nextStep State.beginStep
  dsimp only
  rw [if_neg (by simp [hmore, hgo]), if_neg (by omega)]
  exact ⟨State.change_setChange hu rfl, congrArg Block.state (State.block_setBlock_same u _ _ _)⟩

/-- After the last position, or a cancel, the change ends, and the block is left as its retest leaves it. -/
theorem State.nextStep_ends (hlast : c.positions.tail = [] ∨ c.cancelled = true) :
    (u.nextStep c b).change r = none ∧ (u.nextStep c b).block r b = u.block r b := by
  obtain rfl := State.region_of_change hu
  unfold State.nextStep State.finishChange
  dsimp only
  rw [if_pos (by simpa using hlast)]
  exact ⟨State.change_endChange u { c with positions := c.positions.tail } _, State.block_endChange u _ _ _ _⟩

end

/-! ### Migration (R487, R488) -/

section
variable {s : State} {r : Fin 30} {c : Change} (hl : s.live = true) (hc : s.change r.val = some c) (hm : c.method = 2)
include hl hc hm

theorem exec_migrationLoadDone (hfec : isFec r.val = true) (hphase : c.phase = 1) (ok : Bool) : exec (.migrationLoadDone r ok) s =
    .next (if ok then (((s.loadRegion c.update c.incoming).swapRoles c).setChange { c with phase := 3, done := 1 }).afterFault
      else ((evStepFailed 1 0 c.incoming (regionHa r.val) (evExhausted 2 (regionHa c.incoming)
        (s.setRegion c.incoming { s.region c.incoming with poolRole := 3 }))).endChange c stFault).afterFault) := by
  show execMigrationLoadDone r ok s = _
  unfold execMigrationLoadDone
  rw [State.inPhase_of hc hphase (by simp [hm, hfec])]
  exact happen_of _ _ hl

/-- The transmit flows with the open tails of region `r` at region `m`. -/
def State.withTailsAt (r m : Nat) (s : State) : State :=
  s.withFlow { s.flow with tx := s.flow.tx.map fun e => (e.1, e.2.map fun f =>
    { f with segs := f.segs.map fun g => if g.st = .open_ ∧ g.region = r then { g with region := m } else g }) }

theorem exec_switch_migration (hciph : isCiph r.val = true) (hphase : c.phase = 3) (hrole : (s.region r.val).poolRole = 0) :
    exec (.switch r) s = .next (((s.swapRoles c).setChange { c with done := 1 }).withTailsAt r.val c.incoming).afterFault := by
  show execSwitch r s = _
  unfold execSwitch
  dsimp only
  rw [State.inPhase_of hc hphase (by simp [hm, hciph, hrole])]
  exact (if_pos hm).trans (happen_of _ _ hl)

theorem exec_decodesDrained (hphase : c.phase = 3) (hrole : (s.region r.val).poolRole = 2) (hdrained : s.drainedRegion r.val = true) :
    exec (.decodesDrained r) s =
      .next ((s.setRegion r.val { s.region r.val with isolated := true }).setChange { c with phase := 4 }) := by
  show execDecodesDrained r s = _
  unfold execDecodesDrained
  rw [State.inPhase_of hc hphase (by simp [hm, hrole])]
  exact happen_of _ _ (by rw [hl, hdrained]; rfl)

theorem exec_migrationRetestDone (hphase : c.phase = 4) (bad : List (Nat × Nat)) : exec (.migrationRetestDone r bad) s =
    .next (if (s.retestRegion r.val c.update bad).1 then
        (((evStep 2 0 c.incoming r.val (regionHa r.val) (s.retestRegion r.val c.update bad).2).setRegion r.val
          { (s.retestRegion r.val c.update bad).2.region r.val with poolRole := 1, isolated := false }).finishChange c).afterFault
      else ((evStepFailed 3 0 r.val (regionHa r.val) ((s.retestRegion r.val c.update bad).2.setRegion r.val
        { (s.retestRegion r.val c.update bad).2.region r.val with poolRole := 3 })).endChange c stFault).afterFault) := by
  show execMigrationRetestDone r bad s = _
  unfold execMigrationRetestDone
  rw [State.inPhase_of hc hphase (by simp [hm])]
  exact happen_of _ _ hl

end

section
variable {s : State} {c : Change} {r : Nat}

theorem State.serv_loadRegion (s : State) (update : Bool) (r : Nat) : (s.loadRegion update r).serv = s.serv :=
  List.foldlRecOn (motive := fun u : State => u.serv = s.serv) _ _ rfl fun _ hu _ _ => hu

/-- The Journeyman works, and the outgoing region is set aside. -/
theorem State.region_swapRoles (hr : c.region = r) (hne : c.incoming ≠ r) :
    ((s.swapRoles c).region c.incoming).poolRole = 0 ∧ ((s.swapRoles c).region r).poolRole = 2 := by
  subst hr
  unfold State.swapRoles
  rw [State.region_setRegion_same, State.region_setRegion, if_neg hne, State.region_setRegion_same]
  exact ⟨rfl, rfl⟩

end

/-! ### Core swaps (R489, R490) -/

section
variable {s : State} {d : Fin 4} {c : Change}

/-- The state in which the core under change is retired. -/
def State.coreLost (cause d : Nat) (s : State) : State :=
  (evStepFailed cause d d (dpllHa d) s).updDpll d fun x => { x with coreRetired := true }

@[simp] theorem State.change_coreLost (s : State) (cause d r : Nat) : (s.coreLost cause d).change r = s.change r := by
  rw [State.coreLost, evStepFailed, State.change_updDpll, State.change_raise]

@[simp] theorem State.dpll_setChange (s : State) (c : Change) : (s.setChange c).dpll = s.dpll := rfl

theorem State.dpll_coreLost (s : State) (cause d : Nat) : ((s.coreLost cause d).dpll d).coreRetired = true :=
  congrArg Dpll.coreRetired (State.dpll_updDpll_same _ _ _)

/-- The drive passes to the other core, and the change goes on as `c` says. -/
theorem State.swapCore_leaves {c' : Change} {d : Nat} (hc : s.change 1 = some c) (hr : c'.region = c.region) :
    (s.swapCore d c').change 1 = some c' ∧ (s.swapCore d c').dpll d = { s.dpll d with core := !(s.dpll d).core } := by
  unfold State.swapCore evStep
  rw [State.change_raise, State.dpll_raise]
  exact ⟨State.change_setChange hc (hr.trans (State.region_of_change hc)), State.dpll_updDpll_same s d fun x => { x with core := !x.core }⟩

variable (hl : s.live = true) (hc : s.change 1 = some c) (hm : c.method = 3) (hd : c.pos = d.val)
include hl hc hm hd

theorem exec_coreLoadDone (hphase : c.phase = 1) (hfault : c.faulted = false) :
    exec (.coreLoadDone d true) s = .next ((s.updDpll d.val fun x => { x with coreRetired := c.faulted && c.failed }).setChange
      { c with phase := 3 }) ∧
    exec (.coreLoadDone d false) s = .next ((s.coreLost (if c.faulted then 5 else 1) d.val).endChange c stFault).refreshHealth := by
  have hin : s.swapIn d.val 1 = some c := State.inPhase_of hc hphase (by simp [hm, hd])
  constructor
  · show execCoreLoadDone d true s = _
    unfold execCoreLoadDone
    rw [hin]
    refine (happen_of _ _ hl).trans (congrArg Host.Outcome.next ?_)
    exact (if_neg (by decide)).trans (if_pos (by rw [hfault]; rfl))
  · show execCoreLoadDone d false s = _
    unfold execCoreLoadDone
    rw [hin]
    refine (happen_of _ _ hl).trans (congrArg Host.Outcome.next ?_)
    exact (if_pos rfl).trans (congrArg State.refreshHealth (if_pos (by rw [hfault]; rfl)))

theorem exec_coreLoadDone_faulted (hphase : c.phase = 1) (hfault : c.faulted = true) (hfirst : c.outgoing = 0) :
    exec (.coreLoadDone d true) s = .next (((s.updDpll d.val fun x => { x with coreRetired := c.faulted && c.failed }).updDpll d.val
      fun x => { x with coreFault := false }).swapCore d.val
        { c with incoming := 1 - c.incoming, outgoing := 1, done := c.done + 1, lastFreed := d.val }).refreshHealth ∧
    exec (.coreLoadDone d false) s = .next ((s.coreLost (if c.faulted then 5 else 1) d.val).setChange
      { c with incoming := 1 - c.incoming, outgoing := 1, failed := true }).refreshHealth := by
  have hin : s.swapIn d.val 1 = some c := State.inPhase_of hc hphase (by simp [hm, hd])
  constructor
  · show execCoreLoadDone d true s = _
    unfold execCoreLoadDone
    rw [hin]
    refine (happen_of _ _ hl).trans (congrArg Host.Outcome.next ?_)
    exact (if_neg (by decide)).trans ((if_neg (by rw [hfault]; decide)).trans (congrArg State.refreshHealth (if_pos hfirst)))
  · show execCoreLoadDone d false s = _
    unfold execCoreLoadDone
    rw [hin]
    refine (happen_of _ _ hl).trans (congrArg Host.Outcome.next ?_)
    exact (if_pos rfl).trans (congrArg State.refreshHealth ((if_neg (by rw [hfault]; decide)).trans (if_pos hfirst)))

theorem exec_coreFollowDone (hphase : c.phase = 3) (ok : Bool) : exec (.coreFollowDone d ok) s = .next
    (if !ok then ((s.coreLost 5 d.val).endChange c stFault).refreshHealth
     else if c.outgoing = 0 then
       s.swapCore d.val { c with done := c.done + 1, lastFreed := d.val, phase := 1, incoming := 1 - c.incoming, outgoing := 1 }
     else (s.swapCore d.val { c with done := c.done + 1, lastFreed := d.val }).nextDpll { c with done := c.done + 1, lastFreed := d.val }) := by
  show execCoreFollowDone d ok s = _
  unfold execCoreFollowDone
  rw [show s.swapIn d.val 3 = some c from State.inPhase_of hc hphase (by simp [hm, hd])]
  exact happen_of _ _ hl

end

/-- After the last DPLL and position the change ends; the DPLLs are as they are. -/
theorem State.nextDpll_ends {s : State} {c : Change} {r : Nat} (hr : c.region = r) (hlast : c.positions.tail = []) :
    (s.nextDpll c).change r = none ∧ (s.nextDpll c).dpll = s.dpll := by
  subst hr
  unfold State.nextDpll
  dsimp only
  rw [hlast]
  exact ⟨s.change_endChange { c with positions := [] } _, s.dpll_endChange _ _⟩

end Sys2Proof.Machine
end

section
/-!
PROOFS. The statement about Service (spec/18), part by part: images, the start of a change, rolling steps, migrations, core swaps,
the handover, ageing.
-/

set_option Elab.async false

namespace Sys2Proof.Machine

/-! ### Images and the handover's start -/

theorem serviceHandover_leaves (c : Cmd) (s : State) (hp : serviceHandoverOp.passes c s) : ∃ u : State,
    exec (.serviceHandover c) s = .next (u.answered c 0x0E03 1 [w32 s.clerk.nextJob]) ∧
    (s.live = true → u.serv = { s.serv with handover := some ⟨s.clerk.nextJob, (c.p 0).fld 0 0, 1⟩ } ∧ u.hier.ctlStandby = 1 ∧
      u.clerk.jobs = s.clerk.jobs ++ [⟨s.clerk.nextJob, 0x0E03, c.target.toNat, c.params, 0, false⟩]) ∧
    (s.live = false → u.boot.phase = .image ∧ u.boot.record = (c.p 0).fld 0 0 ∧ u.boot.trying = (c.p 0).fld 0 0 ∧
      u.boot.fallback = false ∧ u.serv = s.serv) := by
  cases hl : s.live with
  | true =>
    refine ⟨_, exec_of_accepted (op := serviceHandoverOp) rfl hp (if_pos hl), fun _ => ⟨?_, ?_, ?_⟩, nofun⟩
    · rw [State.serv_refreshHealth]; rfl
    · exact State.ctlStandby_of_core (State.core_refreshHealth _)
    · rw [State.jobs_refreshHealth]; rfl
  | false =>
    refine ⟨_, exec_of_accepted (op := serviceHandoverOp) rfl hp (if_neg (by rw [hl]; decide)), nofun, fun _ => ⟨rfl, rfl, rfl, rfl, rfl⟩⟩

section
variable {s : State} {readError : Bool} {outside : List Word} {j : Job} (hup : (s.live || s.rom) = true)
  (hj : s.findJob 0x0E02 (fun _ => true) = some j)
include hup hj

theorem verifyDone_good_leaves
    (hgood : (if readError then 6 else imageCause s.hall.fuses ((s.slotWords s.standbySlot).getD outside)) = 0) :
    ∃ t, exec (.verifyDone readError outside) s = .next t ∧
      t.serv.verified = some (imageInfo ((s.slotWords s.standbySlot).getD outside)) ∧
      t.measure 2 = sha384 (s.measure 2 ++ sha384 (imageInfo ((s.slotWords s.standbySlot).getD outside)).digest) ∧
      t.clerk.jobs = s.clerk.jobs.filter (fun k => k.num != j.num) ∧
      (t.clerk.ended.head?.map fun e => (e.num, e.status)) = some (j.num, 0) := by
  obtain ⟨k, hk⟩ := State.find_num_of_findJob hj
  refine ⟨_, exec_verifyDone_good hup hj hgood, ?_, ?_, ?_⟩
  · rw [State.serv_endJob, State.verified_setVerified]
  · rw [State.measure_of_hall (State.hall_endJob _ _ _ _), State.measure_setVerified _ _ (by decide), State.measure_extend_same]
  · refine (State.endJob_leaves (k := k) ?_).imp_left fun h => h.trans ?_
    · rw [State.setVerified_clerk]; exact hk
    · rw [State.setVerified_clerk]; rfl

theorem verifyDone_bad_leaves
    (hbad : (if readError then 6 else imageCause s.hall.fuses ((s.slotWords s.standbySlot).getD outside)) ≠ 0) :
    ∃ t, exec (.verifyDone readError outside) s = .next t ∧ t.serv.verified = none ∧ t.measure 2 = s.measure 2 ∧
      t.clerk.jobs = s.clerk.jobs.filter (fun k => k.num != j.num) ∧
      (t.clerk.ended.head?.map fun e => (e.num, e.status)) = some (j.num, 0x19) := by
  obtain ⟨k, hk⟩ := State.find_num_of_findJob hj
  refine ⟨_, exec_verifyDone_bad hup hj hbad, ?_, ?_, ?_⟩
  · rw [State.serv_endJob, State.imageRejected, State.serv_raise, State.verified_setVerified]
  · rw [State.measure_of_hall (State.hall_endJob _ _ _ _), State.imageRejected, State.measure_of_hall (State.hall_raise _ _ _ _ _),
      State.measure_setVerified _ _ (by decide)]
  · refine (State.endJob_leaves (k := k) ?_).imp_left fun h => h.trans ?_
    · rw [State.imageRejected, State.raise_jobs, State.setVerified_clerk]; exact hk
    · rw [State.imageRejected, State.raise_jobs, State.setVerified_clerk]

end

/-! ### The start of a change -/

section
variable {c : Cmd} {s : State} (hnone : s.change (haRegion c.target.toNat) = none)
include hnone

/-- The record that a change of DPLLs starts with. -/
theorem State.change_of_dplls (h : s.migrates c = none) (hd : changedDplls c ≠ []) : ∃ k : Change,
    (s.startChange c).change (haRegion c.target.toNat) = some k ∧ k.region = haRegion c.target.toNat ∧ k.job = some s.clerk.nextJob ∧
      k.done = 0 ∧ k.cancelled = false ∧ k.update = ((c.p 0).fld 31 30 == 1) ∧ k.method = 3 ∧ k.phase = 1 ∧
      k.positions = (s.swapChange c).positions := by
  rw [State.startChange_of_dplls h hd]
  exact ⟨_, State.change_setChange (State.change_addChange hnone rfl) rfl, rfl, rfl, rfl, rfl, rfl, rfl, rfl, rfl⟩

/-- The record that a pass starts with, its spare block in RETEST. -/
theorem State.change_of_pass (h : s.migrates c = none) (hd : changedDplls c = []) (hb : haBlock c.target.toNat = 0x3F) {sp : Nat}
    (hsp : s.spareBlock (haRegion c.target.toNat) = some sp) :
    (s.startChange c).change (haRegion c.target.toNat) = some { s.passChange c with method := 1, phase := 0, incoming := sp } ∧
      ((s.startChange c).block (haRegion c.target.toNat) sp).state = 4 := by
  rw [State.startChange_of_pass h hd hb]
  unfold State.beginPass
  rw [show (s.addChange c (s.passChange c)).spareBlock (s.passChange c).region = some sp from hsp]
  exact ⟨State.change_setChange (State.change_addChange (c := c) (k := s.passChange c) hnone rfl) rfl, congrArg Block.state (State.block_setBlock_same _ _ _ _)⟩

/-- The record of a block that serves no position, which goes into RETEST at once. -/
theorem State.change_of_idle (h : s.migrates c = none) (hd : changedDplls c = []) (hb : haBlock c.target.toNat ≠ 0x3F)
    (hserves : (s.block (haRegion c.target.toNat) (haBlock c.target.toNat)).serves = 0x3F) :
    (s.startChange c).change (haRegion c.target.toNat) =
        some { s.newChange c with phase := 4, incoming := haBlock c.target.toNat, outgoing := haBlock c.target.toNat } ∧
      ((s.startChange c).block (haRegion c.target.toNat) (haBlock c.target.toNat)).state = 4 := by
  rw [State.startChange_of_idle h hd hb hserves, State.change_setBlock, State.block_setBlock_same]
  exact ⟨State.change_addChange hnone rfl, rfl⟩

/-- The record of a single step, its spare block in RETEST. -/
theorem State.change_of_step (h : s.migrates c = none) (hd : changedDplls c = []) (hb : haBlock c.target.toNat ≠ 0x3F)
    (hserves : (s.block (haRegion c.target.toNat) (haBlock c.target.toNat)).serves ≠ 0x3F) {sp : Nat}
    (hsp : (s.spareBlock (haRegion c.target.toNat)).getD 0 = sp) :
    (s.startChange c).change (haRegion c.target.toNat) = some { s.newChange c with
        positions := [(s.block (haRegion c.target.toNat) (haBlock c.target.toNat)).serves], incoming := sp } ∧
      ((s.startChange c).block (haRegion c.target.toNat) sp).state = 4 := by
  rw [State.startChange_of_step h hd hb hserves hsp, State.change_setBlock, State.block_setBlock_same]
  exact ⟨State.change_addChange hnone rfl, rfl⟩

end

theorem serviceChange_leaves (c : Cmd) (s : State) (hp : serviceChangeOp.passes c s) (hnone : s.change (haRegion c.target.toNat) = none) :
    ∃ (u : State) (k : Change),
      exec (.serviceChange c) s = .next (u.answered c 0x0E04 1 [w32 s.clerk.nextJob]) ∧ u.change (haRegion c.target.toNat) = some k ∧
      k.region = haRegion c.target.toNat ∧ k.job = some s.clerk.nextJob ∧ k.done = 0 ∧ k.cancelled = false ∧
      k.update = ((c.p 0).fld 31 30 == 1) ∧
      (∀ m, s.migrates c = some m → k.method = 2 ∧ k.phase = 1 ∧ k.incoming = m ∧ k.outgoing = haRegion c.target.toNat) ∧
      (s.migrates c = none → changedDplls c ≠ [] → k.method = 3 ∧ k.phase = 1 ∧
        k.positions = changedDplls c ++ (if haBlock c.target.toNat = 0x3F then s.passPositions (haRegion c.target.toNat) else [])) ∧
      (s.migrates c = none → changedDplls c = [] → haBlock c.target.toNat = 0x3F → ∀ sp, s.spareBlock (haRegion c.target.toNat) = some sp →
        k.method = 1 ∧ k.phase = 0 ∧ k.incoming = sp ∧ k.positions = s.passPositions (haRegion c.target.toNat) ∧
        (u.block (haRegion c.target.toNat) sp).state = 4) ∧
      (s.migrates c = none → changedDplls c = [] → haBlock c.target.toNat ≠ 0x3F →
        (s.block (haRegion c.target.toNat) (haBlock c.target.toNat)).serves = 0x3F →
        k.method = 1 ∧ k.phase = 4 ∧ k.outgoing = haBlock c.target.toNat ∧
        (u.block (haRegion c.target.toNat) (haBlock c.target.toNat)).state = 4) ∧
      (s.migrates c = none → changedDplls c = [] → haBlock c.target.toNat ≠ 0x3F →
        (s.block (haRegion c.target.toNat) (haBlock c.target.toNat)).serves ≠ 0x3F → ∀ sp, s.spareBlock (haRegion c.target.toNat) = some sp →
        k.method = 1 ∧ k.phase = 1 ∧ k.incoming = sp ∧ k.positions = [(s.block (haRegion c.target.toNat) (haBlock c.target.toNat)).serves] ∧
        (u.block (haRegion c.target.toNat) sp).state = 4) := by
  have hexec : exec (.serviceChange c) s = .next ((s.startChange c).answered c 0x0E04 1 [w32 s.clerk.nextJob]) :=
    exec_of_accepted (op := serviceChangeOp) rfl hp rfl
  cases h : s.migrates c with
  | some m =>
    have hstart := State.startChange_of_migrates h
    refine ⟨_, _, hexec, hstart ▸ State.change_addChange hnone rfl, rfl, rfl, rfl, rfl, rfl, fun m' hm' => ?_, nofun, nofun, nofun, nofun⟩
    cases hm'
    exact ⟨rfl, rfl, rfl, rfl⟩
  | none =>
    by_cases hd : changedDplls c = []
    case neg =>
      obtain ⟨k, hk, hregion, hjob, hdone, hcancel, hupdate, hmethod, hphase, hpos⟩ := State.change_of_dplls hnone h hd
      exact ⟨_, k, hexec, hk, hregion, hjob, hdone, hcancel, hupdate, nofun, fun _ _ => ⟨hmethod, hphase, hpos⟩,
        fun _ hd' => absurd hd' hd, fun _ hd' => absurd hd' hd, fun _ hd' => absurd hd' hd⟩
    case pos =>
      by_cases hb : haBlock c.target.toNat = 0x3F
      case pos =>
        obtain ⟨sp, hsp⟩ := spareBlock_of_serviceChange_passes hp h hb
        obtain ⟨hk, hblock⟩ := State.change_of_pass hnone h hd hb hsp
        refine ⟨_, _, hexec, hk, rfl, rfl, rfl, rfl, rfl, nofun, fun _ hd' => absurd hd hd', fun _ _ _ sp' hsp' => ?_,
          fun _ _ hb' => absurd hb hb', fun _ _ hb' => absurd hb hb'⟩
        cases hsp.symm.trans hsp'
        exact ⟨rfl, rfl, rfl, rfl, hblock⟩
      case neg =>
        by_cases hserves : (s.block (haRegion c.target.toNat) (haBlock c.target.toNat)).serves = 0x3F
        case pos =>
          obtain ⟨hk, hblock⟩ := State.change_of_idle hnone h hd hb hserves
          exact ⟨_, _, hexec, hk, rfl, rfl, rfl, rfl, rfl, nofun, fun _ hd' => absurd hd hd', fun _ _ hb' => absurd hb' hb,
            fun _ _ _ _ => ⟨rfl, rfl, rfl, hblock⟩, fun _ _ _ hs' => absurd hserves hs'⟩
        case neg =>
          obtain ⟨hk, hblock⟩ := State.change_of_step hnone h hd hb hserves rfl
          refine ⟨_, _, hexec, hk, rfl, rfl, rfl, rfl, rfl, nofun, fun _ hd' => absurd hd hd', fun _ _ hb' => absurd hb' hb,
            fun _ _ _ hs' => absurd hs' hserves, fun _ _ _ _ sp hsp => ?_⟩
          have hspare : (s.spareBlock (haRegion c.target.toNat)).getD 0 = sp := by rw [hsp]; rfl
          exact ⟨rfl, rfl, hspare, rfl, hspare ▸ hblock⟩

/-! ### Rolling steps -/

section
variable {s : State} {r : Fin 30} {c : Change} (hl : s.live = true) (hc : s.change r.val = some c) (hm : c.method = 1) (bad : List Nat)
include hl hc hm

section
variable (hphase : c.phase = 0)
include hphase

theorem retestDone_spare_passes (hpass : ((s.block r.val c.incoming).retested bad).2 = true) : ∃ t, exec (.retestDone r bad) s = .next t ∧
    t.change r.val = some { c with phase := 1 } ∧ (t.block r.val c.incoming).state = 4 ∧ (t.block r.val c.incoming).suspect = [] := by
  obtain ⟨htrue, hblock⟩ := State.retest_of_pass (image := s.imageFor c.update r.val c.incoming) hpass
  refine ⟨_, exec_retestDone_spare hl hc hm hphase bad, ?_⟩
  rw [if_pos htrue, State.change_afterFault, State.block_afterFault, State.beginStep_rolling hm, State.block_setChange,
    State.block_setBlock_same, hblock]
  refine ⟨State.change_setChange (c := c) ?_ (State.region_of_change hc :), rfl, rfl⟩
  exact (State.change_of_serv (State.serv_retest s _ _ _ _) r.val).trans hc

theorem retestDone_spare_fails (hfail : ((s.block r.val c.incoming).retested bad).2 = false) : ∃ t, exec (.retestDone r bad) s = .next t ∧
    t.change r.val = none ∧ (t.block r.val c.incoming).state = 3 := by
  obtain ⟨hfalse, hblock⟩ := State.retest_of_fail (image := s.imageFor c.update r.val c.incoming) hfail
  refine ⟨_, exec_retestDone_spare hl hc hm hphase bad, ?_⟩
  rw [if_neg (by rw [hfalse]; decide), State.change_afterFault, State.block_afterFault, State.block_endChange, evStepFailed,
    State.block_raise, State.change_endChange_of (State.region_of_change hc)]
  exact ⟨rfl, hblock⟩

end

section
variable (hphase : c.phase = 4) (hidle : isFec r.val = true → s.blockBusy r.val c.outgoing = 0)
include hphase hidle

theorem retestDone_freed_passes (hpass : ((s.block r.val c.outgoing).retested bad).2 = true) : ∃ t, exec (.retestDone r bad) s = .next t ∧
    (c.positions.tail ≠ [] → c.cancelled = false →
      t.change r.val = some { c with phase := 1, positions := c.positions.tail, incoming := c.outgoing } ∧ (t.block r.val c.outgoing).state = 4) ∧
    ((c.positions.tail = [] ∨ c.cancelled = true) → t.change r.val = none ∧ (t.block r.val c.outgoing).state = 1 ∧
      (t.block r.val c.outgoing).image = s.imageFor c.update r.val c.outgoing) := by
  obtain ⟨htrue, hblock⟩ := State.retest_of_pass (image := s.imageFor c.update r.val c.outgoing) hpass
  refine ⟨_, exec_retestDone_freed hl hc hm hphase hidle bad, ?_⟩
  rw [if_pos htrue, State.change_afterFault, State.block_afterFault]
  generalize hu : evStep 1 c.pos c.incoming c.outgoing (haOf r.val c.outgoing 0x3F)
    (s.retest r.val c.outgoing bad (s.imageFor c.update r.val c.outgoing)).2 = u
  have hchange : u.change r.val = some c := by
    rw [← hu, evStep, State.change_raise]
    exact (State.change_of_serv (State.serv_retest s _ _ _ _) r.val).trans hc
  refine ⟨State.nextStep_goes hchange hm, fun hlast => ?_⟩
  obtain ⟨hnone, hkept⟩ := State.nextStep_ends (b := c.outgoing) hchange hlast
  rw [hnone, hkept, ← hu, evStep, State.block_raise, hblock]
  exact ⟨rfl, rfl, rfl⟩

theorem retestDone_freed_fails (hfail : ((s.block r.val c.outgoing).retested bad).2 = false) : ∃ t, exec (.retestDone r bad) s = .next t ∧
    t.change r.val = none ∧ (t.block r.val c.outgoing).state = 3 := by
  obtain ⟨hfalse, hblock⟩ := State.retest_of_fail (image := s.imageFor c.update r.val c.outgoing) hfail
  refine ⟨_, exec_retestDone_freed hl hc hm hphase hidle bad, ?_⟩
  rw [if_neg (by rw [hfalse]; decide), State.change_afterFault, State.block_afterFault, State.block_endChange, evStepFailed,
    State.block_raise, State.change_endChange_of (State.region_of_change hc)]
  exact ⟨rfl, hblock⟩

end
end

/-! ### Migrations -/

section
variable {s : State} {r : Fin 30} {c : Change} (hl : s.live = true) (hc : s.change r.val = some c) (hm : c.method = 2)
include hl hc hm

section
variable (hne : c.incoming ≠ r.val)
include hne

theorem migrationLoadDone_leaves (hfec : isFec r.val = true) (hphase : c.phase = 1) :
    (∃ t, exec (.migrationLoadDone r true) s = .next t ∧ t.change r.val = some { c with phase := 3, done := 1 } ∧
      (t.region c.incoming).poolRole = 0 ∧ (t.region r.val).poolRole = 2) ∧
    ∃ t, exec (.migrationLoadDone r false) s = .next t ∧ t.change r.val = none ∧ (t.region c.incoming).poolRole = 3 := by
  refine ⟨⟨_, exec_migrationLoadDone hl hc hm hfec hphase true, ?_⟩, _, exec_migrationLoadDone hl hc hm hfec hphase false, ?_⟩
  · rw [if_pos rfl, State.change_afterFault, State.region_afterFault, State.region_afterFault]
    refine ⟨State.change_setChange (c := c) ?_ (State.region_of_change hc :), State.region_swapRoles (State.region_of_change hc) hne⟩
    exact (State.change_of_serv (State.serv_loadRegion s _ _) r.val).trans hc
  · rw [if_neg (by decide), State.change_afterFault, State.region_afterFault, State.region_endChange, evStepFailed, evExhausted,
      State.region_raise, State.region_raise, State.region_setRegion_same, State.change_endChange_of (State.region_of_change hc)]
    exact ⟨rfl, rfl⟩

theorem switch_migration_leaves (hciph : isCiph r.val = true) (hphase : c.phase = 3) (hrole : (s.region r.val).poolRole = 0) :
    ∃ t, exec (.switch r) s = .next t ∧ t.change r.val = some { c with done := 1 } ∧ (t.region c.incoming).poolRole = 0 ∧
      (t.region r.val).poolRole = 2 := by
  refine ⟨_, exec_switch_migration hl hc hm hciph hphase hrole, ?_⟩
  rw [State.change_afterFault, State.region_afterFault, State.region_afterFault]
  exact ⟨State.change_setChange (c := c) hc (State.region_of_change hc :), State.region_swapRoles (State.region_of_change hc) hne⟩

end

theorem decodesDrained_leaves (hphase : c.phase = 3) (hrole : (s.region r.val).poolRole = 2) (hdrained : s.drainedRegion r.val = true) :
    ∃ t, exec (.decodesDrained r) s = .next t ∧ t.change r.val = some { c with phase := 4 } ∧
      t.region r.val = { s.region r.val with isolated := true } := by
  refine ⟨_, exec_decodesDrained hl hc hm hphase hrole hdrained, State.change_setChange (c := c) hc (State.region_of_change hc :), ?_⟩
  rw [State.region_setChange, State.region_setRegion_same]

theorem migrationRetestDone_leaves (hphase : c.phase = 4) (bad : List (Nat × Nat)) :
    ((s.retestRegion r.val c.update bad).1 = true → ∃ t, exec (.migrationRetestDone r bad) s = .next t ∧
      t.change r.val = none ∧ (t.region r.val).poolRole = 1 ∧ (t.region r.val).isolated = false) ∧
    ((s.retestRegion r.val c.update bad).1 = false → ∃ t, exec (.migrationRetestDone r bad) s = .next t ∧
      t.change r.val = none ∧ (t.region r.val).poolRole = 3) := by
  have hregion := State.region_of_change hc
  refine ⟨fun hpass => ⟨_, exec_migrationRetestDone hl hc hm hphase bad, ?_⟩, fun hfail => ⟨_, exec_migrationRetestDone hl hc hm hphase bad, ?_⟩⟩
  · rw [if_pos hpass, State.change_afterFault, State.region_afterFault, State.finishChange, State.region_endChange,
      State.region_setRegion_same, State.change_endChange_of hregion]
    exact ⟨rfl, rfl, rfl⟩
  · rw [if_neg (by rw [hfail]; decide), State.change_afterFault, State.region_afterFault, State.region_endChange, evStepFailed,
      State.region_raise, State.region_setRegion_same, State.change_endChange_of hregion]
    exact ⟨rfl, rfl⟩

end

/-! ### Core swaps -/

section
variable {s : State} {d : Fin 4} {c : Change} (hl : s.live = true) (hc : s.change 1 = some c) (hm : c.method = 3) (hd : c.pos = d.val)
include hl hc hm hd

theorem coreLoadDone_leaves (hphase : c.phase = 1) (hfault : c.faulted = false) :
    (∃ t, exec (.coreLoadDone d true) s = .next t ∧ t.change 1 = some { c with phase := 3 } ∧ (t.dpll d.val).coreRetired = false) ∧
    ∃ t, exec (.coreLoadDone d false) s = .next t ∧ t.change 1 = none ∧ (t.dpll d.val).coreRetired = true := by
  obtain ⟨hgood, hbad⟩ := exec_coreLoadDone hl hc hm hd hphase hfault
  refine ⟨⟨_, hgood, State.change_setChange (c := c) hc (State.region_of_change hc :), ?_⟩, _, hbad, ?_⟩
  · rw [State.dpll_setChange, State.dpll_updDpll_same, hfault]
    rfl
  · rw [State.change_refreshHealth, State.dpll_refreshHealth, State.dpll_endChange,
      State.change_endChange_of (State.region_of_change hc)]
    exact ⟨rfl, State.dpll_coreLost _ _ _⟩

theorem coreLoadDone_faulted_leaves (hphase : c.phase = 1) (hfault : c.faulted = true) (hfirst : c.outgoing = 0) :
    (∃ t, exec (.coreLoadDone d true) s = .next t ∧ (t.dpll d.val).coreFault = false ∧ (t.dpll d.val).core = !(s.dpll d.val).core ∧
      t.change 1 = some { c with incoming := 1 - c.incoming, outgoing := 1, done := c.done + 1, lastFreed := d.val }) ∧
    ∃ t, exec (.coreLoadDone d false) s = .next t ∧ (t.dpll d.val).coreRetired = true ∧
      t.change 1 = some { c with incoming := 1 - c.incoming, outgoing := 1, failed := true } := by
  obtain ⟨hgood, hbad⟩ := exec_coreLoadDone_faulted hl hc hm hd hphase hfault hfirst
  refine ⟨⟨_, hgood, ?_⟩, _, hbad, ?_⟩
  · have hfreed : ((s.updDpll d.val fun x => { x with coreRetired := c.faulted && c.failed }).updDpll d.val
        fun x => { x with coreFault := false }).change 1 = some c := hc
    obtain ⟨hchange, hdpll⟩ := State.swapCore_leaves (d := d.val)
      (c' := { c with incoming := 1 - c.incoming, outgoing := 1, done := c.done + 1, lastFreed := d.val }) hfreed rfl
    rw [State.change_refreshHealth, State.dpll_refreshHealth, hchange, hdpll, State.dpll_updDpll_same, State.dpll_updDpll_same]
    exact ⟨rfl, rfl, rfl⟩
  · rw [State.change_refreshHealth, State.dpll_refreshHealth, State.dpll_setChange]
    refine ⟨State.dpll_coreLost _ _ _, State.change_setChange (c := c) ?_ (State.region_of_change hc :)⟩
    rw [State.change_coreLost, hc]

theorem coreFollowDone_leaves (hphase : c.phase = 3) :
    (c.outgoing = 0 → ∃ t, exec (.coreFollowDone d true) s = .next t ∧ (t.dpll d.val).core = !(s.dpll d.val).core ∧
      t.change 1 = some { c with phase := 1, done := c.done + 1, lastFreed := d.val, incoming := 1 - c.incoming, outgoing := 1 }) ∧
    (c.outgoing ≠ 0 → c.positions.tail = [] → ∃ t, exec (.coreFollowDone d true) s = .next t ∧
      (t.dpll d.val).core = !(s.dpll d.val).core ∧ t.change 1 = none) ∧
    ∃ t, exec (.coreFollowDone d false) s = .next t ∧ (t.dpll d.val).coreRetired = true ∧ t.change 1 = none := by
  refine ⟨fun hfirst => ⟨_, exec_coreFollowDone hl hc hm hd hphase true, ?_⟩,
    fun hsecond hlast => ⟨_, exec_coreFollowDone hl hc hm hd hphase true, ?_⟩, _, exec_coreFollowDone hl hc hm hd hphase false, ?_⟩
  · rw [if_neg (by decide), if_pos hfirst]
    obtain ⟨hchange, hdpll⟩ := State.swapCore_leaves (d := d.val)
      (c' := { c with done := c.done + 1, lastFreed := d.val, phase := 1, incoming := 1 - c.incoming, outgoing := 1 }) hc rfl
    rw [hdpll]
    exact ⟨rfl, hchange⟩
  · rw [if_neg (by decide), if_neg hsecond]
    obtain ⟨_, hdpll⟩ := State.swapCore_leaves (d := d.val) (c' := { c with done := c.done + 1, lastFreed := d.val }) hc rfl
    obtain ⟨hends, hkept⟩ := State.nextDpll_ends (s := s.swapCore d.val { c with done := c.done + 1, lastFreed := d.val })
      (c := { c with done := c.done + 1, lastFreed := d.val }) (State.region_of_change hc :) hlast
    rw [hkept, hdpll]
    exact ⟨rfl, hends⟩
  · rw [if_pos (by decide), State.change_refreshHealth, State.dpll_refreshHealth, State.dpll_endChange,
      State.change_endChange_of (State.region_of_change hc)]
    exact ⟨State.dpll_coreLost _ _ _, rfl⟩

end

/-! ### The handover's stages -/

section
variable {s : State} {h : Handover} (hl : s.live = true) (hh : s.serv.handover = some h)
include hl hh

theorem handoverLoadDone_leaves (hstage : h.stage = 1) :
    (∃ t, exec (.handoverLoadDone true) s = .next t ∧ t.hier.ctlStandby = 0 ∧ t.serv.handover = some { h with stage := 2 }) ∧
    ∃ t, exec (.handoverLoadDone false) s = .next t ∧ t.hier.ctlStandby = 2 ∧ t.serv.handover = none := by
  have hat := State.handoverAt_of hh hstage
  refine ⟨⟨_, exec_handoverLoadDone hl hat true, State.ctlStandby_of_core (State.core_refreshHealth _), ?_⟩,
    _, exec_handoverLoadDone hl hat false, State.hier_pairLost⟩
  rw [if_pos rfl, State.serv_refreshHealth]
  rfl

theorem handoverTakeover_leaves (hstage : h.stage = 2) (hready : s.pairReady = true) (v : ImageInfo) (hv : s.serv.verified = some v) :
    ∃ t, exec .handoverTakeover s = .next t ∧
      t.hier.ctlActive = 1 - s.hier.ctlActive ∧ t.hier.ctlStandby = 1 ∧ t.boot.fwImage = h.slot ∧ t.boot.fwVersion = v.version ∧
      t.boot.record = h.slot ∧ t.serv.running = v ∧ t.serv.verified = none ∧ t.serv.handover = some { h with stage := 3 } ∧
      t.measure 1 = sha384 (s.measure 1 ++ sha384 v.digest) ∧
      t.measure 3 = sha384 (s.measure 3 ++ sha384 (svnItem s.hall.fuses v.svn none)) ∧ t.out = s.out ++ [.bootRecord h.slot] := by
  refine ⟨_, exec_handoverTakeover hl (State.handoverAt_of hh hstage) hv hready, ?_⟩
  generalize ht : ((evStep 4 0 (1 - s.hier.ctlActive) s.hier.ctlActive clerkHa (s.takenOver h v)).emit (.bootRecord h.slot)).refreshHealth = t
  have hraise : (evStep 4 0 (1 - s.hier.ctlActive) s.hier.ctlActive clerkHa (s.takenOver h v)).out = s.out :=
    (State.raise_keeps (cs := [.clerk, .hier, .tally]) (Keeps.refl _)).frame .out (by decide)
  have hkeeps : Keeps [.clerk, .hier, .tally] _ t := ht ▸ State.refreshHealth_keeps (Keeps.refl _)
  have hcore : t.hier.core = (s.takenOver h v).hier.core := by
    rw [← ht, State.core_refreshHealth]
    exact State.core_raise _ _ _ _ _
  have hboot : t.boot = (s.takenOver h v).boot :=
    (hkeeps.frame .boot (by decide)).trans
      ((State.raise_keeps (cs := [.clerk, .hier, .tally]) (Keeps.refl (s.takenOver h v))).frame .boot (by decide))
  have hserv : t.serv = (s.takenOver h v).serv := (hkeeps.serv_eq (by decide)).trans (State.serv_raise _ _ _ _ _)
  have hhall : t.hall = (s.takenOver h v).hall := (hkeeps.hall_eq (by decide)).trans (State.hall_raise _ _ _ _ _)
  have hout : t.out = s.out ++ [.bootRecord h.slot] :=
    (hkeeps.frame .out (by decide)).trans (congrArg (· ++ [Out.bootRecord h.slot]) hraise)
  obtain ⟨hmeasure1, hmeasure3⟩ := State.measure_takenOver (s := s) (h := h) v
  rw [State.ctlActive_of_core hcore, State.ctlStandby_of_core hcore, hboot, hserv, State.measure_of_hall hhall, State.measure_of_hall hhall]
  exact ⟨rfl, rfl, rfl, rfl, rfl, rfl, rfl, rfl, hmeasure1, hmeasure3, hout⟩

theorem formerPairReady_leaves (hstage : h.stage = 3) :
    (∃ t, exec (.formerPairReady true) s = .next t ∧ t.hier.ctlStandby = 0 ∧ t.serv.handover = none ∧
      ∀ j ∈ t.clerk.jobs, j.num ≠ h.job) ∧
    ∃ t, exec (.formerPairReady false) s = .next t ∧ t.hier.ctlStandby = 2 ∧ t.serv.handover = none := by
  have hat := State.handoverAt_of hh hstage
  refine ⟨⟨_, exec_formerPairReady hl hat true, ?_⟩, _, exec_formerPairReady hl hat false, State.hier_pairLost⟩
  rw [if_pos rfl, State.serv_refreshHealth, State.jobs_refreshHealth, State.endHandover, State.serv_endJob]
  exact ⟨State.ctlStandby_of_core (s := s.withHier { s.hier with ctlStandby := 0 })
    ((State.core_refreshHealth _).trans (State.core_endJob _ _ _ _)), rfl, State.num_ne_of_endJob⟩

end

/-! ### Ageing -/

theorem ageingDaily_leaves {s : State} (hl : s.live = true) (mv years : Nat) (growth : List (Nat × Nat)) :
    ∃ t, exec (.ageingDaily mv years growth) s = .next t ∧
      t.serv.days = s.serv.days + 1 ∧ t.serv.vddNow = mv ∧ t.serv.vddFirst = (if s.serv.days = 0 then mv else s.serv.vddFirst) ∧
      t.serv.yearsLeft = (if s.serv.days + 1 < 30 ∨ 65534 < years then 0xFFFF else years) := by
  refine ⟨_, happen_of _ _ hl, ?_⟩
  rw [apply_ite State.serv, apply_ite State.serv, State.serv_raise, State.serv_raise, ite_self, ite_self]
  exact ⟨rfl, rfl, rfl, rfl⟩

/-! ### The statement -/

/-- Settles O60: each part of Service by its own lemma above. -/
theorem serviceActs : Obligations.ServiceActs := by
  refine ⟨fun c s hp => ⟨_, exec_of_ok (op := serviceImageLoadOp) rfl hp rfl, ?_, State.verified_setVerified _ _, fun h => ?_,
      s.measure_imageLoaded _ _⟩,
    fun c s hp => exec_of_accepted (op := serviceImageVerifyOp) rfl hp rfl,
    fun s readError outside j hup hj => ⟨verifyDone_good_leaves hup hj, verifyDone_bad_leaves hup hj⟩,
    serviceHandover_leaves, serviceChange_leaves,
    fun s r c lost hl hc hm => ⟨fun hphase => ⟨exec_prepareDone_good hl hc hm hphase lost, _,
        exec_prepareDone_fault hl hc hm hphase lost, State.incomingFault_leaves hc hm lost⟩,
      fun hphase => ⟨exec_copyDone_good hl hc hphase lost, _,
        exec_copyDone_fault hl hc hphase lost, State.incomingFault_leaves hc hm lost⟩,
      fun hphase ha hb hne => ⟨_, exec_switch_rolling hl hc hm hphase ha hb, State.change_switched hc, ?_⟩⟩,
    fun s r c bad hl hc hm => ⟨fun hphase => ⟨retestDone_spare_passes hl hc hm bad hphase, retestDone_spare_fails hl hc hm bad hphase⟩,
      fun hphase hidle => ⟨retestDone_freed_passes hl hc hm bad hphase hidle, retestDone_freed_fails hl hc hm bad hphase hidle⟩⟩,
    fun s r c hl hc hm hne => ⟨migrationLoadDone_leaves hl hc hm hne, switch_migration_leaves hl hc hm hne,
      decodesDrained_leaves hl hc hm, migrationRetestDone_leaves hl hc hm⟩,
    fun s d c hl hc hm hd => ⟨coreLoadDone_leaves hl hc hm hd, coreLoadDone_faulted_leaves hl hc hm hd, coreFollowDone_leaves hl hc hm hd⟩,
    fun s h hl hh => ⟨handoverLoadDone_leaves hl hh, handoverTakeover_leaves hl hh, formerPairReady_leaves hl hh⟩,
    fun s mv years growth hl => ageingDaily_leaves hl mv years growth⟩
  · rw [State.slotWords_setVerified, State.slotWords_setSlot_same]
  · rw [State.slotWords_setVerified, State.slotWords_setSlot_other _ _ h]
  · obtain ⟨hstate, hserves⟩ := (State.block_switched s r.val c _ hne).1 rfl
    obtain ⟨hstate', hserves'⟩ := (State.block_switched s r.val c _ hne).2 rfl
    exact ⟨hstate, hserves, hstate', hserves'⟩

end Sys2Proof.Machine
end

section
/-!
PROOFS. Hallmark (spec/16 R449 to R459) and diagnostics (spec/17 R463 to R476): what the opcodes answer and leave, fuses that are
blown, SRAM words that are read, sweeps; and the statement about them.
-/

set_option Elab.async false

namespace Sys2Proof.Machine

/-! ### Hallmark's reads (R449 to R451) -/

theorem certBytes_length (which : Nat) : 1 ≤ (certBytes which).length ∧ (certBytes which).length ≤ 8160 := by
  have hlen := List.length_take_le 8160 (Config.cert which)
  unfold certBytes
  cases hbs : (Config.cert which).take 8160 with
  | nil => exact ⟨Nat.le_refl 1, by decide⟩
  | cons b r =>
    rw [hbs] at hlen
    exact ⟨Nat.succ_pos _, hlen⟩

theorem State.measures_eq (s : State) : s.measures =
    s.measure 0 ++ s.measure 1 ++ s.measure 2 ++ s.measure 3 ++ s.measure 4 ++ s.measure 5 ++ s.measure 6 ++ s.measure 7 := by
  simp [State.measures, List.range_succ]

/-! ### The KEK (R457) -/

section
variable {c : Cmd} {s : State} {o : Offer}

/-- The output keying material of an accept. -/
def kekOkm (c : Cmd) (o : Offer) : List Byte := fixBytes 48 (Config.kekOkm (bytesOf o.message) (acceptQ c) (acceptC c))

/-- The CONFIRM that the output keying material asks. -/
def kekConfirm (c : Cmd) (o : Offer) : List Byte :=
  (fixBytes 48 (Config.hmacSha384 ((kekOkm c o).drop 32) (acceptQ c ++ acceptC c))).take 16

/-- The state without its offer. -/
def State.withoutOffer (s : State) : State := s.withHall { s.hall with offer := none }

/-- The state with the KEK of an accepted offer, register 5 extended. -/
def State.kekTaken (c : Cmd) (o : Offer) (s : State) : State :=
  ((s.withoutOffer.withHall { s.withoutOffer.hall with kek := some ((kekOkm c o).take 32) }).extend 5
    (bytesOf o.message ++ acceptQ c ++ acceptC c)).raise 0x0D04 1 vaultHa o.id

variable (hp : hallmarkKekAcceptOp.passes c s) (ho : s.offerNamed ((c.p 0).fld 15 0) = some o)
include hp ho

theorem exec_hallmarkKekAccept (hgood : kekConfirm c o = acceptConfirm c) :
    exec (.hallmarkKekAccept c) s = .next ((s.kekTaken c o).answered c 0x0D05 0 []) := by
  refine exec_of_ok (op := hallmarkKekAcceptOp) rfl hp ?_
  unfold hallmarkKekAcceptOp
  dsimp only
  rw [ho]
  exact if_pos hgood

theorem exec_hallmarkKekAccept_refused (hbad : kekConfirm c o ≠ acceptConfirm c) : exec (.hallmarkKekAccept c) s =
    .next ((s.withoutOffer.bump (protoCtr c.iface 2) 1).answered c 0x0D05 0x19 [mkw [(31, 16, 0xFFFF), (15, 0, 0x3B)]]) := by
  refine exec_of_declined (op := hallmarkKekAcceptOp) (r := ⟨stRefused, 0xFFFF, 0x3B⟩) rfl hp ?_
  unfold hallmarkKekAcceptOp
  dsimp only
  rw [ho]
  exact if_neg hbad

end

theorem State.hall_kekTaken (c : Cmd) (o : Offer) (s : State) : (s.kekTaken c o).hall.kek = some ((kekOkm c o).take 32) ∧
    (s.kekTaken c o).hall.offer = none ∧ (s.kekTaken c o).hall.fuses = s.hall.fuses ∧
    ∀ k, (s.kekTaken c o).measure k =
      if k = 5 then sha384 (s.measure 5 ++ sha384 (bytesOf o.message ++ acceptQ c ++ acceptC c)) else s.measure k := by
  unfold State.kekTaken
  rw [State.hall_raise]
  refine ⟨rfl, rfl, rfl, fun k => ?_⟩
  rw [State.measure_of_hall (State.hall_raise _ _ _ _ _), State.measure_extend]
  rfl

/-! ### Fuses (R453) -/

section
variable {s : State} {num st : Nat}

@[simp] theorem State.hall_endFuse (s : State) (num st : Nat) : (s.endFuse num st).hall = s.hall := by
  rw [State.endFuse, State.hall_endJob, State.hall_raise]

/-- A fuse job that ends is the latest of those that have ended. -/
theorem State.endFuse_leaves {k : Job} (h : s.clerk.jobs.find? (fun i => i.num == num) = some k) :
    (s.endFuse num st).clerk.jobs = s.clerk.jobs.filter (fun k => k.num != num) ∧
      ((s.endFuse num st).clerk.ended.head?.map fun e => (e.num, e.status)) = some (num, st) := by
  unfold State.endFuse
  refine (State.endJob_leaves (k := k) ?_).imp_left fun hjobs => hjobs.trans ?_
  · rw [State.raise_jobs]; exact h
  · rw [State.raise_jobs]

/-- The state with one more fuse blown, register 3 extended. -/
def State.oneMoreFuse (s : State) : State := (s.withHall { s.hall with fuses := s.hall.fuses + 1 }).measureSvn

theorem State.measure_oneMoreFuse (s : State) : s.oneMoreFuse.measure 3 = sha384 (s.measure 3 ++ sha384
    (svnItem (s.hall.fuses + 1) s.serv.running.svn (s.serv.verified.map fun v => v.svn))) :=
  State.measure_extend_same _ _ _

variable {j : Job} (hl : s.live = true) (hj : s.findJob 0x0D06 (fun _ => true) = some j)
include hl hj

theorem exec_fuseBlown_fails : exec (.fuseBlown false) s = .next (s.endFuse j.num stFault) := by
  show execFuseBlown false s = _
  unfold execFuseBlown
  rw [hj]
  exact (happen_of _ _ hl).trans (congrArg Host.Outcome.next (if_pos rfl))

theorem exec_fuseBlown (hmore : s.hall.fuses < (j.params.getD 0 0).fld 6 0) : exec (.fuseBlown true) s = .next
    (if s.hall.fuses + 1 = (j.params.getD 0 0).fld 6 0 then s.oneMoreFuse.endFuse j.num stOk
     else if j.cancel then s.oneMoreFuse.endFuse j.num stAborted else s.oneMoreFuse) := by
  show execFuseBlown true s = _
  unfold execFuseBlown
  rw [hj]
  exact (happen_of _ _ hl).trans (congrArg Host.Outcome.next ((if_neg (by decide)).trans (if_neg (Nat.not_le.mpr hmore))))

/-- A fuse blown advances the count and register 3; the job ends with its last fuse, or at its cancel. -/
theorem fuseBlown_leaves (hmore : s.hall.fuses < (j.params.getD 0 0).fld 6 0) : ∃ t, exec (.fuseBlown true) s = .next t ∧
    t.hall.fuses = s.hall.fuses + 1 ∧
    t.measure 3 = sha384 (s.measure 3 ++ sha384 (svnItem (s.hall.fuses + 1) s.serv.running.svn (s.serv.verified.map fun v => v.svn))) ∧
    (s.hall.fuses + 1 = (j.params.getD 0 0).fld 6 0 → t.clerk.jobs = s.clerk.jobs.filter (fun k => k.num != j.num) ∧
      (t.clerk.ended.head?.map fun e => (e.num, e.status)) = some (j.num, 0)) ∧
    (s.hall.fuses + 1 ≠ (j.params.getD 0 0).fld 6 0 → j.cancel = true → t.clerk.jobs = s.clerk.jobs.filter (fun k => k.num != j.num) ∧
      (t.clerk.ended.head?.map fun e => (e.num, e.status)) = some (j.num, 0x21)) ∧
    (s.hall.fuses + 1 ≠ (j.params.getD 0 0).fld 6 0 → j.cancel = false → t.clerk = s.clerk) := by
  obtain ⟨k, hk⟩ := State.find_num_of_findJob hj
  have hends (st : Nat) : (s.oneMoreFuse.endFuse j.num st).clerk.jobs = s.clerk.jobs.filter (fun k => k.num != j.num) ∧
      ((s.oneMoreFuse.endFuse j.num st).clerk.ended.head?.map fun e => (e.num, e.status)) = some (j.num, st) :=
    State.endFuse_leaves (s := s.oneMoreFuse) hk
  refine ⟨_, exec_fuseBlown hl hj hmore, ?_⟩
  by_cases hlast : s.hall.fuses + 1 = (j.params.getD 0 0).fld 6 0
  · rw [if_pos hlast, State.hall_endFuse, State.measure_of_hall (State.hall_endFuse _ _ _), State.measure_oneMoreFuse]
    exact ⟨rfl, rfl, fun _ => hends stOk, fun hne => absurd hlast hne, fun hne => absurd hlast hne⟩
  · rw [if_neg hlast]
    cases hcancel : j.cancel with
    | true =>
      rw [if_pos rfl, State.hall_endFuse, State.measure_of_hall (State.hall_endFuse _ _ _), State.measure_oneMoreFuse]
      exact ⟨rfl, rfl, fun h => absurd h hlast, fun _ _ => hends stAborted, nofun⟩
    | false =>
      rw [if_neg (by decide), State.measure_oneMoreFuse]
      exact ⟨rfl, rfl, fun h => absurd h hlast, nofun, fun _ _ => rfl⟩

end

/-- A fuse job starts, and ends at once where its fuses are blown already. -/
theorem hallmarkFuseAdvance_leaves (c : Cmd) (s : State) (hp : hallmarkFuseAdvanceOp.passes c s) : ∃ u : State,
    exec (.hallmarkFuseAdvance c) s = .next (u.answered c 0x0D06 1 [w32 s.clerk.nextJob]) ∧ u.hall = s.hall ∧
    ((c.p 0).fld 6 0 ≤ s.hall.fuses → ∀ j ∈ u.clerk.jobs, j.num ≠ s.clerk.nextJob) ∧
    (s.hall.fuses < (c.p 0).fld 6 0 → u.clerk.jobs = s.clerk.jobs ++ [⟨s.clerk.nextJob, 0x0D06, c.target.toNat, c.params, 0, false⟩]) := by
  refine ⟨_, exec_of_accepted (op := hallmarkFuseAdvanceOp) rfl hp rfl, ?_⟩
  by_cases hdone : (c.p 0).fld 6 0 ≤ s.hall.fuses
  · rw [if_pos hdone]
    exact ⟨State.hall_endFuse _ _ _, fun _ => State.num_ne_of_endJob, fun h => absurd hdone (Nat.not_le.mpr h)⟩
  · rw [if_neg hdone]
    exact ⟨rfl, fun h => absurd h hdone, fun _ => rfl⟩

end Sys2Proof.Machine
end

section
/-!
PROOFS. Diagnostics (spec/17 R463 to R476): a word of SRAM that is read, by its user or by a sweep; sweeps; injections; and the
statement about Hallmark and diagnostics.
-/

set_option Elab.async false

namespace Sys2Proof.Machine

/-! ### What the counts of a word leave -/

section
variable (s : State)

@[simp] theorem State.core_raiseLimited (key period code sev ha : Nat) (mk : Nat → Nat) :
    (s.raiseLimited key period code sev ha mk).hier.core = s.hier.core := by
  refine (apply_ite (fun u : State => u.hier.core) _ _ _).trans ?_
  rw [State.core_raise, State.withClerk_hier, State.withClerk_hier, ite_self]

@[simp] theorem State.core_raiseAtMost (most key code sev ha data : Nat) :
    (s.raiseAtMost most key code sev ha data).hier.core = s.hier.core := by
  unfold State.raiseAtMost
  split
  · split
    · exact State.core_raise _ _ _ _ _
    · rfl
  · exact State.core_raise _ _ _ _ _

theorem State.sram_updSram (ha : Nat) (f : Sram → Sram) : (s.updSram ha f).sram ha = f (s.sram ha) :=
  (Tab.get_set _ _ _).trans (if_pos rfl)

end

/-- The counts of a cell after a correction. -/
def Sram.correctedAt (addr : Nat) (injected again : Bool) (x : Sram) : Sram :=
  { x with
    corrected := sat 0xFFFFFFFF (x.corrected + 1)
    repeated := if !injected && (again || x.last.contains addr) then sat 0xFFFFFFFF (x.repeated + 1) else x.repeated
    last := if injected then x.last else (addr :: x.last).take 16 }

/-- The counts of a cell after a word that cannot be corrected. -/
def Sram.lostOne (x : Sram) : Sram := { x with uncorrectable := sat 0x7FFFFFFF (x.uncorrectable + 1) }

/-- The counts of a cell after a word that was never written. -/
def Sram.unwrittenOne (x : Sram) : Sram := { x with neverWritten := sat 0xFFFFFFFF (x.neverWritten + 1) }

section
variable (s : State) (ha addr : Nat)

/-- A correction for a word's user counts, and is reported where it repeats. -/
theorem State.core_corrected (injected again : Bool) : (s.corrected ha addr injected again false).hier.core =
    (s.updSram ha (Sram.correctedAt addr injected again)).hier.core := by
  have hput : (s.updSram ha fun x => { x with
      corrected := sat 0xFFFFFFFF (x.corrected + 1)
      repeated := if !injected && (again || (s.sram ha).last.contains addr) then sat 0xFFFFFFFF (x.repeated + 1) else x.repeated
      last := if injected then x.last else (addr :: x.last).take 16 }) = s.updSram ha (Sram.correctedAt addr injected again) := rfl
  unfold State.corrected
  simp only [Bool.false_eq_true, if_false]
  rw [hput]
  refine (apply_ite (fun u : State => u.hier.core) _ _ _).trans ?_
  rw [State.core_raiseLimited]
  exact ite_self _

/-- A word that cannot be corrected is counted and reported, before what follows for its user. -/
def State.badWord (c : Content) : State :=
  ((s.updSram ha Sram.lostOne).bump (sramTotal ha 2) 1).raiseAtMost 16 (0x0F05 * 2 ^ 20) 0x0F05 3 ha
    (contentRow c * 2 ^ 28 + addr % 2 ^ 24)

theorem State.uncorrected_user (c : Content) : s.uncorrected ha addr c false = (s.badWord ha addr c).loseContent c ha addr := by
  unfold State.uncorrected
  exact if_neg (by decide)

theorem State.core_badWord (c : Content) : (s.badWord ha addr c).hier.core = (s.updSram ha Sram.lostOne).hier.core :=
  State.core_raiseAtMost _ _ _ _ _ _ _

/-- An injection into a cell strikes its next read: 1 one bit, 2 two bits. -/
def State.struck : Bool := decide (Tab.get 0 s.hier.inject ha = 1 ∨ Tab.get 0 s.hier.inject ha = 2)

/-- The state without an injection that strikes. -/
def State.unstruck : State :=
  if s.struck ha then s.withHier { s.hier with inject := Tab.set 0 s.hier.inject ha 0 } else s

/-- The wrong bits of a word as it is read. -/
def State.bitsOf (errors : Fin 3) : Nat := errors.val + if s.struck ha then Tab.get 0 s.hier.inject ha else 0

theorem State.sram_unstruck (k : Nat) : (s.unstruck ha).sram k = s.sram k := by
  unfold State.unstruck
  split <;> rfl

theorem State.inject_unstruck : Tab.get 0 (s.unstruck ha).hier.inject ha =
    if s.struck ha then 0 else Tab.get 0 s.hier.inject ha := by
  unfold State.unstruck
  split
  · exact (Tab.get_set _ _ _).trans (if_pos rfl)
  · rfl

theorem State.unstruck_keeps : Keeps [.clerk, .hier, .tally] s (s.unstruck ha) := by
  unfold State.unstruck
  split
  · exact withHier_keeps (Keeps.refl s) (Keeps.hier' rfl rfl (Keeps.refl (cs := [.hier]) s))
  · exact Keeps.refl s

/-- A word that cannot be corrected changes CLERK, the hierarchy and Tally alone, but for what follows for its user. -/
theorem State.badWord_keeps (c : Content) : Keeps [.clerk, .hier, .tally] s ((s.unstruck ha).badWord ha addr c) :=
  State.raiseAtMost_keeps (State.bump_keeps (State.updSram_keeps (s.unstruck_keeps ha)))

end

/-! ### A word that is read (R463 to R465) -/

section
variable {s : State} {cell : BitVec 20} {addr : Nat} {e : Fin 3} {again : Bool} {what : Content} (hl : s.live = true)
  (hcell : (targetCell s cell.toNat && holdsSram cell.toNat) = true)
include hl hcell

theorem exec_sramRead_unwritten : exec (.sramRead cell addr false e again what false) s =
    .next (((s.unstruck cell.toNat).updSram cell.toNat Sram.unwrittenOne).bump (sramTotal cell.toNat 3) 1) := by
  refine (if_pos hcell).trans ((happen_of _ _ ?_).trans rfl)
  rw [hl]; rfl

theorem exec_sramRead_written : exec (.sramRead cell addr true e again what false) s =
    .next (if s.bitsOf cell.toNat e = 0 then s.unstruck cell.toNat
      else if s.bitsOf cell.toNat e = 1 then ((s.unstruck cell.toNat).corrected cell.toNat addr (s.struck cell.toNat) again false).refreshHealth
      else ((s.unstruck cell.toNat).uncorrected cell.toNat addr what false).refreshHealth) := by
  refine (if_pos hcell).trans ((happen_of _ _ ?_).trans (congrArg Host.Outcome.next (if_neg (by decide))))
  rw [hl]; rfl

theorem exec_sramRead_good (hbits : s.bitsOf cell.toNat e = 0) :
    exec (.sramRead cell addr true e again what false) s = .next (s.unstruck cell.toNat) :=
  (exec_sramRead_written hl hcell).trans (congrArg Host.Outcome.next (if_pos hbits))

theorem exec_sramRead_corrected (hbits : s.bitsOf cell.toNat e = 1) : exec (.sramRead cell addr true e again what false) s =
    .next ((s.unstruck cell.toNat).corrected cell.toNat addr (s.struck cell.toNat) again false).refreshHealth :=
  (exec_sramRead_written hl hcell).trans
    (congrArg Host.Outcome.next ((if_neg (by rw [hbits]; decide)).trans (if_pos hbits)))

theorem exec_sramRead_uncorrectable (hbits : s.bitsOf cell.toNat e = 2) : exec (.sramRead cell addr true e again what false) s =
    .next (((s.unstruck cell.toNat).badWord cell.toNat addr what).loseContent what cell.toNat addr).refreshHealth :=
  (exec_sramRead_written hl hcell).trans (congrArg Host.Outcome.next
    ((if_neg (by rw [hbits]; decide)).trans ((if_neg (by rw [hbits]; decide)).trans (congrArg State.refreshHealth
      (State.uncorrected_user _ _ _ _)))))

end

/-! ### What a word that is read leaves -/

section
variable {s : State} {ha addr : Nat} {e : Fin 3} {what : Content}

theorem State.struck_of_none (h : Tab.get 0 s.hier.inject ha = 0) : s.struck ha = false := by simp [State.struck, h]

theorem State.bitsOf_of_none (h : Tab.get 0 s.hier.inject ha = 0) : s.bitsOf ha e = e.val := by
  simp [State.bitsOf, h, State.struck]

theorem State.bitsOf_of_one (h : Tab.get 0 s.hier.inject ha = 1) (he : e.val = 0) : s.bitsOf ha e = 1 := by
  simp [State.bitsOf, h, he, State.struck]

theorem State.bitsOf_of_two (h : Tab.get 0 s.hier.inject ha = 2) (he : e.val = 0) : s.bitsOf ha e = 2 := by
  simp [State.bitsOf, h, he, State.struck]

theorem State.unstruck_of_none (h : Tab.get 0 s.hier.inject ha = 0) : s.unstruck ha = s := by
  rw [State.unstruck, State.struck_of_none h]
  rfl

/-- The counts of a cell, and its injection, after a correction. -/
theorem State.sram_corrected (again : Bool) :
    (((s.unstruck ha).corrected ha addr (s.struck ha) again false).refreshHealth.sram ha = (s.sram ha).correctedAt addr (s.struck ha) again) ∧
      ((s.unstruck ha).corrected ha addr (s.struck ha) again false).refreshHealth.hier.inject = (s.unstruck ha).hier.inject := by
  have hcore : ((s.unstruck ha).corrected ha addr (s.struck ha) again false).refreshHealth.hier.core =
      ((s.unstruck ha).updSram ha (Sram.correctedAt addr (s.struck ha) again)).hier.core :=
    (State.core_refreshHealth _).trans (State.core_corrected _ _ _ _ _)
  exact ⟨by rw [State.sram_of_core hcore, State.sram_updSram, State.sram_unstruck], (State.inject_of_core hcore :)⟩

/-- The counts of a cell, and its injection, after a word that cannot be corrected and is nobody's loss. -/
theorem State.sram_badWord :
    (((s.unstruck ha).badWord ha addr what).refreshHealth.sram ha = (s.sram ha).lostOne) ∧
      ((s.unstruck ha).badWord ha addr what).refreshHealth.hier.inject = (s.unstruck ha).hier.inject := by
  have hcore : ((s.unstruck ha).badWord ha addr what).refreshHealth.hier.core = ((s.unstruck ha).updSram ha Sram.lostOne).hier.core :=
    (State.core_refreshHealth _).trans (State.core_badWord _ _ _ _)
  exact ⟨by rw [State.sram_of_core hcore, State.sram_updSram, State.sram_unstruck], (State.inject_of_core hcore :)⟩

/-- No injection stands after one that was none, or has struck. -/
theorem State.inject_unstruck_of (h : Tab.get 0 s.hier.inject ha = 0 ∨ Tab.get 0 s.hier.inject ha = 1 ∨ Tab.get 0 s.hier.inject ha = 2) :
    Tab.get 0 (s.unstruck ha).hier.inject ha = 0 := by
  rw [State.inject_unstruck]
  rcases h with h | h | h <;> simp [State.struck, h]

end

section
variable {u : State} {ha addr : Nat}

/-- What follows for the user of a word leaves HEALTH alone, and HEALTH leaves it. -/
theorem State.refreshHealth_frame (u : State) :
    u.refreshHealth.flow = u.flow ∧ u.refreshHealth.loom = u.loom ∧ u.refreshHealth.damage = u.damage := by
  have hkeeps : Keeps [.clerk, .hier, .tally] u u.refreshHealth := State.refreshHealth_keeps (Keeps.refl u)
  exact ⟨hkeeps.frame .flow (by decide), hkeeps.frame .loom (by decide), hkeeps.frame .damage (by decide)⟩

/-- An entry of the classifier that is lost goes out until it is restored. -/
theorem State.loseContent_cls {key v : Nat} (hv : Tab.get 0 u.flow.classes key = v) (hne : v ≠ 0) :
    Tab.get 0 (u.loseContent (.cls key) ha addr).refreshHealth.flow.classes key = 0 ∧
      (u.loseContent (.cls key) ha addr).refreshHealth.damage = u.damage ++ [.cls key v] := by
  have hlose : u.loseContent (.cls key) ha addr =
      (u.withFlow { u.flow with classes := Tab.set 0 u.flow.classes key 0 }).addDamage (.cls key (Tab.get 0 u.flow.classes key)) :=
    if_neg (hv ▸ hne)
  obtain ⟨hflow, _, hdamage⟩ := (u.loseContent (.cls key) ha addr).refreshHealth_frame
  rw [hflow, hdamage, hlose, hv]
  exact ⟨(Tab.get_set _ _ _).trans (if_pos rfl), rfl⟩

/-- A bolt that is lost goes out until it is restored. -/
theorem State.loseContent_bolt {d : Way} {b : Nat} {v : Bolt} (hv : u.bolt d b = some v) :
    (u.loseContent (.bolt d b) ha addr).refreshHealth.bolt d b = none ∧
      (u.loseContent (.bolt d b) ha addr).refreshHealth.damage = u.damage ++ [.bolt d b v] := by
  have hlose : u.loseContent (.bolt d b) ha addr =
      (u.withLoom { u.loom with bolts := u.loom.bolts.upd d fun t => Tab.set none t b none }).addDamage (.bolt d b v) := by
    show u.loseEntry (.bolt d b) ha addr = _
    unfold State.loseEntry
    dsimp only
    rw [hv]
  obtain ⟨_, hloom, hdamage⟩ := (u.loseContent (.bolt d b) ha addr).refreshHealth_frame
  refine ⟨?_, by rw [hdamage, hlose]; rfl⟩
  rw [State.bolt, State.bolts, hloom, hlose]
  refine (congrArg (fun t => Tab.get none t b) ((P2.get_upd _ _ _ _).trans (if_pos rfl))).trans ?_
  exact (Tab.get_set _ _ _).trans (if_pos rfl)

/-- A thread that is lost goes out until it is restored. -/
theorem State.loseContent_thread {d : Way} {t : Nat} {v : Thread} (hv : u.thread d t = some v) :
    (u.loseContent (.thread d t) ha addr).refreshHealth.thread d t = none ∧
      (u.loseContent (.thread d t) ha addr).refreshHealth.damage = u.damage ++ [.thread d t v] := by
  have hlose : u.loseContent (.thread d t) ha addr =
      (u.withLoom { u.loom with threads := u.loom.threads.upd d fun x => Tab.set none x t none }).addDamage (.thread d t v) := by
    show u.loseEntry (.thread d t) ha addr = _
    unfold State.loseEntry
    dsimp only
    rw [hv]
  obtain ⟨_, hloom, hdamage⟩ := (u.loseContent (.thread d t) ha addr).refreshHealth_frame
  refine ⟨?_, by rw [hdamage, hlose]; rfl⟩
  rw [State.thread, State.threads, hloom, hlose]
  refine (congrArg (fun x => Tab.get none x t) ((P2.get_upd _ _ _ _).trans (if_pos rfl))).trans ?_
  exact (Tab.get_set _ _ _).trans (if_pos rfl)

end

section
variable {s : State} {cell : BitVec 20} {addr : Nat} {e : Fin 3} {again : Bool} {what : Content} (hl : s.live = true)
  (hcell : (targetCell s cell.toNat && holdsSram cell.toNat) = true)
include hl hcell

theorem sramRead_unwritten_leaves : ∃ t, exec (.sramRead cell addr false e again what false) s = .next t ∧
    t.sram cell.toNat = { s.sram cell.toNat with neverWritten := sat 0xFFFFFFFF ((s.sram cell.toNat).neverWritten + 1) } ∧
    t.counter (sramTotal cell.toNat 3) = (s.counter (sramTotal cell.toNat 3) + 1) % 2 ^ 48 := by
  refine ⟨_, exec_sramRead_unwritten hl hcell, ?_, ?_⟩
  · refine (State.sram_updSram _ _ _).trans ?_
    rw [State.sram_unstruck]
    rfl
  · have htally : (s.unstruck cell.toNat).tally = s.tally := by
      unfold State.unstruck
      split <;> rfl
    rw [State.counter_bump_same]
    exact congrArg (fun x : Tally => (Tab.get 0 x.counters (sramTotal cell.toNat 3) + 1) % 2 ^ 48) htally

theorem sramRead_corrected_leaves (hinject : Tab.get 0 s.hier.inject cell.toNat = 0) (he : e.val = 1) :
    ∃ t, exec (.sramRead cell addr true e again what false) s = .next t ∧
      (t.sram cell.toNat).corrected = sat 0xFFFFFFFF ((s.sram cell.toNat).corrected + 1) ∧
      (t.sram cell.toNat).uncorrectable = (s.sram cell.toNat).uncorrectable ∧
      (t.sram cell.toNat).repeated = (if again || (s.sram cell.toNat).last.contains addr then
        sat 0xFFFFFFFF ((s.sram cell.toNat).repeated + 1) else (s.sram cell.toNat).repeated) ∧
      (t.sram cell.toNat).last = (addr :: (s.sram cell.toNat).last).take 16 := by
  refine ⟨_, exec_sramRead_corrected hl hcell (by rw [State.bitsOf_of_none hinject, he]), ?_⟩
  rw [(State.sram_corrected again).1, State.struck_of_none hinject]
  exact ⟨rfl, rfl, rfl, rfl⟩

theorem sramRead_struck_leaves (hinject : Tab.get 0 s.hier.inject cell.toNat = 1) (he : e.val = 0) :
    ∃ t, exec (.sramRead cell addr true e again what false) s = .next t ∧
      t.sram cell.toNat = { s.sram cell.toNat with corrected := sat 0xFFFFFFFF ((s.sram cell.toNat).corrected + 1) } ∧
      Tab.get 0 t.hier.inject cell.toNat = 0 := by
  refine ⟨_, exec_sramRead_corrected hl hcell (State.bitsOf_of_one hinject he), ?_⟩
  obtain ⟨hsram, hleft⟩ := State.sram_corrected (s := s) (ha := cell.toNat) (addr := addr) again
  rw [hsram, hleft, State.inject_unstruck_of (.inr (.inl hinject)), show s.struck cell.toNat = true by simp [State.struck, hinject]]
  exact ⟨rfl, rfl⟩

theorem sramRead_uncorrectable_leaves
    (h : Tab.get 0 s.hier.inject cell.toNat = 0 ∧ e.val = 2 ∨ Tab.get 0 s.hier.inject cell.toNat = 2 ∧ e.val = 0) :
    ∃ t, exec (.sramRead cell addr true e again what false) s = .next t ∧
      (what = .payload ∨ what = .rewind ∨ what = .llr →
        t.sram cell.toNat = { s.sram cell.toNat with uncorrectable := sat 0x7FFFFFFF ((s.sram cell.toNat).uncorrectable + 1) } ∧
          Tab.get 0 t.hier.inject cell.toNat = 0) ∧
      (∀ key v, what = .cls key → Tab.get 0 s.flow.classes key = v → v ≠ 0 →
        Tab.get 0 t.flow.classes key = 0 ∧ t.damage = s.damage ++ [.cls key v]) ∧
      (∀ d b v, what = .bolt d b → s.bolt d b = some v → t.bolt d b = none ∧ t.damage = s.damage ++ [.bolt d b v]) ∧
      (∀ d b v, what = .thread d b → s.thread d b = some v → t.thread d b = none ∧ t.damage = s.damage ++ [.thread d b v]) := by
  have hbits : s.bitsOf cell.toNat e = 2 := by
    rcases h with ⟨hinject, he⟩ | ⟨hinject, he⟩
    · rw [State.bitsOf_of_none hinject, he]
    · exact State.bitsOf_of_two hinject he
  have hgone : Tab.get 0 (s.unstruck cell.toNat).hier.inject cell.toNat = 0 :=
    State.inject_unstruck_of (h.imp (fun x => x.1) fun x => .inr x.1)
  refine ⟨_, exec_sramRead_uncorrectable hl hcell hbits, ?_⟩
  have hkeeps := s.badWord_keeps cell.toNat addr what
  have hsram := State.sram_badWord (s := s) (ha := cell.toNat) (addr := addr) (what := what)
  generalize (s.unstruck cell.toNat).badWord cell.toNat addr what = u at hkeeps hsram
  have hloom : u.loom = s.loom := hkeeps.frame .loom (by decide)
  have hdamage : u.damage = s.damage := hkeeps.frame .damage (by decide)
  obtain ⟨hcounts, hinject⟩ := hsram
  refine ⟨fun hrow => ?_, fun key v hwhat hv hne => ?_, fun d b v hwhat hv => ?_, fun d b v hwhat hv => ?_⟩
  · have hlost : u.loseContent what cell.toNat addr = u := by rcases hrow with rfl | rfl | rfl <;> rfl
    rw [hlost, hcounts, hinject]
    exact ⟨rfl, hgone⟩
  · subst hwhat
    rw [← hdamage]
    exact State.loseContent_cls ((congrArg (fun x : Flow => Tab.get 0 x.classes key) (hkeeps.frame .flow (by decide))).trans hv) hne
  · subst hwhat
    rw [← hdamage]
    exact State.loseContent_bolt (by rw [State.bolt, State.bolts, hloom]; exact hv)
  · subst hwhat
    rw [← hdamage]
    exact State.loseContent_thread (by rw [State.thread, State.threads, hloom]; exact hv)

/-- A sweep's read of a good word counts in the sweep alone. -/
theorem exec_sramRead_swept {w : Sweep} (hw : s.hier.sweepHa = some w) (hmay : s.sweepMayRead cell.toNat = true)
    (hinject : Tab.get 0 s.hier.inject cell.toNat = 0) : exec (.sramRead cell addr true 0 again what true) s =
      .next (s.withHier { s.hier with sweepHa := some (Sweep.readAt cell.toNat w) }) := by
  have hread : exec (.sramRead cell addr true 0 again what true) s = .next ((s.unstruck cell.toNat).updSweep (Sweep.readAt cell.toNat)) := by
    refine (if_pos hcell).trans ((happen_of _ _ (by rw [hl, hmay]; rfl)).trans (congrArg Host.Outcome.next ?_))
    exact (if_neg (by decide)).trans (if_pos (State.bitsOf_of_none (e := 0) hinject))
  rw [hread, State.unstruck_of_none hinject, State.updSweep, hw]
  rfl

end

/-! ### Sweeps that end (R474) -/

section
variable {s : State} {w : Sweep} {j : Job} (hl : s.live = true) (hj : s.clerk.jobs.find? (fun k => k.num == w.job) = some j)
include hl hj

theorem sweepEnd_ha_leaves (hw : s.hier.sweepHa = some w) : ∃ t, exec (.sweepEnd false) s = .next t ∧ t.hier.sweepHa = none ∧
    t.clerk.ended = (⟨w.job, j.code, 0, ({ w with reached := w.at_ } : Sweep).results s.take.1⟩ :: s.clerk.ended).take 256 ∧
    t.clerk.jobs = s.clerk.jobs.filter (fun k => k.num != w.job) := by
  have hexec : exec (.sweepEnd false) s = .next ((s.take.2.withHier { s.hier with sweepHa := none }).endJob w.job stOk
      (({ w with reached := w.at_ } : Sweep).results s.take.1)) := by
    refine (happen_of _ _ hl).trans (congrArg Host.Outcome.next ?_)
    unfold State.updSweep
    rw [hw]
    rfl
  refine ⟨_, hexec, ?_, State.endJob_ended hj, State.endJob_jobs hj⟩
  exact Hier.eq_of_core (fun x => x.sweepHa) (fun _ => rfl) (State.core_endJob _ _ _ _)

theorem sweepEnd_store_leaves (hw : s.hier.sweepStore = some w) (hnext : s.nextSwept w = none) :
    ∃ t, exec (.sweepEnd true) s = .next t ∧ t.hier.sweepStore = none ∧
      t.clerk.ended = (⟨w.job, j.code, 0, w.results s.take.1⟩ :: s.clerk.ended).take 256 ∧
      t.clerk.jobs = s.clerk.jobs.filter (fun k => k.num != w.job) := by
  have hend : s.endSweep true stOk = (s.take.2.withHier { s.hier with sweepStore := none }).endJob w.job stOk (w.results s.take.1) := by
    unfold State.endSweep
    rw [if_pos rfl, hw]
    rfl
  have hexec : exec (.sweepEnd true) s = .next (s.endSweep true stOk) := by
    show execSweepEnd true s = _
    unfold execSweepEnd
    rw [if_pos rfl, hw]
    exact happen_of _ _ (by rw [hl, hnext]; rfl)
  refine ⟨_, hexec.trans (congrArg Host.Outcome.next hend), ?_, State.endJob_ended hj, State.endJob_jobs hj⟩
  exact Hier.eq_of_core (fun x => x.sweepStore) (fun _ => rfl) (State.core_endJob _ _ _ _)

end

/-! ### Injections and restores (R465, R476) -/

theorem exec_diagInject_kept {c : Cmd} {s : State} (hp : diagInjectOp.passes c s) (hkind : (c.p 0).fld 31 30 ≠ 3) :
    exec (.diagInject c) s = .next ((s.withHier { s.hier with
      inject := Tab.set 0 s.hier.inject c.target.toNat ((c.p 0).fld 31 30 + 1) }).answered c 0x0F05 0 []) :=
  exec_of_ok (op := diagInjectOp) rfl hp (congrArg (Prod.mk _) (if_neg hkind))

theorem diagInject_swap_leaves {c : Cmd} {s : State} (hp : diagInjectOp.passes c s) (hkind : (c.p 0).fld 31 30 = 3) :
    ∃ u : State, exec (.diagInject c) s = .next (u.answered c 0x0F05 0 []) ∧
      u.hier.ctlActive = 1 - s.hier.ctlActive ∧ u.hier.ctlStandby = 1 ∧ u.hier.inject = s.hier.inject := by
  refine ⟨(s.swapPairs 2).refreshHealth, exec_of_ok (op := diagInjectOp) rfl hp (congrArg (Prod.mk _) (if_pos hkind)), ?_⟩
  have hcore : (s.swapPairs 2).refreshHealth.hier.core = s.otherPair.hier.core := (State.core_refreshHealth _).trans (s.core_swapPairs 2)
  exact ⟨State.ctlActive_of_core hcore, State.ctlStandby_of_core hcore, (State.inject_of_core hcore :)⟩

theorem exec_configRestore {s : State} {d : Damage} {r : List Damage} (hl : s.live = true) (hd : s.damage = d :: r) :
    exec .configRestore s = .next ((s.withDamage r).restore d) := by
  show execConfigRestore s = _
  unfold execConfigRestore
  rw [hd]
  exact happen_of _ _ hl

theorem diagSweepRun_leaves (c : Cmd) (s : State) (hp : diagSweepRunOp.passes c s) : ∃ u : State,
    exec (.diagSweepRun c) s = .next (u.answered c 0x0F04 1 [w32 s.clerk.nextJob]) ∧
    u.clerk.jobs = s.clerk.jobs ++ [⟨s.clerk.nextJob, 0x0F04, c.target.toNat, c.params, 0, false⟩] ∧
    (let w : Sweep := { job := s.clerk.nextJob, first := (c.p 0).fld 24 0, last := (c.p 1).fld 24 0 }
     ((c.p 0).bit 31 = true → u.hier = { s.hier with sweepStore := some w }) ∧
     ((c.p 0).bit 31 = false → u.hier = { s.hier with sweepHa := some w })) := by
  refine ⟨_, exec_of_accepted (op := diagSweepRunOp) rfl hp rfl, rfl, fun h => ?_, fun h => ?_⟩
  · rw [if_pos h]; rfl
  · rw [if_neg (by rw [h]; decide)]; rfl

/-! ### The statement -/

/-- Settles O59: the opcodes by their effects, the words that are read by what is wrong in them. -/
theorem hallmarkAndDiagAct : Obligations.HallmarkAndDiagAct := by
  refine ⟨fun c s hp => ⟨exec_of_ok (op := hallmarkCertReadOp) rfl hp rfl, certBytes_length _⟩,
    fun c s hp => s.measures_eq ▸ exec_of_ok (op := hallmarkMeasureReadOp) rfl hp rfl,
    fun c s hp => exec_of_ok (op := hallmarkAttestOp) rfl hp rfl, fun c s hp => exec_of_ok (op := hallmarkStatusOp) rfl hp rfl,
    fun c s hp => exec_of_ok (op := hallmarkTallyMaskOp) rfl hp rfl,
    fun c s hp => ⟨_, exec_of_ok (op := hallmarkKekOfferOp) rfl hp rfl, rfl⟩,
    fun c s o hp ho => ⟨fun hgood => ⟨_, exec_hallmarkKekAccept hp ho hgood, s.hall_kekTaken c o⟩,
      fun hbad => ⟨_, exec_hallmarkKekAccept_refused hp ho hbad, rfl⟩⟩,
    hallmarkFuseAdvance_leaves,
    fun s j hl hj => ⟨?fails, fuseBlown_leaves hl hj⟩,
    diagSweepRun_leaves, fun c s hp => ⟨exec_diagInject_kept hp, diagInject_swap_leaves hp⟩,
    fun s cell addr e again sw what wr h => if_neg (by rw [h]; decide),
    fun s cell addr e again what hl hcell => ⟨sramRead_unwritten_leaves hl hcell, fun hinject he => ?good,
      sramRead_corrected_leaves hl hcell, sramRead_struck_leaves hl hcell, sramRead_uncorrectable_leaves hl hcell⟩,
    fun s cell addr again what w hl hcell hw hmay hinject => ⟨exec_sramRead_swept hl hcell hw hmay hinject, rfl, rfl, fun h => if_neg h⟩,
    fun s hl => ⟨fun d r => exec_configRestore hl, fun key v r hd hout => ⟨_, exec_configRestore hl hd, ?restored⟩⟩,
    fun s w j hl hj => ⟨sweepEnd_ha_leaves hl hj, sweepEnd_store_leaves hl hj⟩⟩
  case fails =>
    obtain ⟨k, hk⟩ := State.find_num_of_findJob hj
    exact ⟨_, exec_fuseBlown_fails hl hj, s.hall_endFuse _ _, State.endFuse_leaves hk⟩
  case good =>
    rw [exec_sramRead_good hl hcell (by rw [State.bitsOf_of_none hinject, he]), State.unstruck_of_none hinject]
  case restored =>
    have hrestore : (s.withDamage r).restore (.cls key v) = (s.withDamage r).withFlow
        { s.flow with classes := Tab.set 0 s.flow.classes key v } := if_pos hout
    rw [hrestore]
    exact ⟨(Tab.get_set _ _ _).trans (if_pos rfl), rfl⟩

end Sys2Proof.Machine
end

section
/-!
PROOFS. Rules of the Crier's state (spec/14): its ports after each way of changing one, what leaves the Crier as it is, packets
queued and fed, the handlers of accepted packets, and what a packet received leaves.
-/

set_option Elab.async false

namespace Sys2Proof.Machine

/-! ### Ports -/

section
variable (s : State) (k : Nat)

/-- Reading a port after one of them is put. -/
theorem State.cr_setCr (j : Nat) (v : CrPort) : (s.setCr k v).cr j = if j = k then v else s.cr j := Tab.get_set s.crier.ports k j

@[simp] theorem State.cr_setCr_same (v : CrPort) : (s.setCr k v).cr k = v := (s.cr_setCr k k v).trans (if_pos rfl)

theorem State.cr_setCr_of_ne {j : Nat} (v : CrPort) (h : j ≠ k) : (s.setCr k v).cr j = s.cr j := (s.cr_setCr k j v).trans (if_neg h)

@[simp] theorem State.cr_updCr_same (f : CrPort → CrPort) : (s.updCr k f).cr k = f (s.cr k) := s.cr_setCr_same k _

theorem State.cr_updCr_of_ne {j : Nat} (f : CrPort → CrPort) (h : j ≠ k) : (s.updCr k f).cr j = s.cr j := s.cr_setCr_of_ne k _ h

theorem State.cr_of_crier {s t : State} (h : t.crier = s.crier) (k : Nat) : t.cr k = s.cr k := by rw [State.cr, h, State.cr]

end

/-! ### What leaves the Crier as it is -/

theorem Keeps.crier_eq {cs : List Comp} {s t : State} (h : Keeps cs s t) (hcrier : .crier ∉ cs) : t.crier = s.crier :=
  h.frame .crier hcrier

section
variable (s : State)

@[simp] theorem State.cr_bump (k n j : Nat) : (s.bump k n).cr j = s.cr j := rfl

@[simp] theorem State.crier_raise (code sev ha data : Nat) : (s.raise code sev ha data).crier = s.crier :=
  (State.raise_keeps (cs := [.clerk, .hier, .tally]) (Keeps.refl s)).crier_eq (by decide)

@[simp] theorem State.crier_loseRef (c : Nat) : (s.loseRef c).crier = s.crier :=
  (State.loseRef_keeps (cs := [.free, .clerk, .hier, .tally, .timing]) (Keeps.refl s)).crier_eq (by decide)

@[simp] theorem State.crier_padTo (n : Nat) (bs : List Byte) : (s.padTo n bs).2.crier = s.crier :=
  (State.padTo_keeps (cs := [.free]) (Keeps.refl s)).crier_eq (by decide)

theorem State.padTo_of_le {n : Nat} {bs : List Byte} (h : n ≤ bs.length) : s.padTo n bs = (bs, s) := if_pos h

end

/-! ### Queues (R401, R412) -/

/-- The ports agree but for the packets they hold ready to send. -/
def CrPort.SameButQueues (x y : CrPort) : Prop := ∃ queue feed, x = { y with queue := queue, feed := feed }

theorem CrPort.SameButQueues.refl (x : CrPort) : x.SameButQueues x := ⟨_, _, rfl⟩

theorem CrPort.SameButQueues.trans {x y z : CrPort} (h : x.SameButQueues y) (g : y.SameButQueues z) : x.SameButQueues z := by
  obtain ⟨q, f, rfl⟩ := h
  obtain ⟨q', f', rfl⟩ := g
  exact ⟨q, f, rfl⟩

/-- A field other than the queues is read alike. -/
theorem CrPort.SameButQueues.field {α : Type} (g : CrPort → α) (hg : ∀ y queue feed, g { y with queue := queue, feed := feed } = g y)
    {x y : CrPort} (h : x.SameButQueues y) : g x = g y := by
  obtain ⟨q, f, rfl⟩ := h
  exact hg _ _ _

theorem CrPort.SameButQueues.peer {x y : CrPort} (h : x.SameButQueues y) : x.peer = y.peer := h.field CrPort.peer fun _ _ _ => rfl

section
variable (s : State) (k : Nat)

theorem State.refill_sameButQueues (j : Nat) : ((s.refill k).cr j).SameButQueues (s.cr j) := by
  unfold State.refill
  dsimp only
  split
  · by_cases hj : j = k
    · subst hj
      rw [State.cr_setCr_same]
      exact ⟨_, _, rfl⟩
    · rw [State.cr_setCr_of_ne _ _ _ hj]
      exact .refl _
  · exact .refl _

theorem State.feedPkts_sameButQueues (xs : List CrPkt) (j : Nat) : ((s.feedPkts k xs).cr j).SameButQueues (s.cr j) := by
  unfold State.feedPkts
  split
  · refine (State.refill_sameButQueues _ k j).trans ?_
    by_cases hj : j = k
    · subst hj
      rw [State.cr_updCr_same]
      exact ⟨_, _, rfl⟩
    · rw [State.cr_updCr_of_ne _ _ _ hj]
      exact .refl _
  · exact .refl _

theorem State.cr_queuePkt_of_ne {j : Nat} (x : CrPkt) (h : j ≠ k) : (s.queuePkt k x).cr j = s.cr j := by
  unfold State.queuePkt
  dsimp only
  split
  · rfl
  · split
    · exact s.cr_setCr_of_ne k _ h
    · split
      · exact s.cr_setCr_of_ne k _ h
      · rw [State.cr_bump, State.cr_setCr_of_ne _ _ _ h]

variable {s k}

theorem State.queue_queuePkt {x : CrPkt} (htx : (s.cr k).txEnable = true) (hroom : (s.cr k).queue.length < 32) :
    ((s.queuePkt k x).cr k).queue = (if replaces x.type && (s.cr k).queue.any (fun y => y.type == x.type) then
      (s.cr k).queue.map (fun y => if y.type = x.type then x else y) else (s.cr k).queue ++ [x]) := by
  unfold State.queuePkt
  dsimp only
  rw [if_neg (by simp [htx]), if_pos hroom]
  split
  · rw [State.cr_setCr_same]
  · rw [State.cr_setCr_same]

end

/-! ### Handlers of accepted packets (R408) -/

section
variable {s u : State} {k : Fin 4} {t : Nat} {x : CrIn}

/-- Taking a packet leaves all but the list of those accepted. -/
theorem State.takeIn_eq {f : CrIn → Bool} (h : s.takeIn f = some (x, u)) :
    ∃ l, u = s.withCrier { s.crier with inbox := l } := by
  obtain ⟨r, -, hr⟩ := Option.map_eq_some_iff.mp h
  exact ⟨r.2, (Prod.mk.inj hr).2.symm⟩

theorem handle_of_takeOf (hl : s.live = true) (h : s.takeOf k t = some (x, u)) (f : CrIn → State → State) :
    handle k t f s = .next (f x u) := by
  unfold handle
  rw [h]
  exact happen_of _ _ hl

theorem handleLink_of_takeOf (hl : s.live = true) (h : s.takeOf k t = some (x, u)) {p : Port} (hp : s.listenerPort x.listener = some p)
    (f : Port → CrIn → State → State) : handleLink k t f s = .next (f p x u) := by
  obtain ⟨l, rfl⟩ := State.takeIn_eq h
  have hu : (s.withCrier { s.crier with inbox := l }).listenerPort x.listener = some p := hp
  exact (handle_of_takeOf hl h _).trans (by rw [hu])

end

/-! ### The receive buffer (R417) -/

theorem State.crier_pushHost_of_full {s : State} (e : CrEntry) (h : 64 ≤ s.crier.buffer.length) : (s.pushHost e).crier = s.crier := by
  unfold State.pushHost State.pushEntry
  rw [if_pos h]
  rfl

theorem State.crier_pushHost_of_room {s : State} (e : CrEntry) (h : ¬64 ≤ s.crier.buffer.length) :
    (s.pushHost e).crier = { s.crier with buffer := s.crier.buffer ++ [e] } := by
  unfold State.pushHost State.pushEntry
  rw [if_neg h]
  dsimp only [Option.getD_some]
  split
  · exact State.crier_raise _ _ _ _ _
  · rfl

end Sys2Proof.Machine
end

section
/-!
PROOFS. The Crier's links (spec/14 R401 to R411, R417, R419): settings, packets sent, listeners, packets received, and the link
packets that are handled; and the statement about them.
-/

set_option Elab.async false

namespace Sys2Proof.Machine

/-! ### Opcodes (R419, R421, R422) -/

section
variable (s : State)

theorem State.cr_offWhereCleared (k : Nat) {y : CrPort} {on : Bool} (hon : y.txEnable = on) (hk : s.cr k = y) :
    (if !on then s.crTxOff k else s).cr k = { y with queue := if on then y.queue else [], feed := if on then y.feed else [] } := by
  subst hon hk
  by_cases h : (s.cr k).txEnable = true
  · rw [if_neg (by simp [h]), if_pos h, if_pos h]
  · rw [if_pos (by simp [h]), if_neg h, if_neg h, State.crTxOff, State.cr_updCr_same]
    simp [h]

theorem State.cr_crAbandon (k : Nat) : (s.crAbandon k).cr k = { s.cr k with rx := 1, second := false } := s.cr_updCr_same k _

theorem State.cr_crAbandon_of_ne {j k : Nat} (h : j ≠ k) : (s.crAbandon k).cr j = s.cr j := s.cr_updCr_of_ne k _ h

theorem State.cr_crTxOff_of_ne {j k : Nat} (h : j ≠ k) : (s.crTxOff k).cr j = s.cr j := s.cr_updCr_of_ne k _ h

end

/-- The state with a port's settings `y` in place: its transmitter off where TX_ENABLE is clear, what its listener receives
abandoned where `abandons`. -/
def State.portPut (s : State) (k : Nat) (y : CrPort) (abandons : Prop) [Decidable abandons] : State :=
  let s1 := s.setCr k y
  let s2 := if !y.txEnable then s1.crTxOff k else s1
  if abandons then s2.crAbandon k else s2

section
variable (s : State) (k : Nat) (y : CrPort) (abandons : Prop) [Decidable abandons]

theorem State.cr_portPut_of_ne {j : Nat} (h : j ≠ k) : (s.portPut k y abandons).cr j = s.cr j := by
  unfold State.portPut
  dsimp only
  split <;> split <;> simp only [State.cr_crAbandon_of_ne _ h, State.cr_crTxOff_of_ne _ h, State.cr_setCr_of_ne _ _ _ h]

theorem State.cr_portPut : (s.portPut k y abandons).cr k = { y with
    queue := if y.txEnable then y.queue else [], feed := if y.txEnable then y.feed else [],
    rx := if abandons then 1 else y.rx, second := if abandons then false else y.second } := by
  have hoff := State.cr_offWhereCleared (s.setCr k y) k rfl (s.cr_setCr_same k y)
  unfold State.portPut
  dsimp only
  by_cases h : abandons
  · rw [if_pos h, if_pos h, if_pos h, State.cr_crAbandon, hoff]
  · rw [if_neg h, if_neg h, if_neg h, hoff]

end

theorem crierPortSet_leaves (c : Cmd) (s : State) (hp : crierPortSetOp.passes c s) :
    ∃ u : State, exec (.crierPortSet c) s = .next (u.answered c 0x0301 0 []) ∧
    (∀ k, k ≠ (c.p 0).fld 31 30 → u.cr k = s.cr k) ∧
    (let y := u.cr ((c.p 0).fld 31 30)
     y.txEnable = (c.p 0).bit 29 ∧ y.rxEnable = (c.p 0).bit 28 ∧ y.auth = (c.p 0).bit 27 ∧ y.qlDpll = (c.p 0).fld 26 24 ∧
     y.hostQl = (c.p 0).fld 23 20 ∧ y.attach = (c.p 0).fld 19 16 ∧ y.txCode = (c.p 0).fld 15 8 ∧ y.listenCode = (c.p 0).fld 7 0 ∧
     y.depth = (c.p 1).fld 31 26 ∧ y.detect = (c.p 1).fld 25 20 ∧ y.capture = (c.p 1).fld 19 14 ∧ y.hello = (c.p 1).fld 13 8 ∧
     y.timeInt = (c.p 1).fld 7 0 ∧ y.asym = (c.p 2).sfld 31 0 ∧
     y.queue = (if (c.p 0).bit 29 = true then (s.cr ((c.p 0).fld 31 30)).queue else []) ∧ ((c.p 0).bit 28 = false → y.rx = 1)) := by
  refine ⟨@State.portPut s ((c.p 0).fld 31 30) _ _ _, exec_of_ok (op := crierPortSetOp) rfl hp rfl,
    fun k hk => s.cr_portPut_of_ne _ _ _ hk, ?_⟩
  rw [State.cr_portPut]
  exact ⟨rfl, rfl, rfl, rfl, rfl, rfl, rfl, rfl, rfl, rfl, rfl, rfl, rfl, rfl, rfl,
    fun hoff => if_pos (.inr (.inr (.inr hoff)))⟩

/-! ### Sending (R401 to R403, R411) -/

section
variable {s : State} {k : Fin 4}

theorem timeReqTimer_leaves (hl : s.live = true) (hk : k.val = s.crier.timePort.val) (hint : (s.cr k.val).timeInt ≠ 0) :
    ∃ t, exec (.timeReqTimer k) s = .next t ∧ t.crier.seq = (s.crier.seq + 1) % 256 ∧
      t.crier.ports = (s.queuePkt k.val { type := 3, payload := [BitVec.ofNat 8 s.crier.seq, 0] }).crier.ports :=
  ⟨_, happen_of _ _ (by simp [hl, hk, bne_iff_ne.mpr (hk ▸ hint)]), rfl, rfl⟩

theorem exchangeMissed_leaves (hl : s.live = true) (hk : k.val = s.crier.timePort.val) (hasked : s.crier.asked.isSome = true) :
    ∃ t, exec (.exchangeMissed k) s = .next t ∧ t.crier.asked = none ∧ t.crier.missed = s.crier.missed + 1 := by
  refine ⟨_, happen_of _ _ (by simp [hl, hk, hasked]), ?_⟩
  split
  · rw [State.crier_loseRef]
    exact ⟨rfl, rfl⟩
  · exact ⟨rfl, rfl⟩

/-- The state with a packet of the queue on air: what PACKET_SEND_START leaves of its port. -/
def State.onAir (s : State) (k : Nat) (x : CrPkt) (r : List CrPkt) : State :=
  ((s.setCr k { s.cr k with queue := r, air := some x, airCode := (s.cr k).txCode, airDepth := (s.cr k).depth }).refill k).emit
    (.crier k x.type x.payload)

/-- The state with the exchange of a TIME_REQ that goes out noted as the one that waits. -/
def State.asking (s t : State) (x : CrPkt) : State :=
  if x.type = 3 then t.withCrier { t.crier with
    asked := some (byteAt x.payload 0, s.todNs (s.time + sixteenSymbols), s.time + sixteenSymbols) } else t

theorem exec_packetSendStart {x : CrPkt} {r : List CrPkt} (hl : s.live = true) (hx : nextPkt (s.cr k.val).queue = some (x, r))
    (hair : (s.cr k.val).air = none) (hdrive : s.crDriving k.val = true) :
    exec (.packetSendStart k) s = .next (s.asking (s.onAir k.val x r) x) := by
  show execPacketSendStart k s = _
  unfold execPacketSendStart
  dsimp only
  rw [hx]
  exact happen_of _ _ (by simp [hl, hair, hdrive])

theorem State.cr_asking (s t : State) (x : CrPkt) (k : Nat) : (s.asking t x).cr k = t.cr k := by
  unfold State.asking
  split <;> rfl

theorem State.out_asking (s t : State) (x : CrPkt) : (s.asking t x).out = t.out := by
  unfold State.asking
  split <;> rfl

theorem State.onAir_sameButQueues (s : State) (k : Nat) (x : CrPkt) (r : List CrPkt) : ((s.onAir k x r).cr k).SameButQueues
    { s.cr k with queue := r, air := some x, airCode := (s.cr k).txCode, airDepth := (s.cr k).depth } :=
  (State.refill_sameButQueues _ k k).trans (by rw [State.cr_setCr_same]; exact .refl _)

theorem State.out_onAir (s : State) (k : Nat) (x : CrPkt) (r : List CrPkt) :
    (s.onAir k x r).out = s.out ++ [.crier k x.type x.payload] :=
  congrArg (· ++ [Out.crier k x.type x.payload]) ((State.refill_keeps (cs := [.crier]) (Keeps.refl _)).frame .out (by decide))

theorem packetSendStart_leaves {x : CrPkt} {r : List CrPkt} (hl : s.live = true) (hx : nextPkt (s.cr k.val).queue = some (x, r))
    (hair : (s.cr k.val).air = none) (hdrive : s.crDriving k.val = true) :
    ∃ t, exec (.packetSendStart k) s = .next t ∧ (t.cr k.val).air = some x ∧ (t.cr k.val).airCode = (s.cr k.val).txCode ∧
      (t.cr k.val).airDepth = (s.cr k.val).depth ∧ t.out = s.out ++ [.crier k.val x.type x.payload] ∧
      (x.type = 3 → t.crier.asked = some (byteAt x.payload 0, s.todNs (s.time + sixteenSymbols), s.time + sixteenSymbols)) := by
  have hsame := s.onAir_sameButQueues k.val x r
  refine ⟨_, exec_packetSendStart hl hx hair hdrive, ?_, ?_, ?_, ?_, fun htype => ?_⟩
  · exact (congrArg CrPort.air (State.cr_asking _ _ _ _)).trans (hsame.field CrPort.air fun _ _ _ => rfl)
  · exact (congrArg CrPort.airCode (State.cr_asking _ _ _ _)).trans (hsame.field CrPort.airCode fun _ _ _ => rfl)
  · exact (congrArg CrPort.airDepth (State.cr_asking _ _ _ _)).trans (hsame.field CrPort.airDepth fun _ _ _ => rfl)
  · exact (State.out_asking _ _ _).trans (s.out_onAir k.val x r)
  · rw [State.asking, if_pos htype]
    rfl

theorem packetCut_leaves {x : CrPkt} (hl : s.live = true) (hair : (s.cr k.val).air = some x) (hlower : 1 < x.cls)
    (hrate : (s.cr k.val).queue.any (fun x => x.cls == 1) = true) :
    ∃ t, exec (.packetCut k) s = .next t ∧ (t.cr k.val).air = none ∧ t.counter (crCtr k.val 1) = (s.counter (crCtr k.val 1) + 1) % 2 ^ 48 ∧
      (t.cr k.val).queue = (if replaces x.type && (s.cr k.val).queue.any (fun y => y.type == x.type) then (s.cr k.val).queue
        else x :: (s.cr k.val).queue) := by
  have hcut : s.crCut k.val = (s.setCr k.val { s.cr k.val with air := none, queue :=
      if !(replaces x.type && (s.cr k.val).queue.any fun y => y.type == x.type) then x :: (s.cr k.val).queue
      else (s.cr k.val).queue }).bump (crCtr k.val 1) 1 := by
    unfold State.crCut
    dsimp only
    rw [hair]
  refine ⟨_, happen_of _ _ (by simp only [hl, hair, hlower, hrate, decide_true, Bool.and_self]), ?_⟩
  rw [hcut]
  refine ⟨?_, State.counter_bump_same _ _ _, ?_⟩
  · rw [State.cr_bump, State.cr_setCr_same]
  · rw [State.cr_bump, State.cr_setCr_same]
    cases replaces x.type && (s.cr k.val).queue.any fun y => y.type == x.type <;> rfl

theorem packetSendEnd_leaves (hl : s.live = true) (hair : (s.cr k.val).air ≠ none) : ∃ t, exec (.packetSendEnd k) s = .next t ∧
    (t.cr k.val).air = none ∧ t.counter (crCtr k.val 0) = (s.counter (crCtr k.val 0) + 1) % 2 ^ 48 :=
  ⟨_, happen_of _ _ (by rw [hl, Option.isSome_iff_ne_none.mpr hair]; rfl),
    congrArg CrPort.air ((State.cr_bump _ _ _ _).trans (s.cr_updCr_same k.val _)), State.counter_bump_same _ _ _⟩

end

/-! ### Listening (R404 to R408) -/

section
variable {s : State} {k : Fin 4}

theorem listenerTrigger_leaves (hl : s.live = true) (hhears : s.hears k.val = true)
    (hfree : (s.cr k.val).rx = 1 ∨ (s.cr k.val).second = false) : ∃ t, exec (.listenerTrigger k) s = .next t ∧
    (if (s.cr k.val).rx = 1 then (t.cr k.val).rx = 2 else (t.cr k.val).rx = (s.cr k.val).rx ∧ (t.cr k.val).second = true) := by
  refine ⟨_, happen_of _ _ ?_, ?_⟩
  · rcases hfree with h | h <;> simp [hl, hhears, h]
  · rw [State.cr_bump, State.cr_setCr_same]
    by_cases hidle : (s.cr k.val).rx = 1
    · rw [if_pos hidle, if_pos hidle]
    · rw [if_neg hidle, if_neg hidle]
      exact ⟨rfl, rfl⟩

theorem syncQualify_first_leaves (hl : s.live = true) (hrx : (s.cr k.val).rx = 2) (n y : Nat) :
    ∃ t, exec (.syncQualify k false n y) s = .next t ∧ (t.cr k.val).rx = 3 ∧ (t.cr k.val).strength = sat 255 n ∧
      (t.cr k.val).syncAt = y ∧ (t.cr k.val).second = (s.cr k.val).second := by
  refine ⟨_, happen_of _ _ (by simp [hl, hrx]), ?_⟩
  rw [if_pos (by decide), State.cr_setCr_same]
  exact ⟨rfl, rfl, rfl, Bool.and_true _⟩

/-- A second candidate that qualifies takes the place of the first where that one is LOCKING or weaker by CAPTURE. -/
theorem syncQualify_second_leaves (hl : s.live = true) (hrx : (s.cr k.val).rx ≠ 1) (hsecond : (s.cr k.val).second = true) (n y : Nat) :
    ∃ t, exec (.syncQualify k true n y) s = .next t ∧
      (t.cr k.val).second = false ∧ ((s.cr k.val).rx = 2 ∨ (s.cr k.val).strength + (s.cr k.val).capture ≤ sat 255 n →
        (t.cr k.val).rx = 3 ∧ (t.cr k.val).strength = sat 255 n ∧ (t.cr k.val).syncAt = y) ∧
      (¬((s.cr k.val).rx = 2 ∨ (s.cr k.val).strength + (s.cr k.val).capture ≤ sat 255 n) →
        (t.cr k.val).rx = (s.cr k.val).rx ∧ (t.cr k.val).strength = (s.cr k.val).strength) := by
  refine ⟨_, happen_of _ _ (by simp [hl, hrx, hsecond]), ?_⟩
  rw [if_neg (by decide)]
  split
  · next h =>
    rw [State.cr_bump, State.cr_setCr_same]
    exact ⟨Bool.and_false _, fun _ => ⟨rfl, rfl, rfl⟩, fun hno => absurd (.inl h) hno⟩
  · next h =>
    split
    · next hwon =>
      rw [State.cr_bump, State.cr_setCr_same]
      exact ⟨Bool.and_false _, fun _ => ⟨rfl, rfl, rfl⟩, fun hno => absurd (.inr hwon) hno⟩
    · next hlost =>
      rw [State.cr_bump, State.cr_setCr_same]
      exact ⟨rfl, fun hyes => absurd hyes (not_or.mpr ⟨h, hlost⟩), fun _ => ⟨rfl, rfl⟩⟩

theorem qualifyTimeout_first_leaves (hl : s.live = true) (hrx : (s.cr k.val).rx = 2) : ∃ t, exec (.qualifyTimeout k false) s = .next t ∧
    (t.cr k.val).rx = (if (s.cr k.val).second then 2 else 1) ∧ (t.cr k.val).second = false := by
  refine ⟨_, happen_of _ _ (by simp [hl, hrx]), ?_⟩
  rw [State.cr_bump, State.cr_setCr_same, if_neg (by decide)]
  exact ⟨rfl, rfl⟩

theorem qualifyTimeout_second_leaves (hl : s.live = true) (hsecond : (s.cr k.val).second = true) :
    ∃ t, exec (.qualifyTimeout k true) s = .next t ∧ (t.cr k.val).rx = (s.cr k.val).rx ∧ (t.cr k.val).second = false := by
  refine ⟨_, happen_of _ _ (by simp [hl, hsecond]), ?_⟩
  rw [State.cr_bump, State.cr_setCr_same, if_pos rfl]
  exact ⟨rfl, rfl⟩

end

/-! ### A packet is received (R408) -/

section
variable (s : State) (k : Fin 4) (len ty : Byte) (pl : List Byte) (crc : BitVec 16) (chip : Int)

/-- The packet being received has ended. -/
def State.packetEnded : State := s.setCr k.val (s.cr k.val).ended

/-- The state in which an accepted packet's payload is complete, its strength and chip rate noted. -/
def State.packetNoted : State :=
  (((s.packetEnded k).padTo (leastBytes ty.toNat) (fixBytes len.toNat pl)).2.updCr k.val fun c =>
    { c with lastStrength := c.strength, chip := max (-30) (min 30 chip) }).bump (crCtr k.val 10) 1

/-- The state with an accepted packet waiting for its handler. -/
def State.packetAccepted : State :=
  (s.packetNoted k len ty pl chip).withCrier { (s.packetNoted k len ty pl chip).crier with
    inbox := (s.packetNoted k len ty pl chip).crier.inbox ++ [⟨k.val, ty.toNat,
      ((s.packetEnded k).padTo (leastBytes ty.toNat) (fixBytes len.toNat pl)).1, (s.cr k.val).strength, (s.cr k.val).syncAt, none⟩] }

/-- A packet of its type counts on its listener: with AUTH a line port takes only HELLO of a peer not yet authenticated. -/
def State.countsOn : Bool :=
  match s.listenerPort k.val with
  | some q => !((s.cr q.val).auth && decide (2 ≤ ty.toNat ∧ ty.toNat ≤ 6) && !((s.cr q.val).peer.any (·.auth)))
  | none => ty.toNat == 0x10

theorem exec_packetReceiveEnd (hl : s.live = true) (hrx : (s.cr k.val).rx = 3) : exec (.packetReceiveEnd k len ty pl crc chip) s = .next
    (if 241 ≤ len.toNat then (s.packetEnded k).bump (crCtr k.val 9) 1
     else if crc16 (len :: ty :: fixBytes len.toNat pl) ≠ crc.toNat then (s.packetEnded k).bump (crCtr k.val 8) 1
     else if !(knownType ty.toNat && s.countsOn k ty) then (s.packetEnded k).crReject k.val
     else s.packetAccepted k len ty pl chip) :=
  happen_of _ _ (by simp [hl, hrx])

theorem State.cr_packetEnded : (s.packetEnded k).cr k.val = (s.cr k.val).ended := s.cr_setCr_same k.val _

theorem State.cr_withInbox (t : State) (l : List CrIn) (j : Nat) : (t.withCrier { t.crier with inbox := l }).cr j = t.cr j := rfl

theorem State.rx_packetAccepted : ((s.packetAccepted k len ty pl chip).cr k.val).rx = if (s.cr k.val).second then 2 else 1 := by
  have hpad := State.cr_of_crier ((s.packetEnded k).crier_padTo (leastBytes ty.toNat) (fixBytes len.toNat pl)) k.val
  unfold State.packetAccepted
  rw [State.cr_withInbox, State.packetNoted, State.cr_bump, State.cr_updCr_same, hpad, State.cr_packetEnded]
  rfl

theorem packetReceiveEnd_leaves (hl : s.live = true) (hrx : (s.cr k.val).rx = 3) :
    ∃ t, exec (.packetReceiveEnd k len ty pl crc chip) s = .next t ∧ (t.cr k.val).rx = (if (s.cr k.val).second then 2 else 1) ∧
      (241 ≤ len.toNat ∨ crc16 (len :: ty :: fixBytes len.toNat pl) ≠ crc.toNat ∨ knownType ty.toNat = false →
        t.crier.inbox = s.crier.inbox) ∧
      (∀ p, len.toNat ≤ 240 → crc16 (len :: ty :: fixBytes len.toNat pl) = crc.toNat → knownType ty.toNat = true →
        s.listenerPort k.val = some p → (s.cr p.val).auth = false → leastBytes ty.toNat ≤ (fixBytes len.toNat pl).length →
        t.crier.inbox = s.crier.inbox ++
          [⟨k.val, ty.toNat, fixBytes len.toNat pl, (s.cr k.val).strength, (s.cr k.val).syncAt, none⟩]) := by
  have hended := congrArg CrPort.rx (s.cr_packetEnded k)
  refine ⟨_, exec_packetReceiveEnd s k len ty pl crc chip hl hrx, ?_⟩
  by_cases hlong : 241 ≤ len.toNat
  · rw [if_pos hlong]
    exact ⟨hended, fun _ => rfl, fun _ hshort => by omega⟩
  rw [if_neg hlong]
  by_cases hcrc : crc16 (len :: ty :: fixBytes len.toNat pl) ≠ crc.toNat
  · rw [if_pos hcrc]
    exact ⟨hended, fun _ => rfl, fun _ _ hgood => absurd hgood hcrc⟩
  rw [if_neg hcrc]
  by_cases hno : (!(knownType ty.toNat && s.countsOn k ty)) = true
  · rw [if_pos hno]
    refine ⟨hended, fun _ => rfl, fun p _ _ hknown hport hauth _ => ?_⟩
    simp [State.countsOn, hknown, hport, hauth] at hno
  · rw [if_neg hno]
    refine ⟨s.rx_packetAccepted k len ty pl chip, fun hbad => ?_, fun p _ _ _ _ _ hfull => ?_⟩
    · rcases hbad with h | h | h
      · exact absurd h hlong
      · exact absurd h hcrc
      · simp [h] at hno
    · unfold State.packetAccepted State.packetNoted
      rw [State.padTo_of_le _ hfull]
      rfl

end

/-! ### Link packets handled (R409 to R411, R417) -/

section
variable {s u : State} {k : Fin 4} {x : CrIn} {p : Port}

/-- A challenge puts packets into queues and leaves every port's peer. -/
theorem State.peer_challenge (s : State) (l : Nat) (q : Port) (j : Option Nat) (fp : List Byte) (i : Nat) :
    ((s.challenge l (some q) j fp).cr i).peer = (s.cr i).peer :=
  (State.feedPkts_sameButQueues _ _ _ i).peer

theorem State.crier_conflicts (s : State) (q : Port) (y : CrPeer) (registrar : Bool) : (s.conflicts q y registrar).crier = s.crier :=
  (State.conflicts_keeps (cs := [.clerk, .hier, .tally]) (Keeps.refl s)).crier_eq (by decide)

/-- The state with what a HELLO says of a port's peer. -/
def State.hearPeer (s : State) (p : Port) (v : CrPeer) : State := s.updCr p.val fun c => { c with peer := some v }

theorem State.peer_hearPeer (s : State) (p : Port) (v : CrPeer) : ((s.hearPeer p v).cr p.val).peer = some v :=
  congrArg CrPort.peer (s.cr_updCr_same p.val _)

/-- Whether the change is reported, and whatever conflicts are, the peer stands. -/
theorem State.peer_told (s : State) (p : Port) (v : CrPeer) (l : Nat) (told registrar : Bool) :
    (((if told then s.hearPeer p v else evPeer true l v (s.hearPeer p v)).conflicts p v registrar).cr p.val).peer = some v := by
  rw [State.cr_of_crier (State.crier_conflicts _ _ _ _)]
  cases told with
  | true => exact s.peer_hearPeer p v
  | false => exact (congrArg CrPort.peer (State.cr_of_crier (State.crier_raise _ _ _ _ _) _)).trans (s.peer_hearPeer p v)

theorem State.peer_mayChallenge {t : State} {i : Nat} {v : CrPeer} (h : (t.cr i).peer = some v) (l : Nat) (q : Port) (fp : List Byte)
    (same : Bool) : ((if same then t else t.challenge l (some q) none fp).cr i).peer = some v := by
  cases same with
  | true => exact h
  | false => exact (State.peer_challenge _ _ _ _ _ _).trans h

theorem hello_leaves (hl : s.live = true) (hp : s.listenerPort x.listener = some p) (h : s.takeOf k 1 = some (x, u)) :
    ∃ t y, exec (.hello k) s = .next t ∧ (t.cr p.val).peer = some (peerOf x.payload y) :=
  ⟨_, _, handleLink_of_takeOf hl h hp _, State.peer_mayChallenge (State.peer_told u p _ _ _ _) _ _ _ _⟩

theorem exec_quality (hl : s.live = true) (hp : s.listenerPort x.listener = some p) (h : s.takeOf k 2 = some (x, u)) :
    exec (.quality k) s = .next (if p = s.crier.timePort then
      (u.setQl (8 + p.val) (byteAt x.payload 0 % 16)).setQl 16 (byteAt x.payload 1 % 16)
      else u.setQl (8 + p.val) (byteAt x.payload 0 % 16)) := by
  obtain ⟨l, rfl⟩ := State.takeIn_eq h
  exact handleLink_of_takeOf hl h hp _

theorem exec_timeReq (hl : s.live = true) (hp : s.listenerPort x.listener = some p) (d : Nat) (h : s.takeOf k 3 = some (x, u)) :
    exec (.timeReq k d) s = .next (u.queuePkt p.val
      { type := 4, payload := [BitVec.ofNat 8 (byteAt x.payload 0), BitVec.ofNat 8 s.timeQl, 0, 0] ++
        (stampBytes (s.todNs x.sync) ++ stampBytes (s.todNs d)) }) := by
  obtain ⟨l, rfl⟩ := State.takeIn_eq h
  exact handleLink_of_takeOf hl h hp _

theorem timeResp_leaves (hl : s.live = true) (hp : s.listenerPort x.listener = some p) {q : Nat} {t1 : Int} {a : Nat}
    (h : s.takeOf k 4 = some (x, u)) (hasked : s.crier.asked = some (q, t1, a)) (hport : p = s.crier.timePort)
    (hseq : q = byteAt x.payload 0) (hsoon : s.time ≤ a + 500 * milli) :
    ∃ t, exec (.timeResp k) s = .next t ∧ t.crier.asked = none ∧ t.crier.missed = 0 ∧
      t.crier.theta = meanOf ((stampAt x.payload 4 - t1) - (s.todNs x.sync - stampAt x.payload 14) - (s.cr p.val).asym) 2
        (Config.freeValue s.free) := by
  obtain ⟨l, rfl⟩ := State.takeIn_eq h
  have hasked' : (s.withCrier { s.crier with inbox := l }).crier.asked = some (q, t1, a) := hasked
  have hnow : ¬(p ≠ (s.withCrier { s.crier with inbox := l }).crier.timePort ∨ q ≠ byteAt x.payload 0 ∨
      a + 500 * milli < (s.withCrier { s.crier with inbox := l }).time) :=
    not_or.mpr ⟨not_not.mpr hport, not_or.mpr ⟨not_not.mpr hseq, Nat.not_lt.mpr hsoon⟩⟩
  refine ⟨_, handleLink_of_takeOf hl h hp _, ?_⟩
  rw [hasked']
  dsimp only
  rw [if_neg hnow]
  exact ⟨rfl, rfl, rfl⟩

theorem hostLink_leaves (hl : s.live = true) (h : s.takeOf k 8 = some (x, u)) : ∃ t, exec (.hostLink k) s = .next t ∧
    t.crier.buffer = (if 64 ≤ s.crier.buffer.length then s.crier.buffer
      else s.crier.buffer ++ [⟨0, x.listener, 0, x.strength, x.payload⟩]) := by
  obtain ⟨l, rfl⟩ := State.takeIn_eq h
  refine ⟨_, handle_of_takeOf hl h _, ?_⟩
  by_cases hfull : 64 ≤ s.crier.buffer.length
  · rw [if_pos hfull]
    rw [State.crier_pushHost_of_full _ (by exact hfull)]
    rfl
  · rw [if_neg hfull]
    rw [State.crier_pushHost_of_room _ (by exact hfull)]
    rfl

theorem peerLost_leaves (hl : s.live = true) (hk : k.val < 2) (hpeer : (s.cr k.val).peer ≠ none) :
    ∃ t, exec (.peerLost k) s = .next t ∧ (t.cr k.val).peer = none := by
  obtain ⟨y, hy⟩ := Option.ne_none_iff_exists'.mp hpeer
  refine ⟨evPeer false k.val y (s.updCr k.val fun c => { c with peer := none }), ?_, ?_⟩
  · show execPeerLost k s = _
    unfold execPeerLost
    rw [hy]
    exact happen_of _ _ (by simp [hl, hk])
  · exact (congrArg CrPort.peer (State.cr_of_crier (State.crier_raise _ _ _ _ _) k.val)).trans
      (congrArg CrPort.peer (s.cr_updCr_same k.val _))

end

/-- Settles O46: opcodes by their effects, each happening by the rule of its operation and what that leaves of its port. -/
theorem crierLinkActs : Obligations.CrierLinkActs := by
  refine ⟨crierPortSet_leaves, fun c s hp => ⟨fun hscope => ?send_link, fun hscope => ?send_domain⟩,
    fun c s hp => ⟨fun hb => ?receive_none, fun e r hb => ?receive_oldest⟩, fun s k x => State.queue_queuePkt,
    fun s k hl => ⟨fun hk => ⟨happen_of _ _ (by simp [hl, hk]), happen_of _ _ (by simp [hl, hk])⟩, timeReqTimer_leaves hl,
      exchangeMissed_leaves hl⟩,
    fun s k hl => ⟨fun x r => packetSendStart_leaves hl, fun x => packetCut_leaves hl, packetSendEnd_leaves hl⟩,
    fun s k hl => ⟨listenerTrigger_leaves hl, fun n y hrx => syncQualify_first_leaves hl hrx n y,
      fun n y hrx hsecond => syncQualify_second_leaves hl hrx hsecond n y, qualifyTimeout_first_leaves hl, qualifyTimeout_second_leaves hl⟩,
    packetReceiveEnd_leaves,
    fun s u k x p hl hp => ⟨hello_leaves hl hp, exec_quality hl hp, exec_timeReq hl hp, fun q t1 a => timeResp_leaves hl hp,
      hostLink_leaves hl⟩,
    fun s k => peerLost_leaves⟩
  case send_link => exact exec_of_ok (op := crierSendOp) rfl hp (by unfold crierSendOp sets; dsimp only; rw [if_pos hscope])
  case send_domain => exact exec_of_ok (op := crierSendOp) rfl hp (by unfold crierSendOp sets; dsimp only; rw [if_neg hscope])
  case receive_none =>
    have hword : mkw [(31, 31, 1)] = 0x80000000#32 := by decide
    exact exec_of_ok (op := crierReceiveOp) rfl hp (by unfold crierReceiveOp; dsimp only; rw [hb, ← hword])
  case receive_oldest => exact exec_of_ok (op := crierReceiveOp) rfl hp (by unfold crierReceiveOp; dsimp only; rw [hb])

end Sys2Proof.Machine
end

section
/-!
PROOFS. Rules of the Crier's domain (spec/14 R413 to R416, R420): what changes only the list of members, what changes only what
is sent, the domain state, and requests that end.
-/

set_option Elab.async false

namespace Sys2Proof.Machine

/-! ### Members (R415) -/

/-- The Criers agree but for the list of members. -/
def Crier.SameButMembers (x y : Crier) : Prop := ∃ members, x = { y with members := members }

theorem Crier.SameButMembers.refl (x : Crier) : x.SameButMembers x := ⟨_, rfl⟩

theorem Crier.SameButMembers.trans {x y z : Crier} (h : x.SameButMembers y) (g : y.SameButMembers z) : x.SameButMembers z := by
  obtain ⟨m, rfl⟩ := h
  obtain ⟨m', rfl⟩ := g
  exact ⟨m, rfl⟩

/-- A field other than the members is read alike. -/
theorem Crier.SameButMembers.field {α : Type} (g : Crier → α) (hg : ∀ y members, g { y with members := members } = g y)
    {x y : Crier} (h : x.SameButMembers y) : g x = g y := by
  obtain ⟨m, rfl⟩ := h
  exact hg _ _

section
variable (s : State)

/-- A member that is dropped leaves the list; one that is not there changes nothing. -/
theorem State.crier_dropMember (a : Nat) :
    (s.dropMember a).crier = { s.crier with members := s.crier.members.filter (· != a) } := by
  unfold State.dropMember
  split
  · exact State.crier_raise _ _ _ _ _
  · next h =>
    have hsame : s.crier.members.filter (· != a) = s.crier.members :=
      List.filter_eq_self.mpr fun b hb => bne_iff_ne.mpr fun hba => h (List.contains_iff_mem.mpr (hba ▸ hb))
    rw [hsame]

theorem State.not_mem_dropMember (a : Nat) : a ∉ (s.dropMember a).crier.members := by
  rw [State.crier_dropMember]
  simp

theorem State.tableLost_sameButMembers (n : Nat) (cells : List Nat) : (s.tableLost n cells).crier.SameButMembers s.crier := by
  unfold State.tableLost
  split
  · exact .refl _
  · split
    · refine List.foldlRecOn cells _ (motive := fun t : State => t.crier.SameButMembers s.crier) (.refl _) fun t ht k _ => ?_
      exact Crier.SameButMembers.trans ⟨_, t.crier_dropMember _⟩ ht
    · exact .refl _

theorem State.crier_mergeStripe (kind n : Nat) (bad : List Nat) (f : List Byte → List Byte) :
    (s.mergeStripe kind n bad f).2.crier = s.crier :=
  (State.mergeStripe_keeps (cs := [.free, .clerk, .hier, .tally, .store]) (Keeps.refl s)).crier_eq (by decide)

theorem State.crier_readStripe (kind n : Nat) (bad : List Nat) : (s.readStripe kind n bad).2.crier = s.crier :=
  (State.readStripe_keeps (cs := [.clerk, .hier, .tally, .store]) (Keeps.refl s)).crier_eq (by decide)

theorem State.updRecord_sameButMembers (a : Nat) (f : List Byte → List Byte) : (s.updRecord a f).crier.SameButMembers s.crier := by
  refine (State.tableLost_sameButMembers _ _ _).trans ?_
  rw [State.crier_mergeStripe]
  exact .refl _

theorem State.readRecord_sameButMembers (a : Nat) : (s.readRecord a).2.crier.SameButMembers s.crier := by
  have hread : (s.readStripe 4 (s.recordAt 4 a).1 []).2.crier.SameButMembers s.crier := by
    rw [State.crier_readStripe]
    exact .refl _
  unfold State.readRecord
  dsimp only
  split
  · exact hread
  · dsimp only
    split
    · exact (State.tableLost_sameButMembers _ _ _).trans hread
    · exact hread

theorem State.enrol_sameButMembers (a : Nat) (fp : List Byte) : (s.enrol a fp).crier.SameButMembers s.crier :=
  Crier.SameButMembers.trans ⟨_, rfl⟩ (s.updRecord_sameButMembers a _)

theorem mem_insertNat_self (n : Nat) (l : List Nat) : n ∈ insertNat n l := by
  induction l with
  | nil => exact List.mem_singleton_self n
  | cons x r ih =>
    unfold insertNat
    split
    · exact List.mem_cons_self
    · split
      · next h => exact h ▸ List.mem_cons_self
      · exact List.mem_cons_of_mem _ ih

theorem State.mem_enrol (a : Nat) (fp : List Byte) : a ∈ (s.enrol a fp).crier.members := mem_insertNat_self a _

theorem State.noteSeen_sameButMembers (src : Option Nat) : (s.noteSeen src).crier.SameButMembers s.crier := by
  unfold State.noteSeen
  split
  · split
    · exact s.updRecord_sameButMembers _ _
    · exact .refl _
  · exact .refl _

end

/-! ### Packets sent into the domain (R400, R412, R414) -/

/-- The Criers agree but for what sending changes: the ports, the keys seen, the next numbers. -/
def Crier.SameButSent (x y : Crier) : Prop :=
  ∃ ports seen nextMsg nextObject, x = { y with ports := ports, seen := seen, nextMsg := nextMsg, nextObject := nextObject }

theorem Crier.SameButSent.refl (x : Crier) : x.SameButSent x := ⟨_, _, _, _, rfl⟩

theorem Crier.SameButSent.trans {x y z : Crier} (h : x.SameButSent y) (g : y.SameButSent z) : x.SameButSent z := by
  obtain ⟨p, k, m, o, rfl⟩ := h
  obtain ⟨p', k', m', o', rfl⟩ := g
  exact ⟨p, k, m, o, rfl⟩

/-- A field that sending does not change is read alike. -/
theorem Crier.SameButSent.field {α : Type} (g : Crier → α)
    (hg : ∀ y ports seen nextMsg nextObject, g { y with ports := ports, seen := seen, nextMsg := nextMsg, nextObject := nextObject } = g y)
    {x y : Crier} (h : x.SameButSent y) : g x = g y := by
  obtain ⟨p, k, m, o, rfl⟩ := h
  exact hg _ _ _ _ _

section
variable (s : State)

/-- Queueing a packet changes ports alone. -/
theorem State.crier_queuePkt (k : Nat) (x : CrPkt) : ∃ ports, (s.queuePkt k x).crier = { s.crier with ports := ports } := by
  unfold State.queuePkt
  dsimp only
  split
  · exact ⟨_, rfl⟩
  · split
    · exact ⟨_, rfl⟩
    · split
      · exact ⟨_, rfl⟩
      · exact ⟨_, rfl⟩

theorem State.queuePkt_sameButSent (k : Nat) (x : CrPkt) : (s.queuePkt k x).crier.SameButSent s.crier := by
  obtain ⟨ports, h⟩ := s.crier_queuePkt k x
  exact ⟨ports, _, _, _, h⟩

theorem State.refill_sameButSent (k : Nat) : (s.refill k).crier.SameButSent s.crier := by
  unfold State.refill
  dsimp only
  split
  · exact ⟨_, _, _, _, rfl⟩
  · exact .refl _

theorem State.feedPkts_sameButSent (k : Nat) (xs : List CrPkt) : (s.feedPkts k xs).crier.SameButSent s.crier := by
  unfold State.feedPkts
  split
  · exact (State.refill_sameButSent _ k).trans ⟨_, _, _, _, rfl⟩
  · exact .refl _

theorem State.domainPkt_sameButSent (dst : Option Nat) (inner : Nat) (bs : List Byte) :
    (s.domainPkt dst inner bs).2.crier.SameButSent s.crier :=
  ⟨_, _, _, _, rfl⟩

theorem State.sendDomain_sameButSent (dst : Option Nat) (inner : Nat) (bs : List Byte) :
    (s.sendDomain dst inner bs).crier.SameButSent s.crier :=
  (State.queuePkt_sameButSent _ _ _).trans ((State.queuePkt_sameButSent _ _ _).trans (s.domainPkt_sameButSent dst inner bs))

theorem State.sendDomainObject_sameButSent (dst : Option Nat) (kind : Nat) (bs : List Byte) :
    (s.sendDomainObject dst kind bs).crier.SameButSent s.crier := by
  refine List.foldlRecOn _ _ (motive := fun t : State => t.crier.SameButSent s.crier) ⟨_, _, _, _, rfl⟩ fun t ht part _ => ?_
  exact (State.feedPkts_sameButSent _ _ _).trans ((State.feedPkts_sameButSent _ _ _).trans ((t.domainPkt_sameButSent dst 7 part).trans ht))

theorem State.sendJoin_sameButSent : s.sendJoin.crier.SameButSent s.crier := s.sendDomain_sameButSent _ _ _

theorem State.answerJoin_sameButSent (fp : List Byte) (a result : Nat) : (s.answerJoin fp a result).crier.SameButSent s.crier :=
  s.sendDomain_sameButSent _ _ _

theorem State.joins_answerJoin (fp : List Byte) (a result : Nat) : (s.answerJoin fp a result).crier.joins = s.crier.joins :=
  (s.answerJoin_sameButSent fp a result).field Crier.joins fun _ _ _ _ _ => rfl

end

/-! ### The domain state and requests that end (R416, R420) -/

section
variable (s : State)

theorem State.crier_moveDomain (new a : Nat) : (s.moveDomain new a).crier = { s.crier with state := new, address := a } := by
  unfold State.moveDomain
  dsimp only
  split
  · rfl
  · exact State.crier_raise _ _ _ _ _

theorem State.joins_refuseJoin (j : CrJoin) : (s.refuseJoin j).crier.joins = s.crier.joins.filter fun x => x.id != j.id :=
  State.joins_answerJoin _ _ _ _

/-- An admission ends the request, whatever address it gives. -/
theorem State.joins_admitJoin (j : CrJoin) : (s.admitJoin j).crier.joins = s.crier.joins.filter fun x => x.id != j.id := by
  unfold State.admitJoin
  extract_lets own s0 a crier s1
  have hs0 : s0.crier.SameButMembers s.crier := by
    dsimp only [s0]
    split
    · split
      · exact s.readRecord_sameButMembers _
      · exact .refl _
    · exact .refl _
  have hs1 : s1.crier.joins = s.crier.joins.filter fun x => x.id != j.id :=
    congrArg (List.filter fun x : CrJoin => x.id != j.id) (hs0.field Crier.joins fun _ _ => rfl)
  split
  · rw [State.joins_answerJoin, hs1]
  · rw [State.joins_answerJoin]
    refine (congrArg Crier.joins (State.crier_raise _ _ _ _ _)).trans ?_
    exact ((s1.enrol_sameButMembers a j.fingerprint).field Crier.joins fun _ _ => rfl).trans hs1

theorem State.joins_refuseAll (l : List CrJoin) : ∀ t : State, ∀ x ∈ (l.foldl (fun s j => s.refuseJoin j) t).crier.joins,
    x ∈ t.crier.joins ∧ ∀ j ∈ l, x.id ≠ j.id := by
  induction l with
  | nil => exact fun t x hx => ⟨hx, nofun⟩
  | cons j l ih =>
    intro t x hx
    obtain ⟨hin, hne⟩ := ih (t.refuseJoin j) x hx
    rw [State.joins_refuseJoin, List.mem_filter] at hin
    exact ⟨hin.1, List.forall_mem_cons.mpr ⟨bne_iff_ne.mp hin.2, hne⟩⟩

/-- Leaving the domain ends every request, all membership and the domain state. -/
theorem State.crier_leaveDomain : s.leaveDomain.crier.state = 0 ∧ s.leaveDomain.crier.joins = [] ∧ s.leaveDomain.crier.domain = 0 ∧
    s.leaveDomain.crier.members = [] := by
  refine ⟨congrArg Crier.state (State.crier_moveDomain _ 0 0), ?_, rfl, rfl⟩
  refine (congrArg Crier.joins (State.crier_moveDomain _ 0 0)).trans (List.eq_nil_iff_forall_not_mem.mpr fun x hx => ?_)
  obtain ⟨hin, hne⟩ := State.joins_refuseAll s.crier.joins s x hx
  exact hne x hin rfl

end

end Sys2Proof.Machine
end

section
/-!
PROOFS. The Crier's domain (spec/14 R412 to R416, R420, R423, spec/16 R455, R456): opcodes, segments, DOMAIN packets, the handlers of
the domain's own packets, timers and proofs that fail; and the statement about them.
-/

set_option Elab.async false

namespace Sys2Proof.Machine

/-! ### CRIER_UNIT_SET (R420) -/

/-- The Crier with the settings of CRIER_UNIT_SET. -/
def Crier.settings (c : Cmd) (x : Crier) : Crier :=
  { x with
    role := (c.p 0).fld 31 30, admitAuto := (c.p 0).bit 29, timePort := if (c.p 0).bit 28 then 1 else 0, hops := (c.p 0).fld 27 24,
    report := (c.p 0).fld 15 0, domainId := (c.p 1).toNat, rejoin := if (c.p 2).bit 31 then some ((c.p 2).fld 17 0) else none }

/-- The unit is the registrar of a new domain: its own record is the first. -/
def State.startDomain (c : Cmd) (s : State) : State :=
  (s.withCrier { s.crier with domain := (c.p 1).toNat, address := 0, members := s.scanTable }).enrol 0 ownFp

section
variable {c : Cmd} {s : State} (hp : crierUnitSetOp.passes c s)
include hp

theorem exec_crierUnitSet {new : Bool} (hnew : ((c.p 0).fld 31 30 != s.crier.role || (c.p 1).toNat != s.crier.domainId) = new) :
    exec (.crierUnitSet c) s = .next ((
      let s1 := if new then s.leaveDomain else s
      let s2 := s1.withCrier (s1.crier.settings c)
      if new && (c.p 0).fld 31 30 == 2 then s2.startDomain c else s2).answered c 0x0302 0 []) := by
  subst hnew
  exact exec_of_ok (op := crierUnitSetOp) rfl hp rfl

theorem exec_crierUnitSet_same (hrole : (c.p 0).fld 31 30 = s.crier.role) (hid : (c.p 1).toNat = s.crier.domainId) :
    exec (.crierUnitSet c) s = .next ((s.withCrier (s.crier.settings c)).answered c 0x0302 0 []) :=
  exec_crierUnitSet hp (new := false) (by rw [hrole, hid, bne_self_eq_false, bne_self_eq_false]; rfl)

theorem exec_crierUnitSet_new (hnew : (c.p 0).fld 31 30 ≠ s.crier.role ∨ (c.p 1).toNat ≠ s.crier.domainId)
    (hrole : (c.p 0).fld 31 30 ≠ 2) : exec (.crierUnitSet c) s =
      .next ((s.leaveDomain.withCrier (s.leaveDomain.crier.settings c)).answered c 0x0302 0 []) := by
  rw [exec_crierUnitSet hp (new := true) (by simpa using hnew)]
  dsimp only
  rw [if_neg (by simpa using hrole), if_pos rfl]

theorem exec_crierUnitSet_registrar (hnew : (c.p 0).fld 31 30 ≠ s.crier.role ∨ (c.p 1).toNat ≠ s.crier.domainId)
    (hrole : (c.p 0).fld 31 30 = 2) : exec (.crierUnitSet c) s =
      .next (((s.leaveDomain.withCrier (s.leaveDomain.crier.settings c)).startDomain c).answered c 0x0302 0 []) := by
  rw [exec_crierUnitSet hp (new := true) (by simpa using hnew)]
  dsimp only
  rw [if_pos (by simpa using hrole), if_pos rfl]

end

theorem State.startDomain_sameButMembers (c : Cmd) (s : State) : (s.startDomain c).crier.SameButMembers
    { s.crier with domain := (c.p 1).toNat, address := 0 } :=
  (State.enrol_sameButMembers _ 0 ownFp).trans ⟨_, rfl⟩

/-- CRIER_UNIT_SET's settings, as the Crier `x` holds them. -/
def Crier.hasSettings (c : Cmd) (x : Crier) : Prop :=
  x.role = (c.p 0).fld 31 30 ∧ x.admitAuto = (c.p 0).bit 29 ∧ x.timePort = (if (c.p 0).bit 28 then 1 else 0) ∧
  x.hops = (c.p 0).fld 27 24 ∧ x.report = (c.p 0).fld 15 0 ∧ x.domainId = (c.p 1).toNat ∧
  x.rejoin = (if (c.p 2).bit 31 then some ((c.p 2).fld 17 0) else none)

theorem Crier.hasSettings_settings (c : Cmd) (x : Crier) : (x.settings c).hasSettings c := ⟨rfl, rfl, rfl, rfl, rfl, rfl, rfl⟩

/-- What CRIER_UNIT_SET leaves of the domain, by whether role or domain change. -/
def Crier.afterUnitSet (c : Cmd) (x y : Crier) : Prop :=
  ((c.p 0).fld 31 30 = x.role → (c.p 1).toNat = x.domainId → y.state = x.state ∧ y.domain = x.domain ∧ y.members = x.members ∧
    y.joins = x.joins) ∧
  ((c.p 0).fld 31 30 ≠ x.role ∨ (c.p 1).toNat ≠ x.domainId → y.state = 0 ∧ y.joins = [] ∧
    ((c.p 0).fld 31 30 ≠ 2 → y.domain = 0 ∧ y.members = []) ∧
    ((c.p 0).fld 31 30 = 2 → y.domain = (c.p 1).toNat ∧ y.address = 0 ∧ 0 ∈ y.members))

theorem crierUnitSet_leaves (c : Cmd) (s : State) (hp : crierUnitSetOp.passes c s) : ∃ u : State,
    exec (.crierUnitSet c) s = .next (u.answered c 0x0302 0 []) ∧ u.crier.hasSettings c ∧ s.crier.afterUnitSet c u.crier := by
  obtain ⟨hstate, hjoins, hdomain, hmembers⟩ := s.crier_leaveDomain
  by_cases hnew : (c.p 0).fld 31 30 ≠ s.crier.role ∨ (c.p 1).toNat ≠ s.crier.domainId
  · have hold : ∀ {P : Prop}, (c.p 0).fld 31 30 = s.crier.role → (c.p 1).toNat = s.crier.domainId → P :=
      fun hrole hid => (hnew.elim (· hrole) (· hid)).elim
    by_cases hrole : (c.p 0).fld 31 30 = 2
    · obtain ⟨m, hu⟩ := (s.leaveDomain.withCrier (s.leaveDomain.crier.settings c)).startDomain_sameButMembers c
      refine ⟨_, exec_crierUnitSet_registrar hp hnew hrole, ?_, hold, fun _ => ⟨?_, ?_, absurd hrole, fun _ => ⟨?_, ?_, State.mem_enrol _ _ _⟩⟩⟩
      · rw [hu]
        exact Crier.hasSettings_settings c s.leaveDomain.crier
      · exact (congrArg Crier.state hu).trans hstate
      · exact (congrArg Crier.joins hu).trans hjoins
      · exact congrArg Crier.domain hu
      · exact congrArg Crier.address hu
    · exact ⟨_, exec_crierUnitSet_new hp hnew hrole, Crier.hasSettings_settings c s.leaveDomain.crier, hold,
        fun _ => ⟨hstate, hjoins, fun _ => ⟨hdomain, hmembers⟩, fun hyes => absurd hyes hrole⟩⟩
  · obtain ⟨hrole, hid⟩ := not_or.mp hnew
    exact ⟨_, exec_crierUnitSet_same hp (not_not.mp hrole) (not_not.mp hid), Crier.hasSettings_settings c s.crier,
      fun _ _ => ⟨rfl, rfl, rfl, rfl⟩, fun hyes => absurd hyes hnew⟩

/-! ### CRIER_ADMIT (R423) -/

section
variable {c : Cmd} {s : State} (hp : crierAdmitOp.passes c s)
include hp

theorem exec_crierAdmit_remove (hd : (c.p 0).fld 31 30 = 3) : exec (.crierAdmit c) s =
    .next (((s.updRecord ((c.p 0).fld 17 0) fun _ => List.replicate 256 0).dropMember ((c.p 0).fld 17 0)).answered c 0x0305 0 []) :=
  exec_of_ok (op := crierAdmitOp) rfl hp (by unfold crierAdmitOp sets; dsimp only; rw [if_pos hd])

/-- An answer to a request names one that waits. -/
theorem find_of_crierAdmit_passes (hd : (c.p 0).fld 31 30 ≠ 3) :
    ∃ j, s.crier.joins.find? (fun j => j.decide_ && j.id == (c.p 1).fld 15 0) = some j := by
  have hcheck : need (if (c.p 0).fld 31 30 = 3 then s.crier.members.contains ((c.p 0).fld 17 0)
      else s.crier.joins.any fun j => j.decide_ && j.id == (c.p 1).fld 15 0) ⟨stState, 0xFFFF, 0x35⟩ = none :=
    eq_none_of_firstRej (OpDef.check_of_passes hp) _ (by simp [stateErr])
  have hany := of_need_eq_none hcheck
  rw [if_neg hd] at hany
  exact Option.isSome_iff_exists.mp (List.find?_isSome.mpr (List.any_eq_true.mp hany))

theorem exec_crierAdmit_answer (hd : (c.p 0).fld 31 30 ≠ 3) {j : CrJoin}
    (hj : s.crier.joins.find? (fun j => j.decide_ && j.id == (c.p 1).fld 15 0) = some j) :
    exec (.crierAdmit c) s = .next ((if (c.p 0).fld 31 30 = 1 then s.admitJoin j else s.refuseJoin j).answered c 0x0305 0 []) :=
  exec_of_ok (op := crierAdmitOp) rfl hp (by unfold crierAdmitOp sets; dsimp only; rw [if_neg hd, hj])

end

theorem crierAdmit_leaves (c : Cmd) (s : State) (hp : crierAdmitOp.passes c s) :
    ∃ u : State, exec (.crierAdmit c) s = .next (u.answered c 0x0305 0 []) ∧
    ((c.p 0).fld 31 30 = 3 → (c.p 0).fld 17 0 ∉ u.crier.members) ∧
    ((c.p 0).fld 31 30 ≠ 3 → u.crier.joins = s.crier.joins.filter fun j => j.id != (c.p 1).fld 15 0) := by
  by_cases hd : (c.p 0).fld 31 30 = 3
  · exact ⟨_, exec_crierAdmit_remove hp hd, fun _ => State.not_mem_dropMember _ _, absurd hd⟩
  · obtain ⟨j, hj⟩ := find_of_crierAdmit_passes hp hd
    have hid : j.id = (c.p 1).fld 15 0 := by
      have hfound := List.find?_some hj
      simp only [Bool.and_eq_true, beq_iff_eq] at hfound
      exact hfound.2
    refine ⟨_, exec_crierAdmit_answer hp hd hj, fun hyes => absurd hyes hd, fun _ => ?_⟩
    split
    · rw [State.joins_admitJoin, hid]
    · rw [State.joins_refuseJoin, hid]

/-! ### Segments (R412) -/

section
variable {s u : State} {k : Fin 4} {x : CrIn}

theorem exec_segment (hl : s.live = true)
    (h : s.takeIn (fun x => x.listener == k.val && (x.type == 7 || x.type == 0x107)) = some (x, u)) (hlink : x.type = 7) :
    exec (.segment k) s = .next (u.takePart x.listener none [] x.payload) := by
  show execSegment k s = _
  unfold execSegment
  rw [h]
  dsimp only
  rw [if_pos hlink]
  exact happen_of _ _ hl

/-- The first segment of an object of several waits for the others. -/
theorem State.takePart_first {l : Nat} {b : List Byte} (hnone : (s.cr l).objects = []) (hcount : 2 ≤ leAt b 4 2)
    (hsize : (b.drop 8).length ≤ 16384) : s.takePart l none [] b = s.setObjects l [⟨none, [], byteAt b 0, byteAt b 1,
      leAt b 4 2, [(leAt b 2 2, some (b.drop 8))], s.time⟩] := by
  have hset : Tab.set none ([] : Tab (Option (List Byte))) (leAt b 2 2) (some (b.drop 8)) = [(leAt b 2 2, some (b.drop 8))] :=
    if_neg (Option.some_ne_none _)
  have hmissing : ((List.range (leAt b 4 2)).all fun i => (Tab.get none [(leAt b 2 2, some (b.drop 8))] i).isSome) = false := by
    have hother : ∀ i, i ≠ leAt b 2 2 → ¬(Tab.get none [(leAt b 2 2, some (b.drop 8))] i).isSome = true := fun i hi => by
      rw [Tab.get, if_neg hi]
      exact Bool.false_ne_true
    by_cases hfirst : leAt b 2 2 = 0
    · exact List.all_eq_false.mpr ⟨1, List.mem_range.mpr (by omega), hother 1 (by omega)⟩
    · exact List.all_eq_false.mpr ⟨0, List.mem_range.mpr (by omega), hother 0 (by omega)⟩
  have hsum : (([(leAt b 2 2, some (b.drop 8))] : Tab (Option (List Byte))).map fun e => (e.2.getD []).length).sum = (b.drop 8).length :=
    Nat.add_zero _
  unfold State.takePart
  dsimp only
  rw [hnone, List.find?_nil, Option.getD_none, hset]
  dsimp only
  rw [hsum, if_neg (Nat.not_lt.mpr hsize), hmissing, if_neg (by decide), if_neg (by decide), if_neg (by decide)]
  rfl

theorem objectTimeout_leaves {o : CrObject} {r : List CrObject} (hl : s.live = true) (ho : (s.cr k.val).objects = o :: r) :
    ∃ t, exec (.objectTimeout k) s = .next t ∧ (t.cr k.val).objects = r ∧
      t.counter (crCtr k.val 11) = (s.counter (crCtr k.val 11) + 1) % 2 ^ 48 := by
  refine ⟨(s.setObjects k.val r).crReject k.val, ?_, ?_, State.counter_bump_same _ _ _⟩
  · show execObjectTimeout k s = _
    unfold execObjectTimeout
    rw [ho]
    exact happen_of _ _ hl
  · show ((s.updCr k.val fun c => { c with objects := r }).cr k.val).objects = r
    rw [State.cr_updCr_same]

end

/-! ### DOMAIN packets (R413, R414) -/

/-- Where a DOMAIN packet says it comes from. -/
def domainSrc (b : List Byte) : Option Nat := if byteAt b 10 / 32 % 2 = 1 then some (leAt b 4 3 % 2 ^ 18) else none

/-- A DOMAIN packet is addressed to this unit alone. -/
def State.domainMine (s : State) (b : List Byte) : Bool := s.inDomain && leAt b 7 3 % 2 ^ 18 == s.crier.address

/-- A DOMAIN packet is a broadcast. -/
def domainCast (b : List Byte) : Bool := byteAt b 10 / 16 % 2 == 1

/-- A DOMAIN packet's key is remembered, its sender noted, and the packet delivered where it is for this unit. -/
def State.domainHeard (c : CrIn) (s : State) : State :=
  let s1 := (s.seeKey (domainKey c.payload)).noteSeen (domainSrc c.payload)
  if s.domainMine c.payload || domainCast c.payload then s1.deliverDomain c c.payload (domainSrc c.payload) else s1

/-- A DOMAIN packet as it is relayed, with one hop less. -/
def relayedPkt (b : List Byte) : CrPkt := { type := 0x10, payload := b.set 10 (BitVec.ofNat 8 (byteAt b 10 - 1)), relayed := true }

/-- A packet that came over a listener goes to a line port, unless it came from there. -/
def State.relayTo (l : Nat) (y : CrPkt) (s : State) (q : Nat) : State :=
  if (s.listenerPort l).map (·.val) = some q then s else s.queuePkt q y

/-- A DOMAIN packet that is taken: heard, and relayed where it may go on. -/
def State.domainTaken (c : CrIn) (s : State) : State :=
  if s.inDomain && !(s.domainMine c.payload && !domainCast c.payload) && decide (1 < byteAt c.payload 10 % 16) then
    [0, 1].foldl (State.relayTo c.listener (relayedPkt c.payload)) (s.domainHeard c)
  else s.domainHeard c

/-- The key of a DOMAIN packet has been seen within the last minute. -/
def State.seenLately (s : State) (b : List Byte) : Bool :=
  s.crier.seen.any fun e => e.1 == domainKey b && decide (s.time < e.2 + 60 * second)

section
variable {s u : State} {k : Fin 4} {x : CrIn}

theorem exec_domain (hl : s.live = true) (h : s.takeOf k 0x10 = some (x, u)) (hlen : 22 ≤ x.payload.length) : exec (.domain k) s =
    .next (if !s.acceptsDomain x.payload || s.seenLately x.payload then u else u.domainTaken x) := by
  obtain ⟨l, rfl⟩ := State.takeIn_eq h
  refine (handle_of_takeOf hl h _).trans ?_
  dsimp only
  rw [State.padTo_of_le _ (by split <;> omega)]
  rfl

theorem exec_domain_dropped (hl : s.live = true) (h : s.takeOf k 0x10 = some (x, u)) (hlen : 22 ≤ x.payload.length)
    (hdrop : s.acceptsDomain x.payload = false ∨ s.seenLately x.payload = true) : exec (.domain k) s = .next u := by
  rw [exec_domain hl h hlen, if_pos (by rcases hdrop with h | h <;> simp [h])]

theorem exec_domain_taken (hl : s.live = true) (h : s.takeOf k 0x10 = some (x, u)) (hlen : 22 ≤ x.payload.length)
    (haccept : s.acceptsDomain x.payload = true) (hfresh : s.seenLately x.payload = false) :
    exec (.domain k) s = .next (u.domainTaken x) := by
  rw [exec_domain hl h hlen, if_neg (by simp [haccept, hfresh])]

variable (s x)

/-- Delivery changes the receive buffer and the packets accepted alone. -/
theorem State.crier_deliverDomain (b : List Byte) (src : Option Nat) : ∃ buffer inbox,
    (s.deliverDomain x b src).crier = { s.crier with buffer := buffer, inbox := inbox } := by
  unfold State.deliverDomain
  dsimp only
  split
  · by_cases hfull : 64 ≤ s.crier.buffer.length
    · exact ⟨_, _, State.crier_pushHost_of_full _ hfull⟩
    · exact ⟨_, _, State.crier_pushHost_of_room _ hfull⟩
  · split
    · refine ⟨s.crier.buffer, s.crier.inbox ++ [{ x with
        type := 0x100 + innerOf b, payload := (s.padTo (14 + leastInner src.isSome (innerOf b)) b).1, src := src }], ?_⟩
      rw [State.withCrier_crier, State.crier_padTo]
    · exact ⟨_, _, rfl⟩

/-- What hearing a DOMAIN packet leaves of the Crier: all but the keys seen, the members, the buffer and the packets accepted. -/
theorem State.crier_domainHeard : ∃ members buffer inbox, (s.domainHeard x).crier =
    { s.crier with seen := ((domainKey x.payload, s.time) :: s.crier.seen).take 1024, members := members, buffer := buffer,
                   inbox := inbox } := by
  obtain ⟨members, hnote⟩ := (s.seeKey (domainKey x.payload)).noteSeen_sameButMembers (domainSrc x.payload)
  unfold State.domainHeard
  dsimp only
  split
  · obtain ⟨buffer, inbox, hdel⟩ := ((s.seeKey (domainKey x.payload)).noteSeen (domainSrc x.payload)).crier_deliverDomain x x.payload
      (domainSrc x.payload)
    exact ⟨members, buffer, inbox, by rw [hdel, hnote]; rfl⟩
  · exact ⟨members, _, _, hnote⟩

theorem State.crier_relayTo (l : Nat) (y : CrPkt) (q : Nat) : ∃ ports, (s.relayTo l y q).crier = { s.crier with ports := ports } := by
  unfold State.relayTo
  split
  · exact ⟨_, rfl⟩
  · exact s.crier_queuePkt q y

/-- Relaying changes ports alone. -/
theorem State.crier_domainTaken : ∃ ports, (s.domainTaken x).crier = { (s.domainHeard x).crier with ports := ports } := by
  unfold State.domainTaken
  split
  · obtain ⟨p0, h0⟩ := (s.domainHeard x).crier_relayTo x.listener (relayedPkt x.payload) 0
    obtain ⟨p1, h1⟩ := ((s.domainHeard x).relayTo x.listener (relayedPkt x.payload) 0).crier_relayTo x.listener (relayedPkt x.payload) 1
    exact ⟨p1, h1.trans (by rw [h0])⟩
  · exact ⟨_, rfl⟩

variable {s x}

theorem State.cr_relayTo_of_ne {l : Nat} {y : CrPkt} {q j : Nat} (h : j ≠ q) : (s.relayTo l y q).cr j = s.cr j := by
  unfold State.relayTo
  split
  · rfl
  · exact s.cr_queuePkt_of_ne q y h

/-- What a listener's packets count as depends on the monitors' ports alone. -/
theorem State.listenerPort_of_monitors {t : State} (h : ∀ j, 2 ≤ j → t.cr j = s.cr j) (l : Nat) : t.listenerPort l = s.listenerPort l := by
  unfold State.listenerPort
  split
  · rfl
  · split
    · rfl
    · rw [h l (by omega)]

theorem State.queue_relayTo {l : Nat} {b : List Byte} {q : Nat} (hfrom : (s.listenerPort l).map (·.val) ≠ some q)
    (htx : (s.cr q).txEnable = true) (hroom : (s.cr q).queue.length < 32) :
    ((s.relayTo l (relayedPkt b) q).cr q).queue = (s.cr q).queue ++ [relayedPkt b] := by
  rw [State.relayTo, if_neg hfrom, State.queue_queuePkt htx hroom]
  rfl

theorem State.cr_domainHeard (q : Nat) : (s.domainHeard x).cr q = s.cr q := by
  obtain ⟨m, b, i, h⟩ := s.crier_domainHeard x
  rw [State.cr, h]
  rfl

/-- A broadcast with hops left goes to every line port with room but the one that it came from. -/
theorem State.queue_domainTaken {q : Nat} (hq : q < 2) (hin : s.inDomain = true) (hcast : byteAt x.payload 10 / 16 % 2 = 1)
    (hhops : 1 < byteAt x.payload 10 % 16) (hfrom : (s.listenerPort x.listener).map (·.val) ≠ some q)
    (htx : (s.cr q).txEnable = true) (hroom : (s.cr q).queue.length < 32) :
    ((s.domainTaken x).cr q).queue = (s.cr q).queue ++ [relayedPkt x.payload] := by
  have hgo : (s.inDomain && !(s.domainMine x.payload && !domainCast x.payload) && decide (1 < byteAt x.payload 10 % 16)) = true := by
    simp [hin, domainCast, hcast, hhops]
  have hheard : (s.domainHeard x).cr q = s.cr q := State.cr_domainHeard q
  rw [State.domainTaken, if_pos hgo, ← hheard]
  rw [← State.listenerPort_of_monitors fun j _ => State.cr_domainHeard (x := x) j] at hfrom
  rw [← hheard] at htx hroom
  obtain rfl | rfl : q = 0 ∨ q = 1 := by omega
  · exact (congrArg CrPort.queue (State.cr_relayTo_of_ne (by decide))).trans (State.queue_relayTo hfrom htx hroom)
  · have hother : ∀ j, j ≠ 0 → ((s.domainHeard x).relayTo x.listener (relayedPkt x.payload) 0).cr j = (s.domainHeard x).cr j :=
      fun j => State.cr_relayTo_of_ne
    rw [← State.listenerPort_of_monitors fun j hj => hother j (by omega)] at hfrom
    rw [← hother 1 (by decide)] at htx hroom ⊢
    exact State.queue_relayTo hfrom htx hroom

/-- A broadcast for the host goes to the buffer where there is room. -/
theorem State.buffer_domainTaken (hinner : innerOf x.payload = 5) (hcast : byteAt x.payload 10 / 16 % 2 = 1)
    (hroom : s.crier.buffer.length < 64) : (s.domainTaken x).crier.buffer = s.crier.buffer ++
      [⟨1, x.listener, (domainSrc x.payload).getD 0, x.strength, x.payload.drop 14⟩] := by
  obtain ⟨ports, htaken⟩ := s.crier_domainTaken x
  have hnote := ((s.seeKey (domainKey x.payload)).noteSeen_sameButMembers (domainSrc x.payload)).field Crier.buffer fun _ _ => rfl
  have hheard : s.domainHeard x = ((s.seeKey (domainKey x.payload)).noteSeen (domainSrc x.payload)).pushHost
      ⟨1, x.listener, (domainSrc x.payload).getD 0, x.strength, x.payload.drop 14⟩ := by
    unfold State.domainHeard State.deliverDomain
    dsimp only
    rw [if_pos (by simp [domainCast, hcast]), if_pos hinner]
  rw [htaken, hheard, State.crier_pushHost_of_room _ (by rw [hnote]; exact Nat.not_le.mpr hroom)]
  exact congrArg (· ++ [_]) hnote

theorem domain_taken_leaves (hl : s.live = true) (h : s.takeOf k 0x10 = some (x, u)) (hlen : 22 ≤ x.payload.length)
    (haccept : s.acceptsDomain x.payload = true) (hfresh : s.seenLately x.payload = false) :
    ∃ t, exec (.domain k) s = .next t ∧ t.crier.seen = ((domainKey x.payload, s.time) :: s.crier.seen).take 1024 ∧
      (innerOf x.payload = 5 → byteAt x.payload 10 / 16 % 2 = 1 → s.crier.buffer.length < 64 → ∃ e, t.crier.buffer = s.crier.buffer ++ [e] ∧
        e.kind = 1 ∧ e.bytes = x.payload.drop 14) ∧
      (∀ q, q < 2 → s.inDomain = true → byteAt x.payload 10 / 16 % 2 = 1 → 1 < byteAt x.payload 10 % 16 →
        (s.listenerPort x.listener).map (·.val) ≠ some q → (s.cr q).txEnable = true → (s.cr q).queue.length < 32 →
        (t.cr q).queue = (s.cr q).queue ++
          [{ type := 0x10, payload := x.payload.set 10 (BitVec.ofNat 8 (byteAt x.payload 10 - 1)), relayed := true }]) := by
  refine ⟨_, exec_domain_taken hl h hlen haccept hfresh, ?_⟩
  obtain ⟨l, rfl⟩ := State.takeIn_eq h
  refine ⟨?_, fun hinner hcast hroom => ⟨_, State.buffer_domainTaken hinner hcast hroom, rfl, rfl⟩,
    fun q hq hin hcast hhops hfrom htx hroom => State.queue_domainTaken hq hin hcast hhops hfrom htx hroom⟩
  obtain ⟨ports, htaken⟩ := (s.withCrier { s.crier with inbox := l }).crier_domainTaken x
  obtain ⟨members, buffer, inbox, hheard⟩ := (s.withCrier { s.crier with inbox := l }).crier_domainHeard x
  rw [htaken, hheard]
  rfl

end

/-! ### The domain's own packets (R413 to R416) -/

section
variable {s u : State} {k : Fin 4} {x : CrIn}

theorem State.joins_challenge (s : State) (l : Nat) (i : Option Nat) (fp : List Byte) :
    (s.challenge l none i fp).crier.joins = s.crier.joins :=
  (State.sendDomainObject_sameButSent _ _ _ _).field Crier.joins fun _ _ _ _ _ => rfl

theorem State.challenges_challenge (s : State) (l : Nat) (i : Option Nat) (fp : List Byte) : (s.challenge l none i fp).hall.challenges =
    s.hall.challenges ++ [⟨l, i, fp, leBytes 32 (Config.freeValue s.free), none, none, none⟩] :=
  congrArg Hall.challenges ((State.sendDomainObject_keeps (cs := [.crier]) (Keeps.refl _)).hall_eq (by decide))

theorem joinReq_leaves (hl : s.live = true) (h : s.takeOf k 0x101 = some (x, u)) (hrole : s.crier.role = 2) (hsrc : x.src = none)
    (hnew : s.crier.joins.any (fun j => j.fpShort == (x.payload.drop 14).take 8) = false) : ∃ t, exec (.joinReq k) s = .next t ∧
    t.crier.joins = s.crier.joins ++ [⟨x.listener, (x.payload.drop 14).take 8, [],
      if byteAt x.payload 25 % 2 = 1 then some (leAt x.payload 22 3 % 2 ^ 18) else none, false, s.crier.nextReq⟩] ∧
    t.hall.challenges = s.hall.challenges ++ [⟨x.listener, some s.crier.nextReq, (x.payload.drop 14).take 8,
      leBytes 32 (Config.freeValue s.free), none, none, none⟩] := by
  obtain ⟨l, rfl⟩ := State.takeIn_eq h
  have hgo : ¬((s.withCrier { s.crier with inbox := l }).crier.role ≠ 2 ∨ x.src.isSome = true ∨
      (s.withCrier { s.crier with inbox := l }).crier.joins.any (fun j => j.fpShort == (x.payload.drop 14).take 8) = true) :=
    not_or.mpr ⟨not_not.mpr hrole, not_or.mpr ⟨by simp [hsrc], fun hany => Bool.false_ne_true (hnew.symm.trans hany)⟩⟩
  exact ⟨_, (handle_of_takeOf hl h _).trans (congrArg Host.Outcome.next (if_neg hgo)), State.joins_challenge _ _ _ _,
    State.challenges_challenge _ _ _ _⟩

theorem joinAnswer_leaves (hl : s.live = true) (h : s.takeOf k 0x102 = some (x, u)) (hrole : s.crier.role = 1) (hstate : s.crier.state = 1)
    (hown : (x.payload.drop 14).take 8 = ownFpShort) : ∃ t, exec (.joinAnswer k) s = .next t ∧
    (byteAt x.payload 25 = 0 → t.crier.state = 2 ∧ t.crier.address = leAt x.payload 22 3 % 2 ^ 18) ∧
    (byteAt x.payload 25 ≠ 0 → t.crier.state = 0 ∧ t.crier.domain = 0 ∧ t.crier.waiting = true) := by
  obtain ⟨l, rfl⟩ := State.takeIn_eq h
  have hgo : ¬((s.withCrier { s.crier with inbox := l }).crier.role ≠ 1 ∨ (s.withCrier { s.crier with inbox := l }).crier.state ≠ 1 ∨
      (x.payload.drop 14).take 8 ≠ ownFpShort) :=
    not_or.mpr ⟨not_not.mpr hrole, not_or.mpr ⟨not_not.mpr hstate, not_not.mpr hown⟩⟩
  refine ⟨_, (handle_of_takeOf hl h _).trans (congrArg Host.Outcome.next (if_neg hgo)), ?_⟩
  by_cases hres : byteAt x.payload 25 = 0
  · rw [if_pos hres, State.crier_moveDomain]
    exact ⟨fun _ => ⟨rfl, rfl⟩, fun hno => absurd hres hno⟩
  · rw [if_neg hres]
    exact ⟨fun hyes => absurd hyes hres, fun _ => ⟨congrArg Crier.state (State.crier_moveDomain _ 0 0), rfl, rfl⟩⟩

theorem exec_report {a : Nat} (hl : s.live = true) (h : s.takeOf k 0x103 = some (x, u)) (hsrc : x.src = some a) (hrole : s.crier.role = 2)
    (hmember : s.crier.members.contains a = true) : exec (.report k) s = .next (u.updRecord a (putAt 68
      (leBytes 4 (neighbour (leAt (x.payload.drop 14) 0 3)) ++ leBytes 4 (neighbour (leAt (x.payload.drop 14) 3 3)) ++
        leBytes 4 (byteAt (x.payload.drop 14) 6 * 256 + byteAt (x.payload.drop 14) 7)))) := by
  obtain ⟨l, rfl⟩ := State.takeIn_eq h
  refine (handle_of_takeOf hl h _).trans (congrArg Host.Outcome.next ?_)
  rw [hsrc]
  exact if_pos ⟨hrole, hmember⟩

theorem beacon_leaves (hl : s.live = true) (h : s.takeOf k 0x104 = some (x, u)) (hrole : s.crier.role = 1) (hstate : s.crier.state = 0)
    (hready : s.crier.waiting = false) : ∃ t, exec (.beacon k) s = .next t ∧ t.crier.state = 1 ∧ t.crier.domain = leAt x.payload 0 4 := by
  obtain ⟨l, rfl⟩ := State.takeIn_eq h
  have hmember : ¬(s.withCrier { s.crier with inbox := l }).crier.role = 2 := fun h2 => absurd (hrole.symm.trans h2) (by decide)
  have hgo : (s.withCrier { s.crier with inbox := l }).crier.role = 1 ∧ (s.withCrier { s.crier with inbox := l }).crier.state = 0 ∧
      (s.withCrier { s.crier with inbox := l }).crier.waiting = false := ⟨hrole, hstate, hready⟩
  refine ⟨_, (handle_of_takeOf hl h _).trans (congrArg Host.Outcome.next ((if_neg hmember).trans (if_pos hgo))), ?_, ?_⟩
  · exact ((State.sendJoin_sameButSent _).field Crier.state fun _ _ _ _ _ => rfl).trans (congrArg Crier.state (State.crier_moveDomain _ 1 0))
  · exact ((State.sendJoin_sameButSent _).field Crier.domain fun _ _ _ _ _ => rfl).trans (congrArg Crier.domain (State.crier_moveDomain _ 1 0))

/-! ### Requests and proofs that end (R416, R456) -/

theorem admitTimeout_leaves {j : CrJoin} (hl : s.live = true) (hj : s.crier.joins.find? (·.decide_) = some j) :
    ∃ t, exec .admitTimeout s = .next t ∧ t.crier.joins = s.crier.joins.filter fun x => x.id != j.id := by
  refine ⟨s.refuseJoin j, ?_, s.joins_refuseJoin j⟩
  show execAdmitTimeout s = _
  unfold execAdmitTimeout
  rw [hj]
  exact happen_of _ _ hl

theorem State.hall_raiseAtMost (s : State) (most key code sev ha data : Nat) : (s.raiseAtMost most key code sev ha data).hall = s.hall :=
  (State.raiseAtMost_keeps (cs := [.clerk, .hier, .tally]) (Keeps.refl s)).hall_eq (by decide)

theorem State.hall_proofFailed (s : State) (c : Challenge) (cause : Nat) : (s.proofFailed c cause).hall = { s.hall with
    challenges := dropFirst (· == c) s.hall.challenges, proofsFailed := sat 65535 (s.hall.proofsFailed + 1) } := by
  unfold State.proofFailed
  dsimp only
  rw [State.hall_raiseAtMost]
  split <;> rfl

theorem proofTimeout_leaves {c : Challenge} {r : List Challenge} (hl : s.live = true) (hc : s.hall.challenges = c :: r) :
    ∃ t, exec .proofTimeout s = .next t ∧ t.hall.challenges = r ∧ t.hall.proofsFailed = sat 65535 (s.hall.proofsFailed + 1) := by
  refine ⟨s.proofFailed c 4, ?_, ?_, ?_⟩
  · show execProofTimeout s = _
    unfold execProofTimeout
    rw [hc]
    exact happen_of _ _ hl
  · rw [State.hall_proofFailed, hc]
    simp [dropFirst, pick]
  · rw [State.hall_proofFailed]

end

/-- Settles O47: opcodes by their effects, each handler and timer by the rule of its operation and what that leaves of the domain. -/
theorem crierDomainActs : Obligations.CrierDomainActs := by
  refine ⟨fun c s hp => ?unit, crierAdmit_leaves, fun c s hp => exec_of_ok (op := crierMemberReadOp) rfl hp rfl,
    fun s u k x hl h hlink => ⟨exec_segment hl h hlink, ?first⟩, fun s k o r => objectTimeout_leaves,
    fun s u k x hl h hlen => ⟨exec_domain_dropped hl h hlen, domain_taken_leaves hl h hlen⟩,
    fun s u k x => joinReq_leaves, fun s u k x => joinAnswer_leaves, fun s u k x a => exec_report, fun s u k x => beacon_leaves,
    fun s hl => ⟨fun hrole => happen_of _ _ (by simp [hl, hrole]), fun hrole hstate => happen_of _ _ (by simp [hl, hrole, hstate]),
      fun hrole hstate => happen_of _ _ (by simp [hl, hrole, hstate]), fun j => admitTimeout_leaves hl, ⟨_, happen_of _ _ hl, rfl⟩,
      fun c r => proofTimeout_leaves hl⟩⟩
  case unit =>
    obtain ⟨u, he, ⟨hrole, hauto, htime, hhops, hreport, hid, hrejoin⟩, hsame, hnew⟩ := crierUnitSet_leaves c s hp
    exact ⟨u, he, hrole, hauto, htime, hhops, hreport, hid, hrejoin, hsame, hnew⟩
  case first =>
    obtain ⟨l, rfl⟩ := State.takeIn_eq h
    intro hnone hcount hsize
    rw [State.takePart_first (by exact hnone) hcount hsize]
    exact congrArg CrPort.objects (State.cr_updCr_same _ _ _)

end Sys2Proof.Machine
end
